-- ==== Sys2Proof/Word.lean ====
section
/-!
DEFINITION. Word.lean: the word types of the module and the sparse stores its state is made of.
Register words are 32 bits (spec/01_architecture.md, BAR0 block map); cycle numbers are 64 bits (R83);
an instruction word is 112 bits (spec/02_boolean_processor.md, "The instruction word").
-/
namespace Sys2Proof

/-- One BAR0 register word. -/
abbrev Word32 := BitVec 32

/-- One design memory word, one HBM word, or one cycle number. -/
abbrev Word64 := BitVec 64

/-- One instruction word of a tier: 108 payload bits and 4 parity bits. -/
abbrev InstrWord := BitVec 112

/-- One byte. -/
abbrev Byte := BitVec 8

/-- A sparse store: pairs of a key and what it holds, in rising order of the keys, with no pair whose
content is what an unlisted key reads as. The operations over it stand in Machine/Ops.lean. -/
abbrev SMap (α : Type) := List (Nat × α)

/-- Bits `[lo + w - 1 : lo]` of a register word, as a number. -/
def bitsOf (x : Word32) (lo w : Nat) : Nat := (x.toNat >>> lo) % 2 ^ w

/-- The register word with bits `[lo + w - 1 : lo]` replaced by the low `w` bits of `v`. -/
def withBits (x : Word32) (lo w v : Nat) : Word32 :=
  (x &&& ~~~(BitVec.ofNat 32 ((2 ^ w - 1) <<< lo))) ||| BitVec.ofNat 32 ((v % 2 ^ w) <<< lo)

/-- A Boolean as a number: 1 for true. -/
def b2n (b : Bool) : Nat := if b then 1 else 0

/-- The low 32 bits of a 64-bit value. -/
def lo32 (x : Word64) : Word32 := x.setWidth 32

/-- The high 32 bits of a 64-bit value. -/
def hi32 (x : Word64) : Word32 := (x >>> 32).setWidth 32

/-- Two register words as one 64-bit value. -/
def cat64 (hi lo : Word32) : Word64 := (hi ++ lo)

end Sys2Proof
end

