-- ==== Sys2Proof/Payload.lean ====
section
/-!
DEFINITION. Payload.lean: the operand types of the commands, and the plain enumerations that both the
commands and the state use. Each follows a table or rule of spec/ that its docstring names.
-/
namespace Sys2Proof

/-! ### Resets (spec/16, 19) -/


/-- What starts a cold reset: power comes on, or POR_N is low for `ns` nanoseconds or more (R418, R475). -/
inductive ColdCause | powerOn | porLow (ns : Nat)
  deriving DecidableEq, Repr

/-! ### Clusters and the cycle controller (spec/02, 03, 04) -/

/-- Where an instruction word stands: cluster, BP and slot. -/
structure Place where
  cluster : BitVec 8
  bp : BitVec 8
  slot : BitVec 11
  deriving DecidableEq, Repr

/-- The port on which a commit-wave message arrives: a lane port, or the way inside the cycle controller
between the conductor function and the conductor's own module (R131). -/
inductive WavePort | lane (p : BitVec 4) | internal
  deriving DecidableEq, Repr

/-! ### Zheol images (spec/05_compiler_contract.md) -/

/-- One PATCH_INSTR entry: location, word, and the two bytes after the word (R169). -/
structure PatchEntry where
  loc : Word32
  word : InstrWord
  rest : BitVec 16
  deriving DecidableEq, Repr

/-- The plaintext of an image's sections, as the stored chunks decrypt to it; LoadCheck lays it out in bytes (R158, R159, R169). The large fixed-format sections
are sparse: a word not listed is the no-operation word of R36, a bit, nibble, 16-byte record or bank word not
listed is zero. Keys: INSTR by the location form of R169 (`2^24*c + 2^16*p + s`), STATE_INIT `65536*c + b`,
PRED `4096*c + i`, CLUSTER_CFG `c`, BANK_INIT `8192*k + w`. -/
structure ImageBody where
  instr : SMap InstrWord := []
  stateInit : SMap Bool := []
  pred : SMap (BitVec 4) := []
  cfg : SMap (BitVec 128) := []
  route : List Word64 := []
  slotHbd : List Word64 := []
  slotLane : List Word64 := []
  memdecl : List Byte := []
  bankInit : SMap Word64 := []
  probe : List Word64 := []
  gloveMap : List Word64 := []
  patch : List PatchEntry := []
  deriving DecidableEq, Repr

/-- What a pass of the loader over the file reads besides the plaintext: the stored chunks, each at its file offset with its 16-byte
tag (R157); a DMA read that fails, by section-table entry and byte offset in the section's plaintext; and an internal failure of
the loader or of Bonnet (R161). -/
structure PassResult where
  stored : List (Nat × List Byte) := []
  dmaFail : Option (BitVec 4 × Word32) := none
  internalFail : Bool := false
  deriving DecidableEq, Repr

/-! ### Hatband and lanes (spec/07_hatband.md, spec/08_lanes_multimodule.md) -/

/-- A place on the Hatband: ring position, ring and NI, as HBD_ERR_LOC names them. -/
structure HbdLoc where
  ringPos : BitVec 5
  ring : BitVec 2
  ni : BitVec 9
  deriving DecidableEq, Repr

/-- A link of the Hatband: the egress or ingress link of an NI, or the segment of a ring that leaves a ring position. -/
inductive HbdLink
  | egress (ni : Nat)
  | ingress (ni : Nat)
  | segment (ring : BitVec 2) (leaves : BitVec 5)
  deriving DecidableEq, Repr

/-- A NAK of a link (R235): the link, SRC_NI of the flit that failed, and whether the flit that it names is still the one that the
link's NAK before it named, sent again and not accepted since. -/
structure LinkNak where
  link : HbdLink
  src : BitVec 9
  again : Bool
  deriving DecidableEq, Repr

/-- How the read of an image header ends: the offset of a DMA read that failed, and whether the loader or Bonnet failed
(R161). -/
structure HeaderRead where
  dmaFail : Option Word32 := none
  internalFail : Bool := false
  deriving DecidableEq, Repr

/-- A lane that may have lost block lock, and 64 of its sync headers (R240, R260). -/
structure LaneHeads where
  lane : BitVec 2
  heads : BitVec 128
  deriving DecidableEq, Repr

/-- What an upset does to a flit on one link of its path (R218, R231, R237). The links count from 0, the source NI's egress
link, to the destination's ingress link. `words` are the bits of D turned over, `dp` those of DP and `side` those of the
sideband (VC, KIND, SEQ, SP from the highest bit down); `seq` is the SEQ that the receiver expects next on VC1 to VC3, and `map`
says whether the read of the map that checks the flit there fails its parity. -/
structure FlitUpset where
  link : Nat
  words : BitVec 256
  dp : BitVec 4
  side : BitVec 9
  seq : BitVec 4
  map : Bool
  deriving DecidableEq, Repr

/-- One stripe of a group: the sync headers and descrambled payloads of lanes 0 to 3 (R240, R241). -/
structure LaneStripe where
  h0 : BitVec 2
  h1 : BitVec 2
  h2 : BitVec 2
  h3 : BitVec 2
  p0 : Word64
  p1 : Word64
  p2 : Word64
  p3 : Word64
  deriving DecidableEq, Repr

/-- What ALIGN finds on one lane (R256, R257): the sync header and the descrambled payload of a training block as the lane
receives it. -/
structure AlignLane where
  head : BitVec 2
  payload : Word64
  deriving DecidableEq, Repr

/-- The CAPS block with which EXCHANGE ends (R259): lane 1, and the pedigree word of lanes 2 and 3. -/
structure Caps where
  word : Word64
  pedigree : BitVec 128
  ack : BitVec 8
  deriving DecidableEq, Repr

/-! ### Shared time, trace and test (spec/09 to spec/18) -/

/-- The body of a TIME control block: lanes 1, 2 and 3 (R272). -/
structure TimeBlock where
  l1 : Word64
  l2 : Word64
  l3 : Word64
  deriving DecidableEq, Repr

/-- Where a Glove bitstream comes from (R298); in the order of GLV_LOAD_STATUS.SOURCE. -/
inductive GloveSource | resident | package | host
  deriving DecidableEq, Repr

/-- A cell that a march finds failing (R463): the unit, the word and the bit lane. -/
structure FailCell where
  unit : Nat
  word : BitVec 13
  lane : BitVec 7
  deriving DecidableEq, Repr

/-! ### Host interface (spec/14_host_registers_ownership.md) -/

/-- The paths on which a BAR0 access reaches the module (table "Access paths"); `bonnet` is an access that
Bonnet executes with owner authority (R375, R409). -/
inductive Path | pf0 | pf1 | smb | bonnet
  deriving DecidableEq, Repr

/-- The write that starts an operation: its path, and whether the writer still owns the module when the operation makes its
own check (R108, R114, R375). -/
structure OpWrite where
  path : Path
  owns : Bool
  deriving DecidableEq, Repr

/-- The masters, with `none` for no owner (GBL_OWN.OWNER). -/
inductive Master | none | host | bmc | conductor
  deriving DecidableEq, Repr

/-- The two PCIe functions (R376). -/
inductive PcieFn | pf0 | pf1
  deriving DecidableEq, Repr

/-- Where an access at an offset with nothing behind it goes: BAR0 on a path (R31), or BAR4 of a function (R378). -/
inductive UnmappedBar | bar0 (path : Path) | bar4 (fn : PcieFn)
  deriving DecidableEq, Repr

/-- The JTAG instruction that is current (R383). -/
inductive JtagInstr
  | extest | samplePreload | idcode | highz | clamp | extestPulse | extestTrain | dbgGate | bypass
  deriving DecidableEq, Repr

end Sys2Proof
end

