-- ==== Sys2Proof/Syntax.lean ====
section
/-!
DEFINITION. Syntax.lean: the commands, one constructor for each row of spec/opcode_table.json. A command's
operands are what its event brings from outside the module; everything else its meaning takes from the state.
-/
namespace Sys2Proof

/-- The commands of the module (spec/opcode_table.json). -/
inductive Instr
  /-- REGISTER_WRITE (R375): a BAR0 write of `val` at `off` on `path`. -/
  | registerWrite (path : Path) (off : BitVec 24) (val : Word32)
  /-- UNMAPPED_ACCESS (R31, R378): an access at an offset of BAR0 that no register occupies, or at an unmapped one of BAR4. -/
  | unmappedAccess (bar : UnmappedBar) (off : BitVec 24) (isWrite : Bool) (val : Word32)
  /-- EVENT_MASK_WRITE (R379): a write of `val` to GBL_EVT_MASK_k. -/
  | eventMaskWrite (path : Path) (k : BitVec 6) (val : Word32)
  /-- EVENT_PEND_CLEAR (R380, R9): a write of `val` to GBL_EVT_PEND_k, while the events of the register named
  by `raised` are raised in the same edge. -/
  | eventPendClear (path : Path) (k : BitVec 6) (val raised : Word32)
  /-- MSIX_VECTOR_UNMASK (R379): the table entry of vector `vec` is written unmasked with the message address
  and data, with the function's MSI-X Enable set to `enable`. -/
  | msixVectorUnmask (fn : PcieFn) (vec : BitVec 11) (addr : Word64) (data : Word32) (enable : Bool)
  /-- SNAP_REQ (R386): a write of REQ with a block code to the path's GBL_SNAP. -/
  | snapReq (path : Path) (block : BitVec 5)
  /-- SNAP_REL (R386): a write of REL to the path's GBL_SNAP. -/
  | snapRel (path : Path)
  /-- BNT_OBS_CYC_READ (R412): a read of BNT_OBS_CYC_LO. -/
  | bntObsCycRead (path : Path)
  /-- OWN_CLAIM (R393): a write of `val` to GBL_OWN_CLAIM. -/
  | ownClaim (path : Path) (val : Word32)
  /-- CLAIM_WINDOW_CLOSE (R394): the claim window's 10 ms end. -/
  | claimWindowClose
  /-- OWN_BEAT (R395): a write of `val` to GBL_OWN_BEAT. -/
  | ownBeat (path : Path) (val : Word32)
  /-- HEARTBEAT_TIMEOUT (R395): TIMEOUT has passed with no heartbeat. -/
  | heartbeatTimeout
  /-- GRACE_EXPIRY (R396): the owner's path has stayed lost for GRACE. -/
  | graceExpiry
  /-- PCIE_FLR (R378): a Function Level Reset of a function begins. -/
  | pcieFlr (fn : PcieFn)
  /-- PCIE_HOT_RESET (R378). -/
  | pcieHotReset
  /-- PCIE_LINK_DOWN (R378). -/
  | pcieLinkDown
  /-- PERST_N_ASSERT (R476). -/
  | perstNAssert
  /-- SMB_BAR0_WRITE (R382): SMBus command 0x01. `pecOk` says whether the transaction's PEC is right. -/
  | smbBar0Write (pecOk : Bool) (off val : Word32)
  /-- SMB_READ_START (R382): SMBus command 0x02. -/
  | smbReadStart (pecOk : Bool) (off : Word32)
  /-- SMB_READ_COMPLETE (R382): the started read completes. -/
  | smbReadComplete
  /-- SMB_READ_RESULT (R382): SMBus command 0x03. -/
  | smbReadResult (pecOk : Bool)
  /-- SMB_WRITE_STATUS (R382): SMBus command 0x04. -/
  | smbWriteStatus (pecOk : Bool)
  /-- SMB_ALERT_RESPONSE (R381): the BMC reads the Alert Response Address. -/
  | smbAlertResponse
  /-- JTAG_EXTEST (R383). -/
  | jtagExtest
  /-- JTAG_SAMPLE_PRELOAD (R383). -/
  | jtagSamplePreload
  /-- JTAG_IDCODE (R383). -/
  | jtagIdcode
  /-- JTAG_HIGHZ (R383). -/
  | jtagHighz
  /-- JTAG_CLAMP (R383). -/
  | jtagClamp
  /-- JTAG_EXTEST_PULSE (R383). -/
  | jtagExtestPulse
  /-- JTAG_EXTEST_TRAIN (R383). -/
  | jtagExtestTrain
  /-- JTAG_DBG_GATE (R383). -/
  | jtagDbgGate
  /-- JTAG_BYPASS (R383): code 0xFF or an unlisted code. -/
  | jtagBypass (code : BitVec 8)
  /-- JTAG_TEST_LOGIC_RESET (R383). -/
  | jtagTestLogicReset
  /-- CFGCRC_SWEEP_END (R389): a configuration CRC sweep ends. -/
  | cfgcrcSweepEnd
  /-- PCIE_LINK_UP (R395): the link reaches DL_Active. -/
  | pcieLinkUp
  /-- FUNCTION_LEVEL_RESET_END (R399): a function leaves Function Level Reset. -/
  | functionLevelResetEnd (fn : PcieFn)
  /-- PERST_N_RELEASE (R476). -/
  | perstNRelease
  /-- CYCLE_START (R88). -/
  | cycleStart
  /-- INSTR_NOP (R43): the BP at the place issues its word, a no-operation. -/
  | instrNop (at' : Place)
  /-- INSTR_CNS_WRITE (R48). -/
  | instrCnsWrite (at' : Place)
  /-- INSTR_SHADOW_WRITE (R45). -/
  | instrShadowWrite (at' : Place)
  /-- INSTR_SEND_SLOT_WRITE (R46). -/
  | instrSendSlotWrite (at' : Place)
  /-- PORT_ADDRBIT (R71). -/
  | portAddrbit (at' : Place)
  /-- PORT_WDATABIT (R71). -/
  | portWdatabit (at' : Place)
  /-- ISSUE_READ (R73). -/
  | issueRead (at' : Place)
  /-- ISSUE_WRITE (R192). -/
  | issueWrite (at' : Place)
  /-- ISSUE_ATOMIC_ADD (R194). -/
  | issueAtomicAdd (at' : Place)
  /-- ISSUE_ATOMIC_SWAP (R194). -/
  | issueAtomicSwap (at' : Place)
  /-- ISSUE_SEND (R355). -/
  | issueSend (at' : Place)
  /-- ISSUE_SEND_BLOCKING (R359). -/
  | issueSendBlocking (at' : Place)
  /-- VERIFY (R68). -/
  | verify (at' : Place)
  /-- BOUNDARY_DRAIN (R84): boundary steps B0 to B3. -/
  | boundaryDrain
  /-- COMMIT_POINT_PASS (R88): the commit point and boundary steps B4 to B11. -/
  | commitPointPass
  /-- PAUSE_SET (R102): a write of SCH_CTRL with PAUSE 1. -/
  | pauseSet (path : Path)
  /-- PAUSE_CLEAR (R102): a write of SCH_CTRL with PAUSE 0. -/
  | pauseClear (path : Path)
  /-- DEPTH_SET (R149): a write of SCH_CTRL.DEPTH. -/
  | depthSet (path : Path) (depth : BitVec 2)
  /-- RUN_COUNT_WRITE (R103). -/
  | runCountWrite (path : Path) (val : Word32)
  /-- APPLY_GO (R105): a write of SCH_APPLY.GO. -/
  | applyGo (wr : OpWrite)
  /-- APPLY_EXECUTE (R106): the staged change is checked and applied at the start point. `intact` says whether
  the staged content passes its check (R107). -/
  | applyExecute (intact : Bool)
  /-- FROZEN_APPLY_DONE (R106): the last chunk of a frozen apply is written. -/
  | frozenApplyDone
  /-- CHECKPOINT_NOW (R109): a write of SCH_CKPT_CTRL.NOW. -/
  | checkpointNow (path : Path)
  /-- CHECKPOINT_DONE (R111): the copy ends; `readError` says whether a read error occurred during it (R112). -/
  | checkpointDone (readError : Bool)
  /-- REWIND_GO (R113): a write of SCH_REWIND with GO and SLOT. -/
  | rewindGo (wr : OpWrite) (slot : BitVec 6)
  /-- REWIND_DONE (R114): `crcOk` says whether the slot's CRC-32C is right as read. -/
  | rewindDone (crcOk : Bool)
  /-- HOLD_LONG (R98): a run of held and wait clocks passes LIMIT. -/
  | holdLong
  /-- READY_RECEIVE (R142): a READY message arrives. -/
  | readyReceive (port : WavePort) (msg : Word64)
  /-- COMMIT_RECEIVE (R139). -/
  | commitReceive (port : WavePort) (msg : Word64)
  /-- SQUASH_REQ_RECEIVE (R143). -/
  | squashReqReceive (port : WavePort) (msg : Word64)
  /-- SQUASH_RELAY_RECEIVE (R137). -/
  | squashRelayReceive (port : WavePort) (msg : Word64)
  /-- WAVE_TIMEOUT (R144). -/
  | waveTimeout
  /-- LOAD_INSTALL (R161): a write of SCH_LOAD_CTRL with KIND INSTALL and GO. `owns` says whether the writer
  still owns when the REQUEST phase makes its check. -/
  | loadInstall (path : Path) (owns : Bool)
  /-- LOAD_STAGE (R168): KIND STAGE and GO. -/
  | loadStage (path : Path) (owns : Bool)
  /-- LOAD_DISCARD (R171): KIND DISCARD and GO. -/
  | loadDiscard (path : Path)
  /-- LOAD_HEADER_DONE (R161): the 512 header bytes as read, and how the read ended. -/
  | loadHeaderDone (header : List Byte) (read : HeaderRead)
  /-- LOAD_KEY_DONE (R402). -/
  | loadKeyDone (internalFail : Bool)
  /-- LOAD_VERIFY_DONE (R161): the first decrypting pass, with the stored chunks that it reads and what they decrypt to. -/
  | loadVerifyDone (body : ImageBody) (pass : PassResult)
  /-- LOAD_WRITE_DONE (R164): the second pass. -/
  | loadWriteDone (body : ImageBody) (pass : PassResult)
  /-- RDATA_RETURN (R73): the word of an outstanding read enters RDATA of the context. -/
  | rdataReturn (cluster : BitVec 8) (ctx : BitVec 3)
  /-- PENDING_WRITE_APPLY (R195): the oldest committed entry of queue `q` is applied; queues 0 to 511 are the
  banks', 512 + k is pseudo-channel k's. -/
  | pendingWriteApply (q : BitVec 10)
  /-- HBM_ACCESS_START (R207): the access of a context that had missed its slot starts. -/
  | hbmAccessStart (cluster : BitVec 8) (ctx : BitVec 3)
  /-- REFRESH_OVERRUN (R99): pseudo-channel `pc` is refreshed outside any window, for `clocks` step clocks. -/
  | refreshOverrun (pc : BitVec 6) (clocks : Nat)
  /-- BAR2_READ (R200): a read of 8 bytes (`wide`) or 4 bytes at a BAR2 offset. -/
  | bar2Read (fn : PcieFn) (off : BitVec 36) (wide : Bool)
  /-- BAR2_READ_COMPLETE (R202): the oldest outstanding BAR2 read completes. -/
  | bar2ReadComplete
  /-- BAR2_WRITE (R200). -/
  | bar2Write (fn : PcieFn) (off : BitVec 36) (wide : Bool) (data : Word64)
  /-- BANK_POWER_WRITE (R204): a write to MEM_BANK_PWR_k. -/
  | bankPowerWrite (path : Path) (k : BitVec 5) (val : Word32)
  /-- BANK_POWER_DONE (R205). -/
  | bankPowerDone
  /-- MARCH_PRESERVING (R213): a write of MEM_MARCH_CTRL with GO and MODE 0. `owns` says whether the writer still
  owns when the engine makes its check. -/
  | marchPreserving (path : Path) (bank : BitVec 9) (owns : Bool)
  /-- MARCH_DESTRUCTIVE (R212): GO with MODE 1. -/
  | marchDestructive (path : Path) (bank : BitVec 9) (owns : Bool)
  /-- MARCH_COPY_DONE (R213). -/
  | marchCopyDone
  /-- INBOUND_VALUE_ARRIVAL (R61): the VC0 flit that NI `src` injected at position `pos` reaches its inbound
  slots, or meets an upset on its way. -/
  | inboundValueArrival (src : BitVec 9) (pos : BitVec 12) (upset : Option FlitUpset)
  /-- LATE_DELIVERY (R232): the hub of SLOT_HBD entry `entry` sends the values `first` to `first + lenM1` of the
  entry late; `upset` is what the packet meets on its way, and `held` says that packets of other blocks keep it in its NI until B7 of
  the cycle that the values belong to (R233). -/
  | lateDelivery (entry : Nat) (first lenM1 : BitVec 7) (upset : Option FlitUpset) (held : Bool)
  /-- HBD_NAK (R235): the receiver of a link NAKs `seq`; `sideband` when it found a sideband failure (R237). -/
  | hbdNak (nak : LinkNak) (seq : BitVec 4) (sideband : Bool)
  /-- LANE_RESTART (R255): a write of LNK_CTRL with RESTART on port `p`, with the role and loopback bits of `val`. -/
  | laneRestart (path : Path) (p : BitVec 4) (val : Word32)
  /-- LANE_DETECT_DONE (R255). -/
  | laneDetectDone (p : BitVec 4)
  /-- LANE_PATTERN_LOCKED (R255). -/
  | lanePatternLocked (p : BitVec 4)
  /-- LANE_ALIGN_DONE (R257): what each receive lane reads. -/
  | laneAlignDone (p : BitVec 4) (l0 l1 l2 l3 : AlignLane)
  /-- LANE_DESKEW_DONE (R258): the skew between the lanes, in blocks. -/
  | laneDeskewDone (p : BitVec 4) (skew : Nat)
  /-- LANE_EXCHANGE_DONE (R259). -/
  | laneExchangeDone (p : BitVec 4) (caps : Caps)
  /-- LANE_TRAINING_TIMEOUT (R255): the timeout of the port's training state. -/
  | laneTrainingTimeout (p : BitVec 4)
  /-- LANE_RECOVERY_TIMEOUT (R255): RECOVERY has lasted 4 ms. -/
  | laneRecoveryTimeout (p : BitVec 4)
  /-- LANE_GROUP_RECEIVE (R252): a group of eight stripes arrives. -/
  | laneGroupReceive (p : BitVec 4) (stripes : List LaneStripe)
  /-- LANE_NAK_RECEIVE (R253): a control block with NAK 1 and this ACK arrives. -/
  | laneNakReceive (p : BitVec 4) (ack : BitVec 8)
  /-- LANE_RESEND_TIMEOUT (R253): 2 us pass with groups outstanding and no ACK advancing. -/
  | laneResendTimeout (p : BitVec 4)
  /-- LANE_BLOCK_LOCK_LOSS (R260): a lane of the port has found invalid sync headers. -/
  | laneBlockLockLoss (p : BitVec 4) (loss : LaneHeads)
  /-- PHASE_LOOP_LOCK_LOSS (R260). -/
  | phaseLoopLockLoss (p : BitVec 4) (lane : BitVec 2)
  /-- VALUE_STRIPE_SEND (R250): the hub of port `p` sends the stripe of its transmit entry at TXPOS `txpos` for
  the cycle named by the low bits `cyc`. -/
  | valueStripeSend (p : BitVec 4) (cyc : BitVec 8) (txpos : BitVec 12)
  /-- VALUE_STRIPE_RECEIVE (R251): the header and the values of a data stripe of an accepted group. -/
  | valueStripeReceive (p : BitVec 4) (header : Word64) (values : BitVec 192)
  /-- PEDIGREE_SEND (R245). -/
  | pedigreeSend (p : BitVec 4)
  /-- PEDIGREE_RECEIVE (R264). -/
  | pedigreeReceive (p : BitVec 4) (word : BitVec 128)
  /-- MARCH_PHASE_DONE (R464): the march ends having found these failing cells, in the order found. -/
  | marchPhaseDone (cells : List FailCell)
  /-- REPAIR_REMARCH_DONE (R465): the second march ends having found these failing cells. -/
  | repairRemarchDone (cells : List FailCell)
  /-- MARCH_RESTORE_DONE (R213). -/
  | marchRestoreDone
  /-- SYNC_INTERVAL (R278): the Sync interval expires. `devs` gives, for each lane port from 0 on, how far the
  transmit time-stamp of its Sync lies from the counter, in 2^-16 ns (R275). -/
  | syncInterval (devs : List Int)
  /-- PDELAY_INTERVAL (R276): the peer-delay interval of port `p` expires; `dev` as above. -/
  | pdelayInterval (p : BitVec 4) (dev : Int)
  /-- SYNC_RECEIVE (R279): a TIME block that holds a Sync arrives; `dev` gives how far its receive time-stamp lies
  from the counter, in 2^-16 ns. -/
  | syncReceive (p : BitVec 4) (blk : TimeBlock) (dev : Int)
  /-- FOLLOW_UP_RECEIVE (R280). -/
  | followUpReceive (p : BitVec 4) (blk : TimeBlock)
  /-- PDELAY_REQ_RECEIVE (R272): `rxDev` and `txDev` place the receive time-stamp of the request and the transmit
  time-stamp of the answer. -/
  | pdelayReqReceive (p : BitVec 4) (blk : TimeBlock) (rxDev txDev : Int)
  /-- PDELAY_RESP_RECEIVE (R272). -/
  | pdelayRespReceive (p : BitVec 4) (blk : TimeBlock) (dev : Int)
  /-- PDELAY_RESP_FOLLOW_UP_RECEIVE (R276). -/
  | pdelayRespFollowUpReceive (p : BitVec 4) (blk : TimeBlock)
  /-- SYNC_LOSS_TIMEOUT (R281): no complete Sync for 8 Sync intervals. -/
  | syncLossTimeout
  /-- TIM_SET (R277): a write of `val` to TIM_SET_GO. -/
  | timSet (path : Path) (val : Word32)
  /-- TIM_RESTART (R280): a write of `val`, with RESTART 1, to TIM_CTRL. -/
  | timRestart (path : Path) (val : Word32)
  /-- TIM_CAPTURE_ARM (R283): a write of `val`, with EN 1, to TIM_CAPT_CTRL. -/
  | timCaptureArm (path : Path) (val : Word32)
  /-- DO_UPDATE (R286): the oldest DO update that waits takes place. -/
  | doUpdate
  /-- GLOVE_LOAD_HEADER_DONE (R299): the 512 header bytes as read, whether the read of the source failed, and then
  the byte offset at which it did. -/
  | gloveLoadHeaderDone (header : List Byte) (failAt : BitVec 14) (readFail : Bool)
  /-- GLOVE_LOAD_LIST_DONE (R305): the frame list's address words. -/
  | gloveLoadListDone (words : List Word32) (readFail : Bool)
  /-- GLOVE_LOAD_DATA_DONE (R300): the frame data in list order, and the final CRC-32. -/
  | gloveLoadDataDone (frames : List (BitVec 1024)) (crc : Word32) (readFail : Bool)
  /-- CONTENTION_TRIP (R306): the sensor of a segment of region `r` trips. -/
  | contentionTrip (r : BitVec 2) (seg : BitVec 13)
  /-- SIGNATURE_REGION_DONE (R307): the engine finishes region `r`; `upsets` lists the frame bits of the region
  that upsets have flipped since its last sweep. -/
  | signatureRegionDone (r : BitVec 2) (upsets : List (BitVec 11 × BitVec 10))
  /-- TDC_EDGE (R309): an edge on TDC input `t` falls in the present step clock, with code `code`. -/
  | tdcEdge (t : BitVec 6) (falling : Bool) (code : BitVec 6)
  /-- PIN_INPUT_CHANGE (R292): user pin `pin` takes the level `level` from outside. -/
  | pinInputChange (pin : BitVec 9) (level : Option Bool)
  /-- ASTER_EVALUATE (R315): Aster evaluates the oldest committed cycle that waits. -/
  | asterEvaluate
  /-- GOLDEN_RECORD_READ (R329): the next golden record is read. -/
  | goldenRecordRead
  /-- ASTER_STAGE (R321): a write of `val`, with STAGE 1, to AST_SHADOW. -/
  | asterStage (wr : OpWrite) (val : Word32)
  /-- ASTER_DISARM (R323): a write of `val`, with DISARM 1, to AST_CTRL. -/
  | asterDisarm (path : Path) (val : Word32)
  /-- ASTER_RELEASE (R328): a write of `val`, with RELEASE 1, to AST_CTRL. -/
  | asterRelease (path : Path) (val : Word32)
  /-- LKS_ARM (R339): a write of `val`, with EN 1, to LKS_CTRL. -/
  | lksArm (wr : OpWrite) (val : Word32)
  /-- LKS_DISARM (R346): a write of `val`, with EN 0, to LKS_CTRL. -/
  | lksDisarm (path : Path) (val : Word32)
  /-- LKS_FLUSH (R346): a write of `val`, with FLUSH 1, to LKS_CTRL. -/
  | lksFlush (path : Path) (val : Word32)
  /-- LKS_CYCLE_CLOSE (R337): Larkspur closes the oldest committed cycle that waits. -/
  | lksCycleClose
  /-- LKS_FLOW_RECORD (R336): the active management core takes a branch (`kind` 0), an exception entry (1) or an
  exception return (2) to byte address `target`. -/
  | lksFlowRecord (kind : BitVec 2) (target : Word32)
  /-- LKS_FLUSH_TIMEOUT (R341). -/
  | lksFlushTimeout
  /-- LKS_ANCHOR_TIMER (R344). -/
  | lksAnchorTimer
  /-- LKS_BLOCK_SEND (R346): the oldest block that waits is delivered to the sink in use. -/
  | lksBlockSend
  /-- LKS_SINK_LOST (R348): PCIe bus mastering is disabled (`busMaster`), or another cause of R348 has taken away
  the sink in use. -/
  | lksSinkLost (busMaster : Bool)
  /-- LKS_HOST_RD_WRITE (R347): a write of `val` to LKS_HOST_RD. -/
  | lksHostRdWrite (path : Path) (val : Word32)
  /-- DSP_TICK (R358): a tick of the dispatcher's 1 µs tick. -/
  | dspTick
  /-- MESSAGE_DELIVERY (R364): core `k` receives its next record. -/
  | messageDelivery (k : BitVec 4)
  /-- DSP_RESPOND (R367): core `k` writes DATA, then CMD `cmd` with OP RESPOND, in its window. -/
  | dspRespond (k : BitVec 4) (cmd : Word32) (data : Word64)
  /-- DSP_POST (R366): OP POST. -/
  | dspPost (k : BitVec 4) (cmd : Word32) (data : Word64)
  /-- DSP_COMPLETE (R366): OP COMPLETE. -/
  | dspComplete (k : BitVec 4) (cmd : Word32) (data : Word64)
  /-- DSP_CORE_RD_WRITE (R365): a write of core `k`'s RD, in its BAR4 window (`window`) or at DSP_CORE_RD_k. -/
  | dspCoreRdWrite (window : Bool) (path : Path) (k : BitVec 4) (val : Word32)
  /-- DSP_CORE_ENTRIES_WRITE (R363). -/
  | dspCoreEntriesWrite (path : Path) (k : BitVec 4) (val : Word32)
  /-- DSP_CH_CFG_WRITE (R373). -/
  | dspChCfgWrite (path : Path) (ch : BitVec 8) (val : Word32)
  /-- BNT_MAILBOX_SUBMIT (R405): `path` submits the request whose bytes stand in its mailbox's request area. -/
  | bntMailboxSubmit (path : Path) (req : List Byte)
  /-- HANDOVER (R398): Bonnet ends the oldest submitted request, a HANDOVER. -/
  | handover
  /-- KEY_LOAD (R410). -/
  | keyLoad
  /-- FW_ACTIVATE (R433), MODE NEXT_START. -/
  | fwActivateNextStart
  /-- FW_ACTIVATE, MODE LIVE (R436). -/
  | fwActivateLive
  /-- FW_ACTIVATE, MODE CONFIRM (R434). -/
  | fwActivateConfirm
  /-- FW_ACTIVATE, MODE CANCEL (R433). -/
  | fwActivateCancel
  /-- OBS_GRANT (R411). -/
  | obsGrant
  /-- OBS_REVOKE (R409). -/
  | obsRevoke
  /-- DEBUG_UNLOCK (R414). -/
  | debugUnlock
  /-- DEBUG_LOCK (R409). -/
  | debugLock
  /-- REGION_RECONFIG (R298). -/
  | regionReconfig
  /-- REG_WRITE (R409). -/
  | regWrite
  /-- ATTEST (R416). -/
  | attest
  /-- GET_CERT (R401). -/
  | getCert
  /-- READBACK (R413). -/
  | readback
  /-- COLD_RESET (R418, R475): power-on, or a low pulse on POR_N. -/
  | coldReset (cause : ColdCause)
  /-- RESET_N_ASSERT (R475): RESET_N is low for `ns` nanoseconds. -/
  | resetNAssert (ns : Nat)
  /-- GBL_WARM_RESET (R419): a write of `val`, with WARM 1, to GBL_RESET. `ledgerFail` says whether the ledger
  write before it fails. -/
  | gblWarmReset (path : Path) (val : Word32) (ledgerFail : Bool)
  /-- FABRIC_RESET (R420): a write of `val`, with FABRIC 1 and WARM 0, to GBL_RESET. -/
  | fabricReset (path : Path) (val : Word32)
  /-- FABRIC_RESET_DONE (R420). -/
  | fabricResetDone
  /-- BLOCK_RESET (R421): a write of `val`, with GO 1, to GBL_BLOCK_RESET. -/
  | blockReset (wr : OpWrite) (val : Word32)
  /-- BOOT_FUSE_DONE (R422): `ok` says whether the fuse check passes. -/
  | bootFuseDone (ok : Bool)
  /-- BOOT_ANALOG_DONE (R455): the test and unit that fail first, or none. -/
  | bootAnalogDone (fail : Option (Byte × BitVec 16))
  /-- BOOT_RESIDENT_DONE (R303). -/
  | bootResidentDone
  /-- BOOT_JOURNAL_DONE (R467): `ok` says whether the journals replay. -/
  | bootJournalDone (ok : Bool)
  /-- BOOT_COPY_DONE (R422): `ok` says whether the copy is made. -/
  | bootCopyDone (ok : Bool)
  /-- BOOT_HEADER_DONE (R427). -/
  | bootHeaderDone
  /-- BOOT_ITEMS_DONE (R428). -/
  | bootItemsDone
  /-- BOOT_CONTROLLERS_DONE (R423): `ok` says whether the controllers start. -/
  | bootControllersDone (ok : Bool)
  /-- BOOT_UP (R422). -/
  | bootUp
  /-- CLOCHE_MAILBOX_SUBMIT (R432). -/
  | clocheMailboxSubmit (path : Path) (req : List Byte)
  /-- STAGE_WRITE (R432): the active Cloche ends the oldest submitted request, a STAGE_WRITE. -/
  | stageWrite
  /-- STAGE_STATUS (R432). -/
  | stageStatus
  /-- FLASH_WRITE (R432). -/
  | flashWrite
  /-- FLASH_READ (R432). -/
  | flashRead
  /-- HANDOVER_STANDBY_READY (R436). -/
  | handoverStandbyReady
  /-- HANDOVER_TIMEOUT (R437). -/
  | handoverTimeout
  /-- STANDBY_CHECK_FAIL (R437). -/
  | standbyCheckFail
  /-- PWR_TARGET_DOZE (R440): a write of `val`, with TARGET 1, to PWR_CTRL. -/
  | pwrTargetDoze (path : Path) (val : Word32)
  /-- PWR_TARGET_NAP (R440): TARGET 2. -/
  | pwrTargetNap (path : Path) (val : Word32)
  /-- PWR_WAKE (R440): TARGET 0. -/
  | pwrWake (path : Path) (val : Word32)
  /-- PWR_TRANSITION_DONE (R441): `ledgerFail` says whether the ledger write before Nap failed. -/
  | pwrTransitionDone (ledgerFail : Bool)
  /-- THERMAL_READING (R443): the readings of the 24 sensors, in °C. -/
  | thermalReading (temps : List Byte)
  /-- RAMP_TICK (R447): a whole microsecond of ramp time passes. -/
  | rampTick
  /-- LOAD_FORECAST_FRAME (R448): a frame is sent. -/
  | loadForecastFrame
  /-- LEDGER_SAMPLE (R451): the 1 s sample. -/
  | ledgerSample
  /-- LEDGER_PERIODIC_WRITE (R452): `fail` says whether the record write fails. -/
  | ledgerPeriodicWrite (fail : Bool)
  /-- LDG_FLUSH (R452): a write of `val`, with LDG_FLUSH 1, to PWR_CTRL. -/
  | ldgFlush (path : Path) (val : Word32) (fail : Bool)
  /-- SHUTDOWN (R452): a write of `val`, with SHUTDOWN 1, to PWR_CTRL. -/
  | shutdown (path : Path) (val : Word32) (fail : Bool)
  /-- SELF_TEST_GO (R459): a write of `val`, with GO 1, to PWR_ST_CTRL. -/
  | selfTestGo (wr : OpWrite) (val : Word32)
  /-- SELF_TEST_STOP (R460): a write of `val`, with STOP 1, to PWR_ST_CTRL. -/
  | selfTestStop (path : Path) (val : Word32)
  /-- SELF_TEST_DONE (R457): the requested test ends; `pass` is the result of a lane or TDC test. -/
  | selfTestDone (pass : Bool)
  /-- THERMAL_SENSOR_CHECK (R457): the readings of the 24 sensors. -/
  | thermalSensorCheck (temps : List Byte)
  /-- VMON_CHECK (R457): the monitor's reading in mV, and how far it lies from each of the two references. -/
  | vmonCheck (mv : BitVec 12) (diff0 diff1 : Nat)
  /-- ROOT_PLL_LOCK_LOSS (R457). -/
  | rootPllLockLoss
  /-- LANE_PLL_LOCK_LOSS (R457). -/
  | lanePllLockLoss (p : BitVec 4)
  /-- HBM_PLL_LOCK_LOSS (R457). -/
  | hbmPllLockLoss (stack : BitVec 1)
  /-- VCCIO_MONITOR_TRIP (R479). -/
  | vccioMonitorTrip (b : BitVec 3)
  /-- VCCIO_MONITOR_CLEAR (R479). -/
  | vccioMonitorClear (b : BitVec 3)
  /-- POR_N_RELEASE (R422): the straps as sampled (R477). -/
  | porNRelease (modid : BitVec 6) (smbAddr : BitVec 2)
  /-- POWER_REMOVED (R439). -/
  | powerRemoved
  deriving DecidableEq, Repr

end Sys2Proof
end

