-- ==== Sys2Proof/Decode.lean ====
section
/-!
DEFINITION. Decode.lean: the command that a word spells. No row of spec/opcode_table.json gives bits (every row's command is an
event, not a coded word), so no word spells a command.
-/
namespace Sys2Proof

/-- The command that `nbits` bits of a word spell: none, since no row of the table gives bits. -/
def decodeTableWord (nbits w : Nat) : Option Instr :=
  match nbits, w with
  | _, _ => none

end Sys2Proof
end

