-- ==== Sys2Proof/Machine/State.lean ====
section
/-!
DEFINITION. Machine/State.lean: the state of the module, block by block in the order of spec/'s chapters, the
fault and refusal reasons, and the state right after reset. Registers of BAR0 whose value no other part of the
state gives stand in `State.regs`, keyed by their BAR0 offset; all other state is named.
-/
namespace Sys2Proof.Machine

/-! ### What leaves the module -/

/-- A message or transaction that the module sends. `State.out` lists them, the newest first. -/
inductive Output
  /-- An MSI-X message of a PCIe function (R379). -/
  | msix (fn : PcieFn) (vec : Nat) (addr : Word64) (data : Word32)
  /-- A NACK on the PEC byte of an SMBus transaction (R382). -/
  | smbNack
  /-- Data that the SMBus target returns: a status byte and, for command 0x03, a value (R382). -/
  | smbData (status : Byte) (value : Option Word32)
  /-- The SMBus target answers the Alert Response Address with its address (R381). -/
  | smbAlertAddr (addr : BitVec 7)
  /-- The device identification register shifted out by JTAG (R383). -/
  | jtagId (v : Word32)
  /-- Data of a BAR0 read. -/
  | bar0Data (path : Path) (v : Word32)
  /-- Data of a BAR4 read of a function (R378). -/
  | bar4Data (fn : PcieFn) (v : Word32)
  /-- Completion of a BAR2 read; `poisoned` is the EP bit (R202). -/
  | bar2Data (fn : PcieFn) (v : Word64) (poisoned : Bool)
  /-- A group of 8 stripes sent on a lane port: values of the design, or a part of a sealed block (R242, R346). -/
  | laneGroup (p : Nat) (stripes : List LaneStripe)
  /-- A control block in no group: one of EXCHANGE (R259), or one that leaves while the replay buffer is full (R253). -/
  | laneBlock (p : Nat) (stripe : LaneStripe)
  /-- A record of 64 bytes written into the ring of a servicing core, at a bus address (R365). -/
  | dspRecord (core : Nat) (addr : Nat) (bytes : List Byte)
  /-- A sealed block written into the host ring, at a bus address (R346). -/
  | lksRecord (addr : Nat) (bytes : List Byte)
  /-- Bytes that Bonnet writes to host memory for a READBACK (R413). -/
  | hostWrite (addr : Nat) (bytes : List Byte)
  /-- A load forecast frame on LFC_DAT (R448). -/
  | lfcFrame (bits : BitVec 25)
  deriving DecidableEq, Repr
/-! ### Clusters (spec/02_boolean_processor.md) -/

/-- One port context of a cluster (R70 to R73). `blocking` marks an outstanding read that awaits the response
of a SEND BLOCKING (CLU_STATUS.BLOCKING). -/
structure PortCtx where
  addr : BitVec 40 := 0
  wdata : Word64 := 0
  wen : Word64 := 0
  rdata : Word64 := 0
  valid : Bool := false
  outst : Bool := false
  blocking : Bool := false
  deriving DecidableEq, Repr

/-- What an issued instruction does when it takes effect, one step after its own (R39, R71, R68). -/
inductive EffKind
  | cns (e : Nat) (v : Bool)
  | shadow (b : Nat) (v : Bool)
  | send (i : Nat) (v : Bool)
  | addrBit (c a : Nat) (v : Bool)
  | wdataBit (c a : Nat) (v : Bool)
  | issue (c op : Nat) (r : Bool)
  | mismatch (i : Nat)
  deriving DecidableEq, Repr

/-- An effect in flight. -/
structure Effect where
  cluster : Nat
  bp : Nat
  slot : Nat
  dest : Nat
  kind : EffKind
  deriving DecidableEq, Repr

/-- The orphan read that a cluster has captured in CLU_ERR_LOC in the executing cycle (R54, R55); `entry` is
the CNS entry of a class 00 read. -/
structure OrphanCap where
  step : Nat
  bp : Nat
  operand : Nat
  entry : Option Nat
  deriving DecidableEq, Repr

/-- The stores of all clusters. Keys: a CNS entry `4096*c + e`, a CNS word `128*c + w`, a state bit
`2^24*copy + 65536*c + b`, a state word `2^19*copy + 2048*c + w`, a shadow bit `65536*c + b`, an inbound slot
`4096*c + i`, an inbound word `128*c + w`, a port context `8*c + k`, a tier word `65536*slot + 256*c + bp`.
A parity bit is held as a flag that says whether the word's parity fails (log 20). -/
structure CluSt where
  tier : SMap InstrWord := []
  cnsVal : SMap Bool := []
  cnsValid : SMap Bool := []
  cnsBad : SMap Bool := []
  copies : SMap Bool := []
  copyBad : SMap Bool := []
  /-- Next-state shadow: `some v` where the written flag is set and the shadow bit is `v` (R57). -/
  shadow : SMap (Option Bool) := []
  inVal : SMap Bool := []
  inValid : SMap Bool := []
  inUsed : SMap Bool := []
  inVerified : SMap Bool := []
  inBad : SMap Bool := []
  /-- Values that arrive in the current clock; they are in their slots and become VALID at its end (R61). -/
  inArriving : List Nat := []
  predMode : SMap (BitVec 2) := []
  predLast : SMap Bool := []
  /-- Predictor values fixed for the executing cycle at its first step (R63). -/
  predVal : SMap Bool := []
  ports : SMap PortCtx := []
  /-- Send-slot values of the executing cycle, `4096*c + i` (R46). -/
  sendSlot : SMap (Option Bool) := []
  /-- RDATA words that arrive in the current clock, by port context key (R93, R95). -/
  rdArriving : List (Nat × Word64) := []
  /-- Verifies issued in the executing cycle, by cluster (R68). -/
  verifies : SMap Nat := []
  /-- CLU_CAUSE bits that the executing cycle has reported, by cluster (B3 of R84). -/
  cause : SMap Byte := []
  orphan : SMap (Option OrphanCap) := []
  /-- The cluster that has first captured a parity cause in the executing cycle (R451). -/
  firstPar : Option Nat := none
  deriving DecidableEq, Repr

/-! ### Cycle controller (spec/03_design_cycle.md, spec/04_speculation.md) -/

/-- SCH_STATUS.STATE. -/
inductive SchState | idle | running | paused | frozen | ckpt | rewind | faultStop
  deriving DecidableEq, Repr

/-- Where the sequencer stands: at the start point, among the issue steps, or at the commit point (R84). -/
inductive Phase | start | issue | commitPoint
  deriving DecidableEq, Repr

/-- The execution between step 0 and B7. -/
structure Exec where
  num : Word64
  ns : Bool
  /-- Target copy of the execution (R59). -/
  copy : Nat
  /-- A verify mismatch, or a condition that counts as one, has been recorded (R101, R138, R196, R370). -/
  mismatch : Bool := false
  /-- The mismatch is a re-verify mismatch only (R138). -/
  reverify : Bool := false
  /-- The execution is aborted at B7 whatever it reports (R135). -/
  aborted : Bool := false
  /-- A VC0 fault of the execution itself: its abort counts as one for parity (R231). -/
  vc0 : Bool := false
  /-- A DESYNC cut: the execution begins again without SQUASH_REQ (R265). -/
  desync : Bool := false
  /-- The execution has begun under R370: a further exhaustion in it makes a fault stop. -/
  sole : Bool := false
  /-- Its number among all executions begun: what it injects carries it, so that no later execution takes it (R119). -/
  serial : Nat := 0
  /-- Step clock in which the execution was cut (R135). -/
  cutAt : Option Nat := none
  startClk : Nat := 0
  issueClks : Nat := 0
  heldClks : Nat := 0
  deriving DecidableEq, Repr

/-- States of a finished cycle (spec/04, "Cycle states on a module"). -/
inductive CycSt | verifying | ready
  deriving DecidableEq, Repr

/-- A finished cycle that has neither committed nor been squashed. -/
structure CycRec where
  num : Word64
  /-- The number of the execution that finished it. -/
  serial : Nat := 0
  st : CycSt
  copy : Nat
  startClk : Nat
  clks : Nat
  issueClks : Nat
  heldClks : Nat
  deriving DecidableEq, Repr

/-- A valid or invalid checkpoint slot (R109 to R112): where it lies in the checkpoint space, how many copies had been made
before its own, and its content by the stores that it restores. -/
structure CkptSlot where
  valid : Bool := false
  base : Nat := 0
  size : Nat := 0
  seq : Nat := 0
  num : Word64 := 0
  digest : Word64 := 0
  time : Word64 := 0
  banksIncl : Bool := false
  hbmIncl : Bool := false
  partial' : Bool := false
  stateBits : SMap Bool := []
  stateBad : SMap Bool := []
  last : SMap Bool := []
  banks : SMap Word64 := []
  bankBad : SMap Bool := []
  hbm : SMap (Option Word64) := []
  deriving DecidableEq, Repr

/-- A checkpoint copy that is running: the slot, the cycle, the shared time at its commit in ns (R270), and BANKS,
HBMMEM and PARTIAL as they stood when the copy began (R115). -/
structure CkptCopy where
  slot : Nat
  num : Word64
  base : Nat := 0
  size : Nat := 0
  time : Word64 := 0
  banks : Bool := true
  hbm : Bool := false
  partial' : Bool := false
  deriving DecidableEq, Repr

/-- The cycle controller. -/
structure SchSt where
  st : SchState := .idle
  phase : Phase := .start
  /-- The slot that issues next, in the issue phase. -/
  slot : Nat := 0
  exec : Option Exec := none
  /-- How many executions have begun. -/
  execNo : Nat := 0
  /-- A rule answers a condition of the execution with a fault stop, due at the end of the clock (R101). -/
  fatal : Bool := false
  /-- Finished uncommitted cycles, oldest first; U of R88 is their number. -/
  cycles : List CycRec := []
  committed : Word64 := 0
  /-- Step clock of the last commit. -/
  commitClk : Nat := 0
  /-- Copy that holds the committed state (R59). -/
  comCopy : Nat := 0
  /-- Highest cycle number started so far (R82). -/
  highest : Word64 := 0
  /-- Highest cycle number of which an execution has finished at B7 (R140). -/
  hiFinished : Word64 := 0
  /-- The cycle for which the window has been opened, from B8 on until its first step (R84, R287). -/
  opened : Option Word64 := none
  /-- Hold sources presented in the four clocks before this one, most recent first (R91). -/
  holdHist : List (BitVec 7) := [0, 0, 0, 0]
  infl : List Effect := []
  /-- BPs (`256*c + bp`) whose word of the current slot has issued. -/
  issued : List Nat := []
  /-- Length of the present run of held and wait clocks, and whether R98 has been raised for it. -/
  holdRun : Nat := 0
  holdRaised : Bool := false
  /-- The throttle accumulator, the level last in use, the wait H of the present start point and the clocks
  waited since it (R100, R445). -/
  thrAcc : Nat := 0
  thrLevel : Nat := 0
  thrH : Nat := 0
  thrWaited : Nat := 0
  /-- Target cycle of a pending apply, and whether a frozen apply is being written (R105, R106). -/
  applyT : Option Word64 := none
  applyFrozen : Bool := false
  /-- A NOW request stands (R109). -/
  ckptNow : Bool := false
  ckptCopy : Option CkptCopy := none
  /-- How many copies have ended with a valid slot. -/
  ckptSeq : Nat := 0
  ckptNext : Nat := 0
  slots : SMap CkptSlot := []
  /-- Slot of a rewind under way (R113). -/
  rewindSlot : Option Nat := none
  /-- STATE from which the rewind began. -/
  rewindFrom : SchState := .paused
  /-- COMMITs that have arrived and take effect in the next clock, or wait for a checkpoint copy (R110, R139), oldest
  first. -/
  commitQ : List Word64 := []
  /-- Parity aborts of each uncommitted cycle (R147). -/
  parityCnt : List (Word64 × Nat) := []
  deriving DecidableEq, Repr

/-- A relay that the module has processed: SQUASH_RELAY(j, M, w) (R125, R137). -/
structure Relay where
  cycle : Word64
  origin : BitVec 6
  gen : BitVec 16
  deriving DecidableEq, Repr

/-- The commit wave: this module's part and the conductor function (spec/04). -/
structure WaveSt where
  gen : BitVec 16 := 0
  /-- SQUASH_REQs sent whose relay has not been processed (R124, R132). -/
  relaysDue : Nat := 0
  /-- The lowest cycle that an unprocessed SQUASH_REQ of this module names (R124). -/
  reqFrom : Option Word64 := none
  relays : List Relay := []
  /-- The lowest cycle of which a squash has been decided in the present clock, and its cause; SQUASH_REQ leaves at the end
  of the clock (R134, R145). -/
  sqPend : Option (Word64 × Nat) := none
  /-- A COMMIT for m + 1 is held for a late commit (R141). -/
  lateHeld : Bool := false
  module : BitVec 6 := 0
  conductor : BitVec 6 := 0
  members : Word64 := 1
  parent : Option (BitVec 4) := none
  children : List (BitVec 4) := []
  /-- Messages between the conductor function and its own cycle controller, oldest first, each with the clock in which it
  was issued; each takes one step clock (R131). -/
  selfMsgs : List (Nat × Word64) := []
  /-- The conductor's c, its wave generation and the accepted READYs (R142). -/
  c : Word64 := 0
  condGen : BitVec 16 := 0
  readys : List (Word64 × BitVec 6) := []
  /-- A clock in which READYs were accepted, and their number: a SQUASH_REQ of the same clock comes before them (R145). -/
  readyNow : Nat × Nat := (0, 0)
  /-- Conductor and membership have been fixed (R131). -/
  fixed : Bool := false
  /-- Cycle for which SCH_WAVE_TIMEOUT has been raised (R144). -/
  timedOut : Option Word64 := none
  deriving DecidableEq, Repr


/-! ### Identity and platform configuration -/

/-- What the fuses and the grade of the part fix (R2, R4, GBL_DEVICE_ID). -/
structure IdentSt where
  /-- The part is an FQ9620. -/
  half : Bool := false
  stepping : BitVec 4 := 1
  vendorRev : Byte := 0
  /-- The private halves of the identity key and of the agreement key (R401). -/
  identKey : BitVec 384 := 1
  agreeKey : BitVec 384 := 1
  /-- The fused platform key digest (R427). -/
  platformKey : BitVec 384 := 0
  /-- The vendor's public key, x then y, whose digest the boot ROM holds (R428). -/
  vendorKey : BitVec 768 :=
    BitVec.ofNat 768 (2 ^ 384 *
      0xaa87ca22be8b05378eb1c71ef320ad746e1d3b628ba79b9859f741e082542a385502f25dbf55296c3a545e3872760ab7 +
      0x3617de4a96262c6f5d9e98bf9292dc29f8f41dbd289a147ce9da3113b5f0b8c00a60b1ce1d7e819d7a431d7c90ea0e5f)
  /-- MODID[5:0] as sampled (R477). -/
  modid : BitVec 6 := 0
  deriving DecidableEq, Repr

/-- The platform configuration, as BOOT_CONTROLLERS_DONE loads it from the booted package: this module's place in
the system, the wave tree, the link map and the firmware identity (spec/16_boot_update_reset.md; R130, R131,
R246, R262, R264). -/
structure PlatSt where
  module : BitVec 6 := 0
  conductor : BitVec 6 := 0
  members : Word64 := 1
  parent : Option (BitVec 4) := none
  children : List (BitVec 4) := []
  roles : SMap (BitVec 2) := []
  /-- Link map: peer module and peer port of each lane port. -/
  peers : SMap (Option (BitVec 6 × BitVec 4)) := []
  /-- TIME_MASTER: a module, or none for the conductor (R277); and this module's upstream time port. -/
  timeMaster : Option (BitVec 6) := none
  upstream : Option (BitVec 4) := none
  avsEn : Bool := false
  lfcEn : Bool := false
  hbmRate : Byte := 0
  /-- The platform configuration digest; the pedigree word carries its first 2 bytes (R262). -/
  digest : BitVec 384 := 0
  fwClass : Byte := 0
  fwVer : Word32 := 0
  settingsFmt : Byte := 0
  fwDigest : BitVec 384 := 0
  deriving DecidableEq, Repr

/-! ### The installed image and the loader (spec/05_compiler_contract.md) -/

/-- An HBM design memory of MEMDECL (R182). -/
structure MemEntry where
  dbase : Nat
  words : Nat
  pbase : Nat
  stack : Nat
  ckpt : Bool
  deriving DecidableEq, Repr

/-- A refresh window of MEMDECL (R182, R210). -/
structure RefreshWindow where
  first : Nat
  last : Nat
  periodLog2 : Nat
  phase : Nat
  deriving DecidableEq, Repr

/-- A MEMDECL section as read (R182). -/
structure MemDecl where
  bankUse : List Byte := []
  mems : List MemEntry := []
  windows : List RefreshWindow := []
  ckptBytes : Nat := 0
  ckptPbase0 : Nat := 0
  ckptPbase1 : Nat := 0
  deriving DecidableEq, Repr

/-- The installed image: what SCH_GEOM, SCH_IMAGE_INFO and SCH_IMAGE_DIGEST read, and the sections that later
rules consult. -/
structure ImageSt where
  valid : Bool := false
  n : Nat := 0
  partition : Byte := 0
  partitions : Byte := 0
  patched : Bool := false
  digest : BitVec 384 := 0
  bodyDigest : BitVec 384 := 0
  /-- The digest before the most recent apply of image content, and its target T (R263). -/
  prevDigest : BitVec 384 := 0
  appliedAt : Word64 := 0
  route : List Word64 := []
  slotHbd : List Word64 := []
  slotLane : List Word64 := []
  memdecl : MemDecl := {}
  probe : List Word64 := []
  gloveMap : List Word64 := []
  /-- LAST bits of PRED, the values that install loads (R64). -/
  lastInit : SMap Bool := []
  deriving DecidableEq, Repr

/-- Staged content (R171). -/
structure StagedSt where
  cfg : Option (SMap (BitVec 128)) := none
  route : Option (List Word64) := none
  slotHbd : Option (List Word64) := none
  slotLane : Option (List Word64) := none
  probe : Option (List Word64) := none
  /-- Staged words by the location form of R169. -/
  patch : SMap (Option InstrWord) := []
  /-- IMAGE_DIGEST of the last staged change. -/
  digest : Option (BitVec 384) := none
  /-- A staged image change awaits an apply (SCH_LOAD_STATUS.STAGED). -/
  any : Bool := false
  deriving DecidableEq, Repr

/-- The phases of a load (SCH_LOAD_STATUS.PHASE). -/
inductive LoadPhase | request | header | key | verify | write
  deriving DecidableEq, Repr

/-- The loader. -/
structure LoadSt where
  /-- A load is running (SCH_LOAD_STATUS.BUSY), and it is a stage load. -/
  busy : Bool := false
  stage : Bool := false
  phase : LoadPhase := .request
  /-- The header of the running load. -/
  header : List Byte := []
  /-- The image-invalid flag in MRAM (R163). -/
  invalidFlag : Bool := false
  deriving DecidableEq, Repr

/-! ### Design memory (spec/06_design_memory.md) -/

/-- An entry of a pending-write queue (R191 to R195). Queues are numbered 0 to 511 for the banks and 512 + k
for pseudo-channel k; a word key is `8192*bank + word` or `2^32*stack + PA/8`. Entries stand in the order in
which they were made. -/
structure QEntry where
  cyc : Word64
  q : Nat
  key : Nat
  data : Word64
  mask : Word64
  committed : Bool := false
  /-- The clock from which on its partition is a committed one (R195). -/
  vis : Nat := 0
  deriving DecidableEq, Repr

/-- A memory access recorded by an execution and reported when its cycle commits: an out-of-range access
(R181) or a write race (R193). -/
structure MemNote where
  cyc : Word64
  race : Bool
  addr : BitVec 40
  cluster : Nat
  ctx : Nat
  deriving DecidableEq, Repr

/-- Where an outstanding returning access stands. -/
inductive ReadStage
  /-- At an on-die bank, presented at port A from clock `at'` on (R188). -/
  | bankWait (at' : Nat)
  /-- Performed; the word arrives in RDATA in clock `at'`. -/
  | arriving (at' : Nat)
  /-- Its HBM slot is clock `at'` (R207). -/
  | hbmSlot (at' : Nat)
  /-- It has missed its HBM slot (R207). -/
  | hbmMissed
  /-- It awaits a word from the dispatcher (R359). -/
  | call
  deriving DecidableEq, Repr

/-- An outstanding returning access of a port context and the word it returns (R192: the merge is that of its
capture). `key` is the word read, when a stored word is read. -/
structure ReadOut where
  cluster : Nat
  ctx : Nat
  cyc : Word64
  stage : ReadStage
  value : Word64
  addr : BitVec 40
  key : Option Nat
  hbm : Bool
  /-- The step of the SEND BLOCKING that awaits the word, of its position key (R356). -/
  step : Nat := 0
  deriving DecidableEq, Repr

/-- An outstanding BAR2 read. -/
structure Bar2Out where
  fn : PcieFn
  off : BitVec 36
  wide : Bool
  deriving DecidableEq, Repr

/-- MEM_MARCH_STATUS.PHASE. -/
inductive MarchPhase | idle | copy | march | restore
  deriving DecidableEq, Repr

/-- The design memories. -/
structure MemSt where
  /-- Bank words, `8192*k + w`. -/
  banks : SMap Word64 := []
  /-- Parity failures of bank word halves, `2*(8192*k + w) + half` (R185). -/
  bankBad : SMap Bool := []
  /-- HBM words written since the last HBM key was generated, `2^32*stack + PA/8`; an unlisted word reads as
  R25 states (log 6). -/
  hbm : SMap (Option Word64) := []
  /-- Errors held by HBM bursts, `2^30*stack + PA/32`: 1 corrected, 2 uncorrected (R206, R209). -/
  hbmErr : SMap (BitVec 2) := []
  /-- Number of HBM keys generated so far (R25). -/
  hbmKey : Nat := 0
  queue : List QEntry := []
  notes : List MemNote := []
  /-- The cycle whose overflow makes every execution NS until it commits (R196). -/
  overflow : Option Word64 := none
  /-- The cycle that holds all four partitions of every queue (R196). -/
  allFour : Option Word64 := none
  reads : List ReadOut := []
  /-- B windows: word key and the clock in which the window began (R187, R189). -/
  bWindows : List (Nat × Nat) := []
  /-- BAR2 reads that port A of a bank has performed: word key and clock (R187, R189). -/
  aReads : List (Nat × Nat) := []
  /-- Clock up to which a refresh or a started access occupies each pseudo-channel, and up to which a non-scheduled burst
  does (R208). -/
  pcBusy : SMap Nat := []
  pcBurst : SMap Nat := []
  /-- Non-scheduled bursts that wait to start: pseudo-channel and rank among the requesters of R208, in order of request. -/
  pcReqs : List (Nat × Nat) := []
  bar2 : List Bar2Out := []
  /-- Power state of each bank (R203), and whether a requested transition is pending. -/
  bankPwr : SMap (BitVec 2) := []
  pwrPending : Bool := false
  marchPhase : MarchPhase := .idle
  marchBank : Nat := 0
  marchSpare : Nat := 0
  marchDestr : Bool := false
  /-- The march now running is the second one, of repaired units (R465). -/
  marchSecond : Bool := false
  /-- A self-test started the march, not MEM_MARCH_CTRL. -/
  marchSelfTest : Bool := false
  /-- Spare banks in use: spare number and the bank it serves (R213, R468). -/
  spares : List (Nat × Nat) := []
  deriving DecidableEq, Repr

/-! ### Hatband (spec/07_hatband.md) -/

/-- A VC0 flit in flight (R219, R224), injected by `src` at position `pos`. -/
structure Flit where
  src : Nat
  dst : Nat
  dir : Bool
  ring : Bool
  hops : Nat
  pos : Nat
  inBase : Nat
  lenM1 : Nat
  values : BitVec 128
  cyc : Word64
  /-- The execution that injected it. -/
  exec : Nat := 0
  injected : Nat
  /-- An upset that no check on its link has found has changed it: the checks on its later links meet it (R231). -/
  changed : Bool := false
  deriving DecidableEq, Repr

/-- A flit of VC1 to VC3 (R218, R219, R221): its channel, PRI and OPC, and, as a VC0 flit has them, the route fields, the fields of
a late delivery and the values. Every packet that the spec lays out is one flit, its head and its tail (R232). The flit waits for link
`hop` of its path, in the NI or in an input buffer; past the last link it stands in the NI that it reaches. -/
structure VcFlit where
  vc : Nat
  pri : Nat
  opc : Nat
  flit : Flit
  hop : Nat := 0
  /-- The clock from which it may go on, and the clocks in which its output has not taken it since (R223). -/
  due : Nat
  wait : Nat := 0
  aged : Bool := false
  /-- Its SEQ on the link that it was sent on last, and how often it has been sent there (R235, R236). -/
  seq : Nat := 0
  sent : Nat := 0
  /-- The receiver of link `hop` has discarded it, so it is sent again; while it is `lost` the NAK is under way (R235). -/
  again : Bool := false
  lost : Bool := false
  /-- The upset that it meets on its way; and other packets keep it in its NI while its cycle is the one executed. -/
  upset : Option FlitUpset := none
  held : Bool := false
  deriving DecidableEq, Repr

/-- The sender of a link (R222, R235): SEQ of the next flit of VC1 to VC3, the last 16 of them with their SEQ, oldest first, a NAK on
its way with the SEQ that it names and the clock in which it comes, and the input port served last. -/
structure VcLink where
  seq : Nat := 0
  replay : List (Nat × VcFlit) := []
  nak : Option (Nat × Nat) := none
  last : Nat := 0
  deriving DecidableEq, Repr

/-- The Hatband. -/
structure HbdSt where
  flits : List Flit := []
  /-- The flits of VC1 to VC3, in the order in which they came to where they stand, and the links by `linkKey`. -/
  vcs : List VcFlit := []
  links : SMap VcLink := []
  mapsValid : Bool := false
  linkFailed : Bool := false
  /-- For each link on which a flit of VC1 to VC3 was sent again: its SEQ, and how often it has been sent (R235, R236). -/
  unaccepted : SMap (Nat × Nat) := []
  /-- The clock in which HBD_LINK_SEL was last written. -/
  linkFrom : Nat := 0
  /-- The clock from which the promotions of the packets that are not held have still to be counted (R223). -/
  agedFrom : Nat := 0
  deriving DecidableEq, Repr

/-! ### Lanes (spec/08_lanes_multimodule.md) -/

/-- Port states (R255). -/
inductive LaneState
  | disabled | detect | pattern | align | deskew | exchange | active | recovery | halt
  deriving DecidableEq, Repr

/-- What one stripe of a group carries: a value stripe, one to three commit-wave messages, a pedigree word, a TIME message, or
nothing (R244, R247). -/
inductive LanePart
  | value (header : Word64) (values : BitVec 192)
  | wave (msgs : List Word64)
  | pedigree (word : BitVec 128)
  | time (blk : TimeBlock)
  | idle
  deriving DecidableEq, Repr

/-- A group in the replay buffer of a port: its GSEQ, how often it has been sent, and its content (R253, R254). -/
structure OutGroup where
  gseq : BitVec 8
  sent : Nat
  parts : List LanePart := []
  deriving DecidableEq, Repr

/-- One lane port. -/
structure LanePort where
  st : LaneState := .disabled
  /-- Within RECOVERY, the training state it repeats (R255). -/
  sub : LaneState := .pattern
  /-- Role in effect; LNK_CTRL.ROLE takes effect at the next DETECT. -/
  role : BitVec 2 := 0
  locked : BitVec 4 := 0
  pol : BitVec 4 := 0
  reversed : Bool := false
  desync : Bool := false
  /-- Next GSEQ to send, GSEQ expected, and GSEQ of the last group accepted (R252). -/
  txSeq : BitVec 8 := 0
  rxSeq : BitVec 8 := 0
  /-- Groups after a corrupted one are discarded until the resent group arrives; the next control block carries NAK (R252). -/
  nakDue : Bool := false
  nakSend : Bool := false
  /-- ACK of a control block with NAK that has been accepted and not yet answered (R253). -/
  nakRx : Option (BitVec 8) := none
  /-- WAVE messages that are pending on the port, oldest first (R245). -/
  waveQ : List Word64 := []
  /-- Parts of accepted groups that have not yet been handed on, oldest first (R242, R253). -/
  inbox : List LanePart := []
  outstanding : List OutGroup := []
  /-- Control blocks counted since entry into ACTIVE (R245). -/
  ctrlCount : Nat := 0
  /-- BCNT of the next TRAIN block (R256). -/
  bcnt : BitVec 16 := 0
  /-- Peer identity from the last CAPS (LNK_PEER): MODULE, PORT, ROLE and GRADE. -/
  peerModule : BitVec 6 := 0
  peerPort : BitVec 4 := 0
  peerRole : BitVec 2 := 0
  peerGrade : BitVec 16 := 0
  pedRx : BitVec 128 := 0
  pedTx : BitVec 128 := 0
  /-- A pedigree word has been received since the port last entered EXCHANGE. -/
  pedSeen : Bool := false
  /-- A row of R264 marked "None" that concerns the pedigree word applies to the last one received. -/
  pedBlocks : Bool := false
  parked : Bool := false
  deriving DecidableEq, Repr

/-- A value that a hub holds for transmission (R250). -/
structure TxVal where
  port : Nat
  slot : Nat
  pos : Nat
  cyc : Word64
  val : Bool
  deriving DecidableEq, Repr

/-- A value that a hub has received and recorded (R125, R126, R251). `delivered`: some execution has had it
delivered; `delivNow`: the present execution has; `stale`: stale-pending (R137). -/
structure HubRec where
  port : Nat
  cyc : Word64
  txpos : Nat
  slot : Nat
  val : Bool
  gen : BitVec 16
  delivered : Bool := false
  delivNow : Bool := false
  stale : Bool := false
  deriving DecidableEq, Repr

/-- A stripe that waits in a hub for a newer wave generation (R125). -/
structure WaitStripe where
  port : Nat
  cyc : Word64
  gen : BitVec 16
  txpos : Nat
  slot : Nat
  countM1 : Nat
  values : BitVec 192
  deriving DecidableEq, Repr

/-- The lane ports and the lane hubs. Ports are keyed by their number. -/
structure LnkSt where
  ports : SMap LanePort := []
  tx : List TxVal := []
  recs : List HubRec := []
  waiting : List WaitStripe := []
  /-- The values of R127 that the hubs have still to deliver again, in slot-table order: SLOT_HBD entry, and value of the entry. -/
  redeliv : List (Nat × Nat) := []
  deriving DecidableEq, Repr

/-! ### Shared time (spec/09_shared_time.md) -/

/-- TIM_STATUS.STATE. -/
inductive TimState | unsynced | locked | holdover | master
  deriving DecidableEq, Repr

/-- A Sync that awaits its Follow_Up: its SEQID, its receive time-stamp in 2^-16 ns, and the step clock in which it came
(R279). -/
structure PendSync where
  seq : BitVec 16
  rx : Int
  at' : Nat
  deriving DecidableEq, Repr

/-- A peer-delay exchange that the port has begun (R276): time-stamps in 2^-16 ns. -/
structure PendPdelay where
  seq : BitVec 16
  t1 : Int
  t2 : Option Int := none
  t4 : Option Int := none
  deriving DecidableEq, Repr

/-- The time state of a lane port: its last 8 completed measurements in 2^-17 ns, newest first (R276), its open
exchanges and its sequence numbers (log 14). -/
structure TimPort where
  meas : List Int := []
  sync : Option PendSync := none
  pdelay : Option PendPdelay := none
  syncSeq : BitVec 16 := 0
  pdelaySeq : BitVec 16 := 0
  deriving DecidableEq, Repr

/-- The time block. -/
structure TimSt where
  /-- The time counter, in 2^-56 ns (log 13). -/
  count : Nat := 0
  /-- The rate correction r, in 2^-40 (log 13), and the servo's integral, which has no width of its own. -/
  rate : Int := 0
  integ : Rat := 0
  st : TimState := .unsynced
  stepped : Bool := false
  /-- Recorded, or own, master number and EPOCH. -/
  gm : BitVec 6 := 0
  epoch : BitVec 8 := 0
  /-- GM and EPOCH last received on the upstream port (R278). -/
  rxGm : BitVec 6 := 0
  rxEpoch : BitVec 8 := 0
  /-- Consecutive Syncs with |o| at or below LOCK (R280). -/
  lockRun : Nat := 0
  ports : SMap TimPort := []
  deriving DecidableEq, Repr

/-! ### Glove (spec/10_glove.md) -/

/-- Region states, in the order of their codes (R304). -/
inductive RegionState | empty | loading | isolated | running | fault | parked
  deriving DecidableEq, Repr

/-- The steps of a region's start (R300): none under way, the flip-flops at INIT in reset, or the flip-flops and the pin cells
released with the border still held. -/
inductive RegionStage | steady | init | released
  deriving DecidableEq, Repr

/-- A Glove region. Frames are keyed by their index, macrocells by `32*b + m`, its lines by the bit of OUT_PARK
(spine lines 0 to 63, DI lines 64 to 319), its pins by their number in the region. -/
structure GlvRegion where
  st : RegionState := .empty
  stage : RegionStage := .steady
  frames : SMap (BitVec 1024) := []
  /-- The park record of the bitstream last loaded (80 bytes), and its MAP_TAG. -/
  park : List Byte := []
  mapTag : Word32 := 0
  /-- Macrocell outputs Q, and the clock level each macrocell last saw. -/
  q : SMap Bool := []
  clk : SMap Bool := []
  /-- Last values of the lines that the region drives, and last level and enable of its pins, held while it does
  not run. -/
  heldLines : SMap Bool := []
  heldPins : SMap (Option Bool) := []
  deriving DecidableEq, Repr

/-- The phase of a Glove load, in the order of GLV_LOAD_STATUS.PHASE (R299). -/
inductive GlvPhase | request | header | list | data | start
  deriving DecidableEq, Repr

/-- A Glove load that is running. -/
structure GlvLoad where
  phase : GlvPhase
  source : GloveSource
  regions : BitVec 4
  length : Nat
  header : List Byte := []
  list : List Word32 := []
  deriving DecidableEq, Repr

/-- A DO update that waits (R286): its cycle, the clock in which it is due, and the lines that are 1. -/
structure DoEntry where
  cyc : Word64
  due : Nat
  lines : SMap Bool
  deriving DecidableEq, Repr

/-- Glove. -/
structure GlvSt where
  regions : SMap GlvRegion := []
  load : Option GlvLoad := none
  /-- Levels that the outside drives the user pins to, by pin number; none where it drives a pin not at all. -/
  pinIn : SMap (Option Bool) := []
  /-- The level that each keeper holds (R295). -/
  pinLast : SMap Bool := []
  /-- DO lines, and the level of DO_STROBE and DI_STROBE. -/
  doLine : SMap Bool := []
  doStrobe : Bool := false
  diStrobe : Bool := false
  /-- The level of the GLV_CFG clock that GCLK code 6 selects. -/
  cfgClk : Bool := false
  doQueue : List DoEntry := []
  /-- Step clock of the last DO update. -/
  doLast : Option Nat := none
  /-- Mapped DI lines as last seen, and the step clock of each one's last change (R287). -/
  diSeen : SMap Bool := []
  diChanged : SMap Nat := []
  /-- The samples bound to cycle numbers, by DI line (R120, R287). -/
  binds : List (Word64 × SMap Bool) := []
  mapMismatch : Bool := false
  residentOk : Bool := false
  /-- The resident load has been made or has failed at this start (R309). -/
  residentDone : Bool := false
  /-- Default weak pulls of the banks before a region is configured (R303). -/
  pulls : SMap (BitVec 2) := []
  /-- Regions that the present sweep of the signature engine has finished (R307). -/
  swept : List Nat := []
  /-- Step clock, plus 1, of the last edge of each TDC input (R310). -/
  tdcLast : SMap Nat := []
  deriving DecidableEq, Repr

/-! ### Aster (spec/11_aster.md) -/

/-- A TDC edge that waits for its cycle's evaluation (R324). -/
structure TdcRec where
  input : Nat
  clk : Nat
  code : Nat
  /-- Shared time at the start of clock `clk`, in 2^-56 ns. -/
  time : Nat
  cyc : Option Word64 := none
  deriving DecidableEq, Repr

/-- A committed cycle that waits for its evaluation, with its commit clock, the shared time of that clock, and the
probe values of its committed copy (R314, R315). -/
structure AstEntry where
  cyc : Word64
  clk : Nat
  time : Nat
  probes : BitVec 1024
  acts : BitVec 4096
  deriving DecidableEq, Repr

/-- A buffered golden record (R329): E and M word by word; `bad` after an uncorrected error (R331). -/
structure GoldenRec where
  index : Nat
  e : List Word64
  m : List Word64
  bad : Bool
  deriving DecidableEq, Repr

/-- Aster. -/
structure AstSt where
  /-- The applied program: the shadowed registers as they stood when they were applied, by BAR0 offset. -/
  applied : SMap Word32 := []
  /-- STAGED: the checked shadows await an apply. -/
  staged : Bool := false
  armed : Bool := false
  state : BitVec 4 := 0
  /-- Commit clock and cycle from which each timer counts (R320). -/
  tmrClk : SMap Nat := []
  tmrCyc : SMap Word64 := []
  /-- Q, and the activity probes of the cycle before (R315, R332). -/
  prevP : BitVec 1024 := 0
  prevA : BitVec 4096 := 0
  queue : List AstEntry := []
  /-- Last evaluated cycle, or the cycle before the first one to be evaluated. -/
  lastEval : Word64 := 0
  tdc : List TdcRec := []
  triggered : Bool := false
  /-- The cycle at which Aster stopped (R327). -/
  stopped : Option Word64 := none
  golden : List GoldenRec := []
  /-- Index of the next golden record to read. -/
  goldenNext : Nat := 0
  sums : SMap Nat := []
  /-- The interval that is accumulating is the first one after arming or a rewind (R333). -/
  avgFirst : Bool := true
  deriving DecidableEq, Repr

/-! ### Larkspur (spec/12_larkspur.md) -/

/-- An Aster action that Larkspur marks (R342): a first trigger with its time in 2^-56 ns and INFO. -/
inductive LksMark
  | first (time : Nat) (info : Byte)
  | later
  | start
  | stop
  deriving DecidableEq, Repr

/-- A memory write of a cycle as Larkspur sees it (R336). -/
structure LksMemw where
  hbm : Bool
  addr : Nat
  data : Word64
  mask : Word64
  deriving DecidableEq, Repr

/-- A committed cycle that Larkspur has not closed (R337). -/
structure LksCyc where
  cyc : Word64
  probes : BitVec 1024
  memw : List LksMemw
  marks : List LksMark := []
  avg : Option (Bool × List Nat) := none
  /-- Aster's evaluation of the cycle has ended, or none is to come. -/
  evaluated : Bool
  deriving DecidableEq, Repr

/-- A block that waits for its sink: its 4,096 bytes, its number and the packets that start in it. -/
structure LksBlock where
  seq : Nat
  bytes : List Byte
  packets : Nat
  deriving DecidableEq, Repr

/-- Larkspur. -/
structure LksSt where
  armed : Bool := false
  capturing : Bool := false
  onFallback : Bool := false
  sinkLost : Bool := false
  status : Byte := 0
  cycs : List LksCyc := []
  idle : Nat := 0
  /-- Reference values: the previous probe values, the previous MEMW addresses of the two spaces, the previous FLOW
  targets of the two cores (R343). -/
  prevP : BitVec 1024 := 0
  ma : Nat × Nat := (0, 0)
  fa : Nat × Nat := (0, 0)
  /-- Bits [63:48] of the ns count last reported (R345). -/
  hi : BitVec 16 := 0
  anchorDue : Bool := false
  sinceAnchor : Nat := 0
  /-- ns count of the last anchor. -/
  anchorNs : Nat := 0
  lastClosed : Word64 := 0
  /-- The block being filled: its stream bytes, the offset of the first packet that starts in it, and how many do. -/
  cur : List Byte := []
  first : Option Nat := none
  packets : Nat := 0
  bseq : Nat := 0
  blocks : List LksBlock := []
  /-- Packets are being lost (R349), and how many since the last OVERFLOW. -/
  losing : Bool := false
  lost : Nat := 0
  /-- TRACE is asserted (R350). -/
  bp : Bool := false
  /-- The sealing key of the trace grant under which Larkspur was armed, the grant's nonce, and the blocks sent to
  each sink since the grant took effect (R346, R412). -/
  sealKey : BitVec 256 := 0
  sealNonce : BitVec 128 := 0
  sent : SMap Nat := []
  /-- PCIe bus mastering is disabled (R348). -/
  busMasterOff : Bool := false
  deriving DecidableEq, Repr

/-! ### Message dispatcher (spec/13_dispatcher.md) -/

/-- Where a message stands between its first word and its end (R355 to R368). -/
inductive MsgSt
  /-- Still taking words. -/
  | open'
  /-- Closed; its cycle has not committed, or the call is not yet released. -/
  | closed
  /-- Waits for the commit of a cycle (DELAY on a channel with TICK 0). -/
  | delayCycle (until' : Word64)
  /-- Waits for this many more dispatcher ticks (TICK 1). -/
  | delayTick (left : Nat)
  | released
  | delivered
  /-- A withdrawn call that its core has not acknowledged; the WITHDRAW record is still to be written. -/
  | withdrawPending
  /-- A withdrawn call whose WITHDRAW record has been written. -/
  | withdrawn
  deriving DecidableEq, Repr

/-- A message and the slot it holds. `id` is its own number, in order of first capture; `lost` marks a message
that found no slot, and `unplaced` one that takes none while it may still match an attached call (R370). `closeClk` is the
capture clock of its last word. The position key is (`step`, `cluster`, `ctx`) (R356). -/
structure Msg where
  id : Nat
  slot : Nat
  lost : Bool := false
  unplaced : Bool := false
  cyc : Word64
  ch : Nat
  cluster : Nat
  ctx : Nat
  step : Nat
  closeClk : Nat := 0
  words : List Word64
  prio : Nat
  delay : Nat
  trunc : Bool := false
  call : Bool := false
  barrier : Bool := false
  st : MsgSt := .open'
  /-- Ids of the messages that its dependence counter still counts (R361). -/
  deps : List Nat := []
  /-- The clock of its cycle's commit, of a message that waits for its release (R358). -/
  comClk : Nat := 0
  /-- Wave generation, clock and serial number of its release. -/
  gen : BitVec 16 := 0
  provisional : Bool := false
  relClk : Nat := 0
  relSeq : Nat := 0
  core : Nat := 0
  delivClk : Nat := 0
  /-- The host's answer to a call, bound to the cycle (R367). -/
  resp : Option Word64 := none
  completed : Bool := false
  /-- The execution that held the call was discarded (R368), and whether the present execution matched it. -/
  attached : Bool := false
  matched : Bool := false
  deriving DecidableEq, Repr

/-- A posted word of a RECV channel, with the number that keeps the original order (R366, R369). -/
structure Posted where
  ch : Nat
  seq : Nat
  word : Word64
  deriving DecidableEq, Repr

/-- The result of a RECV call bound to a cycle under its position key (R369); `word` is none where RDATA took
0. -/
structure RecvBind where
  cyc : Word64
  ch : Nat
  step : Nat
  cluster : Nat
  ctx : Nat
  word : Option Posted
  used : Bool := true
  deriving DecidableEq, Repr

/-- A RECV call that waits for a word (R369). -/
structure RecvWait where
  cyc : Word64
  ch : Nat
  step : Nat
  cluster : Nat
  ctx : Nat
  deriving DecidableEq, Repr

/-- The dispatcher. -/
structure DspSt where
  msgs : List Msg := []
  nextId : Nat := 0
  nextRel : Nat := 0
  posted : List Posted := []
  nextPost : Nat := 0
  binds : List RecvBind := []
  waits : List RecvWait := []
  /-- MISUSE of executions that have not committed: cycle and channel (R353). -/
  misuse : List (Word64 × Nat) := []
  /-- The cycle whose exhaustion makes every execution NS until it commits (R370). -/
  exhaust : Option Word64 := none
  /-- DATA last written in each core's window (R366). -/
  data : SMap Word64 := []
  deriving DecidableEq, Repr

/-! ### Host interface (spec/14_host_registers_ownership.md) -/

/-- One MSI-X table entry: message address, message data and the vector's mask bit (R376, R379). -/
structure MsixEntry where
  addr : Word64 := 0
  data : Word32 := 0
  masked : Bool := true
  deriving DecidableEq, Repr

/-- The MSI-X state of one PCIe function: MSI-X Enable, the table and the pending bit array (R376, R379).
Reset: disabled, every vector masked, no pending bit (the PCIe family's values, PRESUMED, log 5). -/
structure Msix where
  enabled : Bool := false
  table : SMap MsixEntry := []
  pba : SMap Bool := []
  deriving DecidableEq, Repr

/-- One path's GBL_SNAP: BLOCK, HELD, DONE, the block that is captured, and the captured values by BAR0 offset
(R386). -/
structure Snap where
  block : BitVec 5 := 0
  captured : BitVec 5 := 0
  held : Bool := false
  done : Bool := false
  vals : SMap Word32 := []
  deriving DecidableEq, Repr

/-- The state of the host interface that no BAR0 register holds. -/
structure HostSt where
  /-- The PCIe link is in DL_Active (R395). -/
  dlActive : Bool := false
  /-- The rate of the link in units of 100 MT/s and its width in lanes; 0 while it is down (R377). -/
  linkRate : Nat := 0
  linkWidth : Nat := 0
  /-- The bus addresses that BAR0, BAR2 and BAR4 of PF0 and of PF1 are assigned (R376, R378). -/
  bars0 : List Word64 := [0, 0, 0]
  bars1 : List Word64 := [0, 0, 0]
  /-- PERST_N is asserted (R476). -/
  perst : Bool := false
  /-- PF0 and PF1 are in Function Level Reset (R378, R395). -/
  flr0 : Bool := false
  flr1 : Bool := false
  msix0 : Msix := {}
  msix1 : Msix := {}
  snap0 : Snap := {}
  snap1 : Snap := {}
  snapS : Snap := {}
  /-- SMBALERT_N is asserted (R381). -/
  smbAlert : Bool := false
  /-- The offset of a BAR0 read that SMBus command 0x02 has started and that has not completed (R382). -/
  smbRead : Option (BitVec 32) := none
  smbStatus : Byte := 0
  smbValue : Word32 := 0
  smbWStatus : Byte := 0
  jtag : JtagInstr := .idcode
  /-- How often the current JTAG instruction has changed. -/
  jtagCnt : Nat := 0
  /-- A write to a covered field or to GBL_CFGCRC_REF was accepted during this sweep (R389). -/
  sweepDirty : Bool := false
  deriving DecidableEq, Repr

/-- GBL_OWN.STATE (R394, R397). -/
inductive OwnState | claim | owned | vacant
  deriving DecidableEq, Repr

/-- Ownership (R393 to R400). GBL_OWN reads from these fields. -/
structure OwnSt where
  st : OwnState := .vacant
  owner : Master := .none
  claimHost : Bool := false
  claimBmc : Bool := false
  claimCond : Bool := false
  /-- Step clock of the last heartbeat from the owner's path (R395). -/
  beatAt : Nat := 0
  gen : BitVec 8 := 0
  /-- The first claim window of this start-up has closed (R397). -/
  firstClosed : Bool := false
  deriving DecidableEq, Repr

/-! ### Bonnet (spec/15_bonnet_security.md) -/

/-- A mailbox (R405): STATUS, RESP_LEN and the response area, and what was last written to the request area. -/
structure Mbox where
  area : List Byte := []
  busy : Bool := false
  done : Bool := false
  code : Byte := 0
  resp : List Byte := []
  deriving DecidableEq, Repr

/-- A submitted request. -/
structure Request where
  path : Path
  bytes : List Byte
  deriving DecidableEq, Repr

/-- An observation grant (R411): its fields, and the counts q per core, b per sink and s of R412 and R413. -/
structure Grant where
  nonce : BitVec 128
  kind : BitVec 2
  masked : Bool
  write : Bool
  pf1 : Bool
  cores : BitVec 16
  base : Word32
  units : Word32
  q : SMap Nat := []
  b : SMap Nat := []
  s : Nat := 0
  deriving DecidableEq, Repr

/-- Bonnet. Slots 0 to 2 of `keys` and the registers BNT_CTR_s stand in MRAM. -/
structure BntSt where
  keys : SMap (Option (BitVec 256)) := []
  kImg : Option (BitVec 256) := none
  kAuth : Option (BitVec 256) := none
  kObs : Option (BitVec 256) := none
  grants : SMap (Option Grant) := []
  /-- The mask epoch E. -/
  epoch : Nat := 0
  debugUnlock : Bool := false
  /-- The unlock was made with no image installed (R414). -/
  debugNoImage : Bool := false
  reqs : List Request := []
  box0 : Mbox := {}
  boxS : Mbox := {}
  deriving DecidableEq, Repr

/-! ### Start-up, update and reset (spec/16_boot_update_reset.md) -/

/-- The stages of start-up (R422), and the states before POR_N is released and with the supplies removed. -/
inductive BootStage
  | fuse | analog | resident | journal | copy | header | items | controllers | claim | up | halted
  /-- POR_N is asserted. -/
  | porHeld
  /-- The supplies are removed (R439). -/
  | off
  deriving DecidableEq, Repr

/-- A flash slot. -/
inductive FlashSlot | a | b
  deriving DecidableEq, Repr

/-- TRIAL of the boot record. -/
inductive Trial | none | slot (s : FlashSlot) | staging
  deriving DecidableEq, Repr

/-- An item entry of a package header (R425). -/
structure ItemEntry where
  type : Nat
  length : Nat
  offset : Nat
  digest : BitVec 384
  deriving DecidableEq, Repr

/-- A copy of the Cloche settings in MRAM (R435): its format, whether confirmed firmware wrote it, and the settings, whose form
nothing states. -/
structure Settings where
  fmt : Byte
  confirmed : Bool
  data : Word64
  deriving DecidableEq, Repr

/-- A repair record (R466). -/
structure RepairRec where
  kind : BitVec 2
  target : BitVec 2
  spare : BitVec 2
  index : BitVec 9
  unit : BitVec 16
  deriving DecidableEq, Repr

/-- The MRAM keep but for the parts named elsewhere: the image-invalid flag (LoadSt), Bonnet's keys and counters
(BntSt), and the ledger (LdgSt). -/
structure MramSt where
  active : Option FlashSlot := none
  trial : Trial := .none
  fusePending : Bool := false
  /-- The staging area of 8 MiB, byte by byte; an unlisted byte reads 0xFF (log 40). The journal units of 4 KiB whose
  last byte and journal record are written (R432). -/
  staging : SMap Byte := []
  stageDone : List Nat := []
  /-- A staging write was interrupted by a reset (R438). -/
  stageTorn : Bool := false
  /-- COPY has verified the staged package in flash up to here, in bytes (R438). -/
  copied : Nat := 0
  /-- The two resident copies, and the selector (R438). -/
  residentA : List Byte := []
  residentB : List Byte := []
  residentSel : Bool := false
  pulls : SMap (BitVec 2) := []
  repairs : List Word32 := []
  /-- The failure record (R455): test code and unit. -/
  failure : Option (Byte × BitVec 16) := none
  settings : List Settings := []
  deriving DecidableEq, Repr

/-- The resident bitstream that the selector names. -/
def MramSt.resident (m : MramSt) : List Byte := if m.residentSel then m.residentB else m.residentA

/-- A new resident bitstream is written over the copy that the selector does not name, and then selected (R438). -/
def MramSt.setResident (m : MramSt) (b : List Byte) : MramSt :=
  if m.residentSel then { m with residentA := b, residentSel := false } else { m with residentB := b, residentSel := true }

/-- Start-up, update and reset. -/
structure BootSt where
  stage : BootStage := .fuse
  mram : MramSt := {}
  /-- The flash device: slot A from 0, slot B from 0x100_0000; an unlisted byte reads 0xFF (log 40). -/
  flash : SMap Byte := []
  /-- Slots still to be tried at this start, the one being read first (R430). -/
  tries : List FlashSlot := []
  /-- The slot that would have been booted without failures. -/
  wanted : Option FlashSlot := none
  /-- The slot booted, none in recovery. -/
  booted : Option FlashSlot := none
  /-- The booted slot is on trial. -/
  onTrial : Bool := false
  /-- Header fields and items of the package being read. -/
  header : List Byte := []
  /-- The running firmware's package header, and that of the package a live handover starts. -/
  runHeader : List Byte := []
  liveHeader : List Byte := []
  fabricBusy : Bool := false
  reqs : List Request := []
  box0 : Mbox := {}
  boxS : Mbox := {}
  /-- SMB_ADDR[1:0] as sampled (R477). -/
  smbAddr : BitVec 2 := 0
  /-- A live handover waits for Cloche B (R436). -/
  handover : Bool := false
  /-- Cloche B is active (R21). -/
  activeB : Bool := false
  fwTrial : Bool := false
  deriving DecidableEq, Repr

/-! ### Power, ledger and self-test (spec/17_power_thermal_ledger.md, spec/18_selftest_repair.md) -/

/-- The power state apart from the difference between RUN and HOLD, which SCH_STATUS.STATE makes (R439). -/
inductive PowMode | on | doze | nap
  deriving DecidableEq, Repr

/-- The power block. -/
structure PwrSt where
  mode : PowMode := .on
  /-- Clocks of Doze and Nap, in which the step clocks were gated (R439). -/
  gated : Nat := 0
  /-- The states still to be passed through in the transition that runs, in order (R441). -/
  trans : List PowMode := []
  lth : Nat := 0
  lramp : Nat := 0
  /-- Ramp time in µs while a ramp runs (R447). -/
  rampT : Option Nat := none
  /-- A long hold has ended no ramp yet: the next issue clock after a start point starts one. -/
  longHold : Bool := true
  /-- A long hold has ended within a cycle: the ramp starts at the next start point (R446). -/
  rampNext : Bool := false
  /-- THERMTRIP_N is asserted (R444). -/
  trip : Bool := false
  /-- The voltage histogram takes no sample (R457). -/
  vmonBad : Bool := false
  lfcSeq : BitVec 2 := 0
  /-- The self-test that runs: code, unit and MODE. -/
  test : Option (Byte × BitVec 16 × Bool) := none
  /-- Step clock up to which a TDC input is out of service (R461). -/
  tdcOut : SMap Nat := []
  /-- Units that the second march confirms, and the state of the last march (R464, R465). -/
  repaired : List Nat := []
  failed : List Nat := []
  parked : List (Nat × Nat) := []
  deriving DecidableEq, Repr

/-- The perennial ledger: the counts of its base, the increments since the last write, the sticky bits, and the
256 record slots of MRAM. -/
structure LdgSt where
  base : SMap Nat := []
  pend : SMap Nat := []
  sat : SMap Bool := []
  seq : Word64 := 0
  /-- The record slots of MRAM, 2 KiB each; a slot that nothing has written holds no record. -/
  recs : SMap (List Byte) := []
  /-- The clock of the last record write, which a reset may still tear (R452). -/
  wrote : Option Nat := none
  /-- Slot of the last boot: 0 A, 1 B, 2 recovery. -/
  lastBoot : Nat := 0
  deriving DecidableEq, Repr

/-! ### Fault and refusal reasons -/

/-- Reasons for which a step stops with a fault. The specification gives every command of the table an effect,
so no meaning of this model raises one. -/
inductive Fault where
  /-- Raised by no command; safe. -/
  | none
  deriving DecidableEq, Repr

/-- Reasons for which a command is refused. -/
inductive Refusal where
  /-- Raised by Machine/Dispatch.lean for a command that has no meaning yet; safe. -/
  | notModelled (mnemonic : String)
  deriving DecidableEq, Repr

/-! ### The state -/

/-- The whole state of the module, and the commands that wait for it, first in first out. -/
structure State where
  pending : List Instr := []
  regs : SMap Word32 := []
  /-- Step clocks since the last reset of the die (log 10). -/
  clock : Nat := 0
  /-- Number of the next free value (log 7). -/
  freeCtr : Nat := 0
  out : List Output := []
  ident : IdentSt := {}
  plat : PlatSt := {}
  host : HostSt := {}
  own : OwnSt := {}
  clu : CluSt := {}
  sch : SchSt := {}
  wave : WaveSt := {}
  img : ImageSt := {}
  staged : StagedSt := {}
  load : LoadSt := {}
  mem : MemSt := {}
  hbd : HbdSt := {}
  lnk : LnkSt := {}
  dsp : DspSt := {}
  bnt : BntSt := {}
  tim : TimSt := {}
  glv : GlvSt := {}
  ast : AstSt := {}
  lks : LksSt := {}
  boot : BootSt := {}
  pwr : PwrSt := {}
  ldg : LdgSt := {}
  deriving DecidableEq, Repr

/-- The module right after a cold reset: every field at the value the specification gives, and at the value
that a log entry names where it gives none. -/
def State.reset : State := {}

end Sys2Proof.Machine
end

