-- ==== Sys2Proof/Machine/RegMap.lean ====
section
/-!
DEFINITION. Machine/RegMap.lean: the BAR0 register map. Each row is a register, or a run of registers of one
layout, of the register tables of spec/: its offset, how often and at which stride it stands, and the masks of
its RW, RWL, W1C, W1S, WO and RO bits. Every other bit is a KEEP bit (spec/00_scope.md, "Register access
codes"). The values right after reset that are not zero stand in `resetVal`.
-/
namespace Sys2Proof.Machine

/-- One register, or a run of `count` registers of one layout at `stride` bytes. -/
structure RegRow where
  name : String
  base : Nat
  stride : Nat
  count : Nat
  rw : Word32
  rwl : Word32
  w1c : Word32
  w1s : Word32
  wo : Word32
  ro : Word32
  deriving DecidableEq, Repr

/-! BAR0 offsets of the registers (the first of each run; the cluster and lane windows are those of
cluster 0 and port 0, R30). -/
namespace Reg

abbrev GBL_DEVICE_ID : Nat := 0
abbrev GBL_CLOCHE : Nat := 0x10
abbrev GBL_PARKED : Nat := 0x14
abbrev GBL_FW_VER : Nat := 0x18
abbrev GBL_ERR_STATUS : Nat := 0x20
abbrev GBL_ERR_ADDR : Nat := 0x24
abbrev GBL_ERR_INFO : Nat := 0x28
abbrev GBL_LOCK : Nat := 0x30
abbrev GBL_SNAP : Nat := 0x40
abbrev GBL_CFGCRC_CTRL : Nat := 0x60
abbrev GBL_CFGCRC_REF : Nat := 0x64
abbrev GBL_CFGCRC_LAST : Nat := 0x68
abbrev GBL_CFGCRC_STATUS : Nat := 0x6C
abbrev GBL_OWN : Nat := 0x80
abbrev GBL_OWN_CLAIM : Nat := 0x84
abbrev GBL_OWN_BEAT : Nat := 0x88
abbrev GBL_OWN_POLICY : Nat := 0x8C
abbrev GBL_BOOT : Nat := 0xA0
abbrev GBL_RESET : Nat := 0xB0
abbrev GBL_BLOCK_RESET : Nat := 0xB4
abbrev GBL_EVT_PEND : Nat := 0x1000
abbrev GBL_EVT_MASK : Nat := 0x1100
abbrev GBL_EVT_ROUTE : Nat := 0x4000
abbrev BNT_STATUS : Nat := 0x100000
abbrev BNT_CAUSE : Nat := 0x100004
abbrev BNT_CTR : Nat := 0x100010
abbrev BNT_EPOCH : Nat := 0x100040
abbrev BNT_OBS_CYC : Nat := 0x100044
abbrev BNT_FUSE_SV : Nat := 0x100050
abbrev BNT_AUTHFAIL : Nat := 0x100060
abbrev BNT_GRANT : Nat := 0x100100
abbrev BNT_GRANT_BASE : Nat := 0x100104
abbrev BNT_GRANT_UNITS : Nat := 0x100108
abbrev SCH_CTRL : Nat := 0x200000
abbrev SCH_STATUS : Nat := 0x200004
abbrev SCH_GEOM : Nat := 0x200008
abbrev SCH_CYCLE : Nat := 0x200010
abbrev SCH_RUN_COUNT : Nat := 0x200018
abbrev SCH_HOLD_SRC : Nat := 0x200020
abbrev SCH_HOLD_LIMIT : Nat := 0x200024
abbrev SCH_HOLD_CAPT : Nat := 0x200028
abbrev SCH_CNT_HELD : Nat := 0x200040
abbrev SCH_CNT_SAT : Nat := 0x200060
abbrev SCH_APPLY : Nat := 0x200080
abbrev SCH_APPLY_CYC : Nat := 0x200084
abbrev SCH_CKPT_CTRL : Nat := 0x2000A0
abbrev SCH_CKPT_STATUS : Nat := 0x2000A4
abbrev SCH_CKPT_SEL : Nat := 0x2000A8
abbrev SCH_CKPT_CYC : Nat := 0x2000AC
abbrev SCH_REWIND : Nat := 0x2000C0
abbrev SCH_WAVE_CFG : Nat := 0x200100
abbrev SCH_WAVE_TIMEOUT : Nat := 0x200104
abbrev SCH_WAVE_MEMBERS : Nat := 0x200108
abbrev SCH_WAVE_STATUS : Nat := 0x200110
abbrev SCH_COMMITTED : Nat := 0x200114
abbrev SCH_COND_STATUS : Nat := 0x200120
abbrev SCH_COND_READY : Nat := 0x200124
abbrev SCH_REPLAY : Nat := 0x200130
abbrev SCH_REPLAY_CYC : Nat := 0x200134
abbrev SCH_SPC : Nat := 0x200200
abbrev SCH_SPC_SAT : Nat := 0x2002F0
abbrev SCH_LOAD_CTRL : Nat := 0x200300
abbrev SCH_LOAD_ADDR : Nat := 0x200304
abbrev SCH_LOAD_STATUS : Nat := 0x200314
abbrev SCH_LOAD_DETAIL : Nat := 0x200318
abbrev SCH_LOAD_WHERE : Nat := 0x20031C
abbrev SCH_IMAGE_DIGEST : Nat := 0x200320
abbrev SCH_IMAGE_INFO : Nat := 0x200350
abbrev CLU_STATUS : Nat := 0x400000
abbrev CLU_CAUSE : Nat := 0x400004
abbrev CLU_ERR_LOC : Nat := 0x400008
abbrev CLU_ERR_CYC_LO : Nat := 0x40000C
abbrev CLU_ERR_CYC_HI : Nat := 0x400010
abbrev CLU_VERIFY : Nat := 0x400020
abbrev CLU_CNT_HOLD : Nat := 0x400040
abbrev CLU_CNT_PRED : Nat := 0x400044
abbrev CLU_CNT_MISS : Nat := 0x400048
abbrev CLU_CNT_RACE : Nat := 0x40004C
abbrev CLU_CNT_ISSUE : Nat := 0x400050
abbrev CLU_CNT_SAT : Nat := 0x400060
abbrev HBD_STATUS : Nat := 0x800000
abbrev HBD_CAUSE : Nat := 0x800004
abbrev HBD_ERR_LOC : Nat := 0x800008
abbrev HBD_ERR_CYC : Nat := 0x80000C
abbrev HBD_AGE : Nat := 0x800020
abbrev HBD_CNT : Nat := 0x800040
abbrev HBD_CNT_SAT : Nat := 0x800060
abbrev HBD_LINK_SEL : Nat := 0x800100
abbrev HBD_LINK_FLITS : Nat := 0x800104
abbrev LNK_CTRL : Nat := 0x900000
abbrev LNK_STATUS : Nat := 0x900004
abbrev LNK_CAUSE : Nat := 0x900008
abbrev LNK_ERR_LOC : Nat := 0x90000C
abbrev LNK_PEER : Nat := 0x900010
abbrev LNK_CNT_SAT : Nat := 0x900060
abbrev LNK_PED_RX_0 : Nat := 0x900014
abbrev LNK_PED_TX_0 : Nat := 0x900024
abbrev LNK_PED_RX_1 : Nat := 0x900018
abbrev LNK_PED_TX_1 : Nat := 0x900028
abbrev LNK_PED_RX_2 : Nat := 0x90001C
abbrev LNK_PED_TX_2 : Nat := 0x90002C
abbrev LNK_PED_RX_3 : Nat := 0x900020
abbrev LNK_PED_TX_3 : Nat := 0x900030
abbrev LNK_CNT_0 : Nat := 0x900040
abbrev LNK_CNT_1 : Nat := 0x900044
abbrev LNK_CNT_2 : Nat := 0x900048
abbrev LNK_CNT_3 : Nat := 0x90004C
abbrev LNK_CNT_4 : Nat := 0x900050
abbrev LNK_CNT_5 : Nat := 0x900054
abbrev LNK_CNT_6 : Nat := 0x900058
abbrev LNK_CNT_7 : Nat := 0x90005C
abbrev LNK_SUMMARY : Nat := 0x908000
abbrev TIM_CTRL : Nat := 0xA00000
abbrev TIM_STATUS : Nat := 0xA00004
abbrev TIM_CFG : Nat := 0xA00008
abbrev TIM_THRESH : Nat := 0xA0000C
abbrev TIM_NOW : Nat := 0xA00010
abbrev TIM_SET : Nat := 0xA00020
abbrev TIM_SET_GO : Nat := 0xA0002C
abbrev TIM_RATE : Nat := 0xA00030
abbrev TIM_RATE_TRIM : Nat := 0xA00034
abbrev TIM_OFFSET : Nat := 0xA00038
abbrev TIM_CNT_BAD : Nat := 0xA0003C
abbrev TIM_CAPT_CTRL : Nat := 0xA00040
abbrev TIM_CAPT : Nat := 0xA00044
abbrev TIM_ASYM : Nat := 0xA00100
abbrev TIM_MPD : Nat := 0xA00104
abbrev TIM_PORT_OFS : Nat := 0xA00108
abbrev MEM_STATUS : Nat := 0xB00000
abbrev MEM_CAUSE : Nat := 0xB00004
abbrev MEM_ERR_ADDR : Nat := 0xB00008
abbrev MEM_ERR_INFO : Nat := 0xB00010
abbrev MEM_CNT : Nat := 0xB00040
abbrev MEM_CNT_SAT : Nat := 0xB00060
abbrev MEM_BANK_PWR : Nat := 0xB00100
abbrev MEM_PWR_STATUS : Nat := 0xB00180
abbrev MEM_MARCH_CTRL : Nat := 0xB00200
abbrev MEM_MARCH_STATUS : Nat := 0xB00204
abbrev MEM_BAR2_STATUS : Nat := 0xB00280
abbrev MEM_HBM_CE : Nat := 0xB00400
abbrev GLV_CTRL : Nat := 0xC00000
abbrev GLV_STATUS : Nat := 0xC00004
abbrev GLV_CAUSE : Nat := 0xC00008
abbrev GLV_ERR_LOC : Nat := 0xC0000C
abbrev GLV_LOAD_STATUS : Nat := 0xC00010
abbrev GLV_LOAD_DETAIL : Nat := 0xC00014
abbrev GLV_SIG : Nat := 0xC00020
abbrev GLV_GOLD : Nat := 0xC00030
abbrev GLV_TDC_EN : Nat := 0xC00080
abbrev GLV_CNT : Nat := 0xC000A0
abbrev GLV_CNT_SAT : Nat := 0xC000C0
abbrev AST_CTRL : Nat := 0xD00000
abbrev AST_STATUS : Nat := 0xD00004
abbrev AST_CAUSE : Nat := 0xD00008
abbrev AST_SHADOW : Nat := 0xD0000C
abbrev AST_TRIG_CYC : Nat := 0xD00020
abbrev AST_TRIG : Nat := 0xD00028
abbrev AST_TRIG_INFO : Nat := 0xD00038
abbrev AST_TRIG_TDC : Nat := 0xD00040
abbrev AST_SEQCNT : Nat := 0xD00080
abbrev AST_LIMIT : Nat := 0xD000A0
abbrev AST_TMR : Nat := 0xD000C0
abbrev AST_TLIM_j_LO : Nat := 0xD000E0
abbrev AST_TLIM_j_HI : Nat := 0xD000E4
abbrev AST_SEQ_A : Nat := 0xD00100
abbrev AST_COND_MODE : Nat := 0xD00200
abbrev AST_MT_CTRL : Nat := 0xD00300
abbrev AST_MT_STATUS : Nat := 0xD00304
abbrev AST_MT_ADDR_LO : Nat := 0xD00308
abbrev AST_MT_ADDR_HI : Nat := 0xD0030C
abbrev AST_MT_START : Nat := 0xD00310
abbrev AST_MT_COUNT : Nat := 0xD00318
abbrev AST_MT_VCYC : Nat := 0xD00320
abbrev AST_MT_VBIT : Nat := 0xD00328
abbrev AST_MT_VCNT : Nat := 0xD0032C
abbrev AST_AVG_CTRL : Nat := 0xD00400
abbrev AST_AVG_STATUS : Nat := 0xD00404
abbrev AST_AVG_CYC : Nat := 0xD00408
abbrev AST_STAT : Nat := 0xD00500
abbrev AST_STAT_SAT : Nat := 0xD00520
abbrev AST_AVG_RES : Nat := 0xD00800
abbrev AST_COND_MASK : Nat := 0xD01000
abbrev LKS_CTRL : Nat := 0xD80000
abbrev LKS_STATUS : Nat := 0xD80004
abbrev LKS_CAUSE : Nat := 0xD80008
abbrev LKS_PROBE_EN : Nat := 0xD80010
abbrev LKS_SINK : Nat := 0xD80014
abbrev LKS_BP : Nat := 0xD80018
abbrev LKS_FLUSH_US : Nat := 0xD8001C
abbrev LKS_RING_BASE_LO : Nat := 0xD80020
abbrev LKS_RING_BASE_HI : Nat := 0xD80024
abbrev LKS_RING_SIZE : Nat := 0xD80028
abbrev LKS_RING_WR : Nat := 0xD8002C
abbrev LKS_HOST_BASE : Nat := 0xD80030
abbrev LKS_HOST_SLOTS : Nat := 0xD80038
abbrev LKS_HOST_RD : Nat := 0xD8003C
abbrev LKS_HOST_WR : Nat := 0xD80040
abbrev LKS_CNT : Nat := 0xD80060
abbrev LKS_CNT_SAT : Nat := 0xD80080
abbrev DSP_STATUS : Nat := 0xE00000
abbrev DSP_CH_CFG_ch : Nat := 0xE01000
abbrev DSP_CH_STAT_ch : Nat := 0xE01004
abbrev DSP_CH_CAUSE_ch : Nat := 0xE01008
abbrev DSP_CH_LOAD_ch : Nat := 0xE0100C
abbrev DSP_CORE_BASE_LO : Nat := 0xE02000
abbrev DSP_CORE_BASE_HI : Nat := 0xE02004
abbrev DSP_CORE_ENTRIES : Nat := 0xE02008
abbrev DSP_CORE_WR : Nat := 0xE0200C
abbrev DSP_CORE_RD : Nat := 0xE02010
abbrev DSP_CORE_LOAD : Nat := 0xE02014
abbrev DSP_CORE_OUTST : Nat := 0xE02018
abbrev DSP_CH_HIST_ch : Nat := 0xE04000
abbrev DSP_CORE_HIST : Nat := 0xE08000
abbrev PWR_CTRL : Nat := 0xF00000
abbrev PWR_STATUS : Nat := 0xF00004
abbrev PWR_CAUSE : Nat := 0xF00008
abbrev PWR_TEMP : Nat := 0xF00010
abbrev PWR_VCORE : Nat := 0xF00014
abbrev PWR_AVS : Nat := 0xF00018
abbrev PWR_THERM : Nat := 0xF00020
abbrev PWR_THROT : Nat := 0xF00024
abbrev PWR_RAMP : Nat := 0xF00028
abbrev PWR_LFC : Nat := 0xF00030
abbrev PWR_LDG_SEQ : Nat := 0xF00040
abbrev PWR_VCCIO : Nat := 0xF00050
abbrev PWR_LDG : Nat := 0xF01000
abbrev PWR_LDG_SAT : Nat := 0xF01800
abbrev PWR_ST_CTRL : Nat := 0xF02000
abbrev PWR_ST_STATUS : Nat := 0xF02004
abbrev PWR_ST_LASTFAIL : Nat := 0xF02008
abbrev PWR_ST_PARKED : Nat := 0xF0200C
abbrev PWR_ST_MARCH : Nat := 0xF02010
abbrev PWR_REC_USED : Nat := 0xF02014
abbrev PWR_TDC_FAIL : Nat := 0xF02018
abbrev PWR_TS_EXCL : Nat := 0xF02020
abbrev PWR_ST_CELL : Nat := 0xF02100

end Reg

/-- Registers of block GBL, part 0, from the register tables of spec/14_host_registers_ownership.md R375-R400. -/
def regRowsGbl0 : List RegRow := [
  ⟨"GBL_DEVICE_ID", 0, 0x4, 1, 0, 0, 0, 0, 0, 0xFFFFF0FF⟩,
  ⟨"GBL_CLOCHE", 0x10, 0x4, 1, 0, 0, 0, 0, 0, 0xFFFF000F⟩,
  ⟨"GBL_PARKED", 0x14, 0x4, 1, 0, 0, 0, 0, 0, 0x1FFFFFFF⟩,
  ⟨"GBL_FW_VER", 0x18, 0x4, 1, 0, 0, 0, 0, 0, 0xFFFFFFFF⟩,
  ⟨"GBL_ERR_STATUS", 0x20, 0x4, 1, 0, 0, 0x3F, 0, 0, 0⟩,
  ⟨"GBL_ERR_ADDR", 0x24, 0x4, 1, 0, 0, 0, 0, 0, 0xFFFFFFFF⟩,
  ⟨"GBL_ERR_INFO", 0x28, 0x4, 1, 0, 0, 0, 0, 0, 0x7F⟩,
  ⟨"GBL_LOCK", 0x30, 0x4, 1, 0, 0, 0, 0xFFFFFFFF, 0, 0⟩,
  ⟨"GBL_SNAP", 0x40, 0x4, 1, 0x1F, 0, 0, 0, 0x300, 0x30000⟩,
  ⟨"GBL_CFGCRC_CTRL", 0x60, 0x4, 1, 0x3, 0, 0, 0, 0, 0⟩,
  ⟨"GBL_CFGCRC_REF", 0x64, 0x4, 1, 0xFFFFFFFF, 0, 0, 0, 0, 0⟩,
  ⟨"GBL_CFGCRC_LAST", 0x68, 0x4, 1, 0, 0, 0, 0, 0, 0xFFFFFFFF⟩,
  ⟨"GBL_CFGCRC_STATUS", 0x6C, 0x4, 1, 0, 0, 0x1, 0, 0, 0x2⟩,
  ⟨"GBL_OWN", 0x80, 0x4, 1, 0, 0, 0, 0, 0, 0xC0FF072F⟩,
  ⟨"GBL_OWN_CLAIM", 0x84, 0x4, 1, 0, 0, 0, 0, 0x1, 0⟩,
  ⟨"GBL_OWN_BEAT", 0x88, 0x4, 1, 0, 0, 0, 0, 0xFFFFFFFF, 0⟩]

/-- Registers of block GBL, part 1, from the register tables of spec/14_host_registers_ownership.md R375-R400. -/
def regRowsGbl1 : List RegRow := [
  ⟨"GBL_OWN_POLICY", 0x8C, 0x4, 1, 0, 0, 0, 0, 0, 0xFFFF0FFF⟩,
  ⟨"GBL_BOOT", 0xA0, 0x4, 1, 0, 0, 0x180, 0, 0, 0xFFFF027F⟩,
  ⟨"GBL_RESET", 0xB0, 0x4, 1, 0, 0, 0, 0, 0x3, 0x4⟩,
  ⟨"GBL_BLOCK_RESET", 0xB4, 0x4, 1, 0x1F, 0, 0, 0, 0x100, 0x3FF0000⟩,
  ⟨"GBL_EVT_PEND_k", 0x1000, 0x4, 48, 0, 0, 0xFFFFFFFF, 0, 0, 0⟩,
  ⟨"GBL_EVT_MASK_k", 0x1100, 0x4, 48, 0xFFFFFFFF, 0, 0, 0, 0, 0⟩,
  ⟨"GBL_EVT_ROUTE_e", 0x4000, 0x4, 1536, 0, 0x3FFFF, 0, 0, 0, 0⟩]

/-- Registers of block BNT, part 0, from the register tables of spec/15_bonnet_security.md R401-R417. -/
def regRowsBnt0 : List RegRow := [
  ⟨"BNT_STATUS", 0x100000, 0x4, 1, 0, 0, 0, 0, 0, 0x7FF⟩,
  ⟨"BNT_CAUSE", 0x100004, 0x4, 1, 0, 0, 0x7, 0, 0, 0⟩,
  ⟨"BNT_CTR_s_LO/HI", 0x100010, 0x4, 8, 0, 0, 0, 0, 0, 0xFFFFFFFF⟩,
  ⟨"BNT_EPOCH", 0x100040, 0x4, 1, 0, 0, 0, 0, 0, 0xFFFFFFFF⟩,
  ⟨"BNT_OBS_CYC_LO/HI", 0x100044, 0x4, 2, 0, 0, 0, 0, 0, 0xFFFFFFFF⟩,
  ⟨"BNT_FUSE_SV", 0x100050, 0x4, 1, 0, 0, 0, 0, 0, 0xFFFF⟩,
  ⟨"BNT_AUTHFAIL", 0x100060, 0x4, 1, 0, 0, 0, 0, 0, 0xFFFFFFFF⟩,
  ⟨"BNT_GRANT_g", 0x100100, 0x10, 16, 0, 0, 0, 0, 0, 0xFFFF3F⟩,
  ⟨"BNT_GRANT_BASE_g", 0x100104, 0x10, 16, 0, 0, 0, 0, 0, 0xFFFFFFFF⟩,
  ⟨"BNT_GRANT_UNITS_g", 0x100108, 0x10, 16, 0, 0, 0, 0, 0, 0xFFFFFFFF⟩]

/-- Registers of block SCH, part 0, from the register tables of spec/03_design_cycle.md R80-R115. -/
def regRowsSch0 : List RegRow := [
  ⟨"SCH_CTRL", 0x200000, 0x4, 1, 0x7, 0, 0, 0, 0, 0⟩,
  ⟨"SCH_STATUS", 0x200004, 0x4, 1, 0, 0, 0, 0, 0, 0xFC001F⟩,
  ⟨"SCH_GEOM", 0x200008, 0x4, 1, 0, 0, 0, 0, 0, 0xFFF⟩,
  ⟨"SCH_CYCLE_LO/HI", 0x200010, 0x4, 2, 0, 0, 0, 0, 0, 0xFFFFFFFF⟩,
  ⟨"SCH_RUN_COUNT", 0x200018, 0x4, 1, 0xFFFFFFFF, 0, 0, 0, 0, 0⟩,
  ⟨"SCH_HOLD_SRC", 0x200020, 0x4, 1, 0, 0, 0, 0, 0, 0x7F⟩,
  ⟨"SCH_HOLD_LIMIT", 0x200024, 0x4, 1, 0xFFFF, 0, 0, 0, 0, 0⟩,
  ⟨"SCH_HOLD_CAPT", 0x200028, 0x4, 1, 0, 0, 0, 0, 0, 0x7F⟩,
  ⟨"SCH_CNT_HELD_k", 0x200040, 0x4, 7, 0, 0, 0, 0, 0, 0xFFFFFFFF⟩,
  ⟨"SCH_CNT_SAT", 0x200060, 0x4, 1, 0, 0, 0, 0, 0, 0xFFFFFFFF⟩,
  ⟨"SCH_APPLY", 0x200080, 0x4, 1, 0, 0, 0, 0, 0x1, 0x1FF02⟩,
  ⟨"SCH_APPLY_CYC_LO/HI", 0x200084, 0x4, 2, 0xFFFFFFFF, 0, 0, 0, 0, 0⟩,
  ⟨"SCH_CKPT_CTRL", 0x2000A0, 0x4, 1, 0x63F3F, 0, 0, 0, 0x10000, 0⟩,
  ⟨"SCH_CKPT_STATUS", 0x2000A4, 0x4, 1, 0, 0, 0x2000, 0, 0, 0xDFFF⟩,
  ⟨"SCH_CKPT_SEL", 0x2000A8, 0x4, 1, 0x3F, 0, 0, 0, 0, 0x80000000⟩,
  ⟨"SCH_CKPT_CYC_LO/HI", 0x2000AC, 0x4, 2, 0, 0, 0, 0, 0, 0xFFFFFFFF⟩]

/-- Registers of block SCH, part 1, from the register tables of spec/03_design_cycle.md R80-R115. -/
def regRowsSch1 : List RegRow := [
  ⟨"SCH_REWIND", 0x2000C0, 0x4, 1, 0x3F, 0, 0, 0, 0x80, 0x1FF00⟩,
  ⟨"SCH_WAVE_CFG", 0x200100, 0x4, 1, 0, 0, 0, 0, 0, 0xBF3F⟩,
  ⟨"SCH_WAVE_TIMEOUT", 0x200104, 0x4, 1, 0xFFFF, 0, 0, 0, 0, 0⟩,
  ⟨"SCH_WAVE_MEMBERS_LO/HI", 0x200108, 0x4, 2, 0, 0, 0, 0, 0, 0xFFFFFFFF⟩,
  ⟨"SCH_WAVE_STATUS", 0x200110, 0x4, 1, 0, 0, 0, 0, 0, 0x3FFFFF⟩,
  ⟨"SCH_COMMITTED_LO/HI", 0x200114, 0x4, 2, 0, 0, 0, 0, 0, 0xFFFFFFFF⟩,
  ⟨"SCH_COND_STATUS", 0x200120, 0x4, 1, 0, 0, 0, 0, 0, 0x1FFFF⟩,
  ⟨"SCH_COND_READY_LO/HI", 0x200124, 0x4, 2, 0, 0, 0, 0, 0, 0xFFFFFFFF⟩,
  ⟨"SCH_REPLAY", 0x200130, 0x4, 1, 0, 0, 0x8, 0, 0, 0x7⟩,
  ⟨"SCH_REPLAY_CYC_LO/HI", 0x200134, 0x4, 2, 0, 0, 0, 0, 0, 0xFFFFFFFF⟩,
  ⟨"SCH_SPC_k_LO/HI", 0x200200, 0x4, 32, 0, 0, 0, 0, 0, 0xFFFFFFFF⟩,
  ⟨"SCH_SPC_SAT", 0x2002F0, 0x4, 1, 0, 0, 0, 0, 0, 0xFFFFFFFF⟩,
  ⟨"SCH_LOAD_CTRL", 0x200300, 0x4, 1, 0x6, 0, 0, 0, 0x1, 0⟩,
  ⟨"SCH_LOAD_ADDR/LEN_LO/HI", 0x200304, 0x4, 4, 0xFFFFFFFF, 0, 0, 0, 0, 0⟩,
  ⟨"SCH_LOAD_STATUS", 0x200314, 0x4, 1, 0, 0, 0x80000, 0, 0, 0x7FF07⟩,
  ⟨"SCH_LOAD_DETAIL", 0x200318, 0x4, 1, 0, 0, 0, 0, 0, 0xFF000000⟩]

/-- Registers of block SCH, part 2, from the register tables of spec/05_compiler_contract.md R151-R178, R491, R493. -/
def regRowsSch2 : List RegRow := [
  ⟨"SCH_LOAD_WHERE", 0x20031C, 0x4, 1, 0, 0, 0, 0, 0, 0xFFFFFFFF⟩,
  ⟨"SCH_IMAGE_DIGEST_k", 0x200320, 0x4, 12, 0, 0, 0, 0, 0, 0xFFFFFFFF⟩,
  ⟨"SCH_IMAGE_INFO", 0x200350, 0x4, 1, 0, 0, 0, 0, 0, 0x3FFFF⟩]

/-- Registers of block CLU, part 0, from the register tables of spec/02_boolean_processor.md R77-R79. -/
def regRowsClu0 : List RegRow := [
  ⟨"CLU_STATUS@c", 0x400000, 0x1000, 256, 0, 0, 0, 0, 0, 0xF⟩,
  ⟨"CLU_CAUSE@c", 0x400004, 0x1000, 256, 0, 0, 0xFF, 0, 0, 0⟩,
  ⟨"CLU_ERR_LOC@c", 0x400008, 0x1000, 256, 0, 0, 0, 0, 0, 0xFFFFFFFF⟩,
  ⟨"CLU_ERR_CYC_LO@c", 0x40000C, 0x1000, 256, 0, 0, 0, 0, 0, 0xFFFFFFFF⟩,
  ⟨"CLU_ERR_CYC_HI@c", 0x400010, 0x1000, 256, 0, 0, 0, 0, 0, 0xFFFFFFFF⟩,
  ⟨"CLU_VERIFY@c", 0x400020, 0x1000, 256, 0, 0, 0, 0, 0, 0x1FFF1FFF⟩,
  ⟨"CLU_CNT_HOLD@c", 0x400040, 0x1000, 256, 0, 0, 0, 0, 0, 0xFFFFFFFF⟩,
  ⟨"CLU_CNT_PRED@c", 0x400044, 0x1000, 256, 0, 0, 0, 0, 0, 0xFFFFFFFF⟩,
  ⟨"CLU_CNT_MISS@c", 0x400048, 0x1000, 256, 0, 0, 0, 0, 0, 0xFFFFFFFF⟩,
  ⟨"CLU_CNT_RACE@c", 0x40004C, 0x1000, 256, 0, 0, 0, 0, 0, 0xFFFFFFFF⟩,
  ⟨"CLU_CNT_ISSUE@c", 0x400050, 0x1000, 256, 0, 0, 0, 0, 0, 0xFFFFFFFF⟩,
  ⟨"CLU_CNT_SAT@c", 0x400060, 0x1000, 256, 0, 0, 0, 0, 0, 0x1F⟩]

/-- Registers of block HBD, part 0, from the register tables of spec/07_hatband.md R231-R238. -/
def regRowsHbd0 : List RegRow := [
  ⟨"HBD_STATUS", 0x800000, 0x4, 1, 0, 0, 0, 0, 0, 0x3⟩,
  ⟨"HBD_CAUSE", 0x800004, 0x4, 1, 0, 0, 0xFF, 0, 0, 0⟩,
  ⟨"HBD_ERR_LOC", 0x800008, 0x4, 1, 0, 0, 0, 0, 0, 0xFFFFFFFF⟩,
  ⟨"HBD_ERR_CYC_LO/HI", 0x80000C, 0x4, 2, 0, 0, 0, 0, 0, 0xFFFFFFFF⟩,
  ⟨"HBD_AGE", 0x800020, 0x4, 1, 0xFFFF, 0, 0, 0, 0, 0⟩,
  ⟨"HBD_CNT_k", 0x800040, 0x4, 8, 0, 0, 0, 0, 0, 0xFFFFFFFF⟩,
  ⟨"HBD_CNT_SAT", 0x800060, 0x4, 1, 0, 0, 0, 0, 0, 0xFFFFFFFF⟩,
  ⟨"HBD_LINK_SEL", 0x800100, 0x4, 1, 0x31F, 0, 0, 0, 0, 0⟩,
  ⟨"HBD_LINK_FLITS_v", 0x800104, 0x4, 4, 0, 0, 0, 0, 0, 0xFFFFFFFF⟩]

/-- Registers of block LNK, part 0, from the register tables of spec/08_lanes_multimodule.md R255-R267. -/
def regRowsLnk0 : List RegRow := [
  ⟨"LNK_CTRL@p", 0x900000, 0x400, 16, 0xE, 0, 0, 0, 0x10, 0⟩,
  ⟨"LNK_STATUS@p", 0x900004, 0x400, 16, 0, 0, 0, 0, 0, 0xFFE007FF⟩,
  ⟨"LNK_CAUSE@p", 0x900008, 0x400, 16, 0, 0, 0xFF, 0, 0, 0⟩,
  ⟨"LNK_ERR_LOC@p", 0x90000C, 0x400, 16, 0, 0, 0, 0, 0, 0xFC000000⟩,
  ⟨"LNK_PEER@p", 0x900010, 0x400, 16, 0, 0, 0, 0, 0, 0xFFFFFFF0⟩,
  ⟨"LNK_CNT_SAT@p", 0x900060, 0x400, 16, 0, 0, 0, 0, 0, 0xFFFFFFFF⟩,
  ⟨"LNK_PED_RX_0@p", 0x900014, 0x400, 16, 0, 0, 0, 0, 0, 0xFFFFFFFF⟩,
  ⟨"LNK_PED_TX_0@p", 0x900024, 0x400, 16, 0, 0, 0, 0, 0, 0xFFFFFFFF⟩,
  ⟨"LNK_PED_RX_1@p", 0x900018, 0x400, 16, 0, 0, 0, 0, 0, 0xFFFFFFFF⟩,
  ⟨"LNK_PED_TX_1@p", 0x900028, 0x400, 16, 0, 0, 0, 0, 0, 0xFFFFFFFF⟩,
  ⟨"LNK_PED_RX_2@p", 0x90001C, 0x400, 16, 0, 0, 0, 0, 0, 0xFFFFFFFF⟩,
  ⟨"LNK_PED_TX_2@p", 0x90002C, 0x400, 16, 0, 0, 0, 0, 0, 0xFFFFFFFF⟩,
  ⟨"LNK_PED_RX_3@p", 0x900020, 0x400, 16, 0, 0, 0, 0, 0, 0xFFFFFFFF⟩,
  ⟨"LNK_PED_TX_3@p", 0x900030, 0x400, 16, 0, 0, 0, 0, 0, 0xFFFFFFFF⟩,
  ⟨"LNK_CNT_0@p", 0x900040, 0x400, 16, 0, 0, 0, 0, 0, 0xFFFFFFFF⟩,
  ⟨"LNK_CNT_1@p", 0x900044, 0x400, 16, 0, 0, 0, 0, 0, 0xFFFFFFFF⟩]

/-- Registers of block LNK, part 1, from the register tables of spec/08_lanes_multimodule.md R255-R267. -/
def regRowsLnk1 : List RegRow := [
  ⟨"LNK_CNT_2@p", 0x900048, 0x400, 16, 0, 0, 0, 0, 0, 0xFFFFFFFF⟩,
  ⟨"LNK_CNT_3@p", 0x90004C, 0x400, 16, 0, 0, 0, 0, 0, 0xFFFFFFFF⟩,
  ⟨"LNK_CNT_4@p", 0x900050, 0x400, 16, 0, 0, 0, 0, 0, 0xFFFFFFFF⟩,
  ⟨"LNK_CNT_5@p", 0x900054, 0x400, 16, 0, 0, 0, 0, 0, 0xFFFFFFFF⟩,
  ⟨"LNK_CNT_6@p", 0x900058, 0x400, 16, 0, 0, 0, 0, 0, 0xFFFFFFFF⟩,
  ⟨"LNK_CNT_7@p", 0x90005C, 0x400, 16, 0, 0, 0, 0, 0, 0xFFFFFFFF⟩,
  ⟨"LNK_SUMMARY", 0x908000, 0x4, 1, 0, 0, 0, 0, 0, 0xFFFFFFFF⟩]

/-- Registers of block TIM, part 0, from the register tables of spec/09_shared_time.md R268-R283. -/
def regRowsTim0 : List RegRow := [
  ⟨"TIM_CTRL", 0xA00000, 0x4, 1, 0x1, 0, 0, 0, 0x2, 0⟩,
  ⟨"TIM_STATUS", 0xA00004, 0x4, 1, 0, 0, 0, 0, 0, 0xFFFFE3⟩,
  ⟨"TIM_CFG", 0xA00008, 0x4, 1, 0xFF000F0F, 0, 0, 0, 0, 0⟩,
  ⟨"TIM_THRESH", 0xA0000C, 0x4, 1, 0xFFFFFFFF, 0, 0, 0, 0, 0⟩,
  ⟨"TIM_NOW", 0xA00010, 0x4, 4, 0, 0, 0, 0, 0, 0xFFFFFFFF⟩,
  ⟨"TIM_SET_SEC_HI/SEC_LO/NS", 0xA00020, 0x4, 3, 0xFFFFFFFF, 0, 0, 0, 0, 0⟩,
  ⟨"TIM_SET_GO", 0xA0002C, 0x4, 1, 0, 0, 0, 0, 0x1, 0⟩,
  ⟨"TIM_RATE", 0xA00030, 0x4, 1, 0, 0, 0, 0, 0, 0xFFFFFFFF⟩,
  ⟨"TIM_RATE_TRIM", 0xA00034, 0x4, 1, 0xFFFFFFFF, 0, 0, 0, 0, 0⟩,
  ⟨"TIM_OFFSET", 0xA00038, 0x4, 1, 0, 0, 0, 0, 0, 0xFFFFFFFF⟩,
  ⟨"TIM_CNT_BAD", 0xA0003C, 0x4, 1, 0, 0, 0, 0, 0, 0xFFFFFFFF⟩,
  ⟨"TIM_CAPT_CTRL", 0xA00040, 0x4, 1, 0x7F, 0, 0, 0, 0, 0⟩,
  ⟨"TIM_CAPT", 0xA00044, 0x4, 4, 0, 0, 0, 0, 0, 0xFFFFFFFF⟩,
  ⟨"TIM_ASYM_p", 0xA00100, 0x10, 16, 0xFFFFFFFF, 0, 0, 0, 0, 0⟩,
  ⟨"TIM_MPD_p", 0xA00104, 0x10, 16, 0, 0, 0, 0, 0, 0xFFFFFFFF⟩,
  ⟨"TIM_PORT_OFS_p", 0xA00108, 0x10, 16, 0, 0, 0, 0, 0, 0xFFFFFFFF⟩]

/-- Registers of block MEM, part 0, from the register tables of spec/06_design_memory.md R179-R215. -/
def regRowsMem0 : List RegRow := [
  ⟨"MEM_STATUS", 0xB00000, 0x4, 1, 0, 0, 0, 0, 0, 0x3⟩,
  ⟨"MEM_CAUSE", 0xB00004, 0x4, 1, 0, 0, 0x7F, 0, 0, 0⟩,
  ⟨"MEM_ERR_ADDR_LO/HI", 0xB00008, 0x4, 2, 0, 0, 0, 0, 0, 0xFFFFFFFF⟩,
  ⟨"MEM_ERR_INFO", 0xB00010, 0x4, 1, 0, 0, 0, 0, 0, 0xFFFF8000⟩,
  ⟨"MEM_CNT_k", 0xB00040, 0x4, 8, 0, 0, 0, 0, 0, 0xFFFFFFFF⟩,
  ⟨"MEM_CNT_SAT", 0xB00060, 0x4, 1, 0, 0, 0, 0, 0, 0xFFFFFFFF⟩,
  ⟨"MEM_BANK_PWR_k", 0xB00100, 0x4, 32, 0xFFFFFFFF, 0, 0, 0, 0, 0⟩,
  ⟨"MEM_PWR_STATUS", 0xB00180, 0x4, 1, 0, 0, 0x2, 0, 0, 0x1⟩,
  ⟨"MEM_MARCH_CTRL", 0xB00200, 0x4, 1, 0x3FF, 0, 0, 0, 0x400, 0⟩,
  ⟨"MEM_MARCH_STATUS", 0xB00204, 0x4, 1, 0, 0, 0, 0, 0, 0xFFF0F⟩,
  ⟨"MEM_BAR2_STATUS", 0xB00280, 0x4, 1, 0, 0, 0xF, 0, 0, 0⟩,
  ⟨"MEM_HBM_CE_k", 0xB00400, 0x4, 64, 0, 0, 0, 0, 0, 0xFFFFFFFF⟩]

/-- Registers of block GLV, part 0, from the register tables of spec/10_glove.md R284-R311. -/
def regRowsGlv0 : List RegRow := [
  ⟨"GLV_CTRL", 0xC00000, 0x4, 1, 0x1FF, 0, 0, 0, 0, 0⟩,
  ⟨"GLV_STATUS", 0xC00004, 0x4, 1, 0, 0, 0, 0, 0, 0x3FFF⟩,
  ⟨"GLV_CAUSE", 0xC00008, 0x4, 1, 0, 0, 0x3F, 0, 0, 0⟩,
  ⟨"GLV_ERR_LOC", 0xC0000C, 0x4, 1, 0, 0, 0, 0, 0, 0xFFFFE000⟩,
  ⟨"GLV_LOAD_STATUS", 0xC00010, 0x4, 1, 0, 0, 0, 0, 0, 0x7FFFF⟩,
  ⟨"GLV_LOAD_DETAIL", 0xC00014, 0x4, 1, 0, 0, 0, 0, 0, 0xF0003FFF⟩,
  ⟨"GLV_SIG_r", 0xC00020, 0x4, 4, 0, 0, 0, 0, 0, 0xFFFFFFFF⟩,
  ⟨"GLV_GOLD_r", 0xC00030, 0x4, 4, 0, 0, 0, 0, 0, 0xFFFFFFFF⟩,
  ⟨"GLV_TDC_EN/POL_LO/HI", 0xC00080, 0x4, 4, 0xFFFFFFFF, 0, 0, 0, 0, 0⟩,
  ⟨"GLV_CNT_k", 0xC000A0, 0x4, 8, 0, 0, 0, 0, 0, 0xFFFFFFFF⟩,
  ⟨"GLV_CNT_SAT", 0xC000C0, 0x4, 1, 0, 0, 0, 0, 0, 0xFFFFFFFF⟩]

/-- Registers of block AST, part 0, from the register tables of spec/11_aster.md R312-R335. -/
def regRowsAst0 : List RegRow := [
  ⟨"AST_CTRL", 0xD00000, 0x4, 1, 0x25, 0, 0, 0, 0x18, 0⟩,
  ⟨"AST_STATUS", 0xD00004, 0x4, 1, 0, 0, 0, 0, 0, 0xFFF00⟩,
  ⟨"AST_CAUSE", 0xD00008, 0x4, 1, 0, 0, 0x3, 0, 0, 0⟩,
  ⟨"AST_SHADOW", 0xD0000C, 0x4, 1, 0, 0, 0x4, 0, 0x1, 0x1FF02⟩,
  ⟨"AST_TRIG_CYC_LO/HI", 0xD00020, 0x4, 2, 0, 0, 0, 0, 0, 0xFFFFFFFF⟩,
  ⟨"AST_TRIG_SEC_HI..FRAC", 0xD00028, 0x4, 4, 0, 0, 0, 0, 0, 0xFFFFFFFF⟩,
  ⟨"AST_TRIG_INFO", 0xD00038, 0x4, 1, 0, 0, 0, 0, 0, 0x7F⟩,
  ⟨"AST_TRIG_TDC_LO/HI", 0xD00040, 0x4, 2, 0xFFFFFFFF, 0, 0, 0, 0, 0⟩,
  ⟨"AST_SEQCNT_k", 0xD00080, 0x4, 8, 0, 0, 0, 0, 0, 0xFFFFFFFF⟩,
  ⟨"AST_LIMIT_k", 0xD000A0, 0x4, 8, 0xFFFFFFFF, 0, 0, 0, 0, 0⟩,
  ⟨"AST_TMR_j_LO/HI", 0xD000C0, 0x4, 8, 0, 0, 0, 0, 0, 0xFFFFFFFF⟩,
  ⟨"AST_TLIM_j_LO", 0xD000E0, 0x8, 4, 0xFFFFFFFF, 0, 0, 0, 0, 0⟩,
  ⟨"AST_TLIM_j_HI", 0xD000E4, 0x8, 4, 0x8000FFFF, 0, 0, 0, 0, 0⟩,
  ⟨"AST_SEQ_A/B_SEL/CTL_s", 0xD00100, 0x4, 64, 0xFFFFFFFF, 0, 0, 0, 0, 0⟩,
  ⟨"AST_COND_MODE_k", 0xD00200, 0x4, 16, 0x3, 0, 0, 0, 0, 0⟩,
  ⟨"AST_MT_CTRL", 0xD00300, 0x4, 1, 0xFF3, 0, 0, 0, 0, 0⟩]

/-- Registers of block AST, part 1, from the register tables of spec/11_aster.md R312-R335. -/
def regRowsAst1 : List RegRow := [
  ⟨"AST_MT_STATUS", 0xD00304, 0x4, 1, 0, 0, 0x8, 0, 0, 0x7⟩,
  ⟨"AST_MT_ADDR_LO", 0xD00308, 0x4, 1, 0xFFFFFFFF, 0, 0, 0, 0, 0⟩,
  ⟨"AST_MT_ADDR_HI", 0xD0030C, 0x4, 1, 0x10007, 0, 0, 0, 0, 0⟩,
  ⟨"AST_MT_START_LO/HI", 0xD00310, 0x4, 2, 0xFFFFFFFF, 0, 0, 0, 0, 0⟩,
  ⟨"AST_MT_COUNT", 0xD00318, 0x4, 1, 0xFFFFFFFF, 0, 0, 0, 0, 0⟩,
  ⟨"AST_MT_VCYC_LO/HI", 0xD00320, 0x4, 2, 0, 0, 0, 0, 0, 0xFFFFFFFF⟩,
  ⟨"AST_MT_VBIT", 0xD00328, 0x4, 1, 0, 0, 0, 0, 0, 0x3FF⟩,
  ⟨"AST_MT_VCNT", 0xD0032C, 0x4, 1, 0, 0, 0, 0, 0, 0xFFFFFFFF⟩,
  ⟨"AST_AVG_CTRL", 0xD00400, 0x4, 1, 0x3F, 0, 0, 0, 0, 0⟩,
  ⟨"AST_AVG_STATUS", 0xD00404, 0x4, 1, 0, 0, 0, 0, 0, 0x3FFFF⟩,
  ⟨"AST_AVG_CYC_LO/HI", 0xD00408, 0x4, 2, 0, 0, 0, 0, 0, 0xFFFFFFFF⟩,
  ⟨"AST_STAT_k", 0xD00500, 0x4, 6, 0, 0, 0, 0, 0, 0xFFFFFFFF⟩,
  ⟨"AST_STAT_SAT", 0xD00520, 0x4, 1, 0, 0, 0, 0, 0, 0xFFFFFFFF⟩,
  ⟨"AST_AVG_RES_g", 0xD00800, 0x4, 256, 0, 0, 0, 0, 0, 0xFFFFFFFF⟩,
  ⟨"AST_COND_MASK/VALUE_k_w", 0xD01000, 0x4, 1024, 0xFFFFFFFF, 0, 0, 0, 0, 0⟩]

/-- Registers of block LKS, part 0, from the register tables of spec/12_larkspur.md R336-R352. -/
def regRowsLks0 : List RegRow := [
  ⟨"LKS_CTRL", 0xD80000, 0x4, 1, 0x7F, 0, 0, 0, 0x80, 0⟩,
  ⟨"LKS_STATUS", 0xD80004, 0x4, 1, 0, 0, 0, 0, 0, 0xFFFFDF⟩,
  ⟨"LKS_CAUSE", 0xD80008, 0x4, 1, 0, 0, 0xF, 0, 0, 0⟩,
  ⟨"LKS_PROBE_EN", 0xD80010, 0x4, 1, 0xFFFF, 0, 0, 0, 0, 0⟩,
  ⟨"LKS_SINK", 0xD80014, 0x4, 1, 0x7F, 0, 0, 0, 0, 0⟩,
  ⟨"LKS_BP", 0xD80018, 0x4, 1, 0xFFFFFFFF, 0, 0, 0, 0, 0⟩,
  ⟨"LKS_FLUSH_US", 0xD8001C, 0x4, 1, 0xFFFF, 0, 0, 0, 0, 0⟩,
  ⟨"LKS_RING_BASE_LO", 0xD80020, 0x4, 1, 0xFFF00000, 0, 0, 0, 0, 0⟩,
  ⟨"LKS_RING_BASE_HI", 0xD80024, 0x4, 1, 0x10007, 0, 0, 0, 0, 0⟩,
  ⟨"LKS_RING_SIZE", 0xD80028, 0x4, 1, 0x7FFF, 0, 0, 0, 0, 0⟩,
  ⟨"LKS_RING_WR", 0xD8002C, 0x4, 1, 0, 0, 0, 0, 0, 0xFFFFFFFF⟩,
  ⟨"LKS_HOST_BASE_LO/HI", 0xD80030, 0x4, 2, 0xFFFFFFFF, 0, 0, 0, 0, 0⟩,
  ⟨"LKS_HOST_SLOTS", 0xD80038, 0x4, 1, 0xFFFFFFFF, 0, 0, 0, 0, 0⟩,
  ⟨"LKS_HOST_RD", 0xD8003C, 0x4, 1, 0xFFFFFFFF, 0, 0, 0, 0, 0⟩,
  ⟨"LKS_HOST_WR", 0xD80040, 0x4, 1, 0, 0, 0, 0, 0, 0xFFFFFFFF⟩,
  ⟨"LKS_CNT_k", 0xD80060, 0x4, 6, 0, 0, 0, 0, 0, 0xFFFFFFFF⟩]

/-- Registers of block LKS, part 1, from the register tables of spec/12_larkspur.md R336-R352. -/
def regRowsLks1 : List RegRow := [
  ⟨"LKS_CNT_SAT", 0xD80080, 0x4, 1, 0, 0, 0, 0, 0, 0xFFFFFFFF⟩]

/-- Registers of block DSP, part 0, from the register tables of spec/13_dispatcher.md R353-R374. -/
def regRowsDsp0 : List RegRow := [
  ⟨"DSP_STATUS", 0xE00000, 0x4, 1, 0, 0, 0, 0, 0, 0x3FFF⟩,
  ⟨"DSP_CH_CFG_ch", 0xE01000, 0x10, 256, 0x3FFFFF, 0, 0, 0, 0, 0⟩,
  ⟨"DSP_CH_STAT_ch", 0xE01004, 0x10, 256, 0, 0, 0, 0, 0, 0xFFFFFFFF⟩,
  ⟨"DSP_CH_CAUSE_ch", 0xE01008, 0x10, 256, 0, 0, 0xFF, 0, 0, 0⟩,
  ⟨"DSP_CH_LOAD_ch", 0xE0100C, 0x10, 256, 0, 0, 0, 0, 0, 0xFFFFFFFF⟩,
  ⟨"DSP_CORE_BASE_LO_k", 0xE02000, 0x20, 16, 0xFFFFFFFF, 0, 0, 0, 0, 0⟩,
  ⟨"DSP_CORE_BASE_HI_k", 0xE02004, 0x20, 16, 0xFFFFFFFF, 0, 0, 0, 0, 0⟩,
  ⟨"DSP_CORE_ENTRIES_k", 0xE02008, 0x20, 16, 0xFFFFFFFF, 0, 0, 0, 0, 0⟩,
  ⟨"DSP_CORE_WR_k", 0xE0200C, 0x20, 16, 0, 0, 0, 0, 0, 0xFFFFFFFF⟩,
  ⟨"DSP_CORE_RD_k", 0xE02010, 0x20, 16, 0xFFFFFFFF, 0, 0, 0, 0, 0⟩,
  ⟨"DSP_CORE_LOAD_k", 0xE02014, 0x20, 16, 0, 0, 0, 0, 0, 0xFFFFFFFF⟩,
  ⟨"DSP_CORE_OUTST_k", 0xE02018, 0x20, 16, 0, 0, 0, 0, 0, 0x1FFFF⟩,
  ⟨"DSP_CH_HIST_ch_b", 0xE04000, 0x4, 4096, 0, 0, 0, 0, 0, 0xFFFFFFFF⟩,
  ⟨"DSP_CORE_HIST_k_b", 0xE08000, 0x4, 256, 0, 0, 0, 0, 0, 0xFFFFFFFF⟩]

/-- Registers of block PWR, part 0, from the register tables of spec/17_power_thermal_ledger.md R439-R454. -/
def regRowsPwr0 : List RegRow := [
  ⟨"PWR_CTRL", 0xF00000, 0x4, 1, 0x3, 0, 0, 0, 0xC, 0⟩,
  ⟨"PWR_STATUS", 0xF00004, 0x4, 1, 0, 0, 0, 0, 0, 0x1FFFFFF⟩,
  ⟨"PWR_CAUSE", 0xF00008, 0x4, 1, 0, 0, 0x1F, 0, 0, 0⟩,
  ⟨"PWR_TEMP", 0xF00010, 0x4, 1, 0, 0, 0, 0, 0, 0x1FFFFF⟩,
  ⟨"PWR_VCORE", 0xF00014, 0x4, 1, 0, 0, 0, 0, 0, 0xFFF⟩,
  ⟨"PWR_AVS", 0xF00018, 0x4, 1, 0, 0, 0, 0, 0, 0x1FF⟩,
  ⟨"PWR_THERM", 0xF00020, 0x4, 1, 0, 0xFFFFFF, 0, 0, 0, 0⟩,
  ⟨"PWR_THROT", 0xF00024, 0x4, 1, 0x3F, 0, 0, 0, 0, 0⟩,
  ⟨"PWR_RAMP", 0xF00028, 0x4, 1, 0xFF7F, 0, 0, 0, 0, 0⟩,
  ⟨"PWR_LFC", 0xF00030, 0x4, 1, 0, 0, 0, 0, 0, 0xFFFF0007⟩,
  ⟨"PWR_LDG_SEQ_LO/HI", 0xF00040, 0x4, 2, 0, 0, 0, 0, 0, 0xFFFFFFFF⟩,
  ⟨"PWR_VCCIO", 0xF00050, 0x4, 1, 0, 0, 0xFF00, 0, 0, 0xFF⟩,
  ⟨"PWR_LDG_i", 0xF01000, 0x4, 448, 0, 0, 0, 0, 0, 0xFFFFFFFF⟩,
  ⟨"PWR_LDG_SAT_k", 0xF01800, 0x4, 14, 0, 0, 0, 0, 0, 0xFFFFFFFF⟩,
  ⟨"PWR_ST_CTRL", 0xF02000, 0x4, 1, 0x2FFFFFF, 0, 0, 0, 0xC000000, 0⟩,
  ⟨"PWR_ST_STATUS", 0xF02004, 0x4, 1, 0, 0, 0x40000, 0, 0, 0x3FF03⟩]

/-- Registers of block PWR, part 1, from the register tables of spec/18_selftest_repair.md R455-R468. -/
def regRowsPwr1 : List RegRow := [
  ⟨"PWR_ST_LASTFAIL", 0xF02008, 0x4, 1, 0, 0, 0, 0, 0, 0x80FFFFFF⟩,
  ⟨"PWR_ST_PARKED", 0xF0200C, 0x4, 1, 0, 0, 0, 0, 0, 0xFFFFFFFF⟩,
  ⟨"PWR_ST_MARCH", 0xF02010, 0x4, 1, 0, 0, 0, 0, 0, 0xFFFFFFF0⟩,
  ⟨"PWR_REC_USED", 0xF02014, 0x4, 1, 0, 0, 0, 0, 0, 0x1FFF⟩,
  ⟨"PWR_TDC_FAIL_LO/HI", 0xF02018, 0x4, 2, 0, 0, 0, 0, 0, 0xFFFFFFFF⟩,
  ⟨"PWR_TS_EXCL", 0xF02020, 0x4, 1, 0, 0, 0, 0, 0, 0xFFFFFF⟩,
  ⟨"PWR_ST_CELL_k", 0xF02100, 0x4, 64, 0, 0, 0, 0, 0, 0x800FFFFF⟩]

/-- The whole register map. -/
def regMap : List RegRow :=
  regRowsGbl0 ++ regRowsGbl1 ++ regRowsBnt0 ++ regRowsSch0 ++ regRowsSch1 ++ regRowsSch2 ++
  regRowsClu0 ++ regRowsHbd0 ++ regRowsLnk0 ++ regRowsLnk1 ++ regRowsTim0 ++ regRowsMem0 ++
  regRowsGlv0 ++ regRowsAst0 ++ regRowsAst1 ++ regRowsLks0 ++ regRowsLks1 ++ regRowsDsp0 ++
  regRowsPwr0 ++ regRowsPwr1

/-- Register values right after reset that are not zero, for registers that stand once. -/
def resetTable : List (Nat × Word32) :=
  [(0x80, 0x2),
   (0x8C, 0xA0009),
   (0x200000, 0x1),
   (0x2000A0, 0x20000),
   (0x200104, 0x3E8),
   (0x800020, 0x400),
   (0xA00000, 0x1),
   (0xA00008, 0x64000806),
   (0xA0000C, 0x640014),
   (0xC00000, 0x1F0),
   (0xD80014, 0xF),
   (0xD80018, 0x1000180),
   (0xD8001C, 0x64),
   (0xF00004, 0x1),
   (0xF00020, 0x25695F),
   (0xF00028, 0x410)]

/-- The value of the register at a BAR0 offset right after reset (the "Reset" columns of spec/; R35 for the
event routes). -/
def resetVal (off : Nat) : Word32 :=
  if 0x4000 ≤ off ∧ off < 0x5800 then BitVec.ofNat 32 ((off - 0x4000) / 4)
  else if 0x1100 ≤ off ∧ off < 0x11C0 then 0xFFFFFFFF
  else if 0xE01000 ≤ off ∧ off < 0xE02000 ∧ off % 16 = 0 then 3
  else match resetTable.find? (fun p => p.1 == off) with
    | some p => p.2
    | none => 0

/-- The row says that a register stands at `off`. -/
def RegRow.holds (r : RegRow) (off : Nat) : Bool :=
  r.base ≤ off && (off - r.base) % r.stride == 0 && (off - r.base) / r.stride < r.count

/-- The register map's row for a BAR0 offset. -/
def rowAt (off : Nat) : Option RegRow := regMap.find? (fun r => r.holds off)

/-- The KEEP bits of a row: those to which the register map gives no other access code. -/
def RegRow.keep (r : RegRow) : Word32 := ~~~(r.rw ||| r.rwl ||| r.w1c ||| r.w1s ||| r.wo ||| r.ro)

/-- Block code of a BAR0 offset: the offset divided by 512 KiB, for the block whose window holds it (R386). -/
def blockCode (off : Nat) : Nat :=
  let k := off / 0x80000
  if k = 1 then 0 else if k = 3 then 2 else if 4 ≤ k ∧ k < 8 then 4 else if k = 8 ∨ k = 9 then 8
  else if k = 0x1A ∨ k = 0x1B then k else 2 * (k / 2)

end Sys2Proof.Machine
end

