-- ==== Sys2Proof/Machine/Ops.lean ====
section
/-!
DEFINITION. Machine/Ops.lean: the named operations over sparse stores, register words and events that every
meaning is written with. A meaning of a command is a state transformer; `done` makes it a step's outcome.
-/
namespace Sys2Proof.Machine

/-! ### Sparse stores -/

/-- What a sparse store holds at `k`; `d` is what an unlisted key reads as. -/
def mget {α : Type} (m : SMap α) (d : α) (k : Nat) : α :=
  match m with
  | [] => d
  | (j, v) :: t => if j = k then v else mget t d k

/-- The store without key `k`. -/
def mdel {α : Type} (m : SMap α) (k : Nat) : SMap α := m.filter (fun p => p.1 ≠ k)

/-- Places a pair before the first larger key. -/
def mins {α : Type} (m : SMap α) (k : Nat) (v : α) : SMap α :=
  match m with
  | [] => [(k, v)]
  | (j, w) :: t => if k < j then (k, v) :: (j, w) :: t else (j, w) :: mins t k v

/-- Writes `v` at `k`; writing what an unlisted key reads as removes the entry. -/
def mset {α : Type} [DecidableEq α] (m : SMap α) (d : α) (k : Nat) (v : α) : SMap α :=
  if v = d then mdel m k else mins (mdel m k) k v

/-- The canonical form: keys strictly rising, and no entry that an unlisted key reads as. -/
def mwf {α : Type} [DecidableEq α] (m : SMap α) (d : Nat → α) : Bool :=
  match m with
  | [] => true
  | (k, v) :: t => v ≠ d k && (match t with | [] => true | (j, _) :: _ => k < j) && mwf t d

/-- Writes each pair of a list into a store, in the list's order. -/
def msetAll {α : Type} [DecidableEq α] (m : SMap α) (d : α) (l : List (Nat × α)) : SMap α :=
  l.foldl (fun m p => mset m d p.1 p.2) m

/-- Applies `f` once for each number below `n`, in rising order. -/
def forN {σ : Type} (n : Nat) (f : Nat → σ → σ) (s : σ) : σ :=
  match n with
  | 0 => s
  | k + 1 => f k (forN k f s)

/-- Applies `f` for each element of a list, in order. -/
def forEach {α σ : Type} (l : List α) (f : α → σ → σ) (s : σ) : σ :=
  l.foldl (fun s a => f a s) s

/-- Puts an element before the first one that it may stand before. -/
def insBy {α : Type} (le : α → α → Bool) (a : α) (l : List α) : List α :=
  match l with
  | [] => [a]
  | b :: t => if le a b then a :: b :: t else b :: insBy le a t

/-- A list in the order of `le`; elements that are equal in it keep their order. -/
def sortBy {α : Type} (le : α → α → Bool) (l : List α) : List α := l.foldr (insBy le) []

/-! ### Registers -/

/-- The stored word of the register at a BAR0 offset. -/
def State.reg (s : State) (o : Nat) : Word32 := mget s.regs (resetVal o) o

/-- Stores a register word. -/
def State.setReg (s : State) (o : Nat) (v : Word32) : State :=
  { s with regs := mset s.regs (resetVal o) o v }

/-- The registers at the offsets that `p` does not hold of return to their reset values. -/
def keepRegs (p : Nat → Bool) (s : State) : State := { s with regs := s.regs.filter (fun q => p q.1) }

/-- Bits `[lo + w - 1 : lo]` of a register. -/
def State.fld (s : State) (o lo w : Nat) : Nat := bitsOf (s.reg o) lo w

/-- Replaces bits `[lo + w - 1 : lo]` of a register. -/
def State.setFld (s : State) (o lo w v : Nat) : State := s.setReg o (withBits (s.reg o) lo w v)

/-- Bit `i` of a register. -/
def State.bit (s : State) (o i : Nat) : Bool := s.fld o i 1 == 1

/-- Sets or clears bit `i` of a register. -/
def State.setBit (s : State) (o i : Nat) (b : Bool) : State := s.setFld o i 1 (b2n b)

/-- A 64-bit value held in two registers, the low half first. -/
def State.reg64 (s : State) (o : Nat) : Word64 := cat64 (s.reg (o + 4)) (s.reg o)

/-- Stores a 64-bit value in two registers, the low half first. -/
def State.setReg64 (s : State) (o : Nat) (v : Word64) : State :=
  (s.setReg o (lo32 v)).setReg (o + 4) (hi32 v)

/-! ### Outputs and events -/

/-- Records something that leaves the module. -/
def State.emit (s : State) (o : Output) : State := { s with out := o :: s.out }

/-- The MSI-X state of a function. -/
def State.msix (s : State) (fn : PcieFn) : Msix :=
  match fn with
  | .pf0 => s.host.msix0
  | .pf1 => s.host.msix1

/-- Replaces the MSI-X state of a function. -/
def State.setMsix (s : State) (fn : PcieFn) (m : Msix) : State :=
  match fn with
  | .pf0 => { s with host := { s.host with msix0 := m } }
  | .pf1 => { s with host := { s.host with msix1 := m } }

/-- Sends one MSI-X message, or sets the vector's PBA bit when the vector is masked or MSI-X is disabled
(R379). -/
def msixSend (fn : PcieFn) (vec : Nat) (s : State) : State :=
  let m := s.msix fn
  let e := mget m.table {} vec
  if m.enabled && !e.masked then s.emit (.msix fn vec e.addr e.data)
  else s.setMsix fn { m with pba := mset m.pba false vec true }

/-- The offset of the register that holds the pending bit of event `e` (R35). -/
def pendReg (e : Nat) : Nat := Reg.GBL_EVT_PEND + 4 * (e / 32)

/-- The offset of the register that holds the mask bit of event `e` (R35). -/
def maskReg (e : Nat) : Nat := Reg.GBL_EVT_MASK + 4 * (e / 32)

/-- The offset of the route word of event `e`. -/
def routeReg (e : Nat) : Nat := Reg.GBL_EVT_ROUTE + 4 * e

/-- Event `e` is pending (R33). -/
def State.pendBit (s : State) (e : Nat) : Bool := s.bit (pendReg e) (e % 32)

/-- Event `e` is masked (R35). -/
def State.maskBit (s : State) (e : Nat) : Bool := s.bit (maskReg e) (e % 32)

/-- Delivers event `e`: one message to PF0's vector VEC and, with PF1_EN, one to PF1's vector PF1VEC (R379). -/
def deliver (e : Nat) (s : State) : State :=
  let r := s.reg (routeReg e)
  let s := msixSend .pf0 (bitsOf r 0 11) s
  if bitsOf r 16 1 = 1 then msixSend .pf1 (bitsOf r 11 5) s else s

/-- The event belongs to a resource that the FQ9620 lacks, or its number is reserved: it is never raised
(R2, R32). -/
def eventAbsent (s : State) (e : Nat) : Bool :=
  0x5C0 ≤ e || (s.ident.half && ((0x180 ≤ e && e < 0x200) || (0x280 ≤ e && e < 0x2C0)))

/-- Raises event `e` (R33, R379, R381): a repeat while the event is pending does nothing; otherwise its pending
bit sets, SMBALERT_N is asserted when its route says so, and it is delivered unless masked. -/
def raise (e : Nat) (s : State) : State :=
  if eventAbsent s e || s.pendBit e then s
  else
    let s := s.setBit (pendReg e) (e % 32) true
    let s := if s.bit (routeReg e) 17 then { s with host := { s.host with smbAlert := true } } else s
    if s.maskBit e then s else deliver e s

/-! ### Cycle numbers -/

/-- Cycle `a` stands before cycle `b`, modulo 2^64. -/
def cycLt (a b : Word64) : Bool := let d := (b - a).toNat; 0 < d && d < 2 ^ 63

/-- Cycle `a` does not stand after cycle `b`. -/
def cycLe (a b : Word64) : Bool := a == b || cycLt a b

/-! ### Outcomes -/

/-- The outcome of a meaning that completes in state `s`. -/
def done (s : State) : Host.Outcome State Fault Refusal := .next s

/-- The module is in service: not halted, not held by POR_N, and supplied. Out of service the core die is in reset
and no command but those of start-up and reset has an effect (R424, R439). -/
def State.up (s : State) : Bool :=
  !(s.boot.stage == .halted || s.boot.stage == .porHeld || s.boot.stage == .off)

/-- The outcome of a command that acts only while the module is in service. -/
def run (f : State → State) (s : State) : Host.Outcome State Fault Refusal :=
  if s.up then done (f s) else done s

/-- The next free value's number; the counter advances (log 7). -/
def State.tick1 (s : State) : State := { s with freeCtr := s.freeCtr + 1 }

end Sys2Proof.Machine
end

