-- ==== Sys2Proof/Machine/Flags.lean ====
section
/-!
DEFINITION. Machine/Flags.lean: the flag and counter computations that the blocks share: saturating counters
(R450), cause registers with the capture rule of R77, 64-bit counters (R150), parity, CRC-32C (R388) and the
CRC-32 of lane groups (R242).
-/
namespace Sys2Proof.Machine

/-! ### Counters -/

/-- Adds `n` to the 32-bit counter at `o`. It stops at 0xFFFF_FFFF, and the addition that reaches that value
sets bit `b` of the saturation register `so` and raises event `ev`, where the block has one (R450). -/
def satAdd (o so b : Nat) (ev : Option Nat) (n : Nat) (s : State) : State :=
  let c := (s.reg o).toNat
  if c = 0xFFFFFFFF ∨ n = 0 then s
  else if c + n < 0xFFFFFFFF then s.setReg o (BitVec.ofNat 32 (c + n))
  else
    let s := (s.setReg o 0xFFFFFFFF).setBit so b true
    match ev with
    | some e => raise e s
    | none => s

/-- The sticky bit of a counter that no register of saturation bits serves: it is set from the increment that brings the counter
to its maximum until the counter clears (R450; log 171). -/
def State.saturated (s : State) (o : Nat) : Bool := s.reg o == 0xFFFFFFFF

/-- Counts one at such a counter. -/
def countUp (o : Nat) (s : State) : State := if s.saturated o then s else s.setReg o (s.reg o + 1)

/-- Adds `n` to the 64-bit counter at `o` in the same way (R150). -/
def satAdd64 (o so b : Nat) (ev : Option Nat) (n : Nat) (s : State) : State :=
  let c := (s.reg64 o).toNat
  if c = 2 ^ 64 - 1 ∨ n = 0 then s
  else if c + n < 2 ^ 64 - 1 then s.setReg64 o (BitVec.ofNat 64 (c + n))
  else
    let s := (s.setReg64 o (BitVec.ofNat 64 (2 ^ 64 - 1))).setBit so b true
    match ev with
    | some e => raise e s
    | none => s

/-- SCH_SPC_k counts `n` (R150). -/
def spcAdd (k n : Nat) (s : State) : State :=
  satAdd64 (Reg.SCH_SPC + 8 * k) Reg.SCH_SPC_SAT k (some 0x096) n s

/-- MEM_CNT_k counts `n` (R215). -/
def memCnt (k n : Nat) (s : State) : State :=
  satAdd (Reg.MEM_CNT + 4 * k) Reg.MEM_CNT_SAT k (some 0x2EB) n s

/-- HBD_CNT_k counts `n` (R238). -/
def hbdCnt (k n : Nat) (s : State) : State :=
  satAdd (Reg.HBD_CNT + 4 * k) Reg.HBD_CNT_SAT k (some 0x204) n s

/-- The number of step clocks that have passed: those of Doze and Nap are gated (R439). -/
def stepNo (s : State) : Nat := s.clock - s.pwr.gated

/-- SCH_CNT_HELD_k counts `n` (R115). -/
def heldCnt (k n : Nat) (s : State) : State :=
  satAdd (Reg.SCH_CNT_HELD + 4 * k) Reg.SCH_CNT_SAT k (some 0x08A) n s

/-- BAR0 offset of register `o` of cluster `c` (R30). -/
def cluReg (c o : Nat) : Nat := 0x400000 + 0x1000 * c + o

/-- Counter `k` of cluster `c`, at cluster offset 0x40 + 4k, counts `n` (R79). -/
def cluCnt (c k n : Nat) (s : State) : State :=
  satAdd (cluReg c (0x40 + 4 * k)) (cluReg c 0x60) k none n s

/-- BAR0 offset of register `o` of lane port `p`. -/
def lnkReg (p o : Nat) : Nat := 0x900000 + 0x400 * p + o

/-- LNK_CNT_k of lane port `p` counts `n` (R267). -/
def lnkCnt (p k n : Nat) (s : State) : State :=
  satAdd (lnkReg p (0x40 + 4 * k)) (lnkReg p 0x60) k none n s

/-! ### Causes (R77) -/

/-- Sets bit `b` of the cause register at `o`. When the register read all zeros, the capture registers take the
given words; they keep them after a clear too, until then (DESIGN CHOICE, log 163). -/
def causeSet (o b : Nat) (capt : List (Nat × Word32)) (s : State) : State :=
  let s := if s.reg o = 0 then forEach capt (fun p s => s.setReg p.1 p.2) s else s
  s.setBit o b true

/-- A GBL_ERR_STATUS cause, captured with its BAR0 offset, kind and path, with its event (R77, R392). -/
def gblErr (kind ev off pathCode : Nat) (lanes : Bool) (s : State) : State :=
  raise ev (causeSet Reg.GBL_ERR_STATUS kind
    [(Reg.GBL_ERR_ADDR, BitVec.ofNat 32 off),
     (Reg.GBL_ERR_INFO, BitVec.ofNat 32 (kind + 16 * pathCode + 64 * b2n lanes))] s)

/-- A MEM_CAUSE bit with its capture: the address, and KIND, CLUSTER, CONTEXT, SPACE and HOST (R215). -/
def memCause (b kind : Nat) (addr : Word64) (cluster ctx : Nat) (hbm host : Bool) (s : State) : State :=
  causeSet Reg.MEM_CAUSE b
    [(Reg.MEM_ERR_ADDR, lo32 addr), (Reg.MEM_ERR_ADDR + 4, hi32 addr),
     (Reg.MEM_ERR_INFO, BitVec.ofNat 32
        (2 ^ 28 * kind + 2 ^ 20 * cluster + 2 ^ 17 * ctx + 2 ^ 16 * b2n hbm + 2 ^ 15 * b2n host))] s

/-- A HBD_CAUSE bit with its capture: KIND, RINGPOS, RING, NI and POS, and the cycle number (R77). -/
def hbdCause (b kind : Nat) (loc : HbdLoc) (pos : Nat) (cyc : Word64) (s : State) : State :=
  causeSet Reg.HBD_CAUSE b
    [(Reg.HBD_ERR_LOC, BitVec.ofNat 32
        (2 ^ 28 * kind + 2 ^ 23 * loc.ringPos.toNat + 2 ^ 21 * loc.ring.toNat + 2 ^ 12 * loc.ni.toNat + pos % 4096)),
     (Reg.HBD_ERR_CYC, lo32 cyc), (Reg.HBD_ERR_CYC + 4, hi32 cyc)] s

/-- A LNK_CAUSE bit of port `p`, with its capture; the event is raised when the bit changes from 0 to 1. -/
def lnkCause (p b lane : Nat) (s : State) : State :=
  let was := s.bit (lnkReg p 8) b
  let s := causeSet (lnkReg p 8) b [(lnkReg p 0xC, BitVec.ofNat 32 (2 ^ 28 * (b + 1) + 2 ^ 26 * lane))] s
  if was then s else raise (0x240 + 8 * p + b) s

/-- A CLU_CAUSE bit of cluster `c` (R77): KIND, STEP and INDEX and the cycle number are captured when the
register reads all zeros (an orphan read captured before is then no longer the capture), the event is raised when the bit
changes from 0 to 1, and the bit is noted for the fault summary of the executing cycle (B3 of R84). -/
def cluCause (c b kind step index : Nat) (cyc : Word64) (s : State) : State :=
  let was := s.bit (cluReg c 4) b
  let s := if s.reg (cluReg c 4) = 0 then { s with clu := { s.clu with orphan := mset s.clu.orphan none c none } } else s
  let s := causeSet (cluReg c 4) b
    [(cluReg c 8, BitVec.ofNat 32 (2 ^ 28 * kind + 2 ^ 16 * step + index % 65536)),
     (cluReg c 0xC, lo32 cyc), (cluReg c 0x10, hi32 cyc)] s
  let s := if was then s else raise (0x100 + c) s
  { s with clu := { s.clu with
      cause := mset s.clu.cause 0 c (mget s.clu.cause 0 c ||| BitVec.ofNat 8 (2 ^ b))
      firstPar := if b < 4 ∧ s.clu.firstPar = none then some c else s.clu.firstPar } }

/-! ### The perennial ledger (R451) -/

/-- The count of ledger counter `i`: its base and its pending increments, saturated (R454). -/
def ledRead (s : State) (i : Nat) : Nat := min 0xFFFFFFFF (mget s.ldg.base 0 i + mget s.ldg.pend 0 i)

/-- Adds `n` to ledger counter `i`. The first saturation of any counter sets PWR_CAUSE.LDG_SAT and raises
PWR_LDG_SATURATED. -/
def ledAdd (i n : Nat) (s : State) : State :=
  let c := ledRead s i
  if c = 0xFFFFFFFF ∨ n = 0 then s
  else
    let first := s.ldg.sat.isEmpty
    let s := { s with ldg := { s.ldg with pend := mset s.ldg.pend 0 i (mget s.ldg.pend 0 i + n) } }
    if c + n < 0xFFFFFFFF then s
    else
      let s := { s with ldg := { s.ldg with sat := mset s.ldg.sat false i true } }
      if first then raise 0x545 (causeSet Reg.PWR_CAUSE 4 [] s) else s

/-! ### Parity -/

/-- How many of the low `n` bits of `x` are ones. -/
def ones (x n : Nat) : Nat :=
  match n with
  | 0 => 0
  | k + 1 => ones x k + (x >>> k) % 2

/-- The parity of the low `n` bits of `x`: true when the count of ones is odd. -/
def oddOnes (x n : Nat) : Bool := ones x n % 2 == 1

/-- R36: each group of 27 payload bits together with its parity bit holds an odd number of ones. -/
def wordParityOk (w : InstrWord) : Bool :=
  let x := w.toNat
  (List.range 4).all (fun k =>
    (ones (x >>> (27 * k)) 27 + (x >>> (108 + k)) % 2) % 2 == 1)

/-! ### CRCs -/

/-- One bit of a reflected CRC with polynomial `poly` (in reflected form). -/
def crcBit (poly crc : BitVec 32) : BitVec 32 :=
  if crc.getLsbD 0 then (crc >>> 1) ^^^ poly else crc >>> 1

/-- Feeds one byte into a reflected CRC. -/
def crcByte (poly crc : BitVec 32) (b : Byte) : BitVec 32 :=
  forN 8 (fun _ c => crcBit poly c) (crc ^^^ b.setWidth 32)

/-- Feeds bytes into a reflected CRC. -/
def crcBytes (poly crc : BitVec 32) (bs : List Byte) : BitVec 32 := bs.foldl (crcByte poly) crc

/-- CRC-32C: polynomial 0x1EDC_6F41 reflected, initial value and final XOR of all ones (R388). -/
def crc32c (bs : List Byte) : BitVec 32 := crcBytes 0x82F63B78 0xFFFFFFFF bs ^^^ 0xFFFFFFFF

/-- The CRC-32 of IEEE 802.3: polynomial 0x04C1_1DB7 reflected (R242). -/
def crc32 (bs : List Byte) : BitVec 32 := crcBytes 0xEDB88320 0xFFFFFFFF bs ^^^ 0xFFFFFFFF

/-- The low `n` bytes of a number, little-endian (R7). -/
def leBytes (n x : Nat) : List Byte := (List.range n).map (fun i => BitVec.ofNat 8 (x >>> (8 * i)))

/-- The low `n` bytes of a number, big-endian (R7). -/
def beBytes (n x : Nat) : List Byte := (leBytes n x).reverse

/-- The number that `n` bytes at offset `o` of a byte string hold, little-endian (R7). -/
def leAt (bs : List Byte) (o n : Nat) : Nat :=
  (List.range n).foldl (fun a i => a + (bs.getD (o + i) 0).toNat * 2 ^ (8 * i)) 0

/-- The number that `n` bytes at offset `o` of a byte string hold, big-endian (R7). -/
def beAt (bs : List Byte) (o n : Nat) : Nat :=
  (List.range n).foldl (fun a i => 256 * a + (bs.getD (o + i) 0).toNat) 0

end Sys2Proof.Machine
end

