-- ==== Sys2Proof/Machine/Access.lean ====
section
/-!
DEFINITION. Machine/Access.lean: who may write BAR0 (R375), which offsets a grade lacks (R2), and which fields
the configuration CRC covers (R387).
-/
namespace Sys2Proof.Machine

/-- The path carries the owner; Bonnet acts with owner authority (R375). -/
def State.ownsPath (s : State) (p : Path) : Bool :=
  match p with
  | .pf0 => s.own.owner == .host
  | .smb => s.own.owner == .bmc
  | .pf1 => false
  | .bonnet => true

/-- A disruptive JTAG instruction (R383). -/
def disruptive (j : JtagInstr) : Bool :=
  match j with
  | .extest | .highz | .clamp | .extestPulse | .extestTrain => true
  | .samplePreload | .idcode | .dbgGate | .bypass => false

/-- GBL_ERR_INFO.PATH of a path; an access of Bonnet's is captured as PATH 0 (log 31). -/
def pathCode (p : Path) : Nat :=
  match p with
  | .pf0 => 0
  | .pf1 => 1
  | .smb => 2
  | .bonnet => 0

/-- The offset belongs to a cluster, bank, HBM stack, lane port or event that the FQ9620 lacks (R2). -/
def absentAt (s : State) (off : Nat) : Bool :=
  s.ident.half &&
    ((0x480000 ≤ off && off < 0x500000) || (0x902000 ≤ off && off < 0x904000) ||
     (0xB00140 ≤ off && off < 0xB00180) || (0xB00480 ≤ off && off < 0xB00500) ||
     (0xA00180 ≤ off && off < 0xA00200) ||
     (0x4600 ≤ off && off < 0x4800) || (0x4A00 ≤ off && off < 0x4B00) ||
     (0x1030 ≤ off && off < 0x1040) || (0x1050 ≤ off && off < 0x1058) ||
     (0x1130 ≤ off && off < 0x1140) || (0x1150 ≤ off && off < 0x1158))

/-- A write dropped because its path does not own (R375). -/
def observerWrite (path : Path) (off : Nat) (s : State) : State :=
  gblErr 2 0x003 off (pathCode path) false s

/-- A write that the owner's path alone may make (R375): dropped silently at an absent resource (R2), reported
when the path does not own, performed by `f` otherwise. -/
def ownerWrite (path : Path) (off : Nat) (f : State → State) (s : State) : State :=
  if absentAt s off then s
  else if s.ownsPath path then f s
  else observerWrite path off s

/-- The bits that the configuration CRC excludes at an offset (R387). -/
def excludedMask (off : Nat) : Word32 :=
  if off = Reg.GBL_SNAP ∨ off = Reg.GBL_OWN_CLAIM ∨ off = Reg.GBL_OWN_BEAT ∨ off = Reg.GBL_CFGCRC_CTRL ∨
     off = Reg.GBL_CFGCRC_REF ∨ (0x1100 ≤ off ∧ off < 0x11C0) then 0xFFFFFFFF
  else if off = Reg.SCH_CTRL then 1
  else if off = Reg.SCH_RUN_COUNT ∨ off = Reg.SCH_APPLY_CYC ∨ off = Reg.SCH_APPLY_CYC + 4 ∨
     off = Reg.SCH_CKPT_SEL ∨ off = Reg.SCH_REWIND ∨ off = Reg.SCH_LOAD_CTRL ∨
     (0x200304 ≤ off ∧ off < 0x200314) then 0xFFFFFFFF
  else if off = Reg.HBD_LINK_SEL then 0xFFFFFFFF
  else if off = Reg.TIM_CAPT_CTRL ∨ (0xA00020 ≤ off ∧ off < 0xA00030) then 0xFFFFFFFF
  else if off = Reg.MEM_MARCH_CTRL then 0xFFFFFFFF
  else if off = Reg.AST_CTRL then 0x20
  else if off = Reg.LKS_CTRL then 1
  else if off = Reg.LKS_HOST_RD then 0xFFFFFFFF
  else if 0xE02000 ≤ off ∧ off < 0xE02200 ∧ off % 32 = 0x10 then 0xFFFFFFFF
  else 0

/-- The covered bits of the register at an offset: its RW and RWL bits, but for the excluded ones and for
resources that the grade lacks (R387). -/
def coveredMask (s : State) (off : Nat) : Word32 :=
  if absentAt s off then 0
  else match rowAt off with
    | some r => (r.rw ||| r.rwl) &&& ~~~(excludedMask off)
    | none => 0

/-- An accepted write to the register at `off` marks the sweep dirty when it concerns a covered field or
GBL_CFGCRC_REF (R389). -/
def markDirty (off : Nat) (s : State) : State :=
  if coveredMask s off ≠ 0 ∨ off = Reg.GBL_CFGCRC_REF then
    { s with host := { s.host with sweepDirty := true } }
  else s

/-- An accepted write of bits `[lo + w - 1 : lo]` of an RW register. -/
def writeFld (off lo w v : Nat) (s : State) : State := markDirty off (s.setFld off lo w v)

/-- Bonnet holds a debug unlock (R390, R414). -/
def State.unlocked (s : State) : Bool := s.bnt.debugUnlock

/-- GBL_LOCK holds the RWL fields of the block at an offset locked (R391). -/
def lockedAt (s : State) (off : Nat) : Bool := s.bit Reg.GBL_LOCK (blockCode off)

/-! ### One BAR0 write -/

/-- Writes that the table of R375 allows to a path that does not own: GBL_OWN_CLAIM from PF0 and the SMBus,
GBL_SNAP from every path, and the ring read indexes from PF0. -/
def nonOwnerOk (path : Path) (off : Nat) : Bool :=
  (off == Reg.GBL_SNAP) ||
  (off == Reg.GBL_OWN_CLAIM && (path == .pf0 || path == .smb)) ||
  (path == .pf0 && (off == Reg.LKS_HOST_RD || (0xE02000 ≤ off && off < 0xE02200 && off % 32 == 0x10)))

/-- Stores a value by the access codes of its register's row: RW and RWL bits take it, a 1 clears a W1C bit and
sets a W1S bit, every other bit keeps what it holds. -/
def storeReg (off : Nat) (val : Word32) (s : State) : State :=
  match rowAt off with
  | none => s
  | some r =>
    let cur := s.reg off
    let m := r.rw ||| r.rwl
    s.setReg off (((cur &&& ~~~m &&& ~~~(val &&& r.w1c)) ||| (val &&& m)) ||| (val &&& r.w1s))

/-- A write that would change a KEEP field (R390): reported, and without effect on that field unless a debug
unlock is in force. -/
def keepCheck (path : Path) (off : Nat) (val : Word32) (s : State) : State :=
  match rowAt off with
  | none => s
  | some r =>
    if (val ^^^ s.reg off) &&& r.keep = 0 then s
    else
      let s := gblErr 3 0x004 off (pathCode path) false s
      if s.unlocked then s.setReg off ((s.reg off &&& ~~~r.keep) ||| (val &&& r.keep)) else s

/-- A write to RWL fields of a locked block (R11, R391, R392): dropped, and reported unless every such field
receives the value that it holds. The value that the rest of the write acts with is given. A 0 written to a bit of
GBL_LOCK that is 1 is no such write: W1S gives it no effect to drop (DEDUCED, log 118). -/
def lockCheck (path : Path) (off : Nat) (val : Word32) (s : State) : Word32 × State :=
  match rowAt off with
  | none => (val, s)
  | some r =>
    if lockedAt s off then
      let v := (val &&& ~~~r.rwl) ||| (s.reg off &&& r.rwl)
      if (val ^^^ s.reg off) &&& r.rwl = 0 then (v, s) else (v, gblErr 1 0x002 off (pathCode path) false s)
    else (val, s)

/-- A write of GBL_ERR_STATUS that is itself reported does not clear its own cause: the set takes effect (R9). -/
def ownReport (off : Nat) (val : Word32) (s : State) : Word32 :=
  match rowAt off with
  | none => 0
  | some r => if off = Reg.GBL_ERR_STATUS ∧ (val ^^^ s.reg off) &&& r.keep ≠ 0 then 8 else 0

/-- One BAR0 write of `val` at an occupied offset (R2, R375, R389 to R392): `eff` is what the register does with
a write that is accepted. -/
def regAccess (path : Path) (off : Nat) (val : Word32) (eff : Word32 → State → State) (s : State) : State :=
  if absentAt s off then s
  else if s.ownsPath path || nonOwnerOk path off then
    let t := keepCheck path off val s
    let (v, t) := lockCheck path off val t
    eff (v &&& ~~~(ownReport off val s)) (markDirty off t)
  else observerWrite path off s

end Sys2Proof.Machine
end

