-- ==== Sys2Proof/Config.lean ====
section
/-!
DEFINITION. Config.lean: what the specification leaves open, and what it gives only as a geometry that it does not print. Every constant here is opaque: nothing in Lean can find a value of it,
so a statement that mentions one holds for every value it could have.
-/
namespace Sys2Proof.Config

/-- The word that an HBM address reads as when nothing has been written there under HBM key number `key`
(R25: "whatever its ciphertext decrypts to"). -/
opaque hbmWord (key addr : Nat) : Word64

/-- A fresh 64-bit value that the specification does not state, numbered by `State.freeCtr`. -/
opaque free64 (n : Nat) : Word64

/-- What the boundary register drives a user pin to, after `n` changes of the JTAG instruction: its contents are
shifted in by TCK, in a cell order that the vendor's BSDL files give (spec/14_host_registers_ownership.md, JTAG). -/
opaque boundary (n pin : Nat) : Option Bool

/-- SHA-384 of the recovery firmware of the boot ROM, and its settings format (R431). -/
opaque recoveryDigest : BitVec 384
opaque recoverySettingsFmt : Byte

/-- The settings that firmware of a format starts from where the keep holds none, and those that it makes of another format's
(R435 says nothing of what settings are; log 188). -/
opaque freshSettings (fmt : BitVec 8) : BitVec 64
opaque convertedSettings (old new : BitVec 8) (data : BitVec 64) : BitVec 64

/-- The platform configuration digest that attestation carries while no package is booted (R416, R431). -/
opaque recoveryPlatform : BitVec 384

/-- WHAT, FIRST and COUNT as the 4 header bytes of a READBACK hold them, whose places R413 does not state. -/
opaque readbackFields (what first count : Nat) : BitVec 32

/-- The virtual channel, 1 to 3, of a flit other than a late delivery's that takes a link in a clock, else 0: free, since the packets of
the blocks that use these channels have no stated number or moment (R221, R222; log 115). -/
opaque vcTraffic (link clock : Nat) : Nat

/-- The head of a packet other than a late delivery is promoted in a clock (R223; log 115). -/
opaque vcAged (clock : Nat) : Bool

/-! ### What Bonnet holds (spec/15_bonnet_security.md, R401, R416; spec/16_boot_update_reset.md, R428) -/

/-- The secret number behind a signature of the identity key, of which R416 says nothing but the scheme (log 157). -/
opaque signNonce (n : Nat) : Nat

/-- The certificates in the MRAM keep: 0 identity, 1 intermediate, 2 agreement (R401). -/
opaque certificate (k : Nat) : List Byte

/-! ### The Glove routing geometry, which spec/ does not print (R297) -/

/-- ROUTE_MODE of a region's border frame: true is segmented mode (R294). -/
opaque segmented (frames : SMap (BitVec 1024)) : Bool

/-- The 4-bit source code of GCLK `k` (R293). -/
opaque gclkCode (frames : SMap (BitVec 1024)) (k : Nat) : Nat

/-- The wire of the region that drives a sink, or none: sinks 0 to 431 are input `i` of block `b` at `72*b + i`,
512 + k is spine line 64r + k, 1024 + j is DI line 256r + j; wires 0 to 191 are the macrocells, 256 + p the
region's pins, 512 + d its DO lines, 1024 + l the 256 spine lines. -/
opaque routeSource (frames : SMap (BitVec 1024)) (sink : Nat) : Option Nat

/-- The routing and border frames of a region hold no reserved code and no reserved bit that is not zero (R299). -/
opaque routingOk (frames : SMap (BitVec 1024)) (i : Nat) : Bool

/-- The border frame, from 2016, that holds the code of GCLK `k` (R297; log 105). -/
opaque gclkFrame (k : Nat) : BitVec 5

/-- The level of a node that nothing drives in step clock `clock`: user pin `node` below 384, spine line `node - 1024` in a
ring of spine lines from 1024 (R294, R295 state none; log 145). -/
opaque openLevel (node clock : Nat) : Bool

end Sys2Proof.Config
end

