-- ==== Sys2Proof/Machine/Crypto.lean ====
section
/-!
DEFINITION. Machine/Crypto.lean: the published algorithms that the specification names: SHA-256 and SHA-384, HMAC, HKDF,
AES-256, AES-256-GCM, and the curve P-384 with ECDH and ECDSA (spec/15_bonnet_security.md, R401 to R416;
spec/16_boot_update_reset.md, R425 to R428).
-/
namespace Sys2Proof.Machine

/-! ### SHA-2 -/

/-- A word size of SHA-2: two rotations and a shift for each function of the message schedule, three rotations for each of the
rounds, and the round constants. -/
structure Sha2 (w : Nat) where
  small0 : Nat × Nat × Nat
  small1 : Nat × Nat × Nat
  big0 : Nat × Nat × Nat
  big1 : Nat × Nat × Nat
  ks : List (BitVec w)

/-- The eight working variables. -/
structure Sha2Regs (w : Nat) where
  a : BitVec w
  b : BitVec w
  c : BitVec w
  d : BitVec w
  e : BitVec w
  f : BitVec w
  g : BitVec w
  h : BitVec w

/-- The round constants of the 64-bit word size; those of the 32-bit one are the upper halves of the first 64. -/
def sha512Ks : List Word64 :=
  [0x428a2f98d728ae22, 0x7137449123ef65cd, 0xb5c0fbcfec4d3b2f, 0xe9b5dba58189dbbc,
   0x3956c25bf348b538, 0x59f111f1b605d019, 0x923f82a4af194f9b, 0xab1c5ed5da6d8118,
   0xd807aa98a3030242, 0x12835b0145706fbe, 0x243185be4ee4b28c, 0x550c7dc3d5ffb4e2,
   0x72be5d74f27b896f, 0x80deb1fe3b1696b1, 0x9bdc06a725c71235, 0xc19bf174cf692694] ++
  [0xe49b69c19ef14ad2, 0xefbe4786384f25e3, 0x0fc19dc68b8cd5b5, 0x240ca1cc77ac9c65,
   0x2de92c6f592b0275, 0x4a7484aa6ea6e483, 0x5cb0a9dcbd41fbd4, 0x76f988da831153b5,
   0x983e5152ee66dfab, 0xa831c66d2db43210, 0xb00327c898fb213f, 0xbf597fc7beef0ee4,
   0xc6e00bf33da88fc2, 0xd5a79147930aa725, 0x06ca6351e003826f, 0x142929670a0e6e70] ++
  [0x27b70a8546d22ffc, 0x2e1b21385c26c926, 0x4d2c6dfc5ac42aed, 0x53380d139d95b3df,
   0x650a73548baf63de, 0x766a0abb3c77b2a8, 0x81c2c92e47edaee6, 0x92722c851482353b,
   0xa2bfe8a14cf10364, 0xa81a664bbc423001, 0xc24b8b70d0f89791, 0xc76c51a30654be30,
   0xd192e819d6ef5218, 0xd69906245565a910, 0xf40e35855771202a, 0x106aa07032bbd1b8] ++
  [0x19a4c116b8d2d0c8, 0x1e376c085141ab53, 0x2748774cdf8eeb99, 0x34b0bcb5e19b48a8,
   0x391c0cb3c5c95a63, 0x4ed8aa4ae3418acb, 0x5b9cca4f7763e373, 0x682e6ff3d6b2b8a3,
   0x748f82ee5defb2fc, 0x78a5636f43172f60, 0x84c87814a1f0ab72, 0x8cc702081a6439ec,
   0x90befffa23631e28, 0xa4506cebde82bde9, 0xbef9a3f7b2c67915, 0xc67178f2e372532b] ++
  [0xca273eceea26619c, 0xd186b8c721c0c207, 0xeada7dd6cde0eb1e, 0xf57d4f7fee6ed178,
   0x06f067aa72176fba, 0x0a637dc5a2c898a6, 0x113f9804bef90dae, 0x1b710b35131c471b,
   0x28db77f523047d84, 0x32caab7b40c72493, 0x3c9ebe0a15c9bebc, 0x431d67c49c100d4c,
   0x4cc5d4becb3e42b6, 0x597f299cfc657e2a, 0x5fcb6fab3ad6faec, 0x6c44198c4a475817]

/-- The two word sizes. -/
def shaA32 : Sha2 32 :=
  { small0 := (7, 18, 3), small1 := (17, 19, 10), big0 := (2, 13, 22), big1 := (6, 11, 25)
    ks := (sha512Ks.take 64).map hi32 }
def shaA64 : Sha2 64 :=
  { small0 := (1, 8, 7), small1 := (19, 61, 6), big0 := (28, 34, 39), big1 := (14, 18, 41), ks := sha512Ks }

/-- Reads eight words as working variables. -/
def Sha2Regs.ofWords {w : Nat} (l : List (BitVec w)) : Sha2Regs w :=
  { a := l.getD 0 0, b := l.getD 1 0, c := l.getD 2 0, d := l.getD 3 0
    e := l.getD 4 0, f := l.getD 5 0, g := l.getD 6 0, h := l.getD 7 0 }

/-- The initial hash values of SHA-256 and SHA-384. -/
def sha256Init : Sha2Regs 32 :=
  .ofWords (([
   0x6a09e667f3bcc908, 0xbb67ae8584caa73b, 0x3c6ef372fe94f82b, 0xa54ff53a5f1d36f1,
   0x510e527fade682d1, 0x9b05688c2b3e6c1f, 0x1f83d9abfb41bd6b, 0x5be0cd19137e2179] : List Word64).map hi32)
def sha384Init : Sha2Regs 64 := .ofWords [
   0xcbbb9d5dc1059ed8, 0x629a292a367cd507, 0x9159015a3070dd17, 0x152fecd8f70e5939,
   0x67332667ffc00b31, 0x8eb44a8768581511, 0xdb0c2e0d64f98fa7, 0x47b5481dbefa4fa4]

/-- A function of the rounds, and one of the message schedule. -/
def shaBig {w : Nat} (r : Nat × Nat × Nat) (x : BitVec w) : BitVec w :=
  x.rotateRight r.1 ^^^ x.rotateRight r.2.1 ^^^ x.rotateRight r.2.2
def shaSmall {w : Nat} (r : Nat × Nat × Nat) (x : BitVec w) : BitVec w :=
  x.rotateRight r.1 ^^^ x.rotateRight r.2.1 ^^^ (x >>> r.2.2)

/-- One round: the working variables, and the 16 words of the schedule that come next. -/
def shaRound {w : Nat} (al : Sha2 w) (v : Sha2Regs w × List (BitVec w)) (k : BitVec w) : Sha2Regs w × List (BitVec w) :=
  let r := v.1
  let ws := v.2
  let t1 := r.h + shaBig al.big1 r.e + ((r.e &&& r.f) ^^^ (~~~r.e &&& r.g)) + k + ws.getD 0 0
  let t2 := shaBig al.big0 r.a + ((r.a &&& r.b) ^^^ (r.a &&& r.c) ^^^ (r.b &&& r.c))
  ({ a := t1 + t2, b := r.a, c := r.b, d := r.c, e := r.d + t1, f := r.e, g := r.f, h := r.g },
   ws.drop 1 ++ [shaSmall al.small1 (ws.getD 14 0) + ws.getD 9 0 + shaSmall al.small0 (ws.getD 1 0) + ws.getD 0 0])

/-- One block of 16 words. -/
def shaBlock {w : Nat} (al : Sha2 w) (r : Sha2Regs w) (ws : List (BitVec w)) : Sha2Regs w :=
  let o := (al.ks.foldl (shaRound al) (r, ws)).1
  { a := r.a + o.a, b := r.b + o.b, c := r.c + o.c, d := r.d + o.d, e := r.e + o.e, f := r.f + o.f, g := r.g + o.g, h := r.h + o.h }

/-- The padding of a message of `n` bytes, for blocks of `2 * w` bytes. -/
def shaPad (w n : Nat) : List Byte :=
  let blocks := (n + 1 + w / 4 + 2 * w - 1) / (2 * w)
  (0x80 : Byte) :: List.replicate (2 * w * blocks - n - 1 - w / 4) 0 ++ beBytes (w / 4) (8 * n)

/-- The blocks of a padded message, in order. -/
def shaBlocks {w : Nat} (al : Sha2 w) (fuel : Nat) (r : Sha2Regs w) (bs : List Byte) : Sha2Regs w :=
  match fuel with
  | 0 => r
  | n + 1 =>
    if bs.isEmpty then r
    else shaBlocks al n (shaBlock al r ((List.range 16).map (fun i => BitVec.ofNat w (beAt (bs.take (2 * w)) (w / 8 * i) (w / 8)))))
      (bs.drop (2 * w))

/-- SHA-256, as 32 bytes. -/
def sha256 (msg : List Byte) : List Byte :=
  let r := shaBlocks shaA32 (msg.length + 1) sha256Init (msg ++ shaPad 32 msg.length)
  [r.a, r.b, r.c, r.d, r.e, r.f, r.g, r.h].flatMap (fun x => beBytes 4 x.toNat)

/-- SHA-384, as 48 bytes. -/
def sha384Bytes (msg : List Byte) : List Byte :=
  let r := shaBlocks shaA64 (msg.length + 1) sha384Init (msg ++ shaPad 64 msg.length)
  [r.a, r.b, r.c, r.d, r.e, r.f].flatMap (fun x => beBytes 8 x.toNat)

/-- SHA-384. -/
def sha384 (msg : List Byte) : BitVec 384 := BitVec.ofNat 384 (beAt (sha384Bytes msg) 0 48)

/-! ### HMAC and HKDF -/

/-- HMAC with a hash function of blocks of `blk` bytes. -/
def hmacOf (hash : List Byte → List Byte) (blk : Nat) (key msg : List Byte) : List Byte :=
  let k := if blk < key.length then hash key else key
  let k := k ++ List.replicate (blk - k.length) 0
  hash (k.map (fun b => b ^^^ 0x5C) ++ hash (k.map (fun b => b ^^^ 0x36) ++ msg))

/-- The first 16 bytes of HMAC-SHA-256 (R406). -/
def hmacTag (key : BitVec 256) (msg : List Byte) : BitVec 128 :=
  BitVec.ofNat 128 (beAt (hmacOf sha256 64 (beBytes 32 key.toNat) msg) 0 16)

/-- HKDF-Extract and HKDF-Expand to 32 bytes, with SHA-384 (R402; that R410 and R412 mean the same hash: DEDUCED, log 156). -/
def hkdfExtract (salt ikm : List Byte) : List Byte := hmacOf sha384Bytes 128 salt ikm
def hkdfExpand (prk info : List Byte) : BitVec 256 :=
  BitVec.ofNat 256 (beAt (hmacOf sha384Bytes 128 prk (info ++ [1])) 0 32)

/-! ### AES-256 and GCM -/

/-- The S-box, 32 entries a row. -/
def sboxRows : List Nat :=
  [0x637c777bf26b6fc53001672bfed7ab76ca82c97dfa5947f0add4a2af9ca472c0,
   0xb7fd9326363ff7cc34a5e5f171d8311504c723c31896059a071280e2eb27b275,
   0x09832c1a1b6e5aa0523bd6b329e32f8453d100ed20fcb15b6acbbe394a4c58cf,
   0xd0efaafb434d338545f9027f503c9fa851a3408f929d38f5bcb6da2110fff3d2,
   0xcd0c13ec5f974417c4a77e3d645d197360814fdc222a908846eeb814de5e0bdb,
   0xe0323a0a4906245cc2d3ac629195e479e7c8376d8dd54ea96c56f4ea657aae08,
   0xba78252e1ca6b4c6e8dd741f4bbd8b8a703eb5664803f60e613557b986c11d9e,
   0xe1f8981169d98e949b1e87e9ce5528df8ca1890dbfe6426841992d0fb054bb16]

/-- One entry of the S-box. -/
def sbox (x : Byte) : Byte := BitVec.ofNat 8 (sboxRows.getD (x.toNat / 32) 0 >>> (8 * (31 - x.toNat % 32)))

/-- Multiplication by x in the field of AES. -/
def aesDouble (x : Byte) : Byte := if x.getLsbD 7 then (x <<< 1) ^^^ 0x1B else x <<< 1

/-- XOR, byte by byte. -/
def xorBytes (a b : List Byte) : List Byte := List.zipWith (fun x y => x ^^^ y) a b

/-- The next 32 bytes of the key schedule, after 32 bytes `k`, with a round constant. -/
def aesKeyNext (k : List Byte) (rcon : Byte) : List Byte :=
  let w (i : Nat) : List Byte := (k.drop (4 * i)).take 4
  let last := (w 7).map sbox
  let w0 := xorBytes (w 0) [last.getD 1 0 ^^^ rcon, last.getD 2 0, last.getD 3 0, last.getD 0 0]
  let w1 := xorBytes (w 1) w0
  let w2 := xorBytes (w 2) w1
  let w3 := xorBytes (w 3) w2
  let w4 := xorBytes (w 4) (w3.map sbox)
  let w5 := xorBytes (w 5) w4
  let w6 := xorBytes (w 6) w5
  w0 ++ w1 ++ w2 ++ w3 ++ w4 ++ w5 ++ w6 ++ xorBytes (w 7) w6

/-- The 15 round keys of 16 bytes, as one string. -/
def aesSchedule (key : List Byte) : List Byte :=
  (([1, 2, 4, 8, 0x10, 0x20, 0x40] : List Byte).foldl (fun (a : List Byte × List Byte) r =>
    let n := aesKeyNext a.2 r
    (a.1 ++ n, n)) (key, key)).1

/-- ShiftRows of a block whose byte `4 * c + r` is row `r` of column `c`. -/
def aesShiftRows (b : List Byte) : List Byte :=
  (List.range 16).map (fun i => b.getD ((i + 4 * (i % 4)) % 16) 0)

/-- MixColumns. -/
def aesMixColumns (b : List Byte) : List Byte :=
  (List.range 16).map (fun i =>
    let x (k : Nat) : Byte := b.getD (4 * (i / 4) + (i + k) % 4) 0
    aesDouble (x 0) ^^^ aesDouble (x 1) ^^^ x 1 ^^^ x 2 ^^^ x 3)

/-- AES-256 of one block under a key schedule. -/
def aesBlock (ks b : List Byte) : List Byte :=
  let rk (i : Nat) : List Byte := (ks.drop (16 * i)).take 16
  let b := (List.range 13).foldl (fun b i => xorBytes (aesMixColumns (aesShiftRows (b.map sbox))) (rk (i + 1))) (xorBytes b (rk 0))
  xorBytes (aesShiftRows (b.map sbox)) (rk 14)

/-- AES-256 of one block (R412). -/
def aes256 (key : BitVec 256) (block : BitVec 128) : BitVec 128 :=
  BitVec.ofNat 128 (beAt (aesBlock (aesSchedule (beBytes 32 key.toNat)) (beBytes 16 block.toNat)) 0 16)

/-- The product in the field of GCM, whose bit 0 is the first bit of a block. -/
def gcmMul (x y : BitVec 128) : BitVec 128 :=
  ((List.range 128).foldl (fun (a : BitVec 128 × BitVec 128) i =>
    (if x.getLsbD (127 - i) then a.1 ^^^ a.2 else a.1,
     if a.2.getLsbD 0 then (a.2 >>> 1) ^^^ (0xE1 <<< 120) else a.2 >>> 1)) (0, y)).1

/-- GHASH of the 16-byte blocks of a string whose length is a multiple of 16. -/
def ghash (h : BitVec 128) (fuel : Nat) (a : BitVec 128) (bs : List Byte) : BitVec 128 :=
  match fuel with
  | 0 => a
  | n + 1 => if bs.isEmpty then a else ghash h n (gcmMul (a ^^^ BitVec.ofNat 128 (beAt bs 0 16)) h) (bs.drop 16)

/-- Zero bytes up to a multiple of 16. -/
def pad16 (bs : List Byte) : List Byte := bs ++ List.replicate ((16 - bs.length % 16) % 16) 0

/-- The counter mode of GCM, from counter `c` on. -/
def gcmStream (ks nonce : List Byte) (fuel c : Nat) (bs : List Byte) : List Byte :=
  match fuel with
  | 0 => []
  | n + 1 =>
    if bs.isEmpty then []
    else xorBytes (bs.take 16) (aesBlock ks (nonce ++ beBytes 4 c)) ++ gcmStream ks nonce n (c + 1) (bs.drop 16)

/-- The tag of a ciphertext. -/
def gcmTag (ks nonce aad cipher : List Byte) : List Byte :=
  let h := BitVec.ofNat 128 (beAt (aesBlock ks (List.replicate 16 0)) 0 16)
  let bs := pad16 aad ++ pad16 cipher ++ beBytes 8 (8 * aad.length) ++ beBytes 8 (8 * cipher.length)
  xorBytes (beBytes 16 (ghash h (bs.length + 1) 0 bs).toNat) (aesBlock ks (nonce ++ beBytes 4 1))

/-- AES-256-GCM with a nonce of 12 bytes: the ciphertext followed by its 16-byte tag (R403, R412, R413). -/
def gcmSeal (key : BitVec 256) (nonce aad plain : List Byte) : List Byte :=
  let ks := aesSchedule (beBytes 32 key.toNat)
  let c := gcmStream ks nonce (plain.length + 1) 2 plain
  c ++ gcmTag ks nonce aad c

/-- The plaintext of a sealed string; none when its tag does not verify. -/
def gcmOpen (key : BitVec 256) (nonce aad sealed : List Byte) : Option (List Byte) :=
  let ks := aesSchedule (beBytes 32 key.toNat)
  let c := sealed.take (sealed.length - 16)
  if sealed.drop (sealed.length - 16) = gcmTag ks nonce aad c then some (gcmStream ks nonce (c.length + 1) 2 c) else none

/-! ### The curve P-384 -/

/-- The field prime, the curve's constant b, and the order and coordinates of its base point. -/
def p384 : Nat :=
  0xfffffffffffffffffffffffffffffffffffffffffffffffffffffffffffffffeffffffff0000000000000000ffffffff
def b384 : Nat :=
  0xb3312fa7e23ee7e4988e056be3f82d19181d9c6efe8141120314088f5013875ac656398d8a2ed19d2a85c8edd3ec2aef
def n384 : Nat :=
  0xffffffffffffffffffffffffffffffffffffffffffffffffc7634d81f4372ddf581a0db248b0a77aecec196accc52973
def gx384 : Nat :=
  0xaa87ca22be8b05378eb1c71ef320ad746e1d3b628ba79b9859f741e082542a385502f25dbf55296c3a545e3872760ab7
def gy384 : Nat :=
  0x3617de4a96262c6f5d9e98bf9292dc29f8f41dbd289a147ce9da3113b5f0b8c00a60b1ce1d7e819d7a431d7c90ea0e5f

/-- x then y is a point on the curve. -/
def onCurve (x y : Nat) : Bool := x < p384 && y < p384 && (y * y + 3 * x) % p384 == (x * x * x + b384) % p384

/-- A point in Jacobian coordinates; `z` is 0 at infinity. -/
structure CurvePt where
  x : Nat
  y : Nat
  z : Nat

/-- A difference in the field. -/
def fsub (a b : Nat) : Nat := (a + p384 - b % p384) % p384

/-- Twice a point. -/
def ptDouble (p : CurvePt) : CurvePt :=
  let delta := p.z * p.z % p384
  let gamma := p.y * p.y % p384
  let beta := p.x * gamma % p384
  let alpha := 3 * fsub p.x delta * (p.x + delta) % p384
  let x := fsub (alpha * alpha) (8 * beta)
  { x := x, y := fsub (alpha * fsub (4 * beta) x) (8 * gamma * gamma), z := 2 * p.y * p.z % p384 }

/-- The sum of two points. -/
def ptAdd (p q : CurvePt) : CurvePt :=
  if p.z = 0 then q
  else if q.z = 0 then p
  else
    let pp := p.z * p.z % p384
    let qq := q.z * q.z % p384
    let u := p.x * qq % p384
    let v := p.y * q.z * qq % p384
    let h := fsub (q.x * pp) u
    let r := fsub (q.y * p.z * pp) v
    if h = 0 then (if r = 0 then ptDouble p else { x := 1, y := 1, z := 0 })
    else
      let hh := h * h % p384
      let x := fsub (r * r) (h * hh + 2 * u * hh)
      { x := x, y := fsub (r * fsub (u * hh) x) (v * h * hh), z := h * p.z * q.z % p384 }

/-- `k` times a point. -/
def ptMul (k : Nat) (p : CurvePt) : CurvePt :=
  (List.range 384).foldl (fun a i => if k.testBit (383 - i) then ptAdd (ptDouble a) p else ptDouble a) { x := 1, y := 1, z := 0 }

/-- `x` to the power `e` modulo `m`, and the inverse modulo a prime. -/
def powMod (m x e : Nat) : Nat :=
  (List.range 384).foldl (fun a i => if e.testBit (383 - i) then a * a % m * x % m else a * a % m) 1
def invMod (m x : Nat) : Nat := powMod m x (m - 2)

/-- The coordinates of a point that is not at infinity. -/
def ptX (p : CurvePt) : Nat := p.x * invMod p384 (p.z * p.z) % p384
def ptY (p : CurvePt) : Nat := p.y * invMod p384 (p.z * p.z * p.z) % p384

/-- The base point. -/
def basePt : CurvePt := { x := gx384, y := gy384, z := 1 }

/-- The public key of a private one, in uncompressed form without its leading byte: x then y, 96 bytes. -/
def publicKey (d : BitVec 384) : List Byte :=
  let p := ptMul d.toNat basePt
  beBytes 48 (ptX p) ++ beBytes 48 (ptY p)

/-- The x coordinate of ECDH with a public key of 96 bytes; none when that is no point of the curve. -/
def ecdh (d : BitVec 384) (key : List Byte) : Option (List Byte) :=
  let x := beAt key 0 48
  let y := beAt key 48 48
  if onCurve x y then some (beBytes 48 (ptX (ptMul d.toNat { x := x, y := y, z := 1 }))) else none

/-- ECDSA P-384 over SHA-384: `sig`, r then s, verifies for `msg` under the public key `key` (R425, R426). -/
def ecdsaVerify (key sig msg : List Byte) : Bool :=
  let x := beAt key 0 48
  let y := beAt key 48 48
  let r := beAt sig 0 48
  let w := invMod n384 (beAt sig 48 48)
  let p := ptAdd (ptMul ((sha384 msg).toNat * w % n384) basePt) (ptMul (r * w % n384) { x := x, y := y, z := 1 })
  onCurve x y && 0 < r && r < n384 && 0 < beAt sig 48 48 && beAt sig 48 48 < n384 && p.z != 0 && ptX p % n384 == r

/-- The signature of a message under the private key `d` with the per-message secret `k`: r then s (R416). -/
def ecdsaSign (d : BitVec 384) (k : Nat) (msg : List Byte) : List Byte :=
  let r := ptX (ptMul k basePt) % n384
  beBytes 48 r ++ beBytes 48 (invMod n384 k * ((sha384 msg).toNat + r * d.toNat) % n384)

/-! ### The keys that Bonnet derives (R401, R402, R410) -/

/-- The public half of the identity key, and DEVICE_BIND: the first 8 bytes of its SHA-384 digest (R401). -/
def identityKey (i : IdentSt) : List Byte := publicKey i.identKey
def deviceBind (i : IdentSt) : List Byte := (sha384Bytes (identityKey i)).take 8

/-- "ZHEOL-IMG", "ZHEOL-AUTH", "ZHEOL-OBS" and "KEYWRAP". -/
def labelImg : List Byte := [0x5A, 0x48, 0x45, 0x4F, 0x4C, 0x2D, 0x49, 0x4D, 0x47]
def labelAuth : List Byte := [0x5A, 0x48, 0x45, 0x4F, 0x4C, 0x2D, 0x41, 0x55, 0x54, 0x48]
def labelObs : List Byte := [0x5A, 0x48, 0x45, 0x4F, 0x4C, 0x2D, 0x4F, 0x42, 0x53]
def labelWrap : List Byte := [0x4B, 0x45, 0x59, 0x57, 0x52, 0x41, 0x50]

/-- K_IMG, K_AUTH and K_OBS of an image, from EPH_KEY and IV of its header (R402). -/
def imageKeys (i : IdentSt) (h : List Byte) : BitVec 256 × BitVec 256 × BitVec 256 :=
  let z := (ecdh i.agreeKey ((h.drop 0xB0).take 96)).getD []
  let prk := hkdfExtract (deviceBind i ++ (h.drop 0x110).take 12) z
  (hkdfExpand prk labelImg, hkdfExpand prk labelAuth, hkdfExpand prk labelObs)

/-- The key that a KEY_LOAD payload, or a record of a KEYS item, wraps for a target slot; none when the wrap tag fails, or EPH
is no point of the curve (R410; log 156). -/
def unwrapKey (i : IdentSt) (slot : Nat) (p : List Byte) : Option (BitVec 256) :=
  ((ecdh i.agreeKey ((p.drop 8).take 96)).bind (fun z =>
    gcmOpen (hkdfExpand (hkdfExtract (deviceBind i) z) (labelWrap ++ leBytes 1 slot)) (List.replicate 12 0) []
      ((p.drop 104).take 48))).map (fun k => BitVec.ofNat 256 (beAt k 0 32))

end Sys2Proof.Machine
end

