-- ==== Sys2Proof/Machine/Glove.lean ====
section
/-!
DEFINITION. Machine/Glove.lean: the Glove regions, what their product terms, macrocells and pin cells make of the
frames, DO updates and DI samples, the loads, and the commands (spec/10_glove.md, R284 to R311).
-/
namespace Sys2Proof.Machine

/-! ### Regions, frames and fields -/

/-- Region `r`. -/
def State.region (s : State) (r : Nat) : GlvRegion := mget s.glv.regions {} r

/-- Replaces region `r`. -/
def State.setRegion (s : State) (r : Nat) (g : GlvRegion) : State :=
  { s with glv := { s.glv with regions := mset s.glv.regions {} r g } }

/-- Bits `[lo + w - 1 : lo]` of a frame. -/
def fbits (f : BitVec 1024) (lo w : Nat) : Nat := f.toNat / 2 ^ lo % 2 ^ w

/-- Frame `i` of a region. -/
def frameAt (g : GlvRegion) (i : Nat) : BitVec 1024 := mget g.frames 0 i

/-- The configuration word of macrocell `m` of block `b` of a region (R292, R297). -/
def macroWord (g : GlvRegion) (b m : Nat) : Nat := fbits (frameAt g (192 * b + 160 + m)) 0 32

/-- Pin cell `k` of a region (R295). -/
def pinCell (g : GlvRegion) (k : Nat) : BitVec 1024 := frameAt g (1920 + k)

/-- Byte `i` of a region's park record. -/
def parkByte (g : GlvRegion) (i : Nat) : Nat := (g.park.getD i 0).toNat

/-- Bit `k` of OUT_PARK. -/
def outPark (g : GlvRegion) (k : Nat) : Bool := (g.park.getD (8 + k / 8) 0).getLsbD (k % 8)

/-- PIN_PARK of pin `k` of the region: 0 hold, 1 high-Z, 2 weak pull-up, 3 weak pull-down. -/
def pinPark (g : GlvRegion) (k : Nat) : Nat := parkByte g (48 + k / 4) / 4 ^ (k % 4) % 4

/-- VCCIO of a bank is in range (R478, R479). -/
def bankPresent (s : State) (b : Nat) : Bool := s.bit Reg.PWR_VCCIO b

/-! ### Pins and lines (R295, R304, R305) -/

/-- The region's pin cells act as configured: it runs, or its start has released them (R300). -/
def pinsLive (g : GlvRegion) : Bool := g.st == .running || g.stage == .released

/-- What region `r` drives its pin `k` to; none when it drives the pin not at all (R295, R304). -/
def regionDrive (s : State) (r k : Nat) : Option Bool :=
  let g := s.region r
  if pinsLive g then
    let c := pinCell g k
    let v := if fbits c 0 2 = 1 then some (mget g.q false (fbits c 2 8))
             else if fbits c 0 2 = 2 then some (mget s.glv.doLine false (256 * r + fbits c 2 8)) else none
    let on : Bool := fbits c 10 2 == 1 || (fbits c 10 2 == 2 && mget g.q false (fbits c 12 8))
    if on then v else none
  else match g.st with
    | .isolated | .fault | .parked => if pinPark g k = 0 then mget g.heldPins none k else none
    | .empty | .loading | .running => none

/-- User pins are high-Z with no pull: from power-up until shortly after the release of POR_N, when FUSE ends (R480). -/
def pullsOff (s : State) : Bool := s.boot.stage == .off || s.boot.stage == .porHeld || s.boot.stage == .fuse

/-- What a pin is driven to; none when the module drives it not at all: in an unpowered bank (R478), and while R480 has every user
pin high-Z. Under a disruptive JTAG instruction the boundary register drives it (R383). -/
def pinDrive (s : State) (p : Nat) : Option Bool :=
  if !bankPresent s (p / 48) || pullsOff s then none
  else if disruptive s.host.jtag then (if s.host.jtag = .highz then none else Config.boundary s.host.jtagCnt p)
  else regionDrive s (p / 96) (p % 96)

/-- The weak pull of a pin as a PULL code: 0 none, 1 up, 2 down, 3 keeper. It is the cell's, or PIN_PARK's, or the bank's
default (R295, R303, R304); a pin of an unpowered bank has none (R478, R479), and no pin has one while R480 says so. -/
def pinPull (s : State) (p : Nat) : Nat :=
  let g := s.region (p / 96)
  if !bankPresent s (p / 48) || pullsOff s then 0
  else if pinsLive g then fbits (pinCell g (p % 96)) 23 2
  else match g.st with
    | .empty | .loading => (mget s.glv.pulls 2 (p / 48)).toNat
    | .isolated | .fault | .parked | .running => pinPark g (p % 96) - 1

/-- The level of a pin of a powered bank: what the module drives, else what the outside drives, else what the weak pull gives;
open where there is none (log 18, 145). -/
def pinLevel (s : State) (p : Nat) : Bool :=
  match pinDrive s p, mget s.glv.pinIn none p with
  | some v, _ => v
  | none, some v => v
  | none, none =>
    let k := pinPull s p
    if k = 1 then true else if k = 2 then false else if k = 3 then mget s.glv.pinLast false p
    else Config.openLevel p s.clock

/-- The level that a pin's input buffer gives to its region; 0 for an unpowered bank or with INEN 0 (R295, R478; log 18). -/
def pinInput (s : State) (p : Nat) : Bool :=
  bankPresent s (p / 48) && fbits (pinCell (s.region (p / 96)) (p % 96)) 25 1 == 1 && pinLevel s p

/-- The keepers of the regions whose pin cells act hold the levels of their pins; a keeper of an unpowered bank holds nothing,
and the level that it finds when power returns is open. -/
def keepPins (s : State) : State :=
  forEach ((List.range 4).filter (fun r => pinsLive (s.region r))) (fun r s =>
    forEach ((List.range 96).filter (fun k => fbits (pinCell (s.region r) k) 23 2 == 3)) (fun k s =>
      { s with glv := { s.glv with pinLast := mset s.glv.pinLast false (96 * r + k) (pinLevel s (96 * r + k)) } }) s) s

/-- The pin of a region that drives a DI line of the region directly (DIDIR). -/
def didirPin (g : GlvRegion) (j : Nat) : Option Nat :=
  (List.range 96).find? (fun k => fbits (pinCell g k) 26 1 == 1 && fbits (pinCell g k) 27 8 == j)

/-- A level that enters region `r` by a pin, a DO line or a spine line: only a region that is RUNNING uses it. In every other state,
and so until its start releases its border, it is ignored: it reads 0 (R300, R304; log 146). -/
def enters (g : GlvRegion) (v : Bool) : Bool := g.st == .running && v

/-- The level of a wire of region `r`, as `Config.routeSource` numbers wires; a spine line is followed through the
regions at most `fuel` times. With more than 256 of them, the number of spine lines, what is left is a ring of lines that
nothing drives: its level is open (log 145). -/
def wireVal (fuel : Nat) (s : State) (r w : Nat) : Bool :=
  match fuel with
  | 0 => Config.openLevel w s.clock
  | n + 1 =>
    let g := s.region r
    if w < 192 then mget g.q false w
    else if 256 ≤ w ∧ w < 352 then enters g (pinInput s (96 * r + (w - 256)))
    else if 512 ≤ w ∧ w < 768 then enters g (mget s.glv.doLine false (256 * r + (w - 512)))
    else if 1024 ≤ w ∧ w < 1280 then
      let o := (w - 1024) / 64
      let k := (w - 1024) % 64
      let h := s.region o
      enters g <| match h.st with
      | .running => match Config.routeSource h.frames (512 + k) with
        | some x => wireVal n s o x
        | none => false
      | .isolated => if parkByte h 0 = 0 then mget h.heldLines false k else outPark h k
      | .fault | .parked => mget h.heldLines false k
      | .empty | .loading => false
    else false

/-- The level of line `k` that region `r` drives: spine lines 0 to 63, DI lines 64 to 319 (R304, R305). -/
def lineOut (s : State) (r k : Nat) : Bool :=
  let g := s.region r
  match g.st with
  | .running =>
    if k < 64 then wireVal 257 s r (1024 + 64 * r + k)
    else match didirPin g (k - 64) with
      | some p => pinInput s (96 * r + p)
      | none => match Config.routeSource g.frames (1024 + (k - 64)) with
        | some w => wireVal 257 s r w
        | none => false
  | .isolated => if parkByte g 0 = 0 then mget g.heldLines false k else outPark g k
  | .fault | .parked => mget g.heldLines false k
  | .empty | .loading => false

/-- DI line `l` (R287). -/
def diLine (s : State) (l : Nat) : Bool := lineOut s (l / 256) (64 + l % 256)

/-! ### Product terms and macrocells (R290 to R293) -/

/-- The 144 columns of block `b` of region `r`: the true and complement form of each input. -/
def blockCols (s : State) (r b : Nat) : BitVec 144 :=
  BitVec.ofNat 144 ((List.range 72).foldl (fun a i =>
    let v := match Config.routeSource (s.region r).frames (72 * b + i) with
      | some w => wireVal 257 s r w
      | none => false
    a + (if v then 2 ^ (2 * i) else 2 ^ (2 * i + 1))) 0)

/-- A product term: the AND of its enabled columns, 0 when none is enabled (R290). -/
def ptVal (g : GlvRegion) (b k : Nat) (cols : BitVec 144) : Bool :=
  let en : BitVec 144 := (frameAt g (192 * b + k)).setWidth 144
  en ≠ 0 && (en &&& ~~~cols) == 0

/-- STEER of logic term LT(4j + t) (R291). -/
def steer (g : GlvRegion) (b j t : Nat) : Nat := macroWord g b j / 4 ^ t % 4

/-- The OR of macrocell `m`: every logic term steered to it. -/
def macroOr (g : GlvRegion) (b m : Nat) (cols : BitVec 144) : Bool :=
  (List.range 4).any (fun t =>
    (steer g b m t == 0 && ptVal g b (4 * m + t) cols) ||
    (m + 1 < 32 && steer g b (m + 1) t == 1 && ptVal g b (4 * (m + 1) + t) cols) ||
    (0 < m && steer g b (m - 1) t == 2 && ptVal g b (4 * (m - 1) + t) cols))

/-- XIN of macrocell `m`. -/
def macroXin (g : GlvRegion) (b m : Nat) (cols : BitVec 144) : Bool :=
  (List.range 4).any (fun t => steer g b m t == 3 && ptVal g b (4 * m + t) cols)

/-- Control line CLi of a block. -/
def ctrlLine (g : GlvRegion) (b i : Nat) (cols : BitVec 144) : Bool :=
  xor ((List.range 4).any (fun t => ptVal g b (128 + 4 * i + t) cols))
    ((frameAt g (192 * b + 128 + 4 * i)).getLsbD 144)

/-- A region clock (R293). -/
def gclk (s : State) (r k : Nat) : Bool :=
  let g := s.region r
  let c := Config.gclkCode g.frames k
  if c = 0 then enters g (pinInput s (96 * r))
  else if c = 1 then enters g (pinInput s (96 * r + 1))
  else if c = 2 then enters g (pinInput s (96 * r + 48))
  else if c = 3 then enters g (pinInput s (96 * r + 49))
  else if c = 4 then enters g s.glv.doStrobe
  else if c = 5 then enters g s.glv.diStrobe
  else if c = 6 then s.glv.cfgClk
  else false

/-- The clock C of a macrocell, after CLKINV. -/
def macroClk (s : State) (r b m : Nat) (cols : BitVec 144) : Bool :=
  let g := s.region r
  let w := macroWord g b m
  let k := w / 2 ^ 12 % 16
  xor (if k < 8 then gclk s r k else ctrlLine g b (k - 8) cols) (w / 2 ^ 16 % 2 == 1)

/-- A control that CESEL, RSTSEL or SETSEL selects; `dflt` for code 0. -/
def macroCtl (g : GlvRegion) (b sel : Nat) (dflt : Bool) (cols : BitVec 144) : Bool :=
  if sel = 0 then dflt else ctrlLine g b (sel - 1) cols

/-- The next output Q of a macrocell, and the clock level that it has seen (R292). A flip-flop that the region's start holds in
reset keeps its Q (R300). -/
def macroNext (s : State) (r b m : Nat) (cols : BitVec 144) : Bool × Bool :=
  let g := s.region r
  let w := macroWord g b m
  let xmode := w / 2 ^ 8 % 4
  let xv := if xmode = 1 then true else if xmode = 2 then macroXin g b m cols else false
  let x := xor (macroOr g b m cols) xv
  let q := mget g.q false (32 * b + m)
  let c := macroClk s r b m cols
  let rise := c && !(mget g.clk false (32 * b + m))
  let e := macroCtl g b (w / 2 ^ 17 % 16) true cols
  let rst := macroCtl g b (w / 2 ^ 21 % 16) false cols
  let set := macroCtl g b (w / 2 ^ 25 % 16) false cols
  let mode := w / 2 ^ 10 % 4
  let q' :=
    if mode = 0 then x
    else if g.stage = .init then q
    else if rst then false
    else if set then true
    else if mode = 1 then (if rise && e then x else q)
    else if mode = 2 then (if rise && e then xor q x else q)
    else (if c && e then x else q)
  (q', c)

/-- One round of a region that runs or starts: every macrocell takes its next output from the levels before the round. -/
def regionRound (s : State) (r : Nat) : GlvRegion :=
  let g := s.region r
  if g.st ≠ .running ∧ g.stage = .steady then g
  else
    let outs := (List.range 6).flatMap (fun b =>
      let cols := blockCols s r b
      (List.range 32).map (fun m => (32 * b + m, macroNext s r b m cols)))
    { g with
      q := msetAll g.q false (outs.map (fun o => (o.1, o.2.1)))
      clk := msetAll g.clk false (outs.map (fun o => (o.1, o.2.2))) }

/-- One round of all regions. -/
def glvRound (s : State) : State :=
  let gs := (List.range 4).map (regionRound s)
  (List.range 4).foldl (fun t r => t.setRegion r (gs.getD r {})) s

/-- An output that never settles takes a value that the specification does not state (log 19). -/
def freeOutputs (t s : State) : State :=
  forEach (List.range 768) (fun i s =>
    let r := i / 192
    let m := i % 192
    if mget (t.region r).q false m = mget (s.region r).q false m then s
    else
      let g := s.region r
      (s.setRegion r { g with q := mset g.q false m ((Config.free64 s.freeCtr).getLsbD 0) }).tick1) s

/-- Rounds until nothing changes. -/
def settleFor (fuel : Nat) (s : State) : State :=
  let t := glvRound s
  if t.glv.regions = s.glv.regions then s
  else match fuel with
    | 0 => freeOutputs t s
    | n + 1 => settleFor n t

/-! ### GLOVE_MAP (R286 to R288) -/

/-- A GLOVE_MAP entry. -/
structure MapEntry where
  line : Nat
  di : Bool
  cluster : Nat
  index : Nat
  deriving DecidableEq, Repr

/-- Reads a GLOVE_MAP entry. -/
def mapEntryOf (x : Word64) : MapEntry :=
  { line := x.toNat % 1024, di := x.getLsbD 10, cluster := x.toNat / 2 ^ 16 % 256, index := x.toNat / 2 ^ 24 % 65536 }

/-- The installed entries, after the 16-byte head. -/
def State.mapEntries (s : State) : List MapEntry := (s.img.gloveMap.drop 2).map mapEntryOf

/-- MAP_TAG of region `r` in the installed GLOVE_MAP. -/
def State.mapTag (s : State) (r : Nat) : Word32 :=
  let w := s.img.gloveMap.getD (r / 2) 0
  if r % 2 = 0 then lo32 w else hi32 w

/-- Notes which mapped DI lines have changed in this clock (R287). -/
def diTrack (s : State) : State :=
  forEach (s.mapEntries.filter (fun e => e.di)) (fun e s =>
    let v := diLine s e.line
    if v = mget s.glv.diSeen false e.line then s
    else { s with glv := { s.glv with diSeen := mset s.glv.diSeen false e.line v
                                      diChanged := mset s.glv.diChanged 0 e.line (s.clock + 1) } }) s

/-- The DI lines of a newly installed map are taken as settled (log 147). -/
def diFresh (s : State) : State :=
  { s with glv := { s.glv with diSeen := msetAll [] false ((s.mapEntries.filter (fun e => e.di)).map (fun e => (e.line, diLine s e.line)))
                               diChanged := [] } }

/-- Glove responds to a change of its inputs. -/
def settle (s : State) : State := diTrack (keepPins (settleFor 1024 s))

/-- A one-clock pulse on DO_STROBE or DI_STROBE. -/
def pulseDo (s : State) : State :=
  let s := settle { s with glv := { s.glv with doStrobe := true } }
  settle { s with glv := { s.glv with doStrobe := false } }

def pulseDi (s : State) : State :=
  let s := settle { s with glv := { s.glv with diStrobe := true } }
  settle { s with glv := { s.glv with diStrobe := false } }

/-- An edge of the GLV_CFG clock, at 5 in 64 step clocks for each rising edge. -/
def glvClock (s : State) : State :=
  let level : Bool := (10 * (s.clock + 1) / 64) % 2 == 1
  if level = s.glv.cfgClk then s else settle { s with glv := { s.glv with cfgClk := level } }

/-! ### Causes, counters and state changes -/

/-- GLV_CNT_k counts `n` (R311). -/
def glvCnt (k n : Nat) (s : State) : State := satAdd (Reg.GLV_CNT + 4 * k) Reg.GLV_CNT_SAT k (some 0x366) n s

/-- A GLV_CAUSE bit with its capture. -/
def glvCause (b region seg : Nat) (s : State) : State :=
  causeSet Reg.GLV_CAUSE b [(Reg.GLV_ERR_LOC, BitVec.ofNat 32 (2 ^ 28 * (b + 1) + 2 ^ 26 * region + 2 ^ 13 * seg))] s

/-- The lines and pins of a region as they stand, to be held (R304, R305). -/
def captureHeld (s : State) (r : Nat) : GlvRegion :=
  { s.region r with
    heldLines := msetAll [] false ((List.range 320).map (fun k => (k, lineOut s r k)))
    heldPins := msetAll [] none ((List.range 96).map (fun k => (k, regionDrive s r k))) }

/-- Changes regions in one clock, each from the state before the clock; Glove then responds. -/
def changeRegions (rs : List Nat) (f : State → Nat → GlvRegion) (s : State) : State :=
  settle (forEach rs (fun r t => t.setRegion r (f s r)) s)

/-- Regions enter a state in which their flip-flops are held in reset and their lines and pins hold what they carry. -/
def holdRegions (rs : List Nat) (st : RegionState) (s : State) : State :=
  changeRegions rs (fun s r => { captureHeld s r with st := st, stage := .steady, q := [], clk := [] }) s

/-- One region enters such a state. -/
def holdRegion (r : Nat) (st : RegionState) (s : State) : State := holdRegions [r] st s

/-- Regions without a running configuration: EMPTY or LOADING. -/
def emptyRegions (rs : List Nat) (st : RegionState) (s : State) : State :=
  changeRegions rs (fun s r => { s.region r with st := st, stage := .steady, q := [], clk := [] }) s

/-- INIT of every macrocell of a region. -/
def initQ (g : GlvRegion) : SMap Bool :=
  msetAll [] false ((List.range 192).map (fun i => (i, macroWord g (i / 32) (i % 32) / 2 ^ 29 % 2 == 1)))

/-- Toggles of the GLV_CFG clock. -/
def glvEdges (n : Nat) (s : State) : State :=
  forN n (fun _ s => settle { s with glv := { s.glv with cfgClk := !s.glv.cfgClk } }) s

/-- Regions start together (R300): their flip-flops take INIT and stay in reset while the logic and the clocks settle, the
flip-flops and pin cells are released, and 4 GLV_CFG clocks later the border is released and they run (log 146). -/
def startRegions (rs : List Nat) (s : State) : State :=
  let s := { s with glv := { s.glv with
    pinLast := msetAll s.glv.pinLast false (rs.flatMap (fun r => (List.range 96).map (fun k => (96 * r + k, pinLevel s (96 * r + k))))) } }
  let s := changeRegions rs (fun s r => { s.region r with stage := .init, q := initQ (s.region r), clk := [] }) s
  let s := glvEdges 8 (changeRegions rs (fun s r => { s.region r with stage := .released }) s)
  changeRegions rs (fun s r => { s.region r with st := .running, stage := .steady }) s

/-- The tags of every RUNNING region are compared with the installed GLOVE_MAP (R289). -/
def tagCheck (s : State) : State :=
  if !s.img.valid || s.img.gloveMap.length < 2 then s
  else
    let bad := (List.range 4).filter (fun r => (s.region r).st == .running && (s.region r).mapTag ≠ s.mapTag r)
    match bad with
    | [] => { s with glv := { s.glv with mapMismatch := false } }
    | r :: _ => raise 0x363 (glvCause 3 r 0 { s with glv := { s.glv with mapMismatch := true } })

/-! ### DO updates and DI samples (R286, R287) -/

/-- The DO lines that are 1 when each mapped line takes its bit of state copy `copy`. -/
def doLinesOf (s : State) (copy : Nat) : SMap Bool :=
  msetAll [] false ((s.mapEntries.filter (fun e => !e.di)).map (fun e =>
    (e.line, mget s.clu.copies false (2 ^ 24 * copy + 65536 * e.cluster + e.index))))

/-- The image maps some DO line; without one a commit makes no update (log 21). -/
def mapsDo (s : State) : Bool := s.mapEntries.any (fun e => !e.di)

/-- A commit of cycle `n`, whose state stands in `copy`, queues its update: due 8 clocks on, and 8 after the one
before. -/
def doCommit (n : Word64) (copy : Nat) (s : State) : State :=
  if mapsDo s then
    let prev := match s.glv.doQueue.getLast? with
      | some e => some e.due
      | none => s.glv.doLast
    let due := match prev with
      | some d => max (s.clock + 8) (d + 8)
      | none => s.clock + 8
    { s with glv := { s.glv with doQueue := s.glv.doQueue ++ [{ cyc := n, due := due, lines := doLinesOf s copy }] } }
  else s

/-- The DO lines take new values together, marked by DO_STROBE, and the update counts. -/
def doApply (lines : SMap Bool) (s : State) : State :=
  glvCnt 0 1 (pulseDo { s with glv := { s.glv with doLine := lines, doLast := some s.clock } })

/-- The oldest update takes place when its clock has come. -/
def doDue (s : State) : State :=
  match s.glv.doQueue with
  | e :: t => if e.due ≤ s.clock then doApply e.lines { s with glv := { s.glv with doQueue := t } } else s
  | [] => s

/-- The sample bound to cycle `n`. -/
def diBound (s : State) (n : Word64) : Option (SMap Bool) := (s.glv.binds.find? (fun b => b.1 == n)).map (fun b => b.2)

/-- The sampled value of a DI line, in the clock after B8: free when the line changed in B8 or in either of the two clocks
before it. -/
def diValue (l : Nat) (s : State) : Bool × State :=
  let c := mget s.glv.diChanged 0 l
  if 0 < c ∧ s.clock ≤ c + 2 then ((Config.free64 s.freeCtr).getLsbD 0, s.tick1) else (diLine s l, s)

/-- The B8 sample for cycle `n` as it stands when B8 has passed, so that what changed in B8 itself is seen (R287); a number that
is bound already is not sampled again. DI_STROBE marks it from then on: what the strobe makes a line do belongs to a later
sample (log 147). The Boolean says whether a sample was taken. -/
def diSample (n : Word64) (s : State) : Bool × State :=
  match diBound s n with
  | some _ => (false, s)
  | none =>
    let (m, s) := (s.mapEntries.filter (fun e => e.di)).foldl
      (fun acc e => let (v, t) := diValue e.line acc.2; (mset acc.1 false e.line v, t)) (([] : SMap Bool), s)
    let s := { s with glv := { s.glv with binds := s.glv.binds ++ [(n, m)] } }
    (true, glvCnt 1 1 (pulseDi s))

/-- B9: the bound value of every mapped DI line is written into its inbound slot; it is VALID from B10. -/
def diInsert (n : Word64) (s : State) : State :=
  match diBound s n with
  | none => s
  | some m => forEach (s.mapEntries.filter (fun e => e.di)) (fun e s =>
      let k := 4096 * e.cluster + e.index
      { s with clu := { s.clu with
          inVal := mset s.clu.inVal false k (mget m false e.line)
          inValid := mset s.clu.inValid false k true } }) s

/-- A binding is released when its cycle commits; a rewind or an install releases those that `keep` does not
name. -/
def diRelease (keep : Word64 → Bool) (s : State) : State :=
  { s with glv := { s.glv with binds := s.glv.binds.filter (fun b => keep b.1) } }

/-- An install that ends OK updates the DO lines at once from the initial state; no cycle number is bound yet (R286, R287). -/
def doInstall (copy : Nat) (s : State) : State :=
  tagCheck (doApply (doLinesOf s copy) (diFresh { s with glv := { s.glv with doQueue := [], binds := [] } }))

/-- With no image installed, every DO line reads 0. -/
def doNone (s : State) : State := settle { s with glv := { s.glv with doLine := [], doQueue := [], binds := [] } }

/-! ### Loads (R296 to R303) -/

/-- A failed check: its status, GLV_LOAD_DETAIL.KIND and INDEX. -/
structure GlvFail where
  status : Nat
  kind : Nat
  index : Nat
  deriving DecidableEq, Repr

/-- The failure that a phase reports: the lowest code, and of that code the first item (R16). -/
def lowestFail (l : List GlvFail) : Option GlvFail := (sortBy (fun (a b : GlvFail) => a.status ≤ b.status) l).head?

/-- A failure when a condition holds. -/
def failIf (c : Bool) (status kind index : Nat) : List GlvFail :=
  if c then [{ status := status, kind := kind, index := index }] else []

/-- Regions of a 4-bit mask. -/
def maskRegions (m : BitVec 4) : List Nat := (List.range 4).filter (fun r => m.getLsbD r)

/-- A load ends (R289, R299): status, DONE, the count of failures, GLV_LOAD_DONE, and the tags are compared. -/
def loadEnd (status kind index : Nat) (s : State) : State :=
  let regions := s.fld Reg.GLV_LOAD_STATUS 4 4
  let first := ((maskRegions (BitVec.ofNat 4 regions)).head?).getD 0
  let s := s.setFld Reg.GLV_LOAD_STATUS 0 2 2
  let s := s.setFld Reg.GLV_LOAD_STATUS 8 8 status
  let s := s.setReg Reg.GLV_LOAD_DETAIL (BitVec.ofNat 32 (2 ^ 28 * kind + index % 2 ^ 14))
  let s := { s with glv := { s.glv with load := none } }
  let s := if status = 0 then s else glvCnt 5 1 (glvCause 0 first 0 s)
  tagCheck (raise 0x360 s)

/-- PHASE of the load that runs. -/
def loadPhase (p : Nat) (s : State) : State := s.setFld Reg.GLV_LOAD_STATUS 16 3 p

/-- A region in the mask is locked against loads (R299). -/
def lockedRegions (s : State) (m : BitVec 4) : Bool := (maskRegions m).any (fun r => s.bit Reg.GLV_CTRL r)

/-- A load is accepted, with the regions known so far. -/
def loadAccepted (src : GloveSource) (regions : BitVec 4) (length : Nat) (s : State) : State :=
  let code := match src with | .resident => 0 | .package => 1 | .host => 2
  let s := s.setReg Reg.GLV_LOAD_STATUS (BitVec.ofNat 32 (1 + 4 * code + 16 * regions.toNat))
  let s := s.setReg Reg.GLV_LOAD_DETAIL 0
  { s with glv := { s.glv with load := some { phase := .header, source := src, regions := regions, length := length } } }

/-- A load begins: REQUEST, which a locked region ends (R299). -/
def loadBegin (src : GloveSource) (regions : BitVec 4) (length : Nat) (s : State) : State :=
  let t := loadAccepted src regions length s
  if lockedRegions s regions then loadEnd 4 0 0 t else t

/-- All of `n` bytes at `o` are 0. -/
def zeroBytes (h : List Byte) (o n : Nat) : Bool := (List.range n).all (fun i => h.getD (o + i) 0 == 0)

/-- PART of the grade. -/
def State.part (s : State) : Nat := if s.ident.half then 0x9620 else 0x9640

/-- The HEADER checks, in the order of the header's bytes (R296, R299); `length` is that of the bitstream: of a host load the
length that its command gave (R298). -/
def headerFails (s : State) (h : List Byte) (length : Nat) : List GlvFail :=
  let flags := leAt h 6 2
  let regs := leAt h 10 1
  let nregs := (maskRegions (BitVec.ofNat 4 regs)).length
  let f := leAt h 12 4
  failIf (leAt h 0 4 ≠ 0x42564C47) 7 1 0 ++
  failIf (leAt h 0x1FC 4 ≠ (crc32c (h.take 508)).toNat) 7 1 0x1FC ++
  failIf (leAt h 8 2 ≠ s.part) 5 1 8 ++
  failIf (beAt h 16 8 ≠ 0 && beAt h 16 8 ≠ beAt (deviceBind s.ident) 0 8) 6 1 16 ++
  failIf (leAt h 4 2 ≠ 1) 12 1 4 ++
  failIf (2 ≤ flags) 12 1 6 ++
  failIf (regs = 0 || 16 ≤ regs || (flags = 1 && nregs ≠ 1)) 12 1 10 ++
  failIf (!zeroBytes h 11 1) 12 1 11 ++
  failIf (f = 0 || 2048 * nregs < f) 12 1 12 ++
  failIf (!zeroBytes h 0x38 8) 12 1 0x38 ++
  (List.range 4).flatMap (fun r =>
    let o := 0x40 + 80 * r
    failIf (2 ≤ leAt h o 1) 12 1 o ++ failIf (!zeroBytes h (o + 1) 7) 12 1 (o + 1) ++
    failIf (!zeroBytes h (o + 72) 8) 12 1 (o + 72)) ++
  failIf (!zeroBytes h 0x180 124) 12 1 0x180 ++
  failIf (length ≠ 512 + 132 * f + 4) 12 1 12

/-- A full host bitstream is loaded only in IDLE, PAUSED or FAULT_STOP (R299). -/
def fullBusy (s : State) (src : GloveSource) (h : List Byte) : Bool :=
  src == .host && leAt h 6 2 % 2 == 0 &&
    !(s.sch.st == .idle || s.sch.st == .paused || s.sch.st == .faultStop)

/-- The HEADER is judged: its lowest failing check ends the load, else the LIST phase begins with the regions it
names. -/
def headerJudged (fails : List GlvFail) (l : GlvLoad) (regs : BitVec 4) (h : List Byte) (s : State) : State :=
  match lowestFail fails with
  | some f => loadEnd f.status f.kind f.index s
  | none => loadPhase 2 { s with glv := { s.glv with
      load := some { l with phase := .list, header := h, regions := regs } } }

/-- The HEADER phase ends with `regs` as its region mask: the REQUEST check that needs the header, then the HEADER checks. -/
def headerWith (l : GlvLoad) (regs : BitVec 4) (h : List Byte) (failAt : Nat) (readFail : Bool) (s : State) : State :=
  let s := s.setFld Reg.GLV_LOAD_STATUS 4 4 (if readFail then l.regions.toNat else regs.toNat)
  if readFail then loadEnd 15 7 failAt (loadPhase 1 s)
  else if fullBusy s l.source h then loadEnd 9 1 6 s
  else
    let s := loadPhase 1 s
    headerJudged (headerFails s h l.length ++ failIf (l.source == .host && l.regions ≠ regs) 12 1 10) l regs h s

/-- The HEADER phase of a load that is in it ends. -/
def loadHeader (h : List Byte) (failAt : Nat) (readFail : Bool) (s : State) : State :=
  match s.glv.load with
  | none => s
  | some l => if l.phase ≠ .header then s else headerWith l (BitVec.ofNat 4 (leAt h 10 1)) h failAt readFail s

/-- The LIST checks (R297, R299). -/
def listFails (regions : BitVec 4) (ws : List Word32) : List GlvFail :=
  (List.range ws.length).flatMap (fun i =>
    let w := ws.getD i 0
    failIf (!regions.getLsbD (w.toNat / 2 ^ 30)) 8 2 i ++
    failIf (w.toNat / 2 ^ 11 % 2 ^ 19 ≠ 0 || (ws.take i).contains w) 12 2 i)

/-- The LIST phase ends (R299, R305): in one clock a partial load isolates its region, a full one moves its regions to
LOADING, and the park record of the incoming bitstream becomes the region's. Of these regions alone the sweep starts afresh
(R307). -/
def loadList (ws : List Word32) (readFail : Bool) (s : State) : State :=
  match s.glv.load with
  | none => s
  | some l =>
    if l.phase ≠ .list then s
    else if readFail then loadEnd 15 7 ws.length s
    else
      match lowestFail (listFails l.regions ws ++ failIf (ws.length ≠ leAt l.header 12 4) 12 2 ws.length) with
      | some f => loadEnd f.status f.kind f.index s
      | none =>
        let rs := maskRegions l.regions
        let s := { s with glv := { s.glv with load := some { l with phase := .data, list := ws }
                                              swept := s.glv.swept.filter (fun r => !rs.contains r) } }
        let partial' : Bool := leAt l.header 6 2 % 2 == 1
        changeRegions rs (fun s r =>
          { (if partial' then captureHeld s r else s.region r) with
            st := if partial' then .isolated else .loading, stage := .steady, q := [], clk := []
            park := (l.header.drop (0x40 + 80 * r)).take 80 }) (loadPhase 3 s)

/-- The bytes of a frame (R7). -/
def frameBytes (f : BitVec 1024) : List Byte := leBytes 128 f.toNat

/-- The signature of a region: CRC-32C over its 2,048 frames in index order (R296). -/
def signatureOf (g : GlvRegion) : BitVec 32 :=
  (List.range 2048).foldl (fun c i => crcBytes 0x82F63B78 c (frameBytes (frameAt g i))) 0xFFFFFFFF ^^^ 0xFFFFFFFF

/-- A frame of the given index holds no reserved code and no reserved bit that is not zero (R291, R292, R295,
R297); routing and border frames are `Config.routingOk`'s. -/
def frameOk (i : Nat) (f : BitVec 1024) : Bool :=
  if i < 1152 then
    let k := i % 192
    if k < 160 then
      f.toNat / 2 ^ (if 128 ≤ k ∧ k % 4 = 0 then 145 else 144) == 0
    else
      let m := k - 160
      let w := fbits f 0 32
      f.toNat / 2 ^ 30 == 0 && w / 2 ^ 8 % 4 != 3 && w / 2 ^ 17 % 16 ≤ 8 && w / 2 ^ 21 % 16 ≤ 8 &&
        w / 2 ^ 25 % 16 ≤ 8 &&
        (List.range 4).all (fun t => !(m == 0 && w / 4 ^ t % 4 == 1) && !(m == 31 && w / 4 ^ t % 4 == 2))
  else if i < 1920 then true
  else if i < 2016 then
    f.toNat / 2 ^ 35 == 0 && fbits f 0 2 != 3 && fbits f 10 2 != 3 &&
      !(fbits f 0 2 == 1 && 192 ≤ fbits f 2 8) && !(fbits f 10 2 == 2 && 192 ≤ fbits f 12 8)
  else true

/-- Frame `i` of a region in segmented mode enables two taps on one segment (R294, R297). -/
def contended (g : GlvRegion) (i : Nat) : Bool :=
  Config.segmented g.frames && 1152 ≤ i && i < 1920 &&
    (List.range 8).any (fun j => 2 ≤ ones (fbits (frameAt g i) (128 * j) 128) 128)

/-- Frame `i` of a region holds a reserved code or a non-zero reserved bit (R293, R299). -/
def reservedIn (g : GlvRegion) (i : Nat) : Bool :=
  !frameOk i (frameAt g i) || !Config.routingOk g.frames i ||
    (List.range 8).any (fun k => 8 ≤ Config.gclkCode g.frames k && i == 2016 + (Config.gclkFrame k).toNat)

/-- The DATA checks after the frames have been written (R299); INDEX names the first listed frame that fails. -/
def dataFails (s : State) (l : GlvLoad) (fs : List (BitVec 1024)) (crc : Word32) : List GlvFail :=
  let bytes := l.header ++ l.list.flatMap (fun w => leBytes 4 w.toNat) ++ fs.flatMap frameBytes
  failIf (crc32 bytes ≠ crc) 7 4 0 ++
  (maskRegions l.regions).flatMap (fun r =>
    failIf ((signatureOf (s.region r)).toNat ≠ leAt l.header (0x18 + 4 * r) 4) 7 5 0) ++
  (List.range l.list.length).flatMap (fun i =>
    let a := (l.list.getD i 0).toNat
    failIf (contended (s.region (a / 2 ^ 30)) (a % 2048)) 11 6 i ++
    failIf (reservedIn (s.region (a / 2 ^ 30)) (a % 2048)) 12 3 i)

/-- The frames of a load as written: every region of the load is cleared, then the listed frames are written in
list order (R300). -/
def writeFrames (l : GlvLoad) (fs : List (BitVec 1024)) (s : State) : State :=
  let s := forEach (maskRegions l.regions) (fun r s => s.setRegion r { s.region r with frames := [] }) s
  forEach (l.list.zip fs) (fun p s =>
    let r := p.1.toNat / 2 ^ 30
    let g := s.region r
    s.setRegion r { g with frames := mset g.frames 0 (p.1.toNat % 2048) p.2 }) s

/-- The DATA phase ends (R300, R301): the regions start, or stay EMPTY or FAULT; those of a resident load that fails stay EMPTY
(R303). -/
def loadData (fs : List (BitVec 1024)) (crc : Word32) (readFail : Bool) (s : State) : State :=
  match s.glv.load with
  | none => s
  | some l =>
    if l.phase ≠ .data then s
    else
      let s := writeFrames l fs s
      let fails := if readFail ∨ fs.length ≠ l.list.length then [{ status := 15, kind := 7, index := fs.length : GlvFail }]
                   else dataFails s l fs crc
      match lowestFail fails with
      | some f =>
        loadEnd f.status f.kind f.index
          (if leAt l.header 6 2 % 2 = 1 ∧ l.source ≠ .resident then holdRegions (maskRegions l.regions) .fault s
           else emptyRegions (maskRegions l.regions) .empty s)
      | none =>
        let s := forEach (maskRegions l.regions) (fun r s =>
          (s.setReg (Reg.GLV_GOLD + 4 * r) (BitVec.ofNat 32 (leAt l.header (0x18 + 4 * r) 4))).setRegion r
            { s.region r with mapTag := BitVec.ofNat 32 (leAt l.header (0x28 + 4 * r) 4) }) (loadPhase 4 s)
        loadEnd 0 0 0 (startRegions (maskRegions l.regions) s)

/-- A whole load from a bitstream that the module holds or reads in start-up (R298, R303): every phase in turn. -/
def loadWhole (src : GloveSource) (b : List Byte) (s : State) : State :=
  let f := leAt b 12 4
  let s := loadBegin src (BitVec.ofNat 4 (leAt b 10 1)) b.length s
  let s := loadHeader (b.take 512) b.length (b.length < 512) s
  let s := loadList ((List.range f).map (fun i => BitVec.ofNat 32 (leAt b (512 + 4 * i) 4))) false s
  loadData ((List.range f).map (fun i => BitVec.ofNat 1024 (leAt b (512 + 4 * f + 128 * i) 128)))
    (BitVec.ofNat 32 (leAt b (512 + 132 * f) 4)) false s

/-! ### Commands -/

def execGloveLoadHeaderDone (header : List Byte) (failAt : BitVec 14) (readFail : Bool) (s : State) : Host.Outcome State Fault Refusal :=
  run (loadHeader header failAt.toNat readFail) s

def execGloveLoadListDone (words : List Word32) (readFail : Bool) (s : State) : Host.Outcome State Fault Refusal :=
  run (loadList words readFail) s

def execGloveLoadDataDone (frames : List (BitVec 1024)) (crc : Word32) (readFail : Bool) (s : State) :
    Host.Outcome State Fault Refusal := run (loadData frames crc readFail) s

/-- CONTENTION_TRIP (R306): in a RUNNING region in segmented mode the segment's taps are disabled and the region
enters FAULT. -/
def contentionTrip (r seg : Nat) (s : State) : State :=
  let g := s.region r
  if g.st = .running ∧ Config.segmented g.frames ∧ seg < 6144 then
    let i := 1152 + seg / 8
    let m : BitVec 1024 := BitVec.ofNat 1024 ((2 ^ 128 - 1) * 2 ^ (128 * (seg % 8)))
    let s := holdRegion r .fault s
    let g := s.region r
    let s := s.setRegion r { g with frames := mset g.frames 0 i (frameAt g i &&& ~~~m) }
    raise 0x361 (glvCnt 3 1 (glvCause 1 r seg s))
  else s

def execContentionTrip (r : BitVec 2) (seg : BitVec 13) (s : State) : Host.Outcome State Fault Refusal :=
  run (contentionTrip r.toNat seg.toNat) s

/-- The engine has finished region `r` of the present sweep (R307, R311). -/
def sweepRegion (r : Nat) (s : State) : State :=
  let done' := if s.glv.swept.contains r then s.glv.swept else s.glv.swept ++ [r]
  let all := (List.range 4).all (fun q => (s.region q).st != .running || done'.contains q)
  let s := { s with glv := { s.glv with swept := if all then [] else done' } }
  if all then glvCnt 6 1 s else s

/-- SIGNATURE_REGION_DONE (R307, R308): the upsets of the region's frames take effect, and its CRC is compared. -/
def signatureDone (r : Nat) (upsets : List (BitVec 11 × BitVec 10)) (s : State) : State :=
  let g := s.region r
  if g.st = .running ∧ s.bit Reg.GLV_CTRL 8 ∧ s.glv.load.isNone then
    let s := forEach upsets (fun u s =>
      let g := s.region r
      let f := frameAt g u.1.toNat ^^^ BitVec.ofNat 1024 (2 ^ u.2.toNat)
      s.setRegion r { g with frames := mset g.frames 0 u.1.toNat f }) s
    let s := settle s
    let sig := signatureOf (s.region r)
    let s := sweepRegion r (s.setReg (Reg.GLV_SIG + 4 * r) sig)
    if sig = s.reg (Reg.GLV_GOLD + 4 * r) then s
    else
      let s := raise 0x362 (glvCnt 2 1 (glvCause 2 r 0 s))
      if s.bit Reg.GLV_CTRL (4 + r) then holdRegion r .fault s else s
  else s

def execSignatureRegionDone (r : BitVec 2) (upsets : List (BitVec 11 × BitVec 10)) (s : State) :
    Host.Outcome State Fault Refusal := run (signatureDone r.toNat upsets) s

/-- Glove responds to what changed at its pins, unless the core die is in reset. -/
def pinsChanged (s : State) : State := if s.up then settle s else s

/-- The outside drives a pin to a level, or no longer drives it. -/
def pinChange (pin : Nat) (level : Option Bool) (s : State) : State :=
  if pin < 384 then pinsChanged { s with glv := { s.glv with pinIn := mset s.glv.pinIn none pin level } } else s

/-- PIN_INPUT_CHANGE (R292): what stands on a pin changes in every state of the module. -/
def execPinInputChange (pin : BitVec 9) (level : Option Bool) (s : State) : Host.Outcome State Fault Refusal :=
  done (pinChange pin.toNat level s)

end Sys2Proof.Machine
end

