-- ==== Sys2Proof/Machine/Grants.lean ====
section
/-!
DEFINITION. Machine/Grants.lean: observation grants, the transforms of data that leaves under one, and the change
of the grant table (spec/15_bonnet_security.md, R404, R411, R412).
-/
namespace Sys2Proof.Machine

/-- Valid grants of a kind, by index: 0 BAR2, 1 DSP, 2 TRACE, 3 READBACK. -/
def grantsOf (s : State) (kind : Nat) : List (Nat × Grant) :=
  (List.range 16).filterMap (fun g => match mget s.bnt.grants none g with
    | some x => if x.kind.toNat = kind then some (g, x) else none
    | none => none)

/-- The key of a grant: HKDF-Expand(K_OBS, label ‖ NONCE, 32). -/
def grantKey (s : State) (label : List Byte) (g : Grant) : BitVec 256 :=
  hkdfExpand (beBytes 32 (s.bnt.kObs.getD 0).toNat) (label ++ leBytes 16 g.nonce.toNat)

/-- The labels "BAR2", "DSP", "TRACE" and "READ". -/
def labelBar2 : List Byte := [0x42, 0x41, 0x52, 0x32]
def labelDsp : List Byte := [0x44, 0x53, 0x50]
def labelTrace : List Byte := [0x54, 0x52, 0x41, 0x43, 0x45]
def labelRead : List Byte := [0x52, 0x45, 0x41, 0x44]

/-- Byte `i` of the key stream block of a counter block. -/
def ctrByte (key : BitVec 256) (cb : BitVec 128) (i : Nat) : Byte :=
  BitVec.ofNat 8 ((aes256 key cb).toNat / 2 ^ (8 * (15 - i % 16)))

/-- AES-CTR of bytes from offset `off` on: each byte is XORed with byte (offset mod 16) of its block. -/
def ctrBytes (key : BitVec 256) (cb : Nat → BitVec 128) (off : Nat) (bs : List Byte) : List Byte :=
  (List.range bs.length).map (fun i => bs.getD i 0 ^^^ ctrByte key (cb ((off + i) / 16)) ((off + i) % 16))

/-- Replaces a grant. -/
def setGrant (g : Nat) (x : Option Grant) (s : State) : State :=
  { s with bnt := { s.bnt with grants := mset s.bnt.grants none g x } }

/-- A change of the grant table is reported. -/
def grantChanged (s : State) : State := raise 0x043 s

end Sys2Proof.Machine
end

