-- ==== Sys2Proof/Machine/LaneOut.lean ====
section
/-!
DEFINITION. Machine/LaneOut.lean: stripes, control blocks and groups of a lane port, the pedigree word, and what a port sends
(spec/08_lanes_multimodule.md, R241 to R247, R252, R253, R262 to R264).
-/
namespace Sys2Proof.Machine

/-! ### Lane ports -/

/-- The state of lane port `p`. -/
def State.lane (s : State) (p : Nat) : LanePort := mget s.lnk.ports {} p

/-- Replaces the state of lane port `p`. -/
def State.setLane (s : State) (p : Nat) (l : LanePort) : State :=
  { s with lnk := { s.lnk with ports := mset s.lnk.ports {} p l } }

/-- The port is ACTIVE and of ROLE design. -/
def activeDesign (s : State) (p : Nat) : Bool := (s.lane p).st == .active && (s.lane p).role == 0

/-- A port carries design traffic (R264): ROLE design, ACTIVE, and no row marked "None" applies. -/
def carriesDesign (s : State) (p : Nat) : Bool := activeDesign s p && !(s.lane p).pedBlocks

/-! ### The pedigree word (R172, R262) -/

/-- Fields of a pedigree word. -/
def pedImage (w : BitVec 128) : Nat := w.toNat / 2 ^ 64
def pedPlatform (w : BitVec 128) : Nat := w.toNat / 2 ^ 48 % 2 ^ 16
def pedClass (w : BitVec 128) : Nat := w.toNat / 2 ^ 40 % 2 ^ 8
def pedImg (w : BitVec 128) : Bool := w.getLsbD 31
def pedRun (w : BitVec 128) : Bool := w.getLsbD 30
def pedTsync (w : BitVec 128) : Nat := w.toNat / 2 ^ 27 % 4
def pedCycle (w : BitVec 128) : Nat := w.toNat % 2 ^ 24

/-- RUN of the pedigree word: STATE is RUNNING, FROZEN or CKPT. -/
def runBit (s : State) : Bool := s.sch.st == .running || s.sch.st == .frozen || s.sch.st == .ckpt

/-- The truncated image digest (R160). -/
def digest64 (d : BitVec 384) : Nat := d.toNat / 2 ^ 320

/-- The first 2 bytes of the platform configuration digest. -/
def platTag (s : State) : Nat := s.plat.digest.toNat / 2 ^ 368

/-- The code of a servo state. -/
def tsyncCode (t : TimState) : Nat :=
  match t with
  | .unsynced => 0
  | .locked => 1
  | .holdover => 2
  | .master => 3

/-- The digest of the settings under which cycle m + 1 runs: that of a staged change from the commit of cycle T - 1 on, while
its apply is still to come or writes (R172). -/
def runDigest (s : State) : BitVec 384 :=
  match s.sch.applyT with
  | some t => if s.staged.any && cycLe t (s.sch.committed + 1) then s.staged.digest.getD s.img.digest else s.img.digest
  | none => s.img.digest

/-- The pedigree word that the module sends on port `p` (R262). -/
def pedigreeWord (s : State) (p : Nat) : BitVec 128 :=
  BitVec.ofNat 128 ((if s.img.valid then 2 ^ 64 * digest64 (runDigest s) else 0) + 2 ^ 48 * platTag s +
    2 ^ 40 * s.plat.fwClass.toNat + 2 ^ 32 * (s.plat.fwVer.toNat % 256) + 2 ^ 31 * b2n s.img.valid + 2 ^ 30 * b2n (runBit s) +
    2 ^ 29 * b2n (s.lane p).desync + 2 ^ 27 * tsyncCode s.tim.st + s.sch.committed.toNat % 2 ^ 24)

/-! ### Stripes and groups (R241 to R244, R247) -/

/-- The bytes over which the CRC of a group is computed (R242). -/
def groupBytes (l : List LaneStripe) : List Byte :=
  (List.range l.length).flatMap (fun k => match l[k]? with
    | some x =>
      let p0 := if k = 7 then x.p0.toNat / 2 ^ 32 * 2 ^ 32 else x.p0.toNat
      leBytes 8 p0 ++ leBytes 8 x.p1.toNat ++ leBytes 8 x.p2.toNat ++ leBytes 8 x.p3.toNat
    | none => [])

/-- The stripe's headers are equal and valid (R241). -/
def headerOk (x : LaneStripe) : Bool := x.h0 == x.h1 && x.h0 == x.h2 && x.h0 == x.h3 && (x.h0 == 1 || x.h0 == 2)

/-- The stripe is a control block. -/
def isCtrl (x : LaneStripe) : Bool := x.h0 == 2

/-- Fields of a control block (R243). -/
def cbType (x : LaneStripe) : Nat := x.p0.toNat / 2 ^ 56
def cbGseq (x : LaneStripe) : BitVec 8 := BitVec.ofNat 8 (x.p0.toNat / 2 ^ 48)
def cbAck (x : LaneStripe) : BitVec 8 := BitVec.ofNat 8 (x.p0.toNat / 2 ^ 40)
def cbNak (x : LaneStripe) : Bool := x.p0.getLsbD 39
def cbWcount (x : LaneStripe) : Nat := x.p0.toNat / 2 ^ 32 % 4

/-- The group's headers and CRC are right. -/
def groupOk (l : List LaneStripe) : Bool :=
  l.length == 8 && l.all headerOk && (match l[7]? with
    | some x => isCtrl x && (crc32 (groupBytes l)).toNat == x.p0.toNat % 2 ^ 32
    | none => false)

/-- A data stripe (R247). -/
def dataStripe (header : Word64) (values : BitVec 192) : LaneStripe :=
  { h0 := 1, h1 := 1, h2 := 1, h3 := 1, p0 := header, p1 := values.setWidth 64, p2 := (values >>> 64).setWidth 64
    p3 := (values >>> 128).setWidth 64 }

/-- The CTYPE, WCOUNT and body of a control block (R244). -/
def ctrlBody : LanePart → Nat × Nat × Word64 × Word64 × Word64
  | .wave l => (1, l.length, l.getD 0 0, l.getD 1 0, l.getD 2 0)
  | .pedigree w => (2, 0, (w >>> 64).setWidth 64, w.setWidth 64, 0)
  | .time b => (3, 0, b.l1, b.l2, b.l3)
  | .value .. | .idle => (0, 0, 0, 0, 0)

/-- A control block (R243); its CRC field is 0. -/
def ctrlStripe (gseq ack : BitVec 8) (nak : Bool) (x : LanePart) : LaneStripe :=
  let b := ctrlBody x
  { h0 := 2, h1 := 2, h2 := 2, h3 := 2
    p0 := BitVec.ofNat 64 (2 ^ 56 * b.1 + 2 ^ 48 * gseq.toNat + 2 ^ 40 * ack.toNat + 2 ^ 39 * b2n nak + 2 ^ 32 * b.2.1)
    p1 := b.2.2.1, p2 := b.2.2.2.1, p3 := b.2.2.2.2 }

/-- A stripe that holds a part. -/
def partStripe (gseq ack : BitVec 8) (nak : Bool) : LanePart → LaneStripe
  | .value h v => dataStripe h v
  | x => ctrlStripe gseq ack nak x

/-- The part is a data stripe. -/
def LanePart.isData : LanePart → Bool
  | .value .. => true
  | _ => false

/-- The stripes of a group with its CRC. NAK stands in the first control block alone (R252). -/
def groupStripes (gseq ack : BitVec 8) (nak : Bool) (l : List LanePart) : List LaneStripe :=
  let first := (l.takeWhile LanePart.isData).length
  let xs := (List.range l.length).map (fun k => partStripe gseq ack (nak && k == first) (l.getD k .idle))
  let crc := (crc32 (groupBytes xs)).toNat
  (List.range xs.length).map (fun k =>
    let x := xs.getD k (dataStripe 0 0)
    if k = 7 then { x with p0 := x.p0 ||| BitVec.ofNat 64 crc } else x)

/-- The parts that a stripe of an accepted group brings, one for each WAVE message. A reserved CTYPE, and CAPS and TRAIN blocks
outside training, bring none (R244). -/
def stripeParts (x : LaneStripe) : List LanePart :=
  if !isCtrl x then [.value x.p0 (x.p3 ++ x.p2 ++ x.p1)]
  else match cbType x with
    | 1 => ([x.p1, x.p2, x.p3].take (cbWcount x)).map (fun m => .wave [m])
    | 2 => [.pedigree (x.p1 ++ x.p2)]
    | 3 => [.time ⟨x.p1, x.p2, x.p3⟩]
    | _ => []

/-! ### What a port sends (R245, R252, R253) -/

/-- The next group in the making: its parts so far, the count of control blocks, the WAVE messages and the items that are still to
be sent. -/
structure GroupDraft where
  parts : List LanePart := []
  count : Nat
  waves : List Word64
  data : List LanePart
  time : List LanePart

/-- Stripe `k` of the group (R245): a WAVE message that is pending goes ahead of data in stripes 0 to 6; a control block whose
count is a multiple of 256 is a PEDIGREE, any other carries WAVE messages, a TIME message, or is IDLE. -/
def draftStripe (ped : BitVec 128) (d : GroupDraft) (k : Nat) : GroupDraft :=
  match d.data with
  | x :: rest =>
    if k < 7 ∧ d.waves = [] then { d with parts := d.parts ++ [x], data := rest } else ctrl d
  | [] => ctrl d
where
  /-- The stripe is a control block. -/
  ctrl (d : GroupDraft) : GroupDraft :=
    let e := { d with count := d.count + 1 }
    if d.count % 256 = 0 then { e with parts := d.parts ++ [.pedigree ped] }
    else if d.waves ≠ [] then { e with parts := d.parts ++ [.wave (d.waves.take 3)], waves := d.waves.drop 3 }
    else match d.time with
      | x :: rest => { e with parts := d.parts ++ [x], time := rest }
      | [] => { e with parts := d.parts ++ [.idle] }

/-- The group that leaves next with the items `items`, at most 7 of them data stripes. -/
def draftGroup (s : State) (p : Nat) (items : List LanePart) : GroupDraft :=
  let l := s.lane p
  (List.range 8).foldl (draftStripe (pedigreeWord s p))
    { count := l.ctrlCount, waves := if carriesDesign s p then l.waveQ else []
      data := items.filter LanePart.isData, time := items.filter (fun x => !x.isData) }

/-- A PEDIGREE stands among the blocks numbered from `a` up to `b`. -/
def pedigreeDue (a b : Nat) : Bool := (a + 255) / 256 * 256 < b

/-- The replay buffer of the port has room for a group (R253). -/
def laneRoom (s : State) (p : Nat) : Bool := (s.lane p).outstanding.length < 64

/-- The next group has room for a value stripe, or for two TIME messages, beside the WAVE messages that go ahead of them (R245). -/
def itemRoom (s : State) (p : Nat) : Bool := laneRoom s p && (!carriesDesign s p || (s.lane p).waveQ.length ≤ 15)

/-- The port's next control block is a PEDIGREE (R245). -/
def blockIsPedigree (s : State) (p : Nat) : Bool := (s.lane p).ctrlCount % 256 == 0

/-- A control block that leaves while the replay buffer is full (R253): it reports ACK and NAK, keeps the count, and belongs to
no group that would have to be sent again (DESIGN CHOICE, log 137). It carries `x`, or a PEDIGREE where one is due. -/
def sendBlock (p : Nat) (x : LanePart) (s : State) : State :=
  let l := s.lane p
  let w := pedigreeWord s p
  let ped := blockIsPedigree s p
  (s.setLane p { l with ctrlCount := l.ctrlCount + 1, nakSend := false, pedTx := if ped then w else l.pedTx }).emit
    (.laneBlock p (ctrlStripe l.txSeq (l.rxSeq - 1) l.nakSend (if ped then .pedigree w else x)))

/-- A TIME message as such a block, after a PEDIGREE that is due. -/
def sendTimeBlock (p : Nat) (b : TimeBlock) (s : State) : State :=
  sendBlock p (.time b) (if blockIsPedigree s p then sendBlock p .idle s else s)

/-- The port sends a group with the items `items`, pending WAVE messages and what R245 adds, and keeps it in its replay buffer; with
the buffer full it sends a control block, and the items are not sent. The first group after the link has come up has GSEQ 0, and
the ACK before any accepted group is one below the GSEQ expected (DESIGN CHOICE, log 167). -/
def sendGroup (p : Nat) (items : List LanePart) (s : State) : State :=
  let l := s.lane p
  if l.st ≠ .active then s
  else if !laneRoom s p then sendBlock p .idle s
  else
    let d := draftGroup s p items
    (s.setLane p { l with
      outstanding := l.outstanding ++ [{ gseq := l.txSeq, sent := 1, parts := d.parts }]
      txSeq := l.txSeq + 1, ctrlCount := d.count, nakSend := false
      waveQ := if carriesDesign s p then d.waves else l.waveQ
      pedTx := if pedigreeDue l.ctrlCount d.count then pedigreeWord s p else l.pedTx }).emit
      (.laneGroup p (groupStripes l.txSeq (l.rxSeq - 1) l.nakSend d.parts))

/-- WAVE messages that wait on the port leave as soon as it carries design traffic and its buffer has room (R130, R245). -/
def flushWaves (p : Nat) (s : State) : State :=
  if carriesDesign s p && laneRoom s p && !(s.lane p).waveQ.isEmpty then sendGroup p [] s else s

/-- A WAVE message is to leave on the port. -/
def waveOut (p : Nat) (m : Word64) (s : State) : State :=
  flushWaves p (s.setLane p { s.lane p with waveQ := (s.lane p).waveQ ++ [m] })

/-! ### What a port has accepted -/

/-- The parts are of one kind. -/
def LanePart.sameKind : LanePart → LanePart → Bool
  | .value .., .value .. | .wave _, .wave _ | .pedigree _, .pedigree _ | .time _, .time _ => true
  | .idle, .idle => true
  | _, _ => false

/-- The part is the first of its kind that the port has accepted and not yet handed on: parts of one kind arrive in the order
sent (R246, R253). -/
def laneHas (s : State) (p : Nat) (x : LanePart) : Bool := (s.lane p).inbox.find? (fun y => y.sameKind x) == some x

/-- The part is handed on. -/
def laneTake (p : Nat) (x : LanePart) (s : State) : State :=
  s.setLane p { s.lane p with inbox := (s.lane p).inbox.erase x }

/-- A part of an accepted group reaches what it is for (R242); one that no accepted group has brought reaches nothing. -/
def laneGives (p : Nat) (x : LanePart) (f : State → State) (s : State) : State :=
  if laneHas s p x then f (laneTake p x s) else s

end Sys2Proof.Machine
end

