-- ==== Sys2Proof/Machine/Memory.lean ====
section
/-!
DEFINITION. Machine/Memory.lean: design memory: addresses, pending-write queues, the operand table of memory
operations, bank ports and HBM slots clock by clock, and the memory commands (spec/06_design_memory.md,
R179 to R211).
-/
namespace Sys2Proof.Machine

/-! ### Addresses -/

/-- Number of clusters of the grade. -/
def State.clusters (s : State) : Nat := if s.ident.half then 128 else 256

/-- Number of banks of the grade. -/
def State.bankCount (s : State) : Nat := if s.ident.half then 256 else 512

/-- Number of HBM stacks of the grade. -/
def State.stacks (s : State) : Nat := if s.ident.half then 1 else 2

/-- Number of lane ports of the grade. -/
def State.lanePorts (s : State) : Nat := if s.ident.half then 8 else 16

/-- Bytes of one HBM stack. -/
def stackBytes : Nat := 24 * 2 ^ 30

/-- The image's BANK_USE mask marks bank `k` (R179). -/
def State.bankUsed (s : State) (k : Nat) : Bool :=
  (s.img.memdecl.bankUse.getD (k / 8) 0).getLsbD (k % 8)

/-- The queue and the word key of an HBM physical byte address. -/
def hbmPlace (stack pa : Nat) : Nat × Nat := (512 + 32 * stack + (pa / 4096) % 32, stack * 2 ^ 32 + pa / 8)

/-- The queue and the word key that an access in range names; none when it is out of range (R70, R179, R180). -/
def memPlace (s : State) (addr : BitVec 40) : Option (Nat × Nat) :=
  let a := addr.toNat
  if a < 2 ^ 39 then
    let bank := (a / 2 ^ 13) % 512
    if a < 2 ^ 22 ∧ bank < s.bankCount ∧ s.bankUsed bank then some (bank, 8192 * bank + a % 8192) else none
  else
    let w := a - 2 ^ 39
    if w < 2 ^ 33 then
      match s.img.memdecl.mems.find? (fun m => m.dbase ≤ w && w < m.dbase + m.words) with
      | some m => some (hbmPlace m.stack (m.pbase + 8 * (w - m.dbase)))
      | none => none
    else none

/-! ### The checkpoint space (R110, R111, R184) -/

/-- The place of an HBM word in the checkpoint space, in bytes: units of 4 KiB alternate between the fitted stacks. -/
def ckptOffset (s : State) (key : Nat) : Option Nat :=
  let stack := key / 2 ^ 32
  let pa := 8 * (key % 2 ^ 32)
  let d := s.img.memdecl
  let base := if stack = 0 then d.ckptPbase0 else d.ckptPbase1
  if stack < s.stacks ∧ base ≤ pa ∧ pa < base + d.ckptBytes then
    some (((pa - base) / 4096 * s.stacks + stack) * 4096 + (pa - base) % 4096)
  else none

/-- Eight values as the bits of a byte, value 0 in bit 0. -/
def packByte (f : Nat → Bool) : Byte := BitVec.ofNat 8 (((List.range 8).map (fun j => 2 ^ j * b2n (f j))).sum)

/-- The keys of the words that the checkpointed HBM memories hold, each memory rounded up to 4 KiB. -/
def ckptKeys (s : State) : List (Nat × Nat) :=
  (s.img.memdecl.mems.filter (fun m => m.ckpt)).map (fun m => (m.stack * 2 ^ 32 + m.pbase / 8, (8 * m.words + 4095) / 4096 * 512))

/-- Byte `i` of the HBM part of a slot. -/
def ckptHbmByte (s : State) (c : CkptSlot) (l : List (Nat × Nat)) (i : Nat) : Byte :=
  match l with
  | [] => 0
  | m :: t =>
    if i < 8 * m.2 then
      let key := m.1 + i / 8
      let w := (mget c.hbm none key).getD (Config.hbmWord s.mem.hbmKey key)
      BitVec.ofNat 8 (w.toNat / 2 ^ (8 * (i % 8)))
    else ckptHbmByte s c t (i - 8 * m.2)

/-- Byte `i` of a slot by the table of R110, its CRC field taken as zero. -/
def ckptRaw (s : State) (c : CkptSlot) (i : Nat) : Byte :=
  let st := 4096 + 8192 * s.clusters
  let la := st + 512 * s.clusters
  let ba := la + (if c.banksIncl then 65536 * s.bankCount else 0)
  if i < 8 then BitVec.ofNat 8 (c.num.toNat / 2 ^ (8 * i))
  else if i < 16 then BitVec.ofNat 8 (c.digest.toNat / 2 ^ (8 * (15 - i)))
  else if i < 24 then BitVec.ofNat 8 (c.time.toNat / 2 ^ (8 * (i - 16)))
  else if i = 24 then BitVec.ofNat 8 (b2n c.valid + 2 * b2n c.banksIncl + 4 * b2n c.hbmIncl + 8 * b2n c.partial')
  else if i < 4096 then 0
  else if i < st then packByte (fun j => mget c.stateBits false (8 * (i - 4096) + j))
  else if i < la then packByte (fun j => mget c.last false (8 * (i - st) + j))
  else if i < ba then BitVec.ofNat 8 ((mget c.banks 0 ((i - la) / 8)).toNat / 2 ^ (8 * (i % 8)))
  else if c.hbmIncl then ckptHbmByte s c (ckptKeys s) (i - ba)
  else 0

/-- Byte `i` of a slot, with its CRC-32C at 0x1C. -/
def ckptByte (s : State) (c : CkptSlot) (i : Nat) : Byte :=
  if 28 ≤ i ∧ i < 32 then BitVec.ofNat 8 ((crc32c ((List.range c.size).map (ckptRaw s c))).toNat / 2 ^ (8 * (i - 28)))
  else ckptRaw s c i

/-- What the checkpoint engine has stored at an HBM word: the slot copied last of those that cover it. -/
def ckptWord (s : State) (key : Nat) : Option Word64 :=
  match ckptOffset s key with
  | none => none
  | some o =>
    let cs := (s.sch.slots.map (fun p => p.2)).filter (fun c => c.valid && c.base ≤ o && o < c.base + c.size)
    (cs.find? (fun c => cs.all (fun d => d.seq ≤ c.seq))).map (fun c =>
      BitVec.ofNat 64 (leAt ((List.range 8).map (fun j => ckptByte s c (o - c.base + j))) 0 8))

/-! ### Stored words and queues -/

/-- The word stored at a place, without any queue entry: what was written there last, or the checkpoint engine's copy; HBM
words nothing has written read as R25 says. -/
def storedWord (s : State) (q key : Nat) : Word64 :=
  if q < 512 then mget s.mem.banks 0 key
  else match mget s.mem.hbm none key with
    | some v => v
    | none => (ckptWord s key).getD (Config.hbmWord s.mem.hbmKey key)

/-- A word with the masked bits replaced. -/
def maskWord (w data mask : Word64) : Word64 := (w &&& ~~~mask) ||| (data &&& mask)

/-- The stored word merged with the queue entries that `p` selects, oldest first (R192). -/
def mergedWith (s : State) (p : QEntry → Bool) (q key : Nat) : Word64 :=
  (s.mem.queue.filter (fun e => e.q == q && e.key == key && p e)).foldl
    (fun w e => maskWord w e.data e.mask) (storedWord s q key)

/-- The word as an access of the executing cycle sees it (R192). -/
def merged (s : State) (q key : Nat) : Word64 := mergedWith s (fun _ => true) q key

/-- The entry lies in a committed partition, as it does from the clock after its cycle's commit on (R195). -/
def entryDue (s : State) (e : QEntry) : Bool := e.committed && e.vis ≤ s.clock

/-- The word as a BAR2 read sees it: committed entries only (R200). -/
def committedWord (s : State) (q key : Nat) : Word64 := mergedWith s (entryDue s) q key

/-- A word of the banks. -/
def setBank (key : Nat) (w : Word64) (s : State) : State :=
  { s with mem := { s.mem with banks := mset s.mem.banks 0 key w } }

/-- A word of HBM. -/
def setHbm (key : Nat) (w : Word64) (s : State) : State :=
  { s with mem := { s.mem with hbm := mset s.mem.hbm none key (some w) } }

/-- The banks take the listed words, and zeros elsewhere. -/
def loadBanks (l : List (Nat × Word64)) (s : State) : State :=
  { s with mem := { s.mem with banks := msetAll [] 0 l } }

/-- The words of HBM that `p` holds of take the listed contents, in whole bursts, which lose the errors they held (R206). -/
def restoreHbm (p : Nat → Bool) (l : List (Nat × Option Word64)) (s : State) : State :=
  { s with mem := { s.mem with
      hbm := msetAll (s.mem.hbm.filter (fun q => !p q.1)) none l, hbmErr := s.mem.hbmErr.filter (fun q => !p (4 * q.1)) } }

/-- Writes the masked bits of a word into its store, with the parity of R185: a half that the mask covers whole
loses any parity failure, another keeps it. An HBM word is written whole in its burst (R206). -/
def writeStored (q key : Nat) (data mask : Word64) (s : State) : State :=
  if q < 512 then
    let bad := s.mem.bankBad
    let bad := if mask.toNat % 2 ^ 32 = 2 ^ 32 - 1 then mset bad false (2 * key) false else bad
    let bad := if mask.toNat / 2 ^ 32 = 2 ^ 32 - 1 then mset bad false (2 * key + 1) false else bad
    setBank key (maskWord (storedWord s q key) data mask) { s with mem := { s.mem with bankBad := bad } }
  else setHbm key (maskWord (storedWord s q key) data mask) s

/-- Entries that cycle `n` has in queue `q`. -/
def entriesOf (s : State) (n : Word64) (q : Nat) : Nat :=
  (s.mem.queue.filter (fun e => e.cyc == n && e.q == q)).length

/-- Updates the entry that cycle `n` holds for a word. -/
def updEntry (n : Word64) (q key : Nat) (data mask : Word64) (l : List QEntry) : List QEntry :=
  l.map (fun e =>
    if e.cyc == n && e.q == q && e.key == key && !e.committed then { e with data := data, mask := e.mask ||| mask } else e)

/-- Where a new entry would exceed the partition of cycle `n` in queue `q`: 64 entries, or 256 when the
execution holds all four partitions (R196). -/
def queueFull (s : State) (n : Word64) (q : Nat) : Bool :=
  if s.mem.allFour = some n then 256 ≤ entriesOf s n q else 64 ≤ entriesOf s n q

/-- The executing execution is marked as having a verify mismatch (R101). -/
def markMismatch (s : State) : State :=
  match s.sch.exec with
  | some e => { s with sch := { s.sch with exec := some { e with mismatch := true, reverify := false } } }
  | none => s

/-- A fault stop is due at the end of this step clock. -/
def markFatal (s : State) : State := { s with sch := { s.sch with fatal := true } }

/-- What happens when an entry finds no room (R196): an overflow, or a queue fault when the execution already
holds all four partitions. -/
def queueOverflow (n : Word64) (addr : BitVec 40) (cluster ctx : Nat) (hbm : Bool) (s : State) : State :=
  if s.mem.allFour = some n then
    markFatal (raise 0x2E1 (memCause 1 2 (addr.setWidth 64) cluster ctx hbm false s))
  else
    let s := memCnt 2 1 (raise 0x2E0 (memCause 0 1 (addr.setWidth 64) cluster ctx hbm false s))
    markMismatch { s with mem := { s.mem with overflow := some n } }

/-- Places a change of a word in the partition of cycle `n` (R192, R196); the Boolean says whether it was
placed. -/
def placeEntry (n : Word64) (q key : Nat) (data mask : Word64) (addr : BitVec 40) (cluster ctx : Nat)
    (s : State) : State × Bool :=
  if s.mem.queue.any (fun e => e.cyc == n && e.q == q && e.key == key && !e.committed) then
    ({ s with mem := { s.mem with queue := updEntry n q key data mask s.mem.queue } }, true)
  else if queueFull s n q then
    (queueOverflow n addr cluster ctx (512 ≤ q) s, false)
  else
    ({ s with mem := { s.mem with
        queue := s.mem.queue ++ [{ cyc := n, q := q, key := key, data := data, mask := mask }] } }, true)

/-! ### Memory operations of the port (R192 to R194) -/

/-- One issued memory access with what it captured (R71). -/
structure Access where
  cluster : Nat
  ctx : Nat
  op : Nat
  addr : BitVec 40
  wdata : Word64
  wen : Word64
  deriving DecidableEq, Repr

/-- Notes something that is reported when the cycle commits (R181, R193). -/
def addNote (n : Word64) (race : Bool) (a : Access) (s : State) : State :=
  { s with mem := { s.mem with
      notes := s.mem.notes ++ [{ cyc := n, race := race, addr := a.addr, cluster := a.cluster, ctx := a.ctx }] } }

/-- An outstanding read of value `v` (R73); its timing is that of R188 or R207, or, when no word is read, the
nominal time of its space (R181, R196). -/
def addRead (n : Word64) (a : Access) (v : Word64) (key : Option Nat) (s : State) : State :=
  let hbm : Bool := 2 ^ 39 ≤ a.addr.toNat
  let stage : ReadStage :=
    match key, hbm with
    | some _, false => .bankWait (s.clock + 4)
    | some _, true => .hbmSlot (s.clock + 3)
    | none, false => .arriving (s.clock + 8)
    | none, true => .arriving (s.clock + 67)
  { s with mem := { s.mem with
      reads := s.mem.reads ++ [{ cluster := a.cluster, ctx := a.ctx, cyc := n, stage := stage, value := v,
                                 addr := a.addr, key := key, hbm := hbm }] } }

/-- READ (R181, R192, R194). -/
def memRead (n : Word64) (a : Access) (s : State) : State :=
  match memPlace s a.addr with
  | none => addNote n false a (addRead n a 0 none s)
  | some (q, key) => addRead n a (merged s q key) (some key) s

/-- WRITE (R181, R192, R194). -/
def memWrite (n : Word64) (a : Access) (s : State) : State :=
  match memPlace s a.addr with
  | none => addNote n false a s
  | some (q, key) =>
    if a.wen = 0 then s
    else (placeEntry n q key (maskWord (merged s q key) a.wdata a.wen) a.wen a.addr a.cluster a.ctx s).1

/-- ATOMIC ADD and ATOMIC SWAP (R181, R194, R196). -/
def memAtomic (n : Word64) (a : Access) (s : State) : State :=
  match memPlace s a.addr with
  | none => addNote n false a (addRead n a 0 none s)
  | some (q, key) =>
    let p := merged s q key
    let new := if a.op = 2 then p + a.wdata else a.wdata
    let (t, placed) := placeEntry n q key new (BitVec.allOnes 64) a.addr a.cluster a.ctx s
    if placed then addRead n a p (some key) t else addRead n a 0 none t

/-- The access changes a word: an atomic operation, or a WRITE with some WEN bit (R193). -/
def Access.changes (a : Access) : Bool := a.op == 2 || a.op == 3 || (a.op == 1 && a.wen ≠ 0)

/-- The places at which accesses captured in one clock form a write race: two or more changes of one word, at
least one of them a WRITE or an ATOMIC SWAP (R193). The first such access of each place is given. -/
def racePlaces (s : State) (l : List Access) : List Access :=
  let ch := l.filter (fun a => a.changes && (memPlace s a.addr).isSome)
  ch.filter (fun a =>
    let same := ch.filter (fun b => memPlace s b.addr = memPlace s a.addr)
    2 ≤ same.length && same.any (fun b => b.op ≠ 2) && same.head? = some a)

/-- All memory accesses captured in one clock, given in ascending order of cluster and context: reads see the
words as they stood before, then the changes apply in order (R193). -/
def memGroup (n : Word64) (l : List Access) (s : State) : State :=
  let races := racePlaces s l
  let s := forEach (l.filter (fun a => a.op == 0)) (memRead n) s
  let s := forEach (l.filter (fun a => a.op == 1 || a.op == 2 || a.op == 3))
    (fun a s => if a.op = 1 then memWrite n a s else memAtomic n a s) s
  forEach races (fun a s => addNote n true a s) s

/-! ### Errors of stored words -/

/-- The bank word at a key has a parity failure in either half (R185, R186). -/
def bankParityBad (s : State) (key : Nat) : Bool :=
  mget s.mem.bankBad false (2 * key) || mget s.mem.bankBad false (2 * key + 1)

/-- The key of the 32-byte burst that holds an HBM word. -/
def burstOf (key : Nat) : Nat := key / 4

/-- The pseudo-channel of an HBM word key. -/
def pcOf (key : Nat) : Nat := 32 * (key / 2 ^ 32) + (key * 8 / 4096) % 32

/-- A corrected HBM error at a burst: MEM_HBM_CE_k and MEM_HBM_CORRECTED, and the ledger's count (R209). -/
def hbmCorrected (key : Nat) (s : State) : State :=
  raise 0x2E6 (ledAdd (384 + pcOf key) 1 (countUp (Reg.MEM_HBM_CE + 4 * pcOf key) s))

/-- An uncorrected HBM error: MEM_CAUSE.HBM_UE and MEM_HBM_UNCORRECTED (R209). -/
def hbmUncorrected (addr : Word64) (cluster ctx : Nat) (host : Bool) (s : State) : State :=
  raise 0x2E5 (memCause 5 6 addr cluster ctx true host s)

/-- The ADDR form of an HBM word: its index in the memory that holds it; the physical word outside every memory. -/
def hbmAddrForm (s : State) (key : Nat) : Word64 :=
  let pa := 8 * (key % 2 ^ 32)
  match s.img.memdecl.mems.find? (fun m => m.stack == key / 2 ^ 32 && m.pbase ≤ pa && pa < m.pbase + 8 * m.words) with
  | some m => BitVec.ofNat 64 (2 ^ 39 + m.dbase + (pa - m.pbase) / 8)
  | none => BitVec.ofNat 64 (2 ^ 39 + key % 2 ^ 32)

/-- What the ECC of the burst of an HBM word reports: 0 none, 1 corrected, 2 uncorrected. -/
def eccOf (s : State) (key : Nat) : BitVec 2 := mget s.mem.hbmErr 0 (burstOf key)

/-! ### One clock of the banks and of HBM -/

/-- The read of lower cluster, or of lower context in one cluster, stands before the other (R187, R207). -/
def readBefore (a b : ReadOut) : Bool := a.cluster < b.cluster || (a.cluster == b.cluster && a.ctx < b.ctx)

/-- The read is presented at port A of its bank in clock `k`. -/
def ReadOut.presented (r : ReadOut) (k : Nat) : Bool :=
  match r.stage with
  | .bankWait a => a ≤ k
  | _ => false

/-- The bank of an on-die read. -/
def ReadOut.bank (r : ReadOut) : Nat := (r.key.getD 0) / 8192

/-- The read that port A of its bank performs in clock `k`: none ranks before it (R187). -/
def portAWins (l : List ReadOut) (k : Nat) (r : ReadOut) : Bool :=
  r.presented k && l.all (fun o => !(o.presented k && o.bank == r.bank && readBefore o r))

/-- A B window of the word began before clock `k` and covers it (R189). -/
def inBWindow (s : State) (key k : Nat) : Bool := s.mem.bWindows.any (fun w => w.1 == key && w.2 < k && k ≤ w.2 + 1)

/-- One clock of the on-die banks for one outstanding read (R187 to R190): it stalls, receives BUSY, or is
performed and arrives four clocks later. -/
def bankStep (l : List ReadOut) (k : Nat) (r : ReadOut) (s : State) : State :=
  if !r.presented k then s
  else
    let put (st : ReadStage) (s : State) : State :=
      { s with mem := { s.mem with reads := s.mem.reads.map (fun o => if o = r then { o with stage := st } else o) } }
    if !portAWins l k r then memCnt 0 1 (put (.bankWait (k + 1)) s)
    else if inBWindow s (r.key.getD 0) k then memCnt 1 1 (put (.bankWait (k + 1)) s)
    else
      let s := put (.arriving (k + 4)) s
      if bankParityBad s (r.key.getD 0) then
        markFatal (raise 0x2E4 (memCause 4 5 (r.addr.setWidth 64) r.cluster r.ctx false false s))
      else s

/-- An HBM access starts in clock `k`: its data arrives 64 clocks later, and the errors of its burst are
reported (R207, R209). -/
def hbmStart (k : Nat) (r : ReadOut) (s : State) : State :=
  let key := r.key.getD 0
  let s := { s with mem := { s.mem with
      reads := s.mem.reads.map (fun o => if o = r then { o with stage := .arriving (k + 64) } else o),
      pcBusy := mset s.mem.pcBusy 0 (pcOf key) (max (mget s.mem.pcBusy 0 (pcOf key)) (k + 1)) } }
  if eccOf s key = 1 then hbmCorrected key s
  else if eccOf s key = 2 then markFatal (hbmUncorrected (r.addr.setWidth 64) r.cluster r.ctx false s)
  else s

/-- No refresh, scheduled access or non-scheduled burst occupies the pseudo-channel in clock `k`. -/
def pcFree (s : State) (pc k : Nat) : Bool := mget s.mem.pcBusy 0 pc ≤ k && mget s.mem.pcBurst 0 pc ≤ k

/-- A non-scheduled burst of the requester of rank `r` is asked for at the pseudo-channel of a word (R208): 1 commit apply,
3 Aster's golden streams, 4 Larkspur, 5 dispatcher, 6 BAR2. -/
def askBurst (r key : Nat) (s : State) : State :=
  { s with mem := { s.mem with pcReqs := s.mem.pcReqs ++ [(pcOf key, r)] } }

/-- One burst of the requester is asked for at each pseudo-channel of the words. -/
def askBursts (r : Nat) (keys : List Nat) (s : State) : State :=
  forEach ((keys.map pcOf).dedup.filterMap (fun pc => keys.find? (fun k => pcOf k == pc))) (askBurst r) s

/-- A scheduled access waits at a pseudo-channel, or has its slot there in the present clock (R208). -/
def scheduledPc (s : State) (pc : Nat) : Bool :=
  s.mem.reads.any (fun r => (r.stage == .hbmMissed || r.stage == .hbmSlot s.clock) && pcOf (r.key.getD 0) == pc)

/-- The burst that is served next at a pseudo-channel: the first one of the highest requester. -/
def nextBurst (s : State) (pc : Nat) : Option (Nat × Nat) :=
  (List.range 7).findSome? (fun r => s.mem.pcReqs.find? (fun q => q.1 == pc && q.2 == r))

/-- The next burst of a pseudo-channel starts in clock `k` where `open'` says that no scheduled access waits there and nothing
occupies it; it occupies the pseudo-channel for a time that the specification does not state (R208). -/
def startBurst (k : Nat) (open' : Nat → Bool) (pc : Nat) (s : State) : State :=
  match nextBurst s pc with
  | none => s
  | some q =>
    if open' pc && pcFree s pc k then
      { s with mem := { s.mem with
          pcReqs := s.mem.pcReqs.erase q
          pcBurst := mset s.mem.pcBurst 0 pc (k + 1 + (Config.free64 s.freeCtr).toNat) } }.tick1
    else s

/-- The non-scheduled bursts that start in clock `k`. -/
def startBursts (k : Nat) (open' : Nat → Bool) (s : State) : State :=
  forEach (s.mem.pcReqs.map (fun q => q.1)).dedup (startBurst k open') s

/-- A burst of a checkpoint copy that runs is under way at a pseudo-channel: how often is not bounded (R208), so it is a free
value in each clock in which an access arrives (log 7). -/
def copyBurst (s : State) : Bool := s.sch.ckptCopy.isSome && (Config.free64 s.freeCtr).getLsbD 0

/-- One clock of HBM for one outstanding access whose slot is clock `k`: it starts when its pseudo-channel is
free and no other waits there, and misses its slot otherwise (R207). -/
def hbmStep (l : List ReadOut) (k : Nat) (r : ReadOut) (s : State) : State :=
  if r.stage ≠ .hbmSlot k then s
  else
    let pc := pcOf (r.key.getD 0)
    let other := l.any (fun o => pcOf (o.key.getD 0) == pc && o.hbm && o.key.isSome &&
      (o.stage == .hbmMissed || (o.stage == .hbmSlot k && readBefore o r)))
    let burst := copyBurst s
    let s := if s.sch.ckptCopy.isSome then s.tick1 else s
    if pcFree s pc k ∧ !other ∧ !burst then hbmStart k r s
    else memCnt 5 1 { s with mem := { s.mem with
      reads := s.mem.reads.map (fun o => if o = r then { o with stage := .hbmMissed } else o) } }

/-- Words whose arrival is clock `k` enter RDATA at its end (R73, R95). -/
def readArrivals (k : Nat) (s : State) : State :=
  let arr := s.mem.reads.filter (fun r => r.stage == .arriving k)
  { s with
    clu := { s.clu with rdArriving := s.clu.rdArriving ++ arr.map (fun r => (8 * r.cluster + r.ctx, r.value)) }
    mem := { s.mem with
      reads := s.mem.reads.filter (fun r => r.stage ≠ .arriving k)
      bWindows := s.mem.bWindows.filter (fun w => k ≤ w.2), aReads := [] } }

/-- One step clock of the banks and of HBM: scheduled accesses first, then the bursts of the other requesters. -/
def memClock (s : State) : State :=
  let k := s.clock
  let l := s.mem.reads
  let s' := forEach l (hbmStep l k) (forEach l (bankStep l k) s)
  readArrivals k (startBursts k (fun pc => !scheduledPc s pc) s')

/-- The HBM source of R96 is asserted: a scheduled access has missed its slot and not started. -/
def hbmHold (s : State) : Bool := s.mem.reads.any (fun r => r.stage == .hbmMissed)

/-! ### Partitions (R191, R196) -/

/-- A committed entry of cycle `n` remains. -/
def draining (s : State) (n : Word64) : Bool := s.mem.queue.any (fun e => e.cyc == n && e.committed)

/-- Committed cycles that still have entries in queue `q`. -/
def committedIn (s : State) (q : Nat) : List Word64 :=
  ((s.mem.queue.filter (fun e => e.q == q && e.committed)).map (fun e => e.cyc)).dedup

/-- Every queue has a free partition for a new execution: the finished uncommitted cycles and the committed
cycles with entries in the queue hold at most three of its four (R191). -/
def partitionFree (s : State) : Bool :=
  s.mem.allFour.isNone &&
    s.sch.cycles.length < 4 &&
    s.mem.queue.all (fun e => (committedIn s e.q).length + s.sch.cycles.length < 4)

/-- Every partition of every queue is free, as an execution under R196 requires. -/
def allPartitionsFree (s : State) : Bool :=
  s.mem.allFour.isNone && s.sch.cycles.isEmpty && s.mem.queue.isEmpty

/-- All four partitions are given back once the last entry of the committed cycle that holds them is applied
(R196). -/
def releaseAllFour (s : State) : State :=
  match s.mem.allFour with
  | some n => if s.mem.queue.any (fun e => e.cyc == n) then s
              else if s.sch.exec.any (fun e => e.num == n) || s.sch.cycles.any (fun c => c.num == n) then s
              else { s with mem := { s.mem with allFour := none } }
  | none => s

/-- Everything that cycle `n` and later executions hold in design memory is dropped (R118, R191). `keep` says
which cycle numbers stay. -/
def dropMem (keep : Word64 → Bool) (s : State) : State :=
  { s with mem := { s.mem with
      queue := s.mem.queue.filter (fun e => e.committed || keep e.cyc)
      notes := s.mem.notes.filter (fun e => keep e.cyc)
      reads := s.mem.reads.filter (fun r => keep r.cyc)
      allFour := match s.mem.allFour with
        | some n => if keep n || draining s n then some n else none
        | none => none } }

/-- The partition of cycle `n` becomes committed in the next clock (R195), and what its execution recorded is reported: the
out-of-range accesses and the write races (R181, R193). -/
def commitMem (n : Word64) (s : State) : State :=
  let mine := s.mem.notes.filter (fun e => e.cyc == n)
  let s := { s with mem := { s.mem with
      queue := s.mem.queue.map (fun e => if e.cyc == n then { e with committed := true, vis := s.clock + 1 } else e)
      notes := s.mem.notes.filter (fun e => e.cyc != n)
      overflow := if s.mem.overflow = some n then none else s.mem.overflow } }
  let s := forEach mine (fun e s =>
    if e.race then
      memCnt 3 1 (raise 0x2E2 (memCause 2 3 (e.addr.setWidth 64) e.cluster e.ctx (2 ^ 39 ≤ e.addr.toNat) false s))
    else
      memCnt 4 1 (raise 0x2E3 (memCause 3 4 (e.addr.setWidth 64) e.cluster e.ctx (2 ^ 39 ≤ e.addr.toNat) false s))) s
  releaseAllFour s

/-! ### Bank power (R203, R205) -/

/-- The state that MEM_BANK_PWR asks for bank `k`. -/
def bankAsked (s : State) (k : Nat) : BitVec 2 := BitVec.ofNat 2 (s.fld (Reg.MEM_BANK_PWR + 4 * (k / 16)) (2 * (k % 16)) 2)

/-- A requested transition is outstanding. -/
def bankMoves (s : State) : Bool := (List.range s.bankCount).any (fun k => bankAsked s k != mget s.mem.bankPwr 0 k)

end Sys2Proof.Machine
end

