-- ==== Sys2Proof/Machine/Time.lean ====
section
/-!
DEFINITION. Machine/Time.lean: lane port helpers that the blocks share, the time counter, peer delay, the servo
and its commands (spec/09_shared_time.md, R268 to R283).
-/
namespace Sys2Proof.Machine

/-! ### The counter -/

/-- Units of the counter in one nanosecond, and in one second; it counts modulo 2^48 s. -/
def nsUnits : Nat := 2 ^ 56
def secUnits : Nat := 10 ^ 9 * nsUnits
def timeMod : Nat := 2 ^ 48 * secUnits

/-- Shared time as an unsigned 64-bit count of nanoseconds (R270). -/
def timeNs (s : State) : Word64 := BitVec.ofNat 64 (s.tim.count / nsUnits)

/-- Seconds, nanoseconds and fraction of a count, as TIM_NOW gives them. -/
def secOf (c : Nat) : Nat := c / secUnits
def nsOf (c : Nat) : Nat := c / nsUnits % 10 ^ 9
def fracOf (c : Nat) : Nat := c / 2 ^ 40 % 2 ^ 16

/-- The rate correction in force: r, with the master's trim added (R283). -/
def rateNow (s : State) : Int :=
  s.tim.rate + (if s.tim.st = .master then (s.reg Reg.TIM_RATE_TRIM).toInt else 0)

/-- One step clock of the counter: the TIME clocks that fall in it, five in eight, each add 1.25 ns x (1 + r). -/
def timeClock (s : State) : State :=
  let n := 5 * (s.clock + 1) / 8 - 5 * s.clock / 8
  let inc : Int := 5 * 2 ^ 54 + 5 * 2 ^ 14 * rateNow s
  { s with tim := { s.tim with count := (((s.tim.count : Int) + n * inc) % timeMod).toNat } }

/-- A time-stamp: the counter, displaced by `dev`, in 2^-16 ns (R275). -/
def stampAt (s : State) (dev : Int) : Int := (s.tim.count / 2 ^ 40 : Nat) + dev

/-- The trace must anchor again, after a step of the shared time (R344). -/
def timeStepped (s : State) : State := { s with lks := { s.lks with anchorDue := true } }

/-! ### The master -/

/-- This module is the time master (R277). -/
def isTimeMaster (s : State) : Bool :=
  match s.plat.timeMaster with
  | some m => m == s.plat.module
  | none => s.img.valid && s.wave.conductor == s.wave.module

/-- Fixes whether the module is master, at start-up, image install and rewind (R277). -/
def timeMasterFix (s : State) : State :=
  if isTimeMaster s then
    if s.tim.st = .master then s
    else { s with tim := { s.tim with st := .master, gm := s.plat.module, epoch := 0, stepped := false, lockRun := 0 } }
  else if s.tim.st = .master then
    { s with tim := { s.tim with st := .unsynced, gm := 0, epoch := 0, stepped := false, rate := 0, lockRun := 0 } }
  else s

/-- A module that is LOCKED, or UNSYNCED after its step, enters HOLDOVER (R281). -/
def timeHoldover (s : State) : State :=
  if s.tim.st = .locked ∨ (s.tim.st = .unsynced ∧ s.tim.stepped) then
    raise 0x2C2 { s with tim := { s.tim with st := .holdover, lockRun := 0 } }
  else s

/-- Upstream port `p` no longer gives time (R281). -/
def upstreamLost (p : Nat) (s : State) : State := if s.plat.upstream = some (BitVec.ofNat 4 p) then timeHoldover s else s

/-- Return to UNSYNCED with no recorded (GM, EPOCH) (TIM_CTRL.RESTART, R421); a master stays master. -/
def timeRestart (s : State) : State :=
  if s.tim.st = .master then s
  else { s with tim := { s.tim with st := .unsynced, stepped := false, gm := 0, epoch := 0, rate := 0, lockRun := 0 } }

/-! ### Peer delay -/

/-- The time state of a lane port. -/
def State.timPort (s : State) (p : Nat) : TimPort := mget s.tim.ports {} p

/-- Replaces it. -/
def State.setTimPort (s : State) (p : Nat) (t : TimPort) : State :=
  { s with tim := { s.tim with ports := mset s.tim.ports {} p t } }

/-- The mean path delay in ns (R276). -/
def mpdOf (t : TimPort) : Rat := (t.meas.sum : Rat) / (t.meas.length * 2 ^ 17)

/-- TIM_MPD_p reads the mean path delay in 2^-8 ns, with VALID after 4 measurements. -/
def showMpd (p : Nat) (s : State) : State :=
  let t := s.timPort p
  let v : Nat := if t.meas = [] then 0 else (mpdOf t * 2 ^ 8).floor.toNat
  s.setReg (Reg.TIM_MPD + 16 * p) (BitVec.ofNat 32 (v % 2 ^ 31 + 2 ^ 31 * b2n (4 ≤ t.meas.length)))

/-- The port's measurements and its open exchange end (R276, R421). -/
def clearMpd (p : Nat) (s : State) : State :=
  showMpd p (s.setTimPort p { s.timPort p with meas := [], pdelay := none })

/-- TIM_CNT_BAD counts one. It saturates and has neither sticky bit nor event of its own. -/
def countBad (s : State) : State :=
  let c := (s.reg Reg.TIM_CNT_BAD).toNat
  if c < 0xFFFFFFFF then s.setReg Reg.TIM_CNT_BAD (BitVec.ofNat 32 (c + 1)) else s

/-- A measurement in 2^-17 ns completes: kept when it lies from 0 to 10 us, else discarded and counted (R276). -/
def addMeasurement (p : Nat) (m : Int) (s : State) : State :=
  if 0 ≤ m ∧ m ≤ 10000 * 2 ^ 17 then
    let t := s.timPort p
    showMpd p (s.setTimPort p { t with meas := (m :: t.meas).take 8 })
  else countBad s

/-! ### TIME blocks -/

/-- Fields of a TIME block (R272). -/
def tbType (b : TimeBlock) : Nat := b.l1.toNat / 2 ^ 60
def tbVersion (b : TimeBlock) : Nat := b.l1.toNat / 2 ^ 56 % 16
def tbSrcModule (b : TimeBlock) : BitVec 6 := BitVec.ofNat 6 (b.l1.toNat / 2 ^ 50)
def tbSrcPort (b : TimeBlock) : BitVec 4 := BitVec.ofNat 4 (b.l1.toNat / 2 ^ 46)
def tbGm (b : TimeBlock) : BitVec 6 := BitVec.ofNat 6 (b.l1.toNat / 2 ^ 40)
def tbEpoch (b : TimeBlock) : BitVec 8 := BitVec.ofNat 8 (b.l1.toNat / 2 ^ 32)
def tbSeq (b : TimeBlock) : BitVec 16 := BitVec.ofNat 16 (b.l1.toNat / 2 ^ 16)
def tbNs (b : TimeBlock) : Nat := b.l2.toNat % 2 ^ 32

/-- The time-stamp that a block carries, with its CORRECTION, in 2^-16 ns. -/
def tbStamp (b : TimeBlock) : Int :=
  let sec := b.l1.toNat % 2 ^ 16 * 2 ^ 32 + b.l2.toNat / 2 ^ 32
  ((sec * 10 ^ 9 + (tbNs b)) * 2 ^ 16 : Nat) + b.l3.toInt

/-- A block of this module: its type, port, GM, EPOCH, SEQID and time-stamp in 2^-16 ns. -/
def timeBlock (s : State) (type p : Nat) (gm : BitVec 6) (epoch : BitVec 8) (seq : BitVec 16) (t : Int) : TimeBlock :=
  let u := (t % (2 ^ 48 * 10 ^ 9 * 2 ^ 16 : Nat)).toNat
  let sec := u / (10 ^ 9 * 2 ^ 16)
  { l1 := BitVec.ofNat 64 (2 ^ 60 * type + 2 ^ 57 + 2 ^ 50 * s.plat.module.toNat + 2 ^ 46 * p + 2 ^ 40 * gm.toNat +
      2 ^ 32 * epoch.toNat + 2 ^ 16 * seq.toNat + sec / 2 ^ 32)
    l2 := BitVec.ofNat 64 (2 ^ 32 * (sec % 2 ^ 32) + u / 2 ^ 16 % 10 ^ 9)
    l3 := BitVec.ofNat 64 (u % 2 ^ 16) }

/-- TIME blocks are sent on port `p`: in one group after the WAVE messages that go ahead of them, or, while the replay buffer is
full, as control blocks of their own (R245, R253; log 138). -/
def sendTime (p : Nat) (bs : List TimeBlock) (s : State) : State :=
  let s := forN (s.lane p).waveQ.length (fun _ s => flushWaves p s) s
  if itemRoom s p then sendGroup p (bs.map .time) s else forEach bs (sendTimeBlock p) s

/-- TIME blocks leave on the port: it is ACTIVE and of ROLE design, and TIM_CTRL.EN is 1. -/
def timeMaySend (s : State) (p : Nat) : Bool := s.bit Reg.TIM_CTRL 0 && activeDesign s p

/-- R273: a block that the receiver uses. -/
def timeBlockOk (s : State) (p : Nat) (b : TimeBlock) : Bool :=
  [0, 2, 3, 8, 10].contains (tbType b) && (tbVersion b) == 2 && (tbNs b) < 10 ^ 9 &&
    (tbSrcModule b) == (s.lane p).peerModule && (tbSrcPort b) == (s.lane p).peerPort

/-- A TIME block of type `type` arrives on port `p`: ignored and counted when R273 says so, used by `f` while
TIM_CTRL.EN is 1 and the port is ACTIVE and of ROLE design (R276, R278). -/
def onTimeBlock (p : Nat) (b : TimeBlock) (type : Nat) (f : State → State) (s : State) : State :=
  if timeBlockOk s p b && tbType b != type then s
  else laneGives p (.time b) (fun s =>
    if !timeBlockOk s p b then countBad s
    else if s.bit Reg.TIM_CTRL 0 && activeDesign s p then f s else s) s

/-! ### The servo -/

/-- A Sync interval in ns and in step clocks. -/
def syncNs (s : State) : Nat := 1000 * 2 ^ s.fld Reg.TIM_CFG 0 4
def syncClks (s : State) : Nat := 1280 * 2 ^ s.fld Reg.TIM_CFG 0 4

/-- A signed 32-bit register value of `x`, saturating. -/
def sat32 (x : Int) : Word32 := BitVec.ofInt 32 (max (-2 ^ 31) (min (2 ^ 31 - 1) x))

/-- Step 2 of R280: integral and rate from an offset in ns. The rate is kept in 2^-40, rounded down (log 13). -/
def servoRate (s : State) (o : Rat) : State :=
  let T : Rat := syncNs s
  let lim : Rat := (s.fld Reg.TIM_CFG 24 8 : Rat) / 10 ^ 6
  let integ := s.tim.integ + o / (64 * T)
  let r := max (-lim) (min lim (-(o / (4 * T) + integ)))
  let integ := if r = -lim ∨ r = lim then integ - o / (64 * T) else integ
  { s with tim := { s.tim with integ := integ, rate := (r * 2 ^ 40).floor } }

/-- Step 1 of R280: the counter takes away the offset once. -/
def servoStep (gm : BitVec 6) (epoch : BitVec 8) (o : Rat) (s : State) : State :=
  let c := (((s.tim.count : Int) - (o * nsUnits).floor) % timeMod).toNat
  timeStepped (raise 0x2C0 { s with tim := { s.tim with
    count := c, rate := 0, stepped := true, gm := gm, epoch := epoch, lockRun := 0 } })

/-- A module that is not master acts on a complete Sync of its upstream port (R280). -/
def servo (gm : BitVec 6) (epoch : BitVec 8) (o : Rat) (s : State) : State :=
  let s := s.setReg Reg.TIM_OFFSET (sat32 (o * 2 ^ 8).floor)
  let s := if s.tim.stepped ∧ (gm ≠ s.tim.gm ∨ epoch ≠ s.tim.epoch)
           then { s with tim := { s.tim with st := .unsynced, stepped := false } } else s
  if s.tim.st = .unsynced ∧ !s.tim.stepped then servoStep gm epoch o s
  else
    let s := servoRate s o
    let near : Bool := decide (|o| ≤ ((s.fld Reg.TIM_THRESH 0 16 : Nat) : Rat))
    let n := if near then s.tim.lockRun + 1 else 0
    let s := { s with tim := { s.tim with lockRun := n } }
    if 16 ≤ n ∧ s.tim.st ≠ .locked then raise 0x2C1 { s with tim := { s.tim with st := .locked } } else s

/-- TSYNC of the last pedigree word of a port's peer (R262). -/
def peerTsync (s : State) (p : Nat) : Nat := pedTsync (s.lane p).pedRx

/-- The TIME blocks of a group that is sent again turn to IDLE, and a measurement that one of them began is abandoned (R274). -/
def timeDropped (p : Nat) (l : List LanePart) (s : State) : State :=
  match (s.timPort p).pdelay with
  | some d =>
    if l.any (fun x => match x with | .time b => tbType b == 2 && tbSeq b == d.seq | _ => false)
    then s.setTimPort p { s.timPort p with pdelay := none } else s
  | none => s

/-- The comparison of R282 on a port, and the TIME row of R264: both LOCKED with an offset beyond DISAGREE, or
both MASTER. -/
def timeCompare (p : Nat) (s : State) : State :=
  let ofs := (s.reg (Reg.TIM_PORT_OFS + 16 * p)).toInt
  if s.tim.st = .locked ∧ peerTsync s p = 1 ∧ ofs.natAbs > 256 * s.fld Reg.TIM_THRESH 16 16 then lnkCause p 7 0 s
  else if s.tim.st = .master ∧ peerTsync s p = 3 then raise 0x2C3 (lnkCause p 7 0 s)
  else s

/-! ### Commands -/

/-- SYNC_INTERVAL (R278): Sync, with t1 in its Follow_Up, on each ACTIVE port of ROLE design. -/
def syncOut (devs : List Int) (p : Nat) (s : State) : State :=
  if timeMaySend s p then
    let t := s.timPort p
    let gm := if s.tim.st = .master then s.plat.module else s.tim.rxGm
    let ep := if s.tim.st = .master then s.tim.epoch else s.tim.rxEpoch
    let s' := sendTime p [timeBlock s 0 p gm ep t.syncSeq 0, timeBlock s 8 p gm ep t.syncSeq (stampAt s (devs.getD p 0))] s
    s'.setTimPort p { t with syncSeq := t.syncSeq + 1 }
  else s

def execSyncInterval (devs : List Int) (s : State) : Host.Outcome State Fault Refusal :=
  run (forEach (List.range 16) (syncOut devs)) s

/-- PDELAY_INTERVAL (R276): the port sends Pdelay_Req and opens a measurement. -/
def pdelayOut (dev : Int) (p : Nat) (s : State) : State :=
  if timeMaySend s p then
    let t := s.timPort p
    let s' := sendTime p [timeBlock s 2 p s.plat.module 0 t.pdelaySeq 0] s
    s'.setTimPort p { t with pdelay := some { seq := t.pdelaySeq, t1 := stampAt s dev }, pdelaySeq := t.pdelaySeq + 1 }
  else s

def execPdelayInterval (p : BitVec 4) (dev : Int) (s : State) : Host.Outcome State Fault Refusal :=
  run (pdelayOut dev p.toNat) s

/-- The GM and EPOCH last received on the upstream port (R278). -/
def noteMaster (p : Nat) (blk : TimeBlock) (s : State) : State :=
  if s.plat.upstream = some (BitVec.ofNat 4 p)
  then { s with tim := { s.tim with rxGm := tbGm blk, rxEpoch := tbEpoch blk } } else s

/-- SYNC_RECEIVE (R279): the Sync is time-stamped and awaits its Follow_Up. -/
def execSyncReceive (p : BitVec 4) (blk : TimeBlock) (dev : Int) (s : State) : Host.Outcome State Fault Refusal :=
  run (onTimeBlock p.toNat blk 0 (fun s =>
    noteMaster p.toNat blk (s.setTimPort p.toNat { s.timPort p.toNat with
      sync := some { seq := (tbSeq blk), rx := stampAt s dev, at' := s.clock } }))) s

/-- A complete Sync of port `p` with offset `o` in ns (R280, R282). -/
def syncComplete (p : Nat) (blk : TimeBlock) (o : Rat) (s : State) : State :=
  let s := timeCompare p (s.setReg (Reg.TIM_PORT_OFS + 16 * p) (sat32 (o * 2 ^ 8).floor))
  if s.plat.upstream = some (BitVec.ofNat 4 p) ∧ s.tim.st ≠ .master ∧ peerTsync s p ≠ 0 then
    servo (tbGm blk) (tbEpoch blk) o s
  else s

/-- FOLLOW_UP_RECEIVE (R279, R280): a Follow_Up with the same SEQID within one Sync interval completes the Sync. -/
def followUp (p : Nat) (blk : TimeBlock) (s : State) : State :=
  let s := noteMaster p blk s
  let t := s.timPort p
  match t.sync with
  | none => s
  | some y =>
    if y.seq = (tbSeq blk) ∧ s.clock ≤ y.at' + syncClks s then
      let s := s.setTimPort p { t with sync := none }
      if 4 ≤ t.meas.length then
        let asym : Int := (s.reg (Reg.TIM_ASYM + 16 * p)).toInt
        let o : Rat := ((y.rx - (tbStamp blk) : Int) : Rat) / 2 ^ 16 - (mpdOf t + (asym : Rat) / 2 ^ 16)
        syncComplete p blk o s
      else s
    else s

def execFollowUpReceive (p : BitVec 4) (blk : TimeBlock) (s : State) : Host.Outcome State Fault Refusal :=
  run (onTimeBlock p.toNat blk 8 (followUp p.toNat blk)) s

/-- PDELAY_REQ_RECEIVE (R272): answered with Pdelay_Resp, which carries t2, and Pdelay_Resp_Follow_Up, which
carries t3. -/
def execPdelayReqReceive (p : BitVec 4) (blk : TimeBlock) (rxDev txDev : Int) (s : State) :
    Host.Outcome State Fault Refusal :=
  run (onTimeBlock p.toNat blk 2 (fun s =>
    let p := p.toNat
    if timeMaySend s p then
      sendTime p [timeBlock s 3 p s.plat.module 0 (tbSeq blk) (stampAt s rxDev),
        timeBlock s 10 p s.plat.module 0 (tbSeq blk) (stampAt s txDev)] s
    else s)) s

/-- PDELAY_RESP_RECEIVE (R272): t2 and t4 of the open measurement. -/
def execPdelayRespReceive (p : BitVec 4) (blk : TimeBlock) (dev : Int) (s : State) :
    Host.Outcome State Fault Refusal :=
  run (onTimeBlock p.toNat blk 3 (fun s =>
    let t := s.timPort p.toNat
    match t.pdelay with
    | some d =>
      if d.seq = (tbSeq blk) then
        s.setTimPort p.toNat { t with pdelay := some { d with t2 := some (tbStamp blk), t4 := some (stampAt s dev) } }
      else s
    | none => s)) s

/-- PDELAY_RESP_FOLLOW_UP_RECEIVE (R276): t3 completes the measurement ((t4 - t1) - (t3 - t2)) / 2. -/
def respFollowUp (p : Nat) (blk : TimeBlock) (s : State) : State :=
  let t := s.timPort p
  match t.pdelay with
  | some d =>
    if d.seq = (tbSeq blk) then
      match d.t2, d.t4 with
      | some t2, some t4 =>
        addMeasurement p ((t4 - d.t1) - ((tbStamp blk) - t2)) (s.setTimPort p { t with pdelay := none })
      | _, _ => s
    else s
  | none => s

def execPdelayRespFollowUpReceive (p : BitVec 4) (blk : TimeBlock) (s : State) : Host.Outcome State Fault Refusal :=
  run (onTimeBlock p.toNat blk 10 (respFollowUp p.toNat blk)) s

/-- SYNC_LOSS_TIMEOUT (R281). -/
def execSyncLossTimeout (s : State) : Host.Outcome State Fault Refusal := run timeHoldover s

/-- A write of TIM_SET_GO (R277): dropped unless STATE is MASTER; the counter steps and EPOCH increments. A NS
above 999,999,999 names no time, and the counter then takes a value that the specification does not state
(log 16). -/
def timSetWrite (val : Word32) (s : State) : State :=
  if val.getLsbD 0 ∧ s.tim.st = .master then
    let sec := (s.reg Reg.TIM_SET).toNat % 2 ^ 16 * 2 ^ 32 + (s.reg (Reg.TIM_SET + 4)).toNat
    let ns := (s.reg (Reg.TIM_SET + 8)).toNat
    let c := if ns < 10 ^ 9 then sec * secUnits + ns * nsUnits
             else (Config.free64 s.freeCtr).toNat * 2 ^ 40 * 2 ^ 16 % timeMod
    let s := if ns < 10 ^ 9 then s else s.tick1
    timeStepped { s with tim := { s.tim with count := c, epoch := s.tim.epoch + 1 } }
  else s

def execTimSet (path : Path) (val : Word32) (s : State) : Host.Outcome State Fault Refusal :=
  run (regAccess path Reg.TIM_SET_GO val timSetWrite) s

/-- A write of TIM_CTRL: EN, and RESTART. -/
def timCtrlWrite (val : Word32) (s : State) : State :=
  let s := storeReg Reg.TIM_CTRL val s
  if val.getLsbD 1 then timeRestart s else s

/-- TIM_RESTART (R280): the event is a write with RESTART 1. -/
def execTimRestart (path : Path) (val : Word32) (s : State) : Host.Outcome State Fault Refusal :=
  run (fun s => if val.getLsbD 1 then regAccess path Reg.TIM_CTRL val timCtrlWrite s else s) s

/-- TIM_CAPTURE_ARM (R283): a write of TIM_CAPT_CTRL with EN 1. -/
def execTimCaptureArm (path : Path) (val : Word32) (s : State) : Host.Outcome State Fault Refusal :=
  run (fun s => if val.getLsbD 6 then regAccess path Reg.TIM_CAPT_CTRL val (storeReg Reg.TIM_CAPT_CTRL) s else s) s

/-- A write of TIM_CFG: a MAX_PPM of 0 or above 200 drops the field's write; intervals are 2^k us, k from 0 to
10 (log 17). -/
def timCfgWrite (val : Word32) (s : State) : State :=
  let m := bitsOf val 24 8
  let s := if 1 ≤ m ∧ m ≤ 200 then s.setFld Reg.TIM_CFG 24 8 m else s
  let s := if bitsOf val 8 4 ≤ 10 then s.setFld Reg.TIM_CFG 8 4 (bitsOf val 8 4) else s
  if bitsOf val 0 4 ≤ 10 then s.setFld Reg.TIM_CFG 0 4 (bitsOf val 0 4) else s

/-- A rising edge recorded on TDC input `t` with code `c` in the present clock is captured when it is the input
that TIM_CAPT_CTRL names (R283). -/
def timeCapture (t c : Nat) (s : State) : State :=
  if s.bit Reg.TIM_CAPT_CTRL 6 ∧ s.fld Reg.TIM_CAPT_CTRL 0 6 = t then
    let u := (s.tim.count + c * 1024 * 2 ^ 40) % timeMod
    let s := s.setReg Reg.TIM_CAPT (BitVec.ofNat 32 (secOf u / 2 ^ 32))
    let s := s.setReg (Reg.TIM_CAPT + 4) (BitVec.ofNat 32 (secOf u))
    let s := s.setReg (Reg.TIM_CAPT + 8) (BitVec.ofNat 32 (nsOf u))
    let s := s.setReg (Reg.TIM_CAPT + 12) (BitVec.ofNat 32 (fracOf u))
    raise 0x2C4 (s.setBit Reg.TIM_CAPT_CTRL 6 false)
  else s

end Sys2Proof.Machine
end

