-- ==== Sys2Proof/Machine/Larkspur.lean ====
section
/-!
DEFINITION. Machine/Larkspur.lean: probes, the packet stream and its blocks, anchors, the sinks, and the commands
(spec/12_larkspur.md, R336 to R352; R312).
-/
namespace Sys2Proof.Machine

/-! ### Probes (R312, R313) -/

/-- A PROBE entry. -/
structure ProbeEntry where
  index : Nat
  act : Bool
  cluster : Nat
  bit : Nat
  group : Nat
  deriving DecidableEq, Repr

/-- Reads a PROBE entry. -/
def probeOf (x : Word64) : ProbeEntry :=
  { index := x.toNat % 4096, act := x.getLsbD 12, cluster := x.toNat / 2 ^ 16 % 256, bit := x.toNat / 2 ^ 24 % 65536,
    group := x.toNat / 2 ^ 40 % 256 }

/-- The installed probe map. -/
def State.probes (s : State) : List ProbeEntry := s.img.probe.map probeOf

/-- The values of the mapped probes of one kind in a state copy, probe `i` in bit `i`; an unmapped probe reads 0. -/
def probeBits (s : State) (act : Bool) (copy : Nat) : Nat :=
  (s.probes.filter (fun e => e.act == act)).foldl
    (fun a e => if mget s.clu.copies false (2 ^ 24 * copy + 65536 * e.cluster + e.bit) then a + 2 ^ e.index else a) 0

/-- Trigger and activity probes of a state copy. -/
def trigProbes (s : State) (copy : Nat) : BitVec 1024 := BitVec.ofNat 1024 (probeBits s false copy)
def actProbes (s : State) (copy : Nat) : BitVec 4096 := BitVec.ofNat 4096 (probeBits s true copy)

/-- Word `w` of the trigger probes. -/
def probeWord (p : BitVec 1024) (w : Nat) : Nat := p.toNat / 2 ^ (64 * w) % 2 ^ 64

/-! ### Areas of HBM (R184, R331, R339) -/

/-- The memories and checkpoint areas of MEMDECL, as (stack, first byte, byte after the last). -/
def declAreas (s : State) : List (Nat × Nat × Nat) :=
  let d := s.img.memdecl
  d.mems.map (fun m => (m.stack, m.pbase, m.pbase + 8 * m.words)) ++
    (if d.ckptBytes = 0 then []
     else (0, d.ckptPbase0, d.ckptPbase0 + d.ckptBytes) ::
       (if s.stacks = 2 then [(1, d.ckptPbase1, d.ckptPbase1 + d.ckptBytes)] else []))

/-- Two areas share a byte. -/
def overlaps (a b : Nat × Nat × Nat) : Bool := a.1 == b.1 && a.2.1 < b.2.2 && b.2.1 < a.2.2

/-- The Larkspur ring. -/
def ringStack (s : State) : Nat := s.fld Reg.LKS_RING_BASE_HI 16 1
def ringBase (s : State) : Nat := 2 ^ 32 * s.fld Reg.LKS_RING_BASE_HI 0 3 + (s.reg Reg.LKS_RING_BASE_LO).toNat
def ringBytes (s : State) : Nat := 2 ^ 20 * (s.reg Reg.LKS_RING_SIZE).toNat
def ringArea (s : State) : Nat × Nat × Nat := (ringStack s, ringBase s, ringBase s + ringBytes s)

/-! ### Counters and causes -/

/-- LKS_CNT_k counts `n` (R352). -/
def lksCnt (k n : Nat) (s : State) : State := satAdd (Reg.LKS_CNT + 4 * k) Reg.LKS_CNT_SAT k (some 0x424) n s

/-- A LKS_CAUSE bit and its event. -/
def lksCause (b ev : Nat) (s : State) : State := raise ev (causeSet Reg.LKS_CAUSE b [] s)

/-! ### The stream and its blocks (R340, R341) -/

/-- Bytes that the input buffer holds. -/
def lksFill (s : State) : Nat := 4096 * s.lks.blocks.length + (if s.lks.cur = [] then 0 else 16 + s.lks.cur.length)

/-- TRACE follows the fill (R350). -/
def lksPressure (s : State) : State :=
  let kib := 1024
  let b := if !(s.bit Reg.LKS_CTRL 6) then false
           else if kib * s.fld Reg.LKS_BP 0 16 < lksFill s then true
           else if lksFill s < kib * s.fld Reg.LKS_BP 16 16 then false
           else s.lks.bp
  { s with lks := { s.lks with bp := b } }

/-- The 4,096 bytes of a block: its header, its stream bytes and PAD. -/
def blockBytes (seq : Nat) (first : Option Nat) (body : List Byte) : List Byte :=
  let head := [0x4C, 0x4B, 0x53, 0x42] ++ leBytes 4 seq ++ leBytes 2 (first.getD 0xFFFF) ++ leBytes 2 (16 + body.length)
  let rest := body ++ List.replicate (4080 - body.length) 0
  head ++ leBytes 4 (crc32c (head ++ [0, 0, 0, 0] ++ rest)).toNat ++ rest

/-- The block being filled ends and waits for its sink. -/
def endBlock (s : State) : State :=
  let k := s.lks
  if k.cur = [] then s
  else { s with lks := { k with
    blocks := k.blocks ++ [{ seq := k.bseq, bytes := blockBytes k.bseq k.first k.cur, packets := k.packets }],
    cur := [], first := none, packets := 0, bseq := (k.bseq + 1) % 2 ^ 32 } }

/-- Stream bytes go into the block being filled, and on into the next ones. -/
def streamBytes (fuel : Nat) (bs : List Byte) (s : State) : State :=
  match fuel with
  | 0 => s
  | n + 1 =>
    if bs = [] then s
    else
      let room := 4080 - s.lks.cur.length
      let s := { s with lks := { s.lks with cur := s.lks.cur ++ bs.take room } }
      streamBytes n (bs.drop room) (if s.lks.cur.length = 4080 then endBlock s else s)

/-- A packet enters the stream (R340). -/
def streamPacket (bs : List Byte) (s : State) : State :=
  let k := s.lks
  let first := match k.first with
    | some f => some f
    | none => some (16 + k.cur.length)
  streamBytes 4 bs (lksCnt 0 1 { s with lks := { k with first := first, packets := k.packets + 1 } })

/-- Room in the input buffer for a packet: its bytes, and the header of a block that it may begin. -/
def lksRoom (s : State) (n : Nat) : Bool := lksFill s + n + 16 ≤ 512 * 1024

/-- A packet that finds no room is lost, and so are those after it (R349). -/
def losePacket (s : State) : State :=
  let was := s.lks.losing
  let s := lksCnt 2 1 { s with lks := { s.lks with losing := true, lost := s.lks.lost + 1 } }
  if was then s else lksCause 0 0x420 s

/-- A packet goes into the stream where there is room. -/
def enterPacket (bs : List Byte) (s : State) : State :=
  if s.lks.losing || !lksRoom s bs.length then losePacket s else streamPacket bs s

/-! ### Packets (R342 to R345) -/

/-- A varint. -/
def varint (fuel n : Nat) : List Byte :=
  match fuel with
  | 0 => []
  | k + 1 => if n < 128 then [BitVec.ofNat 8 n] else BitVec.ofNat 8 (n % 128 + 128) :: varint k (n / 128)

/-- A signed varint: the varint of zig-zag. -/
def svarint (d : Int) : List Byte := varint 10 (if 0 ≤ d then (2 * d).toNat else (-2 * d - 1).toNat)

/-- The packet's header byte. -/
def packetHead (type arg : Nat) : Byte := BitVec.ofNat 8 (16 * type + arg)

/-- A time-stamp of a count in 2^-56 ns: T48 and FRAC. -/
def timeStamp (c : Nat) : List Byte := leBytes 6 (c / nsUnits % 2 ^ 48) ++ leBytes 2 (fracOf c)

/-- The enabled probe words. -/
def probeEn (s : State) : Nat := s.fld Reg.LKS_PROBE_EN 0 16
def enWords (s : State) : List Nat := (List.range 16).filter (fun w => probeEn s / 2 ^ w % 2 == 1)

/-- The ANCHOR as it would be formed now, for cycle `c` (R343). -/
def anchorBytes (s : State) : List Byte :=
  [packetHead 5 (tsyncCode s.tim.st)] ++ leBytes 8 s.lks.lastClosed.toNat ++ leBytes 8 (timeNs s).toNat ++
    leBytes 2 (fracOf s.tim.count) ++ leBytes 1 s.tim.gm.toNat ++ leBytes 1 s.tim.epoch.toNat ++ leBytes 2 (probeEn s) ++
    (enWords s).flatMap (fun w => leBytes 8 (probeWord s.lks.prevP w))

/-- Bits [63:48] of the ns count. -/
def timeHi (s : State) : BitVec 16 := BitVec.ofNat 16 ((timeNs s).toNat / 2 ^ 48)

/-- A WRAP of kind time comes before the next packet, whatever that is, when bits [63:48] of the ns count have changed (R345; log
181). -/
def putWrap (s : State) : State :=
  let h := timeHi s
  if h = s.lks.hi then s
  else enterPacket (packetHead 8 0 :: leBytes 2 h.toNat) { s with lks := { s.lks with hi := h } }

/-- A packet of the stream, after the WRAP that it may need. -/
def putPacket (bs : List Byte) (s : State) : State := enterPacket bs (putWrap s)

/-- An ANCHOR is emitted, and sets the references of the stream; one that is lost counts once (R349). -/
def putAnchor (s : State) : State :=
  let s := { s with lks := { s.lks with anchorDue := false, sinceAnchor := 0 } }
  let s := putPacket (anchorBytes s) s
  if s.lks.losing then s
  else lksCnt 3 1 { s with lks := { s.lks with anchorNs := (timeNs s).toNat, ma := (0, 0), fa := (0, 0), hi := timeHi s } }

/-- The pending IDLE run is emitted. -/
def putIdle (s : State) : State :=
  if s.lks.idle = 0 then s
  else
    let n := s.lks.idle
    putPacket (packetHead 2 0 :: varint 10 n) { s with lks := { s.lks with idle := 0 } }

/-- Larkspur forms packets: it captures, and its clock runs (R338, R351). -/
def lksForms (s : State) : Bool := s.lks.armed && s.lks.capturing && s.pwr.mode == .on

/-- Once there is room again, packets that were lost are reported and the stream anchors anew (R349). A run of idle cycles that
is pending then would have been a packet before, and is lost with them. -/
def lksRecover (s : State) : State :=
  if !s.lks.losing || !lksForms s then s
  else
    let s := putIdle s
    let lostPkt := packetHead 6 0 :: varint 10 s.lks.lost
    if lksRoom s (3 + lostPkt.length + (anchorBytes s).length) then
      putAnchor (putPacket lostPkt { s with lks := { s.lks with losing := false, lost := 0 } })
    else s

/-- What comes before any packet: the report of lost ones, the IDLE run, and a due ANCHOR. -/
def beforePacket (s : State) : State :=
  let s := putIdle (lksRecover s)
  if s.lks.anchorDue then putAnchor s else s

/-- A packet of the stream. -/
def lksPacket (bs : List Byte) (s : State) : State := putPacket bs (beforePacket s)

/-- A flush (R346): the IDLE run and the partial block leave. -/
def lksFlush (s : State) : State := endBlock (putIdle s)

/-- EN clears: the stream is flushed and Larkspur disarmed. -/
def lksDisarm (s : State) : State :=
  if s.lks.armed then
    let s := lksFlush s
    lksPressure ({ s with lks := { s.lks with armed := false, capturing := false, cycs := [] } }.setBit Reg.LKS_CTRL 0 false)
  else s.setBit Reg.LKS_CTRL 0 false

/-! ### Closing a cycle (R337, R338) -/

/-- The delta of one probe word: BMASK and the bytes that are not zero. -/
def deltaBytes (x : Nat) : List Byte :=
  let bs := leBytes 8 x
  let mask := (List.range 8).foldl (fun a i => if bs.getD i 0 = 0 then a else a + 2 ^ i) 0
  BitVec.ofNat 8 mask :: bs.filter (fun b => b ≠ 0)

/-- The enabled words that changed, and the CYCLE packet. -/
def changedWords (s : State) (p : BitVec 1024) : List Nat :=
  (enWords s).filter (fun w => probeWord p w ≠ probeWord s.lks.prevP w)
def cyclePacket (s : State) (p : BitVec 1024) : List Byte :=
  let ws := changedWords s p
  packetHead 1 0 :: (leBytes 2 (ws.foldl (fun a w => a + 2 ^ w) 0) ++
    ws.flatMap (fun w => deltaBytes (probeWord (p ^^^ s.lks.prevP) w)))

/-- A MEMW packet. -/
def putMemw (m : LksMemw) (s : State) : State :=
  let s := beforePacket s
  let prev := if m.hbm then s.lks.ma.2 else s.lks.ma.1
  let full : Bool := m.mask == BitVec.allOnes 64
  let bs := packetHead 3 (b2n m.hbm + 2 * b2n full) ::
    (svarint ((m.addr : Int) - prev) ++ leBytes 8 (m.data &&& m.mask).toNat ++ (if full then [] else leBytes 8 m.mask.toNat))
  let s := putPacket bs s
  if s.lks.losing then s
  else { s with lks := { s.lks with ma := if m.hbm then (s.lks.ma.1, m.addr) else (m.addr, s.lks.ma.2) } }

/-- A MARK packet. -/
def putMark (m : LksMark) (s : State) : State :=
  lksPacket (match m with
    | .first t info => packetHead 10 0 :: (timeStamp t ++ [info])
    | .later => [packetHead 10 1]
    | .start => [packetHead 10 2]
    | .stop => [packetHead 10 3]) s

/-- An AVG packet. -/
def putAvg (a : Bool × List Nat) (s : State) : State :=
  lksPacket (packetHead 11 (b2n a.1) :: a.2.flatMap (fun x => varint 10 x)) s

/-- Steps 1 to 4 of R337, as the sources are enabled. -/
def cycMemw (s : State) (c : LksCyc) : List LksMemw := if s.bit Reg.LKS_CTRL 2 then c.memw else []
def cycAvg (s : State) (c : LksCyc) : List (Bool × List Nat) := if s.bit Reg.LKS_CTRL 5 then c.avg.toList else []
def closeParts (c : LksCyc) (s : State) : State :=
  forEach (cycAvg s c) putAvg (forEach c.marks putMark (forEach (cycMemw s c) putMemw
    (if c.cyc == 0 then lksPacket [packetHead 8 1] s else s)))

/-- The cycle emits a packet in steps 1 to 4, or a probe word has changed. -/
def closesLoud (c : LksCyc) (s : State) : Bool :=
  c.cyc == 0 || !(cycMemw s c).isEmpty || !c.marks.isEmpty || !(cycAvg s c).isEmpty || !(changedWords s c.probes).isEmpty

/-- Step 5 of R337. -/
def closeLast (c : LksCyc) (loud : Bool) (s : State) : State :=
  if loud then
    let t := beforePacket s
    putPacket (cyclePacket t c.probes) t
  else { s with lks := { s.lks with idle := s.lks.idle + 1 } }

/-- The packets of a traced cycle, in the order of R337, and the count towards the next anchor (R344). -/
def closePackets (c : LksCyc) (s : State) : State :=
  let t := closeLast c (closesLoud c s) (closeParts c s)
  let n := t.lks.sinceAnchor + 1
  lksCnt 4 1 { t with lks := { t.lks with sinceAnchor := n, anchorDue := t.lks.anchorDue || decide (65536 ≤ n) } }

/-- An anchor that is due goes ahead of anything of the next cycle, behind the idle run of the cycles closed so far (R344). -/
def anchorFirst (s : State) : State := if s.lks.anchorDue then beforePacket s else s

/-- Larkspur closes the oldest committed cycle once Aster has evaluated it, where Aster is armed (R337, R338). -/
def lksClose (s : State) : State :=
  match s.lks.cycs with
  | [] => s
  | c :: rest =>
    if !s.lks.armed || !c.evaluated || s.pwr.mode ≠ .on then s
    else
      let s := { s with lks := { s.lks with cycs := rest } }
      let mode1 := s.bit Reg.LKS_CTRL 1
      let starts : Bool := !s.lks.capturing && (!mode1 || c.marks.contains .start)
      let s := if starts then { s with lks := { s.lks with capturing := true, anchorDue := true, idle := 0 } } else s
      let s := if s.lks.capturing then closePackets c (anchorFirst s) else s
      let s := { s with lks := { s.lks with lastClosed := c.cyc, prevP := c.probes } }
      let s := if mode1 && c.marks.contains .stop then { s with lks := { s.lks with capturing := false } } else s
      lksPressure s

/-- Every committed cycle that can be closed is closed: before a rewind's packets and the GAP of Doze or Nap (R351; log 182). -/
def lksDrain (s : State) : State := forN s.lks.cycs.length (fun _ s => lksClose s) s

def execLksCycleClose (s : State) : Host.Outcome State Fault Refusal := run lksClose s

/-- A committed cycle is handed to Larkspur while it is armed (R336); the entries of its partition are `es`. -/
def lksCommit (n : Word64) (probes : BitVec 1024) (es : List QEntry) (evaluated : Bool) (s : State) : State :=
  if s.lks.armed then
    let conv (e : QEntry) : LksMemw :=
      if e.q < 512 then { hbm := false, addr := e.key, data := e.data, mask := e.mask }
      else
        let pa := 8 * (e.key % 2 ^ 32)
        let a := match s.img.memdecl.mems.find? (fun m => m.stack == e.key / 2 ^ 32 && m.pbase ≤ pa && pa < m.pbase + 8 * m.words) with
          | some m => m.dbase + (pa - m.pbase) / 8
          | none => 0
        { hbm := true, addr := a, data := e.data, mask := e.mask }
    { s with lks := { s.lks with cycs := s.lks.cycs ++
        [{ cyc := n, probes := probes, memw := es.map conv, evaluated := evaluated }] } }
  else s

/-! ### Program flow, timers and marks -/

/-- LKS_FLOW_RECORD (R336, R342): a flow record of the active management core; kind 3 is reserved. -/
def lksFlow (kind : Nat) (target : Nat) (s : State) : State :=
  let core := b2n s.boot.activeB
  if lksForms s && kind ≠ 3 && s.bit Reg.LKS_CTRL (3 + core) then
    let s := beforePacket s
    let prev := if core = 1 then s.lks.fa.2 else s.lks.fa.1
    let s := putPacket (packetHead 4 (core + 2 * kind) :: svarint ((target : Int) - prev)) s
    lksPressure (if s.lks.losing then s
      else { s with lks := { s.lks with fa := if core = 1 then (s.lks.fa.1, target) else (target, s.lks.fa.2) } })
  else s

def execLksFlowRecord (kind : BitVec 2) (target : Word32) (s : State) : Host.Outcome State Fault Refusal :=
  run (lksFlow kind.toNat target.toNat) s

/-- LKS_FLUSH_TIMEOUT (R341): a block that has stayed partly filled for LKS_FLUSH_US leaves; 0 disables. -/
def execLksFlushTimeout (s : State) : Host.Outcome State Fault Refusal :=
  run (fun s => if s.fld Reg.LKS_FLUSH_US 0 16 = 0 ∨ s.lks.cur = [] then s else lksPressure (endBlock s)) s

/-- LKS_ANCHOR_TIMER (R344): 1 ms of shared time has passed since the last anchor. -/
def execLksAnchorTimer (s : State) : Host.Outcome State Fault Refusal :=
  run (fun s => if lksForms s then lksPressure (putAnchor (putIdle (lksRecover s))) else s) s

/-- Entry into Doze or Nap (R346, R351): a GAP with the time of entry while Larkspur captures, then a flush. -/
def lksGap (nap : Bool) (s : State) : State :=
  let s := lksDrain s
  if s.lks.armed then
    lksPressure (lksFlush (if s.lks.capturing then lksPacket (packetHead 7 (b2n nap) :: timeStamp s.tim.count) s else s))
  else s

/-- Wake from Doze or Nap: an ANCHOR for the last committed cycle, before any other packet but the report of lost ones (R344, R349,
R351). -/
def lksWake (s : State) : State :=
  if lksForms s then
    let was := s.lks.losing
    let s := lksRecover s
    lksPressure (if was then s else putAnchor s)
  else s

/-- A rewind to a slot (R351): REWIND, then an ANCHOR with the restored cycle and probe values. Cycles not closed
before it stay to be closed first; a rewind begins when none waits. -/
def lksRewind (slot : Nat) (n : Word64) (probes : BitVec 1024) (s : State) : State :=
  if s.lks.armed then
    let set (s : State) : State := { s with lks := { s.lks with lastClosed := n, prevP := probes } }
    if s.lks.capturing then
      lksPressure (putAnchor (set (lksPacket [packetHead 9 0, BitVec.ofNat 8 slot] s)))
    else set s
  else s

/-! ### Arming (R339) -/

/-- The sink that blocks go to now. -/
def sinkNow (s : State) : Nat := if s.lks.onFallback then s.fld Reg.LKS_SINK 2 2 else s.fld Reg.LKS_SINK 0 2

/-- A code names a sink that is PRIMARY or FALLBACK. -/
def sinkUsed (s : State) (c : Nat) : Bool := s.fld Reg.LKS_SINK 0 2 == c || s.fld Reg.LKS_SINK 2 2 == c

/-- The ports of the lane sink that LPORTS sets (R346, R3). -/
def lksPorts (s : State) : List Nat :=
  let base := if s.ident.half then 6 else 14
  (List.range 2).filterMap (fun i => if s.bit Reg.LKS_SINK (5 + i) then some (base + i) else none)

/-- The golden area of the applied mask test, where one is applied. -/
def appliedGolden (s : State) : List (Nat × Nat × Nat) :=
  let r (o : Nat) : Word32 := mget s.ast.applied 0 o
  if (r Reg.AST_MT_CTRL).getLsbD 0 then
    let a := 2 ^ 32 * bitsOf (r Reg.AST_MT_ADDR_HI) 0 3 + (r Reg.AST_MT_ADDR_LO).toNat
    [(bitsOf (r Reg.AST_MT_ADDR_HI) 16 1, a, a + 16 * (bitsOf (r Reg.AST_MT_CTRL) 8 4 + 1) * (r Reg.AST_MT_COUNT).toNat)]
  else []

/-- RESOURCE of R339. -/
def armResource (s : State) : Bool :=
  (sinkUsed s 0 &&
    ((declAreas s ++ appliedGolden s).any (overlaps (ringArea s)) || ringBytes s == 0 || 2 ^ 34 < ringBytes s ||
      stackBytes < ringBase s + ringBytes s || s.stacks ≤ ringStack s)) ||
  (sinkUsed s 1 &&
    ((s.reg Reg.LKS_HOST_SLOTS).toNat < 2 || 2 ^ 20 < (s.reg Reg.LKS_HOST_SLOTS).toNat ||
      (s.reg Reg.LKS_HOST_BASE).toNat % 4096 != 0 ||
      (s.reg Reg.LKS_HOST_SLOTS).toNat ≤ (s.reg Reg.LKS_HOST_RD).toNat)) ||
  (sinkUsed s 2 && ((lksPorts s).isEmpty || (lksPorts s).any (fun p => (s.lane p).role != 1)))

/-- A sink that cannot be used as things stand (R348): its stack is parked, PCIe does not master the bus, or none of its ports is
ACTIVE. -/
def sinkDown (s : State) (c : Nat) : Bool :=
  (c == 0 && s.pwr.parked.contains (0x16, ringStack s)) || (c == 1 && (s.lks.busMasterOff || !s.host.dlActive)) ||
    (c == 2 && (lksPorts s).all (fun p => (s.lane p).st != .active))

/-- The sink in use is lost (R348): its blocks are lost with their packets; Larkspur continues on FALLBACK with
OVERFLOW and an ANCHOR, or is disarmed. -/
def sinkLost (s : State) : State :=
  if !s.lks.armed && s.lks.blocks.isEmpty then s
  else
    let fb := s.fld Reg.LKS_SINK 2 2
    let goes : Bool := s.lks.armed && !s.lks.onFallback && fb != 3 && !sinkDown s fb
    let s := if goes then s else lksDisarm s
    let gone := (s.lks.blocks.map (fun b => b.packets)).sum + s.lks.packets
    let s := lksCause 1 0x421 (lksCnt 2 gone { s with lks := { s.lks with
      blocks := [], cur := [], first := none, packets := 0, sinkLost := true, lost := s.lks.lost + gone } })
    if goes then lksPressure (lksRecover (lksCnt 5 1 { s with lks := { s.lks with onFallback := true, losing := true } }))
    else lksPressure s

/-- A cause of R348 that takes away sink `c`. -/
def loseSink (c : Nat) (s : State) : State := if sinkNow s = c then sinkLost s else s

/-- A write of 1 to EN (R339): checked, and the stream begins with block 0. A ring on a parked stack, or a PCIe sink without bus
mastering, is lost at once (R348; DEDUCED, log 149). `owns` says whether the writer still owns when the request is checked
(R375). -/
def lksArmNow (owns : Bool) (s : State) : State :=
  let st := if !owns then 3 else if (grantsOf s 2).isEmpty then 4 else if armResource s then 12 else 0
  let s := { s with lks := { s.lks with status := BitVec.ofNat 8 st } }
  if st ≠ 0 then lksCause 3 0x423 (s.setBit Reg.LKS_CTRL 0 false)
  else
    let g : Grant := ((grantsOf s 2).head?.map (fun x => x.2)).getD
      { nonce := 0, kind := 2, masked := false, write := false, pf1 := false, cores := 0, base := 0, units := 0 }
    let k : LksSt := { armed := true, blocks := s.lks.blocks, status := 0, prevP := trigProbes s s.sch.comCopy,
                       lastClosed := s.sch.committed, hi := timeHi s,
                       sealKey := grantKey s labelTrace g, sealNonce := g.nonce, sent := g.b,
                       busMasterOff := s.lks.busMasterOff, bp := s.lks.bp }
    let s := lksPressure ({ s with lks := k }.setReg Reg.LKS_RING_WR 0)
    if sinkNow s ≤ 1 && sinkDown s (sinkNow s) then sinkLost s else s

/-- A write of LKS_CTRL: its fields, and arming, disarming or a flush. -/
def lksCtrlWrite (owns : Bool) (val : Word32) (s : State) : State :=
  let s := storeReg Reg.LKS_CTRL val s
  let s := if val.getLsbD 0 then (if s.lks.armed then s else lksArmNow owns s)
           else if s.lks.armed then lksDisarm s else s
  lksPressure (if val.getLsbD 7 then lksFlush s else s)

def execLksArm (wr : OpWrite) (val : Word32) (s : State) : Host.Outcome State Fault Refusal :=
  run (fun s => if val.getLsbD 0 then regAccess wr.path Reg.LKS_CTRL val (lksCtrlWrite wr.owns) s else s) s

def execLksDisarm (path : Path) (val : Word32) (s : State) : Host.Outcome State Fault Refusal :=
  run (fun s => if val.getLsbD 0 then s else regAccess path Reg.LKS_CTRL val (lksCtrlWrite true) s) s

def execLksFlush (path : Path) (val : Word32) (s : State) : Host.Outcome State Fault Refusal :=
  run (fun s => if val.getLsbD 7 then regAccess path Reg.LKS_CTRL val (lksCtrlWrite true) s else s) s

/-- A write of LKS_SINK: dropped while EN is 1 (R346). -/
def lksSinkWrite (val : Word32) (s : State) : State := if s.lks.armed then s else storeReg Reg.LKS_SINK val s

/-! ### Sinks (R346 to R348) -/

/-- A block counts as sent to a sink under the trace grant (R412). -/
def countSent (c : Nat) (s : State) : State :=
  let s := { s with lks := { s.lks with sent := mset s.lks.sent 0 c (mget s.lks.sent 0 c + 1) } }
  match (grantsOf s 2).find? (fun g => g.2.nonce = s.lks.sealNonce) with
  | some (i, g) => setGrant i (some { g with b := mset g.b 0 c (mget g.b 0 c + 1) }) s
  | none => s

/-- A sealed block: AES-256-GCM with the nonce sink code ‖ b, and its tag (R346, R412). -/
def sealBlock (s : State) (c : Nat) (bs : List Byte) : List Byte :=
  gcmSeal s.lks.sealKey (beBytes 4 c ++ beBytes 8 (mget s.lks.sent 0 c)) [] bs

/-- The oldest block has been taken by its sink. -/
def blockTaken (s : State) : State :=
  lksPressure (lksRecover (lksCnt 1 1 { s with lks := { s.lks with blocks := s.lks.blocks.drop 1 } }))

/-- Writes bytes into HBM as whole words, stored afresh without any error they held (R206, R347). -/
def writeHbmBytes (stack pa : Nat) (bs : List Byte) (s : State) : State :=
  forEach (List.range (bs.length / 8)) (fun i s =>
    let key := stack * 2 ^ 32 + pa / 8 + i
    setHbm key (BitVec.ofNat 64 (leAt bs (8 * i) 8))
      { s with mem := { s.mem with hbmErr := mset s.mem.hbmErr 0 (burstOf key) 0 } }) s

/-- Sink 0: the HBM ring (R346, R347). -/
def sendRing (b : LksBlock) (s : State) : State :=
  let n := ringBytes s / 4096
  if n = 0 then s
  else
    let k := (s.reg Reg.LKS_RING_WR).toNat % n
    let first := ringStack s * 2 ^ 32 + (ringBase s + 4096 * k) / 8
    let s := askBursts 4 ((List.range 128).map (fun i => first + 4 * i))
      (writeHbmBytes (ringStack s) (ringBase s + 4096 * k) b.bytes s)
    let s := blockTaken (countSent 0 (s.setReg Reg.LKS_RING_WR (BitVec.ofNat 32 ((k + 1) % n))))
    if s.bit Reg.LKS_SINK 4 && k + 1 == n then
      let s := lksDisarm (lksCause 2 0x422 s)
      let gone := (s.lks.blocks.map (fun x => x.packets)).sum
      lksPressure (lksCnt 2 gone { s with lks := { s.lks with blocks := [] } })
    else s

/-- Sink 1: the host ring, while it is not full (R346, R347). -/
def sendHost (b : LksBlock) (s : State) : State :=
  let n := (s.reg Reg.LKS_HOST_SLOTS).toNat
  let w := (s.reg Reg.LKS_HOST_WR).toNat
  if n = 0 ∨ (w + 1) % n = (s.reg Reg.LKS_HOST_RD).toNat then s
  else
    let s := s.emit (.lksRecord ((s.reg64 Reg.LKS_HOST_BASE).toNat + 4112 * w) (sealBlock s 1 b.bytes))
    blockTaken (countSent 1 (s.setReg Reg.LKS_HOST_WR (BitVec.ofNat 32 ((w + 1) % n))))

/-- The data stripes of a sealed block, padded to 4,128 bytes: 32 bytes each, 8 to a lane (R346). -/
def traceStripes (bs : List Byte) : List LanePart :=
  (List.range 129).map (fun i => .value (BitVec.ofNat 64 (leAt bs (32 * i) 8)) (BitVec.ofNat 192 (leAt bs (32 * i + 8) 24)))

/-- Sink 2: a lane port, by BSEQ when two are set (R346). The block's 129 data stripes leave in groups of up to 7, once the
port's replay buffer has room for all of them (R253). -/
def sendLane (b : LksBlock) (s : State) : State :=
  let ps := (lksPorts s).filter (fun p => (s.lane p).st == .active && (s.lane p).role == 1)
  match ps with
  | [] => s
  | p :: t =>
    let q := if b.seq % 2 = 1 then t.headD p else p
    if 64 < (s.lane q).outstanding.length + 19 then s
    else
      let l := traceStripes (sealBlock s 2 b.bytes ++ List.replicate 16 0)
      blockTaken (countSent 2 (forN 19 (fun i s => sendGroup q ((l.drop (7 * i)).take 7) s) s))

/-- LKS_BLOCK_SEND (R346): the oldest block that waits is delivered, while Larkspur's clock runs (R439). -/
def lksSend (s : State) : State :=
  match s.lks.blocks with
  | [] => s
  | b :: _ =>
    if s.pwr.mode ≠ .on then s
    else if sinkNow s = 0 then (if sinkDown s 0 then sinkLost s else sendRing b s)
    else if sinkNow s = 1 then (if s.lks.busMasterOff || !s.host.dlActive then s else sendHost b s)
    else if sinkNow s = 2 then sendLane b s
    else s

def execLksBlockSend (s : State) : Host.Outcome State Fault Refusal := run lksSend s

/-- LKS_SINK_LOST (R348). -/
def execLksSinkLost (busMaster : Bool) (s : State) : Host.Outcome State Fault Refusal :=
  run (fun s => if busMaster then loseSink 1 { s with lks := { s.lks with busMasterOff := true } } else sinkLost s) s

/-- LKS_HOST_RD_WRITE (R347). -/
def execLksHostRdWrite (path : Path) (val : Word32) (s : State) : Host.Outcome State Fault Refusal :=
  run (regAccess path Reg.LKS_HOST_RD val (storeReg Reg.LKS_HOST_RD)) s

/-- LKS_STATUS as it reads. -/
def lksStatusWord (s : State) : Word32 :=
  BitVec.ofNat 32 (b2n s.lks.armed + 2 * b2n s.lks.capturing + 4 * b2n s.lks.sinkLost + 8 * b2n s.lks.onFallback +
    16 * b2n s.lks.bp + 64 * (lksFill s / 1024 % 1024) + 65536 * s.lks.status.toNat)

end Sys2Proof.Machine
end

