-- ==== Sys2Proof/Machine/Aster.lean ====
section
/-!
DEFINITION. Machine/Aster.lean: TDC edges, the conditions and the sequencer, mask tests, activity averaging, staging
and applying (spec/11_aster.md, R312 to R335; R309, R310).
-/
namespace Sys2Proof.Machine

/-! ### Applied and shadowed registers (R321) -/

/-- The register takes effect only through an apply. -/
def astShadowed (off : Nat) : Bool :=
  off == Reg.AST_CTRL || off == Reg.AST_TRIG_TDC || off == Reg.AST_TRIG_TDC + 4 ||
    (Reg.AST_LIMIT ≤ off && off < Reg.AST_LIMIT + 32) || (Reg.AST_TLIM_j_LO ≤ off && off < Reg.AST_TLIM_j_LO + 32) ||
    (Reg.AST_SEQ_A ≤ off && off < Reg.AST_SEQ_A + 256) || (Reg.AST_COND_MODE ≤ off && off < Reg.AST_COND_MODE + 64) ||
    off == Reg.AST_MT_CTRL || (Reg.AST_MT_ADDR_LO ≤ off && off ≤ Reg.AST_MT_COUNT) || off == Reg.AST_AVG_CTRL ||
    (Reg.AST_COND_MASK ≤ off && off < Reg.AST_COND_MASK + 0x1000)

/-- A word of the applied program. -/
def astReg (s : State) (off : Nat) : Word32 := mget s.ast.applied 0 off

/-- Two applied words as one 64-bit value. -/
def astReg64 (s : State) (off : Nat) : Word64 := cat64 (astReg s (off + 4)) (astReg s off)

/-- AST_STAT_k counts `n` (R335). -/
def astStat (k n : Nat) (s : State) : State := satAdd (Reg.AST_STAT + 4 * k) Reg.AST_STAT_SAT k (some 0x3E8) n s

/-! ### The mask test (R329 to R331) -/

/-- The mask test runs. -/
def mtActive (s : State) : Bool := s.bit Reg.AST_MT_STATUS 0
def mtStop (s : State) : Bool := (astReg s Reg.AST_MT_CTRL).getLsbD 1
def mtStart (s : State) : Word64 := astReg64 s Reg.AST_MT_START
def mtCount (s : State) : Nat := (astReg s Reg.AST_MT_COUNT).toNat
def mtWords (s : State) : Nat := bitsOf (astReg s Reg.AST_MT_CTRL) 8 4 + 1
def mtBase (s : State) : Nat := bitsOf (astReg s Reg.AST_MT_CTRL) 4 4

/-- The record of a committed cycle. -/
def mtIndex (s : State) (n : Word64) : Option Nat :=
  let i := (n - mtStart s).toNat
  if mtActive s && i < mtCount s then some i else none

/-- The READY gate is in force (R326). -/
def astGate (s : State) : Bool :=
  (astReg s Reg.AST_CTRL).getLsbD 2 || (mtActive s && mtStop s)

/-- READY for cycle `n` waits for an evaluation: the queue is full (R314), or the gate awaits the cycle before (R326). -/
def astAwaits (s : State) (n : Word64) : Bool := 8 ≤ s.ast.queue.length || (astGate s && s.ast.lastEval ≠ n - 1)

/-- Aster withholds READY for cycle `n`: an evaluation is awaited, or Aster has stopped (R327). -/
def astWithholds (s : State) (n : Word64) : Bool := astAwaits s n || s.ast.stopped.isSome

/-- The probes of a record that fail, in ascending order. -/
def failingProbes (s : State) (g : GoldenRec) (p : BitVec 1024) : List Nat :=
  (List.range (mtWords s)).flatMap (fun w =>
    let x := (BitVec.ofNat 64 (probeWord p (mtBase s + w)) ^^^ g.e.getD w 0) &&& g.m.getD w 0
    (List.range 64).filterMap (fun b => if x.getLsbD b then some (64 * (mtBase s + w) + b) else none))

/-- The words of a golden record, with whether its read met an uncorrected error; errors of its bursts are
reported (R209, R331). -/
def readGolden (i : Nat) (s : State) : GoldenRec × State :=
  let w := mtWords s
  let stack := bitsOf (astReg s Reg.AST_MT_ADDR_HI) 16 1
  let pa := 2 ^ 32 * bitsOf (astReg s Reg.AST_MT_ADDR_HI) 0 3 + (astReg s Reg.AST_MT_ADDR_LO).toNat + 16 * w * i
  let key (j : Nat) : Nat := stack * 2 ^ 32 + pa / 8 + j
  let word (j : Nat) : Word64 := storedWord s 512 (key j)
  let bursts := ((List.range (2 * w)).map (fun j => burstOf (key j))).dedup
  let gone : Bool := s.pwr.parked.contains (0x16, stack)
  let bad := gone || bursts.any (fun b => mget s.mem.hbmErr 0 b == 2)
  let s' := if gone then s else forEach bursts (fun b s =>
    if mget s.mem.hbmErr 0 b = 1 then hbmCorrected (4 * b) s
    else if mget s.mem.hbmErr 0 b = 2 then hbmUncorrected (hbmAddrForm s (4 * b)) 0 0 false s
    else s) (askBursts 3 (bursts.map (fun b => 4 * b)) s)
  ({ index := i, e := (List.range w).map word, m := (List.range w).map (fun j => word (w + j)), bad := bad }, s')

/-- GOLDEN_RECORD_READ (R329): the next record, at most 64 ahead of the last committed cycle. -/
def goldenRead (s : State) : State :=
  let i := s.ast.goldenNext
  let ahead := (mtStart s + BitVec.ofNat 64 i - s.sch.committed).toNat
  if mtActive s && i < mtCount s && (ahead ≤ 64 || 2 ^ 63 ≤ ahead) then
    let (g, s) := readGolden i s
    let s := { s with ast := { s.ast with golden := s.ast.golden ++ [g], goldenNext := i + 1 } }
    if g.bad then raise 0x3E7 (causeSet Reg.AST_CAUSE 1 [] (s.setBit Reg.AST_MT_STATUS 3 true)) else s
  else s

def execGoldenRecordRead (s : State) : Host.Outcome State Fault Refusal := run goldenRead s

/-! ### TDC edges (R309, R310, R324) -/

/-- Reads bit `t` of a 64-bit register pair. -/
def pairBit (s : State) (off t : Nat) : Bool := s.bit (off + 4 * (t / 32)) (t % 32)

/-- An edge that Glove loses (R310, R461). -/
def tdcLose (t : Nat) (s : State) : State := raise 0x365 (glvCnt 4 1 (glvCause 5 (t / 16) t s))

/-- An edge goes to Aster, which holds it until its cycle is evaluated, or commits unevaluated (R324). -/
def tdcToAster (t c : Nat) (s : State) : State :=
  if 256 ≤ s.ast.tdc.length then raise 0x3E6 (astStat 5 1 (causeSet Reg.AST_CAUSE 0 [] s))
  else { s with ast := { s.ast with tdc := s.ast.tdc ++ [{ input := t, clk := s.clock, code := c, time := s.tim.count }] } }

/-- TDC_EDGE (R309): an edge of the selected polarity on an enabled input; not before the resident load. -/
def tdcEdge (t c : Nat) (falling : Bool) (s : State) : State :=
  if s.glv.residentDone && pairBit s Reg.GLV_TDC_EN t && (pairBit s (Reg.GLV_TDC_EN + 8) t == falling) && c < 50 then
    if mget s.glv.tdcLast 0 t = s.clock + 1 ∨ s.clock < mget s.pwr.tdcOut 0 t then tdcLose t s
    else
      let s := glvCnt 7 1 { s with glv := { s.glv with tdcLast := mset s.glv.tdcLast 0 t (s.clock + 1) } }
      let s := tdcToAster t c s
      if falling then s else timeCapture t c s
  else s

def execTdcEdge (t : BitVec 6) (falling : Bool) (code : BitVec 6) (s : State) : Host.Outcome State Fault Refusal :=
  run (tdcEdge t.toNat code.toNat falling) s

/-- The DI sample for cycle `n` was taken in the clock before this one: the edges of clocks earlier than the sample's that have
no cycle are assigned to it. -/
def tdcAssign (n : Word64) (s : State) : State :=
  let mine (r : TdcRec) : Bool := r.cyc.isNone && r.clk + 1 < s.clock
  let k := (s.ast.tdc.filter mine).length
  astStat 4 k { s with ast := { s.ast with tdc := s.ast.tdc.map (fun r => if mine r then { r with cyc := some n } else r) } }

/-- The edge stands before another (R325). -/
def tdcBefore (a b : TdcRec) : Bool := a.clk < b.clk || (a.clk == b.clk && a.code ≤ b.code)

/-- Edges assigned to a cycle on inputs in AST_TRIG_TDC, the first one first. -/
def tdcOf (s : State) (n : Word64) : List TdcRec :=
  sortBy tdcBefore (s.ast.tdc.filter (fun r => r.cyc == some n && (astReg64 s Reg.AST_TRIG_TDC).getLsbD r.input))

/-! ### Conditions (R316, R317) -/

/-- The 1,024-bit MASK or VALUE of unit `k`. -/
def condWord (s : State) (k : Nat) (value : Bool) : BitVec 1024 :=
  BitVec.ofNat 1024 ((List.range 32).foldl (fun a w =>
    a + (astReg s (Reg.AST_COND_MASK + 0x100 * k + (if value then 0x80 else 0) + 4 * w)).toNat * 2 ^ (32 * w)) 0)

/-- Condition unit `k` is satisfied for P and Q. -/
def condUnit (s : State) (k : Nat) (p q : BitVec 1024) : Bool :=
  let m := condWord s k false
  let mode := bitsOf (astReg s (Reg.AST_COND_MODE + 4 * k)) 0 2
  if mode = 0 then ((p ^^^ condWord s k true) &&& m) == 0
  else if mode = 1 then ((p ^^^ q) &&& m) != 0
  else if mode = 2 then (p &&& ~~~q &&& m) != 0
  else (q &&& ~~~p &&& m) != 0

/-- Timer `j` counts committed cycles. -/
def tmrUnit (s : State) (j : Nat) : Bool := (astReg s (Reg.AST_TLIM_j_HI + 8 * j)).getLsbD 31

/-- Timer `j` in the evaluation of a cycle (R320). -/
def tmrValue (s : State) (j : Nat) (e : AstEntry) : Nat :=
  min (2 ^ 48 - 1) (if tmrUnit s j then (e.cyc - mget s.ast.tmrCyc 0 j).toNat else e.clk - mget s.ast.tmrClk 0 j)

/-- The limit of timer `j`. -/
def tmrLimit (s : State) (j : Nat) : Nat :=
  2 ^ 32 * bitsOf (astReg s (Reg.AST_TLIM_j_HI + 8 * j)) 0 16 + (astReg s (Reg.AST_TLIM_j_LO + 8 * j)).toNat

/-- Condition input `b` in the evaluation of `e`, with VIOL given. -/
def condInput (s : State) (e : AstEntry) (viol : Bool) (b : Nat) : Bool :=
  if b < 16 then condUnit s b e.probes s.ast.prevP
  else if b < 24 then (astReg s (Reg.AST_LIMIT + 4 * (b - 16))).toNat ≤ (s.reg (Reg.AST_SEQCNT + 4 * (b - 16))).toNat
  else if b < 28 then tmrLimit s (b - 24) ≤ tmrValue s (b - 24) e
  else if b = 28 then viol
  else if b = 29 then !(tdcOf s e.cyc).isEmpty
  else if b = 30 then s.bit Reg.AST_CTRL 5
  else true

/-! ### The sequencer (R318 to R320) -/

/-- SEL and CTL of branch A or B of a state. -/
def branchSel (s : State) (st : Nat) (b : Bool) : Word32 := astReg s (Reg.AST_SEQ_A + 16 * st + (if b then 8 else 0))
def branchCtl (s : State) (st : Nat) (b : Bool) : Word32 := astReg s (Reg.AST_SEQ_A + 16 * st + (if b then 12 else 4))

/-- A branch is taken (R318). -/
def branchTaken (sel ctl : Word32) (input : Nat → Bool) : Bool :=
  let picked := (List.range 32).filter (fun b => sel.getLsbD b)
  ctl.getLsbD 0 && xor (if ctl.getLsbD 1 then picked.all input else picked.any input) (ctl.getLsbD 2)

/-- The branch that the current state takes: its SEL and CTL. -/
def takenBranch (s : State) (input : Nat → Bool) : Option (Word32 × Word32) :=
  let st := s.ast.state.toNat
  if branchTaken (branchSel s st false) (branchCtl s st false) input then some (branchSel s st false, branchCtl s st false)
  else if branchTaken (branchSel s st true) (branchCtl s st true) input then some (branchSel s st true, branchCtl s st true)
  else none

/-- Adds a mark of an Aster action to Larkspur's record of the cycle. -/
def lksMark (n : Word64) (m : LksMark) (s : State) : State :=
  { s with lks := { s.lks with cycs := s.lks.cycs.map (fun c => if c.cyc = n then { c with marks := c.marks ++ [m] } else c) } }

/-- The trigger record (R325). -/
def trigRecord (e : AstEntry) (sel : Word32) (s : State) : State :=
  let edge := if sel.getLsbD 29 then (tdcOf s e.cyc).head? else none
  let (t, info) : Nat × Nat := match edge with
    | some r => (r.time + r.code * 1024 * 2 ^ 40, 1 + 2 * r.input)
    | none => (e.time, 0)
  let s := { s with ast := { s.ast with triggered := true } }
  let s := s.setReg64 Reg.AST_TRIG_CYC e.cyc
  let s := s.setReg Reg.AST_TRIG (BitVec.ofNat 32 (secOf t / 2 ^ 32))
  let s := s.setReg (Reg.AST_TRIG + 4) (BitVec.ofNat 32 (secOf t))
  let s := s.setReg (Reg.AST_TRIG + 8) (BitVec.ofNat 32 (nsOf t))
  let s := s.setReg (Reg.AST_TRIG + 12) (BitVec.ofNat 32 (fracOf t))
  lksMark e.cyc (.first t (BitVec.ofNat 8 info)) (s.setReg Reg.AST_TRIG_INFO (BitVec.ofNat 32 info))

/-- A TRIG action. -/
def trigAction (e : AstEntry) (sel : Word32) (s : State) : State :=
  let s := if s.ast.triggered then lksMark e.cyc .later s else trigRecord e sel s
  raise 0x3E0 (astStat 1 1 s)

/-- SCH_CTRL.PAUSE sets. -/
def setPause (s : State) : State := s.setBit Reg.SCH_CTRL 0 true

/-- An Aster stop at cycle `n` (R327). -/
def astStop (n : Word64) (s : State) : State :=
  if s.ast.stopped = some n then s else raise 0x3E3 (setPause { s with ast := { s.ast with stopped := some n } })

/-- Actions of a taken branch, in the order of R319. -/
def branchActions (e : AstEntry) (sel ctl : Word32) (s : State) : State :=
  let s := forEach (List.range 8) (fun k s =>
    if ctl.getLsbD (20 + k) then s.setReg (Reg.AST_SEQCNT + 4 * k) 0 else s) s
  let s := forEach (List.range 8) (fun k s =>
    let c := (s.reg (Reg.AST_SEQCNT + 4 * k)).toNat
    if ctl.getLsbD (12 + k) then s.setReg (Reg.AST_SEQCNT + 4 * k) (BitVec.ofNat 32 (min 0xFFFFFFFF (c + 1))) else s) s
  let s := forEach (List.range 4) (fun j s =>
    if ctl.getLsbD (28 + j) then { s with ast := { s.ast with
      tmrClk := mset s.ast.tmrClk 0 j e.clk, tmrCyc := mset s.ast.tmrCyc 0 j e.cyc } } else s) s
  let s := if ctl.getLsbD 7 then trigAction e sel s else s
  let s := if ctl.getLsbD 8 then raise 0x3E1 s else s
  let s := if ctl.getLsbD 9 then (if astGate s then astStop e.cyc s else setPause s) else s
  let s := if ctl.getLsbD 10 then lksMark e.cyc .start s else s
  let s := if ctl.getLsbD 11 then lksMark e.cyc .stop s else s
  { s with ast := { s.ast with state := BitVec.ofNat 4 (bitsOf ctl 3 4) } }

/-! ### One evaluation (R315, R330, R332, R333) -/

/-- The lowest failing probe of a violation; of a record that could not be read it is a free value (log 89). -/
def violProbe (probe : Option Nat) (s : State) : Nat × State :=
  match probe with
  | some p => (p, s)
  | none => ((Config.free64 s.freeCtr).toNat % 1024, s.tick1)

/-- What the mask test makes of a violating cycle (R330, R331). -/
def mtViolation (e : AstEntry) (probe : Option Nat) (s : State) : State :=
  let s := astStat 2 1 (countUp Reg.AST_MT_VCNT s)
  let s := if s.bit Reg.AST_MT_STATUS 1 then s
    else
      let r := violProbe probe s
      raise 0x3E2 (((r.2.setReg64 Reg.AST_MT_VCYC e.cyc).setReg Reg.AST_MT_VBIT (BitVec.ofNat 32 r.1)).setBit Reg.AST_MT_STATUS 1 true)
  if mtStop s then astStop e.cyc s else s

/-- The test ends with its last record. -/
def mtEnd (i : Nat) (s : State) : State :=
  if i + 1 = mtCount s then raise 0x3E4 ((s.setBit Reg.AST_MT_STATUS 0 false).setBit Reg.AST_MT_STATUS 2 true) else s

/-- Whether the test finds a violation, with the lowest failing probe; a record read with an uncorrected error counts as
violating, and names no probe (R330, R331). -/
def mtResult (s : State) (e : AstEntry) (g : Option GoldenRec) : Option (Option Nat) :=
  match g with
  | none => none
  | some g => if g.bad then some none else (failingProbes s g e.probes).head?.map some

/-- The interval that ends with a cycle is reported (R333). -/
def avgReport (n : Word64) (k : Nat) (s : State) : State :=
  let res := (List.range 256).map (fun g => mget s.ast.sums 0 g * 256 / 2 ^ k)
  let seq := s.fld Reg.AST_AVG_STATUS 0 16
  let s' := forEach (List.range 256) (fun g s => s.setReg (Reg.AST_AVG_RES + 4 * g) (BitVec.ofNat 32 (res.getD g 0))) s
  let s' := s'.setReg64 Reg.AST_AVG_CYC (BitVec.ofNat 64 (n.toNat / 2 ^ k * 2 ^ k))
  let s' := s'.setReg Reg.AST_AVG_STATUS (BitVec.ofNat 32 ((seq + 1) % 65536 + 65536 + 131072 * b2n s.ast.avgFirst))
  let part := s.ast.avgFirst
  let s' := { s' with ast := { s'.ast with sums := [], avgFirst := false } }
  let s' := { s' with lks := { s'.lks with cycs := s'.lks.cycs.map (fun c => if c.cyc = n then { c with avg := some (part, res) } else c) } }
  raise 0x3E5 s'

/-- Toggles of a cycle are added, and an interval may end (R332, R333). -/
def avgStep (e : AstEntry) (s : State) : State :=
  let c := astReg s Reg.AST_AVG_CTRL
  if c.getLsbD 0 then
    let k := bitsOf c 1 5
    let s := forEach (s.probes.filter (fun p => p.act)) (fun p s =>
      if xor (e.acts.getLsbD p.index) (s.ast.prevA.getLsbD p.index) then
        { s with ast := { s.ast with sums := mset s.ast.sums 0 p.group (mget s.ast.sums 0 p.group + 1) } }
      else s) s
    if (e.cyc.toNat + 1) % 2 ^ k = 0 then avgReport e.cyc k s else s
  else s

/-- AST_TMR_j read their values as of the evaluation just made. -/
def showTimers (e : AstEntry) (s : State) : State :=
  forEach (List.range 4) (fun j s => s.setReg64 (Reg.AST_TMR + 8 * j) (BitVec.ofNat 64 (tmrValue s j e))) s

/-- Evaluates a committed cycle (R315). -/
def astEvalEntry (e : AstEntry) (s : State) : State :=
  let idx := mtIndex s e.cyc
  let g := match idx with
    | some i => s.ast.golden.find? (fun g => g.index == i)
    | none => none
  let bad := mtResult s e g
  let br := takenBranch s (condInput s e bad.isSome)
  let s := match br with
    | some (sel, ctl) => branchActions e sel ctl s
    | none => s
  let s := match bad with
    | some p => mtViolation e p s
    | none => s
  let s := match idx with
    | some i => mtEnd i s
    | none => s
  let s := showTimers e (avgStep e s)
  let s := { s with
    ast := { s.ast with
      prevP := e.probes, prevA := e.acts, lastEval := e.cyc, queue := s.ast.queue.drop 1
      tdc := s.ast.tdc.filter (fun r => r.cyc != some e.cyc)
      golden := match idx with
        | some i => s.ast.golden.filter (fun g => i < g.index)
        | none => s.ast.golden }
    lks := { s.lks with cycs := s.lks.cycs.map (fun c => if c.cyc = e.cyc then { c with evaluated := true } else c) } }
  astStat 0 1 s

/-- The oldest committed cycle can be evaluated: its golden record, if it has one, is buffered (R314). -/
def astReady (s : State) : Bool :=
  match s.ast.queue with
  | [] => false
  | e :: _ => s.ast.armed && (match mtIndex s e.cyc with
    | some i => s.ast.golden.any (fun g => g.index == i)
    | none => true)

/-- Evaluates the oldest committed cycle that waits. -/
def astEval (s : State) : State :=
  match s.ast.queue with
  | [] => s
  | e :: _ => if astReady s then astEvalEntry e s else s

/-- Evaluates waiting cycles, reading their golden records, until none is left (R334). -/
def astDrain (fuel : Nat) (s : State) : State :=
  match fuel with
  | 0 => s
  | n + 1 => if s.ast.queue.isEmpty then s
    else if astReady s then astDrain n (astEval s) else astDrain n (goldenRead s)

/-- Cycle `n` commits with these probe values: it joins the queue while Aster is armed (R314). A cycle that Aster does not evaluate
takes its edges with it. -/
def astCommit (n : Word64) (p : BitVec 1024) (a : BitVec 4096) (s : State) : State :=
  if s.ast.armed then
    { s with ast := { s.ast with queue := s.ast.queue ++ [{ cyc := n, clk := stepNo s, time := s.tim.count, probes := p, acts := a }] } }
  else { s with ast := { s.ast with tdc := s.ast.tdc.filter (fun r => r.cyc != some n) } }

/-! ### Staging, applying, disarming (R321 to R323, R328, R334) -/

/-- The golden area of the shadow. -/
def shadowGolden (s : State) : Nat × Nat × Nat :=
  let a := 2 ^ 32 * s.fld Reg.AST_MT_ADDR_HI 0 3 + (s.reg Reg.AST_MT_ADDR_LO).toNat
  (s.fld Reg.AST_MT_ADDR_HI 16 1, a, a + 16 * (s.fld Reg.AST_MT_CTRL 8 4 + 1) * (s.reg Reg.AST_MT_COUNT).toNat)

/-- The checks of R321 that end with RESOURCE; those of a mask test and of averaging apply where they are enabled. -/
def shadowBad (s : State) : Bool :=
  let area := shadowGolden s
  s.regs.any (fun p => astShadowed p.1 && (match rowAt p.1 with | some r => (p.2 &&& r.keep) != 0 | none => false)) ||
    (s.bit Reg.AST_AVG_CTRL 0 && (s.fld Reg.AST_AVG_CTRL 1 5 < 4 || 20 < s.fld Reg.AST_AVG_CTRL 1 5)) ||
    16 < s.fld Reg.AST_MT_CTRL 4 4 + s.fld Reg.AST_MT_CTRL 8 4 + 1 ||
    (s.bit Reg.AST_MT_CTRL 0 &&
      (s.reg Reg.AST_MT_COUNT == 0 || area.2.1 % 4096 != 0 || s.stacks ≤ area.1 || stackBytes < area.2.2 ||
        (declAreas s).any (overlaps area) || (ringBytes s != 0 && overlaps area (ringArea s))))

/-- A write of AST_SHADOW (R321): DROPPED clears, and STAGE checks and stages the shadow. `owns` says whether the writer still
owns when the check is made (R375). -/
def astShadowWrite (owns : Bool) (val : Word32) (s : State) : State :=
  let s := storeReg Reg.AST_SHADOW val s
  if val.getLsbD 0 then
    let st := if !owns then 3 else if s.sch.applyT.isSome then 9 else if shadowBad s then 12 else 0
    let s := (s.setFld Reg.AST_SHADOW 8 8 st).setBit Reg.AST_SHADOW 16 true
    if st = 0 then { s with ast := { s.ast with staged := true } } else s
  else s

def execAsterStage (wr : OpWrite) (val : Word32) (s : State) : Host.Outcome State Fault Refusal :=
  run (fun s => if val.getLsbD 0 then regAccess wr.path Reg.AST_SHADOW val (astShadowWrite wr.owns) s else s) s

/-- A write to a shadowed register (R321). -/
def astShadowedWrite (off : Nat) (val : Word32) (s : State) : State :=
  if s.ast.staged then s.setBit Reg.AST_SHADOW 2 true else storeReg off val s

/-- The applied program as the shadow would make it. -/
def shadowProgram (s : State) : SMap Word32 :=
  (s.regs.filter (fun p => astShadowed p.1)).map (fun p => (p.1, if p.1 = Reg.AST_CTRL then p.2 &&& 5 else p.2))
    |>.filter (fun p => p.2 ≠ 0)

/-- The staged content changes a word of AST_COND_MASK or AST_COND_VALUE: the apply is frozen (R322). -/
def astFrozen (s : State) : Bool :=
  let conds (m : SMap Word32) : SMap Word32 := m.filter (fun p => Reg.AST_COND_MASK ≤ p.1)
  s.ast.staged && conds (shadowProgram s) ≠ conds s.ast.applied

/-- The counters of the sequencer and the trigger record clear, and the sequencer enters state 0. -/
def astClearRun (s : State) : State :=
  let s := forEach (List.range 8) (fun k s => s.setReg (Reg.AST_SEQCNT + 4 * k) 0) s
  let s := forEach (List.range 4) (fun k s => s.setReg (Reg.AST_TRIG + 4 * k) 0) (s.setReg64 Reg.AST_TRIG_CYC 0)
  let s := s.setReg Reg.AST_TRIG_INFO 0
  let s := forEach (List.range 4) (fun j s => s.setReg64 (Reg.AST_TMR + 8 * j) 0) s
  { s with ast := { s.ast with
      state := 0, triggered := false, prevP := trigProbes s s.sch.comCopy, prevA := actProbes s s.sch.comCopy
      lastEval := s.sch.committed, sums := [], avgFirst := true
      tmrClk := msetAll [] 0 ((List.range 4).map (fun j => (j, s.sch.commitClk)))
      tmrCyc := msetAll [] 0 ((List.range 4).map (fun j => (j, s.sch.committed))) } }

/-- Aster is disarmed: the queue is discarded unevaluated, with the TDC edges of its cycles (R323). -/
def astDisarm (s : State) : State :=
  let s := s.setBit Reg.AST_MT_STATUS 0 false
  { s with ast := { s.ast with armed := false, queue := [], golden := []
                               tdc := s.ast.tdc.filter (fun r => !(s.ast.queue.any (fun e => r.cyc == some e.cyc))) }
           lks := { s.lks with cycs := s.lks.cycs.map (fun c => { c with evaluated := true }) } }

/-- The record that is read next when cycle `t` is the next to commit: its own, the first one of a stream that is still to come,
or none of one that has gone by (R329, R334). -/
def goldenFrom (s : State) (t : Word64) : Nat :=
  let past := (t - mtStart s).toNat
  if past < mtCount s then past else if past < 2 ^ 63 then mtCount s else 0

/-- The staged Aster content is applied before cycle `t` (R322). Edges that wait keep their assignment (R324). -/
def astApply (t : Word64) (s : State) : State :=
  if !s.ast.staged then s
  else
    let s := { s with ast := { s.ast with applied := shadowProgram s, staged := false } }
    if (astReg s Reg.AST_CTRL).getLsbD 0 then
      let s := astClearRun (astDisarm s)
      let en := (astReg s Reg.AST_MT_CTRL).getLsbD 0
      let s := (s.setReg Reg.AST_MT_STATUS (BitVec.ofNat 32 (b2n en + 8 * b2n (s.bit Reg.AST_MT_STATUS 3)))).setReg Reg.AST_MT_VCNT 0
      { s with ast := { s.ast with armed := true, goldenNext := goldenFrom s t } }
    else astDisarm s

/-- A write of AST_CTRL but for RELEASE: FLAG at once, ARM and EXACT as shadowed fields, and DISARM. -/
def astCtrlWrite (val : Word32) (s : State) : State :=
  let s := s.setBit Reg.AST_CTRL 5 (val.getLsbD 5)
  let s := if s.ast.staged ∧ ((val ^^^ s.reg Reg.AST_CTRL) &&& 5) ≠ 0 then s.setBit Reg.AST_SHADOW 2 true
           else if s.ast.staged then s
           else (s.setBit Reg.AST_CTRL 0 (val.getLsbD 0)).setBit Reg.AST_CTRL 2 (val.getLsbD 2)
  let s := if val.getLsbD 3 then astDisarm s else s
  if val.getLsbD 4 then { s with ast := { s.ast with stopped := none } } else s

/-- A rewind clears what belongs to the run and keeps the applied program (R334). -/
def astRewind (s : State) : State :=
  let s := astClearRun s
  { s with ast := { s.ast with stopped := none, tdc := [], queue := [], golden := [],
                               goldenNext := goldenFrom s (s.sch.committed + 1) } }

/-- Registers of Aster that an install clears: the shadows and the statistics. -/
def astInstallClears (off : Nat) : Bool :=
  astShadowed off || (Reg.AST_STAT ≤ off && off ≤ Reg.AST_STAT_SAT)

/-- An install disarms Aster and clears the applied program, every shadow, the statistics and STOPPED (R328, R334). What is
staged was a shadow, and goes with it (log 150). -/
def astInstall (s : State) : State :=
  let flag := s.bit Reg.AST_CTRL 5
  let s := (keepRegs (fun o => !astInstallClears o) (astDisarm s)).setBit Reg.AST_CTRL 5 flag
  { s with ast := { s.ast with applied := [], staged := false, stopped := none, tdc := [] } }

/-- AST_STATUS as it reads. -/
def astStatusWord (s : State) : Word32 :=
  BitVec.ofNat 32 (256 * s.ast.state.toNat + 2 ^ 12 * b2n s.ast.armed + 2 ^ 13 * b2n s.ast.triggered +
    2 ^ 14 * b2n s.ast.stopped.isSome + 2 ^ 15 * b2n (astGate s) + 2 ^ 16 * min 8 s.ast.queue.length)

end Sys2Proof.Machine
end

