-- ==== Sys2Proof/Machine/Hatband.lean ====
section
/-!
DEFINITION. Machine/Hatband.lean: stops and routes, the VC0 flits of the slot tables clock by clock, deliveries
into inbound slots and lane hubs, and VC0 faults (spec/07_hatband.md, R216 to R234).
-/
namespace Sys2Proof.Machine

/-! ### Stops, NIs and table entries -/

/-- Ring position of each stop, stop 0 first (R216). -/
def ringPositions : List Nat :=
  [0, 1, 2, 3, 6, 7, 8, 9, 12, 13, 14, 15, 18, 19, 20, 21, 4, 16, 5, 11, 17, 23, 10, 22]

/-- Ring position of the stop of an NI. -/
def ringPosOf (ni : Nat) : Nat := ringPositions.getD (ni / 16) 0

/-- The distance from one ring position to another, clockwise (`dir` false) or counter-clockwise. -/
def ringDist (a b : Nat) (dir : Bool) : Nat := if dir then (a + 24 - b) % 24 else (b + 24 - a) % 24

/-- The NI exists on the grade (R216, R217). -/
def niExists (half : Bool) (ni : Nat) : Bool :=
  if ni < 256 then !half || ni < 128
  else
    let stop := ni / 16
    let port := ni % 16
    if stop = 16 ∨ stop = 22 ∨ stop = 23 then port = 0
    else if stop = 17 then !half && port == 0
    else if stop = 18 ∨ stop = 19 then port < 4
    else if stop = 20 ∨ stop = 21 then !half && port < 4
    else false

/-- The NI is a port of a lane hub. -/
def isHubNi (ni : Nat) : Bool := 288 ≤ ni && ni < 352 && ni % 16 < 4

/-- The lane port that a hub NI serves (R239). -/
def hubPort (ni : Nat) : Nat := 4 * (ni / 16 - 18) + ni % 16

/-- The hub NI of a lane port. -/
def portNi (p : Nat) : Nat := 16 * (18 + p / 4) + p % 4

/-- Bits `[lo + w - 1 : lo]` of a table entry. -/
def ebits (x : Word64) (lo w : Nat) : Nat := (x.toNat >>> lo) % 2 ^ w

/-- A ROUTE entry (R227). -/
structure Route where
  src : Nat
  index : Nat
  dst : Nat
  dir : Bool
  ring : Bool
  hops : Nat
  deriving DecidableEq, Repr

/-- Reads a ROUTE entry. -/
def routeOf (x : Word64) : Route :=
  { src := ebits x 0 9, index := ebits x 16 8, dst := ebits x 24 9, dir := ebits x 33 1 == 1,
    ring := ebits x 34 1 == 1, hops := ebits x 35 4 }

/-- A SLOT_HBD entry (R228). -/
structure SlotHbd where
  src : Nat
  pos : Nat
  sendBase : Nat
  lenM1 : Nat
  route : Nat
  inBase : Nat
  deriving DecidableEq, Repr

/-- Reads a SLOT_HBD entry. -/
def slotHbdOf (x : Word64) : SlotHbd :=
  { src := ebits x 0 9, pos := ebits x 12 12, sendBase := ebits x 24 12, lenM1 := ebits x 36 7,
    route := ebits x 44 8, inBase := ebits x 52 12 }

/-- A SLOT_LANE entry (R248). -/
structure SlotLane where
  port : Nat
  rx : Bool
  slot : Nat
  lenM1 : Nat
  txpos : Nat
  dpos : Nat
  deriving DecidableEq, Repr

/-- Reads a SLOT_LANE entry. -/
def slotLaneOf (x : Word64) : SlotLane :=
  { port := ebits x 0 4, rx := ebits x 4 1 == 1, slot := ebits x 8 12, lenM1 := ebits x 20 8,
    txpos := ebits x 32 12, dpos := ebits x 48 12 }

/-- The installed SLOT_HBD, SLOT_LANE and ROUTE entries. -/
def State.hbdEntries (s : State) : List SlotHbd := s.img.slotHbd.map slotHbdOf
def State.laneEntries (s : State) : List SlotLane := s.img.slotLane.map slotLaneOf
def State.routes (s : State) : List Route := s.img.route.map routeOf

/-- The image route that a SLOT_HBD entry uses. -/
def findRoute (rs : List Route) (e : SlotHbd) : Option Route :=
  rs.find? (fun r => r.src == e.src && r.index == e.route)

/-- The fixed route from one NI to another (R226): the direction of the smaller distance, clockwise at 12, and the ring of the
source's ring position modulo 2. -/
def fixedRoute (src index dst : Nat) : Route :=
  let a := ringPosOf src
  let b := ringPosOf dst
  let ccw := decide (ringDist a b true < ringDist a b false)
  { src := src, index := index, dst := dst, dir := ccw, ring := a % 2 == 1, hops := ringDist a b ccw }

/-- The route table of an NI: entries 0 to 247 from the image, and 248 + k leading to port 0 of service stop 16 + k, where the grade
has it. -/
def routeTable (s : State) (src index : Nat) : Option Route :=
  let service := 16 * (16 + (index - 248))
  if index < 248 then s.routes.find? (fun r => r.src == src && r.index == index)
  else if index < 256 ∧ niExists s.ident.half service then some (fixedRoute src index service)
  else none

/-- A service NI has fixed routes to every NI of the grade. -/
def serviceRoute (s : State) (src dst : Nat) : Option Route :=
  if 256 ≤ src ∧ niExists s.ident.half src ∧ niExists s.ident.half dst then some (fixedRoute src 0 dst) else none

/-- The arrival delay of a VC0 flit in clocks (R224). -/
def vc0Delay (hops : Nat) : Nat := if hops = 0 then 3 else 4 + hops

/-! ### Cuts -/

/-- The executing execution is cut, or, when it is already in its boundary, marked aborted (R135); what a hub still holds of it
for a peer is dropped (R250). -/
def cutExec (s : State) : State :=
  match s.sch.exec with
  | none => s
  | some e =>
    let cut := match e.cutAt with
      | some c => some c
      | none => if s.sch.phase = .issue then some s.clock else none
    { s with
      sch := { s.sch with exec := some { e with aborted := true, cutAt := cut } }
      lnk := { s.lnk with tx := s.lnk.tx.filter (fun t => t.cyc != e.num) } }

/-- The kinds of VC0 fault (R231): their bit of HBD_CAUSE; HBD_ERR_LOC.KIND is one more. -/
inductive FlitFault | vc0Par | owner | sideband | mapPar
  deriving DecidableEq, Repr

/-- The HBD_CAUSE bit of a fault. -/
def FlitFault.bit : FlitFault → Nat
  | .vc0Par => 0
  | .owner => 1
  | .sideband => 2
  | .mapPar => 3

/-- A VC0 fault in a flit of execution `serial` (R231): the cause and its capture, the event and the count, and the execution
cut as one that aborts for parity. A flit whose execution has ended cuts no other. -/
def vc0Fault (k : FlitFault) (loc : HbdLoc) (pos : Nat) (serial : Nat) (cyc : Word64) (s : State) : State :=
  let s := hbdCnt 1 1 (raise 0x200 (hbdCause k.bit (k.bit + 1) loc pos cyc s))
  if s.sch.exec.any (fun e => e.serial == serial) then
    let s := cutExec s
    { s with sch := { s.sch with exec := s.sch.exec.map (fun e => { e with vc0 := true }) } }
  else s

/-! ### Deliveries -/

/-- The cycle that the clusters execute, or for which their window has been opened. -/
def State.curCycle (s : State) : Option Word64 :=
  match s.sch.exec with
  | some e => some e.num
  | none => s.sch.opened

/-- One value reaches inbound slot `i` of cluster `c` in this clock: it is written, with the word's parity
failure kept (R66), and becomes VALID at the end of the clock (R61); a value for a slot that is VALID or has
already been reached is discarded (R234). -/
def deliverBit (c i : Nat) (v : Bool) (src : Nat) (s : State) : State :=
  let k := 4096 * c + i
  if mget s.clu.inValid false k || s.clu.inArriving.contains k then
    hbdCnt 3 1 (raise 0x203 (hbdCause 5 6
      { ringPos := BitVec.ofNat 5 (ringPosOf c), ring := 0, ni := BitVec.ofNat 9 src } 0
      (s.curCycle.getD s.sch.committed) s))
  else
    { s with clu := { s.clu with
        inVal := mset s.clu.inVal false k v, inArriving := s.clu.inArriving ++ [k] } }

/-- An arrival from `src` for a wrong cycle, or after B7 of its cycle, is discarded and counted (R233). -/
def lateDrop (c src : Nat) (cyc : Word64) (s : State) : State :=
  hbdCnt 2 1 (raise 0x202 (hbdCause 4 5
    { ringPos := BitVec.ofNat 5 (ringPosOf c), ring := 0, ni := BitVec.ofNat 9 src } 0 (s.curCycle.getD cyc) s))

/-- Values for consecutive inbound slots of a cluster, of a flit or late delivery of cycle `cyc` (R220, R233); `live` says that
the execution it belongs to is the one that the cluster runs or is about to run. -/
def deliverValues (c inBase lenM1 : Nat) (values : BitVec 128) (cyc : Word64) (src : Nat) (live : Bool) (s : State) : State :=
  let mine : Bool := match s.curCycle with
    | some n => live && n.toNat % 32 == cyc.toNat % 32
    | none => false
  if mine then
    forEach (List.range (lenM1 + 1)) (fun j s => deliverBit c ((inBase + j) % 4096) (values.getLsbD j) src s) s
  else lateDrop c src cyc s

/-- Values for consecutive lane slots of a hub port: the hub holds them for transmission (R250). -/
def hubTake (port slot lenM1 pos : Nat) (values : BitVec 128) (cyc : Word64) (s : State) : State :=
  { s with lnk := { s.lnk with tx := s.lnk.tx ++ (List.range (lenM1 + 1)).map (fun j =>
      { port := port, slot := slot + j, pos := pos, cyc := cyc, val := values.getLsbD j }) } }

/-- The execution that injected the flit is between step 0 and B7 (R119, R233). -/
def flitRuns (s : State) (f : Flit) : Bool := s.sch.exec.any (fun e => e.serial == f.exec)

/-- The execution that injected the flit has been neither cut nor discarded, and its cycle has not committed: a hub still
transmits its values (R118, R250). -/
def flitLives (s : State) (f : Flit) : Bool :=
  s.sch.exec.any (fun e => e.serial == f.exec && !e.aborted) || s.sch.cycles.any (fun c => c.serial == f.exec)

/-- A flit reaches its destination (R224). -/
def flitArrives (f : Flit) (s : State) : State :=
  let live := flitLives s f
  let s := { s with hbd := { s.hbd with flits := s.hbd.flits.erase f } }
  if isHubNi f.dst then (if live then hubTake (hubPort f.dst) f.inBase f.lenM1 f.pos f.values f.cyc s else s)
  else deliverValues f.dst f.inBase f.lenM1 f.values f.cyc f.src (flitRuns s f) s

/-! ### Injection -/

/-- The transmit position at the peer of the lane value that a hub's SLOT_HBD entry at position `d` reads from
`slot` (R248, R249). -/
def rxTxpos (les : List SlotLane) (port slot d : Nat) : Option Nat :=
  (les.find? (fun l => l.rx && l.port == port && l.dpos == d && l.slot ≤ slot && slot ≤ l.slot + l.lenM1)).map
    (fun l => l.txpos)

/-- The record of a lane value (R251). -/
def findRec (recs : List HubRec) (port : Nat) (cyc : Word64) (txpos slot : Nat) : Option HubRec :=
  recs.find? (fun r => r.port == port && r.cyc == cyc && r.txpos == txpos && r.slot == slot)

/-- The records of the values of a hub's SLOT_HBD entry in cycle `cyc`, value 0 first; none where a value is
not held. -/
def entryRecs (s : State) (e : SlotHbd) (cyc : Word64) : List (Option HubRec) :=
  let p := hubPort e.src
  (List.range (e.lenM1 + 1)).map (fun j =>
    match rxTxpos s.laneEntries p (e.sendBase + j) e.pos with
    | some t => findRec s.lnk.recs p cyc t (e.sendBase + j)
    | none => none)

/-- The hub holds value `k` of the entry recorded for cycle `n`, and not stale-pending. -/
def heldValue (s : State) (e : SlotHbd) (n : Word64) (k : Nat) : Bool := (((entryRecs s e n)[k]?).getD none).any (fun r => !r.stale)

/-- Marks records as delivered, in the present execution too. -/
def markDelivered (l : List HubRec) (s : State) : State :=
  { s with lnk := { s.lnk with recs := s.lnk.recs.map (fun r =>
      if l.contains r then { r with delivered := true, delivNow := true } else r) } }

/-- A list of values as bits, value 0 in bit 0. -/
def packBits (l : List Bool) : BitVec 128 :=
  BitVec.ofNat 128 ((List.range l.length).foldl (fun a j => a + b2n (l.getD j false) * 2 ^ j) 0)

/-- A value of the entry is to be delivered again as a late delivery (R127, R232). -/
def redelivers (s : State) (e : SlotHbd) : Bool := s.lnk.redeliv.any (fun r => s.hbdEntries[r.1]? == some e)

/-- Injects the flit of one SLOT_HBD entry at its position (R224, R230, R232): a cluster sends what its send
slots hold; a lane hub sends when it holds every value of the entry and has not delivered it late. -/
def injectEntry (x : Exec) (e : SlotHbd) (s : State) : State :=
  match findRoute s.routes e with
  | none => s
  | some r =>
    let send (vals : BitVec 128) (s : State) : State :=
      let f : Flit := { src := e.src, dst := r.dst, dir := r.dir, ring := r.ring, hops := r.hops, pos := e.pos,
                        inBase := e.inBase, lenM1 := e.lenM1, values := vals, cyc := x.num, exec := x.serial,
                        injected := s.clock }
      let s := hbdCnt 0 1 { s with hbd := { s.hbd with flits := s.hbd.flits ++ [f] } }
      if r.hops = 0 then hbdCnt 7 1 s else s
    if e.src < 256 then
      send (packBits ((List.range (e.lenM1 + 1)).map (fun j =>
        (mget s.clu.sendSlot none (4096 * e.src + e.sendBase + j)).getD false))) s
    else
      let rs := entryRecs s e x.num
      if rs.all (fun r => match r with | some y => !y.stale && !y.delivNow | none => false) && !redelivers s e then
        let xs := rs.filterMap id
        send (packBits (xs.map (fun x => x.val))) (markDelivered xs s)
      else s

/-- All injections of position `pos` of the executing cycle; a cut execution injects nothing more (R225). -/
def injectAt (pos : Nat) (s : State) : State :=
  match s.sch.exec with
  | none => s
  | some e =>
    if e.cutAt.isSome then s
    else forEach (s.hbdEntries.filter (fun h => h.pos == pos)) (injectEntry e) s

/-- The flit crosses, in clock `k`, the ring segment that HBD_LINK_SEL observes. -/
def crosses (s : State) (k : Nat) (f : Flit) : Bool :=
  let hop := k - f.injected
  let ringNo := 2 * b2n f.dir + b2n f.ring
  let start := ringPosOf f.src
  let leaves := if f.dir then (start + 24 - (hop - 1) % 24) % 24 else (start + (hop - 1)) % 24
  1 ≤ hop && hop ≤ f.hops && s.fld Reg.HBD_LINK_SEL 8 2 == ringNo && s.fld Reg.HBD_LINK_SEL 0 5 == leaves

/-- The key of a link. -/
def linkKey : HbdLink → Nat
  | .egress ni => ni
  | .ingress ni => 512 + ni
  | .segment ring leaves => 1024 + 32 * ring.toNat + leaves.toNat

/-- The key of the ring segment that HBD_LINK_SEL observes. -/
def observedKey (s : State) : Nat := 1024 + 32 * s.fld Reg.HBD_LINK_SEL 8 2 + s.fld Reg.HBD_LINK_SEL 0 5

/-- HBD_LINK_FLITS_v of VC1 to VC3: the flits of late deliveries, and those of the other packets since HBD_LINK_SEL was written
(log 115); it stops at its maximum. -/
def vcFlits (s : State) (v : Nat) : Word32 :=
  let other := ((List.range (s.clock - s.hbd.linkFrom)).filter (fun i =>
    Config.vcTraffic (observedKey s) (s.hbd.linkFrom + i) == v)).length
  BitVec.ofNat 32 (min 0xFFFFFFFF ((s.reg (Reg.HBD_LINK_FLITS + 4 * v)).toNat + other))

/-- The promotions of the packets that are not held since HBD_CNT_6 was brought up to date (R223; log 115). -/
def agedOther (s : State) : Nat :=
  if s.fld Reg.HBD_AGE 0 16 = 0 then 0
  else ((List.range (s.clock - s.hbd.agedFrom)).filter (fun i => Config.vcAged (s.hbd.agedFrom + i))).length

/-- HBD_CNT_6 as it reads. -/
def agedCount (s : State) : Word32 := BitVec.ofNat 32 (min 0xFFFFFFFF ((s.reg (Reg.HBD_CNT + 24)).toNat + agedOther s))

/-- HBD_CNT_6 is brought up to date, as at a write of HBD_AGE. -/
def agedFold (s : State) : State :=
  let t := if agedOther s = 0 then s else hbdCnt 6 (agedOther s) s
  { t with hbd := { t.hbd with agedFrom := s.clock } }

/-- HBD_LINK_FLITS_v counts `n` and stops at its maximum. -/
def linkFlits (v n : Nat) (s : State) : State :=
  let o := Reg.HBD_LINK_FLITS + 4 * v
  s.setReg o (BitVec.ofNat 32 (min 0xFFFFFFFF ((s.reg o).toNat + n)))

/-! ### The flit on a link, and the checks there (R218 to R220, R224, R231) -/

/-- The bit that gives odd parity with the bits of `x`. -/
def oddBit (x : Nat) : Bool := ((List.range 64).filter (fun k => x.testBit k)).length % 2 == 0

/-- Word 0 of a VC0 flit with `left` hops still to take (R219). -/
def flitWord0 (f : Flit) (left : Nat) : Word64 :=
  BitVec.ofNat 64 (2 ^ 55 * f.src + 2 ^ 46 * f.dst + 2 ^ 45 * b2n f.dir + 2 ^ 44 * b2n f.ring + 2 ^ 40 * f.hops + 2 ^ 36 * left +
    2 ^ 24 * f.pos + 2 ^ 12 * f.inBase + 2 ^ 5 * f.lenM1 + f.cyc.toNat % 32)

/-- Word 0 of the head of a packet of VC1 to VC3: PRI, BODY, which is 0, and OPC stand where a VC0 flit has POS (R219). -/
def vcWord0 (v : VcFlit) (left : Nat) : Word64 :=
  flitWord0 { v.flit with pos := 0 } left ||| BitVec.ofNat 64 (v.pri * 2 ^ 34 + v.opc * 2 ^ 24)

/-- The four words of a flit with the values `f.values`, word 0 lowest (R218, R220). -/
def flitWords (word0 : Word64) (f : Flit) : BitVec 256 := BitVec.ofNat 256 (word0.toNat + 2 ^ 64 * f.values.toNat)

/-- DP of the four words (R218). -/
def flitParity (w : BitVec 256) : BitVec 4 :=
  BitVec.ofNat 4 ((List.range 4).foldl (fun a k => a + 2 ^ k * b2n (oddBit (w.toNat / 2 ^ (64 * k) % 2 ^ 64))) 0)

/-- Links of the path of a flit: egress, the ring segments, ingress (R224). -/
def flitLinks (f : Flit) : Nat := f.hops + 2

/-- Clocks from the injection to the use of link `k` (R224); the planned position of the stage is as many after the injection
position. -/
def linkDelay (f : Flit) (k : Nat) : Nat := if f.hops = 0 ∨ k ≤ f.hops then k else f.hops + 2

/-- LEFT as the flit bears it on link `k`. -/
def leftOn (f : Flit) (k : Nat) : Nat := f.hops - k

/-- The ring position that the flit has reached at the end of link `k`. -/
def ringAt (f : Flit) (k : Nat) : Nat :=
  let a := ringPosOf f.src
  let n := min k f.hops % 24
  if f.dir then (a + 24 - n) % 24 else (a + n) % 24

/-- Where a fault on link `k` is found: the receiving stop, the ring of a segment, and SRC_NI (HBD_ERR_LOC). -/
def linkLoc (f : Flit) (k src : Nat) : HbdLoc :=
  let seg : Bool := 1 ≤ k && k ≤ f.hops
  { ringPos := BitVec.ofNat 5 (ringAt f k), ring := if seg then BitVec.ofNat 2 (2 * b2n f.dir + b2n f.ring) else 0,
    ni := BitVec.ofNat 9 src }

/-- Link `k` of a path with injecting NI `src`. -/
def pathLink (f : Flit) (k : Nat) : HbdLink :=
  if k = 0 then .egress f.src
  else if k ≤ f.hops then .segment (BitVec.ofNat 2 (2 * b2n f.dir + b2n f.ring)) (BitVec.ofNat 5 (ringAt f (k - 1)))
  else .ingress f.dst

/-- The flit that an entry of the tables stands for. -/
def entryFlit (e : SlotHbd) (r : Route) : Flit :=
  { src := e.src, dst := r.dst, dir := r.dir, ring := r.ring, hops := r.hops, pos := e.pos, inBase := e.inBase, lenM1 := e.lenM1,
    values := 0, cyc := 0, injected := 0 }

/-- The flits of the installed tables. -/
def tableFlits (s : State) : List Flit := s.hbdEntries.filterMap (fun e => (findRoute s.routes e).map (entryFlit e))

/-- The segment owner map: the NI that owns a link at a planned position. -/
def segmentOwner (s : State) (l : HbdLink) (planned : Nat) : Option Nat :=
  ((tableFlits s).find? (fun f => (List.range (flitLinks f)).any (fun k => pathLink f k == l && f.pos + linkDelay f k == planned))).map
    (fun f => f.src)

/-- The inbound source map: the source NI of an inbound slot of a cluster, or of a lane hub value by its lane slot and transmit
position. -/
def inboundSource (s : State) (dst slot pos : Nat) : Option Nat :=
  ((tableFlits s).find? (fun f => f.dst == dst && f.inBase ≤ slot && slot ≤ f.inBase + f.lenM1 && (!isHubNi dst || f.pos == pos))).map
    (fun f => f.src)

/-- Every slot of a flit has its SRC_NI as its source. -/
def sourcesOk (s : State) (f : Flit) : Bool :=
  (List.range (f.lenM1 + 1)).all (fun j => inboundSource s f.dst (f.inBase + j) f.pos == some f.src)

/-- The flit as the bits of `x` have left it: every field of word 0 but the route's own, and the values. -/
def upsetFlit (f : Flit) (x : BitVec 256) : Flit :=
  let m := x.toNat
  { f with
    src := f.src ^^^ (m / 2 ^ 55 % 512), pos := f.pos ^^^ (m / 2 ^ 24 % 4096), inBase := f.inBase ^^^ (m / 2 ^ 12 % 4096)
    lenM1 := f.lenM1 ^^^ (m / 2 ^ 5 % 128), cyc := f.cyc ^^^ BitVec.ofNat 64 (m % 32)
    values := f.values ^^^ BitVec.ofNat 128 (m / 2 ^ 64) }

/-- An upset turns over bits of DST_NI, DIR, RING, HOPS or LEFT. -/
def upsetsRoute (x : BitVec 256) : Bool := x.toNat / 2 ^ 36 % 2 ^ 19 != 0

/-- A word of `w`, or DP, fails its parity check at the end of the link. -/
def parityFails (w : BitVec 256) (u : FlitUpset) : Bool := (flitParity w ^^^ u.dp) != flitParity (w ^^^ u.words)

/-- The sideband of a flit: VC, KIND, SEQ, and SP, which gives odd parity (R218). -/
def sideband (vc : BitVec 2) (kind : BitVec 2) (seq : BitVec 4) : BitVec 9 :=
  let x := vc ++ kind ++ seq
  x ++ BitVec.ofNat 1 (b2n (oddBit x.toNat))

/-- The sideband of a VC0 flit: VC 0, head and tail, SEQ 0. -/
def vc0Side : BitVec 9 := sideband 0 3 0

/-- A sideband fails its parity check. -/
def sideFails (x : BitVec 9) : Bool := oddBit x.toNat

/-- What the checks at the end of link `u.link` find in a VC0 flit (R231). A flit whose route fields have changed no longer
keeps to the links that it owns (DEDUCED, log 134). -/
def vc0Check (s : State) (f : Flit) (u : FlitUpset) : Option FlitFault :=
  let g := upsetFlit f u.words
  if sideFails (vc0Side ^^^ u.side) then some .sideband
  else if parityFails (flitWords (flitWord0 f (leftOn f u.link)) f) u then some .vc0Par
  else if u.map then some .mapPar
  else if upsetsRoute u.words || segmentOwner s (pathLink f u.link) (g.pos + linkDelay f u.link) != some g.src then some .owner
  else if u.link = f.hops + 1 ∧ !sourcesOk s g then some .owner
  else none

/-- The clock in which a flit is checked at the end of link `k` of its path: at the end of the egress link, as of the first segment,
one clock after the injection (R224). -/
def checkClk (f : Flit) (k : Nat) : Nat := f.injected + max 1 (linkDelay f k)

/-- What the owner and source checks at the end of link `k` find in a flit that an upset has changed (R231). -/
def ownerCheck (s : State) (f : Flit) (k : Nat) : Bool :=
  segmentOwner s (pathLink f k) (f.pos + linkDelay f k) == some f.src && (k ≠ f.hops + 1 || sourcesOk s f)

/-- The link at the end of which a changed flit fails its owner or source check in the present clock. -/
def strayLink (s : State) (f : Flit) : Option Nat :=
  if f.changed then (List.range (flitLinks f)).find? (fun k => checkClk f k == s.clock && !ownerCheck s f k) else none

/-- A changed flit that is found where it has no right to be is discarded (R231). -/
def strayFlit (f : Flit) (s : State) : State :=
  match strayLink s f with
  | none => s
  | some k => vc0Fault .owner (linkLoc f k f.src) (f.pos + linkDelay f k) f.exec f.cyc
      { s with hbd := { s.hbd with flits := s.hbd.flits.erase f } }

/-- One clock of the flits in flight (R224): changed ones meet the checks of their links, and those whose arrival is this clock reach
their destination. -/
def flitClock (s : State) : State :=
  let k := s.clock
  let n := (s.hbd.flits.filter (crosses s k)).length
  let s := if n = 0 then s else linkFlits 0 n s
  let s := forEach s.hbd.flits strayFlit s
  forEach (s.hbd.flits.filter (fun f => f.injected + vc0Delay f.hops == k)) flitArrives s

/-! ### Errors on VC1 to VC3 (R235, R236) -/

/-- The receiving end of a link, as HBD_ERR_LOC names it beside an NI. -/
def linkEnd (l : HbdLink) (ni : BitVec 9) : HbdLoc :=
  match l with
  | .egress n | .ingress n => { ringPos := BitVec.ofNat 5 (ringPosOf n), ring := 0, ni := ni }
  | .segment ring leaves =>
    let a := leaves.toNat
    { ringPos := BitVec.ofNat 5 (if ring.toNat < 2 then (a + 1) % 24 else (a + 23) % 24), ring := ring, ni := ni }

/-- The NI of an NI's link; 0 for a segment (HBD_ERR_LOC.NI of LINK_FAIL). -/
def linkNi : HbdLink → BitVec 9
  | .egress n | .ingress n => BitVec.ofNat 9 n
  | .segment _ _ => 0

/-- How often the flit `seq` of a link has been sent when a NAK names it: once, unless it is the flit that the NAK before it named. -/
def sentTimes (s : State) (n : LinkNak) (seq : Nat) : Nat :=
  let x := mget s.hbd.unaccepted (16, 0) (linkKey n.link)
  if n.again && x.1 == seq then x.2 else 1

/-- A retransmission of a flit of `src` over a link (R235). -/
def hbdRetx (l : HbdLink) (src : BitVec 9) (s : State) : State :=
  hbdCnt 4 1 (hbdCause 6 7 (linkEnd l src) 0 (s.curCycle.getD s.sch.committed) s)

/-- A link has failed (R236), but for the fault stop. -/
def hbdLinkFail (l : HbdLink) (s : State) : State :=
  raise 0x201 (hbdCause 7 8 (linkEnd l (linkNi l)) 0 (s.curCycle.getD s.sch.committed)
    { s with hbd := { s.hbd with linkFailed := true } })

end Sys2Proof.Machine
end

