-- ==== Sys2Proof/Machine/Channels.lean ====
section
/-!
DEFINITION. Machine/Channels.lean: the virtual channels VC1 to VC3 of the Hatband clock by clock: buffers, credits, the choice of the
flit that a link carries, ageing, and link retransmission (spec/07_hatband.md, R221 to R223, R232, R235 to R237).
-/
namespace Sys2Proof.Machine

/-! ### Where a flit stands -/

/-- The key of the link that the flit waits for. -/
def vcKey (v : VcFlit) : Nat := linkKey (pathLink v.flit v.hop)

/-- The input port at which the flit stands: that of the link by which it came, or its own NI. -/
def vcPort (v : VcFlit) : Nat := if v.hop = 0 then 4096 + v.flit.src else linkKey (pathLink v.flit (v.hop - 1))

/-- Before it has used link `k`, the flit has come over the dateline, which lies where a segment enters ring position 0 (R223; DEDUCED,
log 115). -/
def pastDateline (f : Flit) (k : Nat) : Bool := (List.range k).any (fun j => 1 ≤ j && j ≤ f.hops && ringAt f j == 0)

/-- Both flits stand in the same half of the same buffer. -/
def sameBuffer (a b : VcFlit) : Bool :=
  !a.again && !b.again && vcPort a == vcPort b && a.vc == b.vc && pastDateline a.flit a.hop == pastDateline b.flit b.hop

/-- No other flit of its buffer stands before it. -/
def vcFront (l : List VcFlit) (v : VcFlit) : Bool := v.again || l.find? (sameBuffer v) == some v

/-- The flit takes up room in the half `past` of the buffer of channel `vc` behind link `key`: it stands there, or has been sent there
and discarded. -/
def takesRoom (key vc : Nat) (past : Bool) (v : VcFlit) : Bool :=
  v.vc == vc && (if v.again then vcKey v == key && pastDateline v.flit (v.hop + 1) == past
    else 1 ≤ v.hop && vcPort v == key && pastDateline v.flit v.hop == past)

/-- The next stage holds a credit for the flit (R221, R222): each half of a buffer takes four flits, and an NI takes every flit. -/
def vcCredit (l : List VcFlit) (v : VcFlit) : Bool :=
  v.again || v.hop == v.flit.hops + 1 ||
    decide ((l.filter (takesRoom (vcKey v) v.vc (pastDateline v.flit (v.hop + 1)))).length < 4)

/-! ### The choice of a link (R222, R223) -/

/-- The place of a flit in the order of a link's choice: first those to be sent again, in order of SEQ, then by PRI, by channel, and by
input port, next after the one served last. -/
def vcRank (l : VcLink) (v : VcFlit) : Nat :=
  if v.again then (v.seq + 16 - l.seq) % 16
  else 16 + 2 ^ 15 * (3 - (if v.aged then 3 else v.pri)) + 2 ^ 13 * v.vc + (vcPort v + 2 ^ 13 - 1 - l.last % 2 ^ 13) % 2 ^ 13

/-- The flit that comes first. -/
def vcPick (l : VcLink) : List VcFlit → Option VcFlit
  | [] => none
  | v :: vs => match vcPick l vs with
    | some u => if vcRank l u < vcRank l v then some u else some v
    | none => some v

/-- A VC0 flit uses the link in the present clock (R224). -/
def vc0On (s : State) (key : Nat) : Bool :=
  s.hbd.flits.any (fun f => (List.range (flitLinks f)).any (fun k => f.injected + linkDelay f k == s.clock && linkKey (pathLink f k) == key))

/-! ### A flit crosses a link -/

/-- The flit with what the sender of the link gives it. -/
def vcSent (s : State) (v : VcFlit) : VcFlit :=
  { v with seq := (mget s.hbd.links {} (vcKey v)).seq, sent := if v.again then v.sent + 1 else 1, again := false }

/-- The sender keeps the flit and goes on to the next SEQ (R235); HBD_LINK_FLITS counts it. -/
def vcKeep (v w : VcFlit) (s : State) : State :=
  let key := vcKey v
  let x := mget s.hbd.links {} key
  let r := x.replay ++ [(x.seq, w)]
  let y : VcLink := { x with seq := (x.seq + 1) % 16, replay := r.drop (r.length - 16), last := vcPort v }
  let s := { s with hbd := { s.hbd with links := mset s.hbd.links {} key y } }
  if key = observedKey s then linkFlits v.vc 1 s else s

/-- The fields of a head as the bits of `x` have left them. -/
def vcUpset (v : VcFlit) (x : BitVec 256) : VcFlit :=
  let m := x.toNat
  { v with flit := { upsetFlit v.flit x with pos := v.flit.pos }, pri := v.pri ^^^ (m / 2 ^ 34 % 4), opc := v.opc ^^^ (m / 2 ^ 24 % 32) }

/-- What the receiver of link `u.link` finds in the flit (R218, R231, R232). A flit whose route fields have changed unseen goes to an NI
that does not know its source (DEDUCED, log 134). -/
def vcCheck (v : VcFlit) (u : FlitUpset) : Option FlitFault :=
  if sideFails (sideband (BitVec.ofNat 2 v.vc) 3 (BitVec.ofNat 4 v.seq) ^^^ u.side) then some .sideband
  else if parityFails (flitWords (vcWord0 v (leftOn v.flit u.link)) v.flit) u then some .vc0Par
  else if u.map && u.link == v.flit.hops + 1 then some .mapPar
  else if upsetsRoute u.words then some .owner
  else none

/-- The serial number of the execution that runs, 0 without one. -/
def runSerial (s : State) : Nat := (s.sch.exec.map (fun e => e.serial)).getD 0

/-- The flit has crossed link `hop` and stands behind it. It needs the clocks that a VC0 flit needs there (log 115). -/
def vcPass (w : VcFlit) (s : State) : State :=
  let k := w.hop + 1
  let clocks := if k = flitLinks w.flit then 2 else linkDelay w.flit k - linkDelay w.flit w.hop
  { s with hbd := { s.hbd with vcs := s.hbd.vcs ++ [{ w with hop := k, due := s.clock + clocks, wait := 0, aged := false }] } }

/-- The receiver finds a parity failure in the flit (R235, R236): it discards the flit and what follows it until the NAK, after a round
trip of 4 clocks, has brought it again. A flit that has been sent five times makes the link fail, and a fault stop. -/
def vcNak (w : VcFlit) (s : State) : State :=
  let l := pathLink w.flit w.hop
  if 5 ≤ w.sent then markFatal (hbdLinkFail l s)
  else
    let x := mget s.hbd.links {} (linkKey l)
    { s with hbd := { s.hbd with
        vcs := s.hbd.vcs ++ [{ w with again := true, lost := true, upset := none }]
        links := mset s.hbd.links {} (linkKey l) { x with nak := some (w.seq, s.clock + 4) } } }

/-- The receiver of the link that the flit has just been sent over takes it, or not. -/
def vcReceive (w : VcFlit) (s : State) : State :=
  if (mget s.hbd.links {} (vcKey w)).nak.isSome then
    { s with hbd := { s.hbd with vcs := s.hbd.vcs ++ [{ w with again := true, lost := true }] } }
  else match w.upset.filter (fun u => u.link == w.hop) with
    | none => vcPass w s
    | some u =>
      let loc := linkLoc w.flit w.hop w.flit.src
      match vcCheck w u with
      | some .sideband =>
        vcNak w (match s.sch.exec with
          | some e => vc0Fault .sideband loc 0 e.serial e.num s
          | none => s)
      | some .vc0Par => vcNak w s
      | some k => vc0Fault k loc 0 (runSerial s) w.flit.cyc s
      | none => vcPass (vcUpset w u.words) s

/-- The flit `v` crosses the link that it waits for. -/
def vcMove (v : VcFlit) (s : State) : State :=
  let w := vcSent s v
  let s := vcKeep v w s
  vcReceive w { s with hbd := { s.hbd with vcs := s.hbd.vcs.erase v } }

/-- The output of a head has not taken it in this clock; after AGE clocks it is promoted (R223). -/
def vcWait (v : VcFlit) (s : State) : State :=
  let age := s.fld Reg.HBD_AGE 0 16
  let old : Bool := age != 0 && age ≤ v.wait + 1 && !v.aged
  let w := { v with wait := v.wait + 1, aged := v.aged || old }
  let s := { s with hbd := { s.hbd with vcs := s.hbd.vcs.map (fun u => if u = v then w else u) } }
  if old then hbdCnt 6 1 s else s

/-! ### Arrival (R232, R233) -/

/-- A late delivery has reached its destination: the source check, and the slots, or the hub that is its destination. One that
arrives after B7 is discarded. -/
def lateArrives (f : Flit) (s : State) : State :=
  if !sourcesOk s f then vc0Fault .owner (linkLoc f (f.hops + 1) f.src) 0 (runSerial s) f.cyc s
  else if isHubNi f.dst then hubTake (hubPort f.dst) f.inBase f.lenM1 f.pos f.values f.cyc s
  else deliverValues f.dst f.inBase f.lenM1 f.values f.cyc f.src true s

/-- The NI takes a flit that has arrived. A packet whose OPC has changed unseen is none that it knows. -/
def vcArrives (v : VcFlit) (s : State) : State :=
  let s := { s with hbd := { s.hbd with vcs := s.hbd.vcs.erase v } }
  if v.opc = 0x1E then lateArrives v.flit s else s

/-! ### One clock -/

/-- A NAK reaches the sender of the link of `v`, the flit that it names: what has been discarded is sent again (R235). -/
def vcResend (v : VcFlit) (s : State) : State :=
  let key := vcKey v
  let x := mget s.hbd.links {} key
  hbdRetx (pathLink v.flit v.hop) (BitVec.ofNat 9 v.flit.src) { s with hbd := { s.hbd with
    vcs := s.hbd.vcs.map (fun u => if u.lost && vcKey u == key then { u with lost := false } else u)
    links := mset s.hbd.links {} key { x with seq := v.seq, nak := none, replay := x.replay.takeWhile (fun y => y.1 != v.seq) } } }

/-- The flit that a NAK names which comes in this clock. -/
def nakComes (s : State) (v : VcFlit) : Bool :=
  v.lost && (mget s.hbd.links {} (vcKey v)).nak.any (fun n => n.1 == v.seq && n.2 ≤ s.clock)

/-- Packets that State does not hold keep the flit in its NI until its cycle is no longer the one executed, as its command has said
(log 115). -/
def vcHeld (s : State) (v : VcFlit) : Bool := v.held && v.hop == 0 && s.curCycle == some v.flit.cyc

/-- The flit may cross the link that it waits for, but for the credit and the choice of the link. -/
def vcReady (s : State) (l : List VcFlit) (v : VcFlit) : Bool :=
  v.hop < flitLinks v.flit && v.due ≤ s.clock && !v.lost && vcFront l v && !vcHeld s v

/-- One link in one clock: it carries the VC0 flit, else a flit of another packet (`busy`), else the first of `ready` that has a credit. -/
def vcLinkClock (busy : Nat → Bool) (l ready : List VcFlit) (key : Nat) (s : State) : State :=
  if vc0On s key || busy key then s
  else match vcPick (mget s.hbd.links {} key) (ready.filter (fun v => vcKey v == key && vcCredit l v)) with
    | some v => vcMove v s
    | none => s

/-- One clock of the flits of VC1 to VC3: arrivals, NAKs, one flit on each link, and the heads that wait. -/
def vcClock (busy : Nat → Bool) (s : State) : State :=
  let s := forEach (s.hbd.vcs.filter (fun v => v.hop == flitLinks v.flit && v.due ≤ s.clock)) vcArrives s
  let s := forEach (s.hbd.vcs.filter (nakComes s)) vcResend s
  let l := s.hbd.vcs
  let ready := l.filter (vcReady s l)
  let s := forEach (ready.map vcKey).eraseDups (vcLinkClock busy l ready) s
  forEach (ready.filter (fun v => !v.again)) (fun v s => if s.hbd.vcs.contains v then vcWait v s else s) s

/-- One clock of VC1 to VC3; the other packets take links as they do (log 115). -/
def vcTick (s : State) : State :=
  if s.hbd.vcs.isEmpty then s else vcClock (fun key => Config.vcTraffic key s.clock != 0) s

end Sys2Proof.Machine
end

