-- ==== Sys2Proof/Machine/Dispatcher.lean ====
section
/-!
DEFINITION. Machine/Dispatcher.lean: messages and calls from capture to release, their completion, withdrawal
and discard, posted words, and barriers (spec/13_dispatcher.md, R353 to R371). The commands of the host side
stand in Machine/DspCommands.lean.
-/
namespace Sys2Proof.Machine

/-! ### Channels -/

/-- DSP_CH_CFG_ch. -/
def chCfg (s : State) (ch : Nat) : Word32 := s.reg (0xE01000 + 16 * ch)

/-- KIND, CORE, TICK, NOTIFY, DEP_EN, DEP_SRC, BGROUP and NOWAIT of a channel. -/
def chKind (s : State) (ch : Nat) : Nat := bitsOf (chCfg s ch) 0 2
def chCore (s : State) (ch : Nat) : Nat := bitsOf (chCfg s ch) 2 4
def chTick (s : State) (ch : Nat) : Bool := bitsOf (chCfg s ch) 6 1 == 1
def chNotify (s : State) (ch : Nat) : Bool := bitsOf (chCfg s ch) 7 1 == 1
def chDepEn (s : State) (ch : Nat) : Bool := bitsOf (chCfg s ch) 8 1 == 1
def chDepSrc (s : State) (ch : Nat) : Nat := bitsOf (chCfg s ch) 9 8
def chGroup (s : State) (ch : Nat) : Nat := bitsOf (chCfg s ch) 17 4
def chNowait (s : State) (ch : Nat) : Bool := bitsOf (chCfg s ch) 21 1 == 1

/-- DSP_CORE_ENTRIES_k. -/
def coreEntries (s : State) (k : Nat) : Nat := (s.reg (0xE02008 + 32 * k)).toNat

/-- A bit of DSP_CH_CAUSE_ch, with the channel's event when it changes from 0 to 1 (R374). -/
def dspCause (ch b : Nat) (s : State) : State :=
  let o := 0xE01008 + 16 * ch
  if s.bit o b then s else raise (0x440 + ch) (s.setBit o b true)

/-- Adds 1 to a counter that stops at 0xFFFF_FFFF (R372). -/
def dspCount (o : Nat) (s : State) : State :=
  countUp o s

/-- The histogram bin of a time in step clocks; 1,280 of them are 1 µs (R372). -/
def histBin (clks : Nat) : Nat := let us := clks / 1280; if us = 0 then 0 else min 15 (us.log2 + 1)

/-! ### Slots -/

/-- Messages that hold a slot. -/
def placedMsgs (s : State) : List Msg := s.dsp.msgs.filter (fun m => !m.lost && !m.unplaced)

/-- Slots that a channel holds (R357). -/
def chHolds (s : State) (ch : Nat) : Nat := ((placedMsgs s).filter (fun m => m.ch == ch)).length

/-- The slots that no message holds. -/
def freeSlots (s : State) : List Nat := (List.range 4096).filter (fun k => !(placedMsgs s).any (fun m => m.slot == k))

/-- The slot that a new message takes: some free one, the specification does not say which (log 8). -/
def pickSlot (s : State) : Nat :=
  let l := freeSlots s
  l.getD ((Config.free64 s.freeCtr).toNat % l.length) 0

/-- Replaces a message by what `f` makes of it. -/
def updMsg (id : Nat) (f : Msg → Msg) (s : State) : State :=
  { s with dsp := { s.dsp with msgs := s.dsp.msgs.map (fun m => if m.id == id then f m else m) } }

/-- Removes a message and frees its slot. -/
def dropMsg (id : Nat) (s : State) : State :=
  { s with dsp := { s.dsp with msgs := s.dsp.msgs.filter (fun m => m.id != id) } }

/-! ### Completion and barriers (R361, R362) -/

/-- The message has been released and has not completed. -/
def Msg.outstanding (m : Msg) : Bool :=
  !m.completed && (m.st == .released || m.st == .delivered || m.st == .withdrawPending || m.st == .withdrawn)

/-- The oldest barrier of a group that can retire: every message of the group released before it has completed
(R362). -/
def retirable (s : State) : Option Msg :=
  s.dsp.msgs.find? (fun b => b.barrier && b.st == .released &&
    s.dsp.msgs.all (fun m => !(m.outstanding && m.relSeq < b.relSeq && chGroup s m.ch == chGroup s b.ch)))

/-- Barriers whose time has come retire and free their slots (R362). -/
def retireBarriers (fuel : Nat) (s : State) : State :=
  match fuel with
  | 0 => s
  | k + 1 => match retirable s with
    | some b => retireBarriers k (dropMsg b.id s)
    | none => s

/-- A message has completed: every counter that counted it goes down by 1, and barriers may retire (R361). -/
def completeMsg (id : Nat) (s : State) : State :=
  let s := { s with dsp := { s.dsp with msgs := s.dsp.msgs.map (fun m => { m with deps := m.deps.filter (fun d => d != id) }) } }
  retireBarriers s.dsp.msgs.length s

/-! ### Release (R358, R359, R361, R363) -/

/-- A message enters its channel's queue. -/
def releaseMsg (id : Nat) (s : State) : State :=
  match s.dsp.msgs.find? (fun m => m.id == id) with
  | none => s
  | some m =>
    let deps := if chDepEn s m.ch then
        (s.dsp.msgs.filter (fun o => o.ch == chDepSrc s m.ch && o.outstanding && !o.barrier)).map (fun o => o.id)
      else []
    let queued := s.dsp.msgs.any (fun o => o.ch == m.ch && o.st == .released)
    let s := updMsg id (fun m => { m with st := .released, deps := deps, gen := s.wave.gen, provisional := m.call,
                                          relClk := s.clock, relSeq := s.dsp.nextRel }) s
    let s := { s with dsp := { s.dsp with nextRel := s.dsp.nextRel + 1 } }
    let s := if coreEntries s (chCore s m.ch) = 0 ∧ !queued then dspCause m.ch 7 s else s
    retireBarriers s.dsp.msgs.length s

/-- Every cycle before `n` has committed. -/
def isNext (s : State) (n : Word64) : Bool := n == s.sch.committed + 1

/-! ### RDATA of SEND BLOCKING -/

/-- A word that enters RDATA of a context in the next clock. -/
def rdataNext (n : Word64) (cluster ctx : Nat) (v : Word64) (s : State) : State :=
  { s with mem := { s.mem with reads := s.mem.reads ++
      [{ cluster := cluster, ctx := ctx, cyc := n, stage := .arriving (s.clock + 1), value := v, addr := 0,
         key := none, hbm := false }] } }

/-- A context waits for a word from the dispatcher, for its SEND BLOCKING of `step`. -/
def rdataWait (n : Word64) (cluster ctx step : Nat) (s : State) : State :=
  { s with mem := { s.mem with reads := s.mem.reads ++
      [{ cluster := cluster, ctx := ctx, cyc := n, stage := .call, value := 0, addr := 0, key := none, hbm := false,
         step := step }] } }

/-- The word for the SEND BLOCKING of a position key has come in the present clock: RDATA is valid from the next one, as in the
Daffodil example (R367, R369). -/
def rdataCome (n : Word64) (cluster ctx step : Nat) (v : Word64) (s : State) : State :=
  { s with mem := { s.mem with reads := s.mem.reads.map (fun r =>
      if r.cluster == cluster && r.ctx == ctx && r.cyc == n && r.step == step && r.stage == .call
      then { r with stage := .arriving s.clock, value := v } else r) } }

/-! ### Capture (R353 to R357, R369, R370) -/

/-- No slot for a message (R370): the channel's EXHAUST, and a mismatch, or a fault stop in an execution that
has begun under R370. -/
def exhaustion (n : Word64) (ch : Nat) (s : State) : State :=
  let s := dspCause ch 3 s
  if s.sch.exec.any (fun e => e.sole) then markFatal s
  else markMismatch { s with dsp := { s.dsp with exhaust := some n } }

/-- The call is withdrawn: RESPOND and COMPLETE acknowledge (R368). -/
def Msg.isWithdrawn (m : Msg) : Bool := m.st == .withdrawPending || m.st == .withdrawn

/-- The call is attached to cycle `n`, and no call of the present execution has matched it. -/
def Msg.matchable (m : Msg) (n : Word64) : Bool := m.call && m.attached && !m.matched && m.cyc == n

/-- An attached call that a closing call matches: same cycle, channel, position key and words (R368). -/
def matchCall (s : State) (n : Word64) (ch step cluster ctx : Nat) (words : List Word64) : Option Msg :=
  s.dsp.msgs.find? (fun m => m.matchable n && m.ch == ch && m.step == step && m.cluster == cluster && m.ctx == ctx && m.words == words)

/-- A message of an execution under R370 that, as far as its words go, may still match an attached call: it uses that call's slot
and takes no new one. -/
def mayMatch (s : State) (m : Msg) : Bool :=
  s.sch.exec.any (fun e => e.sole) && !m.barrier &&
    s.dsp.msgs.any (fun a => a.matchable m.cyc && a.ch == m.ch && a.cluster == m.cluster && m.words.isPrefixOf a.words)

/-- A message takes a slot, or finds none (R356, R357, R370). -/
def placeMsg (m : Msg) (s : State) : State :=
  if 4096 ≤ (placedMsgs s).length ∨ 255 ≤ chHolds s m.ch then
    exhaustion m.cyc m.ch (updMsg m.id (fun m => { m with lost := true, unplaced := false }) s)
  else (updMsg m.id (fun m => { m with slot := pickSlot s, unplaced := false }) s).tick1

/-- A word of message `id` has been captured: without a slot yet, it takes one unless it may still match an attached call. -/
def wordPlaced (id : Nat) (s : State) : State :=
  match s.dsp.msgs.find? (fun m => m.id == id) with
  | some m => if m.unplaced && !mayMatch s m then placeMsg m s else s
  | none => s

/-- A closing call meets its attached call: it takes the bound response, or waits for it (R368). Whether the message of the cycle
is truncated is the present execution's. -/
def takeMatch (n : Word64) (trunc : Bool) (m : Msg) (s : State) : State :=
  let s := updMsg m.id (fun m => { m with matched := true, trunc := trunc }) s
  match m.resp with
  | some v => rdataNext n m.cluster m.ctx v s
  | none => rdataWait n m.cluster m.ctx m.step s

/-- A message that matches no attached call has closed, and has its slot or has found none (R355, R359, R370). -/
def closePlaced (id : Nat) (blocking : Bool) (s : State) : State :=
  match s.dsp.msgs.find? (fun m => m.id == id) with
  | none => s
  | some m =>
    if m.lost then
      let s := dropMsg id s
      if blocking then rdataNext m.cyc m.cluster m.ctx 0 s else s
    else if blocking then
      let s := updMsg id (fun m => { m with st := .closed, call := true }) s
      let s := rdataWait m.cyc m.cluster m.ctx m.step s
      if isNext s m.cyc then releaseMsg id s else s
    else updMsg id (fun m => { m with st := .closed }) s

/-- A message closes (R355, R368). -/
def closeMsg (id : Nat) (blocking : Bool) (s : State) : State :=
  match s.dsp.msgs.find? (fun m => m.id == id) with
  | none => s
  | some m =>
    match if blocking && !m.lost then matchCall s m.cyc m.ch m.step m.cluster m.ctx m.words else none with
    | some a => takeMatch m.cyc m.trunc a (dropMsg id s)
    | none => closePlaced id blocking (if m.unplaced then placeMsg m s else s)

/-- One word of a message (R355): it joins the open message of its execution, cluster and channel, or opens one. -/
def msgWord (n : Word64) (cluster ctx ch prio delay step : Nat) (more blocking barrier : Bool) (w : Word64)
    (s : State) : State :=
  let (id, s) : Nat × State :=
    match s.dsp.msgs.find? (fun m => m.st == .open' && m.cyc == n && m.cluster == cluster && m.ch == ch) with
    | some m =>
      (m.id, updMsg m.id (fun m =>
        let m := { m with prio := prio, delay := delay, step := step, ctx := ctx, closeClk := s.clock }
        if m.words.length < 6 then { m with words := m.words ++ [w] } else { m with trunc := true }) s)
    | none =>
      let m : Msg := { id := s.dsp.nextId, slot := 0, unplaced := true, cyc := n, ch := ch, cluster := cluster, ctx := ctx,
                       step := step, closeClk := s.clock, words := [w], prio := prio, delay := delay, barrier := barrier }
      (m.id, { s with dsp := { s.dsp with msgs := s.dsp.msgs ++ [m], nextId := m.id + 1 } })
  let s := wordPlaced id s
  if !more || blocking then closeMsg id blocking s else s

/-- RDATA of a RECV result: the posted word with bit 63 set, or 0 (R369). -/
def recvData (w : Option Posted) : Word64 :=
  match w with
  | some p => p.word ||| 0x8000000000000000
  | none => 0

/-- A SEND BLOCKING on a RECV channel (R369): the bound result, the oldest posted word, a wait, or 0. -/
def recvTake (n : Word64) (cluster ctx ch step : Nat) (s : State) : State :=
  match s.dsp.binds.find? (fun b => b.cyc == n && b.ch == ch && b.step == step && b.cluster == cluster && b.ctx == ctx) with
  | some b =>
    let s := { s with dsp := { s.dsp with binds := s.dsp.binds.map (fun x => if x = b then { x with used := true } else x) } }
    rdataNext n cluster ctx (recvData b.word) s
  | none =>
    let bind (w : Option Posted) (s : State) : State :=
      { s with dsp := { s.dsp with binds := s.dsp.binds ++
          [{ cyc := n, ch := ch, step := step, cluster := cluster, ctx := ctx, word := w }] } }
    match s.dsp.posted.find? (fun p => p.ch == ch) with
    | some p =>
      let s := { s with dsp := { s.dsp with posted := s.dsp.posted.erase p } }
      rdataNext n cluster ctx (recvData (some p)) (bind (some p) s)
    | none =>
      if chNowait s ch then rdataNext n cluster ctx 0 (bind none s)
      else rdataWait n cluster ctx step { s with dsp := { s.dsp with waits := s.dsp.waits ++
          [{ cyc := n, ch := ch, step := step, cluster := cluster, ctx := ctx }] } }

/-- A SEND (operation 0x10) or SEND BLOCKING (0x11) is captured (R353, R354). -/
def dspIssue (n : Word64) (cluster ctx op : Nat) (addr : BitVec 40) (w : Word64) (step : Nat) (s : State) : State :=
  let a := addr.toNat
  let ch := a % 256
  let more : Bool := (a / 256) % 2 == 1
  let prio := (a / 512) % 8
  let delay := (a / 4096) % 65536
  let blocking : Bool := op == 0x11
  let misuse (s : State) : State := { s with dsp := { s.dsp with misuse := s.dsp.misuse ++ [(n, ch)] } }
  let kind := chKind s ch
  if kind = 0 then msgWord n cluster ctx ch prio delay step more blocking false w s
  else if kind = 1 then
    if blocking then recvTake n cluster ctx ch step s else misuse s
  else if kind = 2 then
    if blocking then misuse (rdataNext n cluster ctx 0 s)
    else msgWord n cluster ctx ch prio delay step more false true w s
  else if blocking then misuse (rdataNext n cluster ctx 0 s)
  else misuse s

/-! ### The execution's end, commit and discard -/

/-- B3: messages still open are closed and marked TRUNC (R355). -/
def dspCloseOpen (n : Word64) (s : State) : State :=
  forEach (s.dsp.msgs.filter (fun m => m.st == .open' && m.cyc == n))
    (fun m s => closeMsg m.id false (updMsg m.id (fun m => { m with trunc := true }) s)) s

/-- Withdraws a call (R368), which is then attached to no cycle. A delivered one goes to the end of the list: WITHDRAW records are
written in the order of withdrawal (R364). -/
def withdrawCall (m : Msg) (s : State) : State :=
  let s := dspCause m.ch 5 s
  if m.resp.isSome then dropMsg m.id s
  else if m.st == .delivered then
    let s := dropMsg m.id s
    { s with dsp := { s.dsp with msgs := s.dsp.msgs ++ [{ m with st := .withdrawPending, attached := false, matched := false }] } }
  else completeMsg m.id (dropMsg m.id s)

/-- B7 of an execution of cycle `n`: an attached call that nothing has matched is withdrawn (R368). -/
def dspB7 (n : Word64) (s : State) : State :=
  let s := forEach (s.dsp.msgs.filter (fun m => m.call && m.attached && !m.matched && m.cyc == n &&
      (m.st == .closed || m.st == .released || m.st == .delivered))) withdrawCall s
  { s with dsp := { s.dsp with msgs := s.dsp.msgs.map (fun m =>
      if m.cyc == n && m.matched then { m with attached := false, matched := false } else m) } }

/-- The executions whose cycles `keep` does not name are discarded: their calls stay attached (R368), their
other uncommitted messages free their slots, and bound results stay bound (R118, R369). A call whose cycle has committed is not
theirs, also where a rewind has made its number uncommitted again (R371). -/
def dspDiscard (keep : Word64 → Bool) (s : State) : State :=
  let gone (m : Msg) : Bool := !keep m.cyc && (m.st == .open' || (m.st == .closed && !m.call))
  let isCall (m : Msg) : Bool := !keep m.cyc && m.call && (m.st == .closed || m.provisional) && !m.isWithdrawn
  { s with dsp := { s.dsp with
      msgs := (s.dsp.msgs.filter (fun m => !gone m)).map (fun m =>
        if isCall m then { m with attached := true, matched := false } else m)
      binds := s.dsp.binds.map (fun b => if keep b.cyc then b else { b with used := false })
      waits := s.dsp.waits.filter (fun w => keep w.cyc)
      misuse := s.dsp.misuse.filter (fun p => keep p.1) } }

/-- Places words back at the head of the posted words, in their original order (R369). -/
def returnWords (l : List Posted) (s : State) : State :=
  { s with dsp := { s.dsp with posted := (sortBy (fun (a b : Posted) => a.seq ≤ b.seq) l) ++ s.dsp.posted } }

/-- Order of the messages of one execution (R356). -/
def closeOrder (a b : Msg) : Bool :=
  a.closeClk < b.closeClk || (a.closeClk == b.closeClk &&
    (a.cluster < b.cluster || (a.cluster == b.cluster && a.ctx ≤ b.ctx)))

/-- Order of messages released in one clock: that of their cycles' commits, which come in clocks of their own, and within a cycle
that of R356 (R358). -/
def dueOrder (a b : Msg) : Bool :=
  if a.comClk = b.comClk then closeOrder a b else a.comClk < b.comClk

/-- Cycle `n` commits (R353, R355, R358, R359, R367, R369, R370): messages delayed to this cycle and then its
own are released or enter a delay list, answered calls free their slots, unused words return, and calls of the
next cycle are released. -/
def dspCommit (n : Word64) (s : State) : State :=
  let s := forEach (sortBy dueOrder (s.dsp.msgs.filter (fun m => m.st == .delayCycle n))) (fun m s => releaseMsg m.id s) s
  let own := sortBy closeOrder (s.dsp.msgs.filter (fun m => m.cyc == n && m.st == .closed && !m.call))
  let s := forEach own (fun m s =>
    let s := if m.trunc then dspCause m.ch 2 s else s
    if m.delay = 0 then releaseMsg m.id s
    else
      let wait : MsgSt := if chTick s m.ch then .delayTick m.delay else .delayCycle (n + BitVec.ofNat 64 m.delay)
      updMsg m.id (fun m => { m with st := wait, comClk := s.clock }) s) s
  let s := forEach (s.dsp.msgs.filter (fun m => m.cyc == n && m.call && m.provisional && m.trunc && !m.isWithdrawn))
    (fun m s => dspCause m.ch 2 s) s
  let s := forEach (s.dsp.misuse.filter (fun p => p.1 == n)) (fun p s => dspCause p.2 1 s) s
  let back := (s.dsp.binds.filter (fun b => b.cyc == n && !b.used)).filterMap (fun b => b.word)
  let s := returnWords back s
  let s := { s with dsp := { s.dsp with
      msgs := (s.dsp.msgs.filter (fun m => !(m.cyc == n && m.call && m.resp.isSome))).map (fun m =>
        if m.cyc == n && m.call then { m with provisional := false, attached := false } else m)
      misuse := s.dsp.misuse.filter (fun p => p.1 != n)
      binds := s.dsp.binds.filter (fun b => b.cyc != n)
      waits := s.dsp.waits.filter (fun w => w.cyc != n)
      exhaust := if s.dsp.exhaust = some n then none else s.dsp.exhaust } }
  forEach (sortBy closeOrder (s.dsp.msgs.filter (fun m => m.call && m.st == .closed && m.cyc == n + 1))) (fun m s => releaseMsg m.id s) s

/-- A rewind (R371): uncommitted messages go, attached calls are withdrawn at once, words bound to uncommitted
cycles return. Cycles at or below the last committed one are those that `keep` names. The cycle of an exhaustion still has to
commit (R370). -/
def dspRewind (keep : Word64 → Bool) (s : State) : State :=
  let s := dspDiscard keep s
  let s := forEach (s.dsp.msgs.filter (fun m => m.call && m.attached && (m.st == .closed || m.st == .released || m.st == .delivered)))
    withdrawCall s
  let back := (s.dsp.binds.filter (fun b => !keep b.cyc)).filterMap (fun b => b.word)
  let s := returnWords back s
  { s with dsp := { s.dsp with binds := s.dsp.binds.filter (fun b => keep b.cyc) } }

/-- An image install or a reset of the dispatcher frees every slot and posted word without a record (R371). -/
def dspClear (s : State) : State :=
  { s with dsp := { s.dsp with msgs := [], posted := [], binds := [], waits := [], misuse := [], exhaust := none } }

/-- No slot keeps an execution under R370 from beginning: the dispatcher holds none but those of calls attached to the cycle of
the exhaustion. -/
def dspFree (s : State) : Bool :=
  s.dsp.exhaust.all (fun n => (placedMsgs s).all (fun m => m.call && m.attached && m.cyc == n))

/-- The LOAD and histogram counters return to 0 (R372). -/
def dspClearCounters (s : State) : State :=
  keepRegs (fun o => !(
    (0xE0100C ≤ o && o < 0xE02000 && (o - 0xE0100C) % 16 == 0) ||
    (0xE02014 ≤ o && o < 0xE02200 && (o - 0xE02014) % 32 == 0) ||
    (0xE04000 ≤ o && o < 0xE08000) || (0xE08000 ≤ o && o < 0xE08400))) s

end Sys2Proof.Machine
end

