-- ==== Sys2Proof/Machine/Operands.lean ====
section
/-!
DEFINITION. Machine/Operands.lean: the fields of an instruction word, its operand selectors and destinations,
which words are legal, and what each legal word does (spec/02_boolean_processor.md, R36 to R47, R67, R70, R71).
-/
namespace Sys2Proof.Machine

/-- The canonical no-operation word of R36. -/
def nopWord : InstrWord := 0xF000000000000000000000000000#112

/-- Bits `[lo + w - 1 : lo]` of an instruction word. -/
def wbits (x : InstrWord) (lo w : Nat) : Nat := (x.toNat >>> lo) % 2 ^ w

/-- The 18-bit selector of operand `k`. -/
def selOf (x : InstrWord) (k : Nat) : Nat := wbits x (18 * k) 18

/-- The 16-bit destination field, DCLASS and DINDEX. -/
def destOf (x : InstrWord) : Nat := wbits x 88 16

/-- The truth table. -/
def ttOf (x : InstrWord) : Nat := wbits x 72 16

/-- The source that an operand selector reads (R41). -/
inductive Sel
  | cns (e : Nat)
  | state (b : Nat)
  | inbound (i : Nat) (predicted : Bool)
  | const (v : Bool)
  | cycleBit (k : Nat)
  | rdata (c b : Nat)
  | illegal
  deriving DecidableEq, Repr

/-- The operand cases of R41. -/
def decodeSel (x : Nat) : Sel :=
  let cls := x / 0x10000
  let ix := x % 0x10000
  if cls = 0 then if ix < 4096 then .cns ix else .illegal
  else if cls = 1 then .state ix
  else if cls = 2 then
    if (ix / 4096) % 8 = 0 then .inbound (ix % 4096) (0x8000 ≤ ix) else .illegal
  else if ix = 0 then .const false
  else if ix = 1 then .const true
  else if 0x40 ≤ ix ∧ ix < 0x80 then .cycleBit (ix - 0x40)
  else if 0x800 ≤ ix ∧ ix < 0xA00 then .rdata ((ix - 0x800) / 64) (ix % 64)
  else .illegal

/-- The selector asks for a predicted value (R44). -/
def Sel.predicts (x : Sel) : Bool :=
  match x with
  | .inbound _ p => p
  | _ => false

/-- What a word does when it issues (R43, R45, R46, R67, R70, R71); `illegal` is an illegal encoding (R47). -/
inductive WordKind
  | nop
  | cnsWrite (e : Nat)
  | shadowWrite (b : Nat)
  | sendWrite (i : Nat)
  | addrBit (c a : Nat)
  | wdataBit (c a : Nat)
  | issue (c op : Nat)
  | verify (i : Nat)
  | illegal
  deriving DecidableEq, Repr

/-- The operation codes of ISSUE. -/
def issueOps : List Nat := [0, 1, 2, 3, 0x10, 0x11]

/-- The operand selectors of a word, operand 0 first. -/
def selsOf (w : InstrWord) : List Sel := (List.range 4).map (fun k => decodeSel (selOf w k))

/-- The P flag agrees with the operands and every operand is legal (R41, R44). -/
def operandsLegal (w : InstrWord) : Bool :=
  (selsOf w).all (fun x => x ≠ .illegal) &&
    ((wbits w 105 1 == 1) == (selsOf w).any Sel.predicts)

/-- What the word at BP `bp` does (R43 to R46, R67, R71); parity apart. -/
def kindOf (bp : Nat) (w : InstrWord) : WordKind :=
  let W := wbits w 107 1
  let N := wbits w 106 1
  let X := wbits w 104 1
  let dc := wbits w 102 2
  let di := wbits w 88 14
  if W = 0 ∧ N = 0 ∧ X = 0 then .nop
  else if W = 1 ∧ N = 0 ∧ X = 0 ∧ dc = 0 then
    if operandsLegal w ∧ di < 4096 then .cnsWrite di else .illegal
  else if W = 1 ∧ N = 0 ∧ X = 0 ∧ dc = 1 then
    if operandsLegal w then .shadowWrite (16384 * (bp / 64) + di) else .illegal
  else if W = 1 ∧ N = 1 ∧ X = 0 ∧ dc = 2 then
    if operandsLegal w ∧ di < 4096 then .sendWrite di else .illegal
  else if W = 0 ∧ N = 0 ∧ X = 1 ∧ dc = 3 then
    let f := di / 2048
    let c := (di / 256) % 8
    let a := di % 256
    if f = 0 then if operandsLegal w ∧ a < 40 then .addrBit c a else .illegal
    else if f = 1 then if operandsLegal w ∧ a < 64 then .wdataBit c a else .illegal
    else if f = 2 then if operandsLegal w ∧ a ∈ issueOps then .issue c a else .illegal
    else if f = 3 then
      if di % 2048 = 0 ∧ wbits w 105 1 = 0 ∧ ttOf w = 0 ∧ wbits w 18 54 = 0 ∧
          selOf w 0 / 0x10000 = 2 ∧ selOf w 0 % 0x10000 < 4096
      then .verify (selOf w 0 % 4096) else .illegal
    else .illegal
  else .illegal

/-- The selectors that a word of this kind reads when it issues: none for a no-operation or an illegal
encoding, the slot alone for a verify, all four operands otherwise. -/
def readsOf (k : WordKind) (w : InstrWord) : List Sel :=
  match k with
  | .nop => []
  | .illegal => []
  | .verify i => [.inbound i false]
  | _ => selsOf w

/-- An ISSUE operation that returns a word (R51). -/
def returning (op : Nat) : Bool := op == 0 || op == 2 || op == 3 || op == 0x11

/-- TT[i] for the four operand values, operand 0 first (R38). -/
def evalTT (tt : Nat) (vs : List Bool) : Bool :=
  let i := b2n (vs.getD 0 false) + 2 * b2n (vs.getD 1 false) + 4 * b2n (vs.getD 2 false) + 8 * b2n (vs.getD 3 false)
  (tt >>> i) % 2 == 1

end Sys2Proof.Machine
end

