-- ==== Sys2Proof/Machine/Cluster.lean ====
section
/-!
DEFINITION. Machine/Cluster.lean: the clusters: what a read returns, what an instruction word does when it
issues, what results do when they take effect, which operands are ready at lookahead, and the commands by which
BPs issue their words (spec/02_boolean_processor.md, R37 to R76).
-/
namespace Sys2Proof.Machine

/-! ### Stores -/

/-- The installed image's steps per cycle. -/
def State.N (s : State) : Nat := s.img.n

/-- The copy that holds the state after the last finished cycle: the base copy of the executing cycle (R56). -/
def State.baseCopy (s : State) : Nat :=
  match s.sch.cycles.getLast? with
  | some c => c.copy
  | none => s.sch.comCopy

/-- The word of a tier for a BP and slot. -/
def tierWord (s : State) (c p slot : Nat) : InstrWord := mget s.clu.tier nopWord (65536 * slot + 256 * c + p)

/-- The listed tier words of slots `lo` to `hi`, as (slot, cluster, BP, word); every other word is the
no-operation word. -/
def tierWords (s : State) (lo hi : Nat) : List (Nat × Nat × Nat × InstrWord) :=
  (s.clu.tier.filter (fun e => lo ≤ e.1 / 65536 && e.1 / 65536 ≤ hi && e.1 / 65536 < s.N)).map
    (fun e => (e.1 / 65536, (e.1 / 256) % 256, e.1 % 256, e.2))

/-- A port context. -/
def State.port (s : State) (c k : Nat) : PortCtx := mget s.clu.ports {} (8 * c + k)

/-- Replaces a port context. -/
def State.setPort (s : State) (c k : Nat) (p : PortCtx) : State :=
  { s with clu := { s.clu with ports := mset s.clu.ports {} (8 * c + k) p } }

/-! ### Reads -/

/-- An orphan read (R54): CLU_CAUSE.ORPHAN; of several in one step, the lowest BP's and within it the lowest
operand's is the one recorded. -/
def orphanRead (c bp slot operand index : Nat) (entry : Option Nat) (cyc : Word64) (s : State) : State :=
  let cap : OrphanCap := { step := slot, bp := bp, operand := operand, entry := entry }
  let fresh : Bool := s.reg (cluReg c 4) == 0
  let lower : Bool := match mget s.clu.orphan none c with
    | some o => o.step == slot && (bp < o.bp || (bp == o.bp && operand < o.operand))
    | none => false
  let s := cluCause c 5 6 slot index cyc s
  let s := if lower then s.setFld (cluReg c 8) 0 16 index else s
  if fresh || lower then { s with clu := { s.clu with orphan := mset s.clu.orphan none c (some cap) } } else s

/-- Reads one operand at issue, in slot `slot`, for BP `bp` of cluster `c` (R41, R42, R50, R54, R60, R66, R116). A read
whose writer, or whose ISSUE, stands in the slot right before finds the result still in flight (R39, R40): it is an orphan
at once (DESIGN CHOICE, log 122). -/
def readSel (e : Exec) (c bp slot operand : Nat) (x : Sel) (s : State) : Bool × State :=
  match x with
  | .cns n =>
    let s := if mget s.clu.cnsBad false (128 * c + n / 32) then cluCause c 1 2 slot (32 * (n / 32)) e.num s else s
    if mget s.clu.cnsValid false (4096 * c + n) then (mget s.clu.cnsVal false (4096 * c + n), s)
    else (false, orphanRead c bp slot operand n (some n) e.num s)
  | .state b =>
    let k := s.baseCopy
    let s := if mget s.clu.copyBad false (2 ^ 19 * k + 2048 * c + b / 32)
             then cluCause c 2 3 slot (32 * (b / 32)) e.num s else s
    (mget s.clu.copies false (2 ^ 24 * k + 65536 * c + b), s)
  | .inbound i p =>
    let k := 4096 * c + i
    let s := if mget s.clu.inBad false (128 * c + i / 32) then cluCause c 3 4 slot (32 * (i / 32)) e.num s else s
    if mget s.clu.inValid false k ∨ !p ∨ e.ns then (mget s.clu.inVal false k, s)
    else
      let s := { s with clu := { s.clu with inUsed := mset s.clu.inUsed false k true } }
      (mget s.clu.predVal false k, cluCnt c 1 1 s)
  | .const v => (v, s)
  | .cycleBit k => (e.num.getLsbD k, s)
  | .rdata k b =>
    let p := s.port c k
    if p.valid ∨ p.outst then (p.rdata.getLsbD b, s)
    else (false, orphanRead c bp slot operand (0xC800 + 64 * k + b) none e.num s)
  | .illegal => (false, s)

/-- Reads the four operands in order, operand 0 first. -/
def readAll (e : Exec) (c bp slot : Nat) (xs : List Sel) (s : State) : List Bool × State :=
  ((List.range xs.length).zip xs).foldl
    (fun acc p =>
      let (v, t) := readSel e c bp slot p.1 p.2 acc.2
      (acc.1 ++ [v], t)) ([], s)

/-! ### Issue -/

/-- A result goes into the pipeline. -/
def pushEffect (c bp slot dest : Nat) (k : EffKind) (s : State) : State :=
  { s with sch := { s.sch with
      infl := s.sch.infl ++ [{ cluster := c, bp := bp, slot := slot, dest := dest, kind := k }] } }

/-- A verify of inbound slot `i` issues (R68, R69; a cut execution makes no check, R136): it counts, sets VERIFIED, and reports a mismatch one step
later when a used prediction differs from the real value. Of two verifies of one slot in one step the second finds VERIFIED already
1 (DESIGN CHOICE, log 162). -/
def issueVerify (e : Exec) (c bp slot i : Nat) (s : State) : State :=
  let k := 4096 * c + i
  let (real, s) := readSel e c bp slot 0 (.inbound i false) s
  let cnt := mget s.clu.verifies 0 c + 1
  let again := mget s.clu.inVerified false k
  let s := { s with clu := { s.clu with
      verifies := mset s.clu.verifies 0 c cnt, inVerified := mset s.clu.inVerified false k true } }
  let s := if again && e.cutAt.isNone then cluCause c 7 8 slot cnt e.num s else s
  if mget s.clu.inUsed false k ∧ real ≠ mget s.clu.predVal false k then
    pushEffect c bp slot 0xD800 (.mismatch i) s
  else s

/-- BP `bp` of cluster `c` issues word `w` in slot `slot` (R37 to R39, R47, R68). -/
def issueWord (e : Exec) (c bp slot : Nat) (w : InstrWord) (s : State) : State :=
  if !wordParityOk w then cluCause c 0 1 slot bp e.num s
  else
    let result (k : Bool → EffKind) : State :=
      let (vs, t) := readAll e c bp slot (selsOf w) s
      pushEffect c bp slot (destOf w) (k (evalTT (ttOf w) vs)) t
    match kindOf bp w with
    | .nop => s
    | .illegal => cluCause c 4 5 slot bp e.num s
    | .verify i => issueVerify e c bp slot i s
    | .cnsWrite n => result (.cns n)
    | .shadowWrite b => result (.shadow b)
    | .sendWrite i => result (.send i)
    | .addrBit k a => result (.addrBit k a)
    | .wdataBit k a => result (.wdataBit k a)
    | .issue k op => result (.issue k op)

/-- The BP's word of the current slot issues, once. -/
def issueBp (e : Exec) (c bp : Nat) (s : State) : State :=
  if s.sch.issued.contains (256 * c + bp) then s
  else
    let t := issueWord e c bp s.sch.slot (tierWord s c bp s.sch.slot) s
    { t with sch := { t.sch with issued := (256 * c + bp) :: t.sch.issued } }

/-- Every word of the current slot that has not issued issues (R19), the lowest BP first: of several causes that one
cluster finds in the step, that order makes the first (R77; DESIGN CHOICE, log 120). -/
def issueRest (e : Exec) (s : State) : State :=
  forEach (tierWords s s.sch.slot s.sch.slot) (fun w s => issueBp e w.2.1 w.2.2.1 s) s

/-! ### Taking effect -/

/-- Orders effects by cluster and then by BP. -/
def effBefore (a b : Effect) : Bool := a.cluster < b.cluster || (a.cluster == b.cluster && a.bp ≤ b.bp)

/-- Two effects write the same place of one cluster (R76). -/
def sameTarget (a b : Effect) : Bool :=
  a.cluster == b.cluster &&
    (match a.kind, b.kind with
     | .cns x _, .cns y _ => x == y
     | .shadow x _, .shadow y _ => x == y
     | .send x _, .send y _ => x == y
     | .addrBit c x _, .addrBit d y _ => c == d && x == y
     | .wdataBit c x _, .wdataBit d y _ => c == d && x == y
     | .issue c _ r, .issue d _ q => c == d && r && q
     | _, _ => false)

/-- A collision of R76: the cause, the capture of the destination field, and the count; the cycle goes on. Two ISSUEs of
different operations have different fields: that of the highest BP is recorded (DESIGN CHOICE, log 123). -/
def raceAt (e : Effect) (cyc : Word64) (s : State) : State :=
  cluCnt e.cluster 3 1 (cluCause e.cluster 6 7 e.slot e.dest cyc s)

/-- The effects of one step that meet another of a lower BP at the same place, one for each place: those whose
BP is the highest of at least two (R76). Three or more at one place count as one RACE (DESIGN CHOICE, log 123). -/
def raceEffects (l : List Effect) : List Effect :=
  l.filter (fun a => l.any (fun b => sameTarget a b && b.bp < a.bp) && l.all (fun b => !sameTarget a b || b.bp ≤ a.bp))

/-- A result other than an ISSUE takes effect (R45, R46, R48, R57, R71, R68). A write of one CNS entry leaves a parity
failure that its word holds (DEDUCED, log 121). -/
def writeEffect (e : Effect) (s : State) : State :=
  let c := e.cluster
  match e.kind with
  | .cns n v => { s with clu := { s.clu with
      cnsVal := mset s.clu.cnsVal false (4096 * c + n) v, cnsValid := mset s.clu.cnsValid false (4096 * c + n) true } }
  | .shadow b v => { s with clu := { s.clu with shadow := mset s.clu.shadow none (65536 * c + b) (some v) } }
  | .send i v => { s with clu := { s.clu with sendSlot := mset s.clu.sendSlot none (4096 * c + i) (some v) } }
  | .addrBit k a v =>
    let p := s.port c k
    s.setPort c k { p with addr := if v then p.addr ||| BitVec.ofNat 40 (2 ^ a) else p.addr &&& ~~~(BitVec.ofNat 40 (2 ^ a)) }
  | .wdataBit k a v =>
    let p := s.port c k
    let m := BitVec.ofNat 64 (2 ^ a)
    s.setPort c k { p with wdata := if v then p.wdata ||| m else p.wdata &&& ~~~m, wen := p.wen ||| m }
  | .issue _ _ _ => s
  | .mismatch _ => markMismatch (cluCnt c 2 1 s)

/-- The ISSUEs with result 1 that proceed, one for each context: that of the highest BP (R76); given in
ascending order of cluster and context with what they capture (R71). -/
def issueAccesses (l : List Effect) (s : State) : List Access :=
  let isIss (e : Effect) : Bool := match e.kind with | .issue _ _ r => r | _ => false
  let tops := (l.filter isIss).filter (fun a => l.all (fun b => !sameTarget a b || b.bp ≤ a.bp))
  let accs := tops.filterMap (fun e => match e.kind with
    | .issue k op _ =>
      let p := s.port e.cluster k
      some { cluster := e.cluster, ctx := k, op := op, addr := p.addr, wdata := p.wdata, wen := p.wen : Access }
    | _ => none)
  sortBy (fun (a b : Access) => a.cluster < b.cluster || (a.cluster == b.cluster && a.ctx ≤ b.ctx)) accs

/-- What an issue does to its context: WEN clears for every operation but READ (R72), and a returning operation
clears VALID and sets the outstanding flag (R73). -/
def afterIssue (a : Access) (s : State) : State :=
  let p := s.port a.cluster a.ctx
  let p := if a.op = 0 then p else { p with wen := 0 }
  let p := if returning a.op then { p with valid := false, outst := true, blocking := p.blocking || a.op == 0x11 } else p
  cluCnt a.cluster 4 1 (s.setPort a.cluster a.ctx p)

/-- The results of slot `slot` take effect together: field writes and the other results first, then the ISSUEs
(R39, R71, R76, R193). -/
def takeEffects (slot : Nat) (num : Word64) (s : State) : State :=
  let l := sortBy effBefore (s.sch.infl.filter (fun e => e.slot == slot))
  let s := { s with sch := { s.sch with infl := s.sch.infl.filter (fun e => e.slot != slot) } }
  let s := forEach (raceEffects l) (fun e s => raceAt e num s) s
  let s := forEach l writeEffect s
  let accs := issueAccesses l s
  let s := forEach accs afterIssue s
  let s := memGroup num (accs.filter (fun a => a.op < 4)) s
  forEach (accs.filter (fun a => 4 ≤ a.op)) (fun a s => dspIssue num a.cluster a.ctx a.op a.addr a.wdata slot s) s

/-! ### Lookahead and holds -/

/-- A selector of the instruction in slot `r` of cluster `c` is ready in an issue clock of slot `cur` (R51, R116). -/
def selReady (s : State) (ns : Bool) (cur c r : Nat) (x : Sel) : Bool :=
  let earlier (f : WordKind → Bool) : Bool :=
    (tierWords s (cur - 1) (r - 2)).any (fun w => w.2.1 == c && 2 ≤ r && wordParityOk w.2.2.2 && f (kindOf w.2.2.1 w.2.2.2))
  match x with
  | .cns n => mget s.clu.cnsValid false (4096 * c + n) ||
      earlier (fun k => match k with | .cnsWrite m => m == n | _ => false)
  | .inbound i p => mget s.clu.inValid false (4096 * c + i) || (p && !ns)
  | .rdata k _ => (s.port c k).valid &&
      !earlier (fun w => match w with | .issue d op => d == k && returning op | _ => false)
  | _ => true

/-- A selector that waiting alone can make ready is ready: in a held or wait clock only these count (log 22). -/
def selArrived (s : State) (ns : Bool) (c : Nat) (x : Sel) : Bool :=
  match x with
  | .inbound i p => mget s.clu.inValid false (4096 * c + i) || (p && !ns)
  | .rdata k _ => (s.port c k).valid || !(s.port c k).outst
  | _ => true

/-- The selectors that a tier word reads; a word with bad parity reads none (R37). -/
def readsOfWord (bp : Nat) (w : InstrWord) : List Sel :=
  if wordParityOk w then readsOf (kindOf bp w) w else []

/-- Clusters that present a hold request in an issue clock of slot `cur` (R90). -/
def requestsIssuing (s : State) (ns : Bool) (cur : Nat) : List Nat :=
  (((tierWords s (cur + 1) (cur + 4)).filter (fun w =>
    (readsOfWord w.2.2.1 w.2.2.2).any (fun x => !selReady s ns cur w.2.1 w.1 x))).map (fun w => w.2.1)).dedup

/-- Clusters that present a hold request in a held or wait clock, for the window slots `lo` to `hi`. -/
def requestsWaiting (s : State) (ns : Bool) (lo hi : Nat) : List Nat :=
  (((tierWords s lo hi).filter (fun w =>
    (readsOfWord w.2.2.1 w.2.2.2).any (fun x => !selArrived s ns w.2.1 x))).map (fun w => w.2.1)).dedup

/-- An operand of the slot about to issue is still to come, so the slot cannot issue (R53, log 22). -/
def headBlocked (s : State) (ns : Bool) : Bool := (requestsWaiting s ns s.sch.slot s.sch.slot).isEmpty == false

/-! ### The BPs' commands -/

/-- Word kinds that each command's row concerns. -/
def isNop (k : WordKind) : Bool := match k with | .nop => true | _ => false
def isCnsWrite (k : WordKind) : Bool := match k with | .cnsWrite _ => true | _ => false
def isShadowWrite (k : WordKind) : Bool := match k with | .shadowWrite _ => true | _ => false
def isSendWrite (k : WordKind) : Bool := match k with | .sendWrite _ => true | _ => false
def isAddrBit (k : WordKind) : Bool := match k with | .addrBit _ _ => true | _ => false
def isWdataBit (k : WordKind) : Bool := match k with | .wdataBit _ _ => true | _ => false
def isIssueOf (op : Nat) (k : WordKind) : Bool := match k with | .issue _ o => o == op | _ => false
def isVerify (k : WordKind) : Bool := match k with | .verify _ => true | _ => false

/-- The word fits a command's row: it is of the row's kind, or its parity is bad, or it is illegal (R37, R47:
such a word issues without effect in any row). -/
def fits (p : WordKind → Bool) (bp : Nat) (w : InstrWord) : Bool :=
  !wordParityOk w || p (kindOf bp w) || kindOf bp w == .illegal

end Sys2Proof.Machine
end

