-- ==== Sys2Proof/Machine/Control.lean ====
section
/-!
DEFINITION. Machine/Control.lean: what cycles share: discards, squashes, fault stops, READY, commits, checkpoints,
hold and wait sources, the throttle, and one step clock (spec/03_design_cycle.md, R80 to R115;
spec/04_speculation.md, R116 to R150, R492).
-/
namespace Sys2Proof.Machine

/-! ### Cycle numbers -/

/-- U of R88: the finished cycles that have neither committed nor been squashed. -/
def State.U (s : State) : Nat := s.sch.cycles.length

/-- SCH_CTRL.DEPTH and PAUSE. -/
def State.depth (s : State) : Nat := s.fld Reg.SCH_CTRL 1 2
def State.paused (s : State) : Bool := s.bit Reg.SCH_CTRL 0

/-- The number of the next cycle to execute: the one after the last finished or committed cycle. -/
def nextNum (s : State) : Word64 :=
  match s.sch.cycles.getLast? with
  | some c => c.num + 1
  | none => s.sch.committed + 1

/-- The next execution is a re-execution: its number has been started before (R82). -/
def isReexec (s : State) : Bool := cycLe (nextNum s) s.sch.highest

/-- The next execution is NS (R117): a re-execution, or one under R196 or R370. -/
def nextNs (s : State) : Bool := isReexec s || s.mem.overflow.isSome || s.dsp.exhaust.isSome

/-! ### The state of the run (R102) -/

/-- STATE follows PAUSE, the execution and the checkpoint copy. A passage from RUNNING, FROZEN or CKPT to PAUSED
raises SCH_PAUSED; the stay in HOLD is a long hold (R446). -/
def schSettle (s : State) : State :=
  let set (t : SchState) (s : State) : State := { s with sch := { s.sch with st := t } }
  match s.sch.st with
  | .idle | .faultStop | .rewind => s
  | _ =>
    if s.sch.applyFrozen then set .frozen s
    else if s.sch.ckptCopy.isSome then set .ckpt s
    else if s.paused && s.sch.exec.isNone then
      let was := s.sch.st
      let s := set .paused s
      if was = .paused then s else raise 0x084 { s with pwr := { s.pwr with longHold := true } }
    else set .running s

/-! ### Discards -/

/-- What executions of the cycles that `keep` does not name hold is dropped, freed or withdrawn (R118, R134);
discarded finished cycles count (R150). -/
def discardCycles (keep : Word64 → Bool) (s : State) : State :=
  let gone := s.sch.cycles.filter (fun c => !keep c.num)
  let s := spcAdd 5 ((gone.map (fun c => c.clks)).sum) (spcAdd 4 gone.length s)
  let s := { s with
    sch := { s.sch with cycles := s.sch.cycles.filter (fun c => keep c.num), opened := none }
    lnk := { s.lnk with tx := s.lnk.tx.filter (fun t => keep t.cyc),
                        recs := s.lnk.recs.map (fun r => if keep r.cyc then r else { r with delivNow := false }) } }
  dspDiscard keep (dropMem keep s)

/-- The working state of the clusters clears, as at a boundary (R49, R58, R62, R72, R73). -/
def clearWork (s : State) : State :=
  { s with
    clu := { s.clu with
      cnsValid := [], shadow := [], inVal := [], inValid := [], inUsed := [], inVerified := [], inBad := [],
      inArriving := [], predVal := [], ports := [], sendSlot := [], rdArriving := [], verifies := [], cause := [],
      orphan := [], firstPar := none }
    mem := { s.mem with reads := [] }
    sch := { s.sch with infl := [], issued := [] } }

/-- The execution ends without a result: it counts as discarded, with its clocks up to `clks`. -/
def endDiscarded (e : Exec) (clks : Nat) (s : State) : State :=
  let s := spcAdd 5 clks (spcAdd 4 1 s)
  let s := discardCycles (fun c => cycLt c e.num) s
  { s with sch := { s.sch with exec := none } }

/-- A fault stop (R22, R23, R104): every uncommitted cycle is discarded, the last committed one stays, and the
step clock stops at a boundary. A rewind that is still checking its slot leaves FAULT_STOP only when it ends with OK. -/
def faultStop (s : State) : State :=
  if s.sch.st = .faultStop then { s with sch := { s.sch with fatal := false } }
  else
    let s := match s.sch.exec with
      | some e => endDiscarded e (s.clock - e.startClk) s
      | none => s
    let s := clearWork (discardCycles (fun c => cycLe c s.sch.committed) s)
    let s := { s with
      sch := { s.sch with st := .faultStop, rewindFrom := .faultStop, phase := .start, slot := 0, fatal := false, commitQ := [] }
      wave := { s.wave with lateHeld := false, sqPend := none }
      pwr := { s.pwr with longHold := true } }
    ledAdd 7 1 (raise 0x080 (setPause s))

/-! ### Commit-wave messages (R128, R130, R131) -/

/-- A commit-wave message (R128). -/
def waveMsg (type cause : Nat) (origin : BitVec 6) (gen : BitVec 16) (cyc : Word64) : Word64 :=
  BitVec.ofNat 64 (2 ^ 60 * type + 2 ^ 58 * cause + 2 ^ 50 * origin.toNat + 2 ^ 32 * gen.toNat + cyc.toNat % 2 ^ 32)

/-- The module is the conductor. -/
def isConductor (s : State) : Bool := s.wave.conductor == s.wave.module

/-- The wave has no other member. -/
def soleMember (s : State) : Bool := s.wave.members == BitVec.ofNat 64 (2 ^ s.wave.module.toNat)

/-- A message inside the cycle controller is issued in this clock (R131). -/
def waveSelf (m : Word64) (s : State) : State :=
  { s with wave := { s.wave with selfMsgs := s.wave.selfMsgs ++ [(s.clock, m)] } }

/-- A message to the conductor function: towards the root, or inside the cycle controller (R130, R131). -/
def waveUp (m : Word64) (s : State) : State :=
  if isConductor s then waveSelf m s
  else match s.wave.parent with
    | some p => waveOut p.toNat m s
    | none => s

/-- A message to every child. -/
def waveDown (m : Word64) (s : State) : State := forEach s.wave.children (fun p s => waveOut p.toNat m s) s

/-! ### READY (R132, R133) -/

/-- A stale-pending record for cycle `n` remains. -/
def staleFor (s : State) (n : Word64) : Bool := s.lnk.recs.any (fun r => r.stale && r.cyc == n)

/-- The relay of a SQUASH_REQ is still to be processed, or the request itself is about to leave (R124, R132). -/
def relayWait (s : State) : Bool := 0 < s.wave.relaysDue || (s.wave.sqPend.isSome && !soleMember s)

/-- READY for a finished cycle is held back by Aster's queue or gate alone (AST_STAT of GATE_WAIT, R314). -/
def asterHolds (s : State) : Bool :=
  s.sch.cycles.any (fun c => c.st == .verifying && !relayWait s && !staleFor s c.num && astAwaits s c.num)

/-- Finished cycles for which nothing withholds READY any more send it, in cycle order. -/
def readyPending (s : State) : State :=
  if s.sch.st = .faultStop then s
  else forEach s.sch.cycles (fun c s =>
    if c.st = .verifying ∧ !relayWait s ∧ !staleFor s c.num ∧ !astWithholds s c.num then
      let s := { s with sch := { s.sch with cycles := s.sch.cycles.map (fun d => if d.num = c.num then { d with st := .ready } else d) } }
      spcAdd 12 1 (waveUp (waveMsg 1 0 s.wave.module s.wave.gen c.num) s)
    else s) s

/-- Every finished cycle is to send READY again (R133). -/
def readyAgain (s : State) : State :=
  readyPending { s with sch := { s.sch with cycles := s.sch.cycles.map (fun c => { c with st := .verifying }) } }

/-! ### Squash and replay (R134, R146, R147) -/

/-- A squash of cycle `n` is decided; `cause` is 0 verify mismatch, 1 re-verify mismatch, 2 parity. The executions of `n`
and of later cycles are discarded, and a later executing cycle is cut. Of several in one clock the lowest governs (R145). -/
def squash (n : Word64) (cause : Nat) (s : State) : State :=
  let s := discardCycles (fun c => cycLt c n || s.sch.exec.any (fun e => e.num == c)) s
  let s := if s.sch.exec.any (fun e => cycLt n e.num) then cutExec s else s
  { s with wave := { s.wave with sqPend := match s.wave.sqPend with
      | some p => if cycLt n p.1 then some (n, cause) else some p
      | none => some (n, cause) } }

/-- At the end of the clock the squash decided in it counts, and SQUASH_REQ is sent in a wave of several members (R134). -/
def squashSend (s : State) : State :=
  match s.wave.sqPend with
  | none => s
  | some p =>
    let s := spcAdd (6 + p.2) 1 { s with wave := { s.wave with sqPend := none } }
    if soleMember s then s
    else
      let s := spcAdd 9 1 (waveUp (waveMsg 3 p.2 s.wave.module s.wave.gen p.1) s)
      { s with wave := { s.wave with
          relaysDue := s.wave.relaysDue + 1
          reqFrom := match s.wave.reqFrom with
            | some k => some (if cycLt p.1 k then p.1 else k)
            | none => some p.1 } }

/-- An execution of cycle `n` is aborted for parity (R146, R147, R451). -/
def parityAbort (n : Word64) (s : State) : State :=
  let k := ((s.sch.parityCnt.find? (fun p => p.1 == n)).map (fun p => p.2)).getD 0
  let s := match s.clu.firstPar with
    | some c => ledAdd (64 + c) 1 s
    | none => s
  let s := (s.setReg64 Reg.SCH_REPLAY_CYC n).setFld Reg.SCH_REPLAY 0 3 (min 4 (k + 1))
  if 3 ≤ k then faultStop (raise 0x091 ((spcAdd 8 1 s).setBit Reg.SCH_REPLAY 3 true))
  else
    let s := { s with sch := { s.sch with parityCnt := s.sch.parityCnt.filter (fun p => p.1 != n) ++ [(n, k + 1)] } }
    squash (s.sch.committed + 1) 2 (raise 0x090 s)

/-! ### Checkpoints (R109 to R112, R184) -/

/-- Bytes of a checkpoint slot under the present SCH_CKPT_CTRL (the slot table of R110). -/
def ckptBytesOf (s : State) : Nat :=
  4096 + s.clusters * 8704 + (if s.bit Reg.SCH_CKPT_CTRL 17 then s.bankCount * 65536 else 0) +
    (if s.bit Reg.SCH_CKPT_CTRL 18 then
      ((s.img.memdecl.mems.filter (fun m => m.ckpt)).map (fun m => (8 * m.words + 4095) / 4096 * 4096)).sum else 0)

/-- The slot stride (R111). -/
def ckptStride (s : State) : Nat := (ckptBytesOf s + 2 ^ 20 - 1) / 2 ^ 20 * 2 ^ 20

/-- The usable slot count (R111). -/
def usableSlots (s : State) : Nat :=
  min (s.fld Reg.SCH_CKPT_CTRL 8 6 + 1) (s.img.memdecl.ckptBytes * s.stacks / ckptStride s)

/-- A checkpoint has failed or could not be taken. -/
def ckptFail (s : State) : State := raise 0x087 (s.setBit Reg.SCH_CKPT_STATUS 13 true)

/-- A checkpoint of the cycle `n` that has just committed is called for (R109). -/
def ckptCalled (s : State) (n : Word64) : Bool :=
  s.sch.ckptNow || (s.bit Reg.SCH_CKPT_CTRL 0 && n.toNat % 2 ^ s.fld Reg.SCH_CKPT_CTRL 1 5 == 0)

/-- The copy of a checkpoint begins (R110, R111). -/
def ckptStart (n : Word64) (s : State) : State :=
  if !ckptCalled s n then s
  else
    let s := { s with sch := { s.sch with ckptNow := false } }
    let u := usableSlots s
    if u = 0 then ckptFail s
    else
      let k := s.sch.ckptNext % u
      schSettle { s with sch := { s.sch with
        ckptCopy := some { slot := k, num := n, base := k * ckptStride s, size := ckptBytesOf s, time := timeNs s, banks := s.bit Reg.SCH_CKPT_CTRL 17,
                           hbm := s.bit Reg.SCH_CKPT_CTRL 18, partial' := s.img.memdecl.mems.any (fun m => !m.ckpt) },
        ckptNext := (k + 1) % u, slots := mset s.sch.slots {} k {} } }

/-! ### Commit (R118, R139) -/

/-- The finished cycle `c` commits: every effect of R118 is released, and what a hub still holds of it for a peer is never
transmitted (R124). -/
def commitCycle (c : CycRec) (s : State) : State :=
  let n := c.num
  let es := s.mem.queue.filter (fun e => e.cyc == n && !e.committed)
  let s := { s with
    sch := { s.sch with
      committed := n, commitClk := stepNo s, comCopy := c.copy, cycles := s.sch.cycles.filter (fun d => d.num != n),
      parityCnt := s.sch.parityCnt.filter (fun p => p.1 != n) }
    lnk := { s.lnk with tx := s.lnk.tx.filter (fun t => t.cyc != n), recs := s.lnk.recs.filter (fun r => r.cyc != n),
                        waiting := s.lnk.waiting.filter (fun w => w.cyc != n) } }
  let p := trigProbes s c.copy
  let s := lksCommit n p es (!s.ast.armed) s
  let s := astCommit n p (actProbes s c.copy) s
  let s := dspCommit n (diRelease (fun k => k != n) (doCommit n c.copy (commitMem n s)))
  ckptStart n (spcAdd 2 c.heldClks (spcAdd 1 c.issueClks (spcAdd 0 1 s)))

/-- The commit of the cycle after the last committed one waits: for a checkpoint copy (R110), for an entry of the
DO queue (R286), or behind another. -/
def commitWaits (s : State) : Bool :=
  s.sch.ckptCopy.isSome || (mapsDo s && 4 ≤ s.glv.doQueue.length)

/-- A COMMIT for the cycle after the last committed one takes effect, or, when that cycle is discarded or
executing, is held for a late commit (R139, R141). -/
def takeCommit (s : State) : State :=
  match s.sch.cycles with
  | c :: _ => if c.num = s.sch.committed + 1 then commitCycle c s
              else { s with wave := { s.wave with lateHeld := true } }
  | [] => { s with wave := { s.wave with lateHeld := true } }

/-- Commits that wait are carried out in order as far as they can be. -/
def commitQueued (fuel : Nat) (s : State) : State :=
  match fuel with
  | 0 => s
  | k + 1 => match s.sch.commitQ with
    | [] => s
    | _ :: t => if commitWaits s || s.wave.lateHeld then s
                else commitQueued k (takeCommit { s with sch := { s.sch with commitQ := t } })

/-- A COMMIT has arrived: it takes effect in the next clock, or waits its turn (R139). -/
def applyCommit (s : State) : State :=
  { s with sch := { s.sch with
    commitQ := s.sch.commitQ ++ [s.sch.committed + BitVec.ofNat 64 (s.sch.commitQ.length + 1)] } }

/-! ### Waits of the commit point and the start point (R88, R96) -/

/-- The execution may pass the commit point. -/
def commitOpen (s : State) : Bool :=
  s.sch.exec.any (fun e => e.aborted || e.cutAt.isSome) || s.U < max s.depth 1

/-- The wait for U, for a free partition or for free slots at the start point: source DEPTH (R88, R116, R191,
R196, R370). -/
def depthOpen (s : State) : Bool :=
  s.U ≤ min s.depth 1 && (!nextNs s || s.U == 0) &&
    (if s.mem.overflow.isSome then allPartitionsFree s else partitionFree s) &&
    dspFree s

/-- A run that an apply keeps from beginning cycle T or a later one (R105). -/
def applyHolds (s : State) : Bool :=
  match s.sch.applyT with
  | some t => cycLe t (nextNum s) || s.sch.applyFrozen
  | none => false

/-- The waits of source CONTROL: pause, apply, checkpoint copy, and a power state other than HOLD or RUN
(R102, R105, R110, R440). -/
def controlOpen (s : State) : Bool :=
  (!s.paused || isReexec s) && !applyHolds s && s.sch.ckptCopy.isNone && s.pwr.mode == .on && s.pwr.trans.isEmpty &&
    !(s.sch.st == .rewind) && s.sch.rewindSlot.isNone

/-- Throttle wait clocks that are left. -/
def throttleLeft (s : State) : Nat := s.sch.thrH - s.sch.thrWaited

/-- Some lane port of the module is in DESYNC (R265). -/
def anyDesync (s : State) : Bool := s.lnk.ports.any (fun p => p.2.desync)

/-! ### The throttle (R100, R443 to R447) -/

/-- The level L in use. -/
def throttleL (s : State) : Nat := max (max s.pwr.lth s.pwr.lramp) (s.fld Reg.PWR_THROT 0 6)

/-- The accumulator clears when L changes (R100). -/
def throttleSeen (s : State) : State :=
  if throttleL s = s.sch.thrLevel then s else { s with sch := { s.sch with thrAcc := 0, thrLevel := throttleL s } }

/-- The procedure of R100, once. -/
def throttleStep (s : State) : State :=
  let s := throttleSeen s
  let L := s.sch.thrLevel
  if L = 0 then { s with sch := { s.sch with thrH := 0 } }
  else
    let a := s.sch.thrAcc + L * (s.N + 12)
    let h := a / (64 - L)
    { s with sch := { s.sch with thrAcc := a - h * (64 - L), thrH := h } }

/-- The ramp begins: ramp time 0 (R447). -/
def rampZero (s : State) : State :=
  throttleSeen { s with pwr := { s.pwr with longHold := false, rampNext := false, rampT := some 0, lramp := 63 } }

/-- At each start point. The ramp of a long hold within a cycle begins here (R446). -/
def throttlePoint (s : State) : State :=
  let s := if s.pwr.rampNext then rampZero s else s
  throttleStep { s with sch := { s.sch with thrWaited := 0 } }

/-- L may have changed: the accumulator clears if it has, and during a throttle wait the procedure runs afresh (R445). -/
def throttleChanged (s : State) : State :=
  if throttleL s ≠ s.sch.thrLevel ∧ s.sch.phase = .start ∧ 0 < throttleLeft s then throttleStep s else throttleSeen s

/-! ### Hold and wait sources (R90, R96) -/

/-- Sources that a wait of the present point asserts: 3 THROTTLE, 5 DEPTH, 6 CONTROL. -/
def waitSources (s : State) : BitVec 7 :=
  match s.sch.phase with
  | .commitPoint => if commitOpen s then 0 else 0x20
  | .start => (if 0 < throttleLeft s then (8 : BitVec 7) else 0) ||| (if depthOpen s then 0 else 0x20) |||
      (if controlOpen s then 0 else 0x40)
  | .issue => 0

/-- Tree sources presented in this clock: 0 OPERAND, 1 HBM, 2 LANE, 4 TRACE. `operand` lists the clusters that
present a request. -/
def treeSources (s : State) (operand : Bool) : BitVec 7 :=
  (if operand then (1 : BitVec 7) else 0) ||| (if hbmHold s then 2 else 0) ||| (if anyDesync s then 4 else 0) |||
    (if s.lks.bp then 0x10 else 0)

/-- The hold tree's output in this clock (R91). -/
def treeOut (s : State) : BitVec 7 := s.sch.holdHist.getD 3 0

/-- The image's next slot issues no more: the issue steps are over, or the execution is cut and B0 is due. A cut in the last
clocks of the issue steps leaves their end where it is (DESIGN CHOICE, log 125). -/
def issueOver (s : State) (e : Exec) : Bool :=
  s.N ≤ s.sch.slot || (match e.cutAt with | some c => c + 4 ≤ s.clock | none => false)

/-- The slot about to issue is held in this clock (R92). -/
def slotHeld (s : State) (e : Exec) : Bool := treeOut s != 0 || headBlocked s e.ns

/-- The clusters that present a request for their windows in this clock: of an issue clock, of a held one, or at the start
point (R90). -/
def requestsNow (s : State) : List Nat :=
  match s.sch.phase, s.sch.exec with
  | .issue, some e =>
    if issueOver s e then []
    else if slotHeld s e then requestsWaiting s e.ns s.sch.slot (s.sch.slot + 3)
    else requestsIssuing s e.ns s.sch.slot
  | .start, _ => if s.img.valid && s.sch.opened.isSome then requestsWaiting s (nextNs s) 0 3 else []
  | _, _ => []

/-- CLU_CNT_HOLD of each cluster that requests a hold counts the clock (R78, R79). -/
def countRequests (cs : List Nat) (s : State) : State := forEach cs (fun c s => cluCnt c 0 1 s) s

/-- The sources asserted now (SCH_HOLD_SRC). -/
def sourcesNow (s : State) : BitVec 7 :=
  if s.img.valid then treeSources s (!(requestsNow s).isEmpty) ||| waitSources s else 0

/-- `n` held or wait clocks count for the sources that caused them (R115), into the run of R98, and make it a long hold when
the run is long enough (R446). -/
def countHelds (n : Nat) (src : BitVec 7) (s : State) : State :=
  let s := forEach (List.range 7) (fun k s => if src.getLsbD k then heldCnt k n s else s) s
  let run := s.sch.holdRun + n
  let long := 1280 * s.fld Reg.PWR_RAMP 8 8 ≤ run
  { s with sch := { s.sch with holdRun := run }, pwr := { s.pwr with longHold := s.pwr.longHold || long } }

/-- A held or wait clock. -/
def countHeld (src : BitVec 7) (s : State) : State := countHelds 1 src s

/-- An issue clock after held clocks of the same cycle: the run of R98 ends, and a long hold within the cycle delays nothing
(R446). -/
def issueResumes (s : State) : State :=
  let s := { s with sch := { s.sch with holdRun := 0, holdRaised := false } }
  if s.pwr.longHold then { s with pwr := { s.pwr with longHold := false, rampNext := true } } else s

end Sys2Proof.Machine
end

