-- ==== Sys2Proof/Machine/Wave.lean ====
section
/-!
DEFINITION. Machine/Wave.lean: the commit wave: what a hub does with a stripe of values, the conductor's part and the
module's, and what a clock of the wave brings about (spec/04_speculation.md, R122 to R145, R492).
-/
namespace Sys2Proof.Machine

/-! ### A message -/

/-- TYPE, CAUSE, ORIGIN, GEN and CYCLE (R128). -/
def wmType (m : Word64) : Nat := m.toNat / 2 ^ 60
def wmCause (m : Word64) : Nat := m.toNat / 2 ^ 58 % 4
def wmOrigin (m : Word64) : BitVec 6 := BitVec.ofNat 6 (m.toNat / 2 ^ 50)
def wmGen (m : Word64) : BitVec 16 := BitVec.ofNat 16 (m.toNat / 2 ^ 32)

/-- The cycle number that CYCLE stands for (R129). -/
def wmCycle (m base : Word64) : Word64 :=
  let d := (m.toNat + 2 ^ 64 - (base.toNat + 1)) % 2 ^ 32
  if d < 2 ^ 31 then base + 1 + BitVec.ofNat 64 d else base + 1 + BitVec.ofNat 64 d - BitVec.ofNat 64 (2 ^ 32)

/-- The message keeps to R128. -/
def wmLegal (m : Word64) : Bool :=
  let t := wmType m
  1 ≤ t && t ≤ 4 && m.toNat / 2 ^ 56 % 4 == 0 && m.toNat / 2 ^ 48 % 4 == 0 && wmCause m != 3 &&
    ((t == 3 || t == 4) || wmCause m == 0)

/-- READY and SQUASH_REQ travel to the conductor. -/
def goesUp (m : Word64) : Bool := wmType m == 1 || wmType m == 3

/-! ### Value stripes received (R125, R126, R137, R138, R251) -/

/-- Wave generation `a` is newer than `b` (R122). -/
def newer (a b : BitVec 16) : Bool := let d := (a - b).toNat; 1 ≤ d && d ≤ 32767

/-- The peer module of a port by the link map. -/
def peerOf (s : State) (p : Nat) : Option (BitVec 6) := (mget s.plat.peers none p).map (fun x => x.1)

/-- The value is stale: a relay that names its sender is newer (R125). -/
def staleValue (s : State) (p : Nat) (cyc : Word64) (gen : BitVec 16) : Bool :=
  s.wave.relays.any (fun r => peerOf s p == some r.origin && cycLe r.cycle cyc && newer r.gen gen)

/-- A re-verify mismatch is reported for a cycle (R137, R138). -/
def reverifyFail (n : Word64) (s : State) : State :=
  match s.sch.exec with
  | some e =>
    if e.num = n then { s with sch := { s.sch with
        exec := some { e with mismatch := true, reverify := !e.mismatch || e.reverify } } }
    else if s.sch.cycles.any (fun c => c.num == n) then squash n 1 s else s
  | none => if s.sch.cycles.any (fun c => c.num == n) then squash n 1 s else s

/-- One value is recorded: a delivered record is compared, any other one is replaced. The Boolean says that it
differs from a delivered record. -/
def recordValue (w : WaitStripe) (j : Nat) (s : State) : State × Bool :=
  let v := w.values.getLsbD j
  let fresh : HubRec := { port := w.port, cyc := w.cyc, txpos := w.txpos, slot := w.slot + j, val := v, gen := w.gen }
  match findRec s.lnk.recs w.port w.cyc w.txpos (w.slot + j) with
  | some r =>
    let new := if r.delivered then { r with val := v, gen := w.gen, stale := false } else fresh
    ({ s with lnk := { s.lnk with recs := s.lnk.recs.map (fun x => if x = r then new else x) } }, r.delivered && r.val != v)
  | none => ({ s with lnk := { s.lnk with recs := s.lnk.recs ++ [fresh] } }, false)

/-- The values of a stripe are recorded, and a difference is reported for its cycle. -/
def recordStripe (w : WaitStripe) (s : State) : State :=
  let (s, differs) := (List.range (w.countM1 + 1)).foldl (fun (acc : State × Bool) (j : Nat) =>
    let (t, d) := recordValue w j acc.1
    (t, acc.2 || d)) (s, false)
  let s := if differs then reverifyFail w.cyc s else s
  readyPending s

/-- A stripe under R125. -/
def treatStripe (w : WaitStripe) (s : State) : State :=
  if staleValue s w.port w.cyc w.gen then lnkCnt w.port 4 (w.countM1 + 1) s
  else if newer w.gen s.wave.gen then { s with lnk := { s.lnk with waiting := s.lnk.waiting ++ [w] } }
  else recordStripe w s

/-- A protocol error (R140): the event and a fault stop. -/
def protocolError (s : State) : State := faultStop (raise 0x094 s)

/-! ### The conductor (R142, R143) -/

/-- Every member's READY for `c + 1` is held. -/
def condComplete (s : State) : Bool :=
  (List.range 64).all (fun j => !s.wave.members.getLsbD j || s.wave.readys.contains (s.wave.c + 1, BitVec.ofNat 6 j))

/-- The conductor issues COMMIT for `c + 1` in the clock after it holds every member's READY (R142). -/
def condIssue (s : State) : State :=
  if s.img.valid && isConductor s && s.sch.st != .faultStop && condComplete s then
    let n := s.wave.c + 1
    let m := waveMsg 2 0 s.wave.module s.wave.condGen n
    waveDown m (waveSelf m { s with wave := { s.wave with c := n, readys := s.wave.readys.filter (fun r => r.1 != n) } })
  else s

/-- READY at the conductor (R142). -/
def condReady (m : Word64) (s : State) : State :=
  let n := wmCycle m s.wave.c
  let d := (n - s.wave.c).toNat
  if wmGen m = s.wave.condGen ∧ 1 ≤ d ∧ d ≤ 3 then
    let r := (n, wmOrigin m)
    if s.wave.readys.contains r then s
    else { s with wave := { s.wave with
      readys := s.wave.readys ++ [r]
      readyNow := (s.clock, if s.wave.readyNow.1 = s.clock then s.wave.readyNow.2 + 1 else 1) } }
  else spcAdd 14 1 s

/-- SQUASH_REQ at the conductor (R143). READYs accepted in the same clock come behind it and are discarded (R145). -/
def condSquash (m : Word64) (s : State) : State :=
  let s := if s.wave.readyNow.1 = s.clock then spcAdd 14 s.wave.readyNow.2 s else s
  let k := wmCycle m s.wave.c
  let j := if cycLt s.wave.c k then k else s.wave.c + 1
  let g := s.wave.condGen + 1
  let r := waveMsg 4 (wmCause m) (wmOrigin m) g j
  waveDown r (waveSelf r { s with wave := { s.wave with condGen := g, readys := [], readyNow := (0, 0) } })

/-! ### The module (R137, R139 to R141) -/

/-- COMMIT at the module. -/
def modCommit (m : Word64) (s : State) : State :=
  let n := wmCycle m s.sch.committed
  let next := s.sch.committed + BitVec.ofNat 64 (s.sch.commitQ.length + b2n s.wave.lateHeld + 1)
  if cycLe n s.sch.committed then spcAdd 15 1 s
  else if cycLt n next then s
  else if n ≠ next then protocolError s
  else match s.sch.cycles.find? (fun c => c.num == n) with
    | some c => if c.st = .ready then applyCommit s else protocolError s
    | none => if cycLt s.sch.hiFinished n then protocolError s else applyCommit s

/-- Delivered records of values that `origin` sent for cycle `j` or a later one become stale-pending (R137). -/
def markStale (origin : BitVec 6) (j : Word64) (s : State) : State :=
  { s with lnk := { s.lnk with recs := s.lnk.recs.map (fun r =>
      if r.delivered && peerOf s r.port == some origin && cycLe j r.cyc then { r with stale := true } else r) } }

/-- Stripes that waited for the generation that has come are treated again (R125). -/
def retreat (s : State) : State :=
  let w := s.lnk.waiting
  forEach w treatStripe { s with lnk := { s.lnk with waiting := [] } }

/-- SQUASH_RELAY at the module (R133, R137). -/
def modRelay (m : Word64) (s : State) : State :=
  let j := wmCycle m s.sch.committed
  let mine : Bool := wmOrigin m == s.wave.module
  let due := if mine then s.wave.relaysDue - 1 else s.wave.relaysDue
  let s := { s with wave := { s.wave with
    gen := wmGen m, relaysDue := due, reqFrom := if due = 0 then none else s.wave.reqFrom
    relays := s.wave.relays ++ [{ cycle := j, origin := wmOrigin m, gen := wmGen m }] } }
  readyAgain (retreat (markStale (wmOrigin m) j (spcAdd 10 1 s)))

/-! ### Along the tree (R130) -/

/-- The message goes on along the tree. -/
def forward (m : Word64) (s : State) : State :=
  if goesUp m then (if isConductor s then s else waveUp m s) else waveDown m s

/-- The message is applied here: by the conductor function, or by the module. -/
def applyWave (m : Word64) (s : State) : State :=
  if wmType m = 1 then (if isConductor s then condReady m s else s)
  else if wmType m = 3 then (if isConductor s then condSquash m s else s)
  else if wmType m = 2 then modCommit m s
  else modRelay m s

/-! ### One clock of the wave (R131, R139, R142) -/

/-- What a new clock begins with: COMMITs that arrived in the clock before take effect, then the conductor issues a COMMIT,
then the messages that were issued inside the cycle controller in the clock before arrive, in order. The order among the three
is DEDUCED (log 127). A module in FAULT_STOP drops what it would apply (R492). -/
def waveClock (s : State) : State :=
  let s := condIssue (commitQueued 8 s)
  let due := s.wave.selfMsgs.filter (fun p => p.1 < s.clock)
  let s := { s with wave := { s.wave with selfMsgs := s.wave.selfMsgs.filter (fun p => s.clock ≤ p.1) } }
  forEach due (fun p s => if s.sch.st = .faultStop then s else applyWave p.2 s) s

end Sys2Proof.Machine
end

