-- ==== Sys2Proof/Machine/Clock.lean ====
section
/-!
DEFINITION. Machine/Clock.lean: one step clock of the module: issue clocks, held clocks, wait clocks and gated ones
(spec/03_design_cycle.md, R80, R81, R89 to R98; spec/17_power_thermal_ledger.md, R439).
-/
namespace Sys2Proof.Machine

/-! ### One step clock -/

/-- What arrives in a clock: words of banks and HBM, and flits. -/
def clockArrive (s : State) : State := vcTick (flitClock (memClock s))

/-- The rest of a step clock: what has arrived becomes valid, shared time and Glove go on, a squash decided in the clock sends
its request, and the next clock begins with the commit wave's part; `pres` are the tree sources that were presented, to which
an access that misses its slot in this clock adds HBM (R207). -/
def clockClose (pres : BitVec 7) (s : State) : State :=
  let s := { s with clu := { s.clu with
      inValid := s.clu.inArriving.foldl (fun m k => mset m false k true) s.clu.inValid, inArriving := [] } }
  let s := { s with clu := { s.clu with
      ports := s.clu.rdArriving.foldl (fun (m : SMap PortCtx) (r : Nat × Word64) =>
        mset m {} r.1 { mget m {} r.1 with rdata := r.2, valid := true, outst := false, blocking := false }) s.clu.ports
      rdArriving := [] } }
  let pres := if hbmHold s then pres ||| 2 else pres
  let s := { s with sch := { s.sch with holdHist := pres :: s.sch.holdHist.take 3 } }
  let s := if asterHolds s then astStat 3 1 s else s
  let s := doDue (glvClock (timeClock s))
  let s := squashSend s
  let s := { s with clock := s.clock + 1 }
  waveClock (if s.sch.fatal then faultStop s else s)

/-- The end of a step clock. -/
def clockEnd (pres : BitVec 7) (s : State) : State := clockClose pres (clockArrive s)

/-- A clock of the issue phase (R81, R92): an issue clock, or a held one. What the issuing instructions report is captured
before a RACE of the step before, whose results take effect at the end of the clock (R77; DESIGN CHOICE, log 124). -/
def issueClock (e : Exec) (s : State) : State :=
  let tree := treeOut s
  let cs := requestsNow s
  let pres := treeSources s (!cs.isEmpty)
  if issueOver s e then clockEnd pres s
  else if slotHeld s e then
    let s := { s with sch := { s.sch with exec := some { e with heldClks := e.heldClks + 1 } } }
    clockEnd pres (countHeld (if tree = 0 then 1 else tree) (countRequests cs s))
  else
    let s := countRequests cs s
    let k := s.sch.slot
    let s := issueResumes { s with sch := { s.sch with exec := some { e with issueClks := e.issueClks + 1 } } }
    let s := injectAt k (issueRest e s)
    let s := if k = 0 then s else takeEffects (k - 1) e.num s
    clockEnd pres { s with sch := { s.sch with slot := k + 1, issued := [] } }

/-- A clock at the commit point or the start point (R81, R94). MEM_CNT_7 leaves out a wait for a free partition while source
CONTROL waits as well (DESIGN CHOICE, log 166). -/
def waitClock (s : State) : State :=
  if !s.img.valid ∨ s.sch.st = .faultStop then clockEnd 0 s
  else
    let cs := requestsNow s
    let pres := treeSources s (!cs.isEmpty)
    let s := countRequests cs s
    let src := waitSources s ||| (if s.sch.phase = .start then treeOut s else 0)
    let s := if src = 0 then s else countHeld src s
    let s := if s.sch.phase = .start then
        let s := { s with sch := { s.sch with thrWaited := s.sch.thrWaited + 1 } }
        if controlOpen s && !partitionFree s then memCnt 7 1 s else s
      else s
    clockEnd pres s

/-- A clock of Doze or Nap (R439): the step clocks, Aster and Larkspur are gated; shared time and Glove go on. -/
def gatedClock (s : State) : State :=
  let s := if s.pwr.mode = .doze then startBursts s.clock (fun pc => !scheduledPc s pc) s else s
  let s := if s.pwr.mode = .doze then vcTick s else s
  let s := doDue (glvClock (timeClock s))
  { s with clock := s.clock + 1, pwr := { s.pwr with gated := s.pwr.gated + 1 } }

/-- One step clock. -/
def clockTick (s : State) : State :=
  if s.pwr.mode ≠ .on then gatedClock s
  else match s.sch.phase, s.sch.exec with
  | .issue, some e => issueClock e s
  | _, _ => waitClock s

/-- The step on an empty queue: one step clock passes while the module is in service. -/
def idle (s : State) : State := if s.up then clockTick s else s

/-- Clocks until `stop` says so; none when it never does within `fuel` clocks. -/
def clocksUntil (fuel : Nat) (stop : State → Bool) (s : State) : Option State :=
  if stop s then some s
  else match fuel with
    | 0 => none
    | n + 1 => clocksUntil n stop (clockTick s)

/-- The commit wave has nothing that a single clock would bring about (R89). -/
def waveQuiet (s : State) : Bool :=
  s.sch.commitQ.isEmpty && s.wave.selfMsgs.isEmpty && s.wave.sqPend.isNone && !(isConductor s && condComplete s)

/-- Nothing is under way that a single clock would bring about, and no source is presented to the hold tree (R91). -/
def quiet (s : State) : Bool :=
  s.hbd.flits.isEmpty && s.hbd.vcs.isEmpty && s.clu.inArriving.isEmpty && s.mem.reads.isEmpty && s.mem.pcReqs.isEmpty && s.glv.doQueue.isEmpty &&
    waveQuiet s && s.sch.holdHist.all (fun h => h == 0) && treeSources s (!(requestsNow s).isEmpty) == 0

/-- `n` wait clocks of source THROTTLE in which nothing else happens. -/
def throttleClocks (n : Nat) (s : State) : State :=
  let k := s.clock
  let ticks := 5 * (k + n) / 8 - 5 * k / 8
  let inc : Int := 5 * 2 ^ 54 + 5 * 2 ^ 14 * rateNow s
  let edges := 10 * (k + n) / 64 - 10 * k / 64
  let s := { s with tim := { s.tim with count := (((s.tim.count : Int) + ticks * inc) % timeMod).toNat } }
  let s := if (List.range 4).any (fun r => (s.region r).st == .running) then glvEdges edges s
           else glvEdges (edges % 2) s
  let s := countHelds n (waitSources s) (if asterHolds s then astStat 3 n s else s)
  { s with clock := k + n, sch := { s.sch with thrWaited := s.sch.thrWaited + n } }

end Sys2Proof.Machine
end

