-- ==== Sys2Proof/Machine/Cycle.lean ====
section
/-!
DEFINITION. Machine/Cycle.lean: the sequencer's commands: the start of a cycle, the BPs' words, the boundary, run
control, applies, checkpoints and rewinds (spec/03_design_cycle.md; spec/02_boolean_processor.md, R43 to R69).
-/
namespace Sys2Proof.Machine

/-! ### Opening a cycle: B8 and B9 (R84, R287) -/

/-- The values that the hubs owe a re-execution of cycle `n`, in slot-table order (R127): of each entry of a hub the values that
it holds recorded and not stale-pending. -/
def redeliveries (n : Word64) (s : State) : List (Nat × Nat) :=
  (List.range s.hbdEntries.length).flatMap (fun i => match s.hbdEntries[i]? with
    | some e => if isHubNi e.src then ((List.range (e.lenM1 + 1)).filter (fun k => heldValue s e n k)).map (fun k => (i, k)) else []
    | none => [])

/-- B8: the working state clears, and a re-execution gets its repeated deliveries; a boundary clock ends the run of R98. -/
def openCycle (s : State) : State :=
  let s := clearWork s
  let n := nextNum s
  { s with
    sch := { s.sch with opened := some n, holdRun := 0, holdRaised := false }
    lnk := { s.lnk with recs := s.lnk.recs.map (fun r => if r.cyc = n then { r with delivNow := false } else r)
                        redeliv := if isReexec s then redeliveries n s else [] } }

/-- B9: the number that B8 opened gets its DI sample, its TDC edges and its DI values. -/
def bindInputs (s : State) : State :=
  match s.sch.opened with
  | none => s
  | some n =>
    let (sampled, s) := diSample n s
    let s := if sampled then tdcAssign n s else s
    diInsert n s

/-- The slots of DI lines as B9 will find them: no read of one ever holds (R287). -/
def diAwaited (s : State) : State :=
  let taken := (s.mapEntries.filter (fun e => e.di)).map (fun e => 4096 * e.cluster + e.index)
  { s with clu := { s.clu with inValid := taken.foldl (fun m k => mset m false k true) s.clu.inValid } }

/-- A clock of B8 to B11, with the window holding slots 0 to `j`. -/
def swapClock (j : Nat) (s : State) : State :=
  if s.sch.st = .faultStop then s
  else
    let cs := requestsWaiting (diAwaited s) (nextNs s) 0 j
    clockEnd (treeSources s (!cs.isEmpty)) (countRequests cs s)

/-- B8 to B11 for the number that is now next. -/
def runWindow (s : State) : State :=
  swapClock 3 (swapClock 2 (swapClock 1 (bindInputs (swapClock 0 (openCycle s)))))

/-- At the start point, B8 to B11 are run again when another number is now next: after an install, a rewind or a squash
(R287; log 148). -/
def reopen (s : State) : State :=
  if s.img.valid && s.sch.phase == .start && s.sch.exec.isNone && s.sch.st != .faultStop && s.sch.st != .idle &&
      s.sch.opened != some (nextNum s)
  then runWindow s else s

/-- The 64-bit cycle number wraps to 0 (R83). -/
def wrapCheck (s : State) : State :=
  if nextNum s = 0 ∧ !isReexec s then raise 0x089 (s.setBit Reg.SCH_STATUS 4 true) else s

/-! ### CYCLE_START (R63, R82, R88, R103, R116, R117) -/

/-- Every condition of a start but the throttle and the tree's output (R94, R97). -/
def startOpen (s : State) : Bool :=
  s.img.valid && s.sch.phase == .start && s.sch.exec.isNone && s.sch.st != .idle && s.sch.st != .faultStop &&
    depthOpen s && controlOpen s

/-- A copy that holds neither the committed state nor that of an uncommitted cycle (R59). -/
def freeCopy (s : State) : Nat :=
  ((List.range 3).find? (fun k => k ≠ s.sch.comCopy && s.sch.cycles.all (fun c => c.copy ≠ k))).getD 0

/-- The predictor value of an inbound slot (R63). -/
def predictorOf (mode : BitVec 2) (last : Bool) : Bool :=
  if mode = 0 then last else if mode = 1 then false else if mode = 2 then true else !last

/-- Predictor values fixed at the first step. -/
def fixPredictors (s : State) : SMap Bool :=
  msetAll [] false ((s.clu.predMode.map (fun p => p.1) ++ s.clu.predLast.map (fun p => p.1)).map (fun k =>
    (k, predictorOf (mget s.clu.predMode 0 k) (mget s.clu.predLast false k))))

/-- A new number counts against SCH_RUN_COUNT (R103). -/
def countRun (s : State) : State :=
  let k := (s.reg Reg.SCH_RUN_COUNT).toNat
  if k = 0 then s
  else
    let s := s.setReg Reg.SCH_RUN_COUNT (BitVec.ofNat 32 (k - 1))
    if k = 1 then setPause s else s

/-- The first issue clock after a long hold is ramp time 0 (R447). -/
def rampStart (s : State) : State :=
  if s.pwr.longHold then rampZero s else s

/-- Step 0 of the next execution. -/
def beginCycle (s : State) : State :=
  let n := nextNum s
  let ns := nextNs s
  let re := isReexec s
  let s := if re then s else countRun { s with sch := { s.sch with highest := n } }
  let s := rampStart (s.setReg64 Reg.SCH_CYCLE n)
  let e : Exec := { num := n, ns := ns, copy := freeCopy s, sole := s.dsp.exhaust.isSome, serial := s.sch.execNo + 1,
                    startClk := s.clock }
  let s := { s with
    clu := { s.clu with predVal := fixPredictors s }
    mem := { s.mem with allFour := if s.mem.overflow.isSome then some n else s.mem.allFour }
    sch := { s.sch with exec := some e, execNo := e.serial, phase := .issue, slot := 0, issued := [], opened := none, holdRun := 0, holdRaised := false } }
  let s := spcAdd 3 1 s
  schSettle (if ns then spcAdd 13 1 s else s)

/-- The throttle wait is over and the hold tree's output is 0. -/
def startFree (s : State) : Bool := throttleLeft s == 0 && treeOut s == 0

/-- What the tree still holds ends, and the throttle wait runs out: clock by clock while something is under way, and at once
after it. -/
def throttleEnd (s : State) : Option State :=
  (clocksUntil 4096 (fun t => startFree t || quiet t) s).map (fun t =>
    if 0 < throttleLeft t then throttleClocks (throttleLeft t) t else t)

/-- The 4 microseconds of a platform with LFC_EN after a long hold, as a throttle wait (R446). -/
def lfcWait (s : State) : Option State :=
  if s.plat.lfcEn && s.pwr.longHold then
    throttleEnd { s with sch := { s.sch with thrH := s.sch.thrWaited + 5120 } }
  else some s

/-- The clocks of a start point up to step 0. A module whose waits do not end by themselves does not start. -/
def startCycle (s : State) : State :=
  let s0 := reopen s
  if !startOpen s0 then s
  else match (throttleEnd s0).bind lfcWait with
    | none => s
    | some t =>
      let t := reopen t
      if startOpen t && treeOut t == 0 then beginCycle t else s

def execCycleStart (s : State) : Host.Outcome State Fault Refusal := run startCycle s

/-! ### The BPs' words (R43 to R48, R67 to R76) -/

/-- The issue clocks have come to slot `k`, or the execution has ended. -/
def slotReached (k : Nat) (s : State) : Bool := s.sch.exec.isNone || s.sch.slot == k

/-- The slot reached is no longer held, or nothing more issues. -/
def slotFree (s : State) : Bool :=
  match s.sch.exec with
  | some e => issueOver s e || (treeOut s == 0 && !headBlocked s e.ns)
  | none => true

/-- The issue clock of slot `k`: the execution and the state that it finds; none when the slot issues no more. -/
def slotIssues (k : Nat) (s : State) : Option (Exec × State) :=
  ((clocksUntil 8192 (slotReached k) s).bind (clocksUntil 8192 slotFree)).bind (fun u =>
    (u.sch.exec.filter (fun e => !issueOver u e)).map (fun e => (e, u)))

/-- A command of a BP: the issue clocks run until the word's slot, then the BP issues its word. A place whose slot
has passed, or whose word is of another kind, issues nothing by this command. -/
def issueAt (kind : WordKind → Bool) (at' : Place) (s : State) : State :=
  let c := at'.cluster.toNat
  let bp := at'.bp.toNat
  let k := at'.slot.toNat
  if s.clusters ≤ c ∨ s.N ≤ k ∨ s.sch.exec.isNone ∨ s.sch.phase ≠ .issue ∨ k < s.sch.slot ∨
      !fits kind bp (tierWord s c bp k) then s
  else match slotIssues k s with
    | some (e, u) => issueBp e c bp u
    | none => s

def execInstrNop (at' : Place) (s : State) : Host.Outcome State Fault Refusal := run (issueAt isNop at') s
def execInstrCnsWrite (at' : Place) (s : State) : Host.Outcome State Fault Refusal := run (issueAt isCnsWrite at') s
def execInstrShadowWrite (at' : Place) (s : State) : Host.Outcome State Fault Refusal := run (issueAt isShadowWrite at') s
def execInstrSendSlotWrite (at' : Place) (s : State) : Host.Outcome State Fault Refusal := run (issueAt isSendWrite at') s
def execPortAddrbit (at' : Place) (s : State) : Host.Outcome State Fault Refusal := run (issueAt isAddrBit at') s
def execPortWdatabit (at' : Place) (s : State) : Host.Outcome State Fault Refusal := run (issueAt isWdataBit at') s
def execIssueRead (at' : Place) (s : State) : Host.Outcome State Fault Refusal := run (issueAt (isIssueOf 0) at') s
def execIssueWrite (at' : Place) (s : State) : Host.Outcome State Fault Refusal := run (issueAt (isIssueOf 1) at') s
def execIssueAtomicAdd (at' : Place) (s : State) : Host.Outcome State Fault Refusal := run (issueAt (isIssueOf 2) at') s
def execIssueAtomicSwap (at' : Place) (s : State) : Host.Outcome State Fault Refusal := run (issueAt (isIssueOf 3) at') s
def execIssueSend (at' : Place) (s : State) : Host.Outcome State Fault Refusal := run (issueAt (isIssueOf 0x10) at') s
def execIssueSendBlocking (at' : Place) (s : State) : Host.Outcome State Fault Refusal := run (issueAt (isIssueOf 0x11) at') s
def execVerify (at' : Place) (s : State) : Host.Outcome State Fault Refusal := run (issueAt isVerify at') s

/-! ### B0 to B3 (R69, R84) -/

/-- One boundary clock of the execution; nothing more of it runs once a fault stop has ended it. -/
def bndClock (f : Exec → State → State) (s : State) : State :=
  match s.sch.exec with
  | some e => clockEnd (treeSources s false) (f e s)
  | none => s

/-- Clusters with a slot that is USED and not VERIFIED. -/
def uncovered (s : State) : List Nat :=
  ((s.clu.inUsed.filter (fun p => !mget s.clu.inVerified false p.1)).map (fun p => p.1 / 4096)).dedup

/-- B2 (R69): verify counts, and their check unless the execution is cut (R136). -/
def verifyCheck (e : Exec) (s : State) : State :=
  let open' := uncovered s
  forEach (List.range s.clusters) (fun c s =>
    let n := mget s.clu.verifies 0 c
    let o := cluReg c 0x20
    let s := if s.fld o 16 13 = n then s else s.setFld o 16 13 n
    if e.cutAt.isNone && (n ≠ s.fld o 0 13 || open'.contains c) then cluCause c 7 8 (s.N + 2) n e.num s else s) s

/-- The issue steps of the execution have run to their end, or it has ended. -/
def stepsOver (s : State) : Bool :=
  match s.sch.exec with
  | some e => issueOver s e
  | none => true

/-- BOUNDARY_DRAIN (R84): the issue steps run to their end, then B0 to B3. -/
def drain (s : State) : State :=
  match s.sch.exec with
  | none => s
  | some _ =>
    if s.sch.phase ≠ .issue then s
    else match clocksUntil 8192 stepsOver s with
      | none => s
      | some t =>
        let t := bndClock (fun e s => (if s.sch.slot = 0 then (fun s => s) else takeEffects (s.sch.slot - 1) e.num) (injectAt s.N s)) t
        let t := bndClock (fun _ s => injectAt (s.N + 1) s) t
        let t := bndClock (fun e s => verifyCheck e (injectAt (s.N + 2) s)) t
        let t := bndClock (fun e s => dspCloseOpen e.num (injectAt (s.N + 3) s)) t
        match t.sch.exec with
        | some _ => { t with sch := { t.sch with phase := .commitPoint, holdRun := 0, holdRaised := false } }
        | none => t

def execBoundaryDrain (s : State) : Host.Outcome State Fault Refusal := run drain s

/-! ### B4 to B7 (R58, R60, R64) -/

/-- LAST takes the real value of a VALID slot, and the predictor value of any other (R64). -/
def updateLast (s : State) : State :=
  let ks := s.clu.inValid.map (fun p => p.1) ++ s.clu.predVal.map (fun p => p.1) ++ s.clu.predLast.map (fun p => p.1)
  { s with clu := { s.clu with predLast := msetAll [] false (ks.map (fun k =>
      (k, if mget s.clu.inValid false k then mget s.clu.inVal false k else mget s.clu.predVal false k))) } }

/-- A store of copies with copy `tgt` made equal to copy `src`; `w` is the span of a copy's keys. -/
def copyInto {α : Type} (w src tgt : Nat) (m : SMap α) : SMap α :=
  m.filter (fun p => p.1 < w * tgt) ++
    (m.filter (fun p => p.1 / w == src)).map (fun p => (p.1 % w + w * tgt, p.2)) ++
    m.filter (fun p => w * (tgt + 1) ≤ p.1)

/-- The target copy: the base copy with the shadow's written bits (R58). -/
def mergeCopy (tgt : Nat) (s : State) : State :=
  let m := copyInto (2 ^ 24) s.baseCopy tgt s.clu.copies
  let m := s.clu.shadow.foldl (fun m p => match p.2 with
    | some v => mset m false (2 ^ 24 * tgt + p.1) v
    | none => m) m
  { s with clu := { s.clu with copies := m, copyBad := s.clu.copyBad.filter (fun p => p.1 / 2 ^ 19 ≠ tgt) } }

/-- Words of the base copy with bad parity that the merge reads in boundary step B(4 + q) (R60). -/
def mergeParity (q : Nat) (e : Exec) (s : State) : State :=
  let k := s.baseCopy
  forEach (s.clu.copyBad.filter (fun p => p.1 / 2 ^ 19 == k && p.1 % 2048 / 512 == q)) (fun p s =>
    cluCause (p.1 % 2 ^ 19 / 2048) 2 3 (s.N + 4 + q) (32 * (p.1 % 2048)) e.num s) s

/-- The clusters settle KIND of the orphan read of a CNS entry that CLU_ERR_LOC still captures (R55, R77). -/
def settleOrphans (s : State) : State :=
  forEach s.clu.orphan (fun p s => match p.2 with
    | some o => match o.entry with
      | some n => if mget s.clu.cnsValid false (4096 * p.1 + n) ∧ s.reg (cluReg p.1 4) ≠ 0 then s.setFld (cluReg p.1 8) 28 4 9 else s
      | none => s
    | none => s) s

/-- A parked unit answers a run with a fault stop (R22). -/
def portUsed (s : State) (p : Nat) : Bool := s.img.valid && s.laneEntries.any (fun e => e.port == p)
def stackUsed (s : State) (k : Nat) : Bool :=
  s.img.valid && (s.img.memdecl.mems.any (fun m => m.stack == k) || s.img.memdecl.ckptBytes != 0)
def parkFatal (s : State) (b : Nat × Nat) : Bool :=
  b.1 == 0x04 || b.1 == 0x08 || b.1 == 0x1C || (b.1 == 0x12 && portUsed s b.2) || (b.1 == 0x16 && stackUsed s b.2) ||
    (b.1 == 0x1A && s.ast.armed && mtActive s && mtStop s) || (b.1 == 0x1B && s.bit Reg.LKS_CTRL 6)

/-- A cluster has reported one of the causes of the mask in the executing cycle. -/
def reported (s : State) (m : Byte) : Bool := s.clu.cause.any (fun p => (p.2 &&& m) != 0)

/-- The execution is finished: READY, VERIFYING, or a held commit takes effect (R132, R141). -/
def finishCycle (e : Exec) (s : State) : State :=
  let r : CycRec := { num := e.num, serial := e.serial, st := .verifying, copy := e.copy, startClk := e.startClk,
                      clks := s.clock + 5 - e.startClk, issueClks := e.issueClks, heldClks := e.heldClks }
  let s := { s with sch := { s.sch with
    exec := none, cycles := s.sch.cycles ++ [r]
    hiFinished := if cycLt s.sch.hiFinished e.num then e.num else s.sch.hiFinished } }
  if s.wave.lateHeld && e.num == s.sch.committed + 1 then
    let s := { s with wave := { s.wave with lateHeld := false } }
    commitQueued 8 (takeCommit (raise 0x095 (spcAdd 11 1 s)))
  else readyPending s

/-- B7 (R101): the first row that applies decides what becomes of the execution. -/
def decide' (e : Exec) (s : State) : State :=
  let s := dspB7 e.num (settleOrphans s)
  let out (s : State) : State := endDiscarded e (s.clock + 5 - e.startClk) s
  if s.pwr.parked.any (parkFatal s) then faultStop s
  else if e.vc0 then parityAbort e.num (out s)
  else if e.aborted || e.cutAt.isSome then out s
  else if reported s 0x0F then parityAbort e.num (out s)
  else if reported s 0x10 then faultStop (raise 0x082 s)
  else if reported s 0x20 then faultStop (raise 0x081 s)
  else if reported s 0x80 then faultStop (raise 0x092 s)
  else if e.mismatch then squash e.num (b2n e.reverify) (out s)
  else finishCycle e s

/-- B8 to B11, then the start point. -/
def swap (s : State) : State :=
  if s.sch.st = .faultStop then s
  else
    let s := runWindow s
    if s.sch.st = .faultStop then s
    else reopen (schSettle (throttlePoint (wrapCheck { s with sch := { s.sch with phase := .start, slot := 0 } })))

/-- B7 (R84, R101): what arrives in this clock is accepted for the last time, and then the execution is decided; a fault stop
that an arrival calls for governs. -/
def lastMerge (s : State) : State :=
  match s.sch.exec with
  | none => s
  | some e =>
    let t := clockArrive (mergeCopy e.copy (mergeParity 3 e s))
    match t.sch.exec.filter (fun _ => !t.sch.fatal) with
    | some f => clockClose (treeSources t false) (decide' f t)
    | none => clockClose (treeSources t false) t

/-- COMMIT_POINT_PASS (R84, R88, R101): B4 to B11. -/
def commitPoint (s : State) : State :=
  match s.sch.exec with
  | none => s
  | some _ =>
    if s.sch.phase ≠ .commitPoint ∨ !commitOpen s then s
    else
      let s := bndClock (fun e s => mergeParity 0 e (updateLast s)) s
      let s := bndClock (mergeParity 1) s
      let s := bndClock (mergeParity 2) s
      let s := lastMerge s
      swap { s with sch := { s.sch with holdRun := 0, holdRaised := false } }

def execCommitPointPass (s : State) : Host.Outcome State Fault Refusal := run commitPoint s

/-! ### Run control (R102 to R104, R149, R165) -/

/-- A load of kind INSTALL runs. -/
def installBusy (s : State) : Bool := s.load.busy && !s.load.stage

/-- A write that R165 drops. -/
def loadDropped (s : State) : State := s.setBit Reg.SCH_LOAD_STATUS 19 true

/-- The power state that the module is in, or that the transition under way leads to. -/
def powTo (s : State) : PowMode := s.pwr.trans.getLast?.getD s.pwr.mode

/-- A wake to HOLD begins (R440, R441). -/
def startWake (s : State) : State :=
  if powTo s = .on then s
  else { s with pwr := { s.pwr with trans := s.pwr.trans ++ [PowMode.on] } }.setFld Reg.PWR_CTRL 0 2 0

/-- PAUSE is fixed: in FAULT_STOP, and during a rewind from it (R104). -/
def faultHeld (s : State) : Bool := s.sch.st == .faultStop || (s.sch.st == .rewind && s.sch.rewindFrom == .faultStop)

/-- A write of SCH_CTRL: DEPTH but for 0b11, and PAUSE as R104 and R165 allow. -/
def schCtrlWrite (val : Word32) (s : State) : State :=
  let s := if bitsOf val 1 2 = 3 then s else s.setFld Reg.SCH_CTRL 1 2 (bitsOf val 1 2)
  if faultHeld s then (if val.getLsbD 0 then s else startWake s)
  else if val.getLsbD 0 then schSettle (setPause s)
  else if installBusy s && s.paused then loadDropped s
  else startWake (schSettle (s.setBit Reg.SCH_CTRL 0 false))

def execPauseSet (path : Path) (s : State) : Host.Outcome State Fault Refusal :=
  run (fun s => regAccess path Reg.SCH_CTRL (withBits (s.reg Reg.SCH_CTRL) 0 1 1) schCtrlWrite s) s

def execPauseClear (path : Path) (s : State) : Host.Outcome State Fault Refusal :=
  run (fun s => regAccess path Reg.SCH_CTRL (withBits (s.reg Reg.SCH_CTRL) 0 1 0) schCtrlWrite s) s

def execDepthSet (path : Path) (depth : BitVec 2) (s : State) : Host.Outcome State Fault Refusal :=
  run (fun s => regAccess path Reg.SCH_CTRL (withBits (s.reg Reg.SCH_CTRL) 1 2 depth.toNat) schCtrlWrite s) s

def execRunCountWrite (path : Path) (val : Word32) (s : State) : Host.Outcome State Fault Refusal :=
  run (regAccess path Reg.SCH_RUN_COUNT val (storeReg Reg.SCH_RUN_COUNT)) s

/-- HOLD_LONG (R98): once for a run of held and wait clocks, which has begun. -/
def holdLong (s : State) : State :=
  if s.fld Reg.SCH_HOLD_LIMIT 0 16 = 0 ∨ s.sch.holdRun = 0 ∨ s.sch.holdRaised then s
  else raise 0x083 ({ s with sch := { s.sch with holdRaised := true } }.setReg Reg.SCH_HOLD_CAPT ((sourcesNow s).setWidth 32))

def execHoldLong (s : State) : Host.Outcome State Fault Refusal := run holdLong s

/-! ### Applies (R105 to R108, R172) -/

/-- An apply ends. -/
def applyEnd (st : Nat) (s : State) : State :=
  let s := (s.setFld Reg.SCH_APPLY 8 8 st).setBit Reg.SCH_APPLY 16 true
  schSettle (raise 0x085 { s with sch := { s.sch with applyT := none, applyFrozen := false } })

/-- A request that ends at once leaves a pending apply pending. -/
def applyRefused (st : Nat) (s : State) : State :=
  raise 0x085 ((s.setFld Reg.SCH_APPLY 8 8 st).setBit Reg.SCH_APPLY 16 true)

/-- A write of SCH_APPLY.GO (R105, R108, R165, R442); `owns` says whether the writer still owns when the request is checked
(R375, R400). -/
def applyGo (owns : Bool) (val : Word32) (s : State) : State :=
  if !val.getLsbD 0 then s
  else if installBusy s then loadDropped s
  else if !owns then applyRefused 3 s
  else if s.pwr.mode ≠ .on ∨ s.sch.applyT.isSome then applyRefused 9 s
  else
    let t := s.reg64 Reg.SCH_APPLY_CYC
    let t := if t = 0 ∨ cycLe t s.sch.highest then s.sch.highest + 1 else t
    { s with sch := { s.sch with applyT := some t } }.setBit Reg.SCH_APPLY 16 false

def execApplyGo (wr : OpWrite) (s : State) : Host.Outcome State Fault Refusal :=
  run (regAccess wr.path Reg.SCH_APPLY 1 (applyGo wr.owns)) s

/-- The tier key of a location of R169. -/
def tierKey (loc : Nat) : Nat := 65536 * (loc % 65536) + 256 * (loc / 2 ^ 24) + loc / 65536 % 256

/-- The tier with staged words in it. -/
def patchTier (ps : SMap (Option InstrWord)) (tier : SMap InstrWord) : SMap InstrWord :=
  ps.foldl (fun (m : SMap InstrWord) (p : Nat × Option InstrWord) =>
    match p.2 with
    | some w => mset m nopWord (tierKey p.1) w
    | none => m) tier

/-- Staged image content takes effect (R170, R172). -/
def applyImage (s : State) : State :=
  let g := s.staged
  if !g.any then s
  else
    let s := { s with
      img := { s.img with
        route := g.route.getD s.img.route, slotHbd := g.slotHbd.getD s.img.slotHbd,
        slotLane := g.slotLane.getD s.img.slotLane, probe := g.probe.getD s.img.probe,
        digest := g.digest.getD s.img.digest, patched := true },
      clu := { s.clu with tier := patchTier g.patch s.clu.tier },
      staged := {} }
    match g.cfg with
    | some m => forEach (List.range s.clusters) (fun c s =>
        s.setFld (cluReg c 0x20) 0 13 ((mget m 0 c).toNat % 2 ^ 13)) s
    | none => s

/-- The staged content makes the apply a frozen one (R106, R313, R322). -/
def applyIsFrozen (s : State) : Bool :=
  !s.staged.patch.isEmpty || s.staged.route.isSome || s.staged.slotHbd.isSome || s.staged.slotLane.isSome ||
    s.staged.probe.isSome || astFrozen s

/-- Every staged change takes effect before cycle `t`, and the apply ends with OK. The cycles before it are evaluated first, under
the program and the probe map that they ran with; with a new map, the activity probes that it names had the values of the committed
copy (R322, R332). -/
def applyNow (t : Word64) (s : State) : State :=
  let mapped := s.staged.probe.isSome
  let s := if s.ast.staged || mapped then astDrain 200 s else s
  let s := if s.staged.any then { s with img := { s.img with prevDigest := s.img.digest, appliedAt := t } } else s
  let s := astApply t (applyImage s)
  applyEnd 0 (if mapped then { s with ast := { s.ast with prevA := actProbes s s.sch.comCopy } } else s)

/-- A frozen apply is being written that writes instruction tiers or slot tables (R107). -/
def applyWritesImage (s : State) : Bool :=
  s.sch.applyFrozen && (!s.staged.patch.isEmpty || s.staged.route.isSome || s.staged.slotHbd.isSome || s.staged.slotLane.isSome)

/-- APPLY_EXECUTE (R105 to R107): at the start point before cycle T, once T − 1 has committed. After a rewind to a later
cycle that is the start point which the rewind has reached (DEDUCED, log 129). -/
def applyExecute (intact : Bool) (s : State) : State :=
  match s.sch.applyT with
  | none => s
  | some t =>
    if s.sch.applyFrozen || s.sch.exec.isSome || s.sch.phase ≠ .start || s.U ≠ 0 || !cycLe (t - 1) s.sch.committed ||
        s.sch.ckptCopy.isSome || s.sch.st = .rewind then s
    else if !intact then applyEnd 7 s
    else if applyIsFrozen s then schSettle { s with sch := { s.sch with applyFrozen := true } }
    else applyNow (nextNum s) s

def execApplyExecute (intact : Bool) (s : State) : Host.Outcome State Fault Refusal := run (applyExecute intact) s

def execFrozenApplyDone (s : State) : Host.Outcome State Fault Refusal :=
  run (fun s => match s.sch.applyT with
    | some _ => if s.sch.applyFrozen then applyNow (nextNum s) s else s
    | none => s) s

/-! ### Checkpoints and rewind (R109 to R114) -/

/-- A write of SCH_CKPT_CTRL (R109, R442); a write of NOW during an install is dropped (R165). -/
def ckptCtrlWrite (val : Word32) (s : State) : State :=
  if val.getLsbD 16 && installBusy s then loadDropped s
  else
    let s := storeReg Reg.SCH_CKPT_CTRL val s
    if !val.getLsbD 16 ∨ s.pwr.mode ≠ .on then s
    else { s with sch := { s.sch with ckptNow := true } }

def execCheckpointNow (path : Path) (s : State) : Host.Outcome State Fault Refusal :=
  run (fun s => regAccess path Reg.SCH_CKPT_CTRL (s.reg Reg.SCH_CKPT_CTRL ||| 0x10000) ckptCtrlWrite s) s

/-- The entry has been applied and leaves its queue. -/
def dropEntry (e : QEntry) (s : State) : State :=
  releaseAllFour { s with mem := { s.mem with queue := s.mem.queue.erase e } }

/-- A committed entry is written to its store; the read of an HBM burst that is to be modified may find an error (R206,
R209), and a corrected one stays in the burst (DESIGN CHOICE, log 164). -/
def applyStored (e : QEntry) (s : State) : State :=
  if 512 ≤ e.q ∧ eccOf s e.key = 2 then faultStop (hbmUncorrected (hbmAddrForm s e.key) 0 0 false (dropEntry e s))
  else
    let s := if 512 ≤ e.q ∧ eccOf s e.key = 1 then hbmCorrected e.key s else s
    dropEntry e (writeStored e.q e.key e.data e.mask s)

/-- Every committed entry is applied to its store, in order. -/
def drainQueues (s : State) : State :=
  let s := forEach (s.mem.queue.filter (fun e => e.committed)) applyStored s
  { s with mem := { s.mem with bWindows := [] } }

/-- The stores as they stand once every committed entry is applied. -/
def settledMem (s : State) : State :=
  forEach (s.mem.queue.filter (fun e => e.committed)) (fun e s => writeStored e.q e.key e.data e.mask s) s

/-- An HBM word key lies in a memory that MEMDECL marks as checkpointed (R184). -/
def ckptMarked (s : State) (key : Nat) : Bool :=
  s.img.memdecl.mems.any (fun m => m.ckpt && m.stack == key / 2 ^ 32 && m.pbase ≤ 8 * (key % 2 ^ 32) &&
    8 * (key % 2 ^ 32) < m.pbase + 8 * m.words)

/-- Some HBM memory of the image is not checkpointed (SCH_CKPT_STATUS.PARTIAL). -/
def ckptPartial (s : State) : Bool := s.img.memdecl.mems.any (fun m => !m.ckpt)

/-- What a checkpoint of the committed state holds (R110): LAST as it stands now, the rest as cycle `num` left it. -/
def ckptCapture (c : CkptCopy) (s : State) : CkptSlot :=
  let t := settledMem s
  let k := s.sch.comCopy
  { valid := true, base := c.base, size := c.size, seq := s.sch.ckptSeq + 1, num := c.num,
    digest := BitVec.ofNat 64 (s.img.digest.toNat / 2 ^ 320), time := c.time, banksIncl := c.banks, hbmIncl := c.hbm,
    partial' := c.partial'
    stateBits := copyInto (2 ^ 24) k 0 (s.clu.copies.filter (fun p => p.1 / 2 ^ 24 == k)) |>.filter (fun p => p.1 < 2 ^ 24)
    stateBad := [], last := s.clu.predLast
    banks := if c.banks then t.mem.banks else [], bankBad := []
    hbm := if c.hbm then t.mem.hbm.filter (fun p => ckptMarked s p.1) else [] }

/-- The reads of a copy meet the parity failures of the banks: the first is recorded (R186). -/
def copyParity (s : State) : State :=
  match s.mem.bankBad with
  | [] => s
  | p :: _ => raise 0x2E4 (memCause 4 5 (BitVec.ofNat 64 (p.1 / 2)) 0 0 false false s)

/-- The reads of a copy meet the errors of the HBM bursts that `p` holds of (R209). -/
def copyEcc (p : Nat → Bool) (s : State) : State :=
  forEach (s.mem.hbmErr.filter (fun e => p (4 * e.1))) (fun e s =>
    if e.2 = 2 then hbmUncorrected (hbmAddrForm s (4 * e.1)) 0 0 false s
    else if e.2 = 1 then hbmCorrected (4 * e.1) s else s) s

/-- An uncorrected error stands in a burst that `p` holds of. -/
def eccFatal (p : Nat → Bool) (s : State) : Bool := s.mem.hbmErr.any (fun e => e.2 == 2 && p (4 * e.1))

/-- The word lies in `size` bytes of the checkpoint space from `base` on. -/
def inSlot (s : State) (base size key : Nat) : Bool :=
  match ckptOffset s key with
  | some o => base ≤ o && o < base + size
  | none => false

/-- The copy has stored its slot in whole bursts: what stood there before is replaced, its errors too (R111, R206). -/
def ckptStore (c : CkptCopy) (s : State) : State :=
  let slot := ckptCapture c s
  { s with
    sch := { s.sch with slots := mset s.sch.slots {} c.slot slot, ckptSeq := slot.seq }
    mem := { s.mem with
      hbm := s.mem.hbm.filter (fun p => !inSlot s c.base c.size p.1)
      hbmErr := s.mem.hbmErr.filter (fun p => !inSlot s c.base c.size (4 * p.1)) } }

/-- CHECKPOINT_DONE (R111, R112, R186, R209): the copy ends; commits that have waited for it follow in the next clock. -/
def ckptDone (readError : Bool) (s : State) : State :=
  match s.sch.ckptCopy with
  | none => s
  | some c =>
    let marked := fun k => c.hbm && ckptMarked s k
    let bad := readError || (c.banks && !s.mem.bankBad.isEmpty) || eccFatal marked s
    let s := { s with sch := { s.sch with ckptCopy := none } }
    let s := copyEcc marked (if c.banks then copyParity s else s)
    schSettle (if bad then ckptFail s else raise 0x086 ((ckptStore c s).setFld Reg.SCH_CKPT_STATUS 7 6 c.slot))

def execCheckpointDone (readError : Bool) (s : State) : Host.Outcome State Fault Refusal := run (ckptDone readError) s

/-- A rewind ends with a status. -/
def rewindEnd (st : Nat) (s : State) : State :=
  raise 0x088 (({ s with sch := { s.sch with rewindSlot := none } }.setFld Reg.SCH_REWIND 8 8 st).setBit Reg.SCH_REWIND 16 true)

/-- A request that ends at once: a rewind that runs goes on. -/
def rewindRefused (st : Nat) (s : State) : State :=
  raise 0x088 ((s.setFld Reg.SCH_REWIND 8 8 st).setBit Reg.SCH_REWIND 16 true)

/-- A write of SCH_REWIND (R114, R442); a write of GO during an install is dropped (R165). `owns` says whether the writer
still owns when the request is checked (R375, R400). -/
def rewindWrite (owns : Bool) (val : Word32) (s : State) : State :=
  if val.getLsbD 7 && installBusy s then loadDropped s
  else if !val.getLsbD 7 then storeReg Reg.SCH_REWIND val s
  else
    let s := (storeReg Reg.SCH_REWIND val s).setBit Reg.SCH_REWIND 16 false
    let k := bitsOf val 0 6
    if !owns then rewindRefused 3 s
    else if s.pwr.mode ≠ .on ∨ !(s.sch.st == .paused || s.sch.st == .faultStop) ∨ s.sch.ckptCopy.isSome ∨ s.sch.rewindSlot.isSome then rewindRefused 9 s
    else if !(mget s.sch.slots {} k).valid then rewindRefused 12 s
    else { s with sch := { s.sch with rewindSlot := some k, rewindFrom := s.sch.st, st := .rewind } }

def execRewindGo (wr : OpWrite) (slot : BitVec 6) (s : State) : Host.Outcome State Fault Refusal :=
  run (regAccess wr.path Reg.SCH_REWIND (BitVec.ofNat 32 (128 + slot.toNat)) (rewindWrite wr.owns)) s

/-- Conductor and membership are fixed, and the wave begins afresh with last committed cycle `n` (R122, R131). -/
def waveFresh (n : Word64) (s : State) : State :=
  { s with
    wave := { module := s.plat.module, conductor := if s.own.owner = .conductor then BitVec.ofNat 6 (s.fld Reg.GBL_OWN_POLICY 6 6) else s.plat.conductor,
              members := s.plat.members, parent := s.plat.parent, children := s.plat.children, c := n, fixed := true }
    lnk := { s.lnk with tx := [], recs := [], waiting := [], redeliv := [],
                        ports := (s.lnk.ports.map (fun p => (p.1, { p.2 with desync := false, waveQ := [] }))).filter (fun p => p.2 ≠ {}) } }

/-- The mask epoch advances; when it would pass 0xFFFF_FFFF the grants that use it end (R412). -/
def bumpEpoch (s : State) : State :=
  if s.bnt.epoch < 0xFFFFFFFF then { s with bnt := { s.bnt with epoch := s.bnt.epoch + 1 } }
  else
    let l := (grantsOf s 0).filter (fun g => g.2.masked)
    if l.isEmpty then s else grantChanged (forEach l (fun g s => setGrant g.1 none s) s)

/-- The restored content of a slot (R113). -/
def restoreSlot (c : CkptSlot) (s : State) : State :=
  let t := drainQueues s
  let t := if c.banksIncl then loadBanks c.banks t else t
  let t := if c.hbmIncl then restoreHbm (ckptMarked s) c.hbm t else t
  { t with
    clu := { t.clu with copies := c.stateBits, copyBad := c.stateBad, predLast := c.last }
    mem := { t.mem with
      bankBad := if c.banksIncl then c.bankBad else t.mem.bankBad
      queue := [], notes := [], overflow := none, allFour := none }
    sch := { t.sch with
      committed := c.num, commitClk := stepNo t, highest := c.num, hiFinished := c.num, comCopy := 0, cycles := [],
      parityCnt := [], commitQ := [], st := .paused, phase := .start, slot := 0, opened := none } }

/-- The effects of a rewind to slot `k`, in the order of R113, up to the start point. -/
def rewound (k : Nat) (c : CkptSlot) (s : State) : State :=
  let old := s.sch.committed
  let s := lksDrain (astDrain 200 s)
  let s := dspRewind (fun n => cycLe n old) (discardCycles (fun n => cycLe n old) s)
  let s := waveFresh c.num (restoreSlot c s)
  let s := diRelease (fun _ => false) s
  let s := bumpEpoch (timeMasterFix (astRewind s))
  let s := lksRewind k c.num (trigProbes s 0) s
  wrapCheck (clearWork (setPause { s with pwr := { s.pwr with longHold := true } }))

/-- A rewind to slot `k` (R113). -/
def rewindTo (k : Nat) (c : CkptSlot) (s : State) : State := throttlePoint (reopen (rewound k c s))

/-- The slot no longer holds what its copy stored: a later copy or a write reached into it, or a burst of it holds an
uncorrected error (R114, R209). -/
def slotDamaged (c : CkptSlot) (s : State) : Bool :=
  eccFatal (inSlot s c.base c.size) s || s.mem.hbm.any (fun p => inSlot s c.base c.size p.1) ||
    s.sch.slots.any (fun p => c.seq < p.2.seq && p.2.base < c.base + c.size && c.base < p.2.base + p.2.size)

/-- REWIND_DONE (R114, R209): a slot whose CRC fails leaves the module unchanged. -/
def rewindDone (crcOk : Bool) (s : State) : State :=
  match s.sch.rewindSlot with
  | none => s
  | some k =>
    let c := mget s.sch.slots {} k
    let bad := !crcOk || slotDamaged c s
    let s := copyEcc (inSlot s c.base c.size) s
    if bad then schSettle (rewindEnd 7 { s with sch := { s.sch with st := s.sch.rewindFrom } })
    else rewindEnd 0 (rewindTo k c s)

def execRewindDone (crcOk : Bool) (s : State) : Host.Outcome State Fault Refusal := run (rewindDone crcOk) s

end Sys2Proof.Machine
end

