-- ==== Sys2Proof/Machine/AsterCommands.lean ====
section
/-!
DEFINITION. Machine/AsterCommands.lean: the evaluation of committed cycles, disarming and release of Aster, and the
updates of the DO lines (spec/11_aster.md, R314 to R328; spec/10_glove.md, R286).
-/
namespace Sys2Proof.Machine

/-- ASTER_EVALUATE (R315). READY that Aster withheld may go out, and a PAUSE action may end the run. -/
def execAsterEvaluate (s : State) : Host.Outcome State Fault Refusal :=
  run (fun s => readyPending (schSettle (astEval s))) s

/-- A write of AST_CTRL; RELEASE lets finished cycles send READY again (R328). -/
def astCtrl (val : Word32) (s : State) : State :=
  let t := astCtrlWrite val s
  if val.getLsbD 4 && s.ast.stopped.isSome then readyAgain t else readyPending t

/-- ASTER_DISARM (R323): a write of AST_CTRL with DISARM 1. -/
def execAsterDisarm (path : Path) (val : Word32) (s : State) : Host.Outcome State Fault Refusal :=
  run (fun s => if val.getLsbD 3 then regAccess path Reg.AST_CTRL val astCtrl s else s) s

/-- ASTER_RELEASE (R328): a write of AST_CTRL with RELEASE 1. -/
def execAsterRelease (path : Path) (val : Word32) (s : State) : Host.Outcome State Fault Refusal :=
  run (fun s => if val.getLsbD 4 then regAccess path Reg.AST_CTRL val astCtrl s else s) s

/-- The clocks up to the end of the oldest DO update that waits (R286). -/
def doUpdate (s : State) : State :=
  match s.glv.doQueue with
  | [] => s
  | e :: _ => (clocksUntil (e.due - s.clock + 2) (fun t => t.glv.doQueue.head? ≠ some e) s).getD s

def execDoUpdate (s : State) : Host.Outcome State Fault Refusal := run doUpdate s

end Sys2Proof.Machine
end

