-- ==== Sys2Proof/Machine/Ownership.lean ====
section
/-!
DEFINITION. Machine/Ownership.lean: who owns the module: the policy, the masters' paths, claims and their window, the end
of ownership, and GBL_OWN (spec/14_host_registers_ownership.md, R393 to R400).
-/
namespace Sys2Proof.Machine

/-- A master's code (GBL_OWN.OWNER). -/
def masterCode (m : Master) : Nat :=
  match m with
  | .none => 0
  | .host => 1
  | .bmc => 2
  | .conductor => 3

/-- The master with a code. -/
def masterOf (n : Nat) : Master := if n = 1 then .host else if n = 2 then .bmc else if n = 3 then .conductor else .none

/-- The ranked masters, the first one first. -/
def ranking (s : State) : List Master :=
  ([0, 2, 4].map (fun lo => masterOf (s.fld Reg.GBL_OWN_POLICY lo 2))).filter (fun m => m ≠ .none)

/-- COND_MODULE of the policy. -/
def condModule (s : State) : Nat := s.fld Reg.GBL_OWN_POLICY 6 6

/-- A master's path is present (R395). -/
def pathPresent (s : State) (m : Master) : Bool :=
  match m with
  | .none => false
  | .host => s.host.dlActive && !s.host.flr0
  | .bmc => true
  | .conductor => s.lnk.ports.any (fun p => p.2.st == .active && p.2.peerModule.toNat == condModule s)

/-- A master's standing claim in the open window. -/
def claimed (s : State) (m : Master) : Bool :=
  match m with
  | .none => false
  | .host => s.own.claimHost
  | .bmc => s.own.claimBmc
  | .conductor => s.own.claimCond

/-- A claim is made. -/
def setClaim (m : Master) (s : State) : State :=
  match m with
  | .none => s
  | .host => { s with own := { s.own with claimHost := true } }
  | .bmc => { s with own := { s.own with claimBmc := true } }
  | .conductor => { s with own := { s.own with claimCond := true } }

/-- No claim stands. -/
def clearClaims (s : State) : State := { s with own := { s.own with claimHost := false, claimBmc := false, claimCond := false } }

/-- A master becomes owner, or none does. GEN increments when the owner changes (R394), and the heartbeat timer of the new owner
starts: a timeout in the same clock was the old owner's, and its handover comes first (R400; log 185). -/
def setOwner (m : Master) (s : State) : State :=
  let gen := if m = s.own.owner then s.own.gen else s.own.gen + 1
  { s with own := { s.own with owner := m, gen := gen, beatAt := if m = .none then 0 else s.clock + 1
                               st := if m = .none then .vacant else .owned } }

/-- A master becomes owner; the change is reported. -/
def own (m : Master) (s : State) : State :=
  let t := setOwner m s
  if m = s.own.owner then t else raise 0x006 t

/-- Ownership becomes vacant (R396). -/
def vacate (s : State) : State := raise 0x007 (setOwner .none s)

/-- The claim window opens. -/
def openWindow (s : State) : State := { s with own := { s.own with st := .claim } }

/-- A claim is refused (R393). -/
def claimRefused (pathCode : Nat) (lanes : Bool) (s : State) : State := gblErr 5 0x009 Reg.GBL_OWN_CLAIM pathCode lanes s

/-- A master claims (R393, R397, R400). -/
def claim (m : Master) (pathCode : Nat) (lanes : Bool) (s : State) : State :=
  let ranked := (ranking s).contains m
  match s.own.st with
  | .claim => if ranked then setClaim m s else claimRefused pathCode lanes s
  | .owned => if m = s.own.owner then s else claimRefused pathCode lanes s
  | .vacant =>
    if s.own.firstClosed && ranked && pathPresent s m then
      setClaim m (clearClaims (openWindow s))
    else claimRefused pathCode lanes s

/-- CLAIM_WINDOW_CLOSE (R394). -/
def windowClose (s : State) : State :=
  if s.own.st ≠ .claim then s
  else
    let m := ((ranking s).find? (fun m => claimed s m && pathPresent s m)).getD .none
    own m (clearClaims { s with own := { s.own with firstClosed := true } })

def execClaimWindowClose (s : State) : Host.Outcome State Fault Refusal := run windowClose s

/-- OWN_CLAIM: a write of GBL_OWN_CLAIM. -/
def ownClaimWrite (path : Path) (val : Word32) (s : State) : State :=
  if !val.getLsbD 0 then s
  else match path with
    | .pf0 => claim .host (pathCode path) false s
    | .smb => claim .bmc (pathCode path) false s
    | .pf1 => s
    | .bonnet => s

def execOwnClaim (path : Path) (val : Word32) (s : State) : Host.Outcome State Fault Refusal :=
  run (regAccess path Reg.GBL_OWN_CLAIM val (ownClaimWrite path)) s

/-- A write of GBL_OWN_BEAT: the heartbeat timer starts again (R395). -/
def ownBeatWrite (_ : Word32) (s : State) : State := { s with own := { s.own with beatAt := s.clock + 1 } }

def execOwnBeat (path : Path) (val : Word32) (s : State) : Host.Outcome State Fault Refusal :=
  run (regAccess path Reg.GBL_OWN_BEAT val ownBeatWrite) s

/-- HEARTBEAT_TIMEOUT (R395, R396). A heartbeat in the same clock counts, and ownership is kept (R400). -/
def execHeartbeatTimeout (s : State) : Host.Outcome State Fault Refusal :=
  run (fun s => if s.own.owner ≠ .none ∧ s.fld Reg.GBL_OWN_POLICY 24 8 ≠ 0 ∧ s.own.beatAt ≠ s.clock + 1 then vacate s else s) s

/-- The owner's path is lost and GRACE runs. -/
def graceRuns (s : State) : Bool := s.own.owner != .none && !pathPresent s s.own.owner

/-- GRACE_EXPIRY (R396). -/
def execGraceExpiry (s : State) : Host.Outcome State Fault Refusal :=
  run (fun s => if graceRuns s then vacate s else s) s

/-- GBL_OWN but for YOU. -/
def ownWord (s : State) : Nat :=
  let st := match s.own.st with
    | .claim => 0
    | .owned => 1
    | .vacant => 2
  st + 4 * masterCode s.own.owner + 2 ^ 5 * b2n (graceRuns s) + 2 ^ 8 * b2n s.own.claimHost + 2 ^ 9 * b2n s.own.claimBmc +
    2 ^ 10 * b2n s.own.claimCond + 2 ^ 16 * s.own.gen.toNat

end Sys2Proof.Machine
end

