-- ==== Sys2Proof/Machine/Lanes.lean ====
section
/-!
DEFINITION. Machine/Lanes.lean: lane ports: training, retransmission and drops, the pedigree word and its
disagreements, value stripes in both directions, and the Hatband commands that deliver values
(spec/08_lanes_multimodule.md, R239 to R267; spec/04_speculation.md, R123 to R127, R137, R138;
spec/07_hatband.md, R231 to R237).
-/
namespace Sys2Proof.Machine

/-! ### States of a port (R255, R260, R261) -/

/-- LNK_CTRL.ROLE of a port: 0 design, 1 trace sink, 2 disabled. -/
def ctrlRole (s : State) (p : Nat) : BitVec 2 := BitVec.ofNat 2 (s.fld (lnkReg p 0) 2 2)

/-- SLOT_LANE names the port, or it is a wave port. -/
def dropFatal (s : State) (p : Nat) : Bool :=
  portUsed s p || (s.img.valid && (s.wave.parent == some (BitVec.ofNat 4 p) || s.wave.children.contains (BitVec.ofNat 4 p)))

/-- The four lanes of a port count in the ledger. -/
def lanesLedger (p : Nat) (s : State) : State := forN 4 (fun k s => ledAdd (320 + 4 * p + k) 1 s) s

/-- A port of the trace sink has left ACTIVE: the sink is lost when none is left (R348). -/
def traceLeft (s : State) : State :=
  if (lksPorts s).all (fun q => (s.lane q).st != .active) then loseSink 2 s else s

/-- The port enters DETECT, HALT or DISABLED. What it held for its peer is gone. -/
def portTo (p : Nat) (st : LaneState) (s : State) : State :=
  let l := s.lane p
  let was := l.st == .active || l.st == .recovery
  let st := if st = .detect ∧ (ctrlRole s p = 2 ∨ l.parked ∨ disruptive s.host.jtag) then .disabled else st
  let s := s.setLane p { l with
    st := st, sub := .pattern, role := ctrlRole s p, locked := 0,
    txSeq := 0, rxSeq := 0, nakDue := false, nakSend := false, nakRx := none, outstanding := [], inbox := [], ctrlCount := 0 }
  let s := if st = .detect then clearMpd p s else s
  if !was then s
  else
    let s := if l.st = .active then upstreamLost p s else s
    let s := traceLeft (lanesLedger p (lnkCause p 0 0 s))
    if dropFatal s p then faultStop s else s

/-- A training failure from PATTERN onward: LINK_DOWN and DETECT. -/
def trainFail (p lane : Nat) (s : State) : State := portTo p .detect (lnkCause p 0 lane s)

/-- A TRAIN block on the four lanes, with block counter `b` (R256). -/
def trainStripe (b : BitVec 16) : LaneStripe :=
  let x (k : Nat) : Word64 := BitVec.ofNat 64 (5 * 2 ^ 56 + 2 ^ 54 * k + 2 ^ 32 * b.toNat + 0x5A5A5A5A)
  { h0 := 2, h1 := 2, h2 := 2, h3 := 2, p0 := x 0, p1 := x 1, p2 := x 2, p3 := x 3 }

/-- The port sends training traffic: a TRAIN block and the 15 data blocks of zero payload up to the next (R256). One such period
stands for the traffic of a training state (DESIGN CHOICE, log 172). -/
def sendTrain (p : Nat) (s : State) : State :=
  let b := (s.lane p).bcnt
  forN 15 (fun _ s => s.emit (.laneBlock p (dataStripe 0 0)))
    ((s.setLane p { s.lane p with bcnt := b + 16 }).emit (.laneBlock p (trainStripe b)))

/-- The port enters RECOVERY (R254, R260). -/
def enterRecovery (p lane : Nat) (s : State) : State :=
  let s := sendTrain p (clearMpd p (s.setLane p { s.lane p with st := .recovery, sub := .pattern }))
  let s := upstreamLost p s
  traceLeft (lanesLedger p (lnkCnt p 3 1 (lnkCause p 1 lane s)))

/-- The training state that the port stands in, within RECOVERY too. -/
def trainState (s : State) (p : Nat) : LaneState :=
  if (s.lane p).st = .recovery then (s.lane p).sub else (s.lane p).st

/-- The port goes on to the next training state; up to DESKEW it sends training traffic. -/
def trainTo (p : Nat) (st : LaneState) (s : State) : State :=
  let l := s.lane p
  let s := s.setLane p (if l.st = .recovery then { l with sub := st } else { l with st := st })
  if st = .exchange then s else sendTrain p s

/-- A near-end loopback test of the port runs (R460). -/
def nearTest (s : State) (p : Nat) : Bool := s.pwr.test.any (fun t => t.1 == 0x04 && t.2.1.toNat == p)

/-- A write of LNK_CTRL: LOOP but for R460, ROLE where it is allowed, and RESTART. -/
def lnkCtrlWrite (p : Nat) (val : Word32) (s : State) : State :=
  let s := if nearTest s p then s else s.setFld (lnkReg p 0) 1 1 (bitsOf val 1 1)
  let role := bitsOf val 2 2
  let sinks := if s.ident.half then [6, 7] else [14, 15]
  let s := if role = 3 ∨ (role = 1 ∧ !sinks.contains p) then s else s.setFld (lnkReg p 0) 2 2 role
  let dis : Bool := (s.lane p).st == .disabled
  if dis || val.getLsbD 4 then
    (if dis && ctrlRole s p == 2 then s else portTo p .detect s)
  else s

/-- LANE_RESTART (R255). -/
def execLaneRestart (path : Path) (p : BitVec 4) (val : Word32) (s : State) : Host.Outcome State Fault Refusal :=
  run (fun s => if val.getLsbD 4 then regAccess path (lnkReg p.toNat 0) val (lnkCtrlWrite p.toNat) s else s) s

/-- A step of a port that the grade has. -/
def onPort (p : BitVec 4) (f : Nat → State → State) (s : State) : State :=
  if p.toNat < s.lanePorts then f p.toNat s else s

/-- LANE_DETECT_DONE (R255). -/
def execLaneDetectDone (p : BitVec 4) (s : State) : Host.Outcome State Fault Refusal :=
  run (onPort p (fun p s => if (s.lane p).st = .detect then trainTo p .pattern s else s)) s

/-- LANE_PATTERN_LOCKED (R255). -/
def execLanePatternLocked (p : BitVec 4) (s : State) : Host.Outcome State Fault Refusal :=
  run (onPort p (fun p s => if trainState s p = .pattern then trainTo p .align s else s)) s

/-- The lane is inverted: its TRAIN block arrives with sync header 01 and first byte 0xFA (R257). -/
def alignInverted (l : AlignLane) : Bool := l.head == 1 && l.payload.toNat / 2 ^ 56 == 0xFA

/-- The payload with the polarity set right. -/
def alignPayload (l : AlignLane) : Word64 := if alignInverted l then ~~~l.payload else l.payload

/-- The block is a TRAIN block (R256). -/
def trainBlock (l : AlignLane) : Bool :=
  (alignInverted l || l.head == 2) && (alignPayload l).toNat / 2 ^ 56 == 5 && (alignPayload l).toNat / 2 ^ 48 % 64 == 0 &&
    (alignPayload l).toNat % 2 ^ 32 == 0x5A5A5A5A

/-- The lane number that a TRAIN block carries. -/
def trainLane (l : AlignLane) : Nat := (alignPayload l).toNat / 2 ^ 54 % 4

/-- The lowest receive lane that does not read its own number. -/
def wrongLane (ns : List Nat) : Nat := ((List.range 4).find? (fun k => ns.getD k 0 ≠ k)).getD 0

/-- ALIGN ends when every lane has found TRAIN blocks (R257). -/
def alignDone (ls : List AlignLane) (p : Nat) (s : State) : State :=
  if trainState s p ≠ .align ∨ !ls.all trainBlock then s
  else
    let ns := ls.map trainLane
    let pol := BitVec.ofNat 4 ((List.range 4).foldl (fun a k => a + 2 ^ k * b2n ((ls.map alignInverted).getD k false)) 0)
    if ns = [0, 1, 2, 3] ∨ ns = [3, 2, 1, 0] then
      trainTo p .deskew (s.setLane p { s.lane p with locked := 0xF, pol := pol, reversed := ns = [3, 2, 1, 0] })
    else trainFail p (wrongLane ns) (lnkCause p 5 (wrongLane ns) s)

def execLaneAlignDone (p : BitVec 4) (l0 l1 l2 l3 : AlignLane) (s : State) : Host.Outcome State Fault Refusal :=
  run (onPort p (alignDone [l0, l1, l2, l3])) s

/-- The CAPS block that the module sends on port `p` (R259); like every control block it reports the ACK of now (R252). -/
def capsBlock (s : State) (p : Nat) (seen : Bool) : LaneStripe :=
  let w := pedigreeWord s p
  let l := s.lane p
  { ctrlStripe l.txSeq (l.rxSeq - 1) false .idle with
    p0 := (ctrlStripe l.txSeq (l.rxSeq - 1) false .idle).p0 ||| BitVec.ofNat 64 (4 * 2 ^ 56)
    p1 := BitVec.ofNat 64 (2 ^ 58 * s.plat.module.toNat + 2 ^ 54 * p + 2 ^ 38 * s.part +
      2 ^ 36 * (s.lane p).role.toNat + 2 ^ 35 * b2n seen)
    p2 := (w >>> 64).setWidth 64, p3 := w.setWidth 64 }

/-- The port sends CAPS blocks. -/
def sendCaps (n : Nat) (seen : Bool) (p : Nat) (s : State) : State :=
  let b := capsBlock s p seen
  forN n (fun _ s => s.emit (.laneBlock p b)) (s.setLane p { s.lane p with pedTx := pedigreeWord s p })

/-- Every lane of the port has block lock (log 173). -/
def lanesLocked (p : Nat) (s : State) : State := s.setLane p { s.lane p with locked := 0xF }

/-- DESKEW ends (R258), and the port sends CAPS. -/
def deskewDone (skew p : Nat) (s : State) : State :=
  if trainState s p ≠ .deskew then s
  else if skew ≤ 4 then sendCaps 1 false p (trainTo p .exchange (lanesLocked p s))
  else trainFail p 0 s

def execLaneDeskewDone (p : BitVec 4) (skew : Nat) (s : State) : Host.Outcome State Fault Refusal :=
  run (onPort p (deskewDone skew)) s

/-! ### The pedigree word (R262 to R266) -/

/-- How far the sender's cycle lies ahead of the module's, modulo 2^24. -/
def pedAhead (s : State) (w : BitVec 128) : Nat := (pedCycle w + 2 ^ 24 - s.sch.committed.toNat % 2 ^ 24) % 2 ^ 24

/-- The module's digest for the sender's cycle CYCLE + 1 (R263). -/
def digestFor (s : State) (w : BitVec 128) : Nat :=
  let d := pedAhead s w
  let x : Word64 := if d < 2 ^ 23 then s.sch.committed + BitVec.ofNat 64 (d + 1)
                    else s.sch.committed + BitVec.ofNat 64 (d + 1) - BitVec.ofNat 64 (2 ^ 24)
  match s.sch.applyT with
  | some t =>
    if s.staged.any && cycLe t x then digest64 (s.staged.digest.getD s.img.digest)
    else if s.img.patched ∧ cycLt x s.img.appliedAt then digest64 s.img.prevDigest else digest64 s.img.digest
  | none => if s.img.patched ∧ cycLt x s.img.appliedAt then digest64 s.img.prevDigest else digest64 s.img.digest

/-- The peer of the link map is not the one that CAPS names. -/
def wrongPeer (s : State) (p : Nat) : Bool :=
  match mget s.plat.peers none p with
  | some x => x.1 != (s.lane p).peerModule || x.2 != (s.lane p).peerPort
  | none => true

/-- The port enters DESYNC: the executing execution is cut, and begins again without SQUASH_REQ (R265). -/
def enterDesync (p : Nat) (s : State) : State :=
  let was := (s.lane p).desync
  let s := lnkCause p 6 0 (s.setLane p { s.lane p with desync := true })
  if was then s
  else
    let s := cutExec s
    match s.sch.exec with
    | some e => { s with sch := { s.sch with exec := some { e with desync := true } } }
    | none => s

/-- A pedigree word on a port of ROLE design (R264), apart from FW_CLASS. -/
def pedigreeRows (p : Nat) (w : BitVec 128) (s : State) : State :=
  let none' := !(pedImg w) || !s.img.valid
  let dig := !none' && pedImage w != digestFor s w
  let plt := pedPlatform w != platTag s
  let wir := wrongPeer s p
  let s := s.setLane p { s.lane p with pedBlocks := none' || dig || plt || wir }
  let s := if dig || plt then lnkCause p 3 0 s else s
  let s := if wir then lnkCause p 5 0 s else s
  let d := pedAhead s w
  let s := if pedRun w && runBit s && 4 ≤ d && d ≤ 2 ^ 24 - 4 then enterDesync p s else s
  let s := if pedTsync w = 0 then upstreamLost p s else s
  flushWaves p (timeCompare p s)

/-- A pedigree word arrives on a port. -/
def pedigreeIn (p : Nat) (w : BitVec 128) (s : State) : State :=
  let s := lnkCnt p 6 1 (s.setLane p { s.lane p with pedRx := w, pedSeen := true })
  if pedClass w ≠ s.plat.fwClass.toNat then portTo p .halt (lnkCause p 4 0 s)
  else if (s.lane p).role = 0 then pedigreeRows p w s
  else s

/-- The port sends until a PEDIGREE has left. -/
def sendToPedigree (fuel p : Nat) (s : State) : State :=
  match fuel with
  | 0 => s
  | n + 1 =>
    let t := sendGroup p [] s
    if pedigreeDue (s.lane p).ctrlCount (t.lane p).ctrlCount then t else sendToPedigree n p t

/-- PEDIGREE_SEND (R245, R262): what the port sends up to the next control block whose count is a multiple of 256. -/
def pedigreeSend (p : Nat) (s : State) : State := if (s.lane p).st = .active then sendToPedigree 256 p s else s

def execPedigreeSend (p : BitVec 4) (s : State) : Host.Outcome State Fault Refusal := run (onPort p pedigreeSend) s

/-- PEDIGREE_RECEIVE (R264) in ACTIVE; the word of EXCHANGE comes with its CAPS. -/
def execPedigreeReceive (p : BitVec 4) (word : BitVec 128) (s : State) : Host.Outcome State Fault Refusal :=
  run (onPort p (fun p => laneGives p (.pedigree word) (fun s => if (s.lane p).st = .active then pedigreeIn p word s else s))) s

/-! ### EXCHANGE (R259, R260) -/

/-- An ACK covers groups of the replay buffer (R253). -/
def takeAck (ack : BitVec 8) (p : Nat) (s : State) : State :=
  let l := s.lane p
  if l.outstanding.any (fun g => g.gseq == ack) then
    s.setLane p { l with outstanding := (l.outstanding.dropWhile (fun g => g.gseq != ack)).drop 1 }
  else s

/-- A group as it is sent again: its TIME blocks are IDLE (R274). -/
def againGroup (g : OutGroup) : OutGroup :=
  { g with sent := g.sent + 1, parts := g.parts.map (fun x => match x with | .time _ => .idle | y => y) }

/-- Every group from the oldest outstanding one on is sent again, with the ACK of now (R243, R253). A group's count of sends goes
on over RECOVERY (DESIGN CHOICE, log 168). -/
def resendAll (p : Nat) (s : State) : State :=
  let l := s.lane p
  let gs := l.outstanding.map againGroup
  let s := timeDropped p (l.outstanding.flatMap (fun g => g.parts)) (lnkCnt p 2 gs.length (s.setLane p { l with outstanding := gs }))
  forEach gs (fun g s => s.emit (.laneGroup p (groupStripes g.gseq (l.rxSeq - 1) false g.parts))) s

/-- The same peer, image and platform as before RECOVERY. -/
def samePeer (s : State) (p : Nat) (c : Caps) : Bool :=
  let l := s.lane p
  l.peerModule.toNat == c.word.toNat / 2 ^ 58 && l.peerPort.toNat == c.word.toNat / 2 ^ 54 % 16 &&
    pedImage l.pedRx == pedImage c.pedigree && pedPlatform l.pedRx == pedPlatform c.pedigree

/-- The peer that CAPS names. -/
def takeCaps (p : Nat) (c : Caps) (s : State) : State :=
  let x := c.word.toNat
  s.setLane p { s.lane p with
    peerModule := BitVec.ofNat 6 (x / 2 ^ 58), peerPort := BitVec.ofNat 4 (x / 2 ^ 54),
    peerGrade := BitVec.ofNat 16 (x / 2 ^ 38), peerRole := BitVec.ofNat 2 (x / 2 ^ 36) }

/-- EXCHANGE ends: ACTIVE, or HALT when the class differs. -/
def exchangeDone (c : Caps) (p : Nat) (s : State) : State :=
  if trainState s p ≠ .exchange ∨ !c.word.getLsbD 35 then s
  else
    let again : Bool := (s.lane p).st == .recovery
    if again && !samePeer s p c then portTo p .detect (lnkCause p 5 0 s)
    else
      let s := lanesLocked p (if again then takeAck c.ack p s else s)
      let s := pedigreeIn p c.pedigree (takeCaps p c (sendCaps 8 true p s))
      if (s.lane p).st = .halt then s
      else
        let s := s.setLane p { s.lane p with st := .active, sub := .pattern, ctrlCount := 0 }
        let s := flushWaves p (if again then resendAll p s else s)
        if pedPlatform c.pedigree == platTag s && (s.lane p).peerModule.toNat == condModule s then claim .conductor 0 true s
        else s

def execLaneExchangeDone (p : BitVec 4) (caps : Caps) (s : State) : Host.Outcome State Fault Refusal :=
  run (onPort p (exchangeDone caps)) s

/-- LANE_TRAINING_TIMEOUT (R255): the state's own timeout; RECOVERY has another. -/
def execLaneTrainingTimeout (p : BitVec 4) (s : State) : Host.Outcome State Fault Refusal :=
  run (onPort p (fun p s =>
    if [LaneState.pattern, .align, .deskew, .exchange].contains (s.lane p).st then trainFail p 0 s else s)) s

/-- LANE_RECOVERY_TIMEOUT (R255). -/
def execLaneRecoveryTimeout (p : BitVec 4) (s : State) : Host.Outcome State Fault Refusal :=
  run (onPort p (fun p s => if (s.lane p).st = .recovery then portTo p .detect s else s)) s

/-- A lane loses its block lock; an ACTIVE port enters RECOVERY (R256, R260). -/
def lockLoss (lane p : Nat) (s : State) : State :=
  let t := s.setLane p { s.lane p with locked := (s.lane p).locked &&& ~~~(BitVec.ofNat 4 (2 ^ lane)) }
  if (s.lane p).st = .active then enterRecovery p lane t else t

/-- A phase-tracking loop of an ACTIVE port loses its lock, and with it the lane (R260). -/
def phaseLoss (lane p : Nat) (s : State) : State := if (s.lane p).st = .active then lockLoss lane p s else s

/-- Invalid ones among the 64 sync headers of a lane, header 0 in the low bits (R240). -/
def invalidHeads (heads : BitVec 128) : Nat :=
  ((List.range 64).filter (fun k => let h := heads.toNat / 4 ^ k % 4; h == 0 || h == 3)).length

/-- LANE_BLOCK_LOCK_LOSS (R256, R260): 16 invalid headers in any 64. -/
def execLaneBlockLockLoss (p : BitVec 4) (loss : LaneHeads) (s : State) : Host.Outcome State Fault Refusal :=
  run (onPort p (fun p s => if 16 ≤ invalidHeads loss.heads then lockLoss loss.lane.toNat p s else s)) s

def execPhaseLoopLockLoss (p : BitVec 4) (lane : BitVec 2) (s : State) : Host.Outcome State Fault Refusal :=
  run (onPort p (phaseLoss lane.toNat)) s

/-! ### Groups (R241, R242, R252 to R254) -/

/-- A corrupted group (R252): the cause and the count. NAK stands in the next control block, but a group that is sound and
follows a corrupted one brings no further NAK until the resent group has come (DEDUCED, log 85). -/
def groupBad (nak : Bool) (p : Nat) (s : State) : State :=
  let s := lnkCnt p 0 1 (lnkCause p 2 0 s)
  if nak then lnkCnt p 1 1 (s.setLane p { s.lane p with nakDue := true, nakSend := true }) else s

/-- A stripe of an accepted group: ACK and NAK of a control block, and what it carries for the hub; a control block with a
reserved CTYPE only counts (R243, R244, R247). -/
def stripeAccept (p : Nat) (x : LaneStripe) (s : State) : State :=
  if isCtrl x && 6 ≤ cbType x then lnkCnt p 7 1 s
  else
  let s := if isCtrl x then takeAck (cbAck x) p s else s
  let s := if isCtrl x && cbNak x then s.setLane p { s.lane p with nakRx := some (cbAck x) } else s
  if isCtrl x || (s.lane p).role == 0 then s.setLane p { s.lane p with inbox := (s.lane p).inbox ++ stripeParts x } else s

/-- The group is sound and the one expected. -/
def groupSound (s : State) (p : Nat) (l : List LaneStripe) : Bool :=
  groupOk l && (l.filter isCtrl).all (fun x => cbGseq x == (s.lane p).rxSeq)

/-- A far-end test reflects what the port receives (R460). -/
def reflects (s : State) (p : Nat) : Bool := s.pwr.test.any (fun t => t.1 == 0x05 && t.2.1.toNat == p && t.2.2)

/-- A group arrives (R252): accepted, or discarded as corrupted. Both directions send at one rate, so a group leaves for each that
arrives, and with it the ACK, or the NAK (DESIGN CHOICE, log 139). -/
def groupIn (l : List LaneStripe) (p : Nat) (s : State) : State :=
  if (s.lane p).st ≠ .active then (if reflects s p then s.emit (.laneGroup p l) else s)
  else
    let s := if groupSound s p l
      then forEach l (stripeAccept p) (s.setLane p { s.lane p with rxSeq := (s.lane p).rxSeq + 1, nakDue := false })
      else groupBad (!groupOk l || !(s.lane p).nakDue) p s
    sendGroup p [] s

def execLaneGroupReceive (p : BitVec 4) (stripes : List LaneStripe) (s : State) : Host.Outcome State Fault Refusal :=
  run (onPort p (groupIn stripes)) s

/-- Groups are sent again, or, when one has been sent five times, the port enters RECOVERY (R253, R254). -/
def resend (p : Nat) (s : State) : State :=
  if (s.lane p).outstanding.any (fun g => 5 ≤ g.sent) then enterRecovery p 0 s else resendAll p s

/-- LANE_NAK_RECEIVE (R253): the NAK of an accepted control block. -/
def nakIn (ack : BitVec 8) (p : Nat) (s : State) : State :=
  if (s.lane p).st = .active ∧ (s.lane p).nakRx = some ack then
    resend p (takeAck ack p (s.setLane p { s.lane p with nakRx := none }))
  else s

def execLaneNakReceive (p : BitVec 4) (ack : BitVec 8) (s : State) : Host.Outcome State Fault Refusal :=
  run (onPort p (nakIn ack)) s

/-- LANE_RESEND_TIMEOUT (R253). -/
def execLaneResendTimeout (p : BitVec 4) (s : State) : Host.Outcome State Fault Refusal :=
  run (onPort p (fun p s => if (s.lane p).st = .active then resend p s else s)) s

/-! ### Value stripes sent (R123, R124, R250) -/

/-- A transmit entry of port `p` at a position. -/
def txEntry (s : State) (p txpos : Nat) : Option SlotLane :=
  s.laneEntries.find? (fun l => !l.rx && l.port == p && l.txpos == txpos)

/-- The held values of an entry for a cycle, value 0 first; none when one is missing. -/
def heldValues (s : State) (e : SlotLane) (cyc : Word64) : Option (List Bool) :=
  (List.range (e.lenM1 + 1)).mapM (fun j =>
    (s.lnk.tx.find? (fun t => t.port == e.port && t.pos == e.txpos && t.cyc == cyc && t.slot == e.slot + j)).map (fun t => t.val))

/-- A cycle's values may leave the module (R124, R141). -/
def mayTransmit (s : State) (cyc : Word64) : Bool :=
  cycLt s.sch.committed cyc && !(s.wave.lateHeld && cyc == s.sch.committed + 1) &&
    (match s.wave.reqFrom with
     | some k => s.wave.relaysDue == 0 || cycLt cyc k
     | none => true)

/-- A value of an earlier cycle, or of an earlier TXPOS of the cycle, waits on the port. -/
def earlierWaits (s : State) (p : Nat) (cyc : Word64) (txpos : Nat) : Bool :=
  s.lnk.tx.any (fun t => t.port == p && (cycLt t.cyc cyc || (t.cyc == cyc && t.pos < txpos)))

/-- The header of a value stripe (R247). -/
def stripeHeader (cyc : Word64) (gen : BitVec 16) (e : SlotLane) : Word64 :=
  BitVec.ofNat 64 (2 ^ 56 * (cyc.toNat % 256) + 2 ^ 40 * gen.toNat + 2 ^ 28 * e.txpos + 2 ^ 16 * e.slot + 2 ^ 8 * e.lenM1)

/-- A list of values as bits, value 0 in bit 0. -/
def packWide (l : List Bool) : BitVec 192 :=
  BitVec.ofNat 192 ((List.range l.length).foldl (fun a j => a + b2n (l.getD j false) * 2 ^ j) 0)

/-- The hub sends one value stripe of an entry. -/
def sendStripe (e : SlotLane) (cyc : Word64) (vs : List Bool) (s : State) : State :=
  let s := { s with lnk := { s.lnk with
    tx := s.lnk.tx.filter (fun t => !(t.port == e.port && t.pos == e.txpos && t.cyc == cyc &&
      e.slot ≤ t.slot && t.slot ≤ e.slot + e.lenM1)) } }
  sendGroup e.port [.value (stripeHeader cyc s.wave.gen e) (packWide vs)] s

/-- VALUE_STRIPE_SEND (R250): the stripe of the execution that holds every value of the entry. -/
def stripeOut (cyc : BitVec 8) (txpos p : Nat) (s : State) : State :=
  match s.lnk.tx.find? (fun t => t.port == p && t.pos == txpos && t.cyc.toNat % 256 == cyc.toNat), txEntry s p txpos with
  | some t, some e =>
    match heldValues s e t.cyc with
    | some vs =>
      if carriesDesign s p && mayTransmit s t.cyc && !earlierWaits s p t.cyc txpos && itemRoom s p
      then sendStripe e t.cyc vs s else s
    | none => s
  | _, _ => s

def execValueStripeSend (p : BitVec 4) (cyc : BitVec 8) (txpos : BitVec 12) (s : State) : Host.Outcome State Fault Refusal :=
  run (onPort p (stripeOut cyc txpos.toNat)) s

/-! ### Value stripes received (R125, R126, R137, R138, R251) -/

/-- Every value of the stripe is declared by a receive entry. -/
def rxMatched (s : State) (p txpos slot countM1 : Nat) : Bool :=
  (List.range (countM1 + 1)).all (fun j => s.laneEntries.any (fun l =>
    l.rx && l.port == p && l.txpos == txpos && l.slot ≤ slot + j && slot + j ≤ l.slot + l.lenM1))

/-- VALUE_STRIPE_RECEIVE (R251). -/
def stripeIn (h : Word64) (values : BitVec 192) (p : Nat) (s : State) : State :=
  let txpos := ebits h 28 12
  let slot := ebits h 16 12
  let cnt := ebits h 8 8
  let d := (ebits h 56 8 + 512 - (s.sch.committed.toNat + 1) % 256) % 256
  if !carriesDesign s p || !s.img.valid || s.sch.st == .faultStop then s
  else if !rxMatched s p txpos slot cnt then lnkCause p 5 0 (lnkCnt p 5 1 s)
  else if 4 ≤ d then protocolError s
  else treatStripe { port := p, cyc := s.sch.committed + BitVec.ofNat 64 (d + 1), gen := BitVec.ofNat 16 (ebits h 40 16),
                     txpos := txpos, slot := slot, countM1 := cnt, values := values } s

def execValueStripeReceive (p : BitVec 4) (header : Word64) (values : BitVec 192) (s : State) :
    Host.Outcome State Fault Refusal := run (onPort p (fun p => laneGives p (.value header values) (stripeIn header values p))) s

/-! ### Hatband deliveries (R61, R224, R231 to R237) -/

/-- The flit of a late delivery that link `l` has carried last as `seq`, where it still stands behind that link. -/
def nakFlit (s : State) (l : HbdLink) (seq : Nat) : Option VcFlit :=
  s.hbd.vcs.find? (fun v => 1 ≤ v.hop && !v.again && linkKey (pathLink v.flit (v.hop - 1)) == linkKey l && v.seq == seq)

/-- The flits of link `l` from SEQ `seq` on stand before the link again, to be sent once more (R235). -/
def nakBack (l : HbdLink) (seq : Nat) (s : State) : State :=
  let k := linkKey l
  let x := mget s.hbd.links {} k
  let back (v : VcFlit) : Bool := 1 ≤ v.hop && !v.again && linkKey (pathLink v.flit (v.hop - 1)) == k &&
    decide ((v.seq + 16 - seq) % 16 < (x.seq + 16 - seq) % 16)
  { s with hbd := { s.hbd with
      vcs := s.hbd.vcs.map (fun v => if back v then { v with hop := v.hop - 1, again := true, lost := false, due := s.clock } else v)
      links := mset s.hbd.links {} k { x with seq := seq, nak := none, replay := x.replay.takeWhile (fun y => y.1 != seq) } } }

/-- A NAK (R235, R236): the flit that it names is sent again; one that has been sent five times makes the link fail. A flit that State
does not hold is known by the NAKs before (logs 115, 178). -/
def hbdNak (n : LinkNak) (seq : Nat) (s : State) : State :=
  match nakFlit s n.link seq with
  | some v =>
    if 5 ≤ v.sent then faultStop (hbdLinkFail n.link s) else hbdRetx n.link (BitVec.ofNat 9 v.flit.src) (nakBack n.link seq s)
  | none =>
    if 5 ≤ sentTimes s n seq then faultStop (hbdLinkFail n.link s)
    else hbdRetx n.link n.src { s with hbd := { s.hbd with
      unaccepted := mset s.hbd.unaccepted (16, 0) (linkKey n.link) (seq, sentTimes s n seq + 1) } }

/-- A sideband parity failure (R237): a VC0 fault while an execution is between step 0 and B7, and a NAK. `pos` is the planned
position of the VC0 flit that is discarded for it, 0 without one. -/
def sidebandFail (n : LinkNak) (pos seq : Nat) (s : State) : State :=
  let s := match s.sch.exec with
    | some e => vc0Fault .sideband (linkEnd n.link n.src) pos e.serial e.num s
    | none => s
  hbdNak n seq s

/-- A NAK of link `k` of a flit's path, the first for what failed there. -/
def nakOf (f : Flit) (k src : Nat) : LinkNak := { link := pathLink f k, src := BitVec.ofNat 9 src, again := false }

/-- The upset meets the flit at the end of a link of its path: the flit is discarded with its fault, or goes on as the upset has
left it (R231, R237). One whose VC has changed under a right sideband parity is no VC0 flit any more. -/
def flitMeets (f : Flit) (u : FlitUpset) (s : State) : State :=
  let g := upsetFlit f u.words
  let loc := linkLoc f u.link g.src
  let planned := g.pos + linkDelay f u.link
  let rest := s.hbd.flits.erase f
  match vc0Check s f u with
  | some .sideband => sidebandFail (nakOf f u.link g.src) planned u.seq.toNat { s with hbd := { s.hbd with flits := rest } }
  | some k => vc0Fault k loc planned f.exec f.cyc { s with hbd := { s.hbd with flits := rest } }
  | none => { s with hbd := { s.hbd with flits := if u.side.toNat / 128 = 0 then rest ++ [{ g with changed := true }] else rest } }

/-- The clocks run until the flit has arrived. -/
def flitLands (f : Flit) (s : State) : State := (clocksUntil 64 (fun t => !t.hbd.flits.contains f) s).getD s

/-- INBOUND_VALUE_ARRIVAL: the clocks run until the flit arrives; one that meets an upset is checked at the end of that link. An
upset of a link that the flit has passed, or that its path does not have, meets nothing. -/
def valueArrives (src pos : Nat) (upset : Option FlitUpset) (s : State) : State :=
  match s.hbd.flits.find? (fun f => f.src == src && f.pos == pos) with
  | none => s
  | some f => match upset with
    | none => flitLands f s
    | some u =>
      let due := checkClk f u.link
      if flitLinks f ≤ u.link ∨ due < s.clock then flitLands f s
      else match clocksUntil 64 (fun t => !t.hbd.flits.contains f || due ≤ t.clock) s with
        | none => s
        | some t =>
          if !t.hbd.flits.contains f then t
          else
            let m := flitMeets f u t
            flitLands { upsetFlit f u.words with changed := true } m

def execInboundValueArrival (src : BitVec 9) (pos : BitVec 12) (upset : Option FlitUpset) (s : State) :
    Host.Outcome State Fault Refusal := run (valueArrives src.toNat pos.toNat upset) s

/-- The entry's position has passed in the execution, or the execution or the one to come is a re-execution. -/
def lateAllowed (s : State) (pos : Nat) : Bool :=
  match s.sch.exec with
  | some e => e.ns || s.sch.phase != .issue || pos < s.sch.slot
  | none => isReexec s

/-- The packet that hub `src` owes first for cycle `n` (R127, R232): the first of its owed values that is not stale-pending now, with
those of consecutive slots after it. A value that has turned stale-pending since B8 holds up nothing; a refresh makes it due again. -/
def redelivDue (s : State) (src : Nat) (n : Word64) : Option (Nat × Nat × Nat) :=
  let due := s.lnk.redeliv.filter (fun r => (s.hbdEntries[r.1]?).any (fun e => e.src == src && heldValue s e n r.2))
  due.head?.map (fun r =>
    (r.1, r.2, ((List.range 128).takeWhile (fun j => due.contains (r.1, r.2 + j))).length - 1))

/-- The packet may be the next of its hub: none is owed, or it is the one owed first. -/
def redelivNext (s : State) (src entry first lenM1 : Nat) (n : Word64) : Bool :=
  (redelivDue s src n).all (fun r => r == (entry, first, lenM1))

/-- The packet of a late delivery as a flit: the same fields of word 0 and the same values (R232). -/
def lateFlit (e : SlotHbd) (r : Route) (first : Nat) (xs : List HubRec) (n : Word64) : Flit :=
  { entryFlit e r with inBase := e.inBase + first, lenM1 := xs.length - 1, values := packBits (xs.map (fun x => x.val)), cyc := n }

/-- A late delivery (R232) of records `xs` of entry `e` from value `first` on: a packet of VC1 with PRI 3 and OPC 0x1E waits in the
hub's NI, with what it meets on its way. The hub has then delivered the values. -/
def lateSend (e : SlotHbd) (r : Route) (first : Nat) (xs : List HubRec) (n : Word64) (upset : Option FlitUpset) (held : Bool)
    (s : State) : State :=
  let v : VcFlit := { vc := 1, pri := 3, opc := 0x1E, flit := { lateFlit e r first xs n with injected := s.clock }, due := s.clock,
                      upset := upset, held := held }
  let s := markDelivered xs s
  hbdCnt 5 1 { s with hbd := { s.hbd with vcs := s.hbd.vcs ++ [v] } }

/-- LATE_DELIVERY (R127, R232). The repeated deliveries of a hub go in slot-table order. -/
def lateDelivery (entry first lenM1 : Nat) (upset : Option FlitUpset) (held : Bool) (s0 : State) : State :=
  let s := reopen s0
  match s.hbdEntries[entry]?, s.curCycle with
  | some e, some n =>
    match findRoute s.routes e with
    | some r =>
      let xs := ((entryRecs s e n).drop first).take (lenM1 + 1)
      if isHubNi e.src && first + lenM1 ≤ e.lenM1 && lateAllowed s e.pos && redelivNext s e.src entry first lenM1 n &&
          xs.all (fun x => match x with | some y => !y.stale && !y.delivNow | none => false) then
        lateSend e r first (xs.filterMap id) n upset held
          { s with lnk := { s.lnk with
              redeliv := s.lnk.redeliv.filter (fun q => !(q.1 == entry && first ≤ q.2 && q.2 ≤ first + lenM1)) } }
      else s0
    | none => s0
  | _, _ => s0

def execLateDelivery (entry : Nat) (first lenM1 : BitVec 7) (upset : Option FlitUpset) (held : Bool) (s : State) :
    Host.Outcome State Fault Refusal := run (lateDelivery entry first.toNat lenM1.toNat upset held) s

/-- The VC0 flits that are checked at the end of a link in the present clock, each with its planned position there. -/
def onLink (s : State) (l : HbdLink) : List (Flit × Nat) :=
  s.hbd.flits.flatMap (fun f => ((List.range (flitLinks f)).filter (fun k => checkClk f k == s.clock && pathLink f k == l)).map
    (fun k => (f, f.pos + linkDelay f k)))

/-- HBD_NAK (R235 to R237). A sideband failure leaves open which VC its flit was of: a VC0 flit that stands on the link in the
clock is discarded. -/
def execHbdNak (nak : LinkNak) (seq : BitVec 4) (sideband : Bool) (s : State) : Host.Outcome State Fault Refusal :=
  run (fun s =>
    if sideband then
      let on := onLink s nak.link
      sidebandFail nak ((on.head?.map (fun x => x.2)).getD 0) seq.toNat
        { s with hbd := { s.hbd with flits := s.hbd.flits.filter (fun f => !(on.map (fun x => x.1)).contains f) } }
    else hbdNak nak seq.toNat s) s

end Sys2Proof.Machine
end

