-- ==== Sys2Proof/Machine/Host.lean ====
section
/-!
DEFINITION. Machine/Host.lean: resets and link events of PCIe (R376 to R378, R395, R399, R476), event masks and pending
bits and MSI-X vectors (R379, R380), JTAG (R383) and the configuration CRC (R387 to R389)
(spec/14_host_registers_ownership.md).
-/
namespace Sys2Proof.Machine

/-! ### Unmapped offsets -/

/-- An access at an offset that no register occupies (R31). The window of an absent resource is R2's as a whole (DEDUCED,
log 117): nothing is reported there. -/
def unmapped (path : Path) (off : Nat) (s : State) : State :=
  if absentAt s off then s else gblErr 0 0x000 off (pathCode path) false s

/-! ### PCIe -/

/-- Vectors of a function (R376). -/
def msixVectors (fn : PcieFn) : Nat :=
  match fn with
  | .pf0 => 2048
  | .pf1 => 32

/-- The snapshot copy of a path; Bonnet has none. -/
def State.snapOf (s : State) (path : Path) : Snap :=
  match path with
  | .pf0 => s.host.snap0
  | .pf1 => s.host.snap1
  | .smb => s.host.snapS
  | .bonnet => {}

/-- Replaces the snapshot copy of a path. -/
def State.setSnap (s : State) (path : Path) (x : Snap) : State :=
  match path with
  | .pf0 => { s with host := { s.host with snap0 := x } }
  | .pf1 => { s with host := { s.host with snap1 := x } }
  | .smb => { s with host := { s.host with snapS := x } }
  | .bonnet => s

/-- The path of a function. -/
def fnPath (fn : PcieFn) : Path :=
  match fn with
  | .pf0 => .pf0
  | .pf1 => .pf1

/-- PCIe bus mastering ends (R348). -/
def busMasterEnds (s : State) : State := loseSink 1 { s with lks := { s.lks with busMasterOff := true } }

/-- The PCIe state of a function is reset (R378): its BAR assignments, its MSI-X state, its path's snapshot, its outstanding reads,
and for PF0 bus mastering. -/
def fnReset (fn : PcieFn) (s : State) : State :=
  let s := (s.setMsix fn {}).setSnap (fnPath fn) { s.snapOf (fnPath fn) with held := false }
  let s := { s with mem := { s.mem with bar2 := s.mem.bar2.filter (fun r => r.fn ≠ fn) } }
  match fn with
  | .pf0 => busMasterEnds { s with host := { s.host with bars0 := [0, 0, 0] } }
  | .pf1 => { s with host := { s.host with bars1 := [0, 0, 0] } }

/-- The function is in Function Level Reset, or leaves it. -/
def setFlr (fn : PcieFn) (b : Bool) (s : State) : State :=
  match fn with
  | .pf0 => { s with host := { s.host with flr0 := b } }
  | .pf1 => { s with host := { s.host with flr1 := b } }

/-- The link leaves DL_Active, and both functions are reset (R378). -/
def linkReset (s : State) : State := fnReset .pf1 (fnReset .pf0 { s with host := { s.host with dlActive := false, linkRate := 0, linkWidth := 0 } })

/-- PCIE_FLR (R378, R399). -/
def execPcieFlr (fn : PcieFn) (s : State) : Host.Outcome State Fault Refusal := run (fun s => fnReset fn (setFlr fn true s)) s

/-- FUNCTION_LEVEL_RESET_END (R399). -/
def flrEnd (fn : PcieFn) (s : State) : State :=
  let s := setFlr fn false s
  if fn = .pf0 ∧ s.host.dlActive then { s with lks := { s.lks with busMasterOff := false } } else s

def execFunctionLevelResetEnd (fn : PcieFn) (s : State) : Host.Outcome State Fault Refusal := run (flrEnd fn) s

/-- PCIE_HOT_RESET (R378). -/
def execPcieHotReset (s : State) : Host.Outcome State Fault Refusal := run linkReset s

/-- PCIE_LINK_DOWN (R378, R395). -/
def execPcieLinkDown (s : State) : Host.Outcome State Fault Refusal := run linkReset s

/-- The rates and widths at which the link trains: PCIe 5.0 x16, or what it falls back to (R377). -/
def linkRates : List Nat := [320, 160, 80, 50, 25]
def linkWidths : List Nat := [16, 8, 4, 2, 1]

/-- PCIE_LINK_UP (R377, R395): not while PERST_N is asserted (R476). What the link falls back to is its partner's, a free value
(log 184). -/
def linkUp (s : State) : State :=
  if s.host.perst then s
  else
    let x := (Config.free64 s.freeCtr).toNat
    { s.tick1 with host := { s.host with dlActive := true, linkRate := linkRates.getD (x % 5) 320, linkWidth := linkWidths.getD (x / 8 % 5) 16 }
                   lks := { s.lks with busMasterOff := s.host.flr0 } }

def execPcieLinkUp (s : State) : Host.Outcome State Fault Refusal := run linkUp s

/-- PERST_N_ASSERT (R476). The pin's level is kept in every stage of start-up. -/
def perstAssert (s : State) : State :=
  let s := { s with host := { s.host with perst := true } }
  if s.up then linkReset s else s

def execPerstNAssert (s : State) : Host.Outcome State Fault Refusal := done (perstAssert s)

/-- PERST_N_RELEASE (R476). -/
def execPerstNRelease (s : State) : Host.Outcome State Fault Refusal :=
  done { s with host := { s.host with perst := false } }

/-! ### Events and MSI-X (R379, R380) -/

/-- The write of a mask register: each pending event whose mask bit clears is delivered, the lowest first. -/
def maskWrite (k : Nat) (val : Word32) (s : State) : State :=
  let old := s.reg (Reg.GBL_EVT_MASK + 4 * k)
  (List.range 32).foldl (fun s i =>
    if old.getLsbD i && !val.getLsbD i && s.pendBit (32 * k + i) then deliver (32 * k + i) s else s)
    (storeReg (Reg.GBL_EVT_MASK + 4 * k) val s)

/-- EVENT_MASK_WRITE. -/
def execEventMaskWrite (path : Path) (k : BitVec 6) (val : Word32) (s : State) : Host.Outcome State Fault Refusal :=
  let off := Reg.GBL_EVT_MASK + 4 * k.toNat
  run (if k.toNat < 48 then regAccess path off val (maskWrite k.toNat) else unmapped path off) s

/-- Events of a pending register are raised in the edge that clears bits of it (R9, R35): a bit that the edge clears is
set, and its event delivered again; a bit that stays set hides the repeat (R33). -/
def raiseInEdge (k : Nat) (raised : Word32) (s : State) : State :=
  (List.range 32).foldl (fun s i => if raised.getLsbD i then raise (32 * k + i) s else s) s

/-- EVENT_PEND_CLEAR. -/
def pendClear (path : Path) (k : Nat) (val raised : Word32) (s : State) : State :=
  let off := Reg.GBL_EVT_PEND + 4 * k
  raiseInEdge k raised (regAccess path off val (storeReg off) s)

def execEventPendClear (path : Path) (k : BitVec 6) (val raised : Word32) (s : State) :
    Host.Outcome State Fault Refusal :=
  run (if k.toNat < 48 then pendClear path k.toNat val raised else unmapped path (Reg.GBL_EVT_PEND + 4 * k.toNat)) s

/-- Sends what stands in a function's PBA at vectors that may send. -/
def msixFlush (fn : PcieFn) (s : State) : State :=
  let vecs := (s.msix fn).pba.map (fun p => p.1)
  vecs.foldl (fun s v =>
    let m := s.msix fn
    let e := mget m.table {} v
    if m.enabled && !e.masked && mget m.pba false v then
      (s.setMsix fn { m with pba := mset m.pba false v false }).emit (.msix fn v e.addr e.data)
    else s) s

/-- The function is in Function Level Reset. -/
def State.inFlr (s : State) (fn : PcieFn) : Bool :=
  match fn with
  | .pf0 => s.host.flr0
  | .pf1 => s.host.flr1

/-- MSIX_VECTOR_UNMASK. -/
def msixUnmask (fn : PcieFn) (vec : Nat) (addr : Word64) (data : Word32) (enable : Bool) (s : State) : State :=
  if msixVectors fn ≤ vec ∨ s.inFlr fn then s
  else
    let m := s.msix fn
    let e : MsixEntry := { addr := addr, data := data, masked := false }
    msixFlush fn (s.setMsix fn { m with enabled := enable, table := mset m.table {} vec e })

def execMsixVectorUnmask (fn : PcieFn) (vec : BitVec 11) (addr : Word64) (data : Word32) (enable : Bool) (s : State) :
    Host.Outcome State Fault Refusal := run (msixUnmask fn vec.toNat addr data enable) s

/-! ### JTAG (R383) -/

/-- Every lane port goes to a state. -/
def allPorts (st : LaneState) (s : State) : State := forN s.lanePorts (fun p s => portTo p st s) s

/-- A JTAG instruction becomes current. -/
def jtagSet (j : JtagInstr) (s : State) : State :=
  let was := disruptive s.host.jtag
  let s := { s with host := { s.host with jtag := j, jtagCnt := s.host.jtagCnt + 1 } }
  if !s.up then s
  else if disruptive j then settle (if was then s else allPorts .disabled s)
  else if was then settle (allPorts .detect s)
  else s

/-- A JTAG instruction is loaded: a disruptive one acts as BYPASS unless STATE is IDLE or FAULT_STOP, DBG_GATE unless
Bonnet holds a debug unlock. -/
def jtagLoad (j : JtagInstr) (s : State) : State :=
  let ok := if disruptive j then s.sch.st == .idle || s.sch.st == .faultStop else j != .dbgGate || s.unlocked
  if ok then jtagSet j s else jtagSet .bypass (gblErr 4 0x008 0 3 false s)

/-- The TAP works in every state with the supplies up (R424). -/
def tap (f : State → State) (s : State) : Host.Outcome State Fault Refusal :=
  if s.boot.stage = .off then done s else done (f s)

def execJtagExtest (s : State) : Host.Outcome State Fault Refusal := tap (jtagLoad .extest) s
def execJtagSamplePreload (s : State) : Host.Outcome State Fault Refusal := tap (jtagLoad .samplePreload) s
def execJtagHighz (s : State) : Host.Outcome State Fault Refusal := tap (jtagLoad .highz) s
def execJtagClamp (s : State) : Host.Outcome State Fault Refusal := tap (jtagLoad .clamp) s
def execJtagExtestPulse (s : State) : Host.Outcome State Fault Refusal := tap (jtagLoad .extestPulse) s
def execJtagExtestTrain (s : State) : Host.Outcome State Fault Refusal := tap (jtagLoad .extestTrain) s
def execJtagDbgGate (s : State) : Host.Outcome State Fault Refusal := tap (jtagLoad .dbgGate) s
def execJtagTestLogicReset (s : State) : Host.Outcome State Fault Refusal := tap (jtagSet .idcode) s

/-- The device identification register (spec/14_host_registers_ownership.md, JTAG). -/
def idcodeWord (s : State) : Word32 :=
  BitVec.ofNat 32 (2 ^ 28 * s.ident.stepping.toNat + 2 ^ 12 * s.part + 2 * 0x3C5 + 1)

/-- JTAG_IDCODE; while POR_N is low TDO is high-Z, and the identification does not come out (R480). -/
def execJtagIdcode (s : State) : Host.Outcome State Fault Refusal :=
  tap (fun s => let t := jtagLoad .idcode s; if s.boot.stage = .porHeld then t else t.emit (.jtagId (idcodeWord s))) s

/-- The instruction that a JTAG code loads; an unlisted code acts as BYPASS. -/
def jtagOf (code : BitVec 8) : JtagInstr :=
  if code = 0x00 then .extest else if code = 0x01 then .samplePreload else if code = 0x02 then .idcode
  else if code = 0x03 then .highz else if code = 0x04 then .clamp else if code = 0x05 then .extestPulse
  else if code = 0x06 then .extestTrain else if code = 0x10 then .dbgGate else .bypass

/-- JTAG_BYPASS: the code 0xFF or an unlisted one. -/
def execJtagBypass (code : BitVec 8) (s : State) : Host.Outcome State Fault Refusal := tap (jtagLoad (jtagOf code)) s

/-! ### Configuration CRC (R387 to R389) -/

/-- The offsets of a row that hold a covered field. -/
def rowCovered (s : State) (r : RegRow) : List Nat :=
  if r.rw ||| r.rwl = 0 then []
  else ((List.range r.count).map (fun i => r.base + r.stride * i)).filter (fun o => coveredMask s o ≠ 0)

/-- The offsets that hold a covered field, ascending. -/
def coveredOffsets (s : State) : List Nat := sortBy (fun a b => decide (a ≤ b)) (regMap.flatMap (rowCovered s))

/-- The result of a sweep (R388). -/
def sweepCrc (s : State) : Word32 :=
  crc32c ((coveredOffsets s).flatMap (fun o => leBytes 4 o ++ leBytes 4 (s.reg o &&& coveredMask s o).toNat))

/-- What the end of a sweep does with its result (R389). -/
def sweepEnd (crc : Word32) (s : State) : State :=
  let dirty := s.host.sweepDirty
  let mode := s.fld Reg.GBL_CFGCRC_CTRL 0 2
  let s := (s.setReg Reg.GBL_CFGCRC_LAST crc).setBit Reg.GBL_CFGCRC_STATUS 1 dirty
  let s := { s with host := { s.host with sweepDirty := false } }
  if dirty then s
  else if mode = 1 ∧ crc ≠ s.reg Reg.GBL_CFGCRC_REF then raise 0x005 (s.setBit Reg.GBL_CFGCRC_STATUS 0 true)
  else if mode = 2 then (s.setReg Reg.GBL_CFGCRC_REF crc).setFld Reg.GBL_CFGCRC_CTRL 0 2 1
  else s

/-- CFGCRC_SWEEP_END. -/
def execCfgcrcSweepEnd (s : State) : Host.Outcome State Fault Refusal := run (fun s => sweepEnd (sweepCrc s) s) s

end Sys2Proof.Machine
end

