-- ==== Sys2Proof/Machine/LoadCheck.lean ====
section
/-!
DEFINITION. Machine/LoadCheck.lean: what the loader checks in a Zheol image, item by item
(spec/05_compiler_contract.md, R153 to R161, R168 to R176, R491, R493; spec/07_hatband.md, R224, R227 to R229;
spec/06_design_memory.md, R183; spec/08_lanes_multimodule.md, R249; spec/11_aster.md, R313; spec/10_glove.md, R288).
-/
namespace Sys2Proof.Machine

/-- A failing item: its status, SCH_LOAD_DETAIL.KIND and SECTION, SCH_LOAD_WHERE, and its place in file order. -/
structure ImgFail where
  status : Nat
  kind : Nat
  sec : Nat
  loc : Nat
  order : Nat
  deriving DecidableEq, Repr

/-- The failing item that is reported: the lowest status, and of those the first in file order (R16, R161). -/
def firstFail (l : List ImgFail) : Option ImgFail :=
  (sortBy (fun (a b : ImgFail) => a.status < b.status || (a.status == b.status && a.order ≤ b.order)) l).head?

/-- A list of one item where `c` holds. -/
def when (c : Bool) (f : ImgFail) : List ImgFail := if c then [f] else []

/-! ### The header (R154 to R156, R491) -/

/-- A section entry. -/
structure SecEntry where
  index : Nat
  type : Nat
  res : Nat
  len : Nat
  off : Nat
  deriving DecidableEq, Repr

/-- Fields of the header. -/
def hN (h : List Byte) : Nat := leAt h 0xA 2
def hPartition (h : List Byte) : Nat := leAt h 0xC 1
def hPartitions (h : List Byte) : Nat := leAt h 0xD 1
def hSections (h : List Byte) : Nat := leAt h 0xE 2
def hDigest (h : List Byte) : BitVec 384 := BitVec.ofNat 384 (beAt h 0x50 48)

/-- The section entries in use. -/
def hEntries (h : List Byte) : List SecEntry :=
  (List.range (min 12 (hSections h))).map (fun k =>
    let o := 0x120 + 16 * k
    { index := k, type := leAt h o 2, res := leAt h (o + 2) 2, len := leAt h (o + 4) 4, off := leAt h (o + 8) 8 })

/-- The entry of a section type. -/
def entryOf (h : List Byte) (t : Nat) : Option SecEntry := (hEntries h).find? (fun e => e.type == t)

/-- The stored length of a section (R157). -/
def storedLen (n : Nat) : Nat := n + 16 * ((n + 65535) / 65536)

/-- LENGTH has the value, or the form, that the HEADER phase asks for. -/
def lengthOk (g n t len : Nat) : Bool :=
  match t with
  | 1 => len == g * 256 * n * 14
  | 2 => len == g * 8192
  | 3 => len == g * 2048
  | 4 => len == g * 16
  | 5 => len % 8 == 0 && len ≤ 8 * 248 * 384
  | 6 | 7 | 10 => len % 8 == 0
  | 8 => 128 ≤ len && len ≤ 8832 && (len - 128) % 8 == 0
  | 9 => len % 65536 == 0 && len ≤ g * 2 * 65536
  | 11 => 16 ≤ len && (len - 16) % 8 == 0
  | 12 => len % 20 == 0 && 20 ≤ len
  | _ => false

/-- Section types that a file must have, and those that it may have (R156). -/
def secRequired (stage : Bool) (parts : Nat) : List Nat :=
  if stage then [] else if 1 < parts then [1, 2, 3, 4, 5, 6, 7] else [1, 2, 3, 4, 5, 6]
def secAllowed (stage : Bool) (parts : Nat) : List Nat :=
  (if stage then [4, 5, 6, 10, 12] else [1, 2, 3, 4, 5, 6, 8, 9, 10, 11]) ++ (if 1 < parts then [7] else [])

/-- A failing header item. -/
def hFail (c : Bool) (status pos : Nat) : List ImgFail :=
  when c { status := status, kind := 1, sec := 0, loc := pos, order := pos }

/-- Every byte of the header from `o` on, `n` of them, is 0. -/
def hZero (h : List Byte) (o n : Nat) : Bool := leAt h o n == 0

/-- The checks of one section entry against the file of `len` bytes. -/
def entryFails (g n parts len : Nat) (stage : Bool) (es : List SecEntry) (e : SecEntry) : List ImgFail :=
  let o := 0x120 + 16 * e.index
  let clash : Bool := es.any (fun d => d.index < e.index && d.off < e.off + storedLen e.len && e.off < d.off + storedLen d.len)
  hFail (!(secAllowed stage parts).contains e.type || es.any (fun d => d.index < e.index && d.type == e.type)) 12 o ++
  hFail (e.res != 0) 12 (o + 2) ++
  hFail (!lengthOk g n e.type e.len) 12 (o + 4) ++
  hFail (e.off % 16 != 0 || e.off < 0x200 || len < e.off + storedLen e.len || clash) 12 (o + 8)

/-- The section table (R155, R156, R491). -/
def tableFails (s : State) (h : List Byte) (len : Nat) (stage : Bool) : List ImgFail :=
  let es := hEntries h
  let parts := hPartitions h
  let k := min 12 (hSections h)
  hFail (!hZero h (0x120 + 16 * k) (16 * (12 - k))) 12 (0x120 + 16 * k) ++
  hFail ((secRequired stage parts).any (fun t => !es.any (fun e => e.type == t))) 12 0x120 ++
  es.flatMap (entryFails s.clusters (hN h) parts len stage es)

/-- MAGIC, HDR_CRC, GRADE and the fields that end with RESOURCE. -/
def fieldFails (s : State) (h : List Byte) (stage : Bool) : List ImgFail :=
  let n := hN h
  hFail (leAt h 0 4 != 0x4F45485A) 7 0 ++
  hFail ((crc32c (h.take 0x1FC)).toNat != leAt h 0x1FC 4) 7 0x1FC ++
  hFail (leAt h 8 2 != s.part) 5 8 ++
  hFail (leAt h 4 2 != 1) 12 4 ++
  hFail (leAt h 6 2 != b2n stage) 12 6 ++
  hFail (n % 32 != 0 || n < 32 || 2048 < n) 12 0xA ++
  hFail (hPartitions h < 1 || 64 < hPartitions h) 12 0xD ++
  hFail (hSections h < 1 || 12 < hSections h) 12 0xE ++
  hFail (!hZero h 0x1C 4) 12 0x1C ++ hFail (!hZero h 0x11C 4) 12 0x11C ++ hFail (!hZero h 0x1E0 28) 12 0x1E0 ++
  hFail (!stage && !hZero h 0x80 48) 12 0x80

/-- Who the image is for: this device and partition, or the installed image that a change names (R161, R168). -/
def identityFails (s : State) (h : List Byte) (stage : Bool) : List ImgFail :=
  hFail (beAt h 0x10 8 != beAt (deviceBind s.ident) 0 8) 6 0x10 ++
  (if stage then
    hFail (hPartition h != s.img.partition.toNat) 6 0xC ++ hFail (hPartitions h != s.img.partitions.toNat) 6 0xD ++
    hFail (hN h != s.img.n) 6 0xA ++
    hFail (!s.img.valid || beAt h 0x80 48 != s.img.digest.toNat) 6 0x80
  else
    hFail (hPartition h != s.plat.module.toNat ||
      (1 ≤ hPartitions h && hPartitions h ≤ 64 && hPartitions h ≤ hPartition h)) 6 0xC)

/-- The HEADER phase. -/
def imgHeaderFails (s : State) (h : List Byte) (len : Nat) (stage : Bool) : List ImgFail :=
  fieldFails s h stage ++ identityFails s h stage ++ tableFails s h len stage

/-! ### The sections in bytes, and their stored form (R153, R157 to R160, R169, R403) -/

/-- LENGTH of a section type; 0 for one that the file does not hold. -/
def secLen (h : List Byte) (t : Nat) : Nat := ((entryOf h t).map (fun e => e.len)).getD 0

/-- A byte whose bit `j` is `f j`. -/
def byteOf (f : Nat → Bool) : Byte := BitVec.ofNat 8 (((List.range 8).map (fun j => 2 ^ j * b2n (f j))).sum)

/-- Little-endian entries of 8 bytes. -/
def wordsBytes (l : List Word64) : List Byte := l.flatMap (fun x => leBytes 8 x.toNat)

/-- The plaintext bytes of a section of type `t`, for `g` clusters. -/
def sectionBytes (g : Nat) (h : List Byte) (body : ImageBody) (t : Nat) : List Byte :=
  match t with
  | 1 => (List.range g).flatMap (fun c => (List.range 256).flatMap (fun p => (List.range (hN h)).flatMap (fun k =>
      leBytes 14 (mget body.instr nopWord (2 ^ 24 * c + 2 ^ 16 * p + k)).toNat)))
  | 2 => (List.range (g * 8192)).map (fun i => byteOf (fun j => mget body.stateInit false (8 * i + j)))
  | 3 => (List.range (g * 2048)).map (fun i =>
      BitVec.ofNat 8 ((mget body.pred 0 (2 * i)).toNat + 16 * (mget body.pred 0 (2 * i + 1)).toNat))
  | 4 => (List.range g).flatMap (fun c => leBytes 16 (mget body.cfg 0 c).toNat)
  | 5 => wordsBytes body.route
  | 6 => wordsBytes body.slotHbd
  | 7 => wordsBytes body.slotLane
  | 8 => body.memdecl
  | 9 => (List.range (secLen h 9 / 8)).flatMap (fun i => leBytes 8 (mget body.bankInit 0 i).toNat)
  | 10 => wordsBytes body.probe
  | 11 => wordsBytes body.gloveMap
  | 12 => body.patch.flatMap (fun e => leBytes 4 e.loc.toNat ++ leBytes 14 e.word.toNat ++ leBytes 2 e.rest.toNat)
  | _ => []

/-- The plaintext has the sections of the table and no others, each of its LENGTH. -/
def bodyFits (g : Nat) (h : List Byte) (b : ImageBody) : Bool :=
  8 * b.route.length == secLen h 5 && 8 * b.slotHbd.length == secLen h 6 && 8 * b.slotLane.length == secLen h 7 &&
    b.memdecl.length == secLen h 8 && 8 * b.probe.length == secLen h 10 && 8 * b.gloveMap.length == secLen h 11 &&
    20 * b.patch.length == secLen h 12 &&
    b.instr.all (fun p => p.1 / 2 ^ 24 < g && p.1 % 2 ^ 16 < hN h && secLen h 1 != 0) &&
    b.stateInit.all (fun p => p.1 < 8 * secLen h 2) && b.pred.all (fun p => p.1 < 2 * secLen h 3) &&
    b.cfg.all (fun p => 16 * p.1 < secLen h 4) && b.bankInit.all (fun p => 8 * p.1 < secLen h 9)

/-- Chunks of a section. -/
def chunksOf (len : Nat) : Nat := (len + 65535) / 65536

/-- The nonce of chunk `j` of entry `e` (R403). -/
def chunkNonce (h : List Byte) (e j : Nat) : List Byte :=
  (h.drop 0x110).take 8 ++ beBytes 4 (beAt h 0x118 4 ^^^ (e * 2 ^ 24 + j))

/-- The additional authenticated data of a chunk (R403). -/
def chunkAad (h : List Byte) (e j : Nat) (last : Bool) : List Byte :=
  h.take 0x1FC ++ [BitVec.ofNat 8 e] ++ beBytes 4 j ++ [if last then 1 else 0]

/-- The stored form of chunk `j` of a section (R157): the plaintext's seal under K_IMG (`key`). -/
def chunkStored (key : BitVec 256) (g : Nat) (h : List Byte) (body : ImageBody) (e : SecEntry) (j : Nat) : List Byte :=
  gcmSeal key (chunkNonce h e.index j) (chunkAad h e.index j (j + 1 == chunksOf e.len))
    (((sectionBytes g h body e.type).drop (65536 * j)).take 65536)

/-- The file offset of chunk `j` of a section. -/
def chunkAt (e : SecEntry) (j : Nat) : Nat := e.off + 65552 * j

/-- A chunk tag verifies: the bytes that stand at the chunk's offset are the seal of the plaintext. -/
def tagOk (key : BitVec 256) (g : Nat) (h : List Byte) (body : ImageBody) (p : PassResult) (e : SecEntry) (j : Nat) : Bool :=
  (p.stored.find? (fun x => x.1 == chunkAt e j)).map (fun x => x.2) == some (chunkStored key g h body e j)

/-- BODY_DIGEST is the SHA-384 digest of the plaintext in table order (R160). -/
def digestOk (g : Nat) (h : List Byte) (body : ImageBody) : Bool :=
  (h.drop 0x20).take 48 == beBytes 48 (sha384 ((hEntries h).flatMap (fun e => sectionBytes g h body e.type))).toNat

/-! ### EPH_KEY (R161) -/

/-- EPH_KEY, x then y, is a point on the P-384 curve. -/
def ephOnCurve (h : List Byte) : Bool :=
  onCurve (beAt h 0xB0 48) (beAt h 0xE0 48)

/-! ### INSTR (R36, R41, R47, R151) -/

/-- A word of the schedule. -/
structure SchedWord where
  c : Nat
  bp : Nat
  slot : Nat
  word : InstrWord
  deriving DecidableEq, Repr

/-- The words of INSTR that are listed; every other one is the no-operation word. -/
def schedule (g n : Nat) (body : ImageBody) : List SchedWord :=
  (body.instr.map (fun p => { c := p.1 / 2 ^ 24, bp := p.1 / 2 ^ 16 % 256, slot := p.1 % 65536, word := p.2 })).filter
    (fun w => w.c < g && w.slot < n)

/-- The location form of R169. -/
def locOf (c bp slot : Nat) : Nat := 2 ^ 24 * c + 2 ^ 16 * bp + slot

/-- A failing word of INSTR. -/
def wFail (e : SecEntry) (n : Nat) (c : Bool) (status kind : Nat) (w : SchedWord) : List ImgFail :=
  when c { status := status, kind := kind, sec := e.index, loc := locOf w.c w.bp w.slot,
           order := e.off + ((w.c * 256 + w.bp) * n + w.slot) * 14 }

/-- The word's kind, an illegal one for a word with bad parity. -/
def SchedWord.kind (w : SchedWord) : WordKind := if wordParityOk w.word then kindOf w.bp w.word else .illegal

/-- The word's result is 1 for every value of its operands that are not constants. -/
def constOne (w : InstrWord) : Bool :=
  let vals (x : Sel) : List Bool := match x with | .const v => [v] | _ => [false, true]
  match selsOf w with
  | [a, b, c, d] => (vals a).all (fun a => (vals b).all (fun b => (vals c).all (fun c => (vals d).all (fun d =>
      evalTT (ttOf w) [a, b, c, d]))))
  | _ => false

/-- What the word writes in its cluster, as far as the schedule fixes it (R151, R76). -/
def writeKey (w : SchedWord) : Option (Nat × Nat × Nat) :=
  match w.kind with
  | .cnsWrite e => some (0, e, 0)
  | .shadowWrite b => some (1, b, 0)
  | .sendWrite i => some (2, i, 0)
  | .addrBit c a => some (3, c, a)
  | .wdataBit c a => some (4, c, a)
  | .issue c _ => if constOne w.word then some (5, c, 0) else none
  | _ => none

/-- The word writes CNS entry `n`, or send slot `i`. -/
def writesCns (n : Nat) (w : SchedWord) : Bool := match w.kind with | .cnsWrite e => e == n | _ => false
def writesSend (i : Nat) (w : SchedWord) : Bool := match w.kind with | .sendWrite j => j == i | _ => false
def verifies (i : Nat) (w : SchedWord) : Bool := match w.kind with | .verify j => j == i | _ => false

/-- The checks of one word against the words of its cluster. Of two that conflict the later one in file order is the failing
item (DESIGN CHOICE, log 160). -/
def wordFails (e : SecEntry) (n : Nat) (ws : List SchedWord) (w : SchedWord) : List ImgFail :=
  let mine := ws.filter (fun v => v.c == w.c)
  let reads := readsOf w.kind w.word
  let before (v : SchedWord) : Bool := v.slot < w.slot || (v.slot == w.slot && v.bp < w.bp)
  wFail e n (!wordParityOk w.word) 7 3 w ++
  (if !wordParityOk w.word then [] else
    wFail e n (w.kind == .illegal) 12 5 w ++
    wFail e n (reads.any (fun x => match x with
      | .cns k => !mine.any (fun v => writesCns k v && v.slot + 2 ≤ w.slot)
      | _ => false)) 12 6 w ++
    wFail e n (reads.any (fun x => match x with
      | .inbound i true => !mine.any (verifies i)
      | _ => false)) 12 7 w ++
    wFail e n (match w.kind with | .verify i => mine.any (fun v => verifies i v && before v) | _ => false) 12 7 w ++
    wFail e n ((writeKey w).isSome && mine.any (fun v => v.slot == w.slot && v.bp < w.bp && writeKey v == writeKey w)) 11 8 w)

/-- EXPECT of a cluster in CLUSTER_CFG. -/
def expectOf (cfg : SMap (BitVec 128)) (c : Nat) : Nat := (mget cfg 0 c).toNat % 2 ^ 13

/-- INSTR and EXPECT. -/
def instrFails (g n : Nat) (h : List Byte) (body : ImageBody) : List ImgFail :=
  match entryOf h 1, entryOf h 4 with
  | some e, some ce =>
    let ws := schedule g n body
    ws.flatMap (wordFails e n ws) ++
    (List.range g).flatMap (fun c =>
      when ((ws.filter (fun w => w.c == c && (match w.kind with | .verify _ => true | _ => false))).length != expectOf body.cfg c)
        { status := 12, kind := 7, sec := ce.index, loc := 16 * c, order := ce.off + 16 * c })
  | _, _ => []

/-! ### Fixed-format sections (R159) -/

/-- A failing item of a section at byte `pos` of its plaintext; a table that the file does not hold counts as
section 0. -/
def sFail (e : Option SecEntry) (c : Bool) (status kind pos : Nat) : List ImgFail :=
  when c { status := status, kind := kind, sec := (e.map (fun x => x.index)).getD 0, loc := pos,
           order := ((e.map (fun x => x.off)).getD 0) + pos }

/-- Reserved bits in PRED and CLUSTER_CFG. -/
def fixedFails (h : List Byte) (body : ImageBody) : List ImgFail :=
  body.pred.flatMap (fun p => sFail (entryOf h 3) (p.2.getLsbD 3) 12 0xD (p.1 / 4096 * 2048 + p.1 % 4096 / 2)) ++
  body.cfg.flatMap (fun p => sFail (entryOf h 4) (2 ^ 13 ≤ p.2.toNat) 12 0xD (16 * p.1))

/-! ### ROUTE and SLOT_HBD (R173 to R176, R227 to R229) -/

/-- Elements of a list with their indexes. -/
def indexed {α : Type} (l : List α) : List (Nat × α) := (List.range l.length).zip l

/-- The NI is a cluster's. -/
def isCluNi (ni : Nat) : Bool := ni < 256

/-- The slot tables of a run, each with the section entry that names it, where the file holds it. -/
structure Tables where
  rt : List Word64
  rtE : Option SecEntry
  hb : List Word64
  hbE : Option SecEntry
  ln : List Word64
  lnE : Option SecEntry
  deriving DecidableEq, Repr

/-- The route that an entry uses. -/
def Tables.route (t : Tables) (e : SlotHbd) : Option Route := findRoute (t.rt.map routeOf) e

/-- R227, entry by entry. -/
def routeFails (half : Bool) (t : Tables) : List ImgFail :=
  let rs := t.rt.map routeOf
  (indexed t.rt).flatMap (fun p =>
    let r := routeOf p.2
    let used : Bool := t.hb.any (fun x => (slotHbdOf x).src == r.src && (slotHbdOf x).route == r.index)
    sFail t.rtE (ebits p.2 9 7 != 0 || ebits p.2 39 25 != 0 || 247 < r.index ||
      (rs.take p.1).any (fun q => q.src == r.src && q.index == r.index) ||
      !niExists half r.src || !niExists half r.dst ||
      r.hops != ringDist (ringPosOf r.src) (ringPosOf r.dst) r.dir || 12 < r.hops || r.src == r.dst ||
      (r.hops == 0 && !(isCluNi r.src && isCluNi r.dst)) ||
      (used && !((isCluNi r.src || isHubNi r.src) && (isCluNi r.dst || isHubNi r.dst)))) 12 0xD (8 * p.1))

/-- The links that an entry's flit uses, with their planned positions (R174, R224): egress, ring segments and
ingress. -/
def linksOf (e : SlotHbd) (r : Route) : List (Nat × Nat × Nat × Nat) :=
  let a := ringPosOf r.src
  (0, e.src, 0, e.pos) ::
  (List.range r.hops).map (fun k =>
    (1, 2 * b2n r.dir + b2n r.ring, (if r.dir then (a + 24 - k % 24) % 24 else (a + k) % 24), e.pos + k + 1)) ++
  [(2, r.dst, 0, if r.hops = 0 then e.pos + 1 else e.pos + r.hops + 2)]

/-- The slots that an entry fills: inbound slots of a cluster, or lane slots of a hub port at a position. -/
def fillsOf (e : SlotHbd) (r : Route) : List (Nat × Nat × Nat) :=
  (List.range (e.lenM1 + 1)).map (fun j => (r.dst, e.inBase + j, if isHubNi r.dst then e.pos + 1 else 0))

/-- Two lists share an element. -/
def meet {α : Type} [BEq α] (a b : List α) : Bool := a.any (fun x => b.contains x)

/-- The writer check of R229: each send slot of a cluster's entry has a writer at a slot no later than p - 2. -/
def sendUnwritten (ws : List SchedWord) (e : SlotHbd) : Bool :=
  isCluNi e.src && (List.range (e.lenM1 + 1)).any (fun j =>
    !ws.any (fun w => w.c == e.src && writesSend (e.sendBase + j) w && w.slot + 2 ≤ e.pos))

/-- R173 to R176 and R229, entry by entry; `ws` is the schedule, where the loader holds it. Of two entries that conflict the later
one is the failing item (DESIGN CHOICE, log 160). -/
def hbdFails (n : Nat) (t : Tables) (ws : Option (List SchedWord)) : List ImgFail :=
  let es := t.hb.map slotHbdOf
  (indexed t.hb).flatMap (fun p =>
    let e := slotHbdOf p.2
    let o := 8 * p.1
    let earlier := es.take p.1
    sFail t.hbE (ebits p.2 9 3 != 0 || ebits p.2 43 1 != 0 || 4095 < e.sendBase + e.lenM1 || 4095 < e.inBase + e.lenM1) 12 0xD o ++
    sFail t.hbE (match ws with | some l => sendUnwritten l e | none => false) 12 6 o ++
    sFail t.hbE (earlier.any (fun d => d.src == e.src && d.pos == e.pos)) 11 9 o ++
    (match t.route e with
     | none => sFail t.hbE true 12 0xE o
     | some r =>
       let others := earlier.filterMap (fun d => (t.route d).map (fun q => (d, q)))
       sFail t.hbE (n + 3 < e.pos || n + 7 < e.pos + vc0Delay r.hops) 12 0xA o ++
       sFail t.hbE (others.any (fun d => meet (linksOf d.1 d.2) (linksOf e r))) 11 9 o ++
       sFail t.hbE (others.any (fun d => meet (fillsOf d.1 d.2) (fillsOf e r))) 11 9 o))

/-! ### SLOT_LANE (R249) -/

/-- A lane port of ROLE design in the platform configuration. -/
def platDesign (s : State) (p : Nat) : Bool := p < s.lanePorts && mget s.plat.roles 0 p == 0

/-- Lane slots that cluster entries write, as (port, slot, position). -/
def laneWritten (t : Tables) : List (Nat × Nat × Nat) :=
  (t.hb.map slotHbdOf).flatMap (fun e => match t.route e with
    | some r => if isCluNi e.src && isHubNi r.dst then
        (List.range (e.lenM1 + 1)).map (fun j => (hubPort r.dst, e.inBase + j, e.pos)) else []
    | none => [])

/-- An entry covers a lane slot at a transmit position (`rx` false) or at a delivery position. -/
def covers (rx : Bool) (p slot pos : Nat) (l : SlotLane) : Bool :=
  l.rx == rx && l.port == p && l.slot ≤ slot && slot ≤ l.slot + l.lenM1 && (if rx then l.dpos else l.txpos) == pos

/-- Values that the receive entries up to one declare for a hub. -/
def hubValues (ls : List SlotLane) (hub : Nat) : Nat :=
  ((ls.filter (fun l => l.rx && l.port / 4 == hub)).map (fun l => l.lenM1 + 1)).sum

/-- The rows of R249 that name a SLOT_LANE entry. -/
def laneFails (s : State) (n : Nat) (t : Tables) : List ImgFail :=
  let ls := t.ln.map slotLaneOf
  let wr := laneWritten t
  (indexed t.ln).flatMap (fun p =>
    let l := slotLaneOf p.2
    let o := 8 * p.1
    let earlier := ls.take p.1
    let near := (ls.filter (fun d => !d.rx && d.port == l.port && d.txpos ≤ l.txpos && l.txpos < d.txpos + 8)).length
    sFail t.lnE (ebits p.2 5 3 != 0 || ebits p.2 28 4 != 0 || ebits p.2 44 4 != 0 || ebits p.2 60 4 != 0 ||
      !platDesign s l.port || 4095 < l.slot + l.lenM1 || 191 < l.lenM1) 12 0xD o ++
    sFail t.lnE (n + 3 < l.txpos || n + 3 < l.dpos) 12 0xA o ++
    sFail t.lnE (!l.rx && (earlier.any (fun d => !d.rx && d.port == l.port && d.txpos == l.txpos) || 3 ≤ near)) 12 0xA o ++
    sFail t.lnE (!l.rx && (List.range (l.lenM1 + 1)).any (fun j => !wr.contains (l.port, l.slot + j, l.txpos))) 12 0xE o ++
    sFail t.lnE (l.rx && 65536 < hubValues (ls.take (p.1 + 1)) (l.port / 4)) 12 0xA o ++
    sFail t.lnE (earlier.any (fun d => d.rx == l.rx && d.port == l.port && d.txpos == l.txpos &&
      d.slot ≤ l.slot + l.lenM1 && l.slot ≤ d.slot + d.lenM1)) 11 9 o)

/-- The rows of R249 that name a SLOT_HBD entry. -/
def hubFails (t : Tables) : List ImgFail :=
  let ls := t.ln.map slotLaneOf
  (indexed t.hb).flatMap (fun p =>
    let e := slotHbdOf p.2
    let js := List.range (e.lenM1 + 1)
    match t.route e with
    | none => []
    | some r =>
      sFail t.hbE (isCluNi e.src && isHubNi r.dst && js.any (fun j =>
        !ls.any (covers false (hubPort r.dst) (e.inBase + j) e.pos))) 12 0xE (8 * p.1) ++
      sFail t.hbE (isHubNi e.src && js.any (fun j =>
        !ls.any (covers true (hubPort e.src) (e.sendBase + j) e.pos))) 12 0xE (8 * p.1))

/-- The slot tables of a run, together. -/
def tablesFails (s : State) (n : Nat) (t : Tables) (ws : Option (List SchedWord)) : List ImgFail :=
  routeFails s.ident.half t ++ hbdFails n t ws ++ laneFails s n t ++ hubFails t

/-! ### MEMDECL (R182, R183) -/

/-- The fields of a MEMDECL section. -/
def mdM (b : List Byte) : Nat := leAt b 0x40 2
def mdW (b : List Byte) : Nat := leAt b 0x42 2

/-- Reads a MEMDECL section. -/
def memdeclOf (b : List Byte) : MemDecl :=
  let m := mdM b
  { bankUse := b.take 64
    mems := (List.range m).map (fun i =>
      let o := 0x80 + 32 * i
      { dbase := leAt b o 8, words := leAt b (o + 8) 8, pbase := leAt b (o + 16) 8, stack := leAt b (o + 24) 1,
        ckpt := leAt b (o + 25) 1 % 2 == 1 })
    windows := (List.range (mdW b)).map (fun i =>
      let o := 0x80 + 32 * m + 8 * i
      { first := leAt b o 2, last := leAt b (o + 2) 2, periodLog2 := leAt b (o + 4) 1, phase := leAt b (o + 6) 2 })
    ckptBytes := leAt b 0x48 8, ckptPbase0 := leAt b 0x50 8, ckptPbase1 := leAt b 0x58 8 }

/-- The checkpoint areas of the fitted stacks, as (stack, base, end). -/
def ckptAreas (half : Bool) (d : MemDecl) : List (Nat × Nat × Nat) :=
  if d.ckptBytes = 0 then []
  else (0, d.ckptPbase0, d.ckptPbase0 + d.ckptBytes) ::
    (if half then [] else [(1, d.ckptPbase1, d.ckptPbase1 + d.ckptBytes)])

/-- The physical area of a memory. -/
def memArea (m : MemEntry) : Nat × Nat × Nat := (m.stack, m.pbase, m.pbase + 8 * m.words)

/-- The refusals of one memory entry, the memories before it given. -/
def memBad (s : State) (d : MemDecl) (earlier : List MemEntry) (m : MemEntry) : Bool :=
  m.words == 0 || m.words % 512 != 0 || 8 * m.dbase % 4096 != 0 || m.pbase % 4096 != 0 || 2 ^ 33 < m.dbase + m.words ||
    s.stacks ≤ m.stack || stackBytes < m.pbase + 8 * m.words ||
    earlier.any (fun o => (o.dbase < m.dbase + m.words && m.dbase < o.dbase + o.words) || overlaps (memArea o) (memArea m)) ||
    (ckptAreas s.ident.half d).any (overlaps (memArea m))

/-- MEMDECL (R183). FLAGS bits 7:1 of a memory, and CKPT_PBASE1 on an FQ9620, count as reserved bytes (DESIGN CHOICE, log 161). -/
def memdeclFails (s : State) (n : Nat) (h : List Byte) (b : List Byte) : List ImgFail :=
  match entryOf h 8 with
  | none => []
  | some e =>
    let d := memdeclOf b
    let m := mdM b
    let w := mdW b
    let f (c : Bool) (pos : Nat) : List ImgFail := sFail (some e) c 12 0xD pos
    if e.len != 128 + 32 * m + 8 * w || 256 < m || 64 < w then f true 0x40
    else
      f ((List.range 512).any (fun k => s.bankCount ≤ k && (b.getD (k / 8) 0).getLsbD (k % 8))) 0 ++
      f (leAt b 0x44 4 != 0) 0x44 ++ f (leAt b 0x60 32 != 0) 0x60 ++
      f (d.ckptBytes % 2 ^ 20 != 0) 0x48 ++
      f (d.ckptBytes != 0 && stackBytes < d.ckptPbase0 + d.ckptBytes) 0x50 ++
      f (if s.ident.half then d.ckptPbase1 != 0 else d.ckptBytes != 0 && stackBytes < d.ckptPbase1 + d.ckptBytes) 0x58 ++
      (indexed d.mems).flatMap (fun p =>
        let o := 0x80 + 32 * p.1
        f (memBad s d (d.mems.take p.1) p.2 || 1 < leAt b (o + 25) 1 || leAt b (o + 26) 6 != 0) o) ++
      (indexed d.windows).flatMap (fun p =>
        let o := 0x80 + 32 * m + 8 * p.1
        f (p.2.last < p.2.first || n ≤ p.2.last || 15 < p.2.periodLog2 || 2 ^ p.2.periodLog2 ≤ p.2.phase ||
          leAt b (o + 5) 1 != 0) o)

/-! ### PROBE, GLOVE_MAP and PATCH_INSTR (R169, R288, R313) -/

/-- PROBE (R313). -/
def probeFails (s : State) (h : List Byte) (l : List Word64) : List ImgFail :=
  (indexed l).flatMap (fun p =>
    let x := p.2
    let act : Bool := ebits x 12 1 == 1
    sFail (entryOf h 10) (ebits x 13 3 != 0 || ebits x 48 16 != 0 || (!act && 1023 < ebits x 0 12) ||
      (!act && ebits x 40 8 != 0) || s.clusters ≤ ebits x 16 8 ||
      (l.take p.1).any (fun y => ebits y 0 13 == ebits x 0 13)) 12 0xD (8 * p.1))

/-- GLOVE_MAP (R288): `t` gives the other sources of inbound slots. -/
def gloveFails (s : State) (h : List Byte) (l : List Word64) (t : Tables) : List ImgFail :=
  let taken := (t.hb.map slotHbdOf).flatMap (fun e => match t.route e with | some r => fillsOf e r | none => [])
  let es := l.drop 2
  (indexed es).flatMap (fun p =>
    let x := p.2
    let di : Bool := ebits x 10 1 == 1
    let earlier := es.take p.1
    let pos := 16 + 8 * p.1
    sFail (entryOf h 11) (ebits x 11 5 != 0 || ebits x 40 24 != 0 || s.clusters ≤ ebits x 16 8 ||
      (di && 4095 < ebits x 24 16) || earlier.any (fun y => ebits y 0 11 == ebits x 0 11)) 12 0xD pos ++
    sFail (entryOf h 11) (di && (taken.contains (ebits x 16 8, ebits x 24 16, 0) ||
      earlier.any (fun y => ebits y 10 1 == 1 && ebits y 16 24 == ebits x 16 24))) 11 9 pos)

/-- PATCH_INSTR (R169). -/
def patchFails (s : State) (h : List Byte) (l : List PatchEntry) : List ImgFail :=
  match entryOf h 12 with
  | none => []
  | some e => (indexed l).flatMap (fun p =>
      let x := p.2.loc.toNat
      let f (c : Bool) (status kind : Nat) : List ImgFail :=
        when c { status := status, kind := kind, sec := e.index, loc := x, order := e.off + 20 * p.1 }
      f (!wordParityOk p.2.word) 7 3 ++
      f (s.clusters ≤ x / 2 ^ 24 || s.img.n ≤ x % 2048 || x / 2 ^ 11 % 32 != 0 || p.2.rest != 0) 12 0xC)

/-! ### The VERIFY phase -/

/-- The chunk has been read: a pass whose DMA read fails may lack it (log 170). -/
def chunkRead (p : PassResult) (e : SecEntry) (j : Nat) : Bool :=
  p.dmaFail.isNone || p.stored.any (fun x => x.1 == chunkAt e j)

/-- Chunk tags that fail under K_IMG. -/
def tagFails (key : BitVec 256) (g : Nat) (h : List Byte) (body : ImageBody) (p : PassResult) : List ImgFail :=
  (hEntries h).flatMap (fun e => (List.range (chunksOf e.len)).flatMap (fun j =>
    when (chunkRead p e j && !tagOk key g h body p e j) { status := 1, kind := 2, sec := e.index, loc := 65536 * j, order := chunkAt e j }))

/-- Chunk tags that fail, and a BODY_DIGEST that does not match, of a file that has been read. -/
def passFails (s : State) (h : List Byte) (body : ImageBody) (p : PassResult) : List ImgFail :=
  tagFails (imageKeys s.ident h).1 s.clusters h body p ++ when (p.dmaFail.isNone && !digestOk s.clusters h body) { status := 7, kind := 4, sec := 0, loc := 0x20, order := 0x20 }

/-- A DMA read that fails, and an internal failure. -/
def internalFails (h : List Byte) (p : PassResult) : List ImgFail :=
  (match p.dmaFail with
   | some (k, o) =>
     [{ status := 15, kind := 0xB, sec := k.toNat, loc := o.toNat,
        order := (((hEntries h)[k.toNat]?).map (fun e => e.off)).getD 0 + o.toNat }]
   | none => []) ++
  when p.internalFail { status := 15, kind := 0, sec := 0, loc := 0, order := 0 }

/-- The VERIFY phase of an install. -/
def installFails (s : State) (h : List Byte) (body : ImageBody) (p : PassResult) : List ImgFail :=
  let n := hN h
  let t : Tables := { rt := body.route, rtE := entryOf h 5, hb := body.slotHbd, hbE := entryOf h 6,
                      ln := body.slotLane, lnE := entryOf h 7 }
  passFails s h body p ++ internalFails h p ++ instrFails s.clusters n h body ++ fixedFails h body ++
    tablesFails s n t (some (schedule s.clusters n body)) ++ memdeclFails s n h body.memdecl ++
    probeFails s h body.probe ++ gloveFails s h body.gloveMap t

/-- A staged table: that of the change, else one that is staged already, else the installed one (R170). -/
def tableOf (h : List Byte) (t : Nat) (new : List Word64) (staged : Option (List Word64)) (old : List Word64) : List Word64 :=
  if (entryOf h t).isSome then new else staged.getD old

/-- The slot tables under a staged change. -/
def stagedTables (s : State) (h : List Byte) (body : ImageBody) : Tables :=
  { rt := tableOf h 5 body.route s.staged.route s.img.route, rtE := entryOf h 5
    hb := tableOf h 6 body.slotHbd s.staged.slotHbd s.img.slotHbd, hbE := entryOf h 6
    ln := tableOf h 7 body.slotLane s.staged.slotLane s.img.slotLane, lnE := entryOf h 7 }

/-- Staged content with a change placed into it (R171). -/
def mergeStaged (s : State) (h : List Byte) (body : ImageBody) : StagedSt :=
  let g := s.staged
  { cfg := if (entryOf h 4).isSome then some body.cfg else g.cfg
    route := if (entryOf h 5).isSome then some body.route else g.route
    slotHbd := if (entryOf h 6).isSome then some body.slotHbd else g.slotHbd
    slotLane := if (entryOf h 7).isSome then some body.slotLane else g.slotLane
    probe := if (entryOf h 10).isSome then some body.probe else g.probe
    patch := body.patch.foldl (fun m e => mset m none e.loc.toNat (some e.word)) g.patch
    digest := some (hDigest h), any := true }

/-- Bytes of plaintext that staged content holds. -/
def stagedBytes (s : State) (g : StagedSt) : Nat :=
  let len (o : Option (List Word64)) : Nat := 8 * ((o.map List.length).getD 0)
  (if g.cfg.isSome then 16 * s.clusters else 0) + len g.route + len g.slotHbd + len g.slotLane + len g.probe +
    20 * g.patch.length

/-- The VERIFY phase of a stage load. That staged content would exceed 16 MiB is reported as a section field of the whole file
(DESIGN CHOICE, log 143). -/
def stageFails (s : State) (h : List Byte) (body : ImageBody) (p : PassResult) : List ImgFail :=
  let t := stagedTables s h body
  let tabs : Bool := (entryOf h 5).isSome || (entryOf h 6).isSome || (entryOf h 7).isSome
  passFails s h body p ++ internalFails h p ++ fixedFails h { body with pred := [] } ++
    (if tabs then tablesFails s s.img.n t none ++ gloveFails s h s.img.gloveMap t else []) ++
    probeFails s h body.probe ++ patchFails s h body.patch ++
    when (2 ^ 24 < stagedBytes s (mergeStaged s h body)) { status := 12, kind := 0xD, sec := 0, loc := 0, order := 0 }

end Sys2Proof.Machine
end

