-- ==== Sys2Proof/Machine/Loader.lean ====
section
/-!
DEFINITION. Machine/Loader.lean: the loader: requests, the phases of an install and of a stage load, the discard of
an installed image, and what an install leaves (spec/05_compiler_contract.md, R161 to R172; R402, R404, R414).
-/
namespace Sys2Proof.Machine

/-! ### Keys, grants and the unlock that end with an image (R404, R414) -/

/-- A debug unlock ends; DBG_GATE is then no longer current. -/
def endUnlock (s : State) : State :=
  { s with
    bnt := { s.bnt with debugUnlock := false, debugNoImage := false }
    host := { s.host with jtag := if s.host.jtag = .dbgGate then .bypass else s.host.jtag } }

/-- Larkspur's EN clears, and the stream is flushed (R339, R346). -/
def lksStop (s : State) : State := if s.lks.armed then lksDisarm s else s

/-- Every grant ends. -/
def endGrants (s : State) : State :=
  if s.bnt.grants.isEmpty then s
  else grantChanged { lksStop s with bnt := { s.bnt with grants := [] } }

/-! ### The discard of an image (R163) -/

/-- Counters that an install and a fabric reset clear (R79, R115, R150, R215, R238, R267, R335, R372). -/
def clearedCounter (o : Nat) : Bool :=
  (0x400000 ≤ o && o < 0x500000 && ((0x40 ≤ o % 0x1000 && o % 0x1000 < 0x54) || o % 0x1000 == 0x60)) ||
  (Reg.SCH_CNT_HELD ≤ o && o < Reg.SCH_CNT_HELD + 28) || o == Reg.SCH_CNT_SAT ||
  (Reg.SCH_SPC ≤ o && o < Reg.SCH_SPC + 128) || o == Reg.SCH_SPC_SAT ||
  (Reg.MEM_CNT ≤ o && o < Reg.MEM_CNT + 32) || o == Reg.MEM_CNT_SAT || (Reg.MEM_HBM_CE ≤ o && o < Reg.MEM_HBM_CE + 256) ||
  (Reg.HBD_CNT ≤ o && o < Reg.HBD_CNT + 32) || o == Reg.HBD_CNT_SAT ||
  (0x900000 ≤ o && o < 0x904000 && ((0x40 ≤ o % 0x400 && o % 0x400 < 0x60) || o % 0x400 == 0x60)) ||
  (Reg.AST_STAT ≤ o && o < Reg.AST_STAT + 32) || o == Reg.AST_STAT_SAT

/-- The counters read 0 again. -/
def clearCounters (s : State) : State :=
  dspClearCounters (keepRegs (fun o => !clearedCounter o) s)

/-- Everything of the installed image is discarded, Aster and Larkspur stop, and no image is installed. -/
def discardImage (s : State) : State :=
  let s := astInstall (lksStop s)
  let s := clearWork (dspClear (discardCycles (fun _ => false) s))
  let s := { s with
    clu := {}
    mem := { s.mem with banks := [], bankBad := [], queue := [], notes := [], overflow := none, allFour := none, bWindows := [] }
    hbd := { s.hbd with flits := [], vcs := [], links := [], mapsValid := false }
    sch := { s.sch with st := .idle, phase := .start, slot := 0, exec := none, fatal := false, cycles := [], commitQ := [],
                        slots := [], parityCnt := [], opened := none, applyT := none, applyFrozen := false, ckptNow := false }
    img := {}
    staged := {}
    pwr := { s.pwr with longHold := true } }
  doNone (timeMasterFix s)

/-! ### The end of a load -/

/-- A load ends. -/
def imgLoadEnd (f : Option ImgFail) (s : State) : State :=
  let x := f.getD { status := 0, kind := 0, sec := 0, loc := 0, order := 0 }
  let s := (s.setFld Reg.SCH_LOAD_STATUS 8 8 x.status).setBit Reg.SCH_LOAD_STATUS 1 true
  let s := s.setReg Reg.SCH_LOAD_DETAIL (BitVec.ofNat 32 (2 ^ 28 * x.kind + 2 ^ 24 * x.sec))
  let s := s.setReg Reg.SCH_LOAD_WHERE (BitVec.ofNat 32 x.loc)
  raise 0x0A0 { s with load := { s.load with busy := false, header := [] } }

/-- A failure of the REQUEST phase. -/
def requestFail (status : Nat) (s : State) : State :=
  imgLoadEnd (some { status := status, kind := 0, sec := 0, loc := 0, order := 0 }) s

/-! ### REQUEST (R161, R168, R171, R431, R442, R458) -/

/-- The file length. -/
def loadLen (s : State) : Nat := (s.reg64 (Reg.SCH_LOAD_ADDR + 8)).toNat

/-- A file that the loader cannot read. -/
def badFile (s : State) : Bool := (s.reg64 Reg.SCH_LOAD_ADDR).toNat % 16 != 0 || loadLen s < 0x200

/-- The status of the REQUEST phase of an install. -/
def installRequest (s : State) (owns : Bool) : Nat :=
  if !owns then 3
  else if s.bit Reg.GBL_BOOT 6 then 4
  else if s.pwr.mode ≠ .on ∨ !(s.sch.st == .idle || s.sch.st == .paused || s.sch.st == .faultStop) ∨ s.sch.applyT.isSome ∨
      s.sch.ckptCopy.isSome ∨ s.sch.rewindSlot.isSome then 9
  else if badFile s ∨ s.pwr.parked.any (fun b => b.1 == 0x08) then 12
  else 0

/-- The status of the REQUEST phase of a stage load. -/
def stageRequest (s : State) (owns : Bool) : Nat :=
  if !owns then 3
  else if s.pwr.mode ≠ .on ∨ s.sch.applyT.isSome then 9
  else if badFile s then 12
  else 0

/-- A load that passes REQUEST goes on to HEADER. -/
def requestEnd (stage : Bool) (status : Nat) (s : State) : State :=
  if status ≠ 0 then requestFail status s
  else { s with load := { s.load with busy := true, stage := stage, phase := .header } }

/-- A write of SCH_LOAD_CTRL (R161, R165, R171). -/
def loadCtrlWrite (owns : Bool) (val : Word32) (s : State) : State :=
  if s.load.busy && val.getLsbD 0 then s
  else
    let s := s.setFld Reg.SCH_LOAD_CTRL 1 2 (bitsOf val 1 2)
    if !val.getLsbD 0 then s
    else
      let s := { s with load := { s.load with phase := .request } }.setBit Reg.SCH_LOAD_STATUS 1 false
      match bitsOf val 1 2 with
      | 0 => requestEnd false (installRequest s owns) s
      | 1 => requestEnd true (stageRequest s owns) s
      | 2 => if s.pwr.mode ≠ .on ∨ s.sch.applyT.isSome then requestFail 9 s
             else imgLoadEnd none { s with staged := {}, ast := { s.ast with staged := false } }
      | _ => requestFail (if s.pwr.mode ≠ .on then 9 else 12) s

def execLoadInstall (path : Path) (owns : Bool) (s : State) : Host.Outcome State Fault Refusal :=
  run (regAccess path Reg.SCH_LOAD_CTRL 1 (loadCtrlWrite owns)) s

def execLoadStage (path : Path) (owns : Bool) (s : State) : Host.Outcome State Fault Refusal :=
  run (regAccess path Reg.SCH_LOAD_CTRL 3 (loadCtrlWrite owns)) s

def execLoadDiscard (path : Path) (s : State) : Host.Outcome State Fault Refusal :=
  run (regAccess path Reg.SCH_LOAD_CTRL 5 (loadCtrlWrite true)) s

/-! ### HEADER and KEY -/

/-- The checks of a phase are done: the first failure ends the load, else `next` follows. -/
def phaseJudged (fails : List ImgFail) (next : State → State) (s : State) : State :=
  match firstFail fails with
  | some f => imgLoadEnd (some f) s
  | none => next s

/-- The HEADER phase ends. A failed DMA read is reported by its offset in the header. -/
def loadHeaderDone (h : List Byte) (dmaFail : Option Word32) (internalFail : Bool) (s : State) : State :=
  if !s.load.busy ∨ s.load.phase ≠ .header then s
  else match dmaFail with
    | some o => imgLoadEnd (some { status := 15, kind := 0xB, sec := 0, loc := o.toNat, order := 0 }) s
    | none => phaseJudged (imgHeaderFails s h (loadLen s) s.load.stage ++
        when internalFail { status := 15, kind := 0, sec := 0, loc := 0, order := 0 })
      (fun s => { s with load := { s.load with phase := .key, header := h } }) s

def execLoadHeaderDone (header : List Byte) (read : HeaderRead) (s : State) :
    Host.Outcome State Fault Refusal := run (loadHeaderDone header read.dmaFail read.internalFail) s

/-- The KEY phase ends. -/
def loadKeyDone (internalFail : Bool) (s : State) : State :=
  if !s.load.busy ∨ s.load.phase ≠ .key then s
  else if !ephOnCurve s.load.header then imgLoadEnd (some { status := 1, kind := 1, sec := 0, loc := 0xB0, order := 0 }) s
  else if internalFail then imgLoadEnd (some { status := 15, kind := 0, sec := 0, loc := 0, order := 0 }) s
  else { s with load := { s.load with phase := .verify } }

/-! ### VERIFY and WRITE (R162 to R164, R404) -/

/-- The WRITE phase of an install begins: the flag is set, the old image, its keys and the grants end, and the new
keys take effect. -/
def writeBegin (s : State) : State :=
  let k := imageKeys s.ident s.load.header
  let s := discardImage (endGrants s)
  endUnlock { s with
    load := { s.load with phase := .write, invalidFlag := true }
    bnt := { s.bnt with kImg := some k.1, kAuth := some k.2.1, kObs := some k.2.2 }
    mem := { s.mem with hbmKey := s.mem.hbmKey + 1, hbm := [] } }

/-- The VERIFY phase ends. -/
def loadVerifyDone (body : ImageBody) (p : PassResult) (s : State) : State :=
  if !s.load.busy ∨ s.load.phase ≠ .verify ∨ !bodyFits s.clusters s.load.header body then s
  else
    let h := s.load.header
    phaseJudged (if s.load.stage then stageFails s h body p else installFails s h body p)
      (fun s => if s.load.stage then { s with load := { s.load with phase := .write } } else writeBegin s) s

def execLoadVerifyDone (body : ImageBody) (pass : PassResult) (s : State) : Host.Outcome State Fault Refusal :=
  run (loadVerifyDone body pass) s

/-- The sections of an image stand in the module (R158, R159, R163); the banks that it uses are On, and so their fields read
(R203, R204). -/
def writeImage (h : List Byte) (body : ImageBody) (s0 : State) : State :=
  let md := memdeclOf body.memdecl
  let last : SMap Bool := msetAll [] false (body.pred.map (fun p => (p.1, p.2.getLsbD 2)))
  let b := loadBanks body.bankInit s0
  let s : State := { b with
    clu := { b.clu with
      tier := msetAll [] nopWord (body.instr.map (fun p => (tierKey p.1, p.2)))
      copies := msetAll [] false body.stateInit
      predMode := msetAll [] 0 (body.pred.map (fun p => (p.1, p.2.setWidth 2)))
      predLast := last }
    mem := { b.mem with
      bankPwr := b.mem.bankPwr.filter (fun p => !(md.bankUse.getD (p.1 / 8) 0).getLsbD (p.1 % 8)) }
    img := { valid := true, n := hN h, partition := BitVec.ofNat 8 (hPartition h), partitions := BitVec.ofNat 8 (hPartitions h),
             digest := hDigest h, bodyDigest := BitVec.ofNat 384 (beAt h 0x20 48), prevDigest := hDigest h,
             route := body.route, slotHbd := body.slotHbd, slotLane := body.slotLane, memdecl := md, probe := body.probe,
             gloveMap := body.gloveMap, lastInit := last }
    hbd := { b.hbd with mapsValid := true, agedFrom := b.clock } }
  let s := forEach (List.range s.clusters) (fun c s => s.setFld (cluReg c 0x20) 0 13 (expectOf body.cfg c)) s
  let s := forEach (List.range s.bankCount) (fun b s =>
    if s.bankUsed b then s.setFld (Reg.MEM_BANK_PWR + 4 * (b / 16)) (2 * (b % 16)) 2 0 else s) s
  { s with mem := { s.mem with pwrPending := bankMoves s } }

/-- What holds when an install ends with OK (R82, R83, R102, R122, R164, R286), up to the start point. A debug unlock made with no
image installed ends (R414). -/
def atInstall (s : State) : State :=
  let s := waveFresh 0 s
  let s := { s with
    load := { s.load with invalidFlag := false }
    sch := { s.sch with st := .paused, committed := 0, commitClk := stepNo s, highest := 0, hiFinished := 0, comCopy := 0,
                        ckptNext := 0 } }
  let s := (setPause s).setBit Reg.SCH_STATUS 4 false
  let s := if s.bnt.debugNoImage then endUnlock s else s
  doInstall 0 (timeMasterFix s)

/-- An install comes to the start point of cycle 1, and its counters read 0 (R164). -/
def installed (s : State) : State := throttlePoint (clearCounters (reopen (atInstall s)))

/-- The WRITE phase ends. -/
def loadWriteDone (body : ImageBody) (p : PassResult) (s : State) : State :=
  if !s.load.busy ∨ s.load.phase ≠ .write ∨ !bodyFits s.clusters s.load.header body then s
  else
    let h := s.load.header
    let key := if s.load.stage then (imageKeys s.ident h).1 else s.bnt.kImg.getD 0
    let tags := tagFails key s.clusters h body p ++ internalFails h p
    match firstFail tags with
    | some f =>
      if s.load.stage then imgLoadEnd (some f) s
      else
        let s := { s with bnt := { s.bnt with kImg := none, kAuth := none, kObs := none } }
        raise 0x0A1 (imgLoadEnd (some f) s)
    | none =>
      if s.load.stage then imgLoadEnd none { s with staged := mergeStaged s h body }
      else imgLoadEnd none (installed (writeImage h body s))

def execLoadWriteDone (body : ImageBody) (pass : PassResult) (s : State) : Host.Outcome State Fault Refusal :=
  run (loadWriteDone body pass) s

end Sys2Proof.Machine
end

