-- ==== Sys2Proof/Machine/MemCommands.lean ====
section
/-!
DEFINITION. Machine/MemCommands.lean: the memory block's commands: returning words, applies of committed entries, HBM
accesses, BAR2, bank power, and the requests and copies of the march engine (spec/06_design_memory.md, R186 to R214;
spec/15_bonnet_security.md, R412).
-/
namespace Sys2Proof.Machine

/-! ### Words that return, and HBM accesses (R73, R188, R207) -/

/-- RDATA_RETURN: the clocks run until the word of the context's access has entered RDATA. -/
def rdataReturn (c k : Nat) (s : State) : State :=
  let out (t : State) : Bool := t.mem.reads.any (fun r => r.cluster == c && r.ctx == k)
  if out s then (clocksUntil 256 (fun t => !out t) s).getD s else s

def execRdataReturn (cluster : BitVec 8) (ctx : BitVec 3) (s : State) : Host.Outcome State Fault Refusal :=
  run (rdataReturn cluster.toNat ctx.toNat) s

/-- HBM_ACCESS_START: an access that has missed its slot starts, where no refresh runs and no other access has started at its
pseudo-channel in this clock. That a non-scheduled burst there has ended is what the command says. -/
def hbmAccessStart (c k : Nat) (s : State) : State :=
  match s.mem.reads.find? (fun r => r.cluster == c && r.ctx == k && r.stage == .hbmMissed) with
  | some r =>
    if s.clock < mget s.mem.pcBusy 0 (pcOf (r.key.getD 0)) then s
    else
      let s := hbmStart s.clock r { s with mem := { s.mem with pcBurst := mset s.mem.pcBurst 0 (pcOf (r.key.getD 0)) 0 } }
      if s.sch.fatal then faultStop s else s
  | none => s

def execHbmAccessStart (cluster : BitVec 8) (ctx : BitVec 3) (s : State) : Host.Outcome State Fault Refusal :=
  run (hbmAccessStart cluster.toNat ctx.toNat) s

/-! ### Commit apply (R187, R189, R195, R206, R209) -/

/-- The oldest committed entry of a queue. -/
def oldestEntry (s : State) (q : Nat) : Option QEntry := s.mem.queue.find? (fun e => entryDue s e && e.q == q)

/-- Port A of the bank performs a read of the word in the present clock. -/
def readNow (s : State) (key : Nat) : Bool :=
  s.mem.aReads.contains (key, s.clock) || s.mem.reads.any (fun r => portAWins s.mem.reads s.clock r && r.key == some key && !inBWindow s key s.clock)

/-- Port B of the bank has begun a write in the present clock (R187). -/
def portBTaken (s : State) (bank : Nat) : Bool := s.mem.bWindows.any (fun w => w.2 == s.clock && w.1 / 8192 == bank)

/-- Port B begins a write of a bank word. -/
def openB (key : Nat) (s : State) : State := { s with mem := { s.mem with bWindows := s.mem.bWindows ++ [(key, s.clock)] } }

/-- One entry is applied to its bank or to HBM; it waits where its port or its pseudo-channel is taken, and behind an apply
that has asked for its burst there. -/
def applyEntry (e : QEntry) (s : State) : State :=
  if e.q < 512 then
    if portBTaken s (e.key / 8192) then s
    else if readNow s e.key then memCnt 1 1 s
    else applyStored e (openB e.key s)
  else if scheduledPc s (pcOf e.key) ∨ s.clock < mget s.mem.pcBusy 0 (pcOf e.key) ∨ s.mem.pcReqs.contains (pcOf e.key, 1) then s
  else applyStored e (askBurst 1 e.key s)

/-- PENDING_WRITE_APPLY. -/
def pendingApply (q : Nat) (s : State) : State :=
  match oldestEntry s q with
  | some e => applyEntry e s
  | none => s

def execPendingWriteApply (q : BitVec 10) (s : State) : Host.Outcome State Fault Refusal := run (pendingApply q.toNat) s

/-! ### Refresh (R99, R210, R211) -/

/-- The present clock of the start point is the issue clock of step 0 (R81, R97). -/
def startIssues (s : State) : Bool := startOpen s && startFree s

/-- The present clock counts as inside a refresh window. -/
def insideWindow (s : State) : Bool :=
  let inDeclared (w : RefreshWindow) : Bool := match s.sch.exec with
    | some e => s.sch.phase == .issue && e.num.toNat % 2 ^ w.periodLog2 == w.phase && s.sch.slot ≤ w.last &&
        (w.first < s.sch.slot || (w.first == s.sch.slot && treeOut s == 0 && !headBlocked s e.ns))
    | none => startIssues s && (nextNum s).toNat % 2 ^ w.periodLog2 == w.phase && w.first == 0
  s.sch.st != .running ||
    (((s.sch.phase == .start && !startIssues s) || (s.sch.phase == .commitPoint && !commitOpen s)) && !s.mem.reads.any (fun r => r.hbm && (match r.stage with
      | .hbmSlot _ => true
      | .hbmMissed => true
      | _ => false))) ||
    s.img.memdecl.windows.any inDeclared

/-- REFRESH_OVERRUN: the refresh occupies its pseudo-channel; inside a window it is no overrun (R99). -/
def refreshOverrun (pc clocks : Nat) (s : State) : State :=
  if 32 * s.stacks ≤ pc then s
  else
    let s := if insideWindow s then s else raise 0x2E7 (memCnt 6 1 (memCause 6 7 0 0 0 true false s))
    { s with mem := { s.mem with pcBusy := mset s.mem.pcBusy 0 pc (max (mget s.mem.pcBusy 0 pc) (s.clock + clocks)) } }

def execRefreshOverrun (pc : BitVec 6) (clocks : Nat) (s : State) : Host.Outcome State Fault Refusal :=
  run (refreshOverrun pc.toNat clocks) s

/-! ### BAR2 (R198 to R202, R412) -/

/-- The power state of a bank: in Nap every On bank is in Retention (R439). -/
def bankPower (s : State) (k : Nat) : BitVec 2 :=
  let v := mget s.mem.bankPwr 0 k
  if s.pwr.mode = .nap ∧ v = 0 then 1 else v

/-- The queue and the word key behind a BAR2 offset; none at an unmapped one. -/
def bar2Place (s : State) (off : Nat) : Option (Nat × Nat) :=
  if off < 2 ^ 25 then
    let k := off / 65536
    if k < s.bankCount ∧ bankPower s k = 0 ∧ s.pwr.mode = .on then some (k, 8192 * k + off % 65536 / 8) else none
  else if s.pwr.mode = .nap then none
  else if 2 ^ 34 ≤ off ∧ off < 2 ^ 34 + stackBytes then some (hbmPlace 0 (off - 2 ^ 34))
  else if 0xA00000000 ≤ off ∧ off < 0xA00000000 + stackBytes ∧ !s.ident.half then some (hbmPlace 1 (off - 0xA00000000))
  else none

/-- The grant that covers an access: the lowest one of its function. -/
def bar2Grant (s : State) (fn : PcieFn) (off : Nat) (write : Bool) : Option Grant :=
  ((grantsOf s 0).find? (fun g => (g.2.pf1 == (fn == .pf1)) && g.2.base.toNat ≤ off / 4096 &&
    off / 4096 < g.2.base.toNat + g.2.units.toNat && (!write || g.2.write))).map (fun g => g.2)

/-- A bit of MEM_BAR2_STATUS. -/
def bar2Flag (b : Nat) (s : State) : State := s.setBit Reg.MEM_BAR2_STATUS b true

/-- No grant covers an access (R199). -/
def bar2Denied (s : State) : State := raise 0x2E9 (bar2Flag 0 s)

/-- Data of `n` bytes under a grant (R412): clear, or XORed with the key stream. -/
def bar2Mask (s : State) (g : Grant) (off n x : Nat) : Nat :=
  if g.masked then
    leAt (ctrBytes (grantKey s labelBar2 g) (fun i => BitVec.ofNat 128
      (2 ^ 64 * s.sch.committed.toNat + 2 ^ 32 * s.bnt.epoch + (off / 16 + i) % 2 ^ 32)) (off % 16) (leBytes n x)) 0 n
  else x

/-- The offset and the width of an access: naturally aligned. -/
def bar2Off (off : BitVec 36) (wide : Bool) : Nat := if wide then off.toNat / 8 * 8 else off.toNat / 4 * 4
def bar2Width (wide : Bool) : Nat := if wide then 8 else 4

/-- BAR2_READ (R199 to R201). -/
def bar2Read (fn : PcieFn) (off : BitVec 36) (wide : Bool) (s : State) : State :=
  let o := bar2Off off wide
  match bar2Grant s fn o false, bar2Place s o with
  | some _, some _ => { s with mem := { s.mem with bar2 := s.mem.bar2 ++ [{ fn := fn, off := off, wide := wide }] } }
  | g, p =>
    let s := if g.isNone then bar2Denied s else s
    let s := if p.isNone then bar2Flag 1 s else s
    s.emit (.bar2Data fn 0 false)

def execBar2Read (fn : PcieFn) (off : BitVec 36) (wide : Bool) (s : State) : Host.Outcome State Fault Refusal :=
  run (bar2Read fn off wide) s

/-- What an error of the word does to a BAR2 read (R186, R209); the Boolean says that it completes poisoned. -/
def bar2Error (q key off : Nat) (s : State) : State × Bool :=
  if q < 512 then
    if bankParityBad s key then (raise 0x2E4 (memCause 4 5 (BitVec.ofNat 64 off) 0 0 false true s), true) else (s, false)
  else if eccOf s key = 2 then (hbmUncorrected (BitVec.ofNat 64 off) 0 0 true s, true)
  else if eccOf s key = 1 then (hbmCorrected key s, false)
  else (s, false)

/-- Port A of the bank is taken in this clock: an emulation read is presented, which ranks before a BAR2 read, or a BAR2 read
has been performed (R187). -/
def portATaken (s : State) (bank : Nat) : Bool :=
  s.mem.reads.any (fun r => r.presented s.clock && r.bank == bank) || s.mem.aReads.any (fun r => r.2 == s.clock && r.1 / 8192 == bank)

/-- The clocks up to the one in which the bank performs a BAR2 read: it stalls behind another read, and is presented again after
a BUSY, which is counted (R187, R189, R190). One that is asked for after port B has begun a write of its word in the same clock
is presented in the next (DESIGN CHOICE, log 131). -/
def bar2Present (fuel key : Nat) (s : State) : Option State :=
  match fuel with
  | 0 => none
  | n + 1 =>
    if portATaken s (key / 8192) || s.mem.bWindows.contains (key, s.clock) then bar2Present n key (clockTick s)
    else if inBWindow s key s.clock then bar2Present n key (clockTick (memCnt 1 1 s))
    else some { s with mem := { s.mem with aReads := s.mem.aReads ++ [(key, s.clock)] } }

/-- The word of a BAR2 read is fetched: from a bank through port A, behind at most one read of each context, or from HBM as a
burst of its pseudo-channel. -/
def bar2Fetch (q key : Nat) (s : State) : Option State := if q < 512 then bar2Present 4096 key s else some (askBurst 6 key s)

/-- The word of a BAR2 read has been fetched: the read completes (R200, R202, R412). -/
def bar2Answer (r : Bar2Out) (g : Grant) (q key : Nat) (s : State) : State :=
  let o := bar2Off r.off r.wide
  let w := (committedWord s q key).toNat
  let x := if r.wide then w else w / 2 ^ (32 * (o / 4 % 2)) % 2 ^ 32
  let (s, bad) := bar2Error q key o s
  let s := if bad then bar2Flag 3 s else s
  s.emit (.bar2Data r.fn (BitVec.ofNat 64 (bar2Mask s g o (bar2Width r.wide) x)) bad)

/-- The oldest BAR2 read completes; one whose bank never comes to it stays outstanding. -/
def bar2Complete (s0 : State) : State :=
  match s0.mem.bar2 with
  | [] => s0
  | r :: t =>
    let s := { s0 with mem := { s0.mem with bar2 := t } }
    let o := bar2Off r.off r.wide
    match bar2Grant s r.fn o false, bar2Place s o with
    | some g, some (q, key) =>
      match bar2Fetch q key s with
      | some u => bar2Answer r g q key u
      | none => s0
    | none, _ => (bar2Denied s).emit (.bar2Data r.fn 0 false)
    | _, none => (bar2Flag 1 s).emit (.bar2Data r.fn 0 false)

def execBar2ReadComplete (s : State) : Host.Outcome State Fault Refusal := run bar2Complete s

/-- Every committed entry of a queue is applied. -/
def drainQueue (q : Nat) (s : State) : State :=
  forEach (s.mem.queue.filter (fun e => entryDue s e && e.q == q)) applyStored s

/-- The clocks up to the one in which port B of the bank can begin a BAR2 write: it stalls behind a write of the same clock, and
is presented again after a BUSY, which is counted (R187, R189). No emulation read is outstanding where a write is accepted. -/
def bar2Begin (fuel key : Nat) (s : State) : State :=
  match fuel with
  | 0 => s
  | n + 1 =>
    if portBTaken s (key / 8192) then bar2Begin n key (clockTick s)
    else if readNow s key then bar2Begin n key (clockTick (memCnt 1 1 s))
    else s

/-- A BAR2 write may be accepted (R200). -/
def bar2WriteOk (s : State) (fn : PcieFn) : Bool :=
  fn == .pf0 && s.ownsPath .pf0 &&
    (s.sch.st == .idle || s.sch.st == .faultStop || (s.sch.st == .paused && s.U == 0))

/-- An accepted BAR2 write takes effect (R200, R206, R209, R412). -/
def bar2Store (g : Grant) (q key o : Nat) (wide : Bool) (data : Word64) (s : State) : State :=
  let s := drainQueue q (if q < 512 then bar2Begin 4 key s else s)
  let x := bar2Mask s g o (bar2Width wide) (data.toNat % 2 ^ (8 * bar2Width wide))
  let sh := if wide then 0 else 32 * (o / 4 % 2)
  let mask := if wide then 2 ^ 64 - 1 else (2 ^ 32 - 1) * 2 ^ sh
  let s' := writeStored q key (BitVec.ofNat 64 (x * 2 ^ sh)) (BitVec.ofNat 64 mask)
  let s := if q < 512 then s' (openB key s)
    else
    let s := askBurst 6 key s
    if eccOf s key = 2 then bar2Flag 2 (hbmUncorrected (BitVec.ofNat 64 o) 0 0 true s)
    else s' (if eccOf s key = 1 then hbmCorrected key s else s)
  if g.masked then bumpEpoch s else s

/-- BAR2_WRITE (R199 to R201). -/
def bar2Write (fn : PcieFn) (off : BitVec 36) (wide : Bool) (data : Word64) (s : State) : State :=
  let o := bar2Off off wide
  match bar2Grant s fn o true, bar2Place s o with
  | some g, some (q, key) => if bar2WriteOk s fn then bar2Store g q key o wide data s else bar2Flag 2 s
  | g, p =>
    let s := if g.isNone then bar2Denied s else s
    if p.isNone then bar2Flag 1 s else s

def execBar2Write (fn : PcieFn) (off : BitVec 36) (wide : Bool) (data : Word64) (s : State) :
    Host.Outcome State Fault Refusal := run (bar2Write fn off wide data) s

/-! ### Bank power (R203 to R205) -/

/-- One field of a write of MEM_BANK_PWR_k. -/
def bankField (k : Nat) (v : Nat) (s : State) : State :=
  if v = 3 then s
  else if s.img.valid && s.bankUsed k && v ≠ 0 && bankAsked s k = 0 then s.setBit Reg.MEM_PWR_STATUS 1 true
  else s.setFld (Reg.MEM_BANK_PWR + 4 * (k / 16)) (2 * (k % 16)) 2 v

/-- A write of MEM_BANK_PWR_k. -/
def bankPwrWrite (k : Nat) (val : Word32) (s : State) : State :=
  let s := forEach (List.range 16) (fun j s => bankField (16 * k + j) (bitsOf val (2 * j) 2) s) s
  { s with mem := { s.mem with pwrPending := bankMoves s } }

def execBankPowerWrite (path : Path) (k : BitVec 5) (val : Word32) (s : State) : Host.Outcome State Fault Refusal :=
  run (regAccess path (Reg.MEM_BANK_PWR + 4 * k.toNat) val (bankPwrWrite k.toNat)) s

/-- A march works on the bank, or a checkpoint copy reads it. -/
def bankWorked (s : State) (k : Nat) : Bool :=
  (s.mem.marchPhase != .idle && s.mem.marchBank == k) || s.sch.ckptCopy.any (fun c => c.banks)

/-- The bank may leave On (R205). -/
def bankQuiet (s : State) (k : Nat) : Bool :=
  !bankWorked s k && !s.mem.aReads.any (fun r => r.2 == s.clock && r.1 / 8192 == k) &&
  !s.mem.queue.any (fun e => e.q == k) && !s.mem.reads.any (fun r => !r.hbm && r.key.isSome && r.bank == k) &&
    !s.mem.bar2.any (fun r => decide (r.off.toNat < 2 ^ 25) && r.off.toNat / 65536 == k) &&
    !s.mem.bWindows.any (fun w => w.1 / 8192 == k && decide (s.clock ≤ w.2 + 1))

/-- A bank's words are zero with correct parity. -/
def clearBank (k : Nat) (s : State) : State :=
  { s with mem := { s.mem with
      banks := s.mem.banks.filter (fun p => p.1 / 8192 ≠ k), bankBad := s.mem.bankBad.filter (fun p => p.1 / 16384 ≠ k) } }

/-- One bank reaches the state asked for; an Off bank has lost its contents, and is cleared on its way to On. -/
def bankReach (k : Nat) (s : State) : State :=
  let v := bankAsked s k
  let s := if mget s.mem.bankPwr 0 k = 2 ∨ v = 2 then clearBank k s else s
  { s with mem := { s.mem with bankPwr := mset s.mem.bankPwr 0 k v } }

/-- BANK_POWER_DONE (R205): every requested transition completes; in Doze and Nap none does before the wake (R442). -/
def bankPowerDone (s : State) : State :=
  let ks := (List.range s.bankCount).filter (fun k => bankAsked s k != mget s.mem.bankPwr 0 k)
  if ks.isEmpty || s.pwr.mode ≠ .on || ks.any (fun k => mget s.mem.bankPwr 0 k == 0 && !bankQuiet s k) then s
  else
    let s := forEach ks bankReach s
    raise 0x2EA { s with mem := { s.mem with pwrPending := false } }

def execBankPowerDone (s : State) : Host.Outcome State Fault Refusal := run bankPowerDone s

/-! ### March requests (R212 to R214) -/

/-- A march runs. -/
def marching (s : State) : Bool := s.mem.marchPhase != .idle

/-- A free spare bank of a bank's quadrant; the lowest one is taken. -/
def freeSpare (s : State) (bank : Nat) : Option Nat :=
  ((List.range 4).map (fun i => 4 * (bank / 128) + i)).find? (fun k => !s.mem.spares.any (fun p => p.1 == k))

/-- The status of a request for a march of the bank that MEM_MARCH_CTRL names. -/
def marchStatus (s : State) (owns : Bool) : Nat :=
  let bank := s.fld Reg.MEM_MARCH_CTRL 0 9
  let destr : Bool := s.bit Reg.MEM_MARCH_CTRL 9
  if !owns then 3
  else if destr && s.img.valid && s.bankUsed bank then 4
  else if marching s || s.pwr.mode ≠ .on || bankPower s bank ≠ 0 || (!destr && (freeSpare s bank).isNone) then 9
  else if s.bankCount ≤ bank then 12
  else 0

/-- DONE sets. -/
def marchDone (s : State) : State :=
  raise 0x2E8 ({ s with mem := { s.mem with marchPhase := .idle, marchSecond := false, marchSelfTest := false } }.setBit
    Reg.MEM_MARCH_STATUS 1 true)

/-- A write of MEM_MARCH_CTRL. A GO that is refused ends like another march, with DONE set, FAIL and SUBST clear; one that is
refused while a march runs changes STATUS alone (DESIGN CHOICE, log 165). -/
def marchCtrlWrite (owns : Bool) (val : Word32) (s : State) : State :=
  let s := s.setFld Reg.MEM_MARCH_CTRL 0 10 (bitsOf val 0 10)
  if !val.getLsbD 10 then s
  else
    let st := marchStatus s owns
    if marching s then s.setFld Reg.MEM_MARCH_STATUS 8 8 st
    else
      let s := s.setReg Reg.MEM_MARCH_STATUS (BitVec.ofNat 32 (256 * st))
      let bank := s.fld Reg.MEM_MARCH_CTRL 0 9
      let destr : Bool := s.bit Reg.MEM_MARCH_CTRL 9
      if st ≠ 0 then marchDone s
      else { s with mem := { s.mem with
          marchPhase := if destr then .march else .copy, marchBank := bank, marchSpare := (freeSpare s bank).getD 0,
          marchDestr := destr, marchSecond := false, marchSelfTest := false } }

def execMarchPreserving (path : Path) (bank : BitVec 9) (owns : Bool) (s : State) : Host.Outcome State Fault Refusal :=
  run (regAccess path Reg.MEM_MARCH_CTRL (BitVec.ofNat 32 (1024 + bank.toNat)) (marchCtrlWrite owns)) s

def execMarchDestructive (path : Path) (bank : BitVec 9) (owns : Bool) (s : State) : Host.Outcome State Fault Refusal :=
  run (regAccess path Reg.MEM_MARCH_CTRL (BitVec.ofNat 32 (1536 + bank.toNat)) (marchCtrlWrite owns)) s

/-- MARCH_COPY_DONE (R213): accesses to the bank go to the spare, which holds the same contents. -/
def marchCopyDone (s : State) : State :=
  if s.mem.marchPhase = .copy then
    { s with mem := { s.mem with marchPhase := .march, spares := s.mem.spares ++ [(s.mem.marchSpare, s.mem.marchBank)] } }
  else s

def execMarchCopyDone (s : State) : Host.Outcome State Fault Refusal := run marchCopyDone s

/-- The parity errors that the words of a bank hold go with its repair (R185). -/
def bankMended (k : Nat) (s : State) : State :=
  { s with mem := { s.mem with bankBad := s.mem.bankBad.filter (fun p => p.1 / 16384 ≠ k) } }

/-- MARCH_RESTORE_DONE (R213): the redirection goes; a bank that a spare row or column has repaired holds no parity error. -/
def marchRestoreDone (s : State) : State :=
  if s.mem.marchPhase = .restore ∧ !s.mem.marchSelfTest then
    let b := s.mem.marchBank
    let s := if s.pwr.repaired.contains b && !s.pwr.failed.contains b then bankMended b s else s
    marchDone { s with mem := { s.mem with spares := s.mem.spares.erase (s.mem.marchSpare, b) } }
  else s

def execMarchRestoreDone (s : State) : Host.Outcome State Fault Refusal := run marchRestoreDone s

end Sys2Proof.Machine
end

