-- ==== Sys2Proof/Machine/SelfTest.lean ====
section
/-!
DEFINITION. Machine/SelfTest.lean: parks in service, requested tests, marches with their fault recording and repair,
and the continuous and periodic checks (spec/18_selftest_repair.md, R457 to R468; spec/01_architecture.md, R22;
spec/17_power_thermal_ledger.md, R444; spec/19_electrical_package.md, R478, R479).
-/
namespace Sys2Proof.Machine

/-! ### Parks and critical trips (R22, R444, R457) -/

/-- What the park of a unit does beside a fault stop (R22, R281): the time base enters holdover, Glove regions behave as
PARKED. -/
def parkEffect (code unit : Nat) (s : State) : State :=
  if code = 0x14 then timeHoldover s
  else if code = 0x18 then holdRegion unit .parked s
  else if code = 0x04 then holdRegions (List.range 4) .parked s
  else s

/-- A unit of a block is parked; a run that needs it makes a fault stop (R22). -/
def parkBlock (code unit test : Nat) (s : State) : State :=
  let s := s.setReg Reg.GBL_PARKED (BitVec.ofNat 32 (2 ^ 21 * test + 2 ^ 5 * unit + code))
  let s := s.setBit Reg.PWR_ST_PARKED code true
  let s := raise 0x001 { s with pwr := { s.pwr with parked := s.pwr.parked.insert (code, unit) } }
  let s := parkEffect code unit s
  if s.img.valid && parkFatal s (code, unit) then faultStop s else s

/-- A test has failed in service (R457). -/
def testFailed (s : State) : State := raise 0x547 s

/-- A critical trip: THERMTRIP_N is asserted while it is released (R444). -/
def criticalTrip (s : State) : State :=
  if s.pwr.trip then s
  else
    let s := ledAdd 8 1 (raise 0x542 (causeSet Reg.PWR_CAUSE 0 [] { s with pwr := { s.pwr with trip := true } }))
    if s.img.valid then faultStop s else s

/-! ### Requests (R459 to R461) -/

/-- The test needs a port that is in use: its state is none of DISABLED, DETECT and HALT. -/
def testPortBusy (s : State) (test unit : Nat) : Bool :=
  let st := (s.lane unit).st
  (test == 4 || test == 5) && unit < s.lanePorts && !(st == .disabled || st == .detect || st == .halt)

/-- The test can be requested in service and its unit is present. -/
def testPresent (s : State) (test unit : Nat) : Bool :=
  ((test == 4 || test == 5) && unit < s.lanePorts) || (test == 6 && unit < 64) ||
    (test == 0x11 && unit < s.clusters / 64) || test == 0x12

/-- The status of a request (R16, R459). A bank march occupies the march engine too. `owns` says whether the writer still owns
when the request is checked (R375). -/
def testStatus (s : State) (owns : Bool) (test unit : Nat) : Nat :=
  if !owns then 3
  else if (test = 0x11 ∨ test = 0x12) ∧ s.sch.st ≠ .idle then 4
  else if s.pwr.test.isSome || testPortBusy s test unit || ((test == 0x11 || test == 0x12) && marching s) then 9
  else if !testPresent s test unit then 12
  else 0

/-- A request ends: its status, its result (0 none, 1 PASS, 2 FAIL, 3 REPAIRED) and DONE. -/
def testEnd (status result : Nat) (s : State) : State :=
  let s := ({ s with pwr := { s.pwr with test := none } }.setFld Reg.PWR_ST_STATUS 8 8 status).setFld Reg.PWR_ST_STATUS 16 2 result
  raise 0x546 (s.setBit Reg.PWR_ST_STATUS 1 true)

/-- A test that has run ends with OK and its result. -/
def testDone (result : Nat) (s : State) : State := testEnd 0 result s

/-- A requested test begins. -/
def testBegin (test unit : Nat) (mode : Bool) (s : State) : State :=
  let s := { s with pwr := { s.pwr with test := some (BitVec.ofNat 8 test, BitVec.ofNat 16 unit, mode) } }
  if test = 4 then s.setBit (lnkReg unit 0) 1 true
  else if test = 6 then { s with pwr := { s.pwr with tdcOut := mset s.pwr.tdcOut 0 unit (s.clock + 160) } }
  else if test = 0x11 ∨ test = 0x12 then
    { s with
      mem := { s.mem with marchPhase := .march, marchSelfTest := true, marchSecond := false }
      pwr := { s.pwr with repaired := [], failed := [] } }
  else s

/-- GO of PWR_ST_CTRL (R459). A request while one runs ends with its status and leaves the running one as it is, which gives
STATUS its own when it ends. -/
def testGo (owns : Bool) (s : State) : State :=
  let test := s.fld Reg.PWR_ST_CTRL 0 8
  let unit := s.fld Reg.PWR_ST_CTRL 8 16
  let st := testStatus s owns test unit
  if s.pwr.test.isSome then s.setFld Reg.PWR_ST_STATUS 8 8 st
  else
    let s := ((s.setFld Reg.PWR_ST_STATUS 8 8 st).setFld Reg.PWR_ST_STATUS 16 2 0).setBit Reg.PWR_ST_STATUS 1 false
    if st ≠ 0 then testEnd st 0 s else testBegin test unit (s.bit Reg.PWR_ST_CTRL 25) s

/-- STOP of PWR_ST_CTRL: a LANE_FAR reflection ends (R460). -/
def testStop (s : State) : State :=
  match s.pwr.test with
  | some (t, _, mode) => if t = 5 ∧ mode then testDone 0 s else s
  | none => s

/-- A write of PWR_ST_CTRL. -/
def stCtrlWrite (owns : Bool) (val : Word32) (s : State) : State :=
  let s := storeReg Reg.PWR_ST_CTRL val s
  let s := if val.getLsbD 27 then testStop s else s
  if val.getLsbD 26 then testGo owns s else s

def execSelfTestGo (wr : OpWrite) (val : Word32) (s : State) : Host.Outcome State Fault Refusal :=
  run (fun s => if val.getLsbD 26 then regAccess wr.path Reg.PWR_ST_CTRL val (stCtrlWrite wr.owns) s else s) s

def execSelfTestStop (path : Path) (val : Word32) (s : State) : Host.Outcome State Fault Refusal :=
  run (fun s => if val.getLsbD 27 then regAccess path Reg.PWR_ST_CTRL val (stCtrlWrite true) s else s) s

/-! ### Fault recording (R463) -/

/-- Numbers in rising order. -/
def sortNat (l : List Nat) : List Nat := sortBy (fun a b => decide (a ≤ b)) l

/-- The target of the march that runs: 0 bank, 1 tier, 2 store. -/
def marchTarget (s : State) : Nat :=
  if s.mem.marchSelfTest then (if s.pwr.test.any (fun t => t.1 == 0x11) then 1 else 2) else 0

/-- Words and bit lanes of a unit of a target. -/
def unitWords (target : Nat) : Nat := if target = 0 then 8192 else 2048
def unitLanes (target : Nat) : Nat := if target = 0 then 66 else if target = 1 then 112 else 33

/-- The first unit of the march that runs, and the number of its units. -/
def marchUnits (s : State) : Nat × Nat :=
  if marchTarget s = 0 then (s.mem.marchBank, 1)
  else if marchTarget s = 1 then (16384 * ((s.pwr.test.map (fun t => t.2.1.toNat)).getD 0), 16384)
  else (0, 3 * s.clusters)

/-- A cell of a unit that the march tests. -/
def cellOk (s : State) (c : FailCell) : Bool :=
  let u := marchUnits s
  u.1 ≤ c.unit && c.unit < u.1 + u.2 && c.word.toNat < unitWords (marchTarget s) && c.lane.toNat < unitLanes (marchTarget s)

/-- The distinct failing cells of a unit, in the order found. -/
def unitCells (s : State) (cells : List FailCell) (unit : Nat) : List FailCell :=
  (cells.filter (fun c => cellOk s c && c.unit == unit)).eraseDups

/-- The failing units, in rising order. -/
def failUnits (s : State) (cells : List FailCell) : List Nat :=
  sortNat ((cells.filter (cellOk s)).map (fun c => c.unit)).eraseDups

/-- The unit with the most failing cells, the lowest one on a tie. -/
def worstUnit (s : State) (cells : List FailCell) : Nat :=
  (failUnits s cells).foldl
    (fun b u => if (unitCells s cells b).length < (unitCells s cells u).length then u else b)
    ((failUnits s cells).headD (marchUnits s).1)

/-- Sets OUTCOME of PWR_ST_MARCH when the reported unit is `unit`. -/
def marchOutcome (unit code : Nat) (s : State) : State :=
  if s.fld Reg.PWR_ST_MARCH 14 16 = unit then s.setFld Reg.PWR_ST_MARCH 4 2 code else s

/-- PWR_ST_MARCH and PWR_ST_CELL_k report the march phase. -/
def reportMarch (cells : List FailCell) (s : State) : State :=
  let u := worstUnit s cells
  let l := unitCells s cells u
  let s := s.setReg Reg.PWR_ST_MARCH (BitVec.ofNat 32
    (2 ^ 30 * marchTarget s + 2 ^ 14 * u + 2 ^ 7 * min 64 l.length + 2 ^ 6 * b2n (64 < l.length)))
  forN 64 (fun k s => s.setReg (Reg.PWR_ST_CELL + 4 * k) (match l[k]? with
    | some c => BitVec.ofNat 32 (2 ^ 31 + 2 ^ 13 * c.lane.toNat + c.word.toNat)
    | none => 0)) s

/-! ### Allocation of spares (R464) -/

/-- The 31 bits of a repair record below its parity bit (R466). -/
def RepairRec.bits (r : RepairRec) : Nat :=
  2 ^ 29 * r.kind.toNat + 2 ^ 27 * r.target.toNat + 2 ^ 25 * r.spare.toNat + 2 ^ 16 * r.index.toNat + r.unit.toNat

/-- A repair record as it is written, with odd parity over its 32 bits. -/
def RepairRec.word (r : RepairRec) : Word32 := BitVec.ofNat 32 (r.bits + 2 ^ 31 * ((ones r.bits 31 + 1) % 2))

/-- Reads a repair record; one with wrong parity is ignored. -/
def repairOf (w : Word32) : Option RepairRec :=
  if ones w.toNat 32 % 2 = 1 then
    some { kind := w.extractLsb' 29 2, target := w.extractLsb' 27 2, spare := w.extractLsb' 25 2
           index := w.extractLsb' 16 9, unit := w.extractLsb' 0 16 }
  else none

/-- The valid repair records, in order. -/
def repairRecs (s : State) : List RepairRec := s.boot.mram.repairs.filterMap repairOf

/-- The spares of a kind (0 rows, 1 columns) that a unit has left, in rising order. -/
def freeSpares (s : State) (target unit kind : Nat) : List Nat :=
  (List.range (if kind = 0 then 4 else 2)).filter (fun i => !(repairRecs s).any (fun r =>
    r.kind.toNat == kind && r.target.toNat == target && r.unit.toNat == unit && r.spare.toNat == i))

/-- The distinct rows of cells, in rising order. -/
def cellRows (l : List FailCell) : List Nat := sortNat (l.map (fun c => c.word.toNat / 16)).eraseDups

/-- The distinct bit lanes of cells, in rising order. -/
def cellLanes (l : List FailCell) : List Nat := sortNat (l.map (fun c => c.lane.toNat)).eraseDups

/-- The rows of the cells whose lane is not in `S`. -/
def rowsWithout (l : List FailCell) (S : List Nat) : List Nat := cellRows (l.filter (fun c => !S.contains c.lane.toNat))

/-- Every set of up to `n` lanes, the smaller sets first, each size in lexicographic order. -/
def laneSets (lanes : List Nat) (n : Nat) : List (List Nat) :=
  [[]] ++ (if 1 ≤ n then lanes.map (fun a => [a]) else []) ++
    (if 2 ≤ n then lanes.flatMap (fun a => (lanes.filter (fun b => a < b)).map (fun b => [a, b])) else [])

/-- The lanes and rows to repair: R464's procedure; none for an unrepairable unit. -/
def allocate (l : List FailCell) (freeR freeC : Nat) : Option (List Nat × List Nat) :=
  let rows := cellRows l
  let lanes := cellLanes l
  if rows.length ≤ freeR then some ([], rows)
  else if lanes.length ≤ freeC then some (lanes, [])
  else if 64 < l.length then none
  else ((laneSets lanes freeC).map (fun S => (S, rowsWithout l S))).foldl
    (fun b c => if freeR < c.2.length then b else match b with
      | none => some c
      | some d => if c.1.length + c.2.length < d.1.length + d.2.length then some c else b) none

/-! ### Repair (R465, R466, R468) -/

/-- A repair record is written, or the area is full (R466); the Boolean says that it is written. -/
def addRecord (r : RepairRec) (s : State) : Bool × State :=
  if 4096 ≤ s.boot.mram.repairs.length then (false, raise 0x54A (s.setBit Reg.PWR_ST_STATUS 18 true))
  else (true, raise 0x549 { s with boot := { s.boot with mram := { s.boot.mram with repairs := s.boot.mram.repairs ++ [r.word] } } })

/-- One spare row or column is used for a row or a lane. -/
def useSpare (target unit kind : Nat) (x : Nat × Nat) (a : Bool × State) : Bool × State :=
  if !a.1 then a
  else
    let r := addRecord { kind := BitVec.ofNat 2 kind, target := BitVec.ofNat 2 target, spare := BitVec.ofNat 2 x.2,
                         index := BitVec.ofNat 9 x.1, unit := BitVec.ofNat 16 unit } a.2
    if r.1 then (true, ledAdd (48 + kind) 1 r.2) else r

/-- One failing unit is repaired, or found unrepairable. -/
def repairUnit (cells : List FailCell) (unit : Nat) (s : State) : State :=
  let t := marchTarget s
  let fr := freeSpares s t unit 0
  let fc := freeSpares s t unit 1
  let bad (s : State) : State := { s with pwr := { s.pwr with failed := s.pwr.failed ++ [unit] } }
  match allocate (unitCells s cells unit) fr.length fc.length with
  | none => bad s
  | some (lanes, rows) =>
    let a := forEach (rows.zip fr) (useSpare t unit 0) (forEach (lanes.zip fc) (useSpare t unit 1) (true, s))
    if a.1 then { a.2 with pwr := { a.2.pwr with repaired := a.2.pwr.repaired ++ [unit] } } else bad a.2

/-- A bank keeps its faults (R468). -/
def keepFaults (s : State) : State := ledAdd 51 1 (s.setBit Reg.MEM_MARCH_STATUS 2 true)

/-- A bank is served by spare bank `k` from now on (R213, R468). With the record area full the redirection stays all the same,
and no start re-establishes it (R466; DEDUCED, log 98). The spare's words hold no parity error (R185). -/
def substitute (bank k : Nat) (s : State) : State :=
  let r := addRecord { kind := 2, target := 0, spare := 0, index := BitVec.ofNat 9 (k % 4), unit := BitVec.ofNat 16 bank } s
  ledAdd 50 1 (marchOutcome bank 2 ((bankMended bank r.2).setBit Reg.MEM_MARCH_STATUS 3 true))

/-- The march phase of a bank has come to its end (R212, R213, R468). -/
def bankConclude (s : State) : State :=
  let b := s.mem.marchBank
  let ok := !s.pwr.failed.contains b
  let s := if ok then s else testFailed (marchOutcome b 3 s)
  if !s.mem.marchDestr then
    if ok then { s with mem := { s.mem with marchPhase := .restore } } else marchDone (substitute b s.mem.marchSpare s)
  else
    let s := clearBank b s
    if ok then marchDone s
    else match freeSpare s b with
      | some k =>
        let s := substitute b k s
        marchDone { s with mem := { s.mem with spares := s.mem.spares ++ [(k, b)] } }
      | none => marchDone (keepFaults s)

/-- The march engine has finished its marches. -/
def marchConclude (s : State) : State :=
  let s := forEach s.pwr.repaired (fun u s => if s.pwr.failed.contains u then marchOutcome u 3 s else marchOutcome u 1 s) s
  let s := { s with mem := { s.mem with marchSecond := false } }
  if s.mem.marchSelfTest then
    let s := forEach s.pwr.failed (fun u s => marchOutcome u 3 s) s
    { s with mem := { s.mem with marchPhase := .restore } }
  else bankConclude s

/-- MARCH_PHASE_DONE (R463 to R466). -/
def marchPhaseDone (cells : List FailCell) (s : State) : State :=
  if s.mem.marchPhase ≠ .march ∨ s.mem.marchSecond then s
  else
    let s := reportMarch cells { s with pwr := { s.pwr with repaired := [], failed := [] } }
    let s := forEach (failUnits s cells) (repairUnit cells) s
    if s.pwr.repaired.isEmpty then marchConclude s
    else { s with mem := { s.mem with marchSecond := true } }

def execMarchPhaseDone (cells : List FailCell) (s : State) : Host.Outcome State Fault Refusal := run (marchPhaseDone cells) s

/-- REPAIR_REMARCH_DONE (R465): a repaired unit that fails again is unrepairable. -/
def remarchDone (cells : List FailCell) (s : State) : State :=
  if s.mem.marchPhase ≠ .march ∨ !s.mem.marchSecond then s
  else
    let again := s.pwr.repaired.filter (fun u => (failUnits s cells).contains u)
    marchConclude { s with pwr := { s.pwr with failed := s.pwr.failed ++ again } }

def execRepairRemarchDone (cells : List FailCell) (s : State) : Host.Outcome State Fault Refusal := run (remarchDone cells) s

/-! ### The end of a requested test (R457, R462) -/

/-- A tier or store march leaves every word zero with correct parity (R462). -/
def marchClear (test unit : Nat) (s : State) : State :=
  if test = 0x11 then { s with clu := { s.clu with tier := s.clu.tier.filter (fun p => p.1 % 65536 / 16384 ≠ unit) } }
  else { s with clu := { s.clu with copies := [], copyBad := [] } }

/-- The cluster that owns a unit of a tier or store march. -/
def unitCluster (test unit : Nat) : Nat := if test = 0x11 then unit / 256 else unit / 3

/-- A tier or store march ends. -/
def marchTestDone (test unit : Nat) (s : State) : State :=
  let s := if s.mem.marchPhase ≠ .march then s else if s.mem.marchSecond then remarchDone [] s else marchPhaseDone [] s
  let bad := s.pwr.failed
  let fixed : Bool := !s.pwr.repaired.isEmpty
  let s := marchClear test unit { s with mem := { s.mem with marchPhase := .idle, marchSelfTest := false } }
  let s := if bad.isEmpty then s else testFailed s
  let s := forEach (bad.map (unitCluster test)).eraseDups (fun c s => parkBlock 0x08 c test s) s
  testDone (if !bad.isEmpty then 2 else if fixed then 3 else 1) s

/-- SELF_TEST_DONE. A reflection ends by STOP alone. -/
def selfTestDone (pass : Bool) (s : State) : State :=
  match s.pwr.test with
  | none => s
  | some (t, u, mode) =>
    let u := u.toNat
    if t = 0x11 ∨ t = 0x12 then marchTestDone t.toNat u s
    else if t = 5 ∧ mode then s
    else
      let s := if t = 4 then s.setBit (lnkReg u 0) 1 false else s
      let s := if pass then s else testFailed s
      let s := if t = 6 ∧ !pass then
          (s.setBit (Reg.PWR_TDC_FAIL + 4 * (u / 32)) (u % 32) true).setBit (Reg.GLV_TDC_EN + 4 * (u / 32)) (u % 32) false
        else s
      testDone (if pass then 1 else 2) s

def execSelfTestDone (pass : Bool) (s : State) : Host.Outcome State Fault Refusal := run (selfTestDone pass) s

/-- A write of GLV_TDC_EN: 1 is dropped for an input that has failed its test (R457). -/
def tdcEnWrite (off : Nat) (val : Word32) (s : State) : State :=
  storeReg off (val &&& ~~~(s.reg (Reg.PWR_TDC_FAIL + (off - Reg.GLV_TDC_EN)))) s

/-! ### Continuous and periodic checks (R457) -/

/-- Sensors that are not excluded, with their readings. -/
def validTemps (s : State) (temps : List Byte) : List (Nat × Nat) :=
  ((List.range 24).filter (fun i => !s.bit Reg.PWR_TS_EXCL i)).map (fun i => (i, (temps.getD i 0).toNat))

/-- Twice the median of a list of readings: the middle one, or the mean of the two in the middle. -/
def median2 (l : List Nat) : Nat :=
  let t := sortNat l
  t.getD ((t.length - 1) / 2) 0 + t.getD (t.length / 2) 0

/-- THERMAL_SENSOR_CHECK: a sensor more than 8 °C from the median of the valid sensors is excluded. -/
def sensorCheck (temps : List Byte) (s : State) : State :=
  if temps.length ≠ 24 then s
  else
    let v := validTemps s temps
    let m := median2 (v.map (fun p => p.2))
    let bad := v.filter (fun p => 16 < (2 * p.2 - m) + (m - 2 * p.2))
    let s := forEach bad (fun p s => raise 0x548 (s.setBit Reg.PWR_TS_EXCL p.1 true)) s
    if (validTemps s temps).length < 12 then criticalTrip s else s

def execThermalSensorCheck (temps : List Byte) (s : State) : Host.Outcome State Fault Refusal := run (sensorCheck temps) s

/-- VMON_CHECK: the reading counts when it lies within 15 mV of both references. -/
def vmonCheck (mv : BitVec 12) (d0 d1 : Nat) (s : State) : State :=
  if d0 ≤ 15 ∧ d1 ≤ 15 then
    let s := { s with pwr := { s.pwr with vmonBad := false } }.setReg Reg.PWR_VCORE (mv.setWidth 32)
    if s.plat.avsEn then
      (s.setReg Reg.PWR_AVS (BitVec.ofNat 32 (256 + (10 + (Config.free64 s.freeCtr).toNat % 31)))).tick1
    else s
  else
    testFailed (({ s with pwr := { s.pwr with vmonBad := true } }.setReg Reg.PWR_VCORE 0).setBit Reg.PWR_AVS 8 false)

def execVmonCheck (mv : BitVec 12) (diff0 diff1 : Nat) (s : State) : Host.Outcome State Fault Refusal :=
  run (vmonCheck mv diff0 diff1) s

/-- LANE_PLL_LOCK_LOSS: the lane port is parked. -/
def lanePllLoss (p : Nat) (s : State) : State :=
  let s := s.setLane p { s.lane p with parked := true }
  portTo p .disabled (parkBlock 0x12 p 2 (testFailed s))

def execLanePllLockLoss (p : BitVec 4) (s : State) : Host.Outcome State Fault Refusal := run (onPort p lanePllLoss) s

/-- HBM_PLL_LOCK_LOSS: the stack is parked, and a Larkspur ring on it is lost. -/
def hbmPllLoss (k : Nat) (s : State) : State :=
  if s.stacks ≤ k then s
  else
    let s := parkBlock 0x16 k 3 (testFailed s)
    if sinkUsed s 0 && ringStack s == k then loseSink 0 s else s

def execHbmPllLockLoss (stack : BitVec 1) (s : State) : Host.Outcome State Fault Refusal := run (hbmPllLoss stack.toNat) s

/-- VCCIO_MONITOR_TRIP (R478, R479). While the core die is in reset it only takes the bank's supply as gone: LOST and the
event are those of a module in service. -/
def vccioTrip (b : Nat) (s : State) : State :=
  if !s.bit Reg.PWR_VCCIO b then s
  else if !s.up then s.setBit Reg.PWR_VCCIO b false
  else
    let was := s.bit Reg.PWR_VCCIO (8 + b)
    let s := settle ((s.setBit Reg.PWR_VCCIO b false).setBit Reg.PWR_VCCIO (8 + b) true)
    if was then s else raise 0x54B s

def execVccioMonitorTrip (b : BitVec 3) (s : State) : Host.Outcome State Fault Refusal := done (vccioTrip b.toNat s)

/-- VCCIO_MONITOR_CLEAR: a rail may rise at any time after VDD_AUX, so before the release of POR_N too (R473). -/
def vccioClear (b : Nat) (s : State) : State :=
  if s.boot.stage == .off then s else pinsChanged (s.setBit Reg.PWR_VCCIO b true)

def execVccioMonitorClear (b : BitVec 3) (s : State) : Host.Outcome State Fault Refusal := done (vccioClear b.toNat s)

end Sys2Proof.Machine
end

