-- ==== Sys2Proof/Machine/Power.lean ====
section
/-!
DEFINITION. Machine/Power.lean: power states, the thermal level, the ramp, the load forecast, and the perennial ledger
(spec/17_power_thermal_ledger.md, R439 to R454).
-/
namespace Sys2Proof.Machine

/-! ### The perennial ledger (R451 to R454) -/

/-- The ledger's counts with their pending increments. -/
def ledCounts (s : State) : SMap Nat :=
  s.ldg.pend.foldl (fun (m : SMap Nat) (p : Nat × Nat) => mset m 0 p.1 (min 0xFFFFFFFF (mget m 0 p.1 + p.2))) s.ldg.base

/-- The first 0x7FC bytes of record `seq`, and the record with its CRC (R452). -/
def ledgerBody (seq : Word64) (reason : Nat) (s : State) : List Byte :=
  leBytes 4 0x5247444C ++ leBytes 2 1 ++ leBytes 2 s.part ++ leBytes 8 seq.toNat ++ leBytes 1 s.ldg.lastBoot ++ leBytes 1 reason ++
    leBytes 46 0 ++ (List.range 448).flatMap (fun i => leBytes 4 (mget (ledCounts s) 0 i)) ++
    (List.range 56).flatMap (fun k => leBytes 1 (((List.range 8).map (fun b => 2 ^ b * b2n (mget s.ldg.sat false (8 * k + b)))).sum)) ++
    leBytes 132 0
def ledgerRecord (seq : Word64) (reason : Nat) (s : State) : List Byte :=
  ledgerBody seq reason s ++ leBytes 4 (crc32c (ledgerBody seq reason s)).toNat

/-- Cloche writes a ledger record with a reason, or the write fails. -/
def writeLedger (reason : Nat) (fail : Bool) (s : State) : State :=
  if fail then raise 0x544 (causeSet Reg.PWR_CAUSE 3 [] s)
  else
    let n := s.ldg.seq + 1
    { s with ldg := { s.ldg with
      base := ledCounts s, pend := [], seq := n, wrote := some s.clock
      recs := mset s.ldg.recs [] (n.toNat % 256) (ledgerRecord n reason s) } }

/-- LEDGER_PERIODIC_WRITE (R452). -/
def execLedgerPeriodicWrite (fail : Bool) (s : State) : Host.Outcome State Fault Refusal := run (writeLedger 0 fail) s

/-- The code of the power state (R439): 0 RUN, 1 HOLD, 2 DOZE, 3 NAP. -/
def powerState (s : State) : Nat :=
  match s.pwr.mode with
  | .doze => 2
  | .nap => 3
  | .on => match s.sch.st with
    | .running | .frozen | .ckpt | .rewind => 0
    | .idle | .paused | .faultStop => 1

/-- The ledger counters of a temperature in °C and of a core voltage in mV. -/
def tempBin (t : Nat) : Nat := if t < 35 then 16 else 16 + min 15 ((t - 30) / 5)
def voltBin (v : Nat) : Nat := if v < 650 then 32 else 32 + min 15 ((2 * v - 1275) / 25)

/-- LEDGER_SAMPLE (R451): one second. -/
def ledgerSample (s : State) : State :=
  let s := ledAdd (tempBin (s.fld Reg.PWR_TEMP 0 8)) 1 (ledAdd (powerState s) 1 s)
  if s.pwr.vmonBad then s else ledAdd (voltBin (s.fld Reg.PWR_VCORE 0 12)) 1 s

def execLedgerSample (s : State) : Host.Outcome State Fault Refusal := run ledgerSample s

/-! ### Power states (R439 to R442) -/

/-- HOLD may be left for Doze or Nap (R440). -/
def dozeOpen (s : State) : Bool :=
  powerState s == 1 && s.U == 0 && s.sch.exec.isNone && !s.mem.queue.any (fun e => e.committed) && !s.load.busy &&
    s.sch.applyT.isNone && s.sch.ckptCopy.isNone && s.sch.rewindSlot.isNone && !marching s

/-- A write of TARGET (R440). -/
def targetWrite (t : Nat) (s : State) : State :=
  if t = 3 ∨ s.fld Reg.PWR_CTRL 0 2 = t then s
  else if t = 0 then startWake s
  else
    let m : PowMode := if t = 1 then .doze else .nap
    if powTo s ≠ .on then { s with pwr := { s.pwr with trans := s.pwr.trans ++ [PowMode.on, m] } }.setFld Reg.PWR_CTRL 0 2 t
    else if !s.pwr.trans.isEmpty || dozeOpen s then
      { s with pwr := { s.pwr with trans := s.pwr.trans ++ [m] } }.setFld Reg.PWR_CTRL 0 2 t
    else raise 0x543 (causeSet Reg.PWR_CAUSE 2 [] s)

/-- A write of PWR_CTRL: TARGET, LDG_FLUSH and SHUTDOWN. `fail` says whether a ledger write fails. -/
def pwrCtrlWrite (fail : Bool) (val : Word32) (s : State) : State :=
  let s := targetWrite (bitsOf val 0 2) s
  let s := if val.getLsbD 3 then writeLedger 1 fail s else s
  if val.getLsbD 2 then (if fail then writeLedger 2 true s else raise 0x540 (writeLedger 2 false s)) else s

/-- A write of PWR_CTRL where a condition on the value holds. -/
def onPwrCtrl (path : Path) (val : Word32) (fail c : Bool) (s : State) : Host.Outcome State Fault Refusal :=
  run (fun s => if c then regAccess path Reg.PWR_CTRL val (pwrCtrlWrite fail) s else s) s

def execPwrTargetDoze (path : Path) (val : Word32) (s : State) : Host.Outcome State Fault Refusal :=
  onPwrCtrl path val false (bitsOf val 0 2 == 1) s

def execPwrTargetNap (path : Path) (val : Word32) (s : State) : Host.Outcome State Fault Refusal :=
  onPwrCtrl path val false (bitsOf val 0 2 == 2) s

def execPwrWake (path : Path) (val : Word32) (s : State) : Host.Outcome State Fault Refusal :=
  onPwrCtrl path val false (bitsOf val 0 2 == 0) s

def execLdgFlush (path : Path) (val : Word32) (fail : Bool) (s : State) : Host.Outcome State Fault Refusal :=
  onPwrCtrl path val fail (val.getLsbD 3) s

def execShutdown (path : Path) (val : Word32) (fail : Bool) (s : State) : Host.Outcome State Fault Refusal :=
  onPwrCtrl path val fail (val.getLsbD 2) s

/-- The module enters a power state. Committed cycles are evaluated and closed before the clocks of Aster and Larkspur stop
(log 182). -/
def enterPower (m : PowMode) (fail : Bool) (s : State) : State :=
  let enter (s : State) : State := { s with pwr := { s.pwr with mode := m } }
  match m with
  | .on => lksWake (enter { s with pwr := { s.pwr with longHold := true } })
  | .doze => enter (lksGap false (astDrain 200 s))
  | .nap => enter (lksGap true (astDrain 200 (writeLedger 4 fail s)))

/-- PWR_TRANSITION_DONE (R441): the next state of the transition under way is reached. -/
def transitionDone (fail : Bool) (s : State) : State :=
  match s.pwr.trans with
  | [] => s
  | m :: t =>
    let s := enterPower m fail { s with pwr := { s.pwr with trans := t } }
    if t.isEmpty then raise 0x540 s else s

def execPwrTransitionDone (ledgerFail : Bool) (s : State) : Host.Outcome State Fault Refusal := run (transitionDone ledgerFail) s

/-! ### Thermal level (R443 to R445) -/

/-- The highest reading, of the lowest sensor that gives it. -/
def hottest (l : List (Nat × Nat)) : Nat × Nat :=
  l.foldl (fun (b : Nat × Nat) (p : Nat × Nat) => if b.2 < p.2 then p else b) (l.headD (0, 0))

/-- THERMAL_READING. -/
def thermalReading (temps : List Byte) (s : State) : State :=
  let v := validTemps s temps
  if temps.length ≠ 24 ∨ v.isEmpty then s
  else
    let h := hottest v
    let tj := h.2
    let s := s.setReg Reg.PWR_TEMP (BitVec.ofNat 32 (2 ^ 16 * h.1 + 2 ^ 8 * max (s.fld Reg.PWR_TEMP 8 8) tj + tj))
    let throt := s.fld Reg.PWR_THERM 0 8
    let cool : Bool := tj + s.fld Reg.PWR_THERM 16 4 < throt
    let s := if s.fld Reg.PWR_THERM 8 8 ≤ tj then criticalTrip s
      else if cool then { s with pwr := { s.pwr with trip := false } } else s
    let old := s.pwr.lth
    let set (l : Nat) (s : State) : State := { s with pwr := { s.pwr with lth := l } }
    let s :=
      if throt ≤ tj then
        let s := set (min 63 (old + s.fld Reg.PWR_THERM 20 4)) s
        if old = 0 then raise 0x541 (causeSet Reg.PWR_CAUSE 1 [] s) else s
      else if cool then set (old - 1) s
      else s
    throttleChanged s

def execThermalReading (temps : List Byte) (s : State) : Host.Outcome State Fault Refusal := run (thermalReading temps) s

/-- A write of PWR_THERM: taken whole or not at all. -/
def pwrThermWrite (val : Word32) (s : State) : State :=
  let throt := bitsOf val 0 8
  let crit := bitsOf val 8 8
  let hyst := bitsOf val 16 4
  let up := bitsOf val 20 4
  if 60 ≤ throt ∧ throt ≤ 104 ∧ 85 ≤ crit ∧ crit ≤ 105 ∧ 1 ≤ hyst ∧ 1 ≤ up ∧ up ≤ 8 ∧ throt < crit then
    storeReg Reg.PWR_THERM val s
  else s

/-- A write of PWR_THROT. -/
def pwrThrotWrite (val : Word32) (s : State) : State := throttleChanged (storeReg Reg.PWR_THROT val s)

/-- A write of PWR_RAMP: each field takes a value of its range. -/
def pwrRampWrite (val : Word32) (s : State) : State :=
  let us := bitsOf val 0 7
  let long := bitsOf val 8 8
  let s := if 2 ≤ us ∧ us ≤ 64 then s.setFld Reg.PWR_RAMP 0 7 us else s
  if 1 ≤ long then s.setFld Reg.PWR_RAMP 8 8 long else s

/-! ### Ramp and load forecast (R447, R448) -/

/-- RAMP_TICK: a whole microsecond of ramp time. -/
def rampTick (s : State) : State :=
  match s.pwr.rampT with
  | none => s
  | some t =>
    let T := s.fld Reg.PWR_RAMP 0 7
    let t := t + 1
    let s := if t < T then { s with pwr := { s.pwr with rampT := some t, lramp := 63 * (T - t) / T } }
      else { s with pwr := { s.pwr with rampT := none, lramp := 0 } }
    throttleChanged s

def execRampTick (s : State) : Host.Outcome State Fault Refusal := run rampTick s

/-- The 25 bits of a frame from EST, SEQ and RAMP. -/
def lfcBits (est seq rampBit : Nat) : Nat :=
  let par := (ones est 16 + ones seq 2 + rampBit + 1) % 2
  2 ^ 21 * 14 + 2 ^ 5 * est + 2 ^ 3 * seq + 2 ^ 2 * rampBit + 2 * par

/-- A resume or a wake may come in the microsecond that begins 4 µs from now: a long hold is not over, or a wake is under way. -/
def resumeMayCome (s : State) : Bool := (s.pwr.longHold && s.pwr.mode == .on) || s.pwr.trans.contains .on

/-- RAMP of a forecast frame (R448), `open'` where the state does not settle it. A ramp between its microseconds `t` and `t + 1`
steps at each whole one up to T, and the window holds the one numbered `t + 5`, or `t + 4` (log 82). -/
def forecastRamp (open' : Nat) (s : State) : Nat :=
  let T := s.fld Reg.PWR_RAMP 0 7
  match s.pwr.rampT with
  | some t => if t + 5 ≤ T then 1 else if t + 4 = T || resumeMayCome s then open' else 0
  | none => if resumeMayCome s then open' else 0

/-- LOAD_FORECAST_FRAME: EST, a current 4 µs ahead, is a free value, and so is RAMP where it is not settled yet. -/
def forecast (s : State) : State :=
  if !s.plat.lfcEn then s
  else
    let f := (Config.free64 s.freeCtr).toNat
    let est := f % 2 ^ 16
    let rampBit := forecastRamp (f / 2 ^ 16 % 2) s
    let seq := s.pwr.lfcSeq
    let s := (s.tick1.emit (.lfcFrame (BitVec.ofNat 25 (lfcBits est seq.toNat rampBit)))).setReg Reg.PWR_LFC
      (BitVec.ofNat 32 (2 ^ 16 * est + 2 * seq.toNat + 1))
    { s with pwr := { s.pwr with lfcSeq := seq + 1 } }

def execLoadForecastFrame (s : State) : Host.Outcome State Fault Refusal := run forecast s

/-! ### Reads -/

/-- PWR_STATUS. -/
def pwrStatusWord (s : State) : Word32 :=
  BitVec.ofNat 32 (powerState s + 2 ^ 3 * b2n (!s.pwr.trans.isEmpty) + 2 ^ 4 * throttleL s + 2 ^ 10 * s.pwr.lth +
    2 ^ 16 * s.pwr.lramp + 2 ^ 22 * b2n s.pwr.rampT.isSome + 2 ^ 23 * b2n s.pwr.trip + 2 ^ 24 * b2n s.plat.lfcEn)

end Sys2Proof.Machine
end

