-- ==== Sys2Proof/Machine/Package.lean ====
section
/-!
DEFINITION. Machine/Package.lean: the Harny package: where it is read, the checks of its header and of its items, the
platform configuration and the link map that it supplies (spec/16_boot_update_reset.md, R425 to R429).
-/
namespace Sys2Proof.Machine

/-! ### Where a package lies -/

/-- The first flash byte of a slot. -/
def slotBase (k : FlashSlot) : Nat :=
  match k with
  | .a => 0
  | .b => 0x1000000

/-- The slot that is not `k`. -/
def otherSlot (k : FlashSlot) : FlashSlot :=
  match k with
  | .a => .b
  | .b => .a

/-- The inactive flash slot; slot A while the boot record names no active one (log 41). -/
def inactiveSlot (s : State) : FlashSlot :=
  match s.boot.mram.active with
  | some k => otherSlot k
  | none => .a

/-- One byte of a package: in a flash slot, or in the staging area. -/
def pkgByte (s : State) (src : Option FlashSlot) (i : Nat) : Byte :=
  match src with
  | some k => mget s.boot.flash 0xFF (slotBase k + i)
  | none => mget s.boot.mram.staging 0xFF i

/-- Bytes of a package. -/
def pkgBytes (s : State) (src : Option FlashSlot) (off n : Nat) : List Byte :=
  (List.range n).map (fun i => pkgByte s src (off + i))

/-! ### The header (R425, R427) -/

/-- Item entry `i` of a header. -/
def itemAt (h : List Byte) (i : Nat) : ItemEntry :=
  let o := 0x80 + 64 * i
  { type := leAt h o 2, length := leAt h (o + 4) 4, offset := leAt h (o + 8) 8,
    digest := BitVec.ofNat 384 (beAt h (o + 16) 48) }

/-- ITEMS, PKG_SV, FW_SV and PKG_LEN of a header. -/
def hdrItems (h : List Byte) : Nat := leAt h 0x14 2
def hdrPkgSv (h : List Byte) : Nat := leAt h 8 1
def hdrFwSv (h : List Byte) : Nat := leAt h 9 1
def hdrFwClass (h : List Byte) : Byte := h.getD 0xA 0
def hdrLen (h : List Byte) : Nat := leAt h 0x10 4

/-- The entries in use. -/
def itemsOf (h : List Byte) : List ItemEntry := (List.range (min 16 (hdrItems h))).map (itemAt h)

/-- Bytes `[o, o + n)` of a byte string are zero. -/
def allZero (h : List Byte) (o n : Nat) : Bool := (List.range n).all (fun i => h.getD (o + i) 0 == 0)

/-- Two items overlap. -/
def itemsOverlap (a b : ItemEntry) : Bool := a.offset < b.offset + b.length && b.offset < a.offset + a.length

/-- No two items of a list overlap. -/
def itemsApart (l : List ItemEntry) : Bool :=
  match l with
  | [] => true
  | a :: t => t.all (fun b => !itemsOverlap a b) && itemsApart t

/-- How often a type stands in a list of items. -/
def typeCount (l : List ItemEntry) (t : Nat) : Nat := (l.filter (fun e => e.type == t)).length

/-- The item table has the layout that R425 and R426 give. -/
def itemTableOk (h : List Byte) : Bool :=
  let n := hdrItems h
  let l := itemsOf h
  2 ≤ n && n ≤ 16 && allZero h (0x80 + 64 * n) (64 * (16 - n)) &&
    (List.range n).all (fun i => leAt h (0x82 + 64 * i) 2 == 0) &&
    l.all (fun e => e.offset % 16 == 0 && 0x500 ≤ e.offset && e.offset + e.length ≤ hdrLen h && 1 ≤ e.type && e.type ≤ 5) &&
    itemsApart l && [1, 2, 4, 5].all (fun t => typeCount l t ≤ 1) && typeCount l 3 ≤ 4

/-- The fused FW and PKG versions (R415). -/
def fuseFw (s : State) : Nat := s.fld Reg.BNT_FUSE_SV 0 8
def fusePkg (s : State) : Nat := s.fld Reg.BNT_FUSE_SV 8 8

/-- The lowest status among checks that fail; 0 when none does (R16). -/
def lowestStatus (l : List (Bool × Nat)) : Nat :=
  (l.filter (fun p => p.1)).foldl (fun a p => if a = 0 ∨ p.2 < a then p.2 else a) 0

/-- The checks of R427 on 1,280 header bytes. -/
def headerStatus (s : State) (h : List Byte) : Nat :=
  let key := (h.drop 0x20).take 96
  lowestStatus [
    (leAt h 0 4 != 0x594E5248 || crc32c (h.take 0x4FC) != BitVec.ofNat 32 (leAt h 0x4FC 4), 7),
    (!(BitVec.ofNat 16 (leAt h 6 2)).getLsbD (b2n s.ident.half), 5),
    (sha384 key != s.ident.platformKey, 6),
    (!ecdsaVerify key ((h.drop 0x480).take 96) (h.take 0x480), 14),
    (hdrPkgSv h < fusePkg s || hdrFwSv h < fuseFw s, 10),
    (leAt h 4 2 != 1 || 4 ≤ leAt h 6 2 || !allZero h 0x16 10 || !allZero h 0x4E0 28 || hdrLen h < 1280 ||
      8 * 2 ^ 20 < hdrLen h || !itemTableOk h || 64 < hdrPkgSv h || 64 < hdrFwSv h, 12)]

/-! ### The platform configuration (R429) -/

/-- A port entry of a PLATFORM item. -/
structure PortEntry where
  role : Nat
  module : Nat
  port : Nat
  flags : BitVec 8
  deriving DecidableEq, Repr

/-- Port `p` of module `j`. -/
def portEntry (b : List Byte) (j p : Nat) : PortEntry :=
  let o := 0x40 + 128 * j + 4 * p
  { role := leAt b o 1, module := leAt b (o + 1) 1, port := leAt b (o + 2) 1, flags := b.getD (o + 3) 0 }

/-- The entry names a peer. -/
def PortEntry.named (e : PortEntry) : Bool := e.module != 0xFF && e.port != 0xFF

/-- Members of the system. -/
def pfMembers (b : List Byte) : Word64 := BitVec.ofNat 64 (leAt b 4 8)
def pfMember (b : List Byte) (j : Nat) : Bool := j < 64 && (pfMembers b).getLsbD j
def memberList (b : List Byte) : List Nat := (List.range 64).filter (pfMember b)

/-- Ports of module `j` with flag `f` set: 0 WAVE_UP, 1 WAVE_DOWN, 2 TIME_UP. -/
def flagged (b : List Byte) (j f : Nat) : List Nat := (List.range 16).filter (fun p => (portEntry b j p).flags.getLsbD f)

/-- COND_MODULE, and the module that holds the time. -/
def pfCond (b : List Byte) : Nat := leAt b 2 1
def pfTimeMaster (b : List Byte) : Nat := if leAt b 3 1 = 0xFF then pfCond b else leAt b 3 1

/-- The parent of member `j`: the peer of its one WAVE_UP port. -/
def pfParent (b : List Byte) (j : Nat) : Option Nat :=
  match flagged b j 0 with
  | [p] => if (portEntry b j p).named then some (portEntry b j p).module else none
  | _ => none

/-- COND_MODULE is reached from `j` within `n` steps towards the parent, through members alone. -/
def reachesCond (b : List Byte) (n j : Nat) : Bool :=
  pfMember b j && (j == pfCond b ||
    match n with
    | 0 => false
    | m + 1 => match pfParent b j with
      | some k => reachesCond b m k
      | none => false)

/-- The WAVE_UP flags form one tree rooted at COND_MODULE over the members. -/
def waveTreeOk (b : List Byte) : Bool :=
  pfMember b (pfCond b) && (flagged b (pfCond b) 0).isEmpty && (memberList b).all (reachesCond b 64)

/-- The peer that an entry names names it back. -/
def namedBack (b : List Byte) (j p : Nat) : Bool :=
  let e := portEntry b j p
  !e.named || (e.module < 64 && e.port < 16 &&
    (portEntry b e.module e.port).module == j && (portEntry b e.module e.port).port == p)

/-- The ports that may be trace sinks on the grade (R3). -/
def sinkPort (s : State) (p : Nat) : Bool := if s.ident.half then p == 6 || p == 7 else p == 14 || p == 15

/-- PLATFORM keeps R429: its length, its layout, and the conditions that the rule lists (log 42). -/
def platformOk (s : State) (b : List Byte) : Bool :=
  let ms := memberList b
  b.length == 8256 && leAt b 0 2 == 1 && pfCond b < 64 && (leAt b 3 1 < 64 || leAt b 3 1 == 0xFF) &&
    [0xC, 0xD, 0xE].all (fun o => leAt b o 1 ≤ 3) && 1 ≤ leAt b 0xF 1 && leAt b 0x11 1 ≤ 2 && leAt b 0x12 1 ≤ 1 &&
    leAt b 0x13 1 ≤ 1 && allZero b 0x14 44 && pfMember b s.ident.modid.toNat &&
    ms.all (fun j => (List.range 16).all (fun p => (portEntry b j p).role ≤ 2 && namedBack b j p)) &&
    (List.range 64).all (fun j => (List.range 16).all (fun p => (portEntry b j p).role != 1 || sinkPort s p)) &&
    waveTreeOk b && ms.all (fun j => j == pfTimeMaster b || (flagged b j 2).length == 1)

/-! ### The items (R426, R428) -/

/-- The first item of a type. -/
def itemOf (h : List Byte) (t : Nat) : Option ItemEntry := (itemsOf h).find? (fun e => e.type == t)

/-- The bytes of an item. -/
def itemBytes (s : State) (src : Option FlashSlot) (e : ItemEntry) : List Byte := pkgBytes s src e.offset e.length

/-- The fields of CLOCHE_FW repeat those of the header (log 43). -/
def fwFieldsOk (h fw : List Byte) : Bool :=
  fw.getD 0 0 == h.getD 9 0 && fw.getD 1 0 == h.getD 0xA 0 && fw.getD 2 0 == h.getD 0xB 0 && leAt fw 3 4 == leAt h 0xC 4

/-- The signature that ends CLOCHE_FW verifies. -/
def fwSigned (i : IdentSt) (fw : List Byte) : Bool :=
  let n := fw.length - 96
  96 ≤ fw.length && ecdsaVerify (beBytes 96 i.vendorKey.toNat) (fw.drop n) (fw.take n)

/-- The checks of R428 on the items of a package. -/
def itemsStatus (s : State) (src : Option FlashSlot) (h : List Byte) : Nat :=
  let fw := (itemOf h 1).map (itemBytes s src)
  let pf := (itemOf h 2).map (itemBytes s src)
  lowestStatus [
    ((itemsOf h).any (fun e => sha384 (itemBytes s src e) != e.digest), 7),
    (match fw with | some b => !fwSigned s.ident b | none => false, 14),
    (match fw, pf with | some b, some p => !fwFieldsOk h b || !platformOk s p | _, _ => true, 12)]

/-- The checks of a whole package in place: the lowest code of the header's and the items' checks (R16, R433). -/
def packageStatus (s : State) (src : Option FlashSlot) : Nat :=
  let h := pkgBytes s src 0 1280
  let a := headerStatus s h
  let b := itemsStatus s src h
  lowestStatus [(a != 0, a), (b != 0, b)]

/-! ### What the booted package supplies -/

/-- The part of the platform configuration that concerns this module. -/
def platOf (s : State) (src : Option FlashSlot) (h b : List Byte) : PlatSt :=
  let j := s.ident.modid.toNat
  let tm := leAt b 3 1
  { module := s.ident.modid, conductor := BitVec.ofNat 6 (pfCond b), members := pfMembers b
    parent := (flagged b j 0).head?.map (BitVec.ofNat 4), children := (flagged b j 1).map (BitVec.ofNat 4)
    roles := msetAll [] 0 ((List.range 16).map (fun p => (p, BitVec.ofNat 2 (portEntry b j p).role)))
    peers := msetAll [] none ((List.range 16).map (fun p =>
      let e := portEntry b j p
      (p, if e.named then some (BitVec.ofNat 6 e.module, BitVec.ofNat 4 e.port) else none)))
    timeMaster := if tm = 0xFF then none else some (BitVec.ofNat 6 tm)
    upstream := (flagged b j 2).head?.map (BitVec.ofNat 4)
    avsEn := leAt b 0x12 1 == 1, lfcEn := leAt b 0x13 1 == 1, hbmRate := b.getD 0x11 0
    digest := sha384 b, fwClass := hdrFwClass h, fwVer := BitVec.ofNat 32 (leAt h 0xC 4)
    settingsFmt := h.getD 0xB 0
    fwDigest := (((itemOf h 1).map (itemBytes s src)).map sha384).getD 0 }

/-- Recovery: every port disabled, the module alone, FW_CLASS and FW_VER 0 (R431). -/
def platRecovery (s : State) : PlatSt :=
  { module := s.ident.modid, conductor := s.ident.modid, members := BitVec.ofNat 64 (2 ^ s.ident.modid.toNat)
    roles := (List.range 16).map (fun p => (p, (2 : BitVec 2)))
    digest := Config.recoveryPlatform, settingsFmt := Config.recoverySettingsFmt, fwDigest := Config.recoveryDigest }

/-- GBL_OWN_POLICY that a platform configuration supplies. -/
def policyOf (b : List Byte) : Word32 :=
  BitVec.ofNat 32 (2 ^ 24 * leAt b 0x10 1 + 2 ^ 16 * leAt b 0xF 1 + 2 ^ 6 * pfCond b + 16 * leAt b 0xE 1 + 4 * leAt b 0xD 1 +
    leAt b 0xC 1)

/-- LNK_CTRL.ROLE of every port takes its reset value, which the platform configuration supplies. -/
def rolesReset (s : State) : State :=
  forN s.lanePorts (fun p s => s.setFld (lnkReg p 0) 2 2 (mget s.plat.roles 0 p).toNat) s

/-- The registers that a platform configuration supplies: GBL_OWN_POLICY, LNK_CTRL.ROLE, TIM_ASYM and PWR_LFC.EN. -/
def platRegs (b : List Byte) (s : State) : State :=
  let j := s.ident.modid.toNat
  let s := s.setReg Reg.GBL_OWN_POLICY (policyOf b)
  let s := forN s.lanePorts (fun p s => s.setReg (Reg.TIM_ASYM + 16 * p) (BitVec.ofNat 32 (leAt b (0x80 + 128 * j + 4 * p) 4))) s
  (rolesReset s).setBit Reg.PWR_LFC 0 s.plat.lfcEn

/-- The wrapped keys of the KEYS item enter their slots (R426, R410): records of 152 bytes from the target slot byte
on. -/
def loadKeys (b : List Byte) (s : State) : State :=
  (List.range (b.length / 152)).foldl (fun s i =>
    let r := (b.drop (152 * i)).take 152
    let k := leAt r 0 1
    match (if k < 3 then unwrapKey s.ident k r else none) with
    | some key => { s with bnt := { s.bnt with keys := mset s.bnt.keys none k (some key) } }
    | none => s) s

end Sys2Proof.Machine
end

