-- ==== Sys2Proof/Machine/Requests.lean ====
section
/-!
DEFINITION. Machine/Requests.lean: the requests of the Bonnet and Cloche mailboxes: their fields, the checks before EXECUTE,
who may command what, and the operations that a reset may interrupt (spec/15_bonnet_security.md, R405 to R410; spec/16_boot_update_reset.md,
R432).
-/
namespace Sys2Proof.Machine

/-! ### The fields of a request (R406) -/

/-- Bytes of the request area that a submit leaves; those not given read 0. -/
def reqBytes (r : Request) (o n : Nat) : List Byte := (List.range n).map (fun i => r.bytes.getD (o + i) 0)

/-- Fields of a request. -/
def reqOp (r : Request) : Nat := leAt r.bytes 0 2
def reqSlot (r : Request) : Nat := leAt r.bytes 2 1
def reqLen (r : Request) : Nat := leAt r.bytes 4 4
def reqCounter (r : Request) : Nat := leAt r.bytes 8 8

/-- The payload: LEN bytes, of at most 1,760. -/
def payload (r : Request) : List Byte := reqBytes r 0x10 (min 1760 (reqLen r))

/-- The answer of an operation: the status of the check that failed, with nothing done, or OK with its response and
its effect. -/
def answer (st : Nat) (resp : List Byte) (t s : State) : Nat × List Byte × State :=
  if st ≠ 0 then (st, [], s) else (0, resp, t)

/-! ### The checks of a Bonnet request (R406, R407) -/

/-- The key of a slot. -/
def slotKey (s : State) (k : Nat) : Option (BitVec 256) := if k = 3 then s.bnt.kAuth else mget s.bnt.keys none k

/-- The counter of a slot. -/
def slotCtr (s : State) (k : Nat) : Nat :=
  2 ^ 32 * (s.reg (Reg.BNT_CTR + 8 * k + 4)).toNat + (s.reg (Reg.BNT_CTR + 8 * k)).toNat

/-- The counter of a slot takes a value (R408). -/
def setCtr (k v : Nat) (s : State) : State :=
  (s.setReg (Reg.BNT_CTR + 8 * k) (BitVec.ofNat 32 v)).setReg (Reg.BNT_CTR + 8 * k + 4) (BitVec.ofNat 32 (v / 2 ^ 32))

/-- The tag that the key of a slot gives a request (R406). -/
def reqMac (s : State) (key : BitVec 256) (r : Request) : BitVec 128 :=
  hmacTag key (deviceBind s.ident ++ reqBytes r 0 (16 + min 1760 (reqLen r)))

/-- The tag that stands in a request. -/
def reqTag (r : Request) : BitVec 128 := BitVec.ofNat 128 (beAt (reqBytes r (0x10 + min 1760 (reqLen r)) 16) 0 16)

/-- What an operation asks of its requests: the lengths that its payload may have, the payload bytes that are 0
(first and number), and whether it is authenticated (R409). -/
structure OpForm where
  lens : List Nat
  zeros : List (Nat × Nat) := []
  authed : Bool := true

/-- FORMAT: the request has the form of its operation; a COUNTER beside SLOT 0xFF is a reserved field (log 152). -/
def formatOk (f : OpForm) (r : Request) : Bool :=
  leAt r.bytes 3 1 == 0 && f.lens.contains (reqLen r) && f.zeros.all (fun z => allZero (payload r) z.1 z.2) &&
    (if f.authed then reqSlot r ≤ 3 else reqSlot r == 0xFF && reqCounter r == 0)

/-- The phases before EXECUTE: the lowest code of the first phase that finds a failure; 0 when none does. -/
def judge (f : OpForm) (authority : Bool) (r : Request) (s : State) : Nat :=
  if !formatOk f r then 12
  else if !f.authed then 0
  else
    let k := reqSlot r
    match lowestStatus [(slotCtr s k == 2 ^ 64 - 1, 13), ((slotKey s k).isNone, 4)], slotKey s k with
    | 0, some key =>
      let st := lowestStatus [(reqMac s key r != reqTag r, 1), (reqCounter r ≤ slotCtr s k, 2)]
      if st ≠ 0 then st else if authority then 0 else 3
    | st, _ => st

/-! ### Who may command (R409) -/

/-- The owner slot. -/
def ownerSlot (s : State) : Option Nat :=
  match s.own.owner with
  | .none => none
  | .host => some 0
  | .bmc => some 1
  | .conductor => some 2

/-- The request's slot is the owner slot. -/
def byOwner (r : Request) (s : State) : Bool := ownerSlot s == some (reqSlot r)

/-- The request's slot is slot 3. -/
def byDesign (r : Request) (_ : State) : Bool := reqSlot r == 3

/-- Any path may submit it. -/
def byAny (_ : Request) (_ : State) : Bool := true

/-- `a` is ranked, and above `b` or `b` itself. -/
def rankedTo (l : List Master) (a b : Master) : Bool :=
  match l with
  | [] => false
  | m :: t => if m = a then (m :: t).contains b else m != b && rankedTo t a b

/-- The authority for HANDOVER: the owner slot or, with no owner, the slot of the named master or of one ranked
higher. -/
def byHandover (r : Request) (s : State) : Bool :=
  let m := masterOf (leAt (payload r) 0 1)
  let k := reqSlot r
  if s.own.owner ≠ .none then byOwner r s
  else k < 3 && m != .none && (masterOf (k + 1) == m || rankedTo (ranking s) (masterOf (k + 1)) m)

/-- The authority for DEBUG_UNLOCK. -/
def byDebug (r : Request) (s : State) : Bool := if s.img.valid then reqSlot r == 3 else byOwner r s

/-- FW_ACTIVATE's form: MODE, SOURCE, 6 zero bytes and HDR_DIGEST. -/
def fwForm : OpForm := { lens := [56], zeros := [(2, 6)] }

/-- MODE of a FW_ACTIVATE request. -/
def reqMode (r : Request) : Nat := leAt (payload r) 0 1

/-- What each operation asks of its requests (R409). -/
def opForm (op : Nat) : OpForm :=
  match op with
  | 1 | 5 => { lens := [8], zeros := [(1, 7)] }
  | 2 => { lens := [152], zeros := [(1, 7)] }
  | 3 => fwForm
  | 4 => { lens := [32], zeros := [(28, 4)] }
  | 6 => { lens := [8], zeros := [(0, 8)] }
  | 7 => { lens := [16], zeros := [(13, 3)] }
  | 8 => { lens := (List.range 64).map (fun i => 12 * (i + 1)) }
  | 0x10 => { lens := [32], authed := false }
  | 0x11 => { lens := [8], zeros := [(1, 7)], authed := false }
  | 0x12 => { lens := [20], zeros := [(2, 2), (8, 4)], authed := false }
  | _ => { lens := [8], zeros := [(0, 8)], authed := false }

/-- Whose slot may command each operation (R409). -/
def opAuthority (op : Nat) : Request → State → Bool :=
  match op with
  | 1 => byHandover
  | 2 | 3 | 7 | 8 => byOwner
  | 4 | 5 => byDesign
  | 6 => byDebug
  | _ => byAny

/-- An install is in its KEY phase: Bonnet derives its keys and takes no request (R417). -/
def keyPhase (s : State) : Bool := s.load.busy && !s.load.stage && s.load.phase == .key

/-- KEY_LOAD (R410): a wrap tag that fails is found at every target slot (R16). -/
def keyLoad (p : List Byte) (s : State) : Nat × List Byte × State :=
  let k := leAt p 0 1
  let key := unwrapKey s.ident k p
  answer (lowestStatus [(key.isNone, 1), (2 < k, 12)]) []
    { s with bnt := { s.bnt with keys := mset s.bnt.keys none k key } } s

/-! ### Staging writes (R432) -/

/-- A request of the Cloche mailbox keeps its form: SLOT 0xFF, COUNTER 0, reserved byte 0, LEN in range. -/
def clocheForm (r : Request) (lo hi : Nat) : Bool :=
  reqSlot r == 0xFF && reqCounter r == 0 && leAt r.bytes 3 1 == 0 && lo ≤ reqLen r && reqLen r ≤ hi

/-- Bytes written into a byte store from an offset on. -/
def storeBytes (d : Byte) (m : SMap Byte) (off : Nat) (bs : List Byte) : SMap Byte :=
  msetAll m d ((List.range bs.length).map (fun i => (off + i, bs.getD i 0)))

/-- The journal units that a staging write completes are those whose last byte it writes; another unit that it touches
is no longer complete (log 46). -/
def unitsAfter (l : List Nat) (off n : Nat) : List Nat :=
  let touched := (List.range ((off + n - 1) / 4096 + 1 - off / 4096)).map (fun i => off / 4096 + i)
  let full := touched.filter (fun u => 4096 * u + 4095 < off + n)
  l.filter (fun u => !touched.contains u) ++ full

/-- STAGE_WRITE (R432). -/
def stageWrite (p : List Byte) (s : State) : Nat × List Byte × State :=
  answer (lowestStatus [(0x800000 < leAt p 0 4 + (p.drop 4).length, 12), (s.boot.mram.trial == .staging, 9)]) []
    { s with boot := { s.boot with mram := { s.boot.mram with
      staging := storeBytes 0xFF s.boot.mram.staging (leAt p 0 4) (p.drop 4)
      stageDone := unitsAfter s.boot.mram.stageDone (leAt p 0 4) (p.drop 4).length } } } s

/-! ### Operations that a reset interrupts (R438, R408, R410, R452) -/

/-- A ledger record may still be in the writing: a write takes at most 2 ms. -/
def ledgerOpen (s : State) : Bool :=
  match s.ldg.wrote with
  | some t => decide (s.clock < t + 2560000)
  | none => false

/-- The record in the writing is torn, or stands: a free value. Of a torn one only that its CRC fails is stated, and nothing reads
more of it. -/
def ledgerTorn (s : State) : State :=
  if !ledgerOpen s then s
  else if (Config.free64 s.freeCtr).getLsbD 0 then
    let k := s.ldg.seq.toNat % 256
    let b := mget s.ldg.recs [] k
    { s with ldg := { s.ldg with recs := mset s.ldg.recs [] k (b.take 0x7FC ++ (b.drop 0x7FC).map (fun x => ~~~x)) } }.tick1
  else s.tick1

/-- A STAGE_WRITE is in progress: the request of the Cloche mailbox that is taken is one that passes. -/
def stageWriting (s : State) : Bool :=
  match s.boot.reqs with
  | [] => false
  | r :: _ => reqOp r == 0x101 && s.ownsPath r.path && clocheForm r 5 1540 && (stageWrite (payload r) s).1 == 0

/-- The staging write in progress has written a free number of its bytes (R438). -/
def stageTorn (s : State) : State :=
  if !stageWriting s then s
  else
    let p := (s.boot.reqs.head?.map payload).getD []
    let m := (Config.free64 s.freeCtr).toNat % ((p.drop 4).length + 1)
    let t := if m = 0 then s else (stageWrite (p.take (4 + m)) s).2.2
    { t with boot := { t.boot with mram := { t.boot.mram with stageTorn := true } } }.tick1

/-- The bytes of the staged package that COPY programs. -/
def copyLen (s : State) : Nat := min (8 * 2 ^ 20) (hdrLen (pkgBytes s none 0 1280))

/-- COPY programs the staged package into a flash slot up to byte `n`, from where it was verified. -/
def copyUpTo (k : FlashSlot) (n : Nat) (s : State) : State :=
  let a := slotBase k + s.boot.mram.copied
  let old := s.boot.flash.filter (fun p => !(a ≤ p.1 && p.1 < slotBase k + n))
  let new := (s.boot.mram.staging.filter (fun p => s.boot.mram.copied ≤ p.1 && p.1 < n)).map (fun p => (slotBase k + p.1, p.2))
  { s with boot := { s.boot with flash := msetAll old 0xFF new, mram := { s.boot.mram with copied := n } } }

/-- The COPY stage is interrupted after a free number of units, of 4 KiB (DESIGN CHOICE, log 187), that it had still to do. -/
def copyTorn (s : State) : State :=
  if s.boot.stage = .copy ∧ s.boot.mram.trial = .staging then
    let left := (copyLen s - s.boot.mram.copied) / 4096
    let u := (Config.free64 s.freeCtr).toNat % (left + 1)
    (copyUpTo (inactiveSlot s) (s.boot.mram.copied + 4096 * u) s).tick1
  else s

/-- CONFIRM has made its record write: the slot on trial is the active one, and FUSE_PENDING is set (R434). -/
def confirmRecord (s : State) : State :=
  if s.boot.fwTrial then
    { s with boot := { s.boot with mram := { s.boot.mram with active := some (inactiveSlot s), fusePending := true } } }
  else s

/-- What an authenticated request may have written, beside its counter, when a reset ends it before its effect is complete: the
record of CONFIRM (R434), or the key of KEY_LOAD (R410). -/
def lastWrite (r : Request) (s : State) : State :=
  if reqOp r = 2 then (keyLoad (payload r) s).2.2
  else if reqOp r = 3 ∧ reqMode r = 2 then confirmRecord s
  else s

/-- The request that Bonnet has taken ends with a reset: nothing, its counter (R408), or also what it writes first is written: a free
value. -/
def requestTorn (s : State) : State :=
  match s.bnt.reqs with
  | [] => s
  | r :: _ =>
    if keyPhase s ∨ 8 < reqOp r ∨ reqOp r = 0 ∨ judge (opForm (reqOp r)) (opAuthority (reqOp r) r s) r s ≠ 0 then s
    else
      let x := Config.free64 s.freeCtr
      let s := s.tick1
      if !x.getLsbD 0 then s
      else
        let s := setCtr (reqSlot r) (reqCounter r) s
        if x.getLsbD 1 then lastWrite r s else s

/-- What a cold or warm reset leaves of the operations that it interrupts in MRAM and flash (R438). -/
def interrupted (s : State) : State := copyTorn (requestTorn (stageTorn (ledgerTorn s)))

end Sys2Proof.Machine
end

