-- ==== Sys2Proof/Machine/Start.lean ====
section
/-!
DEFINITION. Machine/Start.lean: cold and warm resets, the stages of start-up, the choice of the package that is booted,
and a start-up that fails (spec/16_boot_update_reset.md, R418, R419, R422 to R431, R434, R435, R438; R455, R456,
R467, R475, R477).
-/
namespace Sys2Proof.Machine

/-! ### What a reset leaves (R418) -/

/-- Register words that no reset changes: Bonnet's counters, the fused versions, and PRESENT of PWR_VCCIO, which
follows the supplies (log 44). -/
def keptReg (o : Nat) : Bool :=
  (Reg.BNT_CTR ≤ o && o < Reg.BNT_CTR + 32) || o == Reg.BNT_FUSE_SV || o == Reg.PWR_VCCIO

/-- Everything on the core die is reset: what stays is the MRAM keep, the fuses, the flash, the levels on the pins and
the straps as sampled. The HBM key is lost (R25). -/
def wipeDie (s : State) : State :=
  let t : State := {
    pending := s.pending, freeCtr := s.freeCtr, out := s.out, ident := s.ident
    regs := s.regs.filter (fun p => keptReg p.1)
    host := { perst := s.host.perst }
    load := { invalidFlag := s.load.invalidFlag || applyWritesImage s }
    mem := { hbmKey := s.mem.hbmKey + 1 }
    bnt := { keys := s.bnt.keys.filter (fun p => p.1 < 3) }
    glv := { pinIn := s.glv.pinIn, pulls := s.boot.mram.pulls }
    boot := { mram := s.boot.mram, flash := s.boot.flash, smbAddr := s.boot.smbAddr }
    ldg := { recs := s.ldg.recs } }
  t.setReg Reg.PWR_VCCIO (t.reg Reg.PWR_VCCIO &&& 0xFF)

/-- A cold or warm reset of the core die, which may interrupt an operation. -/
def resetDie (s : State) : State := wipeDie (interrupted s)

/-- The stage of start-up. -/
def setStage (st : BootStage) (s : State) : State := { s with boot := { s.boot with stage := st } }

/-- LAST_RESET of GBL_BOOT. -/
def lastReset (c : Nat) (s : State) : State := s.setFld Reg.GBL_BOOT 22 2 c

/-- A low pulse of `ns` nanoseconds on a reset pin (R475): below 2 us it has no effect, from 10 us on it always resets, and
between the two it does either (a free value). -/
def pulsed (ns : Nat) (f : State → State) (s : State) : State :=
  if ns < 2000 then s
  else if 10000 ≤ ns then f s
  else if (Config.free64 s.freeCtr).getLsbD 0 then f s.tick1 else s.tick1

/-- POR_N resets a powered module (R418). -/
def porPin (s : State) : State :=
  if s.boot.stage = .off ∨ s.boot.stage = .porHeld then s else lastReset 1 (setStage .porHeld (resetDie s))

/-- COLD_RESET (R418): power-on, or POR_N is low; start-up begins when POR_N is released. -/
def coldReset (cause : ColdCause) (s : State) : State :=
  match cause with
  | .powerOn => lastReset 0 ((setStage .porHeld (resetDie s)).setReg Reg.PWR_VCCIO 0)
  | .porLow ns => pulsed ns porPin s

def execColdReset (cause : ColdCause) (s : State) : Host.Outcome State Fault Refusal := done (coldReset cause s)

/-- POR_N_RELEASE (R422, R477): the straps are sampled, and FUSE begins. -/
def porRelease (modid : BitVec 6) (addr : BitVec 2) (s : State) : State :=
  if s.boot.stage ≠ .porHeld then s
  else { s with ident := { s.ident with modid := modid }, boot := { s.boot with stage := .fuse, smbAddr := addr } }

def execPorNRelease (modid : BitVec 6) (smbAddr : BitVec 2) (s : State) : Host.Outcome State Fault Refusal :=
  done (porRelease modid smbAddr s)

/-- POWER_REMOVED (R439). -/
def powerRemoved (s : State) : State :=
  let t := setStage .off (resetDie s)
  t.setReg Reg.PWR_VCCIO 0

def execPowerRemoved (s : State) : Host.Outcome State Fault Refusal := done (powerRemoved s)

/-- A warm reset (R418): start-up begins at RESIDENT. BNT_AUTHFAIL counts since the cold reset (log 44). -/
def warmReset (s : State) : State :=
  let t := (resetDie s).setReg Reg.BNT_AUTHFAIL (s.reg Reg.BNT_AUTHFAIL)
  lastReset 2 (setStage .resident t)

/-- RESET_N resets the module: before the ANALOG stage has ended this is a cold reset (R475). -/
def resetPin (s : State) : State :=
  match s.boot.stage with
  | .off | .porHeld | .halted => s
  | .fuse | .analog => lastReset (s.fld Reg.GBL_BOOT 22 2) (setStage .fuse (resetDie s))
  | _ => warmReset s

/-- RESET_N_ASSERT (R475). -/
def resetPulse (ns : Nat) (s : State) : State := pulsed ns resetPin s

def execResetNAssert (ns : Nat) (s : State) : Host.Outcome State Fault Refusal := done (resetPulse ns s)

/-- No ledger record is in the writing. -/
def recordDone (s : State) : State := { s with ldg := { s.ldg with wrote := none } }

/-- GBL_WARM_RESET (R419, R452): the ledger record is written first. -/
def execGblWarmReset (path : Path) (val : Word32) (ledgerFail : Bool) (s : State) : Host.Outcome State Fault Refusal :=
  run (fun s => if val.getLsbD 0 then
    regAccess path Reg.GBL_RESET val (fun _ s => warmReset (recordDone (writeLedger 3 ledgerFail s))) s else s) s

/-- Start-up fails, or the root clock is lost: HALTED (R424). GBL_BOOT stays readable. -/
def halt (s : State) : State := (setStage .halted (resetDie s)).setReg Reg.GBL_BOOT (s.reg Reg.GBL_BOOT)

/-- ROOT_PLL_LOCK_LOSS (R457). -/
def execRootPllLockLoss (s : State) : Host.Outcome State Fault Refusal :=
  run (fun s => halt (raise 0x547 s)) s

/-! ### FUSE, ANALOG and RESIDENT -/

/-- A stage of start-up ends: `f` when it is the stage in progress. -/
def atStage (st : BootStage) (f : State → State) (s : State) : State := if s.boot.stage = st then f s else s

def execBootFuseDone (ok : Bool) (s : State) : Host.Outcome State Fault Refusal :=
  done (atStage .fuse (fun s => if ok then setStage .analog s else halt s) s)

/-- BOOT_ANALOG_DONE (R455): a test that fails is recorded in MRAM. -/
def analogDone (fail : Option (Byte × BitVec 16)) (s : State) : State :=
  match fail with
  | none => setStage .resident s
  | some f =>
    let s := s.setFld Reg.GBL_BOOT 24 8 15
    halt { s with boot := { s.boot with mram := { s.boot.mram with failure := some f } } }

def execBootAnalogDone (fail : Option (Byte × BitVec 16)) (s : State) : Host.Outcome State Fault Refusal :=
  done (atStage .analog (analogDone fail) s)

/-- BOOT_RESIDENT_DONE (R303): the resident load, when the keep holds a bitstream. -/
def residentDone (s : State) : State :=
  let s := { s with glv := { s.glv with pulls := s.boot.mram.pulls } }
  let s := if s.boot.mram.resident.isEmpty then s
    else
      let t := loadWhole .resident s.boot.mram.resident s
      if t.fld Reg.GLV_LOAD_STATUS 8 8 = 0 then { t with glv := { t.glv with residentOk := true } }
      else raise 0x364 (glvCause 4 0 0 t)
  setStage .journal { s with glv := { s.glv with residentDone := true } }

def execBootResidentDone (s : State) : Host.Outcome State Fault Refusal := done (atStage .resident residentDone s)

/-! ### JOURNAL -/

/-- A record with its MAGIC and a correct CRC (R452). -/
def recordOk (b : List Byte) : Bool := leAt b 0 4 == 0x5247444C && leAt b 0x7FC 4 == (crc32c (b.take 0x7FC)).toNat

/-- SEQ of a record. -/
def recordSeq (b : List Byte) : Nat := leAt b 8 8

/-- Of two records, the one with the higher SEQ. -/
def laterRecord (x : Option (List Byte)) (b : List Byte) : Option (List Byte) :=
  match x with
  | none => some b
  | some a => if recordSeq a < recordSeq b then some b else some a

/-- The record with the highest SEQ and a correct CRC becomes the ledger's base (R452). -/
def ledgerBase (s : State) : State :=
  match ((s.ldg.recs.map (fun p => p.2)).filter recordOk).foldl laterRecord none with
  | none => s
  | some b => { s with ldg := { s.ldg with
      base := msetAll [] 0 ((List.range 448).map (fun i => (i, leAt b (0x40 + 4 * i) 4)))
      sat := msetAll [] false ((List.range 448).map (fun i => (i, (b.getD (0x740 + i / 8) 0).getLsbD (i % 8))))
      seq := BitVec.ofNat 64 (recordSeq b), lastBoot := leAt b 0x10 1 } }

/-- A reset adds to its ledger counter: 4 power-on, 5 POR_N, 6 warm (R451). -/
def countReset (s : State) : State :=
  let c := s.fld Reg.GBL_BOOT 22 2
  if c < 3 then ledAdd (4 + c) 1 s else s

/-- The first readings of the temperature sensors and of the core voltage, which nothing states: free values
(log 45). -/
def firstReadings (s : State) : State :=
  let x := (Config.free64 s.freeCtr).toNat
  let s := s.tick1
  let s := s.setReg Reg.PWR_TEMP (BitVec.ofNat 32 (x % 256 + 256 * (x % 256) + 65536 * (x / 256 % 24)))
  s.setReg Reg.PWR_VCORE (BitVec.ofNat 32 (x / 65536 % 4096))

/-- The spare banks that substitution records put in use (R467). -/
def journalSpares (s : State) : List (Nat × Nat) :=
  (repairRecs s).filterMap (fun r =>
    if r.kind = 2 then some (4 * (r.unit.toNat / 128) + r.index.toNat, r.unit.toNat) else none)

/-- The fused versions become those of a package (R434). -/
def blowFuses (h : List Byte) (s : State) : State :=
  (s.setFld Reg.BNT_FUSE_SV 0 8 (max (fuseFw s) (hdrFwSv h))).setFld Reg.BNT_FUSE_SV 8 8 (max (fusePkg s) (hdrPkgSv h))

/-- The RESIDENT item of a package, if it has one, enters the MRAM keep (R434). -/
def keepResident (src : Option FlashSlot) (h : List Byte) (s : State) : State :=
  match itemOf h 5 with
  | some e => { s with boot := { s.boot with mram := s.boot.mram.setResident (itemBytes s src e) } }
  | none => s

/-- What CONFIRM does after its record write (R434): fuses, the resident write, and FUSE_PENDING clears. -/
def finishConfirm (s : State) : State :=
  match s.boot.mram.active with
  | none => s
  | some k =>
    let h := pkgBytes s (some k) 0 1280
    let s := keepResident (some k) h (blowFuses h s)
    { s with boot := { s.boot with mram := { s.boot.mram with fusePending := false } } }

/-- BOOT_JOURNAL_DONE (R434, R438, R452, R467). -/
def journalDone (s : State) : State :=
  let s := firstReadings (countReset (ledgerBase s))
  let s := (s.setBit Reg.GBL_BOOT 7 s.load.invalidFlag).setBit Reg.GBL_BOOT 8 (s.boot.mram.stageTorn || s.boot.mram.fusePending)
  let s := if s.boot.mram.fusePending then finishConfirm s else s
  { s with
    load := { s.load with invalidFlag := false }
    mem := { s.mem with spares := journalSpares s }
    boot := { s.boot with stage := .copy, mram := { s.boot.mram with stageTorn := false } } }

def execBootJournalDone (ok : Bool) (s : State) : Host.Outcome State Fault Refusal :=
  done (atStage .journal (fun s => if ok then journalDone s else halt s) s)

/-! ### COPY and the order of the slots (R430, R434) -/

/-- The slots to try, in order. -/
def bootOrder (m : MramSt) : List FlashSlot :=
  ((match m.trial with | .slot k => [k] | .none | .staging => []) ++ m.active.toList ++ [FlashSlot.a, FlashSlot.b]).eraseDups

/-- TRIAL of the boot record. -/
def setTrial (t : Trial) (s : State) : State :=
  { s with boot := { s.boot with mram := { s.boot.mram with trial := t } } }

/-- HEADER begins with the first slot; a start that attempts the trial slot clears TRIAL before it reads that slot. -/
def beginSlots (s : State) : State :=
  let order := bootOrder s.boot.mram
  let trial := match s.boot.mram.trial with | .slot _ => true | .none | .staging => false
  setTrial .none { s with boot := { s.boot with stage := .header, tries := order, wanted := order.head?, onTrial := trial } }

/-- No part of a staged package is verified in flash. -/
def copyNone (s : State) : State := { s with boot := { s.boot with mram := { s.boot.mram with copied := 0 } } }

/-- The staged package is copied into a flash slot, from the last unit verified there (R438). -/
def copyStaged (k : FlashSlot) (s : State) : State := copyNone (copyUpTo k (copyLen s) s)

/-- BOOT_COPY_DONE (R422, R433). A copy that fails abandons the trial; the slot that would have been booted is still that of
the trial (R430, log 153). -/
def copyDone (ok : Bool) (s : State) : State :=
  match s.boot.mram.trial with
  | .staging =>
    if ok then
      let k := inactiveSlot s
      beginSlots (setTrial (.slot k) ((copyStaged k s).setBit Reg.GBL_BOOT 9 true))
    else
      let t := beginSlots (setTrial .none (copyNone s))
      { t with boot := { t.boot with wanted := some (inactiveSlot s) } }
  | .none | .slot _ => beginSlots s

def execBootCopyDone (ok : Bool) (s : State) : Host.Outcome State Fault Refusal := done (atStage .copy (copyDone ok) s)

/-! ### HEADER and ITEMS (R427, R428, R430, R431) -/

/-- No slot passes: recovery (R431). -/
def bootRecovery (s : State) : State :=
  let s := ledAdd 12 1 (raise 0x00C (s.setBit Reg.GBL_BOOT 6 true))
  { s with boot := { s.boot with stage := .controllers, booted := none, header := [] }, ldg := { s.ldg with lastBoot := 2 } }

/-- A slot fails a check: the next one is tried. -/
def failSlot (st : Nat) (s : State) : State :=
  let s := if s.fld Reg.GBL_BOOT 24 8 = 0 then s.setFld Reg.GBL_BOOT 24 8 st else s
  let rest := s.boot.tries.tail
  let s := { s with boot := { s.boot with tries := rest, onTrial := false, stage := .header } }
  if rest.isEmpty then bootRecovery s else s

/-- A slot passes every check: it is booted. -/
def takeSlot (k : FlashSlot) (s : State) : State :=
  let b := k == .b
  let s := s.setBit Reg.GBL_BOOT 4 b
  let s := if s.boot.wanted = some k then s else ledAdd 13 1 (raise 0x00B (s.setBit Reg.GBL_BOOT 5 true))
  let s := ledAdd (10 + b2n b) 1 s
  { s with boot := { s.boot with stage := .controllers, booted := some k }, ldg := { s.ldg with lastBoot := b2n b } }

/-- BOOT_HEADER_DONE (R427). -/
def bootHeader (s : State) : State :=
  match s.boot.tries with
  | [] => bootRecovery s
  | k :: _ =>
    let h := pkgBytes s (some k) 0 1280
    let st := headerStatus s h
    if st ≠ 0 then failSlot st s else { s with boot := { s.boot with stage := .items, header := h } }

def execBootHeaderDone (s : State) : Host.Outcome State Fault Refusal := done (atStage .header bootHeader s)

/-- BOOT_ITEMS_DONE (R428). -/
def bootItems (s : State) : State :=
  match s.boot.tries with
  | [] => bootRecovery s
  | k :: _ =>
    let st := itemsStatus s (some k) s.boot.header
    if st ≠ 0 then failSlot st s else takeSlot k s

def execBootItemsDone (s : State) : Host.Outcome State Fault Refusal := done (atStage .items bootItems s)

/-! ### CONTROLLERS, CLAIM and UP (R423, R429, R431, R435) -/

/-- The copy that firmware of format `f` writes where it has none: converted from the confirmed firmware's, or fresh where
there is none. -/
def settingsCopy (f : Byte) (confirmed : Bool) (l : List Settings) : Settings :=
  { fmt := f, confirmed := confirmed
    data := match l.find? (fun c => c.confirmed) with
      | some c => Config.convertedSettings c.fmt f c.data
      | none => Config.freshSettings f }

/-- The settings copies after firmware starts (R435). `trial`: it is on trial; `confirmed`: it is the confirmed firmware; one that
is neither, and was booted in a fallback, has confirmed nothing. -/
def settingsStart (trial confirmed : Bool) (s : State) : State :=
  let f := s.plat.settingsFmt
  let l := s.boot.mram.settings
  let l := if trial then l else l.filter (fun c => c.fmt == f || c.confirmed)
  let l := if l.any (fun c => c.fmt == f) then l else l ++ [settingsCopy f confirmed l]
  { s with boot := { s.boot with mram := { s.boot.mram with settings := l } } }

/-- What the booted package supplies is loaded: the platform configuration, the wrapped keys and the Glove bitstreams,
in table order. -/
def loadPackage (k : FlashSlot) (s : State) : State :=
  let h := s.boot.header
  let b := ((itemOf h 2).map (itemBytes s (some k))).getD []
  let keys := ((itemOf h 4).map (itemBytes s (some k))).getD []
  let glove := ((itemsOf h).filter (fun e => e.type == 3)).map (itemBytes s (some k))
  let s := { s with plat := platOf s (some k) h b, boot := { s.boot with runHeader := h, fwTrial := s.boot.onTrial } }
  let s := loadKeys keys (platRegs b s)
  settingsStart s.boot.onTrial (decide (s.boot.mram.active = some k)) (forEach glove (loadWhole .package) s)

/-- The CLAIM stage begins: lane ports enter DETECT, and the claim window opens (R393, R422). -/
def claimStage (s : State) : State :=
  let s := setStage .claim s
  allPorts .detect (clearClaims (openWindow s))

/-- BOOT_CONTROLLERS_DONE (R423). -/
def controllersDone (s : State) : State :=
  let s := match s.boot.booted with
    | some k => loadPackage k s
    | none => settingsStart false false (rolesReset { s with plat := platRecovery s })
  claimStage (timeMasterFix (waveFresh 0 s))

def execBootControllersDone (ok : Bool) (s : State) : Host.Outcome State Fault Refusal :=
  done (atStage .controllers (fun s => if ok then controllersDone s else halt s) s)

/-- BOOT_UP (R422, R456). -/
def bootUp (s : State) : State :=
  let s := match s.boot.mram.failure with
    | some f => s.setReg Reg.PWR_ST_LASTFAIL (BitVec.ofNat 32 (2 ^ 31 + 256 * f.2.toNat + f.1.toNat))
    | none => s
  raise 0x00A (setStage .up s)

def execBootUp (s : State) : Host.Outcome State Fault Refusal := done (atStage .claim bootUp s)

end Sys2Proof.Machine
end

