-- ==== Sys2Proof/Machine/Cloche.lean ====
section
/-!
DEFINITION. Machine/Cloche.lean: mailboxes and their requests, the operations of the Cloche mailbox, and the live handover
(spec/16_boot_update_reset.md, R432, R435 to R437; R405, R406).
-/
namespace Sys2Proof.Machine

/-! ### Mailboxes (R405) -/

/-- A mailbox with a submitted request. -/
def boxBusy (req : List Byte) (b : Mbox) : Mbox := { b with area := req, busy := true, done := false }

/-- A mailbox whose request has ended. -/
def boxDone (code : Nat) (resp : List Byte) (b : Mbox) : Mbox :=
  { b with busy := false, done := true, code := BitVec.ofNat 8 code, resp := resp }

/-- A request of the path is taken: the oldest of all, unless none is taken (`idle`). -/
def pathTaken (path : Path) (idle : Bool) (reqs : List Request) : Bool :=
  !idle && (reqs.head?.map (fun r => r.path == path)).getD false

/-- What a write to a path's request area leaves of the requests that wait: its own then reads so. -/
def areaWritten (path : Path) (req : List Byte) (reqs : List Request) : List Request :=
  reqs.map (fun r => if r.path = path then { r with bytes := req } else r)

/-! ### The Cloche mailbox -/

/-- The Cloche mailbox of a path. -/
def State.clocheBox (s : State) (path : Path) : Mbox :=
  match path with
  | .pf0 => s.boot.box0
  | .smb => s.boot.boxS
  | .pf1 | .bonnet => {}

/-- Replaces it. -/
def State.setClocheBox (s : State) (path : Path) (b : Mbox) : State :=
  match path with
  | .pf0 => { s with boot := { s.boot with box0 := b } }
  | .smb => { s with boot := { s.boot with boxS := b } }
  | .pf1 | .bonnet => s

/-- The path has mailboxes (R405). -/
def hasBox (path : Path) : Bool := path == .pf0 || path == .smb

/-- The oldest request ends with a status and a response. -/
def clocheEnd (code : Nat) (resp : List Byte) (s : State) : State :=
  match s.boot.reqs with
  | [] => s
  | r :: t =>
    let u := s.setClocheBox r.path (boxDone code resp (s.clocheBox r.path))
    { u with boot := { u.boot with reqs := t } }

/-- The operations of the Cloche mailbox. -/
def clocheOps : List Nat := [0x101, 0x102, 0x103, 0x104]

/-- Requests at the front with an unknown OP end: with NOT_OWNER or, from the owner's path, with RESOURCE. -/
def clocheUnknown (fuel : Nat) (s : State) : State :=
  match fuel with
  | 0 => s
  | n + 1 => match s.boot.reqs with
    | [] => s
    | r :: _ =>
      if clocheOps.contains (reqOp r) then s
      else clocheUnknown n (clocheEnd (if s.ownsPath r.path then 12 else 3) [] s)

/-- CLOCHE_MAILBOX_SUBMIT (R432, R405): a request is written to the request area and submitted. While one of the path is taken
both are dropped; while one waits, only the submit is. -/
def clocheSubmit (path : Path) (req : List Byte) (s : State) : State :=
  if !hasBox path ∨ pathTaken path false s.boot.reqs then s
  else if (s.clocheBox path).busy then
    let t := s.setClocheBox path { s.clocheBox path with area := req }
    { t with boot := { t.boot with reqs := areaWritten path req t.boot.reqs } }
  else
    let t := s.setClocheBox path (boxBusy req (s.clocheBox path))
    clocheUnknown 2 { t with boot := { t.boot with reqs := t.boot.reqs ++ [{ path := path, bytes := req }] } }

def execClocheMailboxSubmit (path : Path) (req : List Byte) (s : State) : Host.Outcome State Fault Refusal :=
  run (clocheSubmit path req) s

/-- The answer of an operation to a request with a bad form: the lowest of RESOURCE and what the operation itself finds (R16). -/
def badForm (e : Nat × List Byte × State) (s : State) : Nat × List Byte × State :=
  (if e.1 = 0 then 12 else min 12 e.1, [], s)

/-- Ends the oldest request when it has this OP: `f` gives its status, its response and its effect; a request from
another path than the owner's ends with NOT_OWNER, which is below every other status of these operations. -/
def clocheOp (op lo hi : Nat) (f : List Byte → State → Nat × List Byte × State) (s : State) : State :=
  match s.boot.reqs with
  | [] => s
  | r :: _ =>
    if reqOp r ≠ op then s
    else
      let res := if !s.ownsPath r.path then (3, [], s)
        else if !clocheForm r lo hi then badForm (f (payload r) s) s
        else f (payload r) s
      clocheUnknown 2 (clocheEnd res.1 res.2.1 res.2.2)

/-- NEXT: the first byte not covered by a completed journal unit. -/
def stageNext (l : List Nat) (fuel u : Nat) : Nat :=
  match fuel with
  | 0 => 4096 * u
  | n + 1 => if l.contains u then stageNext l n (u + 1) else 4096 * u

def execStageWrite (s : State) : Host.Outcome State Fault Refusal := run (clocheOp 0x101 5 1540 stageWrite) s

/-- STAGE_STATUS. -/
def execStageStatus (s : State) : Host.Outcome State Fault Refusal :=
  run (clocheOp 0x102 0 0 (fun _ s => (0, leBytes 4 (stageNext s.boot.mram.stageDone 2048 0), s))) s

/-- A flash slot by its code. -/
def slotOf (n : Nat) : Option FlashSlot := if n = 0 then some .a else if n = 1 then some .b else none

/-- The slot holds firmware on trial, or a trial of it is pending. -/
def slotOnTrial (s : State) (k : FlashSlot) : Bool :=
  s.boot.mram.trial == .slot k || ((s.boot.fwTrial || s.boot.handover) && inactiveSlot s == k)

/-- FLASH_WRITE. -/
def flashWrite (p : List Byte) (s : State) : Nat × List Byte × State :=
  let off := leAt p 4 4
  let data := p.drop 8
  match slotOf (leAt p 0 1) with
  | none => (12, [], s)
  | some k =>
    answer (lowestStatus [(!allZero p 1 3 || 2 ^ 24 < off + data.length, 12),
      (!p.isEmpty && (s.boot.mram.active == some k || slotOnTrial s k), 4)]) []
      { s with boot := { s.boot with flash := storeBytes 0xFF s.boot.flash (slotBase k + off) data } } s

def execFlashWrite (s : State) : Host.Outcome State Fault Refusal := run (clocheOp 0x103 9 1544 flashWrite) s

/-- FLASH_READ. -/
def flashRead (p : List Byte) (s : State) : Nat × List Byte × State :=
  let off := leAt p 4 4
  let n := leAt p 8 4
  match slotOf (leAt p 0 1) with
  | none => (12, [], s)
  | some k =>
    if !allZero p 1 3 ∨ 2048 < n ∨ 2 ^ 24 < off + n then (12, [], s) else (0, pkgBytes s (some k) off n, s)

def execFlashRead (s : State) : Host.Outcome State Fault Refusal := run (clocheOp 0x104 12 12 flashRead) s

/-! ### Live handover (R436, R437) -/

/-- The handover fails: the standby core is stopped (R437). -/
def handoverFail (s : State) : State :=
  if s.boot.handover then raise 0x00F { s with boot := { s.boot with handover := false, liveHeader := [] } } else s

/-- The second check: the digest and the signature of CLOCHE_FW, read again from the inactive slot. -/
def standbyCheck (s : State) : Bool :=
  match itemOf s.boot.liveHeader 1 with
  | none => false
  | some e =>
    let fw := itemBytes s (some (inactiveSlot s)) e
    sha384 fw == e.digest && fwSigned s.ident fw

/-- HANDOVER_STANDBY_READY: the standby core has checked its firmware, is ready, and takes over; one whose check fails is
stopped. -/
def takeOver (s : State) : State :=
  if !s.boot.handover then s
  else if !standbyCheck s then handoverFail s
  else
    let h := s.boot.liveHeader
    let src := some (inactiveSlot s)
    let s := { s with
      plat := { s.plat with fwClass := hdrFwClass h, fwVer := BitVec.ofNat 32 (leAt h 0xC 4), settingsFmt := h.getD 0xB 0,
                            fwDigest := (((itemOf h 1).map (itemBytes s src)).map sha384).getD 0 }
      boot := { s.boot with handover := false, activeB := !s.boot.activeB, fwTrial := true, runHeader := h, liveHeader := [] } }
    raise 0x00E (settingsStart true false s)

def execHandoverStandbyReady (s : State) : Host.Outcome State Fault Refusal := run takeOver s

def execHandoverTimeout (s : State) : Host.Outcome State Fault Refusal := run handoverFail s
def execStandbyCheckFail (s : State) : Host.Outcome State Fault Refusal := run handoverFail s

end Sys2Proof.Machine
end

