-- ==== Sys2Proof/Machine/DspCommands.lean ====
section
/-!
DEFINITION. Machine/DspCommands.lean: the host side of the dispatcher: its tick, delivery into the rings of the servicing
cores, the cores' commands, and its configuration registers (spec/13_dispatcher.md, R358, R364 to R369, R373;
spec/15_bonnet_security.md, R412).
-/
namespace Sys2Proof.Machine

/-! ### The 1 µs tick (R358) -/

/-- DSP_TICK: delays go down, and messages whose delay has run out are released; no tick in Nap. -/
def dspTick (s : State) : State :=
  if s.pwr.mode = .nap then s
  else
    let s := { s with dsp := { s.dsp with msgs := s.dsp.msgs.map (fun m => match m.st with
      | .delayTick k => { m with st := .delayTick (k - 1) }
      | _ => m) } }
    forEach (sortBy dueOrder (s.dsp.msgs.filter (fun m => m.st == .delayTick 0))) (fun m s => releaseMsg m.id s) s

def execDspTick (s : State) : Host.Outcome State Fault Refusal := run dspTick s

/-! ### Rings and delivery (R360 to R365) -/

/-- Index registers of core `k`. -/
def coreWr (s : State) (k : Nat) : Nat := (s.reg (Reg.DSP_CORE_WR + 32 * k)).toNat
def coreRd (s : State) (k : Nat) : Nat := (s.reg (Reg.DSP_CORE_RD + 32 * k)).toNat

/-- The ring of the core has room. -/
def ringRoom (s : State) (k : Nat) : Bool :=
  coreEntries s k ≠ 0 && (coreWr s k + 1) % coreEntries s k ≠ coreRd s k

/-- A call withdrawn after delivery whose WITHDRAW record core `k` has still to receive. -/
def withdrawHead (s : State) (k : Nat) : Option Msg :=
  s.dsp.msgs.find? (fun m => m.st == .withdrawPending && m.core == k)

/-- The head of a channel's queue: the released message that was released first. -/
def chHead (s : State) (ch : Nat) : Option Msg :=
  (sortBy (fun (a b : Msg) => decide (a.relSeq ≤ b.relSeq))
    (s.dsp.msgs.filter (fun m => m.st == .released && !m.barrier && m.ch == ch))).head?

/-- The message is eligible at the head of its queue (R360, R362). -/
def eligible (s : State) (m : Msg) : Bool :=
  m.deps.isEmpty && !s.dsp.msgs.any (fun b => b.barrier && b.st == .released && b.relSeq < m.relSeq &&
    chGroup s b.ch == chGroup s m.ch)

/-- The order of delivery to a core (R364). -/
def deliverFirst (a b : Msg) : Bool :=
  if a.prio ≠ b.prio then b.prio < a.prio
  else if a.relClk ≠ b.relClk then a.relClk < b.relClk
  else a.ch ≤ b.ch

/-- The message that core `k` receives next. -/
def nextFor (s : State) (k : Nat) : Option Msg :=
  (sortBy deliverFirst ((List.range 256).filterMap (fun ch =>
    if chCore s ch = k then (chHead s ch).filter (eligible s) else none))).head?

/-- The grants that cover core `k`. -/
def dspGrants (s : State) (k : Nat) : List (Nat × Grant) := (grantsOf s 1).filter (fun g => g.2.cores.getLsbD k)

/-- The 64 bytes of a record before the transform (R365); the record of a call carries PROVISIONAL (R359). -/
def recordHead (m : Msg) (withdrawn : Bool) : List Byte :=
  leBytes 8 m.cyc.toNat ++ leBytes 1 m.ch ++
    leBytes 1 (b2n m.call + 2 * b2n m.call + 4 * b2n m.trunc + 8 * b2n withdrawn) ++ leBytes 2 m.gen.toNat ++
    leBytes 1 (if withdrawn then 0 else m.words.length) ++ leBytes 1 m.prio ++ leBytes 2 m.slot

def recordData (m : Msg) (withdrawn : Bool) : List Byte :=
  (List.range 6).flatMap (fun i => leBytes 8 (if withdrawn then 0 else (m.words.getD i 0).toNat))

/-- The data under the lowest covering grant; zero without one. -/
def recordMasked (s : State) (k : Nat) (bs : List Byte) : List Byte :=
  match (dspGrants s k).head? with
  | none => List.replicate 48 0
  | some (_, g) =>
    if g.masked then
      ctrBytes (grantKey s labelDsp g)
        (fun u => BitVec.ofNat 128 (2 ^ 64 * mget g.q 0 k + 2 ^ 32 * k + u)) 0 bs
    else bs

/-- A record counts under every grant that covers the core; a masked grant whose count would pass 0xFFFF_FFFF
ends. -/
def countRecords (k : Nat) (s : State) : State :=
  forEach (dspGrants s k) (fun g s =>
    let q := mget g.2.q 0 k
    if g.2.masked && q == 0xFFFFFFFF then grantChanged (setGrant g.1 none s)
    else setGrant g.1 (some { g.2 with q := mset g.2.q 0 k (q + 1) }) s) s

/-- A record is written into the ring of core `k`. -/
def writeRecord (k : Nat) (m : Msg) (withdrawn : Bool) (s : State) : State :=
  let bytes := recordHead m withdrawn ++ recordMasked s k (recordData m withdrawn)
  let base := (s.reg64 (Reg.DSP_CORE_BASE_LO + 32 * k)).toNat / 4096 * 4096
  let s := if (dspGrants s k).isEmpty then raise 0x045 (causeSet Reg.BNT_CAUSE 2 [] s) else s
  let s := (countRecords k s).emit (.dspRecord k (base + 64 * coreWr s k) bytes)
  dspCount (Reg.DSP_CORE_LOAD + 32 * k)
    (s.setReg (Reg.DSP_CORE_WR + 32 * k) (BitVec.ofNat 32 ((coreWr s k + 1) % coreEntries s k)))

/-- MESSAGE_DELIVERY: a WITHDRAW record, or the message that comes first. In Nap neither the dispatcher nor the Hatband runs (R439). -/
def messageDelivery (k : Nat) (s : State) : State :=
  if !ringRoom s k ∨ s.pwr.mode = .nap then s
  else match withdrawHead s k with
    | some m => updMsg m.id (fun m => { m with st := .withdrawn }) (writeRecord k m true s)
    | none => match nextFor s k with
      | none => s
      | some m =>
        let s := writeRecord k m false s
        let s := updMsg m.id (fun m => { m with st := .delivered, core := k, delivClk := s.clock }) s
        let s := dspCount (Reg.DSP_CH_HIST_ch + 64 * m.ch + 4 * histBin (s.clock - m.relClk)) s
        let s := dspCount (Reg.DSP_CH_LOAD_ch + 16 * m.ch) s
        if chNotify s m.ch then dspCause m.ch 0 s else s

def execMessageDelivery (k : BitVec 4) (s : State) : Host.Outcome State Fault Refusal := run (messageDelivery k.toNat) s

/-! ### Commands of the cores (R366 to R369) -/

/-- The message that TAG of a command of core `k` names: a withdrawn call, or a message delivered to the core, of the command's
channel (R366). -/
def tagged (s : State) (k tag ch : Nat) : Option Msg :=
  s.dsp.msgs.find? (fun m => !m.lost && m.slot == tag && !m.completed &&
    (m.isWithdrawn || (m.st == .delivered && m.ch == ch && m.core == k)))

/-- The time from delivery to completion is counted for the core that received the message (R372). -/
def countDone (m : Msg) (s : State) : State :=
  dspCount (Reg.DSP_CORE_HIST + 64 * m.core + 4 * histBin (s.clock - m.delivClk)) s

/-- A message or a withdrawn call completes and its slot is freed. -/
def finishMsg (m : Msg) (s : State) : State := completeMsg m.id (dropMsg m.id (countDone m s))

/-- A dropped command. -/
def cmdDrop (ch : Nat) (s : State) : State := dspCause ch 4 s

/-- A RESPOND that answers a call: the response is bound to its cycle, or the slot is freed when that has
committed (R367). It enters RDATA when the running execution holds the call: one that is attached, and that no call of the
execution has matched, is not its own. -/
def answerCall (m : Msg) (v : Word64) (s : State) : State :=
  let s := countDone m s
  let s := if m.attached && !m.matched then s else rdataCome m.cyc m.cluster m.ctx m.step v s
  if m.provisional then completeMsg m.id (updMsg m.id (fun m => { m with resp := some v, completed := true }) s)
  else completeMsg m.id (dropMsg m.id s)

/-- RESPOND. -/
def respond (k tag ch : Nat) (v : Word64) (s : State) : State :=
  match tagged s k tag ch with
  | some m => if m.isWithdrawn then finishMsg m s else if m.call then answerCall m v s else cmdDrop ch s
  | none => cmdDrop ch s

/-- COMPLETE. -/
def complete (k tag ch : Nat) (s : State) : State :=
  match tagged s k tag ch with
  | some m => if m.isWithdrawn || !m.call then finishMsg m s else cmdDrop ch s
  | none => cmdDrop ch s

/-- Posted words that a channel holds. -/
def postedOf (s : State) (ch : Nat) : Nat := (s.dsp.posted.filter (fun p => p.ch == ch)).length

/-- POST: the oldest call that waits on the channel takes the word, or it is posted (R369). -/
def post (ch : Nat) (v : Word64) (s : State) : State :=
  if chKind s ch ≠ 1 ∨ 255 ≤ postedOf s ch then cmdDrop ch s
  else
    let p : Posted := { ch := ch, seq := s.dsp.nextPost, word := v &&& 0x7FFFFFFFFFFFFFFF }
    let s := { s with dsp := { s.dsp with nextPost := s.dsp.nextPost + 1 } }
    match s.dsp.waits.find? (fun w => w.ch == ch) with
    | none => { s with dsp := { s.dsp with posted := s.dsp.posted ++ [p] } }
    | some w =>
      let b : RecvBind := { cyc := w.cyc, ch := ch, step := w.step, cluster := w.cluster, ctx := w.ctx, word := some p }
      let s := { s with dsp := { s.dsp with waits := s.dsp.waits.erase w, binds := s.dsp.binds ++ [b] } }
      rdataCome w.cyc w.cluster w.ctx w.step (recvData (some p)) s

/-- A write of CMD by core `k` (R366). -/
def coreCmd (k : Nat) (cmd : Word32) (data : Word64) (s : State) : State :=
  let s := { s with dsp := { s.dsp with data := mset s.dsp.data 0 k data } }
  let ch := bitsOf cmd 16 8
  let tag := bitsOf cmd 4 12
  if cmd &&& 0xFF00000C ≠ 0 then cmdDrop ch s
  else match bitsOf cmd 0 2 with
    | 0 => respond k tag ch data s
    | 1 => post ch data s
    | 2 => complete k tag ch s
    | _ => cmdDrop ch s

/-- DSP_RESPOND: OP 0. -/
def execDspRespond (k : BitVec 4) (cmd : Word32) (data : Word64) (s : State) : Host.Outcome State Fault Refusal :=
  run (fun s => if bitsOf cmd 0 2 = 0 then coreCmd k.toNat cmd data s else s) s

/-- DSP_POST: OP 1. -/
def execDspPost (k : BitVec 4) (cmd : Word32) (data : Word64) (s : State) : Host.Outcome State Fault Refusal :=
  run (fun s => if bitsOf cmd 0 2 = 1 then coreCmd k.toNat cmd data s else s) s

/-- DSP_COMPLETE: OP 2, or the reserved OP 3, which is always dropped. -/
def execDspComplete (k : BitVec 4) (cmd : Word32) (data : Word64) (s : State) : Host.Outcome State Fault Refusal :=
  run (fun s => if 2 ≤ bitsOf cmd 0 2 then coreCmd k.toNat cmd data s else s) s

/-! ### Configuration -/

/-- A write of DSP_CORE_RD_k: in BAR0 by the owner or PF0, or in the core window by PF0. -/
def execDspCoreRdWrite (window : Bool) (path : Path) (k : BitVec 4) (val : Word32) (s : State) :
    Host.Outcome State Fault Refusal :=
  let o := Reg.DSP_CORE_RD + 32 * k.toNat
  run (fun s => if window then (if path = .pf0 then storeReg o val s else s) else regAccess path o val (storeReg o) s) s

/-- A write of DSP_CORE_ENTRIES_k: 0 or a power of two from 64 to 65,536. -/
def coreEntriesWrite (k : Nat) (val : Word32) (s : State) : State :=
  if val = 0 ∨ (List.range 11).any (fun i => val.toNat == 64 * 2 ^ i) then storeReg (Reg.DSP_CORE_ENTRIES + 32 * k) val s
  else s

def execDspCoreEntriesWrite (path : Path) (k : BitVec 4) (val : Word32) (s : State) : Host.Outcome State Fault Refusal :=
  run (regAccess path (Reg.DSP_CORE_ENTRIES + 32 * k.toNat) val (coreEntriesWrite k.toNat)) s

/-- A write of DSP_CH_CFG_ch (R373). -/
def chCfgWrite (ch : Nat) (val : Word32) (s : State) : State :=
  if 0 < chHolds s ch ∨ 0 < postedOf s ch then dspCause ch 6 s else storeReg (Reg.DSP_CH_CFG_ch + 16 * ch) val s

def execDspChCfgWrite (path : Path) (ch : BitVec 8) (val : Word32) (s : State) : Host.Outcome State Fault Refusal :=
  run (regAccess path (Reg.DSP_CH_CFG_ch + 16 * ch.toNat) val (chCfgWrite ch.toNat)) s

/-! ### Reads -/

/-- DSP_STATUS. -/
def dspStatusWord (s : State) : Word32 :=
  BitVec.ofNat 32 (4096 - (placedMsgs s).length + 2 ^ 13 * b2n s.dsp.exhaust.isSome)

/-- A message that the core has received and not completed. -/
def Msg.atCore (m : Msg) : Bool := !m.completed && (m.st == .delivered || m.isWithdrawn)

/-- DSP_CH_STAT_ch. An answered call stands in its cycle, which has not committed: it counts as HELD. -/
def chStatWord (s : State) (ch : Nat) : Word32 :=
  let l := (placedMsgs s).filter (fun m => m.ch == ch)
  let outst := (l.filter Msg.atCore).length
  let queued := (l.filter (fun m => m.st == .released)).length
  let held := (l.filter (fun m => m.completed || !(m.st == .released || m.st == .delivered || m.isWithdrawn))).length
  BitVec.ofNat 32 (2 ^ 24 * min 255 (postedOf s ch) + 2 ^ 16 * outst + 2 ^ 8 * queued + held)

/-- DSP_CORE_OUTST_k. -/
def coreOutst (s : State) (k : Nat) : Nat := (s.dsp.msgs.filter (fun m => m.atCore && m.core == k)).length

end Sys2Proof.Machine
end

