-- ==== Sys2Proof/Machine/Fabric.lean ====
section
/-!
DEFINITION. Machine/Fabric.lean: fabric resets and block resets (spec/16_boot_update_reset.md, R419 to R421, R438).
-/
namespace Sys2Proof.Machine

/-! ### Fabric reset -/

/-- A write of GBL_RESET: WARM, else FABRIC, which is dropped while a fabric reset runs (R419). `fail` says whether the
ledger write before a warm reset fails. -/
def resetWrite (fail : Bool) (val : Word32) (s : State) : State :=
  if val.getLsbD 0 then warmReset (writeLedger 3 fail s)
  else if val.getLsbD 1 then { s with boot := { s.boot with fabricBusy := true } }
  else s

/-- FABRIC_RESET. -/
def execFabricReset (path : Path) (val : Word32) (s : State) : Host.Outcome State Fault Refusal :=
  run (fun s => if val.getLsbD 1 && !val.getLsbD 0 then regAccess path Reg.GBL_RESET val (resetWrite false) s else s) s

/-- A rewind, a checkpoint copy or a march copy phase runs: a fabric reset waits for its end. -/
def fabricWaits (s : State) : Bool :=
  s.sch.rewindSlot.isSome || s.sch.ckptCopy.isSome || s.mem.marchPhase == .copy

/-- Registers of the blocks that a fabric reset resets: SCH, CLU, HBD, LNK, AST, LKS and DSP. -/
def fabricReg (o : Nat) : Bool :=
  (0x200000 ≤ o && o < 0x500000) || (0x800000 ≤ o && o < 0xA00000) || (0xD00000 ≤ o && o < 0xF00000)

/-- The register words after the reset of those blocks: their reset values, LNK_CTRL.ROLE as the platform configuration
supplies it, and WRAPPED and CLU_VERIFY.EXPECT of the image that stays (R83). -/
def fabricRegs (s : State) : State :=
  let t := (keepRegs (fun o => !fabricReg o) s).setBit Reg.SCH_STATUS 4 (s.bit Reg.SCH_STATUS 4)
  rolesReset (forN s.clusters (fun c t => t.setFld (cluReg c 0x20) 0 13 (s.fld (cluReg c 0x20) 0 13)) t)

/-- A lane port after the reset: DETECT, or DISABLED where it may not enter DETECT; a port that was up counts its drop
in the ledger. It makes no fault stop (R420), and the servo state stays (R269). -/
def fabricPort (p : Nat) (s : State) : State :=
  let l := s.lane p
  let s := if l.st = .active ∨ l.st = .recovery then lanesLedger p s else s
  portTo p .detect (s.setLane p { parked := l.parked })

/-- The uncommitted cycles go, with their pending writes, undelivered messages and attached calls (R420, step 2). -/
def fabricDiscard (s : State) : State :=
  let m := s.sch.committed
  let s := match s.sch.exec with
    | some e => endDiscarded e (s.clock - e.startClk) s
    | none => s
  clearWork (diRelease (fun n => cycLe n m) (dspRewind (fun n => cycLe n m) (discardCycles (fun n => cycLe n m) s)))

/-- The blocks of R418's table are reset (step 3). -/
def fabricBlocks (s : State) : State :=
  let s := fabricRegs (clearCounters (dspClear s))
  let s := { s with
    sch := { st := .idle, committed := s.sch.committed, commitClk := s.sch.commitClk, comCopy := s.sch.comCopy,
             highest := s.sch.committed, hiFinished := s.sch.committed, slots := s.sch.slots, ckptNext := s.sch.ckptNext,
             ckptSeq := s.sch.ckptSeq, execNo := s.sch.execNo }
    wave := { module := s.wave.module, conductor := s.wave.conductor, members := s.wave.members, parent := s.wave.parent,
              children := s.wave.children, c := s.sch.committed, fixed := s.wave.fixed }
    mem := { s.mem with queue := [], notes := [], overflow := none, allFour := none, reads := [], bWindows := [], pcBusy := [], pcBurst := [], aReads := [], pcReqs := [] }
    hbd := { mapsValid := s.hbd.mapsValid, linkFrom := s.hbd.linkFrom, agedFrom := s.clock }
    lnk := { ports := s.lnk.ports }
    ast := {}
    lks := { busMasterOff := s.lks.busMasterOff }
    staged := {}
    load := { s.load with busy := false, header := [] }
    pwr := { s.pwr with longHold := true } }
  forN s.lanePorts fabricPort s

/-- The image stays, paused at its last committed cycle. -/
def fabricKept (s : State) : State := wrapCheck (setPause { s with sch := { s.sch with st := .paused } })

/-- The image after a fabric reset (step 4): kept, with the start point of the next cycle reached, or discarded when the
image-invalid flag is set or a frozen apply was being written. -/
def fabricImage (invalid : Bool) (s : State) : State :=
  if invalid then
    raise 0x0A1 { discardImage s with bnt := { s.bnt with kImg := none, kAuth := none, kObs := none } }
  else if s.img.valid then throttlePoint (reopen (fabricKept s))
  else s

/-- Steps 1 to 3 of a fabric reset. -/
def atFabricReset (s : State) : State := fabricBlocks (fabricDiscard (drainQueues s))

/-- The end of a fabric reset is reported; an apply that was pending has failed. -/
def fabricReport (pending : Bool) (s : State) : State :=
  let s := if pending then applyEnd 15 s else s
  raise 0x011 (lastReset 3 { s with boot := { s.boot with fabricBusy := false } })

/-- A fabric reset runs to its end (R420, R438). -/
def fabricDone (s : State) : State :=
  if !s.boot.fabricBusy ∨ fabricWaits s then s
  else fabricReport s.sch.applyT.isSome
    (fabricImage (s.load.invalidFlag || applyWritesImage s) (atFabricReset s))

/-- FABRIC_RESET_DONE. -/
def execFabricResetDone (s : State) : Host.Outcome State Fault Refusal := run fabricDone s

/-! ### Block reset (R421) -/

/-- LKS: EN clears without a flush; the packets in the buffer are lost and counted. -/
def lksBlockReset (s : State) : State :=
  let gone := (s.lks.blocks.map (fun b => b.packets)).sum + s.lks.packets
  let s := lksCnt 2 gone (s.setBit Reg.LKS_CTRL 0 false)
  lksPressure { s with lks := { s.lks with
    armed := false, capturing := false, cycs := [], blocks := [], cur := [], first := none, packets := 0 } }

/-- AST: statistics, counters, timers and the TDC buffer clear; the applied program stays. -/
def astBlockReset (s : State) : State :=
  let s := keepRegs (fun o => !((Reg.AST_STAT ≤ o && o < Reg.AST_STAT + 32) || o == Reg.AST_STAT_SAT)) s
  let s := forN 8 (fun k s => s.setReg (Reg.AST_SEQCNT + 4 * k) 0) s
  let s := forN 4 (fun j s => s.setReg64 (Reg.AST_TMR + 8 * j) 0) s
  { s with ast := { s.ast with tdc := [], sums := [] } }

/-- TIM: as TIM_CTRL.RESTART, and every mean path delay is cleared. -/
def timBlockReset (s : State) : State := forN s.lanePorts clearMpd (timeRestart s)

/-- GLV: every region enters EMPTY. -/
def glvBlockReset (s : State) : State := emptyRegions (List.range 4) .empty s

/-- A block reset: its status, and its effect where it is allowed. `owns` says whether the writer still owns when the request is
checked; NOT_OWNER is below every other status (R16). -/
def blockResetOf (owns : Bool) (code : Nat) (s : State) : Nat × State :=
  if !owns then (3, s)
  else if code = 0x1B then (0, lksBlockReset s)
  else if code = 0x1A then (if s.ast.armed then (9, s) else (0, astBlockReset s))
  else if code = 0x14 then (0, timBlockReset s)
  else if code = 0x1C then (if s.sch.st = .idle then (0, dspClear s) else (9, s))
  else if code = 0x18 then
    (if s.sch.st = .running ∨ s.sch.st = .frozen ∨ s.sch.st = .ckpt then (9, s) else (0, glvBlockReset s))
  else (12, s)

/-- A write of GBL_BLOCK_RESET. -/
def blockResetWrite (owns : Bool) (val : Word32) (s : State) : State :=
  let s := s.setFld Reg.GBL_BLOCK_RESET 0 5 (bitsOf val 0 5)
  if !val.getLsbD 8 then s
  else
    let r := blockResetOf owns (bitsOf val 0 5) s
    raise 0x010 ((r.2.setFld Reg.GBL_BLOCK_RESET 16 8 r.1).setBit Reg.GBL_BLOCK_RESET 24 true)

/-- BLOCK_RESET. -/
def execBlockReset (wr : OpWrite) (val : Word32) (s : State) : Host.Outcome State Fault Refusal :=
  run (fun s => if val.getLsbD 8 then regAccess wr.path Reg.GBL_BLOCK_RESET val (blockResetWrite wr.owns) s else s) s

end Sys2Proof.Machine
end

