-- ==== Sys2Proof/Machine/WaveCommands.lean ====
section
/-!
DEFINITION. Machine/WaveCommands.lean: the commit-wave messages as they arrive on a lane port or inside the cycle controller,
the checks of R128 and R140, and the conductor's timeout (spec/04_speculation.md, R128 to R144, R492).
-/
namespace Sys2Proof.Machine

/-- The port is the wave port on which such a message may come (R130, R140, R246). -/
def rightPort (s : State) (p : BitVec 4) (m : Word64) : Bool :=
  if goesUp m then s.wave.children.contains p else s.wave.parent == some p

/-- A message on a lane port. -/
def waveOnLane (p : BitVec 4) (m : Word64) (s : State) : State :=
  if !s.img.valid || !carriesDesign s p.toNat then s
  else if s.sch.st = .faultStop then (if wmLegal m && rightPort s p m then forward m s else s)
  else if wmLegal m && rightPort s p m then applyWave m (forward m s)
  else protocolError s

/-- A message inside the cycle controller (R131): the clocks run until it arrives. -/
def waveInside (m : Word64) (s : State) : State :=
  if s.wave.selfMsgs.any (fun p => p.2 == m) then (clocksUntil 4 (fun t => !t.wave.selfMsgs.any (fun p => p.2 == m)) s).getD s
  else s

/-- A message of TYPE `t`, or of a reserved TYPE, arrives. A message of another row's TYPE is no arrival of this
row's. -/
def waveReceive (t : Nat) (port : WavePort) (m : Word64) (s : State) : State :=
  if wmType m ≠ t ∧ 1 ≤ wmType m ∧ wmType m ≤ 4 then s
  else match port with
    | .lane p => laneGives p.toNat (.wave [m]) (waveOnLane p m) s
    | .internal => waveInside m s

def execReadyReceive (port : WavePort) (msg : Word64) (s : State) : Host.Outcome State Fault Refusal :=
  run (waveReceive 1 port msg) s
def execCommitReceive (port : WavePort) (msg : Word64) (s : State) : Host.Outcome State Fault Refusal :=
  run (waveReceive 2 port msg) s
def execSquashReqReceive (port : WavePort) (msg : Word64) (s : State) : Host.Outcome State Fault Refusal :=
  run (waveReceive 3 port msg) s
def execSquashRelayReceive (port : WavePort) (msg : Word64) (s : State) : Host.Outcome State Fault Refusal :=
  run (waveReceive 4 port msg) s

/-- WAVE_TIMEOUT (R144): once for a cycle. -/
def waveTimeout (s : State) : State :=
  let n := s.wave.c + 1
  let missing : Bool := (List.range 64).any (fun j =>
    s.wave.members.getLsbD j && !s.wave.readys.contains (n, BitVec.ofNat 6 j))
  if s.img.valid && isConductor s && s.fld Reg.SCH_WAVE_TIMEOUT 0 16 != 0 && missing && s.wave.timedOut != some n then
    raise 0x093 { s with wave := { s.wave with timedOut := some n } }
  else s

def execWaveTimeout (s : State) : Host.Outcome State Fault Refusal := run waveTimeout s

end Sys2Proof.Machine
end

