-- ==== Sys2Proof/Machine/RegRead.lean ====
section
/-!
DEFINITION. Machine/RegRead.lean: what each register of BAR0 reads as. A register whose value other parts of the state give
is computed here; every other one reads the word that stands in `State.regs`.
-/
namespace Sys2Proof.Machine

/-- A register word from a number. -/
def w32 (n : Nat) : Word32 := BitVec.ofNat 32 n

/-! ### GBL and BNT -/

/-- The stage code of GBL_BOOT.STAGE (R422). -/
def stageCode (st : BootStage) : Nat :=
  match st with
  | .fuse | .porHeld | .off => 0
  | .analog => 1
  | .resident => 2
  | .journal => 3
  | .copy => 4
  | .header => 5
  | .items => 6
  | .controllers => 7
  | .claim => 8
  | .up => 9
  | .halted => 0xA

/-- GBL_DEVICE_ID (spec/00_scope.md). -/
def deviceId (s : State) : Word32 := w32 (2 ^ 16 * s.part + 2 ^ 12 * s.ident.stepping.toNat + s.ident.vendorRev.toNat)

/-- GBL_BOOT: STAGE and MODID beside the stored flags. -/
def bootWord (s : State) : Word32 :=
  withBits (withBits (s.reg Reg.GBL_BOOT) 0 4 (stageCode s.boot.stage)) 16 6 s.ident.modid.toNat

/-- GBL_CLOCHE (R21, R436); STANDBY never reads 1, since a ready standby takes over at once (log 47). -/
def clocheWord (s : State) : Word32 :=
  w32 (2 ^ 24 * s.plat.fwClass.toNat + 2 ^ 16 * s.plat.settingsFmt.toNat + 8 * b2n s.boot.handover + 4 * b2n s.boot.fwTrial +
    b2n s.boot.activeB)

/-- GBL_SNAP of a path. -/
def snapWord (x : Snap) : Word32 := w32 (x.block.toNat + 2 ^ 16 * b2n x.held + 2 ^ 17 * b2n x.done)

/-- How many observation grants are valid. -/
def grantCount (s : State) : Nat := (s.bnt.grants.filter (fun p => p.2.isSome)).length

/-- BNT_STATUS. -/
def bntStatusWord (s : State) : Word32 :=
  w32 (b2n s.bnt.kAuth.isSome + 2 * b2n (mget s.bnt.keys none 0).isSome + 4 * b2n (mget s.bnt.keys none 1).isSome +
    8 * b2n (mget s.bnt.keys none 2).isSome + 16 * b2n s.bnt.debugUnlock + 32 * grantCount s + 2 ^ 10 * b2n (!s.bnt.reqs.isEmpty))

/-- BNT_GRANT_g. -/
def grantWord (s : State) (g : Nat) : Word32 :=
  match mget s.bnt.grants none g with
  | none => 0
  | some x => w32 (1 + 2 * x.kind.toNat + 8 * b2n x.masked + 16 * b2n x.write + 32 * b2n x.pf1 + 256 * x.cores.toNat)

/-- BASE and UNITS of a BAR2 grant. -/
def grantRange (s : State) (g : Nat) (units : Bool) : Word32 :=
  match mget s.bnt.grants none g with
  | none => 0
  | some x => if x.kind ≠ 0 then 0 else if units then x.units else x.base

/-! ### SCH -/

/-- STATE of SCH_STATUS. -/
def schCode (st : SchState) : Nat :=
  match st with
  | .idle => 0
  | .running => 1
  | .paused => 2
  | .frozen => 3
  | .ckpt => 4
  | .rewind => 5
  | .faultStop => 6

/-- The current clock is held or waiting (R81, R94). -/
def heldNow (s : State) : Bool :=
  s.img.valid && s.sch.st != .faultStop && s.pwr.mode == .on && (match s.sch.phase, s.sch.exec with
    | .issue, some e => !issueOver s e && (treeOut s != 0 || headBlocked s e.ns)
    | .start, _ => waitSources s ||| treeOut s != 0
    | _, _ => waitSources s != 0)

/-- SCH_STATUS: WRAPPED is stored. -/
def schStatusWord (s : State) : Word32 :=
  w32 (schCode s.sch.st + 8 * b2n (heldNow s) + 16 * b2n (s.bit Reg.SCH_STATUS 4) + 2 ^ 18 * throttleL s)

/-- The checkpoint slot that SCH_CKPT_SEL selects. -/
def selSlot (s : State) : CkptSlot := mget s.sch.slots {} (s.fld Reg.SCH_CKPT_SEL 0 6)

/-- SCH_CKPT_STATUS: FAILED and LAST_SLOT are stored. -/
def ckptStatusWord (s : State) : Word32 :=
  s.reg Reg.SCH_CKPT_STATUS |||
    w32 ((if s.img.valid then usableSlots s else 0) + 2 ^ 14 * b2n (ckptPartial s) + 2 ^ 15 * b2n s.sch.ckptCopy.isSome)

/-- SCH_WAVE_STATUS. -/
def waveStatusWord (s : State) : Word32 :=
  w32 (s.wave.gen.toNat + 2 ^ 16 * s.U + 2 ^ 18 * b2n (relayWait s) + 2 ^ 19 * b2n (s.lnk.recs.any (fun r => r.stale)) +
    2 ^ 20 * b2n (match s.sch.exec with | some e => e.ns | none => false) + 2 ^ 21 * b2n s.wave.lateHeld)

/-- The conductor function is active on this module. -/
def condActive (s : State) : Bool := s.img.valid && isConductor s

/-- Modules of which a READY for c + 1 is held. -/
def condReadys (s : State) : Word64 :=
  if condActive s then
    BitVec.ofNat 64 (((List.range 64).filter (fun j => s.wave.readys.contains (s.wave.c + 1, BitVec.ofNat 6 j))).map (fun j => 2 ^ j)).sum
  else 0

/-- PHASE of SCH_LOAD_STATUS. -/
def loadPhaseCode (p : LoadPhase) : Nat :=
  match p with
  | .request => 0
  | .header => 1
  | .key => 2
  | .verify => 3
  | .write => 4

/-- SCH_LOAD_STATUS: STATUS, DONE and DROPPED are stored. -/
def loadStatusWord (s : State) : Word32 :=
  s.reg Reg.SCH_LOAD_STATUS ||| w32 (b2n s.load.busy + 4 * b2n s.staged.any + 2 ^ 16 * loadPhaseCode s.load.phase)

/-- SCH_IMAGE_INFO. -/
def imageInfo (s : State) : Word32 :=
  w32 (s.img.partition.toNat + 2 ^ 8 * s.img.partitions.toNat + 2 ^ 16 * b2n s.img.valid + 2 ^ 17 * b2n s.img.patched)

/-- Word `k` of a big-endian value of `n` words: word 0 holds its first bytes. -/
def beWord (x n k : Nat) : Word32 := w32 (x / 2 ^ (32 * (n - 1 - k)))

/-- One word of the cycle controller at an offset in its block. -/
def schRead (s : State) (o : Nat) : Word32 :=
  if o = 0x4 then schStatusWord s
  else if o = 0x8 then w32 s.img.n
  else if o = 0x20 then (sourcesNow s).setWidth 32
  else if o = 0x80 then s.reg Reg.SCH_APPLY ||| w32 (2 * b2n s.sch.applyT.isSome)
  else if o = 0xA4 then ckptStatusWord s
  else if o = 0xA8 then s.reg Reg.SCH_CKPT_SEL ||| w32 (2 ^ 31 * b2n (selSlot s).valid)
  else if o = 0xAC then lo32 (selSlot s).num
  else if o = 0xB0 then hi32 (selSlot s).num
  else if o = 0x100 then w32 (s.wave.module.toNat + 2 ^ 8 * s.wave.conductor.toNat + 2 ^ 15 * b2n (s.wave.fixed && isConductor s))
  else if o = 0x108 then lo32 s.wave.members
  else if o = 0x10C then hi32 s.wave.members
  else if o = 0x110 then waveStatusWord s
  else if o = 0x114 then lo32 s.sch.committed
  else if o = 0x118 then hi32 s.sch.committed
  else if o = 0x120 then w32 (if condActive s then 2 ^ 16 + s.wave.condGen.toNat else 0)
  else if o = 0x124 then lo32 (condReadys s)
  else if o = 0x128 then hi32 (condReadys s)
  else if o = 0x314 then loadStatusWord s
  else if 0x320 ≤ o ∧ o < 0x350 then beWord s.img.digest.toNat 12 ((o - 0x320) / 4)
  else if o = 0x350 then imageInfo s
  else s.reg (0x200000 + o)

/-! ### CLU, HBD, LNK -/

/-- CLU_STATUS of cluster `c`. -/
def cluStatusWord (s : State) (c : Nat) : Word32 :=
  let hold := (requestsNow s).contains c
  let blocking := (List.range 8).any (fun k => (s.port c k).outst && (s.port c k).blocking)
  w32 (b2n (s.pwr.parked.contains (0x08, c)) + 2 * b2n hold + 4 * b2n ((mget s.clu.cause 0 c).getLsbD 5) + 8 * b2n blocking)

/-- STATE of LNK_STATUS. -/
def laneCode (st : LaneState) : Nat :=
  match st with
  | .disabled => 0
  | .detect => 1
  | .pattern => 2
  | .align => 3
  | .deskew => 4
  | .exchange => 5
  | .active => 6
  | .recovery => 7
  | .halt => 8

/-- LNK_STATUS of port `p`. -/
def lnkStatusWord (s : State) (p : Nat) : Word32 :=
  let l := s.lane p
  w32 (laneCode l.st + 2 ^ 4 * l.outstanding.length + 2 ^ 21 * b2n l.desync + 2 ^ 22 * b2n (carriesDesign s p) +
    2 ^ 23 * b2n l.reversed + 2 ^ 24 * l.pol.toNat + 2 ^ 28 * l.locked.toNat)

/-- LNK_PEER of port `p`. -/
def lnkPeerWord (s : State) (p : Nat) : Word32 :=
  let l := s.lane p
  w32 (2 ^ 26 * l.peerModule.toNat + 2 ^ 22 * l.peerPort.toNat + 2 ^ 20 * l.peerRole.toNat + 2 ^ 4 * l.peerGrade.toNat)

/-- LNK_SUMMARY. -/
def lnkSummary (s : State) : Word32 :=
  w32 (((List.range s.lanePorts).map (fun p =>
    2 ^ p * b2n ((s.lane p).st == .active) + 2 ^ (16 + p) * b2n (s.lane p).desync)).sum)

/-- One word of a lane port's window. -/
def lnkRead (s : State) (p o : Nat) : Word32 :=
  if o = 0x4 then lnkStatusWord s p
  else if o = 0x10 then lnkPeerWord s p
  else if 0x14 ≤ o ∧ o < 0x24 then beWord (s.lane p).pedRx.toNat 4 ((o - 0x14) / 4)
  else if 0x24 ≤ o ∧ o < 0x34 then beWord (s.lane p).pedTx.toNat 4 ((o - 0x24) / 4)
  else s.reg (lnkReg p o)

/-! ### TIM, MEM, GLV -/

/-- STATE of TIM_STATUS. -/
def timCode (t : TimState) : Nat :=
  match t with
  | .unsynced => 0
  | .locked => 1
  | .holdover => 2
  | .master => 3

/-- TIM_STATUS. -/
def timStatusWord (s : State) : Word32 :=
  w32 (timCode s.tim.st + 32 * b2n s.tim.stepped + 64 * (s.plat.upstream.map (fun p => p.toNat)).getD 0 + 2 ^ 10 * s.tim.gm.toNat +
    2 ^ 16 * s.tim.epoch.toNat)

/-- PHASE of MEM_MARCH_STATUS. -/
def marchCode (p : MarchPhase) : Nat :=
  match p with
  | .idle => 0
  | .copy => 1
  | .march => 2
  | .restore => 3

/-- MEM_MARCH_STATUS: STATUS, SUBST, FAIL and DONE are stored. -/
def marchStatusWord (s : State) : Word32 :=
  let p := if s.mem.marchSelfTest then 0 else marchCode s.mem.marchPhase
  s.reg Reg.MEM_MARCH_STATUS ||| w32 (b2n (p != 0) + 2 ^ 16 * p)

/-- The code of a region's state. -/
def regionCode (st : RegionState) : Nat :=
  match st with
  | .empty => 0
  | .loading => 1
  | .isolated => 2
  | .running => 3
  | .fault => 4
  | .parked => 5

/-- GLV_STATUS. -/
def glvStatusWord (s : State) : Word32 :=
  w32 (((List.range 4).map (fun r => 8 ^ r * regionCode (s.region r).st)).sum + 2 ^ 12 * b2n s.glv.residentOk +
    2 ^ 13 * b2n s.glv.mapMismatch)

/-! ### PWR -/

/-- One word of the power block. -/
def pwrRead (s : State) (o : Nat) : Word32 :=
  if o = 0x4 then pwrStatusWord s
  else if o = 0x40 then lo32 s.ldg.seq
  else if o = 0x44 then hi32 s.ldg.seq
  else if 0x1000 ≤ o ∧ o < 0x1700 then w32 (ledRead s ((o - 0x1000) / 4))
  else if 0x1800 ≤ o ∧ o < 0x1838 then
    w32 (((List.range 32).map (fun b => 2 ^ b * b2n (mget s.ldg.sat false (8 * (o - 0x1800) + b)))).sum)
  else if o = 0x2004 then s.reg Reg.PWR_ST_STATUS ||| w32 (b2n s.pwr.test.isSome)
  else if o = 0x2014 then w32 s.boot.mram.repairs.length
  else s.reg (0xF00000 + o)

/-! ### Every register -/

/-- What the registers that other parts of the state give read as, beside their KEEP fields. Counts of the traffic on VC1 to VC3
are free values (log 115). -/
def regCalc (s : State) (path : Path) (off : Nat) : Word32 :=
  if off = Reg.GBL_DEVICE_ID then deviceId s
  else if off = Reg.GBL_CLOCHE then clocheWord s
  else if off = Reg.GBL_FW_VER then s.plat.fwVer
  else if off = Reg.GBL_SNAP then snapWord (s.snapOf path)
  else if off = Reg.GBL_OWN then w32 (ownWord s + 2 ^ 30 * pathCode path)
  else if off = Reg.GBL_BOOT then bootWord s
  else if off = Reg.GBL_RESET then w32 (4 * b2n s.boot.fabricBusy)
  else if off = Reg.BNT_STATUS then bntStatusWord s
  else if off = Reg.BNT_OBS_CYC then lo32 s.sch.committed
  else if 0x100100 ≤ off ∧ off < 0x100200 then
    let g := (off - 0x100100) / 16
    if off % 16 = 0 then grantWord s g else if off % 16 = 4 then grantRange s g false else grantRange s g true
  else if 0x200000 ≤ off ∧ off < 0x400000 then schRead s (off - 0x200000)
  else if 0x400000 ≤ off ∧ off < 0x500000 ∧ off % 0x1000 = 0 then cluStatusWord s ((off - 0x400000) / 0x1000)
  else if off = Reg.HBD_STATUS then w32 (b2n s.hbd.mapsValid + 2 * b2n s.hbd.linkFailed)
  else if off = Reg.HBD_CNT + 24 then agedCount s
  else if Reg.HBD_LINK_FLITS < off ∧ off ≤ Reg.HBD_LINK_FLITS + 12 then
    vcFlits s ((off - Reg.HBD_LINK_FLITS) / 4)
  else if off = Reg.LNK_SUMMARY then lnkSummary s
  else if 0x900000 ≤ off ∧ off < 0x904000 then lnkRead s ((off - 0x900000) / 0x400) (off % 0x400)
  else if off = Reg.TIM_STATUS then timStatusWord s
  else if off = Reg.TIM_RATE then BitVec.ofInt 32 s.tim.rate
  else if off = Reg.MEM_STATUS then w32 (b2n s.mem.overflow.isSome + 2 * b2n (s.mem.queue.any (fun e => e.committed)))
  else if off = Reg.MEM_PWR_STATUS then s.reg off ||| w32 (b2n s.mem.pwrPending)
  else if off = Reg.MEM_MARCH_STATUS then marchStatusWord s
  else if off = Reg.GLV_STATUS then glvStatusWord s
  else if off = Reg.AST_STATUS then astStatusWord s
  else if off = Reg.AST_SHADOW then s.reg off ||| w32 (2 * b2n s.ast.staged)
  else if off = Reg.LKS_STATUS then lksStatusWord s
  else if off = Reg.DSP_STATUS then dspStatusWord s
  else if 0xE01000 ≤ off ∧ off < 0xE02000 ∧ off % 16 = 4 then chStatWord s ((off - 0xE01000) / 16)
  else if 0xE02000 ≤ off ∧ off < 0xE02200 ∧ off % 32 = 0x18 then w32 (coreOutst s ((off - 0xE02000) / 32))
  else if 0xF00000 ≤ off then pwrRead s (off - 0xF00000)
  else s.reg off

/-- What the occupied offset `off` reads as on a path, the snapshot of the path apart: a KEEP field reads what it holds (R390,
R414). -/
def regVal (s : State) (path : Path) (off : Nat) : Word32 :=
  let keep : Word32 := match rowAt off with
    | some r => r.keep
    | none => 0
  if absentAt s off then 0 else (regCalc s path off &&& ~~~keep) ||| (s.reg off &&& keep)

/-! ### Mirrors, snapshots and latches (R384 to R386) -/

/-- The bits of a register at `off`, of row `r`, that are mirrored (R384; log 48): what its chapter marks so. In the blocks whose
fields are mirrored where they follow a clock of the block, they are the fields that the block itself changes. -/
def mirrorBits (r : RegRow) (off : Nat) : Word32 :=
  let own := r.ro ||| r.w1c
  if 0x200000 ≤ off ∧ off < 0x200300 then own
  else if 0x400000 ≤ off ∧ off < 0x500000 then (if off % 0x1000 = 0 then 2 else 0)
  else if 0x900000 ≤ off ∧ off < 0xA00000 then own
  else if 0xB00000 ≤ off ∧ off < 0xE00000 then own
  else if off = Reg.DSP_STATUS ∨ (0xE01000 ≤ off ∧ off < 0xE02000 ∧ off % 16 = 4) then own
  else if off = Reg.PWR_TEMP ∨ off = Reg.PWR_VCORE then own
  else if off = Reg.PWR_STATUS then 7
  else if off = Reg.PWR_VCCIO then 0xFF
  else 0

/-- The mirrored bits of the register at an offset. -/
def mirroredMask (off : Nat) : Word32 :=
  match rowAt off with
  | some r => mirrorBits r off
  | none => 0

/-- The offsets of a block that hold a mirrored field. -/
def mirroredOffsets (block : Nat) : List Nat :=
  regMap.flatMap (fun r => ((List.range r.count).map (fun i => r.base + r.stride * i)).filter
    (fun o => blockCode o == block && mirrorBits r o != 0))

/-- What a read on a path returns: the captured value in mirrored bits of a block that the path's snapshot holds, the
live value otherwise. -/
def readVal (s : State) (path : Path) (off : Nat) : Word32 :=
  let x := s.snapOf path
  let live := regVal s path off
  if x.held ∧ blockCode off = x.captured.toNat then
    (live &&& ~~~(mirroredMask off)) ||| (mget x.vals 0 off &&& mirroredMask off)
  else live

/-- What a read does beside returning a value: TIM_NOW_SEC_LO latches the four TIM_NOW words, and BNT_OBS_CYC_LO
latches BNT_EPOCH and BNT_OBS_CYC_HI. -/
def readLatch (off : Nat) (s : State) : State :=
  if off = Reg.TIM_NOW + 4 then
    let c := s.tim.count
    let s := (s.setReg Reg.TIM_NOW (w32 (secOf c / 2 ^ 32))).setReg (Reg.TIM_NOW + 4) (w32 (secOf c))
    (s.setReg (Reg.TIM_NOW + 8) (w32 (nsOf c))).setReg (Reg.TIM_NOW + 12) (w32 (fracOf c))
  else if off = Reg.BNT_OBS_CYC then
    (s.setReg Reg.BNT_EPOCH (w32 s.bnt.epoch)).setReg (Reg.BNT_OBS_CYC + 4) (hi32 s.sch.committed)
  else s

/-- One BAR0 read: the value, and the state after it (R31). -/
def barRead (path : Path) (off : Nat) (s : State) : Word32 × State :=
  match rowAt off with
  | none => (0, unmapped path off s)
  | some _ =>
    let s := readLatch off s
    (readVal s path off, s)

end Sys2Proof.Machine
end

