-- ==== Sys2Proof/Machine/Registers.lean ====
section
/-!
DEFINITION. Machine/Registers.lean: what a write of each register of BAR0 does, and the commands that reach BAR0 from the
PCIe functions and from the SMBus (R31, R375, R381, R382, R385, R386; spec/14_host_registers_ownership.md).
-/
namespace Sys2Proof.Machine

/-! ### Snapshots (R386) -/

/-- The captured values of a block, by offset. -/
def captureOf (s : State) (path : Path) (block : Nat) : SMap Word32 :=
  (mirroredOffsets block).foldl (fun m o => mset m 0 o (regVal s path o &&& mirroredMask o)) []

/-- A write of a path's GBL_SNAP: BLOCK, then REL, then REQ. -/
def snapStore (path : Path) (val : Word32) (s : State) : State :=
  let x := { s.snapOf path with block := BitVec.ofNat 5 (bitsOf val 0 5) }
  let x := if val.getLsbD 9 then { x with held := false } else x
  if val.getLsbD 8 then
    s.setSnap path { x with captured := x.block, held := true, done := true, vals := captureOf s path x.block.toNat }
  else s.setSnap path x

/-- The path whose copy a write reaches: Bonnet writes the copy of the owner's path, and none for the conductor. -/
def snapPath (path : Path) (s : State) : Path :=
  match path, s.own.owner with
  | .bonnet, .host => .pf0
  | .bonnet, .bmc => .smb
  | p, _ => p

/-- A write of GBL_SNAP. -/
def snapWrite (path : Path) (val : Word32) (s : State) : State := snapStore (snapPath path s) val s

def execSnapReq (path : Path) (block : BitVec 5) (s : State) : Host.Outcome State Fault Refusal :=
  run (regAccess path Reg.GBL_SNAP (w32 (256 + block.toNat)) (snapWrite path)) s

def execSnapRel (path : Path) (s : State) : Host.Outcome State Fault Refusal :=
  run (fun s => regAccess path Reg.GBL_SNAP (w32 (512 + (s.snapOf path).block.toNat)) (snapWrite path) s) s

/-! ### What a write of each register does -/

/-- A write of HBD_LINK_SEL: RINGPOS 24 to 31 is dropped, and the flit counts of the segment start again. -/
def linkSelWrite (val : Word32) (s : State) : State :=
  let s := s.setFld Reg.HBD_LINK_SEL 8 2 (bitsOf val 8 2)
  let s := if bitsOf val 0 5 < 24 then s.setFld Reg.HBD_LINK_SEL 0 5 (bitsOf val 0 5) else s
  (List.range 4).foldl (fun s v => s.setReg (Reg.HBD_LINK_FLITS + 4 * v) 0)
    { s with hbd := { s.hbd with linkFrom := s.clock } }

/-- A write of HBD_AGE: HBD_CNT_6 is brought up to date, since AGE 0 ends the promotions (R223). -/
def ageWrite (val : Word32) (s : State) : State := storeReg Reg.HBD_AGE val (agedFold s)

/-- The offset belongs to a register of the host interface, of Bonnet or of the cycle controller, and `val` is written. -/
def effectLow (path : Path) (off : Nat) (val : Word32) (s : State) : State :=
  if off = Reg.GBL_SNAP then snapWrite path val s
  else if off = Reg.GBL_OWN_CLAIM then ownClaimWrite path val s
  else if off = Reg.GBL_OWN_BEAT then ownBeatWrite val s
  else if off = Reg.GBL_RESET then resetWrite false val s
  else if off = Reg.GBL_BLOCK_RESET then blockResetWrite true val s
  else if 0x1100 ≤ off ∧ off < 0x11C0 then maskWrite ((off - 0x1100) / 4) val s
  else if off = Reg.SCH_CTRL then schCtrlWrite val s
  else if off = Reg.SCH_APPLY then applyGo true val s
  else if off = Reg.SCH_CKPT_CTRL then ckptCtrlWrite val s
  else if off = Reg.SCH_REWIND then rewindWrite true val s
  else if off = Reg.SCH_LOAD_CTRL then loadCtrlWrite true val s
  else storeReg off val s

/-- The offset belongs to a register of the Hatband, the lanes, shared time, memory or Glove. -/
def effectMid (off : Nat) (val : Word32) (s : State) : State :=
  if off = Reg.HBD_LINK_SEL then linkSelWrite val s
  else if off = Reg.HBD_AGE then ageWrite val s
  else if 0x900000 ≤ off ∧ off < 0x904000 ∧ off % 0x400 = 0 then lnkCtrlWrite ((off - 0x900000) / 0x400) val s
  else if off = Reg.TIM_CTRL then timCtrlWrite val s
  else if off = Reg.TIM_CFG then timCfgWrite val s
  else if off = Reg.TIM_SET_GO then timSetWrite val s
  else if 0xB00100 ≤ off ∧ off < 0xB00180 then bankPwrWrite ((off - 0xB00100) / 4) val s
  else if off = Reg.MEM_MARCH_CTRL then marchCtrlWrite true val s
  else if off = Reg.GLV_TDC_EN ∨ off = Reg.GLV_TDC_EN + 4 then tdcEnWrite off val s
  else storeReg off val s

/-- The offset belongs to a register of Aster, Larkspur, the dispatcher or the power block. -/
def effectHigh (off : Nat) (val : Word32) (s : State) : State :=
  if off = Reg.AST_CTRL then astCtrl val s
  else if off = Reg.AST_SHADOW then astShadowWrite true val s
  else if astShadowed off then astShadowedWrite off val s
  else if off = Reg.LKS_CTRL then lksCtrlWrite true val s
  else if off = Reg.LKS_BP then lksPressure (storeReg off val s)
  else if off = Reg.LKS_SINK then lksSinkWrite val s
  else if 0xE01000 ≤ off ∧ off < 0xE02000 ∧ off % 16 = 0 then chCfgWrite ((off - 0xE01000) / 16) val s
  else if 0xE02000 ≤ off ∧ off < 0xE02200 ∧ off % 32 = 8 then coreEntriesWrite ((off - 0xE02000) / 32) val s
  else if off = Reg.PWR_CTRL then pwrCtrlWrite false val s
  else if off = Reg.PWR_THERM then pwrThermWrite val s
  else if off = Reg.PWR_THROT then pwrThrotWrite val s
  else if off = Reg.PWR_RAMP then pwrRampWrite val s
  else if off = Reg.PWR_ST_CTRL then stCtrlWrite true val s
  else storeReg off val s

/-- What an accepted write does. -/
def effectOf (path : Path) (off : Nat) (val : Word32) (s : State) : State :=
  if off < 0x800000 then effectLow path off val s
  else if off < 0xD00000 then effectMid off val s
  else effectHigh off val s

/-- One BAR0 write (R31, R375). -/
def barWrite (path : Path) (off : Nat) (val : Word32) (s : State) : State :=
  match rowAt off with
  | none => unmapped path off s
  | some _ => regAccess path off val (effectOf path off) s

def execRegisterWrite (path : Path) (off : BitVec 24) (val : Word32) (s : State) : Host.Outcome State Fault Refusal :=
  run (barWrite path off.toNat val) s

/-- UNMAPPED_ACCESS: a read returns 0. An occupied offset is not one. -/
def unmappedAccess (path : Path) (off : Nat) (isWrite : Bool) (s : State) : State :=
  match rowAt off with
  | some _ => s
  | none => if isWrite then unmapped path off s else (unmapped path off s).emit (.bar0Data path 0)

/-- What the configuration space of a function presents (R376, R377): identities, BAR sizes in bytes (BAR0, BAR2 and BAR4, each 64
bits wide) and whether BAR2 is prefetchable, MSI-X vectors and the places of their table and PBA in BAR4, and what is supported. -/
structure PcieFunction where
  vendor : Nat
  device : Nat
  revision : Nat
  classCode : Nat
  barBytes : List Nat
  prefetchable : List Bool
  readOnly : List Bool
  vectors : Nat
  tableAt : Nat
  pbaAt : Nat
  maxPayload : Nat := 512
  maxReadRequest : Nat := 4096
  tenBitTags : Bool := true
  aer : Bool := true
  flr : Bool := true
  sriov : Bool := false
  ats : Bool := false
  pasid : Bool := false
  intx : Bool := false
  msi : Bool := false
  deriving DecidableEq, Repr

/-- The two physical functions (R376, R377). -/
def pcieFunction (s : State) (fn : PcieFn) : PcieFunction :=
  let one : Nat := match fn with
    | .pf0 => 0
    | .pf1 => 1
  { vendor := 0x1F3A, device := (if s.ident.half then 0x9620 else 0x9640) + one,
    revision := bitsOf (deviceId s) 8 8, classCode := 0x120000,
    barBytes := [2 ^ 24, 2 ^ 36, if fn = .pf0 then 2 ^ 20 else 2 ^ 16], prefetchable := [false, true, false],
    readOnly := [fn == .pf1, fn == .pf1, false], vectors := msixVectors fn,
    tableAt := if fn = .pf0 then 0x80000 else 0, pbaAt := if fn = .pf0 then 0x90000 else 0x1000 }

/-- BAR4 of a function has something at the offset (R376, R378). -/
def bar4Mapped (fn : PcieFn) (off : Nat) : Bool :=
  let table := if fn = .pf0 then 0x80000 else 0
  let pba := if fn = .pf0 then 0x90000 else 0x1000
  (fn == .pf0 && off < 0x3000) || (table ≤ off && off < table + 16 * msixVectors fn) || (pba ≤ off && off < pba + msixVectors fn / 8)

/-- An access to BAR4 of a function: at an unmapped offset a read returns 0 and a write is dropped (R378). The report of R31 is of
BAR0 offsets, and is not made. -/
def bar4Access (fn : PcieFn) (off : Nat) (isWrite : Bool) (s : State) : State :=
  if bar4Mapped fn off ∨ isWrite then s else s.emit (.bar4Data fn 0)

def execUnmappedAccess (bar : UnmappedBar) (off : BitVec 24) (isWrite : Bool) (_ : Word32) (s : State) :
    Host.Outcome State Fault Refusal :=
  run (match bar with
    | .bar0 path => unmappedAccess path off.toNat isWrite
    | .bar4 fn => bar4Access fn off.toNat isWrite) s

/-- BNT_OBS_CYC_READ: the low word is returned and the two words beside it are latched (R412). -/
def obsCycRead (path : Path) (s : State) : State :=
  let r := barRead path Reg.BNT_OBS_CYC s
  r.2.emit (.bar0Data path r.1)

def execBntObsCycRead (path : Path) (s : State) : Host.Outcome State Fault Refusal := run (obsCycRead path) s

/-! ### SMBus (R381, R382, R424) -/

/-- The SMBus target answers: the module is in service, or halted in start-up (R424). -/
def smbUp (s : State) : Bool := s.up || s.boot.stage == .halted

/-- A command of the SMBus target, whose transaction needs a right PEC. -/
def smbRun (pecOk : Bool) (f : State → State) (s : State) : Host.Outcome State Fault Refusal :=
  if !smbUp s then done s
  else if pecOk then done (f s)
  else done (s.emit .smbNack)

/-- The status byte that command 0x04 reports for a BAR0 write. -/
def smbWriteCode (off : Nat) (val : Word32) (s : State) : Byte :=
  if !s.up then 15
  else match rowAt off with
    | none => 15
    | some r =>
      if absentAt s off then 0
      else if !(s.ownsPath .smb || nonOwnerOk .smb off) then 3
      else if lockedAt s off && (val ^^^ s.reg off) &&& r.rwl != 0 then 4
      else 0

/-- Command 0x01. -/
def smbWrite (off : Nat) (val : Word32) (s : State) : State :=
  let st := smbWriteCode off val s
  let s := if s.up && decide (off < 2 ^ 24) then barWrite .smb off val s else s
  { s with host := { s.host with smbWStatus := st } }

def execSmbBar0Write (pecOk : Bool) (off val : Word32) (s : State) : Host.Outcome State Fault Refusal :=
  smbRun pecOk (smbWrite off.toNat val) s

/-- Command 0x02: until the read completes, its status is BUSY. -/
def smbStart (off : Word32) (s : State) : State :=
  { s with host := { s.host with smbRead := some off, smbStatus := 9 } }

def execSmbReadStart (pecOk : Bool) (off : Word32) (s : State) : Host.Outcome State Fault Refusal :=
  smbRun pecOk (smbStart off) s

/-- What a started read gives: a status byte, a value and the state after it. A halted module answers for
GBL_DEVICE_ID and GBL_BOOT alone (R424). -/
def smbReadOf (off : Nat) (s : State) : Byte × Word32 × State :=
  if off < 2 ^ 24 ∧ (s.up ∨ off = Reg.GBL_DEVICE_ID ∨ off = Reg.GBL_BOOT) then
    let r := barRead .smb off s
    (0, r.1, r.2)
  else (15, 0, s)

/-- The started read completes. -/
def smbComplete (s : State) : State :=
  match s.host.smbRead with
  | none => s
  | some off =>
    let r := smbReadOf off.toNat s
    { r.2.2 with host := { r.2.2.host with smbRead := none, smbStatus := r.1, smbValue := r.2.1 } }

def execSmbReadComplete (s : State) : Host.Outcome State Fault Refusal :=
  if smbUp s then done (smbComplete s) else done s

/-- Command 0x03: the value beside a status other than OK is free (log 7). -/
def smbResult (s : State) : State :=
  if s.host.smbStatus = 0 then s.emit (.smbData 0 (some s.host.smbValue))
  else (s.emit (.smbData s.host.smbStatus (some (lo32 (Config.free64 s.freeCtr))))).tick1

def execSmbReadResult (pecOk : Bool) (s : State) : Host.Outcome State Fault Refusal := smbRun pecOk smbResult s

/-- Command 0x04. -/
def smbWStat (s : State) : State := s.emit (.smbData s.host.smbWStatus none)

def execSmbWriteStatus (pecOk : Bool) (s : State) : Host.Outcome State Fault Refusal := smbRun pecOk smbWStat s

/-- The Alert Response Address is answered by a target that asserts SMBALERT_N, which releases it (R381). -/
def smbAlert (s : State) : State :=
  if s.host.smbAlert then
    let t := { s with host := { s.host with smbAlert := false } }
    t.emit (.smbAlertAddr (BitVec.ofNat 7 (0x4C + s.boot.smbAddr.toNat)))
  else s

def execSmbAlertResponse (s : State) : Host.Outcome State Fault Refusal :=
  if smbUp s then done (smbAlert s) else done s

end Sys2Proof.Machine
end

