-- ==== Sys2Proof/Machine/Bonnet.lean ====
section
/-!
DEFINITION. Machine/Bonnet.lean: the command mailbox of Bonnet, the checks of a request and its operations
(spec/15_bonnet_security.md, R405 to R416; R298, R398, R433 to R436).
-/
namespace Sys2Proof.Machine

/-! ### The mailbox (R405) -/

/-- The Bonnet mailbox of a path. -/
def State.bntBox (s : State) (path : Path) : Mbox :=
  match path with
  | .pf0 => s.bnt.box0
  | .smb => s.bnt.boxS
  | .pf1 | .bonnet => {}

/-- Replaces it. -/
def State.setBntBox (s : State) (path : Path) (b : Mbox) : State :=
  match path with
  | .pf0 => { s with bnt := { s.bnt with box0 := b } }
  | .smb => { s with bnt := { s.bnt with boxS := b } }
  | .pf1 | .bonnet => s

/-- A command ends as an authentication failure (R408). -/
def authFailed (s : State) : State :=
  raise 0x041 (causeSet Reg.BNT_CAUSE 0 [] (ledAdd 9 1 (countUp Reg.BNT_AUTHFAIL s)))

/-- What the status of an ended command reports beside its mailbox. -/
def endReport (code : Nat) (s : State) : State :=
  let s := if code = 1 ∨ code = 2 then authFailed s else s
  let s := if code = 13 then raise 0x042 (causeSet Reg.BNT_CAUSE 1 [] s) else s
  raise 0x040 s

/-- The oldest request ends with a status and a response. A reset has taken the requests with it. -/
def bntEnd (code : Nat) (resp : List Byte) (s : State) : State :=
  match s.bnt.reqs with
  | [] => s
  | r :: t =>
    let s := s.setBntBox r.path (boxDone code resp (s.bntBox r.path))
    endReport code { s with bnt := { s.bnt with reqs := t } }

/-! ### The phases of a request (R407) -/

/-- A request is judged and, when it passes, executed: `exe` gives its status, its response and its effect. A status other
than OK leaves the target without effect (R407), and the counter is written first (R408). -/
def bntRun (f : OpForm) (authority : Request → State → Bool) (exe : List Byte → State → Nat × List Byte × State)
    (r : Request) (s : State) : State :=
  let st := judge f (authority r s) r s
  if st ≠ 0 then bntEnd st [] s
  else
    let s := if f.authed then setCtr (reqSlot r) (reqCounter r) s else s
    let e := exe (payload r) s
    if e.1 = 0 then bntEnd 0 e.2.1 e.2.2 else bntEnd e.1 [] s

/-- The code of the operations, and of the modes of FW_ACTIVATE. -/
def bntOps : List Nat := [1, 2, 3, 4, 5, 6, 7, 8, 0x10, 0x11, 0x12, 0x13]

/-- Requests at the front that no operation names end, when Bonnet takes requests: an unknown OP in the FORMAT phase, and a
FW_ACTIVATE with an unknown MODE in the EXECUTE phase, with RESOURCE. -/
def bntUnknown (fuel : Nat) (s : State) : State :=
  match fuel with
  | 0 => s
  | n + 1 => match s.bnt.reqs with
    | [] => s
    | r :: _ =>
      if keyPhase s then s
      else if !bntOps.contains (reqOp r) then bntUnknown n (bntEnd 12 [] s)
      else if reqOp r = 3 ∧ 3 < reqMode r then bntUnknown n (bntRun fwForm byOwner (fun _ s => (12, [], s)) r s)
      else s

/-- BNT_MAILBOX_SUBMIT (R405): a request is written to the request area and submitted. While one of the path is taken both are
dropped; while one waits, only the submit is. -/
def bntSubmit (path : Path) (req : List Byte) (s : State) : State :=
  if !hasBox path ∨ pathTaken path (keyPhase s) s.bnt.reqs then s
  else if (s.bntBox path).busy then
    let t := s.setBntBox path { s.bntBox path with area := req }
    { t with bnt := { t.bnt with reqs := areaWritten path req t.bnt.reqs } }
  else
    let t := s.setBntBox path (boxBusy req (s.bntBox path))
    bntUnknown 2 { t with bnt := { t.bnt with reqs := t.bnt.reqs ++ [{ path := path, bytes := req }] } }

def execBntMailboxSubmit (path : Path) (req : List Byte) (s : State) : Host.Outcome State Fault Refusal :=
  run (bntSubmit path req) s

/-- The oldest request is run when it has this OP (and, for FW_ACTIVATE, this MODE); in the KEY phase of an install it waits
(R417). -/
def bntOp (op : Nat) (mode : Option Nat) (exe : List Byte → State → Nat × List Byte × State) (s : State) : State :=
  match s.bnt.reqs with
  | [] => s
  | r :: _ =>
    if !keyPhase s ∧ reqOp r = op ∧ (mode = none ∨ mode = some (reqMode r)) then
      bntUnknown 2 (bntRun (opForm op) (opAuthority op) exe r s)
    else s

/-- LOAD_KEY_DONE: requests that have waited for the KEY phase are then taken (R417). -/
def execLoadKeyDone (internalFail : Bool) (s : State) : Host.Outcome State Fault Refusal :=
  run (fun s => bntUnknown 2 (loadKeyDone internalFail s)) s

/-! ### HANDOVER and KEY_LOAD (R398, R410) -/

/-- HANDOVER. -/
def handover (p : List Byte) (s : State) : Nat × List Byte × State :=
  let m := masterOf (leAt p 0 1)
  if !(ranking s).contains m || !pathPresent s m then (12, [], s)
  else (0, [], own m (clearClaims { s with own := { s.own with firstClosed := s.own.firstClosed || s.own.st == .claim } }))

def execHandover (s : State) : Host.Outcome State Fault Refusal :=
  run (bntOp 1 none handover) s

def execKeyLoad (s : State) : Host.Outcome State Fault Refusal :=
  run (bntOp 2 none keyLoad) s

/-! ### FW_ACTIVATE (R433 to R436) -/

/-- A trial runs: firmware on trial, or a live handover to it. -/
def trialRuns (s : State) : Bool := s.boot.fwTrial || s.boot.handover

/-- A trial is pending. -/
def trialPending (s : State) : Bool := s.boot.mram.trial != .none

/-- The source of a package: the inactive flash slot, or the staging area. -/
def fwSource (s : State) (source : Nat) : Option FlashSlot := if source = 0 then some (inactiveSlot s) else none

/-- The checks of a package that a FW_ACTIVATE names, beside its other conditions. -/
def fwChecks (p : List Byte) (more : List (Bool × Nat)) (s : State) : Nat :=
  let src := fwSource s (leAt p 1 1)
  let st := packageStatus s src
  lowestStatus ([(st != 0, st), (beAt p 8 48 != (sha384 (pkgBytes s src 0 0x480)).toNat, 6),
    (trialRuns s || trialPending s, 9)] ++ more)

/-- MODE NEXT_START. A SOURCE above 1 ends with RESOURCE, beside what the checks of the staging area find (DESIGN CHOICE,
log 159). -/
def fwNextStart (p : List Byte) (s : State) : Nat × List Byte × State :=
  answer (fwChecks p [(1 < leAt p 1 1, 12)] s) []
    (setTrial (if leAt p 1 1 = 0 then .slot (inactiveSlot s) else .staging) s) s

def execFwActivateNextStart (s : State) : Host.Outcome State Fault Refusal :=
  run (bntOp 3 (some 0) fwNextStart) s

/-- The package header of the inactive flash slot. -/
def inactiveHeader (s : State) : List Byte := pkgBytes s (some (inactiveSlot s)) 0 1280

/-- MODE LIVE. -/
def fwLive (p : List Byte) (s : State) : Nat × List Byte × State :=
  answer (fwChecks p [(leAt p 1 1 != 0, 9), (hdrFwClass (inactiveHeader s) != s.plat.fwClass, 12)] s) []
    { s with boot := { s.boot with handover := true, liveHeader := inactiveHeader s } } s

def execFwActivateLive (s : State) : Host.Outcome State Fault Refusal := run (bntOp 3 (some 1) fwLive) s

/-- The settings copies after CONFIRM (R435). -/
def settingsConfirm (s : State) : State :=
  let l := (s.boot.mram.settings.filter (fun c => c.fmt == s.plat.settingsFmt)).map (fun c => { c with confirmed := true })
  { s with boot := { s.boot with mram := { s.boot.mram with settings := l } } }

/-- The firmware on trial is confirmed: its slot becomes the active one. -/
def trialConfirmed (s : State) : State :=
  let t := settingsConfirm (finishConfirm (confirmRecord s))
  raise 0x00D { t with boot := { t.boot with fwTrial := false } }

/-- MODE CONFIRM. -/
def fwConfirm (_ : List Byte) (s : State) : Nat × List Byte × State :=
  answer (if s.boot.fwTrial then 0 else 9) [] (trialConfirmed s) s

def execFwActivateConfirm (s : State) : Host.Outcome State Fault Refusal :=
  run (bntOp 3 (some 2) fwConfirm) s

/-- MODE CANCEL. -/
def fwCancel (_ : List Byte) (s : State) : Nat × List Byte × State :=
  if trialPending s && !trialRuns s then (0, [], setTrial .none s) else (9, [], s)

def execFwActivateCancel (s : State) : Host.Outcome State Fault Refusal :=
  run (bntOp 3 (some 3) fwCancel) s

/-! ### Observation grants (R411) -/

/-- The grant that a record describes. -/
def grantOf (p : List Byte) : Grant :=
  let fl := leAt p 17 1
  { nonce := BitVec.ofNat 128 (leAt p 0 16), kind := BitVec.ofNat 2 (leAt p 16 1), masked := fl % 2 == 1
    write := fl / 2 % 2 == 1, pf1 := fl / 4 % 2 == 1, cores := BitVec.ofNat 16 (leAt p 18 2)
    base := w32 (leAt p 20 4), units := w32 (leAt p 24 4) }

/-- The flags that a kind of grant may carry. -/
def grantFlags (kind : Nat) : Nat := if kind = 0 then 7 else if kind = 1 then 1 else 0

/-- A field of a grant record is out of range: KIND, a flag that the kind does not have, or a BAR2 range that is empty or
passes the 64 GiB of BAR2. -/
def grantBad (p : List Byte) : Bool :=
  let kind := leAt p 16 1
  3 < kind || (List.range 8).any (fun i => bitsOf (w32 (leAt p 17 1)) i 1 == 1 && bitsOf (w32 (grantFlags kind)) i 1 == 0) ||
    (kind == 0 && (leAt p 24 4 == 0 || 2 ^ 24 < leAt p 20 4 + leAt p 24 4))

/-- The lowest free index of the grant table. -/
def freeGrant (s : State) : Option Nat := (List.range 16).find? (fun g => (mget s.bnt.grants none g).isNone)

/-- A valid grant has this nonce. -/
def nonceUsed (s : State) (n : BitVec 128) : Bool :=
  (List.range 16).any (fun g => match mget s.bnt.grants none g with | some x => x.nonce == n | none => false)

/-- OBS_GRANT. -/
def obsGrant (p : List Byte) (s : State) : Nat × List Byte × State :=
  match freeGrant s with
  | none => (12, [], s)
  | some g =>
    if grantBad p || nonceUsed s (grantOf p).nonce then (12, [], s)
    else (0, [], grantChanged (setGrant g (some (grantOf p)) s))

def execObsGrant (s : State) : Host.Outcome State Fault Refusal :=
  run (bntOp 4 none obsGrant) s

/-- OBS_REVOKE: the end of a TRACE grant flushes and disarms Larkspur (R339). -/
def obsRevoke (p : List Byte) (s : State) : Nat × List Byte × State :=
  let g := leAt p 0 1
  match mget s.bnt.grants none g with
  | none => (12, [], s)
  | some x =>
    let s := if x.kind = 2 then lksStop s else s
    (0, [], grantChanged (setGrant g none s))

def execObsRevoke (s : State) : Host.Outcome State Fault Refusal :=
  run (bntOp 5 none obsRevoke) s

/-! ### Debug unlock (R414) -/

/-- DEBUG_UNLOCK. -/
def debugUnlock (_ : List Byte) (s : State) : Nat × List Byte × State :=
  (0, [], raise 0x044 { s with bnt := { s.bnt with debugUnlock := true, debugNoImage := !s.img.valid } })

def execDebugUnlock (s : State) : Host.Outcome State Fault Refusal :=
  run (bntOp 6 none debugUnlock) s

/-- DEBUG_LOCK. -/
def execDebugLock (s : State) : Host.Outcome State Fault Refusal :=
  run (bntOp 0x13 none (fun _ s => (0, [], endUnlock s))) s

/-! ### REGION_RECONFIG and REG_WRITE (R298, R409) -/

/-- REGION_RECONFIG. -/
def regionReconfig (p : List Byte) (s : State) : Nat × List Byte × State :=
  answer (lowestStatus [(s.glv.load.isSome, 9), (16 ≤ leAt p 12 1, 12)]) []
    (loadBegin .host (BitVec.ofNat 4 (leAt p 12 1)) (leAt p 8 4) s) s

def execRegionReconfig (s : State) : Host.Outcome State Fault Refusal :=
  run (bntOp 7 none regionReconfig) s

/-- The value that one entry writes: the masked bits from the entry; of the others, those that hold what was last
written or read keep it, and no W1C, W1S or WO bit is written 1. -/
def entryValue (s : State) (off : Nat) (val mask : Word32) : Word32 :=
  match rowAt off with
  | none => val &&& mask
  | some r => (regVal s .bonnet off &&& ~~~mask &&& (r.rw ||| r.rwl ||| r.keep)) ||| (val &&& mask)

/-- The entry is dropped, in part or whole, by a lock (R391). -/
def entryLocked (s : State) (off : Nat) (v : Word32) : Bool :=
  match rowAt off with
  | none => false
  | some r => !absentAt s off && lockedAt s off && (v ^^^ s.reg off) &&& r.rwl != 0

/-- Entry `i` of a REG_WRITE. A reset that an entry makes ends the command. -/
def regEntry (p : List Byte) (acc : List Byte × State) (i : Nat) : List Byte × State :=
  let off := leAt p (12 * i) 4
  let s := acc.2
  if !s.up then acc
  else
    let v := entryValue s off (w32 (leAt p (12 * i + 4) 4)) (w32 (leAt p (12 * i + 8) 4))
    (acc.1 ++ [if entryLocked s off v then 4 else 0], barWrite .bonnet off v s)

/-- REG_WRITE. -/
def regWrite (p : List Byte) (s : State) : Nat × List Byte × State :=
  let e := (List.range (p.length / 12)).foldl (regEntry p) ([], s)
  (0, e.1, e.2)

def execRegWrite (s : State) : Host.Outcome State Fault Refusal :=
  run (bntOp 8 none regWrite) s

/-! ### ATTEST, GET_CERT and READBACK (R401, R413, R416) -/

/-- The first 0x150 bytes of the attestation report (R416). -/
def reportBody (challenge : List Byte) (s : State) : List Byte :=
  let img := fun (d : BitVec 384) => if s.img.valid then beBytes 48 d.toNat else beBytes 48 0
  [0x41, 0x54, 0x53, 0x54, 1, 0] ++ leBytes 2 s.part ++ leBytes 1 s.ident.stepping.toNat ++ [s.ident.vendorRev] ++
    leBytes 1 (fuseFw s) ++ leBytes 1 (fusePkg s) ++ leBytes 4 0 ++ challenge ++ sha384Bytes (identityKey s.ident) ++
    beBytes 48 s.plat.fwDigest.toNat ++ beBytes 48 s.plat.digest.toNat ++ img s.img.digest ++ img s.img.bodyDigest ++
    leBytes 8 s.sch.committed.toNat ++ leBytes 1 (ownWord s % 16) ++ leBytes 1 s.own.gen.toNat ++
    leBytes 1 (b2n s.bnt.debugUnlock) ++ leBytes 1 (grantCount s) ++ leBytes 4 0 ++
    (List.range 4).flatMap (fun k => leBytes 8 (slotCtr s k))

/-- ATTEST. -/
def attest (p : List Byte) (s : State) : Nat × List Byte × State :=
  let body := reportBody p s
  (0, body ++ ecdsaSign s.ident.identKey (Config.signNonce s.freeCtr % (n384 - 1) + 1) body, s.tick1)

def execAttest (s : State) : Host.Outcome State Fault Refusal :=
  run (bntOp 0x10 none attest) s

/-- GET_CERT. -/
def getCert (p : List Byte) (s : State) : Nat × List Byte × State :=
  let k := leAt p 0 1
  if 2 < k then (12, [], s) else (0, (Config.certificate k).take 2048, s)

def execGetCert (s : State) : Host.Outcome State Fault Refusal :=
  run (bntOp 0x11 none getCert) s

/-- Bytes that pack `n` bits from key `k` on, bit 0 in the lowest place of the first byte. -/
def bitBytes (m : SMap Bool) (k n : Nat) : List Byte :=
  (List.range (n / 8)).map (fun i => BitVec.ofNat 8 (((List.range 8).map (fun b => 2 ^ b * b2n (mget m false (k + 8 * i + b)))).sum))

/-- The committed data of one cluster or bank, in the layout of a checkpoint slot. -/
def readbackUnit (s : State) (what i : Nat) : List Byte :=
  if what = 0 then bitBytes s.clu.copies (2 ^ 24 * s.baseCopy + 65536 * i) 65536
  else if what = 1 then bitBytes s.clu.predLast (4096 * i) 4096
  else (List.range 8192).flatMap (fun w => leBytes 8 (mergedWith s (fun e => e.committed) i (8192 * i + w)).toNat)

/-- SCH_STATUS.STATE is PAUSED with U = 0, or FAULT_STOP; not in Doze or Nap (R442). -/
def readable (s : State) : Bool :=
  s.pwr.mode == .on && ((s.sch.st == .paused && s.U == 0) || s.sch.st == .faultStop)

/-- The grant that a READBACK names. -/
def readGrant (s : State) (g : Nat) : Option Grant :=
  match mget s.bnt.grants none g with
  | some x => if x.kind = 3 then some x else none
  | none => none

/-- The checks of a READBACK. -/
def readbackStatus (p : List Byte) (s : State) : Nat :=
  let limit := if leAt p 1 1 = 2 then s.bankCount else s.clusters
  lowestStatus [(!readable s, 9), ((readGrant s (leAt p 0 1)).isNone, 4),
    (2 < leAt p 1 1 || limit < leAt p 4 2 + leAt p 6 2 || leAt p 12 8 % 16 != 0, 12)]

/-- READBACK. -/
def readback (p : List Byte) (s : State) : Nat × List Byte × State :=
  let st := readbackStatus p s
  match readGrant s (leAt p 0 1) with
  | some x =>
    if st ≠ 0 then (st, [], s)
    else
      let what := leAt p 1 1
      let data := (List.range (leAt p 6 2)).flatMap (fun i => readbackUnit s what (leAt p 4 2 + i))
      let wfc := Config.readbackFields what (leAt p 4 2) (leAt p 6 2)
      let hdr := leBytes 8 s.sch.committed.toNat ++ (beBytes 48 s.img.digest.toNat).take 8 ++ leBytes 4 wfc.toNat ++
        leBytes 4 data.length ++ leBytes 8 x.s
      let hdr := hdr ++ leBytes (64 - hdr.length) 0
      let out := hdr ++ gcmSeal (grantKey s labelRead x) (leBytes 4 0 ++ beBytes 8 x.s) hdr data
      (0, [], (setGrant (leAt p 0 1) (some { x with s := x.s + 1 }) s).emit (.hostWrite (leAt p 12 8) out))
  | none => (st, [], s)

def execReadback (s : State) : Host.Outcome State Fault Refusal :=
  run (bntOp 0x12 none readback) s

end Sys2Proof.Machine
end

