-- ==== Sys2Proof/Machine/Dispatch.lean ====
section
/-!
DEFINITION. Machine/Dispatch.lean: one arm for each command, in the order of Syntax.lean; each calls the command's
meaning.
-/
namespace Sys2Proof.Machine

/-- The effect of a command on everything but the queue. -/
def exec (i : Instr) (s : State) : Host.Outcome State Fault Refusal :=
  match i with
  | .registerWrite path off val => Sys2Proof.Machine.execRegisterWrite path off val s
  | .unmappedAccess bar off isWrite val => Sys2Proof.Machine.execUnmappedAccess bar off isWrite val s
  | .eventMaskWrite path k val => Sys2Proof.Machine.execEventMaskWrite path k val s
  | .eventPendClear path k val raised => Sys2Proof.Machine.execEventPendClear path k val raised s
  | .msixVectorUnmask fn vec addr data enable => Sys2Proof.Machine.execMsixVectorUnmask fn vec addr data enable s
  | .snapReq path block => Sys2Proof.Machine.execSnapReq path block s
  | .snapRel path => Sys2Proof.Machine.execSnapRel path s
  | .bntObsCycRead path => Sys2Proof.Machine.execBntObsCycRead path s
  | .ownClaim path val => Sys2Proof.Machine.execOwnClaim path val s
  | .claimWindowClose => Sys2Proof.Machine.execClaimWindowClose s
  | .ownBeat path val => Sys2Proof.Machine.execOwnBeat path val s
  | .heartbeatTimeout => Sys2Proof.Machine.execHeartbeatTimeout s
  | .graceExpiry => Sys2Proof.Machine.execGraceExpiry s
  | .pcieFlr fn => Sys2Proof.Machine.execPcieFlr fn s
  | .pcieHotReset => Sys2Proof.Machine.execPcieHotReset s
  | .pcieLinkDown => Sys2Proof.Machine.execPcieLinkDown s
  | .perstNAssert => Sys2Proof.Machine.execPerstNAssert s
  | .smbBar0Write pecOk off val => Sys2Proof.Machine.execSmbBar0Write pecOk off val s
  | .smbReadStart pecOk off => Sys2Proof.Machine.execSmbReadStart pecOk off s
  | .smbReadComplete => Sys2Proof.Machine.execSmbReadComplete s
  | .smbReadResult pecOk => Sys2Proof.Machine.execSmbReadResult pecOk s
  | .smbWriteStatus pecOk => Sys2Proof.Machine.execSmbWriteStatus pecOk s
  | .smbAlertResponse => Sys2Proof.Machine.execSmbAlertResponse s
  | .jtagExtest => Sys2Proof.Machine.execJtagExtest s
  | .jtagSamplePreload => Sys2Proof.Machine.execJtagSamplePreload s
  | .jtagIdcode => Sys2Proof.Machine.execJtagIdcode s
  | .jtagHighz => Sys2Proof.Machine.execJtagHighz s
  | .jtagClamp => Sys2Proof.Machine.execJtagClamp s
  | .jtagExtestPulse => Sys2Proof.Machine.execJtagExtestPulse s
  | .jtagExtestTrain => Sys2Proof.Machine.execJtagExtestTrain s
  | .jtagDbgGate => Sys2Proof.Machine.execJtagDbgGate s
  | .jtagBypass code => Sys2Proof.Machine.execJtagBypass code s
  | .jtagTestLogicReset => Sys2Proof.Machine.execJtagTestLogicReset s
  | .cfgcrcSweepEnd => Sys2Proof.Machine.execCfgcrcSweepEnd s
  | .pcieLinkUp => Sys2Proof.Machine.execPcieLinkUp s
  | .functionLevelResetEnd fn => Sys2Proof.Machine.execFunctionLevelResetEnd fn s
  | .perstNRelease => Sys2Proof.Machine.execPerstNRelease s
  | .cycleStart => Sys2Proof.Machine.execCycleStart s
  | .instrNop at' => Sys2Proof.Machine.execInstrNop at' s
  | .instrCnsWrite at' => Sys2Proof.Machine.execInstrCnsWrite at' s
  | .instrShadowWrite at' => Sys2Proof.Machine.execInstrShadowWrite at' s
  | .instrSendSlotWrite at' => Sys2Proof.Machine.execInstrSendSlotWrite at' s
  | .portAddrbit at' => Sys2Proof.Machine.execPortAddrbit at' s
  | .portWdatabit at' => Sys2Proof.Machine.execPortWdatabit at' s
  | .issueRead at' => Sys2Proof.Machine.execIssueRead at' s
  | .issueWrite at' => Sys2Proof.Machine.execIssueWrite at' s
  | .issueAtomicAdd at' => Sys2Proof.Machine.execIssueAtomicAdd at' s
  | .issueAtomicSwap at' => Sys2Proof.Machine.execIssueAtomicSwap at' s
  | .issueSend at' => Sys2Proof.Machine.execIssueSend at' s
  | .issueSendBlocking at' => Sys2Proof.Machine.execIssueSendBlocking at' s
  | .verify at' => Sys2Proof.Machine.execVerify at' s
  | .boundaryDrain => Sys2Proof.Machine.execBoundaryDrain s
  | .commitPointPass => Sys2Proof.Machine.execCommitPointPass s
  | .pauseSet path => Sys2Proof.Machine.execPauseSet path s
  | .pauseClear path => Sys2Proof.Machine.execPauseClear path s
  | .depthSet path depth => Sys2Proof.Machine.execDepthSet path depth s
  | .runCountWrite path val => Sys2Proof.Machine.execRunCountWrite path val s
  | .applyGo wr => Sys2Proof.Machine.execApplyGo wr s
  | .applyExecute intact => Sys2Proof.Machine.execApplyExecute intact s
  | .frozenApplyDone => Sys2Proof.Machine.execFrozenApplyDone s
  | .checkpointNow path => Sys2Proof.Machine.execCheckpointNow path s
  | .checkpointDone readError => Sys2Proof.Machine.execCheckpointDone readError s
  | .rewindGo wr slot => Sys2Proof.Machine.execRewindGo wr slot s
  | .rewindDone crcOk => Sys2Proof.Machine.execRewindDone crcOk s
  | .holdLong => Sys2Proof.Machine.execHoldLong s
  | .readyReceive port msg => Sys2Proof.Machine.execReadyReceive port msg s
  | .commitReceive port msg => Sys2Proof.Machine.execCommitReceive port msg s
  | .squashReqReceive port msg => Sys2Proof.Machine.execSquashReqReceive port msg s
  | .squashRelayReceive port msg => Sys2Proof.Machine.execSquashRelayReceive port msg s
  | .waveTimeout => Sys2Proof.Machine.execWaveTimeout s
  | .loadInstall path owns => Sys2Proof.Machine.execLoadInstall path owns s
  | .loadStage path owns => Sys2Proof.Machine.execLoadStage path owns s
  | .loadDiscard path => Sys2Proof.Machine.execLoadDiscard path s
  | .loadHeaderDone header read => Sys2Proof.Machine.execLoadHeaderDone header read s
  | .loadKeyDone internalFail => Sys2Proof.Machine.execLoadKeyDone internalFail s
  | .loadVerifyDone body pass => Sys2Proof.Machine.execLoadVerifyDone body pass s
  | .loadWriteDone body pass => Sys2Proof.Machine.execLoadWriteDone body pass s
  | .rdataReturn cluster ctx => Sys2Proof.Machine.execRdataReturn cluster ctx s
  | .pendingWriteApply q => Sys2Proof.Machine.execPendingWriteApply q s
  | .hbmAccessStart cluster ctx => Sys2Proof.Machine.execHbmAccessStart cluster ctx s
  | .refreshOverrun pc clocks => Sys2Proof.Machine.execRefreshOverrun pc clocks s
  | .bar2Read fn off wide => Sys2Proof.Machine.execBar2Read fn off wide s
  | .bar2ReadComplete => Sys2Proof.Machine.execBar2ReadComplete s
  | .bar2Write fn off wide data => Sys2Proof.Machine.execBar2Write fn off wide data s
  | .bankPowerWrite path k val => Sys2Proof.Machine.execBankPowerWrite path k val s
  | .bankPowerDone => Sys2Proof.Machine.execBankPowerDone s
  | .marchPreserving path bank owns => Sys2Proof.Machine.execMarchPreserving path bank owns s
  | .marchDestructive path bank owns => Sys2Proof.Machine.execMarchDestructive path bank owns s
  | .marchCopyDone => Sys2Proof.Machine.execMarchCopyDone s
  | .inboundValueArrival src pos upset => Sys2Proof.Machine.execInboundValueArrival src pos upset s
  | .lateDelivery entry first lenM1 upset held => Sys2Proof.Machine.execLateDelivery entry first lenM1 upset held s
  | .hbdNak nak seq sideband => Sys2Proof.Machine.execHbdNak nak seq sideband s
  | .laneRestart path p val => Sys2Proof.Machine.execLaneRestart path p val s
  | .laneDetectDone p => Sys2Proof.Machine.execLaneDetectDone p s
  | .lanePatternLocked p => Sys2Proof.Machine.execLanePatternLocked p s
  | .laneAlignDone p l0 l1 l2 l3 => Sys2Proof.Machine.execLaneAlignDone p l0 l1 l2 l3 s
  | .laneDeskewDone p skew => Sys2Proof.Machine.execLaneDeskewDone p skew s
  | .laneExchangeDone p caps => Sys2Proof.Machine.execLaneExchangeDone p caps s
  | .laneTrainingTimeout p => Sys2Proof.Machine.execLaneTrainingTimeout p s
  | .laneRecoveryTimeout p => Sys2Proof.Machine.execLaneRecoveryTimeout p s
  | .laneGroupReceive p stripes => Sys2Proof.Machine.execLaneGroupReceive p stripes s
  | .laneNakReceive p ack => Sys2Proof.Machine.execLaneNakReceive p ack s
  | .laneResendTimeout p => Sys2Proof.Machine.execLaneResendTimeout p s
  | .laneBlockLockLoss p loss => Sys2Proof.Machine.execLaneBlockLockLoss p loss s
  | .phaseLoopLockLoss p lane => Sys2Proof.Machine.execPhaseLoopLockLoss p lane s
  | .valueStripeSend p cyc txpos => Sys2Proof.Machine.execValueStripeSend p cyc txpos s
  | .valueStripeReceive p header values => Sys2Proof.Machine.execValueStripeReceive p header values s
  | .pedigreeSend p => Sys2Proof.Machine.execPedigreeSend p s
  | .pedigreeReceive p word => Sys2Proof.Machine.execPedigreeReceive p word s
  | .marchPhaseDone cells => Sys2Proof.Machine.execMarchPhaseDone cells s
  | .repairRemarchDone cells => Sys2Proof.Machine.execRepairRemarchDone cells s
  | .marchRestoreDone => Sys2Proof.Machine.execMarchRestoreDone s
  | .syncInterval devs => Sys2Proof.Machine.execSyncInterval devs s
  | .pdelayInterval p dev => Sys2Proof.Machine.execPdelayInterval p dev s
  | .syncReceive p blk dev => Sys2Proof.Machine.execSyncReceive p blk dev s
  | .followUpReceive p blk => Sys2Proof.Machine.execFollowUpReceive p blk s
  | .pdelayReqReceive p blk rxDev txDev => Sys2Proof.Machine.execPdelayReqReceive p blk rxDev txDev s
  | .pdelayRespReceive p blk dev => Sys2Proof.Machine.execPdelayRespReceive p blk dev s
  | .pdelayRespFollowUpReceive p blk => Sys2Proof.Machine.execPdelayRespFollowUpReceive p blk s
  | .syncLossTimeout => Sys2Proof.Machine.execSyncLossTimeout s
  | .timSet path val => Sys2Proof.Machine.execTimSet path val s
  | .timRestart path val => Sys2Proof.Machine.execTimRestart path val s
  | .timCaptureArm path val => Sys2Proof.Machine.execTimCaptureArm path val s
  | .doUpdate => Sys2Proof.Machine.execDoUpdate s
  | .gloveLoadHeaderDone header failAt readFail => Sys2Proof.Machine.execGloveLoadHeaderDone header failAt readFail s
  | .gloveLoadListDone words readFail => Sys2Proof.Machine.execGloveLoadListDone words readFail s
  | .gloveLoadDataDone frames crc readFail => Sys2Proof.Machine.execGloveLoadDataDone frames crc readFail s
  | .contentionTrip r seg => Sys2Proof.Machine.execContentionTrip r seg s
  | .signatureRegionDone r upsets => Sys2Proof.Machine.execSignatureRegionDone r upsets s
  | .tdcEdge t falling code => Sys2Proof.Machine.execTdcEdge t falling code s
  | .pinInputChange pin level => Sys2Proof.Machine.execPinInputChange pin level s
  | .asterEvaluate => Sys2Proof.Machine.execAsterEvaluate s
  | .goldenRecordRead => Sys2Proof.Machine.execGoldenRecordRead s
  | .asterStage wr val => Sys2Proof.Machine.execAsterStage wr val s
  | .asterDisarm path val => Sys2Proof.Machine.execAsterDisarm path val s
  | .asterRelease path val => Sys2Proof.Machine.execAsterRelease path val s
  | .lksArm wr val => Sys2Proof.Machine.execLksArm wr val s
  | .lksDisarm path val => Sys2Proof.Machine.execLksDisarm path val s
  | .lksFlush path val => Sys2Proof.Machine.execLksFlush path val s
  | .lksCycleClose => Sys2Proof.Machine.execLksCycleClose s
  | .lksFlowRecord kind target => Sys2Proof.Machine.execLksFlowRecord kind target s
  | .lksFlushTimeout => Sys2Proof.Machine.execLksFlushTimeout s
  | .lksAnchorTimer => Sys2Proof.Machine.execLksAnchorTimer s
  | .lksBlockSend => Sys2Proof.Machine.execLksBlockSend s
  | .lksSinkLost busMaster => Sys2Proof.Machine.execLksSinkLost busMaster s
  | .lksHostRdWrite path val => Sys2Proof.Machine.execLksHostRdWrite path val s
  | .dspTick => Sys2Proof.Machine.execDspTick s
  | .messageDelivery k => Sys2Proof.Machine.execMessageDelivery k s
  | .dspRespond k cmd data => Sys2Proof.Machine.execDspRespond k cmd data s
  | .dspPost k cmd data => Sys2Proof.Machine.execDspPost k cmd data s
  | .dspComplete k cmd data => Sys2Proof.Machine.execDspComplete k cmd data s
  | .dspCoreRdWrite window path k val => Sys2Proof.Machine.execDspCoreRdWrite window path k val s
  | .dspCoreEntriesWrite path k val => Sys2Proof.Machine.execDspCoreEntriesWrite path k val s
  | .dspChCfgWrite path ch val => Sys2Proof.Machine.execDspChCfgWrite path ch val s
  | .bntMailboxSubmit path req => Sys2Proof.Machine.execBntMailboxSubmit path req s
  | .handover => Sys2Proof.Machine.execHandover s
  | .keyLoad => Sys2Proof.Machine.execKeyLoad s
  | .fwActivateNextStart => Sys2Proof.Machine.execFwActivateNextStart s
  | .fwActivateLive => Sys2Proof.Machine.execFwActivateLive s
  | .fwActivateConfirm => Sys2Proof.Machine.execFwActivateConfirm s
  | .fwActivateCancel => Sys2Proof.Machine.execFwActivateCancel s
  | .obsGrant => Sys2Proof.Machine.execObsGrant s
  | .obsRevoke => Sys2Proof.Machine.execObsRevoke s
  | .debugUnlock => Sys2Proof.Machine.execDebugUnlock s
  | .debugLock => Sys2Proof.Machine.execDebugLock s
  | .regionReconfig => Sys2Proof.Machine.execRegionReconfig s
  | .regWrite => Sys2Proof.Machine.execRegWrite s
  | .attest => Sys2Proof.Machine.execAttest s
  | .getCert => Sys2Proof.Machine.execGetCert s
  | .readback => Sys2Proof.Machine.execReadback s
  | .coldReset cause => Sys2Proof.Machine.execColdReset cause s
  | .resetNAssert ns => Sys2Proof.Machine.execResetNAssert ns s
  | .gblWarmReset path val ledgerFail => Sys2Proof.Machine.execGblWarmReset path val ledgerFail s
  | .fabricReset path val => Sys2Proof.Machine.execFabricReset path val s
  | .fabricResetDone => Sys2Proof.Machine.execFabricResetDone s
  | .blockReset wr val => Sys2Proof.Machine.execBlockReset wr val s
  | .bootFuseDone ok => Sys2Proof.Machine.execBootFuseDone ok s
  | .bootAnalogDone fail => Sys2Proof.Machine.execBootAnalogDone fail s
  | .bootResidentDone => Sys2Proof.Machine.execBootResidentDone s
  | .bootJournalDone ok => Sys2Proof.Machine.execBootJournalDone ok s
  | .bootCopyDone ok => Sys2Proof.Machine.execBootCopyDone ok s
  | .bootHeaderDone => Sys2Proof.Machine.execBootHeaderDone s
  | .bootItemsDone => Sys2Proof.Machine.execBootItemsDone s
  | .bootControllersDone ok => Sys2Proof.Machine.execBootControllersDone ok s
  | .bootUp => Sys2Proof.Machine.execBootUp s
  | .clocheMailboxSubmit path req => Sys2Proof.Machine.execClocheMailboxSubmit path req s
  | .stageWrite => Sys2Proof.Machine.execStageWrite s
  | .stageStatus => Sys2Proof.Machine.execStageStatus s
  | .flashWrite => Sys2Proof.Machine.execFlashWrite s
  | .flashRead => Sys2Proof.Machine.execFlashRead s
  | .handoverStandbyReady => Sys2Proof.Machine.execHandoverStandbyReady s
  | .handoverTimeout => Sys2Proof.Machine.execHandoverTimeout s
  | .standbyCheckFail => Sys2Proof.Machine.execStandbyCheckFail s
  | .pwrTargetDoze path val => Sys2Proof.Machine.execPwrTargetDoze path val s
  | .pwrTargetNap path val => Sys2Proof.Machine.execPwrTargetNap path val s
  | .pwrWake path val => Sys2Proof.Machine.execPwrWake path val s
  | .pwrTransitionDone ledgerFail => Sys2Proof.Machine.execPwrTransitionDone ledgerFail s
  | .thermalReading temps => Sys2Proof.Machine.execThermalReading temps s
  | .rampTick => Sys2Proof.Machine.execRampTick s
  | .loadForecastFrame => Sys2Proof.Machine.execLoadForecastFrame s
  | .ledgerSample => Sys2Proof.Machine.execLedgerSample s
  | .ledgerPeriodicWrite fail => Sys2Proof.Machine.execLedgerPeriodicWrite fail s
  | .ldgFlush path val fail => Sys2Proof.Machine.execLdgFlush path val fail s
  | .shutdown path val fail => Sys2Proof.Machine.execShutdown path val fail s
  | .selfTestGo wr val => Sys2Proof.Machine.execSelfTestGo wr val s
  | .selfTestStop path val => Sys2Proof.Machine.execSelfTestStop path val s
  | .selfTestDone pass => Sys2Proof.Machine.execSelfTestDone pass s
  | .thermalSensorCheck temps => Sys2Proof.Machine.execThermalSensorCheck temps s
  | .vmonCheck mv diff0 diff1 => Sys2Proof.Machine.execVmonCheck mv diff0 diff1 s
  | .rootPllLockLoss => Sys2Proof.Machine.execRootPllLockLoss s
  | .lanePllLockLoss p => Sys2Proof.Machine.execLanePllLockLoss p s
  | .hbmPllLockLoss stack => Sys2Proof.Machine.execHbmPllLockLoss stack s
  | .vccioMonitorTrip b => Sys2Proof.Machine.execVccioMonitorTrip b s
  | .vccioMonitorClear b => Sys2Proof.Machine.execVccioMonitorClear b s
  | .porNRelease modid smbAddr => Sys2Proof.Machine.execPorNRelease modid smbAddr s
  | .powerRemoved => Sys2Proof.Machine.execPowerRemoved s

end Sys2Proof.Machine
end

