-- ==== Sys2Proof/Safety.lean ====
section
/-!
DEFINITION. Safety.lean: the words in which claims speak of a step: the parts of the state that it may change, the
registers that it may change, and the writes of BAR0 that are accepted.
-/
namespace Sys2Proof.Machine

/-- The parts of the state: the fields of `State`. -/
inductive Part
  | pending | regs | clock | freeCtr | out | ident | plat | host | own | clu | sch | wave | img | staged | load | mem
  | hbd | lnk | dsp | bnt | tim | glv | ast | lks | boot | pwr | ldg
  deriving DecidableEq, Repr

/-- A part is the same in two states. -/
def Part.same (p : Part) (s t : State) : Prop :=
  match p with
  | .pending => t.pending = s.pending
  | .regs => t.regs = s.regs
  | .clock => t.clock = s.clock
  | .freeCtr => t.freeCtr = s.freeCtr
  | .out => t.out = s.out
  | .ident => t.ident = s.ident
  | .plat => t.plat = s.plat
  | .host => t.host = s.host
  | .own => t.own = s.own
  | .clu => t.clu = s.clu
  | .sch => t.sch = s.sch
  | .wave => t.wave = s.wave
  | .img => t.img = s.img
  | .staged => t.staged = s.staged
  | .load => t.load = s.load
  | .mem => t.mem = s.mem
  | .hbd => t.hbd = s.hbd
  | .lnk => t.lnk = s.lnk
  | .dsp => t.dsp = s.dsp
  | .bnt => t.bnt = s.bnt
  | .tim => t.tim = s.tim
  | .glv => t.glv = s.glv
  | .ast => t.ast = s.ast
  | .lks => t.lks = s.lks
  | .boot => t.boot = s.boot
  | .pwr => t.pwr = s.pwr
  | .ldg => t.ldg = s.ldg

/-- From `s` to `t` no part outside the list changes. -/
def Changes (l : List Part) (s t : State) : Prop := ∀ p, p ∉ l → p.same s t

/-- From `s` to `t` no register word changes but those at the listed BAR0 offsets. -/
def RegsBut (l : List Nat) (s t : State) : Prop := ∀ o, o ∉ l → t.reg o = s.reg o

/-- The banks and HBM are in canonical form: keys strictly rising, and no entry that an unlisted key reads as. -/
def Memory.wf (m : MemSt) : Bool := mwf m.banks (fun _ => 0) && mwf m.hbm (fun _ => none)

/-- What every step keeps: the stores of the registers, the banks and HBM are in canonical form, and GBL_OWN.STATE agrees
with the owner (R394, R396). -/
structure Invariant (s : State) : Prop where
  regs : mwf s.regs resetVal = true
  banks : mwf s.mem.banks (fun _ => 0) = true
  hbm : mwf s.mem.hbm (fun _ => none) = true
  vacant : s.own.st = .vacant → s.own.owner = .none
  owned : s.own.st = .owned → s.own.owner ≠ .none

/-- An accepted BAR0 write: the offset holds a register, the grade has it, the path may write it, no KEEP bit would
change, and no lock stands in its way (R2, R375, R390, R391). -/
def accepts (path : Path) (off : Nat) (val : Word32) (s : State) : Prop :=
  ∃ r, rowAt off = some r ∧ absentAt s off = false ∧ (s.ownsPath path || nonOwnerOk path off) = true ∧
    (val ^^^ s.reg off) &&& r.keep = 0 ∧ (lockedAt s off = false ∨ (val ^^^ s.reg off) &&& r.rwl = 0)

/-- The register at the offset does something beside storing what is written: its write is a command of its own, or acts
on the block. -/
def commandReg (off : Nat) : Bool :=
  [Reg.GBL_SNAP, Reg.GBL_OWN_CLAIM, Reg.GBL_OWN_BEAT, Reg.GBL_RESET, Reg.GBL_BLOCK_RESET, Reg.SCH_CTRL, Reg.SCH_APPLY,
   Reg.SCH_CKPT_CTRL, Reg.SCH_REWIND, Reg.SCH_LOAD_CTRL, Reg.HBD_LINK_SEL, Reg.HBD_AGE, Reg.TIM_CTRL, Reg.TIM_CFG, Reg.TIM_SET_GO,
   Reg.MEM_MARCH_CTRL, Reg.GLV_TDC_EN, Reg.GLV_TDC_EN + 4, Reg.AST_CTRL, Reg.AST_SHADOW, Reg.LKS_CTRL, Reg.LKS_SINK, Reg.LKS_BP,
   Reg.PWR_CTRL, Reg.PWR_THERM, Reg.PWR_THROT, Reg.PWR_RAMP, Reg.PWR_ST_CTRL].contains off ||
  (0x1100 ≤ off && off < 0x11C0) || (0x900000 ≤ off && off < 0x904000 && off % 0x400 == 0) ||
  (0xB00100 ≤ off && off < 0xB00180) || astShadowed off ||
  (0xE01000 ≤ off && off < 0xE02000 && off % 16 == 0) || (0xE02000 ≤ off && off < 0xE02200 && off % 32 == 8)

/-- The commands that act on a module that is not in service: start-up, resets and supplies, the pins and their banks' supplies,
the TAP and the SMBus target (R424, R439, R473). -/
def wakes (c : Instr) : Bool :=
  match c with
  | .coldReset _ | .porNRelease _ _ | .powerRemoved | .resetNAssert _ | .bootFuseDone _ | .bootAnalogDone _
  | .bootResidentDone | .bootJournalDone _ | .bootCopyDone _ | .bootHeaderDone | .bootItemsDone | .bootControllersDone _
  | .bootUp | .perstNAssert | .perstNRelease | .smbBar0Write _ _ _ | .smbReadStart _ _ | .smbReadComplete
  | .smbReadResult _ | .smbWriteStatus _ | .smbAlertResponse | .jtagExtest | .jtagSamplePreload | .jtagIdcode
  | .jtagHighz | .jtagClamp | .jtagExtestPulse | .jtagExtestTrain | .jtagDbgGate | .jtagBypass _
  | .jtagTestLogicReset | .pinInputChange _ _ | .vccioMonitorTrip _ | .vccioMonitorClear _ => true
  | _ => false

/-- The instruction that a command of the TAP loads. -/
def jtagCmd (c : Instr) : Option JtagInstr :=
  match c with
  | .jtagExtest => some .extest
  | .jtagSamplePreload => some .samplePreload
  | .jtagIdcode | .jtagTestLogicReset => some .idcode
  | .jtagHighz => some .highz
  | .jtagClamp => some .clamp
  | .jtagExtestPulse => some .extestPulse
  | .jtagExtestTrain => some .extestTrain
  | .jtagDbgGate => some .dbgGate
  | .jtagBypass code => some (jtagOf code)
  | _ => none

/-- The state of the module allows an instruction to act (R383): a disruptive one in IDLE and FAULT_STOP, DBG_GATE under a
debug unlock, the others always. -/
def jtagAllowed (j : JtagInstr) (s : State) : Prop :=
  (disruptive j = true → s.sch.st = .idle ∨ s.sch.st = .faultStop) ∧ (j = .dbgGate → s.unlocked = true)

/-- The register of an instruction that shifts one out: the device identification. -/
def jtagShifts (c : Instr) (id : Word32) : List Output :=
  match c with
  | .jtagIdcode => [.jtagId id]
  | _ => []

/-- What an operation of the Bonnet mailbox asks of the request that it runs: the OP and, for FW_ACTIVATE, the MODE, the form
of the request, and who may submit it (R409). -/
structure BntCmd where
  op : Nat
  mode : Option Nat
  form : OpForm
  authority : Request → State → Bool

/-- The operation of a command of the Bonnet mailbox. -/
def bntCmd (c : Instr) : Option BntCmd :=
  match c with
  | .handover => some ⟨1, none, { lens := [8], zeros := [(1, 7)] }, byHandover⟩
  | .keyLoad => some ⟨2, none, { lens := [152], zeros := [(1, 7)] }, byOwner⟩
  | .fwActivateNextStart => some ⟨3, some 0, fwForm, byOwner⟩
  | .fwActivateLive => some ⟨3, some 1, fwForm, byOwner⟩
  | .fwActivateConfirm => some ⟨3, some 2, fwForm, byOwner⟩
  | .fwActivateCancel => some ⟨3, some 3, fwForm, byOwner⟩
  | .obsGrant => some ⟨4, none, { lens := [32], zeros := [(28, 4)] }, byDesign⟩
  | .obsRevoke => some ⟨5, none, { lens := [8], zeros := [(1, 7)] }, byDesign⟩
  | .debugUnlock => some ⟨6, none, { lens := [8], zeros := [(0, 8)] }, byDebug⟩
  | .regionReconfig => some ⟨7, none, { lens := [16], zeros := [(13, 3)] }, byOwner⟩
  | .regWrite => some ⟨8, none, { lens := (List.range 64).map (fun i => 12 * (i + 1)) }, byOwner⟩
  | .attest => some ⟨0x10, none, { lens := [32], authed := false }, byAny⟩
  | .getCert => some ⟨0x11, none, { lens := [8], zeros := [(1, 7)], authed := false }, byAny⟩
  | .readback => some ⟨0x12, none, { lens := [20], zeros := [(2, 2), (8, 4)], authed := false }, byAny⟩
  | .debugLock => some ⟨0x13, none, { lens := [8], zeros := [(0, 8)], authed := false }, byAny⟩
  | _ => none

/-- The request is one of the operation. -/
def BntCmd.names (b : BntCmd) (r : Request) : Prop := reqOp r = b.op ∧ (b.mode = none ∨ b.mode = some (reqMode r))

/-- Request `r` is one of command `c`, Bonnet takes requests (R417), and `r` passes every check before EXECUTE. -/
def bntReady (c : Instr) (r : Request) (s : State) : Prop :=
  keyPhase s = false ∧ ∃ b, bntCmd c = some b ∧ b.names r ∧ judge b.form (b.authority r s) r s = 0

/-- From `s` to `t` everything on the core die is reset (R418): what stays is the MRAM keep, the flash, the fused identity,
the words that no reset changes, the levels on the pins, the banks' default pulls and the straps. GBL_BOOT and BNT_AUTHFAIL are spoken of where a
reset is. -/
structure DieReset (s t : State) : Prop where
  blocks : t.own = {} ∧ t.clu = {} ∧ t.sch = {} ∧ t.wave = {} ∧ t.img = {} ∧ t.staged = {} ∧ t.hbd = {} ∧ t.lnk = {} ∧ t.dsp = {} ∧
    t.tim = {} ∧ t.ast = {} ∧ t.lks = {} ∧ t.pwr = {} ∧ t.plat = {} ∧ t.clock = 0 ∧
    t.load = { invalidFlag := s.load.invalidFlag || applyWritesImage s }
  memory : t.mem = { hbmKey := s.mem.hbmKey + 1 }
  keys : t.bnt = { keys := s.bnt.keys.filter (fun p => p.1 < 3) }
  pins : t.host = { perst := s.host.perst } ∧ t.glv = { pinIn := s.glv.pinIn, pulls := s.boot.mram.pulls } ∧ t.boot.smbAddr = s.boot.smbAddr
  keep : t.boot.mram = s.boot.mram ∧ t.boot.flash = s.boot.flash ∧ t.ldg = { recs := s.ldg.recs }
  outside : t.ident = s.ident ∧ t.out = s.out ∧ t.freeCtr = s.freeCtr
  regs : ∀ o, o ≠ Reg.GBL_BOOT → o ≠ Reg.BNT_AUTHFAIL → o ≠ Reg.PWR_VCCIO →
    t.reg o = if keptReg o then s.reg o else resetVal o

/-- From `s` to `t` the tags of the RUNNING regions have been compared (R289): with a GLOVE_MAP installed MAP_MISMATCH says in `t`
whether one differs, and a mismatch is reported; without one it is as it was. -/
def TagsCompared (s t : State) : Prop :=
  ((t.img.valid = false ∨ t.img.gloveMap.length < 2) → t.glv.mapMismatch = s.glv.mapMismatch) ∧
  (t.img.valid = true → 2 ≤ t.img.gloveMap.length →
    (t.glv.mapMismatch = true ↔ ∃ r, r < 4 ∧ (t.region r).st = .running ∧ (t.region r).mapTag ≠ t.mapTag r) ∧
    (t.glv.mapMismatch = true → t.bit Reg.GLV_CAUSE 3 = true ∧ t.pendBit 0x363 = true))

end Sys2Proof.Machine
end

