-- ==== Sys2Proof/Certificates/Slice0/Obligations.lean ====
section
/-!
DEFINITION. Certificates/Slice0/Obligations.lean: the statements that the provers prove of the model.
-/
open Sys2Proof Sys2Proof.Machine

/-- A step runs the command at the front of the queue: With a command at the front of the queue, a step is that
command's effect on the state with the queue's rest. With an empty queue one step clock passes while the module is
in service, and nothing happens otherwise; that is the model's choice (log 3). (spec/95_what_each_step_holds.md) -/
def Obligations.StepRunsFrontCommand : Prop :=
  (∀ (c : Instr) (rest : List Instr) (s : State),
    step { s with pending := c :: rest } = exec c { s with pending := rest }) ∧
  (∀ (s : State), s.pending = [] → s.up = false → step s = .next s) ∧
  (∀ (s : State), s.pending = [] → s.up = true → step s = .next (clockTick s))

/-- What a reset leaves: After reset every register reads its reset value, event e is mapped to vector e of PF0 and to
no vector of PF1, every event is masked and none is pending, no master owns the module, STATE is IDLE, no image is
installed, and start-up begins with FUSE (that the state begins there is the model's choice, log 50). (R2, R33, R35,
R393, R418, R422, spec/14_host_registers_ownership.md, spec/16_boot_update_reset.md) -/
def Obligations.ResetState : Prop :=
  (∀ o, State.reset.reg o = resetVal o) ∧
  (∀ e, e < 1536 → bitsOf (State.reset.reg (routeReg e)) 0 11 = e ∧ bitsOf (State.reset.reg (routeReg e)) 16 1 = 0 ∧
    State.reset.maskBit e = true ∧ State.reset.pendBit e = false) ∧
  State.reset.pending = [] ∧ State.reset.own.owner = .none ∧ State.reset.own.st = .vacant ∧ State.reset.sch.st =
    .idle ∧
  State.reset.img.valid = false ∧ State.reset.mem.banks = [] ∧ State.reset.mem.hbm = [] ∧
  State.reset.boot.stage = .fuse ∧ State.reset.host.dlActive = false

/-- The invariant holds at reset: The register store, the banks and HBM are in canonical form, and GBL_OWN.STATE agrees
with the owner, right after reset. (spec/06_design_memory.md, spec/14_host_registers_ownership.md) -/
def Obligations.InvariantAtReset : Prop :=
  Invariant State.reset ∧ Memory.wf State.reset.mem = true

/-- Every step keeps the invariant: From any state in which the register store, the banks and HBM are in canonical form
and GBL_OWN.STATE agrees with the owner (VACANT without an owner, OWNED with one), every step, of whatever command
or of an empty queue, leads to such a state. (R394, R396, spec/06_design_memory.md,
spec/14_host_registers_ownership.md) -/
def Obligations.InvariantKeptByEveryStep : Prop :=
  ∀ (s t : State), Invariant s → step s = .next t → Invariant t ∧ Memory.wf t.mem = true

/-- Every command answers a next state and keeps the queue: No command faults or is refused in any state, and none
touches the commands that wait behind it: a step removes exactly the command at the front.
(spec/95_what_each_step_holds.md) -/
def Obligations.EveryCommandAnswersInOrder : Prop :=
  (∀ (c : Instr) (s : State), ∃ t, exec c s = .next t ∧ t.pending = s.pending) ∧
  (∀ (s : State), ∃ t, step s = .next t ∧ t.pending = s.pending.tail)

/-- The identity of the device never changes: No step changes the fused identity of the module: grade, stepping, device
binding and keys; the module number is sampled again only when POR_N is released. (R401, R427, R477,
spec/15_bonnet_security.md, spec/16_boot_update_reset.md) -/
def Obligations.IdentityFixed : Prop :=
  (∀ (s t : State), step s = .next t → { t.ident with modid := 0 } = { s.ident with modid := 0 }) ∧
  (∀ (c : Instr) (s t : State), exec c s = .next t → (∀ a b, c ≠ .porNRelease a b) → t.ident = s.ident)

/-- Out of service only start-up, resets, pins, the TAP and the SMBus act: While the module is halted, held by POR_N or
without supplies, every other command leaves the state as it is. (R424, R439, spec/16_boot_update_reset.md) -/
def Obligations.OutOfServiceOnlyStartUpActs : Prop :=
  ∀ (c : Instr) (s : State), s.up = false → wakes c = false → exec c s = .next s

/-- A halted module stays halted until a cold reset: From HALTED no command leads to another stage but a cold reset and
the removal of the supplies; in particular RESET_N does not. (R424, R439, spec/16_boot_update_reset.md) -/
def Obligations.HaltEndsOnlyByColdReset : Prop :=
  ∀ (c : Instr) (s t : State), s.boot.stage = .halted → exec c s = .next t → t.boot.stage ≠ .halted →
    (∃ k, c = .coldReset k) ∨ c = .powerRemoved

/-- KEEP fields and the RWL fields of a locked block: Without a debug unlock a write that would change a KEEP field
leaves it, sets the cause KEEP and leaves its event pending; a write that would change RWL fields of a locked block
leaves them, sets the cause LATE and leaves its event pending; no other register changes. (R9, R10, R11, R390, R391,
R392, spec/14_host_registers_ownership.md) -/
def Obligations.KeepAndLockedFields : Prop :=
  (∀ (path : Path) (off : BitVec 24) (val : Word32) (s : State) (r : RegRow), s.up = true → rowAt off.toNat = some r →
    absentAt s off.toNat = false → s.ownsPath path = true → commandReg off.toNat = false → s.unlocked = false →
    (val ^^^ s.reg off.toNat) &&& r.keep ≠ 0 →
    ∃ t, exec (.registerWrite path off val) s = .next t ∧ t.reg off.toNat &&& r.keep = s.reg off.toNat &&& r.keep ∧
      t.bit Reg.GBL_ERR_STATUS 3 = true ∧ t.pendBit 0x004 = true ∧
      RegsBut [off.toNat, Reg.GBL_ERR_STATUS, Reg.GBL_ERR_ADDR, Reg.GBL_ERR_INFO, pendReg 0x000] s t ∧
      Changes [.regs, .out, .host] s t) ∧
  (∀ (path : Path) (off : BitVec 24) (val : Word32) (s : State) (r : RegRow), s.up = true → rowAt off.toNat = some r →
    absentAt s off.toNat = false → s.ownsPath path = true → commandReg off.toNat = false →
    s.bit Reg.GBL_LOCK (blockCode off.toNat) = true → (val ^^^ s.reg off.toNat) &&& r.rwl ≠ 0 →
    ∃ t, exec (.registerWrite path off val) s = .next t ∧ t.reg off.toNat &&& r.rwl = s.reg off.toNat &&& r.rwl ∧
      t.bit Reg.GBL_ERR_STATUS 1 = true ∧ t.pendBit 0x002 = true ∧
      RegsBut [off.toNat, Reg.GBL_ERR_STATUS, Reg.GBL_ERR_ADDR, Reg.GBL_ERR_INFO, pendReg 0x000] s t ∧
      Changes [.regs, .out, .host] s t)

/-- The result of an instruction is TT[i]: The result is the bit of the truth table whose number the four operand values
form, operand 3 the highest place. (R38) -/
def Obligations.TruthTableResult : Prop :=
  ∀ (w : InstrWord) (v0 v1 v2 v3 : Bool),
    evalTT (ttOf w) [v0, v1, v2, v3] = w.getLsbD (72 + (8 * b2n v3 + 4 * b2n v2 + 2 * b2n v1 + b2n v0))

/-- Parity of an instruction word: A word passes the parity check exactly when each of its four groups of 27 payload
bits together with its parity bit holds an odd number of ones. (R36) -/
def Obligations.InstructionWordParity : Prop :=
  ∀ (w : InstrWord), wordParityOk w = true ↔ ∀ k, k < 4 →
    (((List.range 27).map (fun i => b2n (w.getLsbD (27 * k + i)))).sum + b2n (w.getLsbD (108 + k))) % 2 = 1

/-- Which shadow bit a class 01 destination sets: Every legal word that writes a shadow bit writes bit 16,384 × p[7:6] +
DINDEX for the BP p that issues it, and a word is such a write exactly when its flags and class say so and its
operands are legal. (R45) -/
def Obligations.ShadowDestination : Prop :=
  ∀ (w : InstrWord) (p b : Nat), p < 256 →
    (kindOf p w = .shadowWrite b ↔
      (wbits w 107 1 = 1 ∧ wbits w 106 1 = 0 ∧ wbits w 104 1 = 0 ∧ wbits w 102 2 = 1 ∧ operandsLegal w = true ∧
        b = 16384 * (p / 64) + wbits w 88 14))

/-- A BAR0 write that is accepted stores by the access codes: A write of a register that only stores takes the RW and
RWL bits, clears the W1C bits and sets the W1S bits that are written 1, keeps every other bit, and changes no other
register and nothing beside the mark of the sweep. A write of a register whose write is a command of its own has
that command's effect. A write of an offset that no register occupies is reported as unmapped, but within the window
of a resource that the grade lacks, where nothing happens (the model's reading of R2 and R31, log 117). (R375, R390,
R391, spec/14_host_registers_ownership.md) -/
def Obligations.RegisterWriteStores : Prop :=
  (∀ (path : Path) (off : BitVec 24) (val : Word32) (s : State) (r : RegRow), s.up = true → rowAt off.toNat = some r →
    accepts path off.toNat val s → commandReg off.toNat = false →
    ∃ t, exec (.registerWrite path off val) s = .next t ∧
      t.reg off.toNat = ((s.reg off.toNat &&& ~~~(r.rw ||| r.rwl) &&& ~~~(val &&& r.w1c)) ||| (val &&& (r.rw |||
        r.rwl))) |||
        (val &&& r.w1s) ∧
      RegsBut [off.toNat] s t ∧ Changes [.regs, .host] s t) ∧
  (∀ (path : Path) (off : BitVec 24) (val : Word32) (s : State), s.up = true → accepts path off.toNat val s →
    commandReg off.toNat = true →
    exec (.registerWrite path off val) s = .next (effectOf path off.toNat val (markDirty off.toNat s))) ∧
  (∀ (path : Path) (off : BitVec 24) (val : Word32) (s : State), s.up = true → rowAt off.toNat = none →
    (absentAt s off.toNat = true → exec (.registerWrite path off val) s = .next s) ∧
    (absentAt s off.toNat = false → ∃ t, exec (.registerWrite path off val) s = .next t ∧
      t.bit Reg.GBL_ERR_STATUS 0 = true ∧ t.pendBit 0x000 = true ∧
      RegsBut [Reg.GBL_ERR_STATUS, Reg.GBL_ERR_ADDR, Reg.GBL_ERR_INFO, pendReg 0x000] s t ∧ Changes [.regs, .out,
        .host] s t))

/-- An access at an offset that no register occupies: The cause UNMAPPED is set and its event is pending; the first one
captures its offset and path; a read returns 0; no register but those of the report changes. Within the window of a
resource that the grade lacks a read returns 0 and nothing else happens (the model's reading of R2 and R31, log 117).
At an offset that a register occupies the command does nothing. In BAR4 a read at an unmapped offset returns 0, a write there
is dropped, and neither is reported. (R31, R378, R392, spec/14_host_registers_ownership.md) -/
def Obligations.UnmappedAccessReported : Prop :=
  (∀ (path : Path) (off : BitVec 24) (isWrite : Bool) (val : Word32) (s : State), s.up = true → rowAt off.toNat =
    none → absentAt s off.toNat = false →
    ∃ t, exec (.unmappedAccess (.bar0 path) off isWrite val) s = .next t ∧ t.bit Reg.GBL_ERR_STATUS 0 = true ∧
      t.pendBit 0x000 = true ∧
      (s.reg Reg.GBL_ERR_STATUS = 0 → t.reg Reg.GBL_ERR_ADDR = BitVec.ofNat 32 off.toNat ∧
        t.reg Reg.GBL_ERR_INFO = BitVec.ofNat 32 (16 * pathCode path)) ∧
      (isWrite = false → t.out.head? = some (.bar0Data path 0)) ∧
      RegsBut [Reg.GBL_ERR_STATUS, Reg.GBL_ERR_ADDR, Reg.GBL_ERR_INFO, pendReg 0x000] s t ∧ Changes [.regs, .out,
        .host] s t) ∧
  (∀ (path : Path) (off : BitVec 24) (val : Word32) (s : State), s.up = true → rowAt off.toNat = none →
    absentAt s off.toNat = true → exec (.unmappedAccess (.bar0 path) off true val) s = .next s ∧
      exec (.unmappedAccess (.bar0 path) off false val) s = .next (s.emit (.bar0Data path 0))) ∧
  (∀ (path : Path) (off : BitVec 24) (isWrite : Bool) (val : Word32) (s : State), s.up = true →
    (rowAt off.toNat).isSome = true → exec (.unmappedAccess (.bar0 path) off isWrite val) s = .next s) ∧
  (∀ (fn : PcieFn) (off : BitVec 24) (isWrite : Bool) (val : Word32) (s : State), s.up = true →
    (bar4Mapped fn off.toNat = false → isWrite = false →
      exec (.unmappedAccess (.bar4 fn) off isWrite val) s = .next (s.emit (.bar4Data fn 0))) ∧
    (bar4Mapped fn off.toNat = true ∨ isWrite = true → exec (.unmappedAccess (.bar4 fn) off isWrite val) s = .next s))

/-- A write by a path that does not own is dropped and reported: The write of a path that is not the owner's, at a
register that no path but the owner's may write, changes no register but those of the report, sets the cause
OBSERVER and leaves its event pending; at a resource that the grade lacks nothing changes. (R2, R375,
spec/14_host_registers_ownership.md) -/
def Obligations.ObserverWriteDropped : Prop :=
  (∀ (path : Path) (off : BitVec 24) (val : Word32) (s : State), s.up = true → (rowAt off.toNat).isSome = true →
    absentAt s off.toNat = false → s.ownsPath path = false → nonOwnerOk path off.toNat = false →
    ∃ t, exec (.registerWrite path off val) s = .next t ∧ t.bit Reg.GBL_ERR_STATUS 2 = true ∧ t.pendBit 0x003 = true ∧
      RegsBut [Reg.GBL_ERR_STATUS, Reg.GBL_ERR_ADDR, Reg.GBL_ERR_INFO, pendReg 0x003] s t ∧ Changes [.regs, .out,
        .host] s t) ∧
  (∀ (path : Path) (off : BitVec 24) (val : Word32) (s : State), s.up = true → (rowAt off.toNat).isSome = true →
    absentAt s off.toNat = true → exec (.registerWrite path off val) s = .next s)

/-- Writes of the event masks and of the pending bits, and the unmasking of a vector: A mask write stores the mask and
delivers, the lowest first, each pending event whose mask bit goes from 1 to 0; it changes no other register. A write of
pending bits clears those written 1; the events that are raised in that edge are raised after it, so that a bit which
the edge clears is set and delivered again and a bit that stays set hides the repeat. Unmasking a vector stores its
address and data, enables or disables MSI-X, and sends what its PBA bit holds back; in Function Level Reset, and for
a vector that the function lacks, it does nothing. At an offset above the event registers the access is reported as
unmapped. (R9, R31, R33, R35, R379, R380, spec/14_host_registers_ownership.md) -/
def Obligations.EventMaskAndPendingWrites : Prop :=
  (∀ (path : Path) (k : BitVec 6) (val : Word32) (s : State), s.up = true → k.toNat < 48 →
    accepts path (Reg.GBL_EVT_MASK + 4 * k.toNat) val s →
    ∃ t evs, exec (.eventMaskWrite path k val) s = .next t ∧
      evs = ((List.range 32).filter (fun i => (s.reg (Reg.GBL_EVT_MASK + 4 * k.toNat)).getLsbD i && !val.getLsbD i &&
        s.pendBit (32 * k.toNat + i))).map (fun i => 32 * k.toNat + i) ∧
      t = evs.foldl (fun u e => deliver e u) (s.setReg (Reg.GBL_EVT_MASK + 4 * k.toNat) val) ∧
      t.reg (Reg.GBL_EVT_MASK + 4 * k.toNat) = val ∧ (evs = [] → t.out = s.out) ∧
      RegsBut [Reg.GBL_EVT_MASK + 4 * k.toNat] s t ∧ Changes [.regs, .out, .host] s t) ∧
  (∀ (path : Path) (k : BitVec 6) (val raised : Word32) (s : State), s.up = true → k.toNat < 48 →
    accepts path (Reg.GBL_EVT_PEND + 4 * k.toNat) val s →
    ∃ t, exec (.eventPendClear path k val raised) s = .next t ∧
      t = (((List.range 32).filter (fun i => raised.getLsbD i)).map (fun i => 32 * k.toNat + i)).foldl
        (fun u e => raise e u)
        (s.setReg (Reg.GBL_EVT_PEND + 4 * k.toNat) (s.reg (Reg.GBL_EVT_PEND + 4 * k.toNat) &&& ~~~val)) ∧
      (∀ i, i < 32 → (t.reg (Reg.GBL_EVT_PEND + 4 * k.toNat)).getLsbD i =
        (((s.reg (Reg.GBL_EVT_PEND + 4 * k.toNat)).getLsbD i && !val.getLsbD i) ||
          (raised.getLsbD i && !eventAbsent s (32 * k.toNat + i)))) ∧
      RegsBut [Reg.GBL_EVT_PEND + 4 * k.toNat] s t ∧ Changes [.regs, .out, .host] s t) ∧
  (∀ (path : Path) (k : BitVec 6) (val raised : Word32) (s : State), s.up = true → 48 ≤ k.toNat →
    exec (.eventMaskWrite path k val) s = .next (gblErr 0 0x000 (Reg.GBL_EVT_MASK + 4 * k.toNat) (pathCode path)
      false s) ∧
    exec (.eventPendClear path k val raised) s =
      .next (gblErr 0 0x000 (Reg.GBL_EVT_PEND + 4 * k.toNat) (pathCode path) false s)) ∧
  (∀ (fn : PcieFn) (vec : BitVec 11) (addr : Word64) (data : Word32) (enable : Bool) (s : State), s.up = true →
    vec.toNat < msixVectors fn → s.inFlr fn = false →
    ∃ t, exec (.msixVectorUnmask fn vec addr data enable) s = .next t ∧
      mget (t.msix fn).table {} vec.toNat = { addr := addr, data := data, masked := false } ∧
      (∀ v, v ≠ vec.toNat → mget (t.msix fn).table {} v = mget (s.msix fn).table {} v) ∧
      (t.msix fn).enabled = enable ∧ (enable = false → t.out = s.out ∧ (t.msix fn).pba = (s.msix fn).pba) ∧
      (enable = true → mget (s.msix fn).pba false vec.toNat = true →
        Output.msix fn vec.toNat addr data ∈ t.out ∧ mget (t.msix fn).pba false vec.toNat = false) ∧
      Changes [.out, .host] s t) ∧
  (∀ (fn : PcieFn) (vec : BitVec 11) (addr : Word64) (data : Word32) (enable : Bool) (s : State), s.up = true →
    (msixVectors fn ≤ vec.toNat ∨ s.inFlr fn = true) → exec (.msixVectorUnmask fn vec addr data enable) s = .next s)

/-- GBL_SNAP and the read of BNT_OBS_CYC: A request captures the named block into the path's copy and holds it; a
release ends the hold and keeps what was captured. A read of BNT_OBS_CYC_LO returns the low word of the last
committed cycle and latches its high word and the mask epoch. (R386, R412, spec/14_host_registers_ownership.md,
spec/15_bonnet_security.md) -/
def Obligations.SnapshotsAndCycleRead : Prop :=
  (∀ (path : Path) (block : BitVec 5) (s : State), s.up = true →
    accepts path Reg.GBL_SNAP (BitVec.ofNat 32 (256 + block.toNat)) s →
    exec (.snapReq path block) s = .next (s.setSnap (snapPath path s)
      { block := block, captured := block, held := true, done := true,
        vals := captureOf s (snapPath path s) block.toNat })) ∧
  (∀ (path : Path) (s : State), s.up = true →
    accepts path Reg.GBL_SNAP (BitVec.ofNat 32 (512 + (s.snapOf path).block.toNat)) s →
    exec (.snapRel path) s = .next (s.setSnap (snapPath path s)
      { s.snapOf (snapPath path s) with block := (s.snapOf path).block, held := false })) ∧
  (∀ (path : Path) (s : State), s.up = true →
    ∃ t, exec (.bntObsCycRead path) s = .next t ∧ t.reg (Reg.BNT_OBS_CYC + 4) = hi32 s.sch.committed ∧
      t.reg Reg.BNT_EPOCH = BitVec.ofNat 32 s.bnt.epoch ∧
      t.out = .bar0Data path (readVal t path Reg.BNT_OBS_CYC) :: s.out ∧
      RegsBut [Reg.BNT_OBS_CYC + 4, Reg.BNT_EPOCH] s t ∧ Changes [.regs, .out] s t)

/-- Claims and the close of the claim window: In the window a ranked master's claim stands; a claim while ownership is
vacant, by a ranked master whose path is present, opens the window again once the first window has closed; the owner's
own claim does nothing; any other claim sets the cause CLAIM and leaves its event pending. A write of 0, and one of
Bonnet's, claims nothing; PF1 may not claim. At the close the first ranked master whose claim stands and whose path is
present becomes the owner, GEN increments exactly when the owner changes, and no claim stands any longer. (R393, R394,
R397, R400, spec/14_host_registers_ownership.md) -/
def Obligations.OwnershipClaims : Prop :=
  (∀ (path : Path) (m : Master) (val : Word32) (s : State), s.up = true → val.getLsbD 0 = true →
    ((path = .pf0 ∧ m = .host) ∨ (path = .smb ∧ m = .bmc)) → accepts path Reg.GBL_OWN_CLAIM val s →
    (s.own.st = .claim → m ∈ ranking s → exec (.ownClaim path val) s = .next { s with own := { s.own with
      claimHost := s.own.claimHost || m == .host, claimBmc := s.own.claimBmc || m == .bmc } }) ∧
    (s.own.st = .owned → s.own.owner = m → exec (.ownClaim path val) s = .next s) ∧
    (s.own.st = .vacant → s.own.firstClosed = true → m ∈ ranking s → pathPresent s m = true →
      exec (.ownClaim path val) s = .next { s with own := { s.own with
        st := .claim, claimHost := m == .host, claimBmc := m == .bmc, claimCond := false } }) ∧
    (((s.own.st = .claim ∨ s.own.st = .vacant) ∧ m ∉ ranking s) ∨ (s.own.st = .owned ∧ s.own.owner ≠ m) ∨
      (s.own.st = .vacant ∧ (s.own.firstClosed = false ∨ pathPresent s m = false)) →
      ∃ t, exec (.ownClaim path val) s = .next t ∧ t.bit Reg.GBL_ERR_STATUS 5 = true ∧ t.pendBit 0x009 = true ∧
        (s.reg Reg.GBL_ERR_STATUS = 0 → t.reg Reg.GBL_ERR_ADDR = BitVec.ofNat 32 Reg.GBL_OWN_CLAIM ∧
          t.reg Reg.GBL_ERR_INFO = BitVec.ofNat 32 (5 + 16 * pathCode path)) ∧
        RegsBut [Reg.GBL_ERR_STATUS, Reg.GBL_ERR_ADDR, Reg.GBL_ERR_INFO, pendReg 0x009] s t ∧ Changes [.regs, .out,
          .host] s t)) ∧
  (∀ (path : Path) (val : Word32) (s : State), s.up = true → (val.getLsbD 0 = false ∨ path = .bonnet) →
    accepts path Reg.GBL_OWN_CLAIM val s → exec (.ownClaim path val) s = .next s) ∧
  (∀ (val : Word32) (s : State), s.up = true →
    ∃ t, exec (.ownClaim .pf1 val) s = .next t ∧ t.bit Reg.GBL_ERR_STATUS 2 = true ∧ t.pendBit 0x003 = true ∧
      RegsBut [Reg.GBL_ERR_STATUS, Reg.GBL_ERR_ADDR, Reg.GBL_ERR_INFO, pendReg 0x003] s t ∧ Changes [.regs, .out,
        .host] s t) ∧
  (∀ (s : State), s.up = true → s.own.st = .claim →
    ∃ t m, exec .claimWindowClose s = .next t ∧
      m = ((ranking s).find? (fun m => claimed s m && pathPresent s m)).getD .none ∧ t.own.owner = m ∧
      t.own.st = (if m = .none then OwnState.vacant else .owned) ∧
      t.own.gen = (if m = s.own.owner then s.own.gen else s.own.gen + 1) ∧
      (m ≠ s.own.owner → t.pendBit 0x006 = true) ∧ (m = s.own.owner → t.regs = s.regs ∧ t.out = s.out) ∧
      t.own.firstClosed = true ∧ t.own.claimHost = false ∧ t.own.claimBmc = false ∧ t.own.claimCond = false ∧
      RegsBut [pendReg 0x006] s t ∧ Changes [.regs, .out, .host, .own] s t) ∧
  (∀ (s : State), s.up = true → s.own.st ≠ .claim → exec .claimWindowClose s = .next s)

/-- Heartbeats, and the end of ownership at a timeout: A beat records the step clock and changes nothing else. The
heartbeat timeout with a timeout configured and no beat in its own clock, and the end of GRACE, leave the module
without an owner, advance GEN and leave GBL_OWN_VACANT pending; where no owner is lost, or a beat meets the timeout,
they do nothing. (R395, R396, R400, spec/14_host_registers_ownership.md) -/
def Obligations.OwnershipEnds : Prop :=
  (∀ (path : Path) (val : Word32) (s : State), s.up = true → accepts path Reg.GBL_OWN_BEAT val s →
    exec (.ownBeat path val) s = .next { s with own := { s.own with beatAt := s.clock + 1 } }) ∧
  (∀ (c : Instr) (s : State), s.up = true →
    (c = .heartbeatTimeout ∧ s.own.owner ≠ .none ∧ s.fld Reg.GBL_OWN_POLICY 24 8 ≠ 0 ∧ s.own.beatAt ≠ s.clock + 1) ∨
      (c = .graceExpiry ∧ s.own.owner ≠ .none ∧ pathPresent s s.own.owner = false) →
    ∃ t, exec c s = .next t ∧
      t.own = { s.own with owner := .none, gen := s.own.gen + 1, beatAt := 0, st := .vacant } ∧
      t.pendBit 0x007 = true ∧ RegsBut [pendReg 0x007] s t ∧ Changes [.regs, .out, .host, .own] s t) ∧
  (∀ (s : State), s.up = true →
    (s.own.owner = .none ∨ s.fld Reg.GBL_OWN_POLICY 24 8 = 0 ∨ s.own.beatAt = s.clock + 1) →
    exec (.heartbeatTimeout) s = .next s) ∧
  (∀ (s : State), s.up = true → (s.own.owner = .none ∨ pathPresent s s.own.owner = true) →
    exec (.graceExpiry) s = .next s)

/-- What PCIe resets, link events and PERST_N do: A function level reset, and each event that takes the link down,
resets the BAR assignments and the MSI-X state, ends the snapshot hold and drops the outstanding BAR2 reads of the functions
it reaches, and takes DL_Active away where the link goes down; a link that comes up has a rate (in tenths of 1 GT/s) and a
width that PCIe 5.0 x16 falls back to (which of them is free, log 184); where PF0 is reached bus mastering ends, and a Larkspur stream or the
blocks of one that go to the host are lost with the cause SINK_LOST and its event; registers are touched by that alone.
The link does not come up while PERST_N is asserted. (R376, R377, R378, R395, R399, R476,
spec/14_host_registers_ownership.md) -/
def Obligations.PcieLinkAndFunctionResets : Prop :=
  (∀ (s : State), s.up = true →
    exec (.pcieFlr .pf1) s = .next { s with
      host := { s.host with flr1 := true, msix1 := {}, snap1 := { s.host.snap1 with held := false }, bars1 := [0, 0, 0] }
      mem := { s.mem with bar2 := s.mem.bar2.filter (fun r => r.fn ≠ .pf1) } } ∧
    ((s.lks.armed = false ∧ s.lks.blocks = []) ∨ sinkNow s ≠ 1 → exec (.pcieFlr .pf0) s = .next { s with
      host := { s.host with flr0 := true, msix0 := {}, snap0 := { s.host.snap0 with held := false }, bars0 := [0, 0, 0] }
      mem := { s.mem with bar2 := s.mem.bar2.filter (fun r => r.fn ≠ .pf0) }
      lks := { s.lks with busMasterOff := true } }) ∧
    (∃ t, exec (.pcieFlr .pf0) s = .next t ∧ t.lks.busMasterOff = true ∧
      ((s.lks.armed = true ∨ s.lks.blocks ≠ []) → sinkNow s = 1 →
        t.lks.sinkLost = true ∧ t.bit Reg.LKS_CAUSE 1 = true ∧ t.pendBit 0x421 = true) ∧
      t.mem = { s.mem with bar2 := s.mem.bar2.filter (fun r => r.fn ≠ .pf0) } ∧ Changes [.regs, .out, .host, .mem,
        .lks] s t)) ∧
  (∀ (c : Instr) (s : State), s.up = true → (c = .pcieHotReset ∨ c = .pcieLinkDown ∨ c = .perstNAssert) →
    ((s.lks.armed = false ∧ s.lks.blocks = []) ∨ sinkNow s ≠ 1 → exec c s = .next { s with
      host := { s.host with
        dlActive := false, linkRate := 0, linkWidth := 0, bars0 := [0, 0, 0], bars1 := [0, 0, 0], msix0 := {}, msix1 := {}
        snap0 := { s.host.snap0 with held := false }, snap1 := { s.host.snap1 with held := false }, perst := s.host.perst || c == .perstNAssert }
      mem := { s.mem with bar2 := [] }
      lks := { s.lks with busMasterOff := true } }) ∧
    (∃ t, exec c s = .next t ∧ t.host.dlActive = false ∧ t.lks.busMasterOff = true ∧
      ((s.lks.armed = true ∨ s.lks.blocks ≠ []) → sinkNow s = 1 →
        t.lks.sinkLost = true ∧ t.bit Reg.LKS_CAUSE 1 = true ∧ t.pendBit 0x421 = true) ∧
      t.mem = { s.mem with bar2 := [] } ∧ Changes [.regs, .out, .host, .mem, .lks] s t)) ∧
  (∀ (fn : PcieFn) (s : State), s.up = true →
    (fn = .pf0 → s.host.dlActive = true → exec (.functionLevelResetEnd fn) s =
      .next { s with host := { s.host with flr0 := false }, lks := { s.lks with busMasterOff := false } }) ∧
    (fn = .pf0 → s.host.dlActive = false →
      exec (.functionLevelResetEnd fn) s = .next { s with host := { s.host with flr0 := false } }) ∧
    (fn = .pf1 → exec (.functionLevelResetEnd fn) s = .next { s with host := { s.host with flr1 := false } })) ∧
  (∀ (s : State), s.up = true →
    (s.host.perst = true → exec .pcieLinkUp s = .next s) ∧
    (s.host.perst = false → ∃ rate width, rate ∈ [320, 160, 80, 50, 25] ∧ width ∈ [16, 8, 4, 2, 1] ∧ exec .pcieLinkUp s =
      .next { s with
        freeCtr := s.freeCtr + 1, lks := { s.lks with busMasterOff := s.host.flr0 }
        host := { s.host with dlActive := true, linkRate := rate, linkWidth := width } })) ∧
  (∀ (s : State), exec .perstNRelease s = .next { s with host := { s.host with perst := false } }) ∧
  (∀ (s : State), s.up = false → exec .perstNAssert s = .next { s with host := { s.host with perst := true } })

/-- The commands of the SMBus target: A write reaches BAR0 on the SMBus path and leaves its status byte. A read is BUSY
until it completes, and then holds its status and value. The result of a read and the status of a write are sent;
the value beside a status other than OK is free (log 7). A wrong PEC is answered by a NACK and does nothing. The
alert response releases SMBALERT_N and sends the target's address. (R381, R382, R424,
spec/14_host_registers_ownership.md) -/
def Obligations.SmbusTarget : Prop :=
  (∀ (off val : Word32) (s : State), s.up = true → off.toNat < 2 ^ 24 →
    exec (.smbBar0Write true off val) s =
      .next { barWrite .smb off.toNat val s with
        host := { (barWrite .smb off.toNat val s).host with smbWStatus := smbWriteCode off.toNat val s } }) ∧
  (∀ (off : Word32) (s : State), smbUp s = true →
    exec (.smbReadStart true off) s = .next { s with host := { s.host with smbRead := some off, smbStatus := 9 } }) ∧
  (∀ (off : Word32) (s : State), s.up = true → s.host.smbRead = some off → off.toNat < 2 ^ 24 →
    ∃ t, exec .smbReadComplete s = .next t ∧ t.host.smbRead = none ∧ t.host.smbStatus = 0 ∧
      t.host.smbValue = (barRead .smb off.toNat s).1 ∧ t.regs = (barRead .smb off.toNat s).2.regs ∧
      Changes [.regs, .out, .host] s t) ∧
  (∀ (s : State), smbUp s = true → s.host.smbRead = none → exec .smbReadComplete s = .next s) ∧
  (∀ (s : State), smbUp s = true →
    (s.host.smbStatus = 0 → exec (.smbReadResult true) s = .next (s.emit (.smbData 0 (some s.host.smbValue)))) ∧
    (s.host.smbStatus ≠ 0 → ∃ v, exec (.smbReadResult true) s =
      .next { s with out := .smbData s.host.smbStatus (some v) :: s.out, freeCtr := s.freeCtr + 1 }) ∧
    exec (.smbWriteStatus true) s = .next (s.emit (.smbData s.host.smbWStatus none)) ∧
    (s.host.smbAlert = true → exec .smbAlertResponse s = .next { s with
      host := { s.host with smbAlert := false }
      out := .smbAlertAddr (BitVec.ofNat 7 (0x4C + s.boot.smbAddr.toNat)) :: s.out }) ∧
    (s.host.smbAlert = false → exec .smbAlertResponse s = .next s)) ∧
  (∀ (off val : Word32) (s : State), smbUp s = true →
    exec (.smbBar0Write false off val) s = .next (s.emit .smbNack) ∧
    exec (.smbReadStart false off) s = .next (s.emit .smbNack) ∧
    exec (.smbReadResult false) s = .next (s.emit .smbNack) ∧
    exec (.smbWriteStatus false) s = .next (s.emit .smbNack))

/-- The instructions of the TAP: An instruction that the state of the module allows becomes current, and one that it
does not allow acts as BYPASS, sets the cause JTAG and leaves its event pending: the disruptive ones need IDLE or
FAULT_STOP, DBG_GATE needs a debug unlock, and SAMPLE/PRELOAD, IDCODE, BYPASS and Test-Logic-Reset are allowed always.
In service the first disruptive instruction disables every lane port, and the first other one after it sends them to
DETECT. IDCODE shifts the identification out, but while POR_N holds TDO high-Z. Without supplies nothing happens. (R383, R390,
R414, R424, R480,
spec/14_host_registers_ownership.md) -/
def Obligations.JtagInstructions : Prop :=
  (∀ (c : Instr) (j : JtagInstr) (s u : State), s.boot.stage ≠ .off → jtagCmd c = some j → jtagAllowed j s →
    u = { s with host := { s.host with jtag := j, jtagCnt := s.host.jtagCnt + 1 } } →
    ∃ t v, exec c s = .next t ∧ t = { v with out := (if s.boot.stage = .porHeld then [] else jtagShifts c (idcodeWord s)) ++ v.out } ∧
      (s.up = false ∨ (disruptive j = false ∧ disruptive s.host.jtag = false) → v = u) ∧
      (s.up = true → disruptive j = true → disruptive s.host.jtag = true → v = settle u) ∧
      (s.up = true → disruptive j = true → disruptive s.host.jtag = false → v = settle (allPorts .disabled u)) ∧
      (s.up = true → disruptive j = false → disruptive s.host.jtag = true → v = settle (allPorts .detect u))) ∧
  (∀ (c : Instr) (j : JtagInstr) (s : State), s.boot.stage ≠ .off → jtagCmd c = some j → ¬ jtagAllowed j s →
    ∃ u v, u.bit Reg.GBL_ERR_STATUS 4 = true ∧ u.pendBit 0x008 = true ∧
      RegsBut [Reg.GBL_ERR_STATUS, Reg.GBL_ERR_ADDR, Reg.GBL_ERR_INFO, pendReg 0x008] s u ∧
      Changes [.regs, .out, .host] s u ∧ u.host.jtag = s.host.jtag ∧
      v = { u with host := { u.host with jtag := .bypass, jtagCnt := s.host.jtagCnt + 1 } } ∧
      exec c s = .next (if s.up && disruptive s.host.jtag then settle (allPorts .detect v) else v)) ∧
  (∀ (s : State), (idcodeWord s).getLsbD 0 = true ∧ bitsOf (idcodeWord s) 1 11 = 0x3C5 ∧
    bitsOf (idcodeWord s) 12 16 = s.part ∧ bitsOf (idcodeWord s) 28 4 = s.ident.stepping.toNat) ∧
  (∀ (c : Instr) (s : State), s.boot.stage = .off → (jtagCmd c).isSome = true → exec c s = .next s)

/-- The end of a configuration CRC sweep: The result and whether a write fell into the sweep are shown. A clean sweep in
mode 1 whose result differs from the reference sets the mismatch bit and leaves its event pending; a clean sweep in
mode 2 makes its result the reference and goes to mode 1; a sweep that a write fell into does neither. (R387, R388,
R389, spec/14_host_registers_ownership.md) -/
def Obligations.ConfigurationCrcSweep : Prop :=
  ∀ (s : State), s.up = true →
    ∃ t, exec .cfgcrcSweepEnd s = .next t ∧ t.reg Reg.GBL_CFGCRC_LAST = sweepCrc s ∧
      t.bit Reg.GBL_CFGCRC_STATUS 1 = s.host.sweepDirty ∧ t.host.sweepDirty = false ∧
      (s.host.sweepDirty = false → s.fld Reg.GBL_CFGCRC_CTRL 0 2 = 1 → sweepCrc s ≠ s.reg Reg.GBL_CFGCRC_REF →
        t.bit Reg.GBL_CFGCRC_STATUS 0 = true ∧ t.pendBit 0x005 = true) ∧
      (s.host.sweepDirty = false → s.fld Reg.GBL_CFGCRC_CTRL 0 2 = 2 →
        t.reg Reg.GBL_CFGCRC_REF = sweepCrc s ∧ t.fld Reg.GBL_CFGCRC_CTRL 0 2 = 1) ∧
      (s.host.sweepDirty = true ∨ s.fld Reg.GBL_CFGCRC_CTRL 0 2 = 0 →
        t.reg Reg.GBL_CFGCRC_REF = s.reg Reg.GBL_CFGCRC_REF ∧ t.reg Reg.GBL_CFGCRC_CTRL = s.reg Reg.GBL_CFGCRC_CTRL) ∧
      RegsBut [Reg.GBL_CFGCRC_LAST, Reg.GBL_CFGCRC_STATUS, Reg.GBL_CFGCRC_REF, Reg.GBL_CFGCRC_CTRL, pendReg 0x005] s
        t ∧
      Changes [.regs, .out, .host] s t

/-- CYCLE_START runs step 0 of the next cycle: The waits of the start point run first: what the hold tree holds ends and the
throttle wait runs out. If the start point is then open, the next cycle begins: its number is the one after the last
finished or committed cycle, a new number counts against SCH_RUN_COUNT and pauses the module when the count reaches 0, the
predictors are fixed, and the issue phase starts at slot 0. Where nothing is to be waited for, it begins in the clock of the
command. While a condition of the start does not hold, or the waits do not end, nothing happens. (R63, R82, R83, R88, R94,
R97, R103, R117, R446, spec/03_design_cycle.md) -/
def Obligations.CycleBegins : Prop :=
  (∀ (s u v : State), s.up = true → startOpen (reopen s) = true → (throttleEnd (reopen s)).bind lfcWait = some u →
    v = reopen u →
    (startOpen v = true → treeOut v = 0 →
      ∃ t, exec .cycleStart s = .next t ∧ t.sch.phase = .issue ∧ t.sch.slot = 0 ∧ t.sch.issued = [] ∧
        (∃ e : Exec, t.sch.exec = some e ∧ e.num = nextNum v ∧ e.ns = nextNs v ∧ e.copy = freeCopy v ∧
          e.sole = v.dsp.exhaust.isSome ∧ e.serial = v.sch.execNo + 1 ∧ t.sch.execNo = e.serial ∧ e.startClk = v.clock ∧
          e.mismatch = false ∧ e.aborted = false ∧ e.cutAt = none) ∧
        t.sch.highest = (if isReexec v then v.sch.highest else nextNum v) ∧ t.reg64 Reg.SCH_CYCLE = nextNum v ∧
        t.clu.predVal = fixPredictors v ∧ t.pwr.longHold = false ∧ (v.sch.applyFrozen = false → t.sch.st = .running) ∧
        (isReexec v = true → t.reg Reg.SCH_RUN_COUNT = v.reg Reg.SCH_RUN_COUNT) ∧
        (isReexec v = false → v.reg Reg.SCH_RUN_COUNT ≠ 0 →
          t.reg Reg.SCH_RUN_COUNT = v.reg Reg.SCH_RUN_COUNT - 1 ∧ (v.reg Reg.SCH_RUN_COUNT = 1 → t.paused = true)) ∧
        (isReexec v = false → v.reg Reg.SCH_RUN_COUNT = 0 → t.reg Reg.SCH_RUN_COUNT = 0) ∧
        RegsBut [Reg.SCH_CYCLE, Reg.SCH_CYCLE + 4, Reg.SCH_RUN_COUNT, Reg.SCH_CTRL, Reg.SCH_SPC + 24, Reg.SCH_SPC + 28,
          Reg.SCH_SPC + 104, Reg.SCH_SPC + 108, Reg.SCH_SPC_SAT, pendReg 0x096] v t ∧
        Changes [.regs, .out, .host, .clu, .sch, .mem, .pwr] v t) ∧
    (startOpen v = false ∨ treeOut v ≠ 0 → exec .cycleStart s = .next s)) ∧
  (∀ (s : State), s.sch.opened = some (nextNum s) → startFree s = true → (s.plat.lfcEn && s.pwr.longHold) = false →
    reopen s = s ∧ (throttleEnd (reopen s)).bind lfcWait = some s) ∧
  (∀ (s : State), s.up = true → (startOpen (reopen s) = false ∨ (throttleEnd (reopen s)).bind lfcWait = none) →
    exec .cycleStart s = .next s)

/-- The word of a BP issues in its slot: The command of a word's kind runs the issue clocks until the slot issues, and issues
the word once: a no-operation has no effect, each other kind puts its result, the truth table's bit at the values of its
operands, into the pipeline for its destination, and a verify counts, puts a mismatch there when a used prediction differs
from the value that has come, and reports a second verify of its slot. A word with bad parity and an illegal one issue
without effect and set CLU_CAUSE.PARITY or CLU_CAUSE.ILLEGAL. In a clock of the slot that is not held nothing is waited for.
A command whose slot has passed or issues no more, whose word has issued, or whose word is of another kind, does nothing of
its own. (R37, R38, R39, R41, R46, R48, R67, R68, R69, R71, R136, spec/02_boolean_processor.md) -/
def Obligations.WordsOfBooleanProcessorsIssue : Prop :=
  (∀ (p : Place) (c : Instr) (kind : WordKind → Bool) (w : InstrWord) (e : Exec) (s u : State),
    (c, kind) ∈ [(Instr.instrNop p, isNop), (.instrCnsWrite p, isCnsWrite), (.instrShadowWrite p, isShadowWrite),
      (.instrSendSlotWrite p, isSendWrite), (.portAddrbit p, isAddrBit), (.portWdatabit p, isWdataBit),
      (.issueRead p, isIssueOf 0), (.issueWrite p, isIssueOf 1), (.issueAtomicAdd p, isIssueOf 2),
      (.issueAtomicSwap p, isIssueOf 3), (.issueSend p, isIssueOf 0x10), (.issueSendBlocking p, isIssueOf 0x11),
      (.verify p, isVerify)] →
    s.up = true → p.cluster.toNat < s.clusters → p.slot.toNat < s.N → s.sch.exec.isSome = true → s.sch.phase = .issue →
    w = tierWord s p.cluster.toNat p.bp.toNat p.slot.toNat →
    (s.sch.slot ≤ p.slot.toNat → fits kind p.bp.toNat w = true → slotIssues p.slot.toNat s = some (e, u) →
      u.sch.slot = p.slot.toNat → tierWord u p.cluster.toNat p.bp.toNat p.slot.toNat = w →
      (u.sch.issued.contains (256 * p.cluster.toNat + p.bp.toNat) = true → exec c s = .next u) ∧
      (u.sch.issued.contains (256 * p.cluster.toNat + p.bp.toNat) = false →
        ∃ t, exec c s = .next t ∧ t.sch.issued = (256 * p.cluster.toNat + p.bp.toNat) :: u.sch.issued ∧
          Changes [.regs, .out, .host, .clu, .sch] u t ∧
          (wordParityOk w = true → kind (kindOf p.bp.toNat w) = true →
            ∃ v, v = evalTT (ttOf w) (readAll e p.cluster.toNat p.bp.toNat p.slot.toNat (selsOf w) u).1 ∧
            t.sch.infl = u.sch.infl ++ (match kindOf p.bp.toNat w with
              | .nop => []
              | .illegal => []
              | .verify i =>
                if mget u.clu.inUsed false (4096 * p.cluster.toNat + i) = true ∧
                  (readSel e p.cluster.toNat p.bp.toNat p.slot.toNat 0 (.inbound i false) u).1 ≠
                    mget u.clu.predVal false (4096 * p.cluster.toNat + i)
                then [(0xD800, EffKind.mismatch i)] else []
              | .cnsWrite n => [(destOf w, EffKind.cns n v)]
              | .shadowWrite b => [(destOf w, EffKind.shadow b v)]
              | .sendWrite i => [(destOf w, EffKind.send i v)]
              | .addrBit k a => [(destOf w, EffKind.addrBit k a v)]
              | .wdataBit k a => [(destOf w, EffKind.wdataBit k a v)]
              | .issue k op => [(destOf w, EffKind.issue k op v)]).map (fun (q : Nat × EffKind) => (
                { cluster := p.cluster.toNat, bp := p.bp.toNat, slot := p.slot.toNat, dest := q.1, kind := q.2 } :
                  Effect)) ∧
            (∀ i, kindOf p.bp.toNat w = .verify i →
              mget t.clu.verifies 0 p.cluster.toNat = mget u.clu.verifies 0 p.cluster.toNat + 1 ∧
              mget t.clu.inVerified false (4096 * p.cluster.toNat + i) = true ∧
              (mget u.clu.inVerified false (4096 * p.cluster.toNat + i) = true → e.cutAt = none →
                t.bit (cluReg p.cluster.toNat 4) 7 = true)) ∧
            (kindOf p.bp.toNat w = .nop →
              t = { u with sch := { u.sch with issued := (256 * p.cluster.toNat + p.bp.toNat) :: u.sch.issued } })) ∧
          (wordParityOk w = false → t.sch.infl = u.sch.infl ∧ t.bit (cluReg p.cluster.toNat 4) 0 = true) ∧
          (wordParityOk w = true → kindOf p.bp.toNat w = .illegal →
            t.sch.infl = u.sch.infl ∧ t.bit (cluReg p.cluster.toNat 4) 4 = true))) ∧
    (p.slot.toNat < s.sch.slot ∨ fits kind p.bp.toNat w = false ∨ slotIssues p.slot.toNat s = none → exec c s = .next s)) ∧
  (∀ (p : Place) (c : Instr) (s : State), c ∈ [Instr.instrNop p, .instrCnsWrite p, .instrShadowWrite p, .instrSendSlotWrite p,
      .portAddrbit p, .portWdatabit p, .issueRead p, .issueWrite p, .issueAtomicAdd p, .issueAtomicSwap p, .issueSend p,
      .issueSendBlocking p, .verify p] → s.up = true →
    (s.clusters ≤ p.cluster.toNat ∨ s.N ≤ p.slot.toNat ∨ s.sch.exec = none ∨ s.sch.phase ≠ .issue) → exec c s = .next s) ∧
  (∀ (k : Nat) (e : Exec) (s : State), s.sch.exec = some e → s.sch.slot = k → issueOver s e = false → treeOut s = 0 →
    headBlocked s e.ns = false → slotIssues k s = some (e, s))

/-- A result that takes effect writes its one place: A CNS entry takes the value and becomes valid, a shadow bit takes
the value with its written flag, a send slot takes the value, an address bit of a port context takes the value, a
data bit takes it and sets its write enable, and a mismatch marks the execution; every other entry, bit and slot
stays. Of the issues of a context whose result is 1 the one of the highest BP starts its operation, with what the context holds
at that moment; an issue whose result is 0 does nothing. The operation then clears WEN, but for a READ; one that returns a word
clears VALID and sets the outstanding flag; every other context stays. (R45, R46, R48, R57, R68, R71, R72, R73, R76,
spec/02_boolean_processor.md) -/
def Obligations.ResultsTakeEffect : Prop :=
  (∀ (c bp slot dest n : Nat) (v : Bool) (s : State), ∃ t,
    t = writeEffect { cluster := c, bp := bp, slot := slot, dest := dest, kind := .cns n v } s ∧
    mget t.clu.cnsVal false (4096 * c + n) = v ∧ mget t.clu.cnsValid false (4096 * c + n) = true ∧
    (∀ j, j ≠ 4096 * c + n → mget t.clu.cnsVal false j = mget s.clu.cnsVal false j ∧
      mget t.clu.cnsValid false j = mget s.clu.cnsValid false j) ∧ Changes [.clu] s t) ∧
  (∀ (c bp slot dest b : Nat) (v : Bool) (s : State), ∃ t,
    t = writeEffect { cluster := c, bp := bp, slot := slot, dest := dest, kind := .shadow b v } s ∧
    mget t.clu.shadow none (65536 * c + b) = some v ∧
    (∀ j, j ≠ 65536 * c + b → mget t.clu.shadow none j = mget s.clu.shadow none j) ∧ Changes [.clu] s t) ∧
  (∀ (c bp slot dest i : Nat) (v : Bool) (s : State), ∃ t,
    t = writeEffect { cluster := c, bp := bp, slot := slot, dest := dest, kind := .send i v } s ∧
    mget t.clu.sendSlot none (4096 * c + i) = some v ∧
    (∀ j, j ≠ 4096 * c + i → mget t.clu.sendSlot none j = mget s.clu.sendSlot none j) ∧ Changes [.clu] s t) ∧
  (∀ (c bp slot dest k a : Nat) (v : Bool) (s : State), a < 40 → ∃ t,
    t = writeEffect { cluster := c, bp := bp, slot := slot, dest := dest, kind := .addrBit k a v } s ∧
    (t.port c k).addr.getLsbD a = v ∧ (∀ j, j ≠ a → (t.port c k).addr.getLsbD j = (s.port c k).addr.getLsbD j) ∧
    t.port c k = { s.port c k with addr := (t.port c k).addr } ∧ Changes [.clu] s t) ∧
  (∀ (c bp slot dest k a : Nat) (v : Bool) (s : State), a < 64 → ∃ t,
    t = writeEffect { cluster := c, bp := bp, slot := slot, dest := dest, kind := .wdataBit k a v } s ∧
    (t.port c k).wdata.getLsbD a = v ∧ (t.port c k).wen.getLsbD a = true ∧
    (∀ j, j ≠ a → (t.port c k).wdata.getLsbD j = (s.port c k).wdata.getLsbD j ∧
      (t.port c k).wen.getLsbD j = (s.port c k).wen.getLsbD j) ∧ Changes [.clu] s t) ∧
  (∀ (c bp slot dest i : Nat) (e : Exec) (s : State), s.sch.exec = some e → ∃ t,
    t = writeEffect { cluster := c, bp := bp, slot := slot, dest := dest, kind := .mismatch i } s ∧
    (t.sch.exec.map (fun f => f.mismatch)) = some true) ∧
  (∀ (c bp slot dest k op : Nat) (r : Bool) (s : State),
    writeEffect { cluster := c, bp := bp, slot := slot, dest := dest, kind := .issue k op r } s = s) ∧
  (∀ (a : Access) (l : List Effect) (s : State), a ∈ issueAccesses l s ↔
    ∃ e k op, e ∈ l ∧ e.kind = .issue k op true ∧
      a = { cluster := e.cluster, ctx := k, op := op, addr := (s.port e.cluster k).addr, wdata := (s.port e.cluster k).wdata,
            wen := (s.port e.cluster k).wen } ∧
      ∀ o op', o ∈ l → o.cluster = e.cluster → o.kind = .issue k op' true → o.bp ≤ e.bp) ∧
  (∀ (a : Access) (s : State), ∃ t, t = afterIssue a s ∧
    (t.port a.cluster a.ctx).addr = (s.port a.cluster a.ctx).addr ∧
    (t.port a.cluster a.ctx).wdata = (s.port a.cluster a.ctx).wdata ∧
    (t.port a.cluster a.ctx).rdata = (s.port a.cluster a.ctx).rdata ∧
    (t.port a.cluster a.ctx).wen = (if a.op = 0 then (s.port a.cluster a.ctx).wen else 0) ∧
    (a.op ∈ [0, 2, 3, 0x11] → (t.port a.cluster a.ctx).valid = false ∧ (t.port a.cluster a.ctx).outst = true) ∧
    (a.op ∉ [0, 2, 3, 0x11] → (t.port a.cluster a.ctx).valid = (s.port a.cluster a.ctx).valid ∧
      (t.port a.cluster a.ctx).outst = (s.port a.cluster a.ctx).outst) ∧
    (∀ j, j ≠ 8 * a.cluster + a.ctx → mget t.clu.ports {} j = mget s.clu.ports {} j) ∧
    RegsBut [cluReg a.cluster 0x50, cluReg a.cluster 0x60] s t ∧ Changes [.regs, .clu] s t) ∧
  (∀ (n : Word64) (slot k op : Nat) (e : Effect) (r : Bool) (a : Access) (s u : State),
    s.sch.infl.filter (fun o => o.slot == slot) = [e] → e.kind = .issue k op r →
    u = { s with sch := { s.sch with infl := s.sch.infl.filter (fun o => o.slot != slot) } } →
    a = { cluster := e.cluster, ctx := k, op := op, addr := (s.port e.cluster k).addr, wdata := (s.port e.cluster k).wdata,
          wen := (s.port e.cluster k).wen } →
    (r = false → takeEffects slot n s = u) ∧
    (r = true → op = 0 → takeEffects slot n s = memRead n a (afterIssue a u)) ∧
    (r = true → op = 1 → takeEffects slot n s = memWrite n a (afterIssue a u)) ∧
    (r = true → (op = 2 ∨ op = 3) → takeEffects slot n s = memAtomic n a (afterIssue a u)) ∧
    (r = true → (op = 0x10 ∨ op = 0x11) →
      takeEffects slot n s = dspIssue n e.cluster k op a.addr a.wdata slot (afterIssue a u)))

/-- The boundary of a cycle: BOUNDARY_DRAIN runs the issue steps to their end, then B0 to B3, and leaves the execution at the
commit point. At an open commit point COMMIT_POINT_PASS runs B4 to B7, takes what arrives in B7 for the last time and
decides the outcome of the execution there, unless a fault stop governs, and then runs B8 to B11. LAST of a slot takes the value
that came, and otherwise what its predictor gave; the target copy takes the shadow value of every bit that was written and the
base copy's value of every other; and B8 leaves no CNS entry valid, no bit written, no slot VALID, USED or VERIFIED, every slot,
send slot and port context 0. Away from these points, and at a commit point that is not open, they do nothing. (R49, R58, R62,
R64, R72, R73, R84, R88, R101, R230, spec/03_design_cycle.md) -/
def Obligations.BoundarySteps : Prop :=
  (∀ (s w : State), s.up = true → s.sch.exec.isSome = true → s.sch.phase = .issue →
    clocksUntil 8192 stepsOver s = some w →
    ∃ t, t = bndClock (fun e u => dspCloseOpen e.num (injectAt (u.N + 3) u)) (bndClock (fun e u => verifyCheck e
      (injectAt (u.N + 2) u))
      (bndClock (fun _ u => injectAt (u.N + 1) u) (bndClock (fun e u =>
        (if u.sch.slot = 0 then (fun x => x) else takeEffects (u.sch.slot - 1) e.num) (injectAt u.N u)) w))) ∧
      (t.sch.exec.isSome = true → exec .boundaryDrain s =
        .next { t with sch := { t.sch with phase := .commitPoint, holdRun := 0, holdRaised := false } }) ∧
      (t.sch.exec = none → exec .boundaryDrain s = .next t)) ∧
  (∀ (s : State), stepsOver s = true → clocksUntil 8192 stepsOver s = some s) ∧
  (∀ (s : State), s.up = true → s.sch.exec = none ∨ s.sch.phase ≠ .issue ∨ clocksUntil 8192 stepsOver s = none →
    exec .boundaryDrain s = .next s) ∧
  (∀ (s : State), s.up = true → s.sch.exec.isSome = true → s.sch.phase = .commitPoint → commitOpen s = true →
    ∃ t, t = lastMerge (bndClock (mergeParity 2)
      (bndClock (mergeParity 1) (bndClock (fun e u => mergeParity 0 e (updateLast u)) s))) ∧
      exec .commitPointPass s = .next (swap { t with sch := { t.sch with holdRun := 0, holdRaised := false } })) ∧
  (∀ (e f : Exec) (s u : State), s.sch.exec = some e → u = clockArrive (mergeCopy e.copy (mergeParity 3 e s)) →
    u.sch.exec = some f →
    (u.sch.fatal = false → lastMerge s = clockClose (treeSources u false) (decide' f u)) ∧
    (u.sch.fatal = true → lastMerge s = clockClose (treeSources u false) u)) ∧
  (∀ (s : State), ∃ t, t = updateLast s ∧
    (∀ k, mget t.clu.predLast false k =
      if mget s.clu.inValid false k = true then mget s.clu.inVal false k else mget s.clu.predVal false k) ∧ Changes [.clu] s t) ∧
  (∀ (tgt i : Nat) (s : State), i < 2 ^ 24 → tgt ≠ s.baseCopy → ∃ t, t = mergeCopy tgt s ∧
    (∀ v, s.clu.shadow.filter (fun p => p.1 == i) = [(i, some v)] → mget t.clu.copies false (2 ^ 24 * tgt + i) = v) ∧
    ((∀ p, p ∈ s.clu.shadow → p.1 = i → p.2 = none) →
      mget t.clu.copies false (2 ^ 24 * tgt + i) = mget s.clu.copies false (2 ^ 24 * s.baseCopy + i)) ∧
    ((∀ p, p ∈ s.clu.shadow → p.1 < 2 ^ 24) → ∀ j, j / 2 ^ 24 ≠ tgt → mget t.clu.copies false j = mget s.clu.copies false j) ∧
    t.clu.shadow = s.clu.shadow ∧ Changes [.clu] s t) ∧
  (∀ (s : State), ∃ t, t = openCycle s ∧ t.clu.shadow = [] ∧
    (∀ j, mget t.clu.cnsValid false j = false ∧ mget t.clu.inValid false j = false ∧ mget t.clu.inUsed false j = false ∧
      mget t.clu.inVerified false j = false ∧ mget t.clu.inVal false j = false ∧ mget t.clu.sendSlot none j = none ∧
      mget t.clu.ports {} j = {}) ∧
    t.clu.copies = s.clu.copies ∧ t.clu.predLast = s.clu.predLast ∧ t.sch.opened = some (nextNum s) ∧
    Changes [.clu, .sch, .mem, .lnk] s t) ∧
  (∀ (s : State), runWindow s = swapClock 3 (swapClock 2 (swapClock 1 (bindInputs (swapClock 0 (openCycle s)))))) ∧
  (∀ (s : State), s.up = true → (s.sch.exec = none ∨ s.sch.phase ≠ .commitPoint ∨ commitOpen s = false) →
    exec .commitPointPass s = .next s)

/-- What becomes of an execution at B7: The first row that applies decides. A parked unit that the image needs makes a
fault stop. A parity fault of VC0 is an abort for parity. An aborted or cut execution is discarded. A parity fault of a
cluster is an abort for parity. An illegal word, an orphan and a verify count that is wrong make a fault stop with their
events, in that order. A mismatch squashes the cycle. Otherwise the cycle is finished. (R101, R134, R135, R146, R147,
spec/03_design_cycle.md, spec/04_speculation.md) -/
def Obligations.OutcomeAtB7 : Prop :=
  ∀ (e : Exec) (s u : State), u = dspB7 e.num (settleOrphans s) →
    (u.pwr.parked.any (parkFatal u) = true → decide' e s = faultStop u) ∧
    (u.pwr.parked.any (parkFatal u) = false →
      (e.vc0 = true → decide' e s = parityAbort e.num (endDiscarded e (u.clock + 5 - e.startClk) u)) ∧
      (e.vc0 = false → (e.aborted || e.cutAt.isSome) = true → decide' e s = endDiscarded e (u.clock + 5 - e.startClk)
        u) ∧
      (e.vc0 = false → (e.aborted || e.cutAt.isSome) = false → ∀ b, b < 8 → reported u (BitVec.ofNat 8 (2 ^ b)) =
        true →
        (4 ≤ b → ∀ j, j < b → j ≠ 6 → reported u (BitVec.ofNat 8 (2 ^ j)) = false) →
        (b < 4 → decide' e s = parityAbort e.num (endDiscarded e (u.clock + 5 - e.startClk) u)) ∧
        (b = 4 → decide' e s = faultStop (raise 0x082 u)) ∧ (b = 5 → decide' e s = faultStop (raise 0x081 u)) ∧
        (b = 7 → decide' e s = faultStop (raise 0x092 u))) ∧
      (e.vc0 = false → (e.aborted || e.cutAt.isSome) = false →
        (∀ b, b < 8 → b ≠ 6 → reported u (BitVec.ofNat 8 (2 ^ b)) = false) →
        (e.mismatch = true → decide' e s = squash e.num (b2n e.reverify) (endDiscarded e (u.clock + 5 - e.startClk)
          u)) ∧
        (e.mismatch = false → decide' e s = finishCycle e u)))

/-- A fault stop, and the parity aborts of a cycle: A fault stop leaves the module in FAULT_STOP with its event pending, PAUSE
set, no execution and no waiting commit, and keeps the last committed cycle; in FAULT_STOP it changes nothing more. The
first three parity aborts of a cycle count it in SCH_REPLAY with PARITY_REPLAY pending; the fourth stops the module with
REPLAY_EXHAUSTED pending. (R22, R23, R104, R146, R147, spec/03_design_cycle.md, spec/04_speculation.md) -/
def Obligations.FaultStopAndReplay : Prop :=
  (∀ (s : State), s.sch.st ≠ .faultStop → ∃ t, t = faultStop s ∧ t.sch.st = .faultStop ∧ t.sch.exec = none ∧
    t.sch.commitQ = [] ∧ t.sch.committed = s.sch.committed ∧ t.sch.phase = .start ∧ t.pendBit 0x080 = true ∧ t.paused
      = true ∧
    Changes [.regs, .out, .host, .clu, .sch, .wave, .mem, .lnk, .dsp, .pwr, .ldg] s t) ∧
  (∀ (s : State), s.sch.st = .faultStop → faultStop s = { s with sch := { s.sch with fatal := false } }) ∧
  (∀ (n : Word64) (k : Nat) (s : State), s.sch.parityCnt.find? (fun p => p.1 == n) = some (n, k) →
    (3 ≤ k → s.sch.st ≠ .faultStop →
      ∃ t, t = parityAbort n s ∧ t.sch.st = .faultStop ∧ t.pendBit 0x080 = true ∧ t.pendBit 0x091 = true ∧
        t.bit Reg.SCH_REPLAY 3 = true ∧ t.fld Reg.SCH_REPLAY 0 3 = 4 ∧ t.reg64 Reg.SCH_REPLAY_CYC = n ∧
        Changes [.regs, .out, .host, .clu, .sch, .wave, .mem, .lnk, .dsp, .pwr, .ldg] s t) ∧
    (k < 3 →
      ∃ t, t = parityAbort n s ∧ t.sch.parityCnt = s.sch.parityCnt.filter (fun p => p.1 != n) ++ [(n, k + 1)] ∧
        t.fld Reg.SCH_REPLAY 0 3 = k + 1 ∧ t.pendBit 0x090 = true ∧ t.reg64 Reg.SCH_REPLAY_CYC = n ∧
        Changes [.regs, .out, .host, .sch, .wave, .mem, .lnk, .dsp, .ldg] s t)) ∧
  (∀ (n : Word64) (s : State), s.sch.parityCnt.find? (fun p => p.1 == n) = none →
    ∃ t, t = parityAbort n s ∧ t.sch.parityCnt = s.sch.parityCnt.filter (fun p => p.1 != n) ++ [(n, 1)] ∧
      t.fld Reg.SCH_REPLAY 0 3 = 1 ∧ t.pendBit 0x090 = true ∧ t.reg64 Reg.SCH_REPLAY_CYC = n ∧
      Changes [.regs, .out, .host, .sch, .wave, .mem, .lnk, .dsp, .ldg] s t)

/-- PAUSE, DEPTH, SCH_RUN_COUNT and the report of a long hold: A write that sets PAUSE sets it, and between executions
the running module enters PAUSED with SCH_PAUSED pending. A write that clears PAUSE clears it and lets the module
run, and wakes it from Doze or Nap; while an install runs it is dropped and reported. In FAULT_STOP, and during a rewind
from it, PAUSE keeps what it reads, and the write of 0 wakes all the same. DEPTH takes any value but the reserved one, in every state. SCH_RUN_COUNT takes the value
written. A long hold captures the sources and raises its event once for a run of held clocks. (R98, R102, R103, R104, R165,
R440, R441, spec/03_design_cycle.md, spec/05_compiler_contract.md) -/
def Obligations.RunControl : Prop :=
  (∀ (path : Path) (s : State), s.up = true → accepts path Reg.SCH_CTRL (withBits (s.reg Reg.SCH_CTRL) 0 1 1) s →
    (faultHeld s = false → ∃ t, exec (.pauseSet path) s = .next t ∧ t.paused = true ∧ t.depth = s.depth ∧
      (s.sch.st = .running → s.sch.exec = none → s.sch.applyFrozen = false → s.sch.ckptCopy = none →
        t.sch.st = .paused ∧ t.pendBit 0x084 = true ∧ t.pwr.longHold = true) ∧
      (s.sch.st = .running → s.sch.exec.isSome = true → s.sch.applyFrozen = false → s.sch.ckptCopy = none →
        t.sch.st = .running) ∧
      RegsBut [Reg.SCH_CTRL, pendReg 0x084] s t ∧ Changes [.regs, .out, .host, .sch, .pwr] s t) ∧
    (faultHeld s = true → ∃ t, exec (.pauseSet path) s = .next t ∧ t.paused = s.paused ∧ t.depth = s.depth ∧
      RegsBut [Reg.SCH_CTRL] s t ∧ Changes [.regs, .host] s t)) ∧
  (∀ (path : Path) (s : State), s.up = true → accepts path Reg.SCH_CTRL (withBits (s.reg Reg.SCH_CTRL) 0 1 0) s →
    (faultHeld s = false → (installBusy s && s.paused) = false →
      ∃ t, exec (.pauseClear path) s = .next t ∧ t.paused = false ∧ t.depth = s.depth ∧
        (s.sch.st = .paused → s.sch.applyFrozen = false → s.sch.ckptCopy = none → t.sch.st = .running) ∧
        t.pwr.trans = (if powTo s = .on then s.pwr.trans else s.pwr.trans ++ [.on]) ∧
        RegsBut [Reg.SCH_CTRL, Reg.PWR_CTRL] s t ∧ Changes [.regs, .host, .sch, .pwr] s t) ∧
    (faultHeld s = false → (installBusy s && s.paused) = true →
      ∃ t, exec (.pauseClear path) s = .next t ∧ t.paused = true ∧ t.depth = s.depth ∧
        t.bit Reg.SCH_LOAD_STATUS 19 = true ∧ RegsBut [Reg.SCH_CTRL, Reg.SCH_LOAD_STATUS] s t ∧ Changes [.regs, .host] s t) ∧
    (faultHeld s = true → ∃ t, exec (.pauseClear path) s = .next t ∧ t.paused = s.paused ∧ t.depth = s.depth ∧
      t.pwr.trans = (if powTo s = .on then s.pwr.trans else s.pwr.trans ++ [.on]) ∧ t.sch = s.sch ∧
      RegsBut [Reg.SCH_CTRL, Reg.PWR_CTRL] s t ∧ Changes [.regs, .host, .pwr] s t)) ∧
  (∀ (path : Path) (depth : BitVec 2) (s : State), s.up = true →
    accepts path Reg.SCH_CTRL (withBits (s.reg Reg.SCH_CTRL) 1 2 depth.toNat) s →
    ∃ t, exec (.depthSet path depth) s = .next t ∧
      t.paused = s.paused ∧ t.depth = (if depth = 3 then s.depth else depth.toNat) ∧
      RegsBut [Reg.SCH_CTRL, pendReg 0x084, Reg.PWR_CTRL] s t ∧ Changes [.regs, .out, .host, .sch, .pwr] s t) ∧
  (∀ (path : Path) (val : Word32) (s : State), s.up = true → accepts path Reg.SCH_RUN_COUNT val s →
    ∃ t, exec (.runCountWrite path val) s = .next t ∧ t.reg Reg.SCH_RUN_COUNT = val ∧
      RegsBut [Reg.SCH_RUN_COUNT] s t ∧ Changes [.regs, .host] s t) ∧
  (∀ (s : State), s.up = true →
    (s.fld Reg.SCH_HOLD_LIMIT 0 16 ≠ 0 → s.sch.holdRun ≠ 0 → s.sch.holdRaised = false →
      ∃ t, exec .holdLong s = .next t ∧ t.sch = { s.sch with holdRaised := true } ∧
        t.reg Reg.SCH_HOLD_CAPT = (sourcesNow s).setWidth 32 ∧ t.pendBit 0x083 = true ∧
        RegsBut [Reg.SCH_HOLD_CAPT, pendReg 0x083] s t ∧ Changes [.regs, .out, .host, .sch] s t) ∧
    (s.fld Reg.SCH_HOLD_LIMIT 0 16 = 0 ∨ s.sch.holdRun = 0 ∨ s.sch.holdRaised = true → exec .holdLong s = .next s))

/-- Requests and executions of applies: A request takes its target cycle, the next cycle never started when the register
names none or one that has been started; it ends with NOT_OWNER when its writer no longer owns, with BUSY while an apply is
pending or the module is not in HOLD or RUN, and is dropped while an install runs. At the start point, once the cycle before
its target has committed, a staged change that is not intact ends the apply with CRC_FAIL; one that changes the tiers freezes
the module first; the rest takes effect at once. An apply that takes effect installs the staged content, ends with OK, and
leaves its event pending. Elsewhere the two commands of an apply do nothing. (R105, R106, R107, R108, R165, R170, R172, R375,
R442, spec/03_design_cycle.md) -/
def Obligations.Applies : Prop :=
  (∀ (path : Path) (owns : Bool) (s : State), s.up = true → accepts path Reg.SCH_APPLY 1 s →
    (installBusy s = false → owns = true → s.pwr.mode = .on → s.sch.applyT = none →
      ∃ t, exec (.applyGo ⟨path, owns⟩) s = .next t ∧
        t.sch = { s.sch with applyT := some (if s.reg64 Reg.SCH_APPLY_CYC = 0 ∨ cycLe (s.reg64 Reg.SCH_APPLY_CYC) s.sch.highest = true
          then s.sch.highest + 1 else s.reg64 Reg.SCH_APPLY_CYC) } ∧
        t.bit Reg.SCH_APPLY 16 = false ∧ RegsBut [Reg.SCH_APPLY] s t ∧ Changes [.regs, .host, .sch] s t) ∧
    (∀ st, installBusy s = false →
      (owns = false ∧ st = 3) ∨ (owns = true ∧ (s.pwr.mode ≠ .on ∨ s.sch.applyT.isSome = true) ∧ st = 9) →
      ∃ t, exec (.applyGo ⟨path, owns⟩) s = .next t ∧ t.fld Reg.SCH_APPLY 8 8 = st ∧ t.bit Reg.SCH_APPLY 16 = true ∧ t.pendBit
        0x085 = true ∧
        RegsBut [Reg.SCH_APPLY, pendReg 0x085] s t ∧ Changes [.regs, .out, .host] s t) ∧
    (installBusy s = true → ∃ t, exec (.applyGo ⟨path, owns⟩) s = .next t ∧ t.bit Reg.SCH_LOAD_STATUS 19 = true ∧
      RegsBut [Reg.SCH_LOAD_STATUS] s t ∧ Changes [.regs, .host] s t)) ∧
  (∀ (T : Word64) (s : State), s.up = true → s.sch.applyT = some T → s.sch.applyFrozen = false → s.sch.exec = none →
    s.sch.phase = .start → s.U = 0 → cycLe (T - 1) s.sch.committed = true → s.sch.ckptCopy = none → s.sch.st ≠ .rewind →
    (∃ t, exec (.applyExecute false) s = .next t ∧ t.fld Reg.SCH_APPLY 8 8 = 7 ∧ t.bit Reg.SCH_APPLY 16 = true ∧
      t.pendBit 0x085 = true ∧ t.sch.applyT = none ∧ RegsBut [Reg.SCH_APPLY, pendReg 0x085, pendReg 0x084] s t ∧
      Changes [.regs, .out, .host, .sch, .pwr] s t) ∧
    (applyIsFrozen s = true → s.sch.st ≠ .idle → s.sch.st ≠ .faultStop →
      ∃ t, exec (.applyExecute true) s = .next t ∧ t.sch = { s.sch with applyFrozen := true, st := .frozen } ∧
        Changes [.sch] s t) ∧
    (applyIsFrozen s = true → s.sch.st = .idle ∨ s.sch.st = .faultStop →
      exec (.applyExecute true) s = .next { s with sch := { s.sch with applyFrozen := true } }) ∧
    (applyIsFrozen s = false →
      ∃ t, exec (.applyExecute true) s = .next t ∧ t.fld Reg.SCH_APPLY 8 8 = 0 ∧ t.bit Reg.SCH_APPLY 16 = true ∧
        t.pendBit 0x085 = true ∧ t.sch.applyT = none ∧ t.sch.applyFrozen = false ∧
        (s.staged.any = true → t.staged = {} ∧ t.img.digest = s.staged.digest.getD s.img.digest ∧ t.img.prevDigest =
          s.img.digest ∧
          t.img.appliedAt = nextNum s ∧ t.img.patched = true) ∧ Changes [.regs, .freeCtr, .out, .host, .clu, .sch, .img,
            .staged, .mem, .ast, .lks, .pwr, .ldg] s t)) ∧
  (∀ (T : Word64) (s : State), s.up = true → s.sch.applyT = some T → s.sch.applyFrozen = true →
    ∃ t, exec .frozenApplyDone s = .next t ∧ t.fld Reg.SCH_APPLY 8 8 = 0 ∧ t.bit Reg.SCH_APPLY 16 = true ∧
      t.pendBit 0x085 = true ∧ t.sch.applyT = none ∧ t.sch.applyFrozen = false ∧
      (s.staged.any = true → t.staged = {} ∧ t.img.route = s.staged.route.getD s.img.route ∧
        t.img.slotHbd = s.staged.slotHbd.getD s.img.slotHbd ∧ t.img.slotLane = s.staged.slotLane.getD s.img.slotLane ∧
        t.img.probe = s.staged.probe.getD s.img.probe ∧ t.img.appliedAt = nextNum s ∧ t.img.patched = true) ∧
      Changes [.regs, .freeCtr, .out, .host, .clu, .sch, .img, .staged, .mem, .ast, .lks, .pwr, .ldg] s t) ∧
  (∀ (intact : Bool) (s : State), s.up = true →
    (s.sch.applyT = none → exec (.applyExecute intact) s = .next s ∧ exec .frozenApplyDone s = .next s) ∧
    (s.sch.applyFrozen = true ∨ s.sch.exec.isSome = true ∨ s.sch.phase ≠ .start ∨ s.U ≠ 0 ∨ s.sch.ckptCopy.isSome = true ∨
      s.sch.st = .rewind ∨ (∀ T, s.sch.applyT = some T → cycLe (T - 1) s.sch.committed = false) →
      exec (.applyExecute intact) s = .next s) ∧
    (s.sch.applyFrozen = false → exec .frozenApplyDone s = .next s))

/-- Checkpoints and rewinds: A NOW request stands until the next commit; outside HOLD and RUN it does nothing, and during an
install it is dropped. The end of a copy makes its slot hold the state that the copy took and leaves its event pending; a copy
that has met a read error, a parity failure of a bank or an uncorrected error fails and changes no slot. A rewind begins from
PAUSED or FAULT_STOP to a valid slot, is refused with NOT_OWNER when its writer no longer owns, with BUSY elsewhere and with
RESOURCE for a slot that is not valid; it ends with OK at the slot's cycle, paused, or with CRC_FAIL and the state from
before. (R109, R111, R112, R113, R114, R165, R186, R209, R375, R442, spec/03_design_cycle.md) -/
def Obligations.CheckpointsAndRewinds : Prop :=
  (∀ (path : Path) (s : State), s.up = true → accepts path Reg.SCH_CKPT_CTRL (s.reg Reg.SCH_CKPT_CTRL ||| 0x10000) s →
    (installBusy s = false → ∃ t, exec (.checkpointNow path) s = .next t ∧
      t.sch = { s.sch with ckptNow := s.sch.ckptNow || s.pwr.mode == .on } ∧
      RegsBut [Reg.SCH_CKPT_CTRL] s t ∧ Changes [.regs, .host, .sch] s t) ∧
    (installBusy s = true → ∃ t, exec (.checkpointNow path) s = .next t ∧ t.bit Reg.SCH_LOAD_STATUS 19 = true ∧
      RegsBut [Reg.SCH_LOAD_STATUS] s t ∧ Changes [.regs, .host] s t)) ∧
  (∀ (c : CkptCopy) (readError bad : Bool) (marked : Nat → Bool) (s : State), s.up = true → s.sch.ckptCopy = some c →
    (marked = fun k => c.hbm && ckptMarked s k) → bad = (readError || (c.banks && !s.mem.bankBad.isEmpty) || eccFatal marked s) →
    (bad = false →
      ∃ t v, v = copyEcc marked { s with sch := { s.sch with ckptCopy := none } } ∧
        exec (.checkpointDone readError) s = .next t ∧ t.sch.ckptCopy = none ∧
        mget t.sch.slots {} c.slot = ckptCapture c v ∧
        (∀ k, k ≠ c.slot → mget t.sch.slots {} k = mget s.sch.slots {} k) ∧
        t.fld Reg.SCH_CKPT_STATUS 7 6 = c.slot % 64 ∧ t.pendBit 0x086 = true ∧
        t.mem.hbmErr = s.mem.hbmErr.filter (fun p => !inSlot v c.base c.size (4 * p.1)) ∧
        (s.mem.hbmErr = [] → RegsBut [Reg.SCH_CKPT_STATUS, pendReg 0x086] s t) ∧
        Changes [.regs, .out, .host, .sch, .mem, .pwr, .ldg] s t) ∧
    (bad = true → ∃ t, exec (.checkpointDone readError) s = .next t ∧ t.sch.ckptCopy = none ∧ t.sch.slots = s.sch.slots ∧
      t.bit Reg.SCH_CKPT_STATUS 13 = true ∧ t.pendBit 0x087 = true ∧
      (c.banks = true → s.mem.bankBad ≠ [] → t.bit Reg.MEM_CAUSE 4 = true ∧ t.pendBit 0x2E4 = true) ∧
      (eccFatal marked s = true → t.bit Reg.MEM_CAUSE 5 = true ∧ t.pendBit 0x2E5 = true) ∧
      Changes [.regs, .out, .host, .sch, .pwr, .ldg] s t)) ∧
  (∀ (readError crcOk : Bool) (s : State), s.up = true →
    (s.sch.ckptCopy = none → exec (.checkpointDone readError) s = .next s) ∧
    (s.sch.rewindSlot = none → exec (.rewindDone crcOk) s = .next s)) ∧
  (∀ (path : Path) (slot : BitVec 6) (owns : Bool) (s : State), s.up = true →
    accepts path Reg.SCH_REWIND (BitVec.ofNat 32 (128 + slot.toNat)) s →
    (installBusy s = true → ∃ t, exec (.rewindGo ⟨path, owns⟩ slot) s = .next t ∧ t.bit Reg.SCH_LOAD_STATUS 19 = true ∧
      RegsBut [Reg.SCH_LOAD_STATUS] s t ∧ Changes [.regs, .host] s t) ∧
    (installBusy s = false → owns = true → s.pwr.mode = .on → (s.sch.st = .paused ∨ s.sch.st = .faultStop) →
      s.sch.ckptCopy = none → s.sch.rewindSlot = none → (mget s.sch.slots {} slot.toNat).valid = true →
      ∃ t, exec (.rewindGo ⟨path, owns⟩ slot) s = .next t ∧
        t.sch = { s.sch with rewindSlot := some slot.toNat, rewindFrom := s.sch.st, st := .rewind } ∧
        t.bit Reg.SCH_REWIND 16 = false ∧ RegsBut [Reg.SCH_REWIND] s t ∧ Changes [.regs, .host, .sch] s t) ∧
    (∀ st, installBusy s = false → (owns = false ∧ st = 3) ∨
      (owns = true ∧ (s.pwr.mode ≠ .on ∨ (s.sch.st ≠ .paused ∧ s.sch.st ≠ .faultStop) ∨ s.sch.ckptCopy.isSome = true ∨
        s.sch.rewindSlot.isSome = true) ∧ st = 9) ∨
      (owns = true ∧ s.pwr.mode = .on ∧ (s.sch.st = .paused ∨ s.sch.st = .faultStop) ∧ s.sch.ckptCopy = none ∧ s.sch.rewindSlot = none ∧
        (mget s.sch.slots {} slot.toNat).valid = false ∧ st = 12) →
      ∃ t, exec (.rewindGo ⟨path, owns⟩ slot) s = .next t ∧ t.fld Reg.SCH_REWIND 8 8 = st ∧ t.bit Reg.SCH_REWIND 16 = true ∧
        t.pendBit 0x088 = true ∧ RegsBut [Reg.SCH_REWIND, pendReg 0x088] s t ∧ Changes [.regs, .out, .host] s t)) ∧
  (∀ (k : Nat) (c : CkptSlot) (crcOk bad : Bool) (s u : State), s.up = true → s.sch.rewindSlot = some k →
    c = mget s.sch.slots {} k → bad = (!crcOk || slotDamaged c s) → u = copyEcc (inSlot s c.base c.size) s →
    (bad = false → ∃ t v, v = rewound k c u ∧ t = rewindEnd 0 (throttlePoint (reopen v)) ∧ exec (.rewindDone crcOk) s = .next t ∧
      v.sch.committed = c.num ∧ v.sch.highest = c.num ∧ v.sch.cycles = [] ∧ v.sch.st = .paused ∧ v.sch.opened = none ∧ v.wave.c = c.num ∧ v.clu.predLast = c.last ∧ v.clu.copies = c.stateBits ∧ v.paused = true ∧
      t.sch.rewindSlot = none ∧ t.fld Reg.SCH_REWIND 8 8 = 0 ∧ t.bit Reg.SCH_REWIND 16 = true ∧
      t.pendBit 0x088 = true ∧ Changes [.regs, .clock, .freeCtr, .out, .host, .clu, .sch, .wave, .mem, .hbd, .lnk, .dsp, .bnt,
        .tim, .glv, .ast, .lks, .pwr, .ldg] s t) ∧
    (bad = true → ∃ t, exec (.rewindDone crcOk) s = .next t ∧ t.sch.rewindSlot = none ∧
      (s.sch.rewindFrom = .faultStop → t.sch = { s.sch with rewindSlot := none, st := .faultStop }) ∧
      (s.sch.rewindFrom = .paused → s.sch.applyFrozen = false → s.sch.ckptCopy = none → s.sch.exec = none →
        t.sch = { s.sch with rewindSlot := none, st := if s.paused then .paused else .running }) ∧
      t.fld Reg.SCH_REWIND 8 8 = 7 ∧ t.bit Reg.SCH_REWIND 16 = true ∧ t.pendBit 0x088 = true ∧
      (s.mem.hbmErr = [] → RegsBut [Reg.SCH_REWIND, pendReg 0x088] s t) ∧
      Changes [.regs, .out, .host, .sch, .pwr, .ldg] s t))

/-- What a commit-wave message does as it arrives: A legal message that an accepted group has brought to its port is
forwarded along the tree and applied here (in FAULT_STOP forwarded alone); an illegal one, or one on a wrong port, is a
protocol error; without an image, or on a port that carries no design traffic, it is lost. A message inside the cycle
controller arrives a clock after it was issued. At the conductor a READY of the present generation in its window is recorded
and any other counts, and a squash advances the generation and drops the READYs, of which those of its own clock count too; a clock that begins with every READY of the
next cycle issues its COMMIT. At a module the COMMIT of the next cycle that is READY waits for the next clock, in which it
commits the cycle; one for a cycle that has committed only counts, and one out of turn is a protocol error; a relay takes its
generation over. (R128, R130, R131, R133, R137, R139, R140, R142, R143, R144, R492, spec/04_speculation.md) -/
def Obligations.CommitWaveMessages : Prop :=
  (∀ (c : Instr) (ty : Nat) (p : BitVec 4) (m : Word64) (s u : State), s.up = true →
    (c, ty) ∈ [(Instr.readyReceive (.lane p) m, 1), (.commitReceive (.lane p) m, 2), (.squashReqReceive (.lane p) m,
      3),
      (.squashRelayReceive (.lane p) m, 4)] → u = laneTake p.toNat (.wave [m]) s →
    (wmType m ≠ ty → 1 ≤ wmType m → wmType m ≤ 4 → exec c s = .next s) ∧
    (laneHas s p.toNat (.wave [m]) = false → exec c s = .next s) ∧
    (laneHas s p.toNat (.wave [m]) = true → (wmType m = ty ∨ wmType m = 0 ∨ 4 < wmType m) →
      ((s.img.valid && carriesDesign u p.toNat) = false → exec c s = .next u) ∧
      ((s.img.valid && carriesDesign u p.toNat) = true → (wmLegal m && rightPort s p m) = true →
        (s.sch.st ≠ .faultStop → exec c s = .next (applyWave m (forward m u))) ∧
        (s.sch.st = .faultStop → exec c s = .next (forward m u))) ∧
      ((s.img.valid && carriesDesign u p.toNat) = true → (wmLegal m && rightPort s p m) = false →
        (s.sch.st = .faultStop → exec c s = .next u) ∧
        (s.sch.st ≠ .faultStop → ∃ t, exec c s = .next t ∧ t.sch.st = .faultStop ∧ t.pendBit 0x094 = true ∧
          t.pendBit 0x080 = true ∧
          Changes [.regs, .out, .host, .clu, .sch, .wave, .mem, .lnk, .dsp, .pwr, .ldg] s t)))) ∧
  (∀ (c : Instr) (ty : Nat) (m : Word64) (s : State), s.up = true →
    (c, ty) ∈ [(Instr.readyReceive .internal m, 1), (.commitReceive .internal m, 2), (.squashReqReceive .internal m, 3),
      (.squashRelayReceive .internal m, 4)] →
    ((wmType m ≠ ty ∧ 1 ≤ wmType m ∧ wmType m ≤ 4) ∨ s.wave.selfMsgs.any (fun q => q.2 == m) = false →
      exec c s = .next s) ∧
    (∀ t, (wmType m = ty ∨ wmType m = 0 ∨ 4 < wmType m) → s.wave.selfMsgs.any (fun q => q.2 == m) = true →
      clocksUntil 4 (fun u => !u.wave.selfMsgs.any (fun q => q.2 == m)) s = some t → exec c s = .next t)) ∧
  (∀ (m : Word64) (s : State), isConductor s = true →
    (goesUp m = true → forward m s = s) ∧
    (∀ n, n = wmCycle m s.wave.c → wmType m = 1 →
      (wmGen m = s.wave.condGen ∧ 1 ≤ (n - s.wave.c).toNat ∧ (n - s.wave.c).toNat ≤ 3 →
        (s.wave.readys.contains (n, wmOrigin m) = false →
          applyWave m s = { s with wave := { s.wave with
            readys := s.wave.readys ++ [(n, wmOrigin m)]
            readyNow := (s.clock, if s.wave.readyNow.1 = s.clock then s.wave.readyNow.2 + 1 else 1) } }) ∧
        (s.wave.readys.contains (n, wmOrigin m) = true → applyWave m s = s)) ∧
      (¬ (wmGen m = s.wave.condGen ∧ 1 ≤ (n - s.wave.c).toNat ∧ (n - s.wave.c).toNat ≤ 3) →
        applyWave m s = spcAdd 14 1 s)) ∧
    (∀ u, u = (if s.wave.readyNow.1 = s.clock then spcAdd 14 s.wave.readyNow.2 s else s) →
      wmType m = 3 → ∃ t, t = applyWave m s ∧ t.wave.condGen = s.wave.condGen + 1 ∧ t.wave.readys = [] ∧ t.wave.c = s.wave.c ∧
      t.wave.selfMsgs = s.wave.selfMsgs ++ [(s.clock, waveMsg 4 (wmCause m) (wmOrigin m) (s.wave.condGen + 1)
        (if cycLt s.wave.c (wmCycle m s.wave.c) then wmCycle m s.wave.c else s.wave.c + 1))] ∧
      Changes [.out, .wave, .lnk] u t)) ∧
  (∀ (s : State),
    ((s.img.valid && isConductor s && s.sch.st != .faultStop && condComplete s) = true → ∃ t, t = condIssue s ∧
      t.wave.c = s.wave.c + 1 ∧ t.wave.readys = s.wave.readys.filter (fun r => r.1 != s.wave.c + 1) ∧
      t.wave.selfMsgs = s.wave.selfMsgs ++ [(s.clock, waveMsg 2 0 s.wave.module s.wave.condGen (s.wave.c + 1))] ∧
      Changes [.out, .wave, .lnk] s t) ∧
    ((s.img.valid && isConductor s && s.sch.st != .faultStop && condComplete s) = false → condIssue s = s)) ∧
  (∀ (m n next : Word64) (s : State), wmType m = 2 → n = wmCycle m s.sch.committed →
    next = s.sch.committed + BitVec.ofNat 64 (s.sch.commitQ.length + b2n s.wave.lateHeld + 1) →
    (cycLe n s.sch.committed = true → applyWave m s = spcAdd 15 1 s) ∧
    (cycLe n s.sch.committed = false → cycLt n next = true → applyWave m s = s) ∧
    (cycLe n s.sch.committed = false → cycLt n next = false → n ≠ next → applyWave m s = protocolError s) ∧
    (cycLe n s.sch.committed = false → cycLt n next = false → n = next →
      (∀ c, s.sch.cycles.find? (fun c => c.num == n) = some c →
        (c.st = .ready → applyWave m s = applyCommit s) ∧ (c.st ≠ .ready → applyWave m s = protocolError s)) ∧
      (s.sch.cycles.find? (fun c => c.num == n) = none →
        (cycLt s.sch.hiFinished n = true → applyWave m s = protocolError s) ∧
        (cycLt s.sch.hiFinished n = false → applyWave m s = applyCommit s)))) ∧
  (∀ (c : CycRec) (rest : List CycRec) (q : Word64) (waiting : List Word64) (k : Nat) (s : State),
    s.sch.cycles = c :: rest → c.num = s.sch.committed + 1 → s.sch.commitQ = q :: waiting → s.wave.lateHeld = false →
    commitWaits s = false →
    ∃ t, commitQueued (k + 1) s = commitQueued k t ∧ t.sch.committed = c.num ∧ t.sch.comCopy = c.copy ∧
      t.sch.cycles = s.sch.cycles.filter (fun d => d.num != c.num) ∧ t.sch.commitQ = waiting ∧
      Changes [.regs, .out, .host, .sch, .mem, .lnk, .dsp, .glv, .ast, .lks, .pwr] s t) ∧
  (∀ (m : Word64) (s : State), wmType m = 4 → ∃ t, t = applyWave m s ∧ t.wave.gen = wmGen m ∧
    t.wave.relays = s.wave.relays ++ [{ cycle := wmCycle m s.sch.committed, origin := wmOrigin m, gen := wmGen m }] ∧
    t.wave.relaysDue = (if wmOrigin m = s.wave.module then s.wave.relaysDue - 1 else s.wave.relaysDue) ∧
    t.sch.committed = s.sch.committed ∧ Changes [.regs, .out, .host, .sch, .wave, .mem, .lnk, .dsp] s t) ∧
  (∀ (s : State), s.up = true →
    (s.img.valid = true → isConductor s = true → s.fld Reg.SCH_WAVE_TIMEOUT 0 16 ≠ 0 → s.wave.timedOut ≠ some
      (s.wave.c + 1) →
      (∃ j, j < 64 ∧ s.wave.members.getLsbD j = true ∧ s.wave.readys.contains (s.wave.c + 1, BitVec.ofNat 6 j) =
        false) →
      ∃ t, exec .waveTimeout s = .next t ∧ t.wave = { s.wave with timedOut := some (s.wave.c + 1) } ∧ t.pendBit 0x093
        = true ∧
        RegsBut [pendReg 0x093] s t ∧ Changes [.regs, .out, .host, .wave] s t) ∧
    ((s.img.valid = false ∨ isConductor s = false ∨ s.fld Reg.SCH_WAVE_TIMEOUT 0 16 = 0 ∨
      s.wave.timedOut = some (s.wave.c + 1) ∨ condComplete s = true) → exec .waveTimeout s = .next s))

/-- The REQUEST phase of the loader: A request that passes goes on to HEADER with DONE cleared. One that fails ends with
its status, DONE and its event. A DISCARD empties the staged content, of the image and of Aster. While a load runs GO does
nothing. (R161, R165, R168, R171, R431, R442, R458, spec/05_compiler_contract.md) -/
def Obligations.LoadRequests : Prop :=
  (∀ (c : Instr) (path : Path) (owns stage : Bool) (val : Word32) (code : Nat) (s : State), s.up = true → s.load.busy
    = false →
    ((c = .loadInstall path owns ∧ val = 1 ∧ stage = false ∧ code = installRequest s owns) ∨
      (c = .loadStage path owns ∧ val = 3 ∧ stage = true ∧ code = stageRequest s owns)) →
    accepts path Reg.SCH_LOAD_CTRL val s →
    (code = 0 → ∃ t, exec c s = .next t ∧ t.load = { s.load with busy := true, stage := stage, phase := .header } ∧
      t.bit Reg.SCH_LOAD_STATUS 1 = false ∧ t.fld Reg.SCH_LOAD_CTRL 1 2 = b2n stage ∧
      RegsBut [Reg.SCH_LOAD_CTRL, Reg.SCH_LOAD_STATUS] s t ∧ Changes [.regs, .host, .load] s t) ∧
    (code ≠ 0 → ∃ t, exec c s = .next t ∧ t.load.busy = false ∧ t.fld Reg.SCH_LOAD_STATUS 8 8 = code ∧
      t.bit Reg.SCH_LOAD_STATUS 1 = true ∧ t.reg Reg.SCH_LOAD_DETAIL = 0 ∧ t.reg Reg.SCH_LOAD_WHERE = 0 ∧ t.pendBit
        0x0A0 = true ∧
      RegsBut [Reg.SCH_LOAD_CTRL, Reg.SCH_LOAD_STATUS, Reg.SCH_LOAD_DETAIL, Reg.SCH_LOAD_WHERE, pendReg 0x0A0] s t ∧
      Changes [.regs, .out, .host, .load] s t)) ∧
  (∀ (path : Path) (s : State), s.up = true → s.load.busy = false → accepts path Reg.SCH_LOAD_CTRL 5 s →
    (s.pwr.mode = .on → s.sch.applyT = none →
      ∃ t, exec (.loadDiscard path) s = .next t ∧ t.staged = {} ∧ t.ast = { s.ast with staged := false } ∧
        t.fld Reg.SCH_LOAD_STATUS 8 8 = 0 ∧
        t.bit Reg.SCH_LOAD_STATUS 1 = true ∧ t.pendBit 0x0A0 = true ∧
        RegsBut [Reg.SCH_LOAD_CTRL, Reg.SCH_LOAD_STATUS, Reg.SCH_LOAD_DETAIL, Reg.SCH_LOAD_WHERE, pendReg 0x0A0] s t ∧
        Changes [.regs, .out, .host, .staged, .load, .ast] s t) ∧
    (s.pwr.mode ≠ .on ∨ s.sch.applyT.isSome = true →
      ∃ t, exec (.loadDiscard path) s = .next t ∧ t.fld Reg.SCH_LOAD_STATUS 8 8 = 9 ∧ t.bit Reg.SCH_LOAD_STATUS 1 =
        true ∧ t.pendBit 0x0A0 = true ∧
        RegsBut [Reg.SCH_LOAD_CTRL, Reg.SCH_LOAD_STATUS, Reg.SCH_LOAD_DETAIL, Reg.SCH_LOAD_WHERE, pendReg 0x0A0] s t ∧
        Changes [.regs, .out, .host, .load] s t)) ∧
  (∀ (path : Path) (owns : Bool) (s : State), s.up = true → s.load.busy = true →
    (accepts path Reg.SCH_LOAD_CTRL 1 s → exec (.loadInstall path owns) s = .next (markDirty Reg.SCH_LOAD_CTRL s)) ∧
    (accepts path Reg.SCH_LOAD_CTRL 3 s → exec (.loadStage path owns) s = .next (markDirty Reg.SCH_LOAD_CTRL s)) ∧
    (accepts path Reg.SCH_LOAD_CTRL 5 s → exec (.loadDiscard path) s = .next (markDirty Reg.SCH_LOAD_CTRL s)))

/-- HEADER, KEY, VERIFY and WRITE of a load: A phase that passes goes on to the next one. A failed check ends the load
with the status, detail and place of the check that comes first, and leaves its event pending; so do a DMA read that fails
and an internal failure. The WRITE phase of an install begins with the discard of the old image, of its grants and keys, and
with a new HBM key; it ends with the new image installed and the module paused before cycle 1, from where the start point of
cycle 1 is reached with every counter at 0, and ends a debug unlock made with no image; a stage load ends with the content staged. A phase event that does not belong to the load's phase, or
whose plaintext is not the section table's, does nothing; Bonnet judges what waited for the end of KEY. (R82, R83, R102, R161, R162, R163, R164, R403, R404, R414,
spec/05_compiler_contract.md, spec/15_bonnet_security.md) -/
def Obligations.LoadPhases : Prop :=
  (∀ (h : List Byte) (internal : Bool) (fails : List ImgFail) (s : State), s.up = true → s.load.busy = true →
    s.load.phase = .header →
    fails = imgHeaderFails s h (loadLen s) s.load.stage ++
      when internal { status := 15, kind := 0, sec := 0, loc := 0, order := 0 } →
    (firstFail fails = none →
      exec (.loadHeaderDone h ⟨none, internal⟩) s = .next { s with load := { s.load with phase := .key, header := h } }) ∧
    (∀ f, firstFail fails = some f →
      ∃ t, exec (.loadHeaderDone h ⟨none, internal⟩) s = .next t ∧ t.load = { s.load with busy := false, header := [] } ∧
        t.fld Reg.SCH_LOAD_STATUS 8 8 = f.status % 256 ∧ t.bit Reg.SCH_LOAD_STATUS 1 = true ∧
        t.reg Reg.SCH_LOAD_DETAIL = BitVec.ofNat 32 (2 ^ 28 * f.kind + 2 ^ 24 * f.sec) ∧
        t.reg Reg.SCH_LOAD_WHERE = BitVec.ofNat 32 f.loc ∧ t.pendBit 0x0A0 = true ∧
        RegsBut [Reg.SCH_LOAD_STATUS, Reg.SCH_LOAD_DETAIL, Reg.SCH_LOAD_WHERE, pendReg 0x0A0] s t ∧
        Changes [.regs, .out, .host, .load] s t) ∧
    (∀ o : Word32, ∃ t, exec (.loadHeaderDone h ⟨(some o), internal⟩) s = .next t ∧
      t.load = { s.load with busy := false, header := [] } ∧ t.fld Reg.SCH_LOAD_STATUS 8 8 = 15 ∧
      t.bit Reg.SCH_LOAD_STATUS 1 = true ∧ t.reg Reg.SCH_LOAD_DETAIL = 0xB0000000 ∧ t.reg Reg.SCH_LOAD_WHERE = o ∧
      t.pendBit 0x0A0 = true ∧
      RegsBut [Reg.SCH_LOAD_STATUS, Reg.SCH_LOAD_DETAIL, Reg.SCH_LOAD_WHERE, pendReg 0x0A0] s t ∧
      Changes [.regs, .out, .host, .load] s t)) ∧
  (∀ (s : State), s.up = true → s.load.busy = true → s.load.phase = .key →
    (ephOnCurve s.load.header = true →
      exec (.loadKeyDone false) s = .next (bntUnknown 2 { s with load := { s.load with phase := .verify } }) ∧
      ∃ t, exec (.loadKeyDone true) s = .next (bntUnknown 2 t) ∧ t.load = { s.load with busy := false, header := [] } ∧
        t.fld Reg.SCH_LOAD_STATUS 8 8 = 15 ∧ t.bit Reg.SCH_LOAD_STATUS 1 = true ∧ t.reg Reg.SCH_LOAD_DETAIL = 0 ∧
        t.reg Reg.SCH_LOAD_WHERE = 0 ∧ t.pendBit 0x0A0 = true ∧
        RegsBut [Reg.SCH_LOAD_STATUS, Reg.SCH_LOAD_DETAIL, Reg.SCH_LOAD_WHERE, pendReg 0x0A0] s t ∧
        Changes [.regs, .out, .host, .load] s t) ∧
    (∀ x, ephOnCurve s.load.header = false →
      ∃ t, exec (.loadKeyDone x) s = .next (bntUnknown 2 t) ∧ t.load = { s.load with busy := false, header := [] } ∧
        t.fld Reg.SCH_LOAD_STATUS 8 8 = 1 ∧ t.bit Reg.SCH_LOAD_STATUS 1 = true ∧
        t.reg Reg.SCH_LOAD_DETAIL = 0x10000000 ∧ t.reg Reg.SCH_LOAD_WHERE = 0xB0 ∧ t.pendBit 0x0A0 = true ∧
        RegsBut [Reg.SCH_LOAD_STATUS, Reg.SCH_LOAD_DETAIL, Reg.SCH_LOAD_WHERE, pendReg 0x0A0] s t ∧
        Changes [.regs, .out, .host, .load] s t)) ∧
  (∀ (body : ImageBody) (pass : PassResult) (fails : List ImgFail) (s : State), s.up = true → s.load.busy = true →
    s.load.phase = .verify → bodyFits s.clusters s.load.header body = true →
    fails = (if s.load.stage then stageFails s s.load.header body pass else installFails s s.load.header body pass) →
    (s.load.stage = true → firstFail fails = none →
      exec (.loadVerifyDone body pass) s = .next { s with load := { s.load with phase := .write } }) ∧
    (s.load.stage = false → firstFail fails = none →
      ∃ t, exec (.loadVerifyDone body pass) s = .next t ∧
        t.load = { s.load with phase := .write, invalidFlag := true } ∧ t.img = {} ∧ t.staged = {} ∧ t.sch.st = .idle
          ∧
        t.sch.cycles = [] ∧ t.sch.exec = none ∧ t.bnt.grants = [] ∧ t.bnt.debugUnlock = false ∧
        t.bnt.kImg = some (imageKeys s.ident s.load.header).1 ∧ t.mem.banks = [] ∧ t.mem.hbm = [] ∧
        t.mem.hbmKey = s.mem.hbmKey + 1 ∧ t.dsp.msgs = [] ∧ Changes [.regs, .freeCtr, .out, .host, .clu, .sch, .img,
          .staged, .load, .mem, .hbd, .lnk, .dsp, .bnt, .tim, .glv, .ast, .lks, .pwr] s t) ∧
    (∀ f, firstFail fails = some f →
      ∃ t, exec (.loadVerifyDone body pass) s = .next t ∧ t.load = { s.load with busy := false, header := [] } ∧
        t.fld Reg.SCH_LOAD_STATUS 8 8 = f.status % 256 ∧ t.bit Reg.SCH_LOAD_STATUS 1 = true ∧
        t.reg Reg.SCH_LOAD_DETAIL = BitVec.ofNat 32 (2 ^ 28 * f.kind + 2 ^ 24 * f.sec) ∧
        t.reg Reg.SCH_LOAD_WHERE = BitVec.ofNat 32 f.loc ∧ t.pendBit 0x0A0 = true ∧
        RegsBut [Reg.SCH_LOAD_STATUS, Reg.SCH_LOAD_DETAIL, Reg.SCH_LOAD_WHERE, pendReg 0x0A0] s t ∧
        Changes [.regs, .out, .host, .load] s t)) ∧
  (∀ (body : ImageBody) (pass : PassResult) (fails : List ImgFail) (s : State), s.up = true → s.load.busy = true →
    s.load.phase = .write → bodyFits s.clusters s.load.header body = true →
    fails = tagFails (if s.load.stage then (imageKeys s.ident s.load.header).1 else s.bnt.kImg.getD 0) s.clusters s.load.header
      body pass ++ internalFails s.load.header pass →
    (firstFail fails = none →
      (s.load.stage = true → ∃ t, exec (.loadWriteDone body pass) s = .next t ∧
        t.staged = mergeStaged s s.load.header body ∧ t.load = { s.load with busy := false, header := [] } ∧
        t.fld Reg.SCH_LOAD_STATUS 8 8 = 0 ∧ t.bit Reg.SCH_LOAD_STATUS 1 = true ∧
        t.pendBit 0x0A0 = true ∧
        RegsBut [Reg.SCH_LOAD_STATUS, Reg.SCH_LOAD_DETAIL, Reg.SCH_LOAD_WHERE, pendReg 0x0A0] s t ∧
        Changes [.regs, .out, .host, .staged, .load] s t) ∧
      (s.load.stage = false → ∃ t v, v = atInstall (writeImage s.load.header body s) ∧
        t = imgLoadEnd none (throttlePoint (clearCounters (reopen v))) ∧ exec (.loadWriteDone body pass) s = .next t ∧
        v.img.n = hN s.load.header ∧ v.img.digest = hDigest s.load.header ∧ v.img.valid = true ∧ t.img = v.img ∧
        v.sch.st = .paused ∧ v.paused = true ∧ v.sch.committed = 0 ∧ v.sch.highest = 0 ∧ v.wave.gen = 0 ∧ v.wave.c = 0 ∧
        v.mem.banks = msetAll [] 0 body.bankInit ∧
        v.clu.tier = msetAll [] nopWord (body.instr.map (fun p => (tierKey p.1, p.2))) ∧
        v.clu.copies = msetAll [] false body.stateInit ∧ t.load.busy = false ∧ t.load.invalidFlag = false ∧
        t.fld Reg.SCH_LOAD_STATUS 8 8 = 0 ∧ t.bit Reg.SCH_LOAD_STATUS 1 = true ∧ t.pendBit 0x0A0 = true ∧
        (∀ o, clearedCounter o = true → t.reg o = resetVal o) ∧
        (s.bnt.debugNoImage = true → t.bnt.debugUnlock = false) ∧ (s.bnt.debugNoImage = false → t.bnt.debugUnlock = s.bnt.debugUnlock) ∧
        Changes [.regs, .clock, .freeCtr, .out, .host, .clu, .sch, .wave, .img, .load, .mem, .hbd, .lnk, .dsp, .bnt, .tim, .glv,
          .ast, .lks, .pwr, .ldg] s t)) ∧
    (∀ f, firstFail fails = some f →
      ∃ t, exec (.loadWriteDone body pass) s = .next t ∧ t.load = { s.load with busy := false, header := [] } ∧
        t.fld Reg.SCH_LOAD_STATUS 8 8 = f.status % 256 ∧ t.bit Reg.SCH_LOAD_STATUS 1 = true ∧
        t.reg Reg.SCH_LOAD_DETAIL = BitVec.ofNat 32 (2 ^ 28 * f.kind + 2 ^ 24 * f.sec) ∧
        t.reg Reg.SCH_LOAD_WHERE = BitVec.ofNat 32 f.loc ∧ t.pendBit 0x0A0 = true ∧
        (s.load.stage = false → t.pendBit 0x0A1 = true ∧ t.bnt.kImg = none) ∧ (s.load.stage = true → t.bnt = s.bnt) ∧
        RegsBut [Reg.SCH_LOAD_STATUS, Reg.SCH_LOAD_DETAIL, Reg.SCH_LOAD_WHERE, pendReg 0x0A0] s t ∧
        Changes [.regs, .out, .host, .load, .bnt] s t)) ∧
  (∀ (h : List Byte) (o : Option Word32) (body : ImageBody) (pass : PassResult) (x : Bool) (s : State), s.up = true →
    (s.load.busy = false ∨ s.load.phase ≠ .header → exec (.loadHeaderDone h ⟨o, x⟩) s = .next s) ∧
    (s.load.busy = false ∨ s.load.phase ≠ .key → exec (.loadKeyDone x) s = .next (bntUnknown 2 s)) ∧
    (s.load.busy = false ∨ s.load.phase ≠ .verify ∨ bodyFits s.clusters s.load.header body = false →
      exec (.loadVerifyDone body pass) s = .next s) ∧
    (s.load.busy = false ∨ s.load.phase ≠ .write ∨ bodyFits s.clusters s.load.header body = false →
      exec (.loadWriteDone body pass) s = .next s))

/-- Reads, writes and atomic operations of the ports: A read returns the stored word merged with every queued change. A
write makes an entry, or extends the cycle's own, so that the word reads with the enabled bits replaced, an atomic add or
swap one so that it reads as the sum or as the new word, and returns the word from before; no other word reads otherwise.
Where an entry finds no room the queue stays, and the overflow is reported; with all four partitions held already the module
is to stop. An access out of range changes no word, returns 0 and is noted. (R181, R192, R193, R194, R196,
spec/06_design_memory.md) -/
def Obligations.PortMemoryOperations : Prop :=
  (∀ (n : Word64) (a : Access) (q key : Nat) (s : State), memPlace s a.addr = some (q, key) →
    ∃ t, t = memRead n a s ∧ (t.mem.reads.getLast?.map (fun r => r.value)) = some (merged s q key) ∧
      t.mem.reads.length = s.mem.reads.length + 1 ∧ t.mem.queue = s.mem.queue ∧ Changes [.mem] s t) ∧
  (∀ (n : Word64) (a : Access) (q key : Nat) (own : Bool) (s : State), memPlace s a.addr = some (q, key) →
    own = s.mem.queue.any (fun e => e.cyc == n && e.q == q && e.key == key && !e.committed) →
    (own = false → queueFull s n q = false) →
    (own = true → ∃ e, (s.mem.queue.filter (fun e => e.q == q && e.key == key)).getLast? = some e ∧ e.cyc = n ∧
      e.committed = false) →
    (a.wen ≠ 0 → ∃ t, t = memWrite n a s ∧ merged t q key = maskWord (merged s q key) a.wdata a.wen ∧
      (∀ q' k', (q', k') ≠ (q, key) → merged t q' k' = merged s q' k') ∧ t.mem.reads = s.mem.reads ∧ Changes [.mem] s
        t) ∧
    (a.wen = 0 → memWrite n a s = s) ∧
    (a.op = 2 ∨ a.op = 3 → ∃ t, t = memAtomic n a s ∧
      merged t q key = (if a.op = 2 then merged s q key + a.wdata else a.wdata) ∧
      (∀ q' k', (q', k') ≠ (q, key) → merged t q' k' = merged s q' k') ∧
      (t.mem.reads.getLast?.map (fun r => r.value)) = some (merged s q key) ∧ Changes [.mem] s t)) ∧
  (∀ (n : Word64) (a : Access) (q key : Nat) (s : State), memPlace s a.addr = some (q, key) → a.wen ≠ 0 →
    s.mem.queue.any (fun e => e.cyc == n && e.q == q && e.key == key && !e.committed) = false → queueFull s n q = true →
    ∃ t, t = memWrite n a s ∧ t.mem.queue = s.mem.queue ∧
      (s.mem.allFour ≠ some n → t.mem.overflow = some n ∧ t.bit Reg.MEM_CAUSE 0 = true ∧ t.pendBit 0x2E0 = true ∧
        (t.sch.exec.map (fun e => e.mismatch)) = s.sch.exec.map (fun _ => true)) ∧
      (s.mem.allFour = some n → t.sch.fatal = true ∧ t.bit Reg.MEM_CAUSE 1 = true ∧ t.pendBit 0x2E1 = true) ∧
      Changes [.regs, .out, .host, .sch, .mem] s t) ∧
  (∀ (n : Word64) (a : Access) (s : State), memPlace s a.addr = none →
    ∃ note, note = ({ cyc := n, race := false, addr := a.addr, cluster := a.cluster, ctx := a.ctx } : MemNote) ∧
      (memWrite n a s).mem.notes = s.mem.notes ++ [note] ∧ (memWrite n a s).mem.queue = s.mem.queue ∧
      (memRead n a s).mem.notes = s.mem.notes ++ [note] ∧ ((memRead n a s).mem.reads.getLast?.map (fun r => r.value))
        = some 0 ∧
      (memAtomic n a s).mem.notes = s.mem.notes ++ [note] ∧ (memAtomic n a s).mem.queue = s.mem.queue ∧
      ((memAtomic n a s).mem.reads.getLast?.map (fun r => r.value)) = some 0)

/-- RDATA returns, HBM starts, and the apply of committed entries: RDATA_RETURN lets the clocks run until the word of
its context has arrived. An access that has missed its slot starts where no refresh and no other access has its
pseudo-channel, and its word arrives 64 clocks later. The oldest committed entry of a queue is written to its word, and no
committed word reads otherwise for it; a bank whose port A reads the word defers it and counts, one whose port B has begun a
write in the clock, and a pseudo-channel that is taken, that a read's slot needs or that an apply has asked for, defer it, and an uncorrected HBM error stops the module. Where nothing
is outstanding nothing happens. (R73, R95, R187, R189, R195, R206, R207, R208, R209, spec/06_design_memory.md) -/
def Obligations.WordsReturnAndEntriesApply : Prop :=
  (∀ (cluster : BitVec 8) (ctx : BitVec 3) (n : Nat) (s : State), s.up = true → n ≤ 256 →
    (∀ i, i < n → (clockTick^[i] s).mem.reads.any (fun r => r.cluster == cluster.toNat && r.ctx == ctx.toNat) = true)
      →
    (clockTick^[n] s).mem.reads.any (fun r => r.cluster == cluster.toNat && r.ctx == ctx.toNat) = false →
    exec (.rdataReturn cluster ctx) s = .next (clockTick^[n] s)) ∧
  (∀ (cluster : BitVec 8) (ctx : BitVec 3) (s : State), s.up = true →
    (∀ i, i ≤ 256 → (clockTick^[i] s).mem.reads.any (fun r => r.cluster == cluster.toNat && r.ctx == ctx.toNat) = true) →
    exec (.rdataReturn cluster ctx) s = .next s) ∧
  (∀ (k : Nat) (s : State), ∃ t, t = readArrivals k s ∧
    (∀ r, r ∈ s.mem.reads → r.stage = .arriving k → (8 * r.cluster + r.ctx, r.value) ∈ t.clu.rdArriving ∧ r ∉
      t.mem.reads) ∧
    (∀ r, r ∈ s.mem.reads → r.stage ≠ .arriving k → r ∈ t.mem.reads) ∧ Changes [.clu, .mem] s t) ∧
  (∀ (cluster : BitVec 8) (ctx : BitVec 3) (s : State), s.up = true →
    (∀ r, s.mem.reads.find? (fun r => r.cluster == cluster.toNat && r.ctx == ctx.toNat && r.stage == .hbmMissed) =
      some r →
      (s.clock < mget s.mem.pcBusy 0 (pcOf (r.key.getD 0)) → exec (.hbmAccessStart cluster ctx) s = .next s) ∧
      (mget s.mem.pcBusy 0 (pcOf (r.key.getD 0)) ≤ s.clock → s.sch.fatal = false → eccOf s (r.key.getD 0) ≠ 2 →
        ∃ t, exec (.hbmAccessStart cluster ctx) s = .next t ∧
        t.mem.reads = s.mem.reads.map (fun o => if o = r then { o with stage := .arriving (s.clock + 64) } else o) ∧
        mget t.mem.pcBusy 0 (pcOf (r.key.getD 0)) = s.clock + 1 ∧ t.mem.queue = s.mem.queue ∧
        (eccOf s (r.key.getD 0) = 1 → t.pendBit 0x2E6 = true ∧ Changes [.regs, .out, .host, .mem, .ldg] s t) ∧
        (eccOf s (r.key.getD 0) ≠ 1 → Changes [.mem] s t)) ∧
      (mget s.mem.pcBusy 0 (pcOf (r.key.getD 0)) ≤ s.clock → s.sch.fatal = true ∨ eccOf s (r.key.getD 0) = 2 →
        ∃ t, exec (.hbmAccessStart cluster ctx) s = .next t ∧ t.sch.st = .faultStop ∧
        (eccOf s (r.key.getD 0) = 2 → t.bit Reg.MEM_CAUSE 5 = true ∧ t.pendBit 0x2E5 = true) ∧
        (s.sch.st ≠ .faultStop → t.pendBit 0x080 = true) ∧ Changes [.regs, .out, .host, .clu,
          .sch, .wave, .mem, .lnk, .dsp, .pwr, .ldg] s t)) ∧
    (s.mem.reads.any (fun r => r.cluster == cluster.toNat && r.ctx == ctx.toNat && r.stage == .hbmMissed) = false →
      exec (.hbmAccessStart cluster ctx) s = .next s)) ∧
  (∀ (q : BitVec 10) (e : QEntry) (s : State), s.up = true → oldestEntry s q.toNat = some e →
    (q.toNat < 512 → portBTaken s (e.key / 8192) = false → readNow s e.key = false →
      ∃ t, exec (.pendingWriteApply q) s = .next t ∧
      mget t.mem.banks 0 e.key = maskWord (mget s.mem.banks 0 e.key) e.data e.mask ∧
      (∀ k, k ≠ e.key → mget t.mem.banks 0 k = mget s.mem.banks 0 k) ∧ t.mem.hbm = s.mem.hbm ∧
      t.mem.queue = s.mem.queue.erase e ∧ t.mem.bWindows = s.mem.bWindows ++ [(e.key, s.clock)] ∧
      (∀ k, committedWord t e.q k = committedWord s e.q k) ∧ Changes [.mem] s t) ∧
    (q.toNat < 512 → portBTaken s (e.key / 8192) = true → exec (.pendingWriteApply q) s = .next s) ∧
    (q.toNat < 512 → portBTaken s (e.key / 8192) = false → readNow s e.key = true →
      exec (.pendingWriteApply q) s = .next (memCnt 1 1 s)) ∧
    (512 ≤ q.toNat → scheduledPc s (pcOf e.key) = true ∨ s.clock < mget s.mem.pcBusy 0 (pcOf e.key) ∨
      s.mem.pcReqs.contains (pcOf e.key, 1) = true → exec (.pendingWriteApply q) s = .next s) ∧
    (512 ≤ q.toNat → scheduledPc s (pcOf e.key) = false → mget s.mem.pcBusy 0 (pcOf e.key) ≤ s.clock →
      s.mem.pcReqs.contains (pcOf e.key, 1) = false →
      (eccOf s e.key ≠ 2 → ∃ t, exec (.pendingWriteApply q) s = .next t ∧
        mget t.mem.hbm none e.key = some (maskWord (storedWord s e.q e.key) e.data e.mask) ∧
        (∀ k, k ≠ e.key → mget t.mem.hbm none k = mget s.mem.hbm none k) ∧ t.mem.banks = s.mem.banks ∧
        t.mem.queue = s.mem.queue.erase e ∧ (∀ k, committedWord t e.q k = committedWord s e.q k) ∧
        t.mem.pcReqs = s.mem.pcReqs ++ [(pcOf e.key, 1)] ∧
        (eccOf s e.key = 1 → t.pendBit 0x2E6 = true ∧ Changes [.regs, .out, .host, .mem, .ldg] s t) ∧
        (eccOf s e.key ≠ 1 → Changes [.mem] s t)) ∧
      (eccOf s e.key = 2 → ∃ t, exec (.pendingWriteApply q) s = .next t ∧ t.sch.st = .faultStop ∧
        t.pendBit 0x2E5 = true ∧ (s.sch.st ≠ .faultStop → t.pendBit 0x080 = true) ∧ t.mem.hbm = s.mem.hbm ∧
        Changes [.regs, .out, .host, .clu, .sch, .wave, .mem, .lnk, .dsp, .pwr, .ldg] s t))) ∧
  (∀ (q : BitVec 10) (s : State), s.up = true → oldestEntry s q.toNat = none → exec (.pendingWriteApply q) s = .next
    s)

/-- A refresh that goes beyond its window: A refresh occupies its pseudo-channel for its clocks. Outside every refresh window
MEM_CAUSE takes the cause, it counts, and its event is pending; inside one nothing else happens, and at a pseudo-channel that
the grade lacks nothing happens at all. (R99, R210, R211, R215, spec/06_design_memory.md) -/
def Obligations.RefreshOverrun : Prop :=
  ∀ (pc : BitVec 6) (clocks : Nat) (s m : State), s.up = true →
    m = { s with mem := { s.mem with
      pcBusy := mset s.mem.pcBusy 0 pc.toNat (max (mget s.mem.pcBusy 0 pc.toNat) (s.clock + clocks)) } } →
    (pc.toNat < 32 * s.stacks → insideWindow s = false →
      ∃ t, exec (.refreshOverrun pc clocks) s = .next t ∧ t.mem = m.mem ∧
        t.bit Reg.MEM_CAUSE 6 = true ∧ t.pendBit 0x2E7 = true ∧
        ((s.reg (Reg.MEM_CNT + 24)).toNat < 0xFFFFFFFF → t.reg (Reg.MEM_CNT + 24) = s.reg (Reg.MEM_CNT + 24) + 1) ∧
        RegsBut [Reg.MEM_CAUSE, Reg.MEM_ERR_ADDR, Reg.MEM_ERR_ADDR + 4, Reg.MEM_ERR_INFO, Reg.MEM_CNT + 24,
          Reg.MEM_CNT_SAT,
          pendReg 0x2E7, pendReg 0x2EB] s t ∧ Changes [.regs, .out, .host, .mem] s t) ∧
    (pc.toNat < 32 * s.stacks → insideWindow s = true → exec (.refreshOverrun pc clocks) s = .next m) ∧
    (32 * s.stacks ≤ pc.toNat → exec (.refreshOverrun pc clocks) s = .next s)

/-- Reads and writes of BAR2: A read that a grant covers at a mapped offset waits, and completes with the committed word
under the grant's mask once its bank or its pseudo-channel has fetched it; a bank whose port A is taken or whose word a write
holds is asked again in the next clock; a word in error completes poisoned. An accepted write waits behind a write that its
bank's port B has begun in the clock and behind a read of its word, and leaves the word reading as written, with every committed
entry of its queue applied before. A write that may not be accepted, or that
meets an uncorrected error, is dropped and reported; an access without a grant is denied with its event pending, and one at
an unmapped offset is reported; reads of both return 0. (R186, R187, R189, R190, R199, R200, R201, R202, R206, R209, R412,
spec/06_design_memory.md) -/
def Obligations.Bar2Accesses : Prop :=
  (∀ (fn : PcieFn) (off : BitVec 36) (wide : Bool) (g : Grant) (q key : Nat) (s : State), s.up = true →
    bar2Grant s fn (bar2Off off wide) false = some g → bar2Place s (bar2Off off wide) = some (q, key) →
    exec (.bar2Read fn off wide) s = .next { s with
      mem := { s.mem with bar2 := s.mem.bar2 ++ [{ fn := fn, off := off, wide := wide }] } } ∧
    (∀ rest s', s.mem.bar2 = { fn := fn, off := off, wide := wide } :: rest →
      s' = { s with mem := { s.mem with bar2 := rest } } →
      (q < 512 → portATaken s' (key / 8192) = false → s'.mem.bWindows.contains (key, s'.clock) = false →
        (inBWindow s' key s'.clock = false →
          bar2Fetch q key s' = some { s' with mem := { s'.mem with aReads := s'.mem.aReads ++ [(key, s'.clock)] } }) ∧
        (inBWindow s' key s'.clock = true → bar2Fetch q key s' = bar2Present 4095 key (clockTick (memCnt 1 1 s')))) ∧
      (q < 512 → portATaken s' (key / 8192) = true ∨ s'.mem.bWindows.contains (key, s'.clock) = true →
        bar2Fetch q key s' = bar2Present 4095 key (clockTick s')) ∧
      (512 ≤ q → bar2Fetch q key s' = some { s' with mem := { s'.mem with pcReqs := s'.mem.pcReqs ++ [(pcOf key, 6)] } }) ∧
      (bar2Fetch q key s' = none → exec .bar2ReadComplete s = .next s) ∧
      (∀ u, bar2Fetch q key s' = some u → ∃ w t bad, w = (committedWord u q key).toNat ∧
        bad = (if q < 512 then bankParityBad u key else decide (eccOf u key = 2)) ∧ exec .bar2ReadComplete s = .next t ∧
        t.out.head? = some (.bar2Data fn (BitVec.ofNat 64 (bar2Mask u g (bar2Off off wide) (bar2Width wide)
          (if wide then w else w / 2 ^ (32 * (bar2Off off wide / 4 % 2)) % 2 ^ 32))) bad) ∧
        t.mem = u.mem ∧
        (bad = true → t.bit Reg.MEM_BAR2_STATUS 3 = true ∧ t.pendBit (if q < 512 then 0x2E4 else 0x2E5) = true) ∧
        (512 ≤ q → eccOf u key = 1 → t.pendBit 0x2E6 = true) ∧
        (bad = false → (q < 512 ∨ eccOf u key ≠ 1) → Changes [.out] u t) ∧ Changes [.regs, .out, .host, .ldg] u t))) ∧
  (∀ (s : State), s.up = true → s.mem.bar2 = [] → exec .bar2ReadComplete s = .next s) ∧
  (∀ (fn : PcieFn) (off : BitVec 36) (wide : Bool) (s : State), s.up = true →
    (bar2Grant s fn (bar2Off off wide) false = none ∨ bar2Place s (bar2Off off wide) = none) →
    (∃ t, exec (.bar2Read fn off wide) s = .next t ∧
      (bar2Grant s fn (bar2Off off wide) false = none → t.bit Reg.MEM_BAR2_STATUS 0 = true ∧ t.pendBit 0x2E9 = true) ∧
      (bar2Place s (bar2Off off wide) = none → t.bit Reg.MEM_BAR2_STATUS 1 = true) ∧
      t.out.head? = some (.bar2Data fn 0 false) ∧ RegsBut [Reg.MEM_BAR2_STATUS, pendReg 0x2E9] s t ∧
      Changes [.regs, .out, .host] s t) ∧
    (∀ rest, s.mem.bar2 = { fn := fn, off := off, wide := wide } :: rest →
      ∃ t, exec .bar2ReadComplete s = .next t ∧ t.mem = { s.mem with bar2 := rest } ∧
        t.out.head? = some (.bar2Data fn 0 false) ∧ RegsBut [Reg.MEM_BAR2_STATUS, pendReg 0x2E9] s t ∧
        Changes [.regs, .out, .host, .mem] s t)) ∧
  (∀ (fn : PcieFn) (off : BitVec 36) (wide : Bool) (data : Word64) (g : Grant) (q key : Nat) (s : State), s.up = true
    →
    bar2Grant s fn (bar2Off off wide) true = some g → bar2Place s (bar2Off off wide) = some (q, key) →
    (bar2WriteOk s fn = false → exec (.bar2Write fn off wide data) s = .next (s.setBit Reg.MEM_BAR2_STATUS 2 true)) ∧
    (∀ (x : Word64) (v u : State), bar2WriteOk s fn = true →
      (q < 512 ∨ (eccOf s key ≠ 2 ∧ ∀ e, e ∈ s.mem.queue → entryDue s e = true → e.q = q → eccOf s e.key ≠ 2)) →
      v = (if q < 512 then bar2Begin 4 key s else s) → u = drainQueue q v →
      x = BitVec.ofNat 64 (bar2Mask u g (bar2Off off wide) (bar2Width wide) (data.toNat % 2 ^ (8 * bar2Width wide))) →
      ∃ t, exec (.bar2Write fn off wide data) s = .next t ∧
        (portBTaken s (key / 8192) = false → readNow s key = false → v = s) ∧
        (wide = true → committedWord t q key = x) ∧
        (wide = false → ∀ i, i < 64 → (committedWord t q key).getLsbD i =
          (if i / 32 = bar2Off off wide / 4 % 2 then x.getLsbD (i % 32) else (committedWord v q key).getLsbD i)) ∧
        (g.masked = false → wide = true → x = data) ∧
        (∀ k, k ≠ key → committedWord t q k = committedWord v q k) ∧
        (∀ e, e ∈ t.mem.queue → ¬ (entryDue t e = true ∧ e.q = q)) ∧
        (q < 512 → t.mem.bWindows = v.mem.bWindows ++ [(key, v.clock)]) ∧
        (512 ≤ q → t.mem.pcReqs = s.mem.pcReqs ++ [(pcOf key, 6)]) ∧
        (q < 512 → g.masked = false → Changes [.mem] v t) ∧
        Changes [.regs, .out, .host, .mem, .bnt, .ldg] v t) ∧
    (bar2WriteOk s fn = true → 512 ≤ q → eccOf s key = 2 →
      s.mem.queue.any (fun e => entryDue s e && e.q == q) = false →
      ∃ t, exec (.bar2Write fn off wide data) s = .next t ∧ t.bit Reg.MEM_BAR2_STATUS 2 = true ∧ t.pendBit 0x2E5 = true ∧
        t.mem.hbm = s.mem.hbm ∧ t.mem.queue = s.mem.queue ∧ Changes [.regs, .out, .host, .mem, .bnt] s t)) ∧
  (∀ (n key : Nat) (s : State),
    (portBTaken s (key / 8192) = true → bar2Begin (n + 1) key s = bar2Begin n key (clockTick s)) ∧
    (portBTaken s (key / 8192) = false → readNow s key = true → bar2Begin (n + 1) key s = bar2Begin n key (clockTick (memCnt 1 1 s)))) ∧
  (∀ (fn : PcieFn) (off : BitVec 36) (wide : Bool) (data : Word64) (s : State), s.up = true →
    (bar2Grant s fn (bar2Off off wide) true = none ∨ bar2Place s (bar2Off off wide) = none) →
    ∃ t, exec (.bar2Write fn off wide data) s = .next t ∧
      (bar2Grant s fn (bar2Off off wide) true = none → t.bit Reg.MEM_BAR2_STATUS 0 = true ∧ t.pendBit 0x2E9 = true) ∧
      (bar2Place s (bar2Off off wide) = none → t.bit Reg.MEM_BAR2_STATUS 1 = true) ∧
      RegsBut [Reg.MEM_BAR2_STATUS, pendReg 0x2E9] s t ∧ Changes [.regs, .out, .host] s t)

/-- The power states of the banks: A write asks for the state of each bank, but for the reserved code and for a used
bank that would leave On, which is reported. When every outstanding transition may complete, each bank reaches the
state asked for, a bank that has been Off or goes Off reads zeros, the others keep their words, and the event is
pending. In Doze and Nap, with a bank to leave On that is not quiet, and with nothing outstanding, nothing happens. (R203, R204, R205,
R439, spec/06_design_memory.md) -/
def Obligations.BankPower : Prop :=
  (∀ (path : Path) (k : BitVec 5) (val : Word32) (s : State), s.up = true → accepts path (Reg.MEM_BANK_PWR + 4 *
    k.toNat) val s →
    ∃ t, exec (.bankPowerWrite path k val) s = .next t ∧
      (∀ j, j < 16 → bankAsked t (16 * k.toNat + j) =
        (if bitsOf val (2 * j) 2 = 3 ∨ (s.img.valid = true ∧ s.bankUsed (16 * k.toNat + j) = true ∧ bitsOf val (2 *
          j) 2 ≠ 0 ∧
            bankAsked s (16 * k.toNat + j) = 0)
          then bankAsked s (16 * k.toNat + j) else BitVec.ofNat 2 (bitsOf val (2 * j) 2))) ∧
      (∀ j, j < 16 → bitsOf val (2 * j) 2 ≠ 3 → s.img.valid = true → s.bankUsed (16 * k.toNat + j) = true →
        bitsOf val (2 * j) 2 ≠ 0 → bankAsked s (16 * k.toNat + j) = 0 → t.bit Reg.MEM_PWR_STATUS 1 = true) ∧
      t.mem = { s.mem with pwrPending := bankMoves t } ∧
      RegsBut [Reg.MEM_BANK_PWR + 4 * k.toNat, Reg.MEM_PWR_STATUS] s t ∧ Changes [.regs, .host, .mem] s t) ∧
  (∀ (s : State), s.up = true → bankMoves s = true → s.pwr.mode = .on →
    (∀ k, k < s.bankCount → bankAsked s k ≠ mget s.mem.bankPwr 0 k → mget s.mem.bankPwr 0 k = 0 → bankQuiet s k =
      true) →
    ∃ t, exec .bankPowerDone s = .next t ∧ (∀ k, k < s.bankCount → mget t.mem.bankPwr 0 k = bankAsked s k) ∧
      (∀ k w, k < s.bankCount → w < 8192 → bankAsked s k ≠ mget s.mem.bankPwr 0 k →
        (mget s.mem.bankPwr 0 k = 2 ∨ bankAsked s k = 2) → mget t.mem.banks 0 (8192 * k + w) = 0) ∧
      (∀ k w, w < 8192 → (bankAsked s k = mget s.mem.bankPwr 0 k ∨ (mget s.mem.bankPwr 0 k ≠ 2 ∧ bankAsked s k ≠ 2)) →
        mget t.mem.banks 0 (8192 * k + w) = mget s.mem.banks 0 (8192 * k + w)) ∧
      t.mem.pwrPending = false ∧ t.pendBit 0x2EA = true ∧ RegsBut [pendReg 0x2EA] s t ∧ Changes [.regs, .out, .host,
        .mem] s t) ∧
  (∀ (s : State), s.up = true → (bankMoves s = false ∨ s.pwr.mode ≠ .on ∨
      (∃ k, k < s.bankCount ∧ bankAsked s k ≠ mget s.mem.bankPwr 0 k ∧ mget s.mem.bankPwr 0 k = 0 ∧ bankQuiet s k = false)) →
    exec .bankPowerDone s = .next s)

/-- Requests for a march, and the ends of its copies: A preserving march of a bank that is On begins with the copy to a
free spare of its quadrant; a destructive one of a bank that the image does not use begins at once. A request of
another than the owner is refused with NOT_OWNER, a destructive one of a bank in use with LOCKED, one during a march, outside
HOLD and RUN, of a bank that is not On or without a free spare with BUSY, and one of a bank that the grade lacks with
RESOURCE. At the end of the copy the spare serves the bank; at the end of the restore it serves it no more, a bank that has
been repaired holds no parity error, and the march is done with its event pending. (R185, R212, R213, R214, R375,
spec/06_design_memory.md) -/
def Obligations.MarchRequests : Prop :=
  (∀ (path : Path) (bank : BitVec 9) (s : State), s.up = true → marching s = false → s.pwr.mode = .on →
    bank.toNat < s.bankCount → bankPower s bank.toNat = 0 →
    (∀ k, freeSpare s bank.toNat = some k → accepts path Reg.MEM_MARCH_CTRL (BitVec.ofNat 32 (1024 + bank.toNat)) s →
      ∃ t, exec (.marchPreserving path bank true) s = .next t ∧ t.mem = { s.mem with
        marchPhase := .copy, marchBank := bank.toNat, marchSpare := k, marchDestr := false, marchSecond := false
        marchSelfTest := false }) ∧
    ((s.img.valid && s.bankUsed bank.toNat) = false →
      accepts path Reg.MEM_MARCH_CTRL (BitVec.ofNat 32 (1536 + bank.toNat)) s →
      ∃ t, exec (.marchDestructive path bank true) s = .next t ∧ t.mem = { s.mem with
        marchPhase := .march, marchBank := bank.toNat, marchSpare := (freeSpare s bank.toNat).getD 0, marchDestr := true
        marchSecond := false, marchSelfTest := false })) ∧
  (∀ (c : Instr) (path : Path) (bank : BitVec 9) (destr : Bool) (val : Word32) (owns : Bool) (s : State), s.up = true
    →
    ((c = .marchPreserving path bank owns ∧ destr = false ∧ val = BitVec.ofNat 32 (1024 + bank.toNat)) ∨
      (c = .marchDestructive path bank owns ∧ destr = true ∧ val = BitVec.ofNat 32 (1536 + bank.toNat))) →
    accepts path Reg.MEM_MARCH_CTRL val s →
    (∀ used wait : Bool, used = (destr && s.img.valid && s.bankUsed bank.toNat) →
      wait = (s.pwr.mode ≠ .on || bankPower s bank.toNat ≠ 0 || (!destr && (freeSpare s bank.toNat).isNone)) →
      (marching s = false → owns = true → used = false → wait = false → bank.toNat < s.bankCount →
        ∃ t, exec c s = .next t ∧ t.mem = { s.mem with
          marchPhase := if destr then .march else .copy
          marchBank := bank.toNat
          marchSpare := (freeSpare s bank.toNat).getD 0
          marchDestr := destr
          marchSecond := false
          marchSelfTest := false } ∧ t.reg Reg.MEM_MARCH_STATUS = 0 ∧
        t.fld Reg.MEM_MARCH_CTRL 0 9 = bank.toNat ∧ t.bit Reg.MEM_MARCH_CTRL 9 = destr ∧
        RegsBut [Reg.MEM_MARCH_CTRL, Reg.MEM_MARCH_STATUS] s t ∧ Changes [.regs, .host, .mem] s t) ∧
      (∀ st, marching s = false →
        (owns = false ∧ st = 3) ∨ (owns = true ∧ used = true ∧ st = 4) ∨ (owns = true ∧ used = false ∧ wait = true ∧ st = 9) ∨
          (owns = true ∧ used = false ∧ wait = false ∧ s.bankCount ≤ bank.toNat ∧ st = 12) →
        ∃ t, exec c s = .next t ∧ t.fld Reg.MEM_MARCH_STATUS 8 8 = st ∧ t.bit Reg.MEM_MARCH_STATUS 1 = true ∧
          t.pendBit 0x2E8 = true ∧ t.mem.banks = s.mem.banks ∧ t.mem.marchPhase = .idle ∧
          RegsBut [Reg.MEM_MARCH_CTRL, Reg.MEM_MARCH_STATUS, pendReg 0x2E8] s t ∧ Changes [.regs, .out, .host, .mem] s
            t)) ∧
    (marching s = true → ∃ t, exec c s = .next t ∧
      t.fld Reg.MEM_MARCH_STATUS 8 8 =
        (if owns = false then 3 else if (destr && s.img.valid && s.bankUsed bank.toNat) = true then 4 else 9) ∧
      t.fld Reg.MEM_MARCH_CTRL 0 9 = bank.toNat ∧ t.bit Reg.MEM_MARCH_CTRL 9 = destr ∧
      RegsBut [Reg.MEM_MARCH_CTRL, Reg.MEM_MARCH_STATUS] s t ∧ Changes [.regs, .host] s t)) ∧
  (∀ (s : State), s.up = true →
    (s.mem.marchPhase = .copy → exec .marchCopyDone s = .next { s with mem := { s.mem with
      marchPhase := .march
      spares := s.mem.spares ++ [(s.mem.marchSpare, s.mem.marchBank)] } }) ∧
    (s.mem.marchPhase ≠ .copy → exec .marchCopyDone s = .next s) ∧
    (s.mem.marchPhase = .restore → s.mem.marchSelfTest = false →
      ∃ t, exec .marchRestoreDone s = .next t ∧ t.mem = { s.mem with
          marchPhase := .idle
          marchSecond := false
          marchSelfTest := false
          spares := s.mem.spares.erase (s.mem.marchSpare, s.mem.marchBank)
          bankBad := if s.pwr.repaired.contains s.mem.marchBank && !s.pwr.failed.contains s.mem.marchBank
            then s.mem.bankBad.filter (fun p => p.1 / 16384 ≠ s.mem.marchBank) else s.mem.bankBad } ∧
        t.bit Reg.MEM_MARCH_STATUS 1 = true ∧ t.pendBit 0x2E8 = true ∧ RegsBut [Reg.MEM_MARCH_STATUS, pendReg 0x2E8]
          s t ∧
        Changes [.regs, .out, .host, .mem] s t) ∧
    (s.mem.marchPhase ≠ .restore ∨ s.mem.marchSelfTest = true → exec .marchRestoreDone s = .next s))

/-- Arrivals, late deliveries and link errors of Hatband: An arrival lets the clocks run until the flit has come. One that an
upset meets is checked at the end of its link: a fault there discards it with its cause and event, and cuts the execution that
injected it as one that aborts for parity; a sideband failure makes a NAK as well. Values for the present cycle are in their
inbound slots when they arrive, unless a slot has one; others are dropped as late. A late delivery puts what its records hold into a
packet of VC1, in the order of R127. A link carries no such flit in the clock of a VC0 flit, else one that has a credit, by PRI, then by
channel; a head that waits for AGE clocks is promoted and counted. A flit alone goes from link to link to its NI, which takes it. A flit
whose parity fails waits 4 clocks for its NAK and is sent again. A NAK makes the flit be sent again, and at the fifth time the link
fails and the module stops; a sideband failure reported so discards the flits that the end of the link checks in the clock, and captures
the planned position there. (R61, R127, R222, R223, R224, R231, R232, R233, R235, R236, R237, spec/07_hatband.md) -/
def Obligations.HatbandDeliveries : Prop :=
  (∀ (src : BitVec 9) (pos : BitVec 12) (f : Flit) (s : State), s.up = true →
    s.hbd.flits.find? (fun f => f.src == src.toNat && f.pos == pos.toNat) = some f →
    (∀ n, n ≤ 64 → (∀ i, i < n → (clockTick^[i] s).hbd.flits.contains f = true) →
      (clockTick^[n] s).hbd.flits.contains f = false →
      exec (.inboundValueArrival src pos none) s = .next (clockTick^[n] s)) ∧
    ((∀ i, i ≤ 64 → (clockTick^[i] s).hbd.flits.contains f = true) → exec (.inboundValueArrival src pos none) s = .next s) ∧
    (∀ u : FlitUpset, flitLinks f ≤ u.link ∨ checkClk f u.link < s.clock →
      exec (.inboundValueArrival src pos (some u)) s = exec (.inboundValueArrival src pos none) s) ∧
    (∀ (u : FlitUpset) (t : State), u.link < flitLinks f → s.clock ≤ checkClk f u.link →
      clocksUntil 64 (fun t => !t.hbd.flits.contains f || checkClk f u.link ≤ t.clock) s = some t →
      (t.hbd.flits.contains f = true →
        exec (.inboundValueArrival src pos (some u)) s = .next (flitLands { upsetFlit f u.words with changed := true } (flitMeets f u t))) ∧
      (t.hbd.flits.contains f = false → exec (.inboundValueArrival src pos (some u)) s = .next t)) ∧
    (∀ u : FlitUpset, s.clock = checkClk f u.link → s.hbd.flits.contains f = true →
      clocksUntil 64 (fun t => !t.hbd.flits.contains f || checkClk f u.link ≤ t.clock) s = some s)) ∧
  (∀ (f : Flit) (k : Nat), k < flitLinks f →
    checkClk f k = f.injected + (if k ≤ 1 then 1 else if f.hops ≠ 0 ∧ k = f.hops + 1 then f.hops + 2 else k)) ∧
  (∀ (f : Flit) (u : FlitUpset) (s t : State), t = flitMeets f u s →
    (∀ k, vc0Check s f u = some k → t.hbd.flits = s.hbd.flits.erase f ∧
      (k ≠ .sideband ∨ s.sch.exec.isSome = true → t.bit Reg.HBD_CAUSE k.bit = true ∧ t.pendBit 0x200 = true) ∧
      (k ≠ .sideband → ∀ e, s.sch.exec = some e →
        (e.serial = f.exec → ∃ e', t.sch.exec = some e' ∧ e'.vc0 = true ∧ e'.aborted = true) ∧
        (e.serial ≠ f.exec → t.sch.exec = some e))) ∧
    (vc0Check s f u = none → ∀ l, l = s.hbd.flits.erase f →
      t = { s with hbd := { s.hbd with flits := if u.side.toNat / 128 = 0 then l ++ [{ upsetFlit f u.words with changed := true }] else l } })) ∧
  (∀ (src : BitVec 9) (pos : BitVec 12) (x : Option FlitUpset) (s : State), s.up = true →
    s.hbd.flits.find? (fun f => f.src == src.toNat && f.pos == pos.toNat) = none →
    exec (.inboundValueArrival src pos x) s = .next s) ∧
  (∀ (c base lenM1 src : Nat) (values : BitVec 128) (cyc n : Word64) (s : State), lenM1 < 128 → s.curCycle = some n →
    n.toNat % 32 = cyc.toNat % 32 →
    (∀ j, j ≤ lenM1 → mget s.clu.inValid false (4096 * c + (base + j) % 4096) = false ∧
      s.clu.inArriving.contains (4096 * c + (base + j) % 4096) = false) →
    ∃ t, t = deliverValues c base lenM1 values cyc src true s ∧
      (∀ j, j ≤ lenM1 → mget t.clu.inVal false (4096 * c + (base + j) % 4096) = values.getLsbD j ∧
        t.clu.inArriving.contains (4096 * c + (base + j) % 4096) = true) ∧ Changes [.clu] s t) ∧
  (∀ (c base lenM1 src : Nat) (values : BitVec 128) (cyc : Word64) (live : Bool) (s : State),
    (live = false ∨ ∀ n, s.curCycle = some n → n.toNat % 32 ≠ cyc.toNat % 32) →
    ∃ t, t = deliverValues c base lenM1 values cyc src live s ∧ t.bit Reg.HBD_CAUSE 4 = true ∧ t.pendBit 0x202 = true ∧
      Changes [.regs, .out, .host] s t) ∧
  (∀ (entry : Nat) (first lenM1 : BitVec 7) (upset : Option FlitUpset) (held ok : Bool) (e : SlotHbd) (r : Route)
    (n : Word64) (s0 s : State), s0.up = true → s = reopen s0 → s.curCycle = some n → s.hbdEntries[entry]? = some e →
    findRoute s.routes e = some r →
    ok = (isHubNi e.src && first.toNat + lenM1.toNat ≤ e.lenM1 && lateAllowed s e.pos &&
      redelivNext s e.src entry first.toNat lenM1.toNat n &&
      (((entryRecs s e n).drop first.toNat).take (lenM1.toNat + 1)).all
        (fun y => match y with | some y => !y.stale && !y.delivNow | none => false)) →
    (ok = true → exec (.lateDelivery entry first lenM1 upset held) s0 = .next (lateSend e r first.toNat
        ((((entryRecs s e n).drop first.toNat).take (lenM1.toNat + 1)).filterMap id) n upset held
        { s with lnk := { s.lnk with redeliv := s.lnk.redeliv.filter (fun x =>
          !(x.1 == entry && first.toNat ≤ x.2 && x.2 ≤ first.toNat + lenM1.toNat)) } })) ∧
    (ok = false → exec (.lateDelivery entry first lenM1 upset held) s0 = .next s0)) ∧
  (∀ (entry : Nat) (first lenM1 : BitVec 7) (upset : Option FlitUpset) (held : Bool) (s0 : State), s0.up = true →
    ((reopen s0).curCycle = none ∨ (reopen s0).hbdEntries[entry]? = none ∨
      (∃ e, (reopen s0).hbdEntries[entry]? = some e ∧ findRoute (reopen s0).routes e = none)) →
    exec (.lateDelivery entry first lenM1 upset held) s0 = .next s0) ∧
  (∀ (e : SlotHbd) (r : Route) (first : Nat) (xs : List HubRec) (n : Word64) (upset : Option FlitUpset) (held : Bool)
    (s : State), ∃ t, t = lateSend e r first xs n upset held s ∧ t.lnk = (markDelivered xs s).lnk ∧
      t.hbd = { s.hbd with vcs := s.hbd.vcs ++ [{
        vc := 1, pri := 3, opc := 0x1E, flit := { lateFlit e r first xs n with injected := s.clock }
        due := s.clock, upset := upset, held := held }] } ∧
      RegsBut [Reg.HBD_CNT + 20, Reg.HBD_CNT_SAT, pendReg 0x204] s t ∧ Changes [.regs, .out, .host, .lnk, .hbd] s t) ∧
  (∀ (busy : Nat → Bool) (l ready : List VcFlit) (key : Nat) (s : State),
    (vc0On s key = true ∨ busy key = true → vcLinkClock busy l ready key s = s) ∧
    (vc0On s key = false → busy key = false → ∀ c, c = ready.filter (fun v => vcKey v == key && vcCredit l v) →
      (c = [] → vcLinkClock busy l ready key s = s) ∧
      (c ≠ [] → ∃ v, v ∈ c ∧ (∀ u, u ∈ c → vcRank (mget s.hbd.links {} key) v ≤ vcRank (mget s.hbd.links {} key) u) ∧
        vcLinkClock busy l ready key s = vcMove v s))) ∧
  (∀ (x : VcLink) (u v : VcFlit), u.again = false → u.vc ≤ 3 →
    (v.again = true → vcRank x v < vcRank x u) ∧
    (v.again = false → v.vc ≤ 3 → ∀ p q, p = (if u.aged then 3 else u.pri) → q = (if v.aged then 3 else v.pri) → p ≤ 3 → q ≤ 3 →
      (p < q → vcRank x v < vcRank x u) ∧ (p = q → v.vc < u.vc → vcRank x v < vcRank x u))) ∧
  (∀ (l : List VcFlit) (v : VcFlit), v.again = false → v.hop ≤ v.flit.hops →
    (vcCredit l v = true ↔ (l.filter (takesRoom (vcKey v) v.vc (pastDateline v.flit (v.hop + 1)))).length < 4)) ∧
  (∀ (v : VcFlit) (s : State) (age : Nat), age = s.fld Reg.HBD_AGE 0 16 → s.hbd.vcs = [v] →
    ∃ t, t = vcWait v s ∧ t.hbd.vcs = [{ v with
      wait := v.wait + 1
      aged := v.aged || (decide (age ≠ 0) && decide (age ≤ v.wait + 1)) }] ∧
      (age = 0 ∨ v.wait + 1 < age ∨ v.aged = true → t.reg (Reg.HBD_CNT + 24) = s.reg (Reg.HBD_CNT + 24)) ∧
      (age ≠ 0 → age ≤ v.wait + 1 → v.aged = false → (s.reg (Reg.HBD_CNT + 24)).toNat < 0xFFFFFFFF →
        t.reg (Reg.HBD_CNT + 24) = s.reg (Reg.HBD_CNT + 24) + 1)) ∧
  (∀ (busy : Nat → Bool) (v : VcFlit) (s : State), s.hbd.vcs = [v] → v.due ≤ s.clock → v.lost = false →
    (v.hop = flitLinks v.flit → v.opc = 0x1E →
      vcClock busy s = lateArrives v.flit { s with hbd := { s.hbd with vcs := [] } }) ∧
    (v.hop = 0 → v.held = true → s.curCycle = some v.flit.cyc → vcClock busy s = s) ∧
    (v.hop < flitLinks v.flit → vcHeld s v = false → (mget s.hbd.links {} (vcKey v)).nak = none → (∀ u, v.upset = some u → u.link ≠ v.hop) →
      vc0On s (vcKey v) = false → busy (vcKey v) = false →
      (vcClock busy s).hbd.vcs = [{ vcSent s v with
        hop := v.hop + 1
        due := s.clock + (if v.hop + 1 = flitLinks v.flit then 2 else linkDelay v.flit (v.hop + 1) - linkDelay v.flit v.hop)
        wait := 0
        aged := false }] ∧ Changes [.regs, .hbd] s (vcClock busy s)) ∧
    (v.hop < flitLinks v.flit → vcHeld s v = false → v.again = false → vc0On s (vcKey v) = true ∨ busy (vcKey v) = true → vcClock busy s = vcWait v s)) ∧
  (∀ (s : State), s.hbd.vcs = [] → vcTick s = s) ∧
  (∀ (w : VcFlit) (u : FlitUpset) (s : State), (mget s.hbd.links {} (vcKey w)).nak = none → w.upset = some u → u.link = w.hop →
    vcCheck w u = some .vc0Par →
    (w.sent < 5 → vcReceive w s = { s with hbd := { s.hbd with
      vcs := s.hbd.vcs ++ [{ w with again := true, lost := true, upset := none }]
      links := mset s.hbd.links {} (vcKey w) { mget s.hbd.links {} (vcKey w) with nak := some (w.seq, s.clock + 4) } } }) ∧
    (5 ≤ w.sent → (vcReceive w s).hbd.linkFailed = true ∧ (vcReceive w s).sch.fatal = true ∧
      (vcReceive w s).bit Reg.HBD_CAUSE 7 = true ∧ (vcReceive w s).pendBit 0x201 = true)) ∧
  (∀ (v : VcFlit) (s : State), v.lost = true → s.hbd.vcs = [v] →
    ∃ t, t = vcResend v s ∧ t.hbd.vcs = [{ v with lost := false }] ∧ (mget t.hbd.links {} (vcKey v)).seq = v.seq ∧
      (mget t.hbd.links {} (vcKey v)).nak = none ∧ t.bit Reg.HBD_CAUSE 6 = true ∧ Changes [.regs, .out, .host, .hbd] s t) ∧
  (∀ (nak : LinkNak) (seq : BitVec 4) (v : VcFlit) (s : State), s.up = true → nakFlit s nak.link seq.toNat = some v →
    (v.sent < 5 → ∃ t, exec (.hbdNak nak seq false) s = .next t ∧ t.hbd = (nakBack nak.link seq.toNat s).hbd ∧
      t.bit Reg.HBD_CAUSE 6 = true ∧ Changes [.regs, .out, .host, .hbd] s t) ∧
    (5 ≤ v.sent → ∃ t, exec (.hbdNak nak seq false) s = .next t ∧ t.hbd = { s.hbd with linkFailed := true } ∧
      t.sch.st = .faultStop ∧ t.bit Reg.HBD_CAUSE 7 = true ∧ t.pendBit 0x201 = true)) ∧
  (∀ (nak : LinkNak) (seq : BitVec 4) (x : Nat × Nat) (n : Nat) (s : State), s.up = true → nakFlit s nak.link seq.toNat = none →
    x = mget s.hbd.unaccepted (16, 0) (linkKey nak.link) →
    n = (if nak.again = true ∧ x.1 = seq.toNat then x.2 else 1) →
    (n < 5 → ∃ t, exec (.hbdNak nak seq false) s = .next t ∧
      t.hbd = { s.hbd with unaccepted := mset s.hbd.unaccepted (16, 0) (linkKey nak.link) (seq.toNat, n + 1) } ∧
      t.bit Reg.HBD_CAUSE 6 = true ∧
      RegsBut [Reg.HBD_CAUSE, Reg.HBD_ERR_LOC, Reg.HBD_ERR_CYC, Reg.HBD_ERR_CYC + 4, Reg.HBD_CNT + 16,
        Reg.HBD_CNT_SAT,
        pendReg 0x204] s t ∧ Changes [.regs, .out, .host, .hbd] s t) ∧
    (5 ≤ n → ∃ t, exec (.hbdNak nak seq false) s = .next t ∧ t.hbd =
      { s.hbd with linkFailed := true } ∧
      t.sch.st = .faultStop ∧ t.bit Reg.HBD_CAUSE 7 = true ∧ t.pendBit 0x201 = true ∧
      (s.sch.st ≠ .faultStop → t.pendBit 0x080 = true) ∧
      Changes [.regs, .out, .host, .clu, .sch, .wave, .mem, .hbd, .lnk, .dsp, .pwr, .ldg] s t) ∧
    (∀ u l, l = (onLink s nak.link).map (fun y => y.1) →
      u = { s with hbd := { s.hbd with flits := s.hbd.flits.filter (fun f => !l.contains f) } } →
      (s.sch.exec = none → exec (.hbdNak nak seq true) s = exec (.hbdNak nak seq false) u) ∧
      (∀ e, s.sch.exec = some e → ∃ v e', exec (.hbdNak nak seq true) s = exec (.hbdNak nak seq false) v ∧
        v.sch.exec = some e' ∧ e'.vc0 = true ∧ e'.aborted = true ∧ v.bit Reg.HBD_CAUSE 2 = true ∧ v.pendBit 0x200 = true ∧
        (∀ f pos, (onLink s nak.link).head? = some (f, pos) → s.reg Reg.HBD_CAUSE = 0 →
          bitsOf (v.reg Reg.HBD_ERR_LOC) 0 12 = pos % 4096) ∧
        Changes [.regs, .out, .host, .sch, .lnk] u v))) ∧
  (∀ (l : HbdLink) (f : Flit) (pos : Nat) (s : State), (f, pos) ∈ onLink s l ↔
    f ∈ s.hbd.flits ∧ ∃ k, k < flitLinks f ∧ checkClk f k = s.clock ∧ pathLink f k = l ∧ pos = f.pos + linkDelay f k)

/-- The training of a lane port: RESTART leads the port to DETECT with its role taken over and its sequence numbers
cleared, or to DISABLED when its role, a park or a test of the TAP says so. Each state leads to the next one as its condition
is met, within RECOVERY too, and up to DESKEW the port sends TRAIN blocks and blocks of zero payload (one period of them, log 172); inverted lanes and lanes in reverse order are taken so, any other order and a skew above 4 fail
the training; EXCHANGE ends in ACTIVE with the peer's identity, with every lane locked and after RECOVERY the groups sent again that the peer's
ACK does not cover, in DETECT when the peer is another one than before RECOVERY,
or in HALT when the class differs. The timeouts lead to DETECT. The events of a state do nothing in another one, or on a port
that the grade lacks. (R255, R256, R257, R258, R259, R260, R261, R264, spec/08_lanes_multimodule.md) -/
def Obligations.LaneTraining : Prop :=
  (∀ (path : Path) (p : BitVec 4) (val : Word32) (role : BitVec 2) (s : State), s.up = true →
    role = (if bitsOf val 2 2 = 3 ∨ (bitsOf val 2 2 = 1 ∧ p.toNat ∉ (if s.ident.half then [6, 7] else [14, 15]))
      then ctrlRole s p.toNat else BitVec.ofNat 2 (bitsOf val 2 2)) →
    (val.getLsbD 4 = false → exec (.laneRestart path p val) s = .next s) ∧
    (val.getLsbD 4 = true → accepts path (lnkReg p.toNat 0) val s →
      ∃ t, exec (.laneRestart path p val) s = .next t ∧ ctrlRole t p.toNat = role ∧
        (t.lane p.toNat).st = (if role = 2 ∨ (s.lane p.toNat).parked = true ∨ disruptive s.host.jtag = true
          then .disabled else .detect) ∧
        (¬ ((s.lane p.toNat).st = .disabled ∧ role = 2) → (t.lane p.toNat).role = role ∧
          (t.lane p.toNat).txSeq = 0 ∧ (t.lane p.toNat).rxSeq = 0 ∧ (t.lane p.toNat).outstanding = []) ∧
        (∀ q, q ≠ p.toNat → t.lane q = s.lane q) ∧
        ((s.lane p.toNat).st = .active ∨ (s.lane p.toNat).st = .recovery → t.bit (lnkReg p.toNat 8) 0 = true) ∧
        Changes [.regs, .out, .host, .clu, .sch, .wave, .mem, .lnk, .dsp, .tim, .lks, .pwr, .ldg] s t)) ∧
  (∀ (p : BitVec 4) (s : State), s.up = true → p.toNat < s.lanePorts →
    ((s.lane p.toNat).st = .detect →
      exec (.laneDetectDone p) s = .next (sendTrain p.toNat (s.setLane p.toNat { s.lane p.toNat with st := .pattern }))) ∧
    ((s.lane p.toNat).st ≠ .detect → exec (.laneDetectDone p) s = .next s) ∧
    ((s.lane p.toNat).st = .pattern →
      exec (.lanePatternLocked p) s = .next (sendTrain p.toNat (s.setLane p.toNat { s.lane p.toNat with st := .align }))) ∧
    ((s.lane p.toNat).st = .recovery → (s.lane p.toNat).sub = .pattern →
      exec (.lanePatternLocked p) s = .next (sendTrain p.toNat (s.setLane p.toNat { s.lane p.toNat with sub := .align }))) ∧
    (trainState s p.toNat ≠ .pattern → exec (.lanePatternLocked p) s = .next s)) ∧
  (∀ (p : Nat) (s : State), ∃ t, t = sendTrain p s ∧
    t.out = List.replicate 15 (.laneBlock p (dataStripe 0 0)) ++ .laneBlock p (trainStripe (s.lane p).bcnt) :: s.out ∧
    t.lane p = { s.lane p with bcnt := (s.lane p).bcnt + 16 } ∧ (∀ q, q ≠ p → t.lane q = s.lane q) ∧ Changes [.out, .lnk] s t) ∧
  (∀ (b : BitVec 16) (k : Nat) (x : Word64),
    (k, x) ∈ [(0, (trainStripe b).p0), (1, (trainStripe b).p1), (2, (trainStripe b).p2), (3, (trainStripe b).p3)] →
    trainBlock { head := 2, payload := x } = true ∧ trainLane { head := 2, payload := x } = k ∧
      x.toNat / 2 ^ 32 % 2 ^ 16 = b.toNat) ∧
  (∀ (p : BitVec 4) (l0 l1 l2 l3 : AlignLane) (down : LaneState) (s : State), s.up = true → p.toNat < s.lanePorts →
    trainState s p.toNat = .align → [l0, l1, l2, l3].all trainBlock = true →
    down = (if ctrlRole s p.toNat = 2 ∨ (s.lane p.toNat).parked = true ∨ disruptive s.host.jtag = true then .disabled
      else .detect) →
    ([l0, l1, l2, l3].map trainLane = [0, 1, 2, 3] ∨ [l0, l1, l2, l3].map trainLane = [3, 2, 1, 0] →
      ∃ t, exec (.laneAlignDone p l0 l1 l2 l3) s = .next t ∧ trainState t p.toNat = .deskew ∧
        ((s.lane p.toNat).st = .recovery → (t.lane p.toNat).st = .recovery) ∧ (t.lane p.toNat).locked
        = 0xF ∧
        (t.lane p.toNat).reversed = decide (trainLane l0 = 3) ∧ (t.lane p.toNat).pol.getLsbD 0 = alignInverted l0 ∧
        (t.lane p.toNat).pol.getLsbD 1 = alignInverted l1 ∧ (t.lane p.toNat).pol.getLsbD 2 = alignInverted l2 ∧
        (t.lane p.toNat).pol.getLsbD 3 = alignInverted l3 ∧ (∀ q, q ≠ p.toNat → t.lane q = s.lane q) ∧ Changes [.out, .lnk] s t)
          ∧
    (¬ ([l0, l1, l2, l3].map trainLane = [0, 1, 2, 3] ∨ [l0, l1, l2, l3].map trainLane = [3, 2, 1, 0]) →
      ∃ t, exec (.laneAlignDone p l0 l1 l2 l3) s = .next t ∧ (t.lane p.toNat).st = down ∧ t.bit (lnkReg p.toNat 8)
        0 = true ∧
        t.bit (lnkReg p.toNat 8) 5 = true ∧ (∀ q, q ≠ p.toNat → t.lane q = s.lane q) ∧
        ((s.lane p.toNat).st ≠ .recovery → Changes [.regs, .out, .host, .lnk, .tim] s t) ∧
        Changes [.regs, .out, .host, .clu, .sch, .wave, .mem, .lnk, .dsp, .tim, .lks, .pwr, .ldg] s t)) ∧
  (∀ (p : BitVec 4) (skew : Nat) (down : LaneState) (s : State), s.up = true → p.toNat < s.lanePorts →
    trainState s p.toNat = .deskew →
    down = (if ctrlRole s p.toNat = 2 ∨ (s.lane p.toNat).parked = true ∨ disruptive s.host.jtag = true then .disabled
      else .detect) →
    (skew ≤ 4 → ∃ t, exec (.laneDeskewDone p skew) s = .next t ∧ trainState t p.toNat = .exchange ∧
      (t.lane p.toNat).locked = 0xF ∧ t.out = .laneBlock p.toNat (capsBlock s p.toNat false) :: s.out ∧ (∀ q, q ≠ p.toNat → t.lane q = s.lane q) ∧
      Changes [.out, .lnk] s t) ∧
    (4 < skew →
      ∃ t, exec (.laneDeskewDone p skew) s = .next t ∧ (t.lane p.toNat).st = down ∧ t.bit (lnkReg p.toNat 8) 0 =
        true ∧ (∀ q, q ≠ p.toNat → t.lane q = s.lane q) ∧
        ((s.lane p.toNat).st ≠ .recovery → Changes [.regs, .out, .host, .lnk, .tim] s t) ∧
        Changes [.regs, .out, .host, .clu, .sch, .wave, .mem, .lnk, .dsp, .tim, .lks, .pwr, .ldg] s t)) ∧
  (∀ (p : BitVec 4) (c : Caps) (down : LaneState) (s : State), s.up = true → p.toNat < s.lanePorts →
    trainState s p.toNat = .exchange →
    down = (if ctrlRole s p.toNat = 2 ∨ (s.lane p.toNat).parked = true ∨ disruptive s.host.jtag = true then .disabled
      else .detect) →
    (c.word.getLsbD 35 = false → exec (.laneExchangeDone p c) s = .next s) ∧
    (c.word.getLsbD 35 = true → ((s.lane p.toNat).st = .recovery → samePeer s p.toNat c = true) →
      (pedClass c.pedigree = s.plat.fwClass.toNat →
        ∃ t, exec (.laneExchangeDone p c) s = .next t ∧ (t.lane p.toNat).st = .active ∧ (t.lane p.toNat).pedRx =
          c.pedigree ∧
          (t.lane p.toNat).peerModule = BitVec.ofNat 6 (c.word.toNat / 2 ^ 58) ∧
          (t.lane p.toNat).peerPort = BitVec.ofNat 4 (c.word.toNat / 2 ^ 54) ∧
          (t.lane p.toNat).peerGrade = BitVec.ofNat 16 (c.word.toNat / 2 ^ 38) ∧
          (t.lane p.toNat).peerRole = BitVec.ofNat 2 (c.word.toNat / 2 ^ 36) ∧
          ((s.lane p.toNat).waveQ = [] → (t.lane p.toNat).ctrlCount = 0) ∧ (t.lane p.toNat).locked = 0xF ∧
          ((s.lane p.toNat).st = .recovery → (s.lane p.toNat).waveQ = [] → (t.lane p.toNat).outstanding =
            ((takeAck c.ack p.toNat s).lane p.toNat).outstanding.map againGroup) ∧
          (∀ q, q ≠ p.toNat → t.lane q = s.lane q) ∧ Changes [.regs, .out, .host, .own, .sch, .lnk, .tim] s t) ∧
      (pedClass c.pedigree ≠ s.plat.fwClass.toNat →
        ∃ t, exec (.laneExchangeDone p c) s = .next t ∧ (t.lane p.toNat).st = .halt ∧ t.bit (lnkReg p.toNat 8) 4 = true
          ∧ (t.lane p.toNat).pedRx = c.pedigree ∧ (∀ q, q ≠ p.toNat → t.lane q = s.lane q) ∧
          ((s.lane p.toNat).st ≠ .recovery → Changes [.regs, .out, .host, .lnk, .tim] s t) ∧
          Changes [.regs, .out, .host, .clu, .sch, .wave, .mem, .lnk, .dsp, .tim, .lks, .pwr, .ldg] s t)) ∧
    (c.word.getLsbD 35 = true → (s.lane p.toNat).st = .recovery → samePeer s p.toNat c = false →
      ∃ t, exec (.laneExchangeDone p c) s = .next t ∧ (t.lane p.toNat).st = down ∧ t.bit (lnkReg p.toNat 8) 5 = true ∧
        t.bit (lnkReg p.toNat 8) 0 = true ∧ (∀ q, q ≠ p.toNat → t.lane q = s.lane q) ∧
        Changes [.regs, .out, .host, .clu, .sch, .wave, .mem, .lnk, .dsp, .tim, .lks, .pwr, .ldg] s t)) ∧
  (∀ (c : Instr) (p : BitVec 4) (s : State), s.up = true → p.toNat < s.lanePorts →
    ((c = .laneTrainingTimeout p ∧ [LaneState.pattern, .align, .deskew, .exchange].contains (s.lane p.toNat).st =
      true) ∨
      (c = .laneRecoveryTimeout p ∧ (s.lane p.toNat).st = .recovery)) →
    ∃ t, exec c s = .next t ∧
      (t.lane p.toNat).st = (if ctrlRole s p.toNat = 2 ∨ (s.lane p.toNat).parked = true ∨ disruptive s.host.jtag = true
        then .disabled else .detect) ∧ (t.lane p.toNat).outstanding = [] ∧
      t.bit (lnkReg p.toNat 8) 0 = true ∧ (∀ q, q ≠ p.toNat → t.lane q = s.lane q) ∧ Changes [.regs, .out, .host,
        .clu, .sch, .wave, .mem, .lnk, .dsp, .tim, .lks, .pwr, .ldg] s t) ∧
  (∀ (p : BitVec 4) (l0 l1 l2 l3 : AlignLane) (skew : Nat) (caps : Caps) (s : State), s.up = true →
    (trainState s p.toNat ≠ .align ∨ [l0, l1, l2, l3].all trainBlock = false →
      exec (.laneAlignDone p l0 l1 l2 l3) s = .next s) ∧
    (trainState s p.toNat ≠ .deskew → exec (.laneDeskewDone p skew) s = .next s) ∧
    (trainState s p.toNat ≠ .exchange → exec (.laneExchangeDone p caps) s = .next s) ∧
    ([LaneState.pattern, .align, .deskew, .exchange].contains (s.lane p.toNat).st = false →
      exec (.laneTrainingTimeout p) s = .next s) ∧
    ((s.lane p.toNat).st ≠ .recovery → exec (.laneRecoveryTimeout p) s = .next s)) ∧
  (∀ (c : Instr) (p : BitVec 4) (l0 l1 l2 l3 : AlignLane) (skew : Nat) (caps : Caps) (s : State), s.up = true →
    s.lanePorts ≤ p.toNat →
    c ∈ [Instr.laneDetectDone p, .lanePatternLocked p, .laneAlignDone p l0 l1 l2 l3, .laneDeskewDone p skew,
      .laneExchangeDone p caps, .laneTrainingTimeout p, .laneRecoveryTimeout p] → exec c s = .next s)

/-- Groups, value stripes and pedigree words on a lane port: A group leaves with the items to send, WAVE messages ahead of them,
and with GSEQ, ACK and NAK. A sound group in order advances GSEQ, and what it carries waits to be taken; a corrupted one is
reported and answered by a NAK; a port in a far-end test sends back what it receives. A NAK or a timeout makes every outstanding group be sent again, its TIME blocks as IDLE, and
after five times the port enters RECOVERY, as at the loss of a lane's lock by 16 invalid headers in 64, which unlocks the lane
in every state. A value stripe leaves
with the held values of its entry, and one that an accepted group brought is recorded, waits for its generation, or is dropped
as stale; one that no entry declares is reported, and one out of the window is a protocol error. A pedigree word leaves with
the next control block whose count is a multiple of 256, and one that an accepted group brought is kept and halts the port
when its class differs. (R245, R250, R251, R252, R253, R254, R256, R260, R262, R264, R274, spec/08_lanes_multimodule.md) -/
def Obligations.LaneGroupsAndStripes : Prop :=
  (∀ (p : Nat) (items : List LanePart) (s : State), (s.lane p).st = .active → laneRoom s p = true →
    ∃ t parts, t = sendGroup p items s ∧ parts.length = 8 ∧
      t.out = .laneGroup p (groupStripes (s.lane p).txSeq ((s.lane p).rxSeq - 1) (s.lane p).nakSend parts) :: s.out ∧
      (t.lane p).txSeq = (s.lane p).txSeq + 1 ∧ (t.lane p).nakSend = false ∧
      (t.lane p).outstanding = (s.lane p).outstanding ++ [{ gseq := (s.lane p).txSeq, sent := 1, parts := parts }] ∧
      (∀ h v, items = [.value h v] → (s.lane p).waveQ = [] → parts.head? = some (.value h v)) ∧
      (∀ q, q ≠ p → t.lane q = s.lane q) ∧ Changes [.out, .lnk] s t) ∧
  (∀ (p : BitVec 4) (l : List LaneStripe) (s u : State), s.up = true → p.toNat < s.lanePorts →
    ((s.lane p.toNat).st ≠ .active → exec (.laneGroupReceive p l) s =
      .next (if reflects s p.toNat = true then s.emit (.laneGroup p.toNat l) else s)) ∧
    ((s.lane p.toNat).st = .active → groupSound s p.toNat l = true →
      u = forEach l (stripeAccept p.toNat) (s.setLane p.toNat
        { s.lane p.toNat with rxSeq := (s.lane p.toNat).rxSeq + 1, nakDue := false }) →
      exec (.laneGroupReceive p l) s = .next (sendGroup p.toNat [] u) ∧
      (u.lane p.toNat).rxSeq = (s.lane p.toNat).rxSeq + 1 ∧ (u.lane p.toNat).nakDue = false ∧ (u.lane p.toNat).st = .active ∧
      (u.lane p.toNat).inbox = (s.lane p.toNat).inbox ++
        (l.filter (fun x => if isCtrl x then decide (cbType x < 6) else (s.lane p.toNat).role == 0)).flatMap stripeParts ∧
      Changes [.regs, .out, .host, .lnk] s u) ∧
    ((s.lane p.toNat).st = .active → groupSound s p.toNat l = false →
      ∃ t, exec (.laneGroupReceive p l) s = .next (sendGroup p.toNat [] t) ∧ t.bit (lnkReg p.toNat 8) 2 = true ∧
        (t.lane p.toNat).nakDue = true ∧ (t.lane p.toNat).rxSeq = (s.lane p.toNat).rxSeq ∧
        (t.lane p.toNat).inbox = (s.lane p.toNat).inbox ∧
        (t.lane p.toNat).nakSend = ((s.lane p.toNat).nakSend || !groupOk l || !(s.lane p.toNat).nakDue) ∧
        Changes [.regs, .out, .host, .lnk] s t)) ∧
  (∀ (c : Instr) (p : BitVec 4) (ack : BitVec 8) (s u : State), s.up = true → p.toNat < s.lanePorts →
    (s.lane p.toNat).st = .active →
    ((c = .laneNakReceive p ack ∧ (s.lane p.toNat).nakRx = some ack ∧
      u = takeAck ack p.toNat (s.setLane p.toNat { s.lane p.toNat with nakRx := none })) ∨
      (c = .laneResendTimeout p ∧ u = s)) →
    ((u.lane p.toNat).outstanding.any (fun g => 5 ≤ g.sent) = false →
      ∃ t, exec c s = .next t ∧
        t.lane p.toNat = { u.lane p.toNat with outstanding := (u.lane p.toNat).outstanding.map againGroup } ∧
        t.out = ((u.lane p.toNat).outstanding.map (fun g => Output.laneGroup p.toNat
          (groupStripes g.gseq ((u.lane p.toNat).rxSeq - 1) false (againGroup g).parts))).reverse ++ u.out ∧
        (∀ d, (u.timPort p.toNat).pdelay = some d → ∀ b, LanePart.time b ∈ (u.lane p.toNat).outstanding.flatMap (fun g => g.parts) →
          tbType b = 2 → tbSeq b = d.seq → (t.timPort p.toNat).pdelay = none) ∧
        (∀ q, q ≠ p.toNat → t.lane q = s.lane q) ∧ Changes [.regs, .out, .host, .lnk, .tim] s t) ∧
    ((u.lane p.toNat).outstanding.any (fun g => 5 ≤ g.sent) = true →
      ∃ t, exec c s = .next t ∧ t.lane p.toNat =
        { u.lane p.toNat with st := .recovery, sub := .pattern, bcnt := (u.lane p.toNat).bcnt + 16 } ∧
        t.bit (lnkReg p.toNat 8) 1 = true ∧ (∀ q, q ≠ p.toNat → t.lane q = s.lane q) ∧
        Changes [.regs, .out, .host, .lnk, .tim, .lks, .ldg] s t)) ∧
  (∀ (p : BitVec 4) (ack : BitVec 8) (s : State), s.up = true →
    ((s.lane p.toNat).st ≠ .active ∨ (s.lane p.toNat).nakRx ≠ some ack ∨ s.lanePorts ≤ p.toNat →
      exec (.laneNakReceive p ack) s = .next s) ∧
    ((s.lane p.toNat).st ≠ .active ∨ s.lanePorts ≤ p.toNat → exec (.laneResendTimeout p) s = .next s)) ∧
  (∀ (c : Instr) (p : BitVec 4) (lane : BitVec 2) (heads : BitVec 128) (s : State), s.up = true → p.toNat < s.lanePorts →
    (c = .laneBlockLockLoss p ⟨lane, heads⟩ ∧ 16 ≤ invalidHeads heads ∨ c = .phaseLoopLockLoss p lane) →
    ((s.lane p.toNat).st = .active → ∃ t, exec c s = .next t ∧ (t.lane p.toNat).st = .recovery ∧
      (t.lane p.toNat).locked = (s.lane p.toNat).locked &&& ~~~(BitVec.ofNat 4 (2 ^ lane.toNat)) ∧
      t.bit (lnkReg p.toNat 8) 1 = true ∧ (∀ q, q ≠ p.toNat → t.lane q = s.lane q) ∧ Changes [.regs, .out, .host,
        .lnk, .tim, .lks, .ldg] s t) ∧
    ((s.lane p.toNat).st ≠ .active → c = .laneBlockLockLoss p ⟨lane, heads⟩ → exec c s = .next (s.setLane p.toNat
      { s.lane p.toNat with locked := (s.lane p.toNat).locked &&& ~~~(BitVec.ofNat 4 (2 ^ lane.toNat)) })) ∧
    ((s.lane p.toNat).st ≠ .active → c = .phaseLoopLockLoss p lane → exec c s = .next s)) ∧
  (∀ (p : BitVec 4) (lane : BitVec 2) (heads : BitVec 128) (s : State), s.up = true →
    (invalidHeads heads < 16 ∨ s.lanePorts ≤ p.toNat → exec (.laneBlockLockLoss p ⟨lane, heads⟩) s = .next s) ∧
    (s.lanePorts ≤ p.toNat → exec (.phaseLoopLockLoss p lane) s = .next s)) ∧
  (∀ (p : BitVec 4) (cyc : BitVec 8) (txpos : BitVec 12) (v : TxVal) (e : SlotLane) (vs : List Bool) (may : Bool) (s : State),
    s.up = true →
    p.toNat < s.lanePorts →
    s.lnk.tx.find? (fun t => t.port == p.toNat && t.pos == txpos.toNat && t.cyc.toNat % 256 == cyc.toNat) = some v →
    txEntry s p.toNat txpos.toNat = some e → heldValues s e v.cyc = some vs →
    may = (carriesDesign s p.toNat && mayTransmit s v.cyc && !earlierWaits s p.toNat v.cyc txpos.toNat && itemRoom s p.toNat) →
    (may = true →
      ∃ t parts, exec (.valueStripeSend p cyc txpos) s = .next t ∧ parts.length = 8 ∧
        t.out = .laneGroup p.toNat (groupStripes (s.lane p.toNat).txSeq ((s.lane p.toNat).rxSeq - 1)
          (s.lane p.toNat).nakSend parts) :: s.out ∧
        .value (stripeHeader v.cyc s.wave.gen e) (packWide vs) ∈ parts ∧
        t.lnk.tx = s.lnk.tx.filter (fun t => !(t.port == e.port && t.pos == e.txpos && t.cyc == v.cyc &&
          e.slot ≤ t.slot && t.slot ≤ e.slot + e.lenM1)) ∧
        (t.lane p.toNat).txSeq = (s.lane p.toNat).txSeq + 1 ∧ Changes [.out, .lnk] s t) ∧
    (may = false → exec (.valueStripeSend p cyc txpos) s = .next s)) ∧
  (∀ (p : BitVec 4) (cyc : BitVec 8) (txpos : BitVec 12) (s : State), s.up = true →
    (s.lnk.tx.find? (fun t => t.port == p.toNat && t.pos == txpos.toNat && t.cyc.toNat % 256 == cyc.toNat) = none ∨
      txEntry s p.toNat txpos.toNat = none ∨ s.lanePorts ≤ p.toNat ∨
      (∃ v e, s.lnk.tx.find? (fun t => t.port == p.toNat && t.pos == txpos.toNat && t.cyc.toNat % 256 == cyc.toNat) = some v ∧
        txEntry s p.toNat txpos.toNat = some e ∧ heldValues s e v.cyc = none)) →
    exec (.valueStripeSend p cyc txpos) s = .next s) ∧
  (∀ (p : BitVec 4) (h : Word64) (values : BitVec 192) (d : Nat) (w : WaitStripe) (takes : Bool) (s u : State), s.up = true →
    p.toNat < s.lanePorts → laneHas s p.toNat (.value h values) = true → u = laneTake p.toNat (.value h values) s →
    takes = (carriesDesign u p.toNat && s.img.valid && s.sch.st != .faultStop) →
    d = (ebits h 56 8 + 512 - (s.sch.committed.toNat + 1) % 256) % 256 →
    w = { port := p.toNat, cyc := s.sch.committed + BitVec.ofNat 64 (d + 1), gen := BitVec.ofNat 16 (ebits h 40 16),
          txpos := ebits h 28 12, slot := ebits h 16 12, countM1 := ebits h 8 8, values := values } →
    (takes = false → exec (.valueStripeReceive p h values) s = .next u) ∧
    (takes = true → rxMatched u p.toNat (ebits h 28 12) (ebits h 16 12) (ebits h 8 8) = false →
      ∃ t, exec (.valueStripeReceive p h values) s = .next t ∧ t.bit (lnkReg p.toNat 8) 5 = true ∧ Changes [.regs,
        .out, .host] u t) ∧
    (takes = true → rxMatched u p.toNat (ebits h 28 12) (ebits h 16 12) (ebits h 8 8) = true →
      (4 ≤ d → ∃ t, exec (.valueStripeReceive p h values) s = .next t ∧ t.sch.st = .faultStop ∧ t.pendBit 0x094 =
        true ∧
        Changes [.regs, .out, .host, .clu, .sch, .wave, .mem, .lnk, .dsp, .pwr, .ldg] s t) ∧
      (d < 4 → staleValue u p.toNat w.cyc w.gen = true →
        exec (.valueStripeReceive p h values) s = .next (lnkCnt p.toNat 4 (w.countM1 + 1) u)) ∧
      (d < 4 → staleValue u p.toNat w.cyc w.gen = false → newer w.gen s.wave.gen = true →
        exec (.valueStripeReceive p h values) s = .next
          { u with lnk := { u.lnk with waiting := u.lnk.waiting ++ [w] } }) ∧
      (d < 4 → staleValue u p.toNat w.cyc w.gen = false → newer w.gen s.wave.gen = false →
        exec (.valueStripeReceive p h values) s = .next (recordStripe w u)))) ∧
  (∀ (w : WaitStripe) (j : Nat) (s : State),
    (findRec s.lnk.recs w.port w.cyc w.txpos (w.slot + j) = none → recordValue w j s = ({ s with lnk := { s.lnk with
      recs := s.lnk.recs ++ [{ port := w.port, cyc := w.cyc, txpos := w.txpos, slot := w.slot + j, val := w.values.getLsbD j,
                               gen := w.gen }] } }, false)) ∧
    (∀ r, findRec s.lnk.recs w.port w.cyc w.txpos (w.slot + j) = some r → r.delivered = true →
      recordValue w j s = ({ s with lnk := { s.lnk with recs := s.lnk.recs.map (fun x =>
        if x = r then { r with val := w.values.getLsbD j, gen := w.gen, stale := false } else x) } },
        r.val != w.values.getLsbD j))) ∧
  (∀ (p : BitVec 4) (h : Word64) (values : BitVec 192) (word : BitVec 128) (s : State), s.up = true →
    (laneHas s p.toNat (.value h values) = false ∨ s.lanePorts ≤ p.toNat →
      exec (.valueStripeReceive p h values) s = .next s) ∧
    (laneHas s p.toNat (.pedigree word) = false ∨ s.lanePorts ≤ p.toNat → exec (.pedigreeReceive p word) s = .next s)) ∧
  (∀ (p : BitVec 4) (s : State), s.up = true →
    (p.toNat < s.lanePorts → (s.lane p.toNat).st = .active → ∃ t, exec (.pedigreeSend p) s = .next t ∧
      (t.lane p.toNat).pedTx = pedigreeWord s p.toNat ∧
      pedigreeDue (s.lane p.toNat).ctrlCount (t.lane p.toNat).ctrlCount = true ∧
      ((∃ g a n parts, Output.laneGroup p.toNat (groupStripes g a n parts) ∈ t.out ∧
          .pedigree (pedigreeWord s p.toNat) ∈ parts) ∨
        (∃ g a n, Output.laneBlock p.toNat (ctrlStripe g a n (.pedigree (pedigreeWord s p.toNat))) ∈ t.out)) ∧
      (∀ q, q ≠ p.toNat → t.lane q = s.lane q) ∧ Changes [.out, .lnk] s t) ∧
    ((s.lane p.toNat).st ≠ .active ∨ s.lanePorts ≤ p.toNat → exec (.pedigreeSend p) s = .next s)) ∧
  (∀ (p : BitVec 4) (word : BitVec 128) (s u : State), s.up = true → p.toNat < s.lanePorts →
    laneHas s p.toNat (.pedigree word) = true → u = laneTake p.toNat (.pedigree word) s →
    ((s.lane p.toNat).st ≠ .active → exec (.pedigreeReceive p word) s = .next u) ∧
    ((s.lane p.toNat).st = .active → pedClass word = s.plat.fwClass.toNat →
      ∃ t, exec (.pedigreeReceive p word) s = .next t ∧ (t.lane p.toNat).pedRx = word ∧ (t.lane p.toNat).pedSeen =
        true ∧
        (t.lane p.toNat).st = .active ∧
        ((s.lane p.toNat).role = 0 → (t.lane p.toNat).pedBlocks = (!(pedImg word) || !s.img.valid ||
          pedImage word != digestFor s word || pedPlatform word != platTag s || wrongPeer s p.toNat)) ∧
        (∀ q, q ≠ p.toNat → t.lane q = s.lane q) ∧ Changes [.regs, .out, .host, .sch, .lnk, .tim] s t) ∧
    ((s.lane p.toNat).st = .active → pedClass word ≠ s.plat.fwClass.toNat →
      ∃ t, exec (.pedigreeReceive p word) s = .next t ∧ (t.lane p.toNat).st = .halt ∧ t.bit (lnkReg p.toNat 8) 4 =
        true ∧
        t.bit (lnkReg p.toNat 8) 0 = true ∧ Changes [.regs, .out, .host, .clu, .sch, .wave, .mem, .lnk, .dsp, .tim,
          .lks, .pwr, .ldg] s t))

/-- The messages of shared time: While shared time is enabled, the intervals send Sync with its Follow_Up on every ACTIVE port of
ROLE design, and a request on the port named: in the next group after the WAVE messages that wait, or, with the replay buffer
full, in control blocks. A message that an accepted group brought and that is
not usable is counted; a Sync waits for its Follow_Up, a request is answered by its two responses, the responses complete a
measurement, which is kept when it lies in range, and a complete Sync gives the port's offset, which the servo takes on the
upstream port. Without EN, or for a message that no group brought, nothing happens. (R272, R273, R276, R278, R279, R280, R282,
spec/09_shared_time.md) -/
def Obligations.SharedTimeMessages : Prop :=
  (∀ (devs : List Int) (s : State), s.up = true →
    ∃ t gm ep, exec (.syncInterval devs) s = .next t ∧
      gm = (if s.tim.st = .master then s.plat.module else s.tim.rxGm) ∧
      ep = (if s.tim.st = .master then s.tim.epoch else s.tim.rxEpoch) ∧
      (∀ p u a b, p < 16 → timeMaySend s p = true → u = forN (s.lane p).waveQ.length (fun _ => flushWaves p) s →
        a = LanePart.time (timeBlock s 0 p gm ep (s.timPort p).syncSeq 0) →
        b = LanePart.time (timeBlock s 8 p gm ep (s.timPort p).syncSeq (stampAt s (devs.getD p 0))) →
        (itemRoom u p = true → ∃ parts,
          Output.laneGroup p (groupStripes (u.lane p).txSeq ((u.lane p).rxSeq - 1) (u.lane p).nakSend parts) ∈ t.out ∧
          a ∈ parts ∧ b ∈ parts) ∧
        (itemRoom u p = false → (∃ nak, Output.laneBlock p (ctrlStripe (u.lane p).txSeq ((u.lane p).rxSeq - 1) nak a) ∈ t.out) ∧
          ∃ nak, Output.laneBlock p (ctrlStripe (u.lane p).txSeq ((u.lane p).rxSeq - 1) nak b) ∈ t.out) ∧
        t.timPort p = { s.timPort p with syncSeq := (s.timPort p).syncSeq + 1 }) ∧
      (∀ p, timeMaySend s p = false → t.timPort p = s.timPort p ∧ t.lane p = s.lane p) ∧ Changes [.out, .lnk, .tim]
        s t) ∧
  (∀ (p : BitVec 4) (dev : Int) (a : LanePart) (s u : State), s.up = true →
    u = forN (s.lane p.toNat).waveQ.length (fun _ => flushWaves p.toNat) s →
    a = .time (timeBlock s 2 p.toNat s.plat.module 0 (s.timPort p.toNat).pdelaySeq 0) →
    (timeMaySend s p.toNat = true → ∃ t, exec (.pdelayInterval p dev) s = .next t ∧
      (itemRoom u p.toNat = true → ∃ parts, t.out = .laneGroup p.toNat
        (groupStripes (u.lane p.toNat).txSeq ((u.lane p.toNat).rxSeq - 1) (u.lane p.toNat).nakSend parts) :: u.out ∧ a ∈ parts) ∧
      (itemRoom u p.toNat = false → ∃ nak, t.out.head? =
        some (.laneBlock p.toNat (ctrlStripe (u.lane p.toNat).txSeq ((u.lane p.toNat).rxSeq - 1) nak a))) ∧
      t.timPort p.toNat = { s.timPort p.toNat with
        pdelay := some { seq := (s.timPort p.toNat).pdelaySeq, t1 := stampAt s dev }
        pdelaySeq := (s.timPort p.toNat).pdelaySeq + 1 } ∧ Changes [.out, .lnk, .tim] s t) ∧
    (timeMaySend s p.toNat = false → exec (.pdelayInterval p dev) s = .next s)) ∧
  (∀ (c : Instr) (ty : Nat) (p : BitVec 4) (blk : TimeBlock) (dev txDev : Int) (s u : State), s.up = true →
    (c, ty) ∈ [(Instr.syncReceive p blk dev, 0), (.followUpReceive p blk, 8), (.pdelayReqReceive p blk dev txDev, 2),
      (.pdelayRespReceive p blk dev, 3), (.pdelayRespFollowUpReceive p blk, 10)] → u = laneTake p.toNat (.time blk) s →
    (laneHas s p.toNat (.time blk) = false ∨ (timeBlockOk s p.toNat blk = true ∧ tbType blk ≠ ty) → exec c s = .next s) ∧
    (laneHas s p.toNat (.time blk) = true → timeBlockOk s p.toNat blk = false →
      ∃ t, exec c s = .next t ∧ t.reg Reg.TIM_CNT_BAD =
          (if s.reg Reg.TIM_CNT_BAD = 0xFFFFFFFF then 0xFFFFFFFF else s.reg Reg.TIM_CNT_BAD + 1) ∧
        RegsBut [Reg.TIM_CNT_BAD] u t ∧ Changes [.regs] u t) ∧
    (laneHas s p.toNat (.time blk) = true → timeBlockOk s p.toNat blk = true → tbType blk = ty →
      (s.bit Reg.TIM_CTRL 0 && activeDesign u p.toNat) = false → exec c s = .next u)) ∧
  (∀ (p : BitVec 4) (blk : TimeBlock) (dev txDev : Int) (s u : State), s.up = true → laneHas s p.toNat (.time blk) = true →
    u = laneTake p.toNat (.time blk) s → (s.bit Reg.TIM_CTRL 0 && activeDesign u p.toNat) = true →
    timeBlockOk s p.toNat blk = true →
    (tbType blk = 0 → ∃ t, exec (.syncReceive p blk dev) s = .next t ∧
      t.timPort p.toNat = { s.timPort p.toNat with sync := some { seq := tbSeq blk, rx := stampAt s dev, at' := s.clock } } ∧
      (s.plat.upstream = some p → t.tim.rxGm = tbGm blk ∧ t.tim.rxEpoch = tbEpoch blk) ∧
      (s.plat.upstream ≠ some p → t.tim.rxGm = s.tim.rxGm ∧ t.tim.rxEpoch = s.tim.rxEpoch) ∧
      t.tim.count = s.tim.count ∧ Changes [.tim] u t) ∧
    (∀ v a b, tbType blk = 2 → v = forN (u.lane p.toNat).waveQ.length (fun _ => flushWaves p.toNat) u →
      a = LanePart.time (timeBlock s 3 p.toNat s.plat.module 0 (tbSeq blk) (stampAt s dev)) →
      b = LanePart.time (timeBlock s 10 p.toNat s.plat.module 0 (tbSeq blk) (stampAt s txDev)) →
      ∃ t, exec (.pdelayReqReceive p blk dev txDev) s = .next t ∧
        (itemRoom v p.toNat = true → ∃ parts, t.out = .laneGroup p.toNat
          (groupStripes (v.lane p.toNat).txSeq ((v.lane p.toNat).rxSeq - 1) (v.lane p.toNat).nakSend parts) :: v.out ∧
          a ∈ parts ∧ b ∈ parts) ∧
        (itemRoom v p.toNat = false →
          (∃ nak, Output.laneBlock p.toNat (ctrlStripe (v.lane p.toNat).txSeq ((v.lane p.toNat).rxSeq - 1) nak a) ∈ t.out) ∧
          ∃ nak, t.out.head? = some (.laneBlock p.toNat (ctrlStripe (v.lane p.toNat).txSeq ((v.lane p.toNat).rxSeq - 1) nak b))) ∧
        Changes [.out, .lnk] s t) ∧
    (∀ d, (s.timPort p.toNat).pdelay = some d → d.seq = tbSeq blk →
      (tbType blk = 3 → exec (.pdelayRespReceive p blk dev) s = .next (u.setTimPort p.toNat { s.timPort p.toNat with
        pdelay := some { d with t2 := some (tbStamp blk), t4 := some (stampAt s dev) } })) ∧
      (tbType blk = 10 → d.t2 = none ∨ d.t4 = none → exec (.pdelayRespFollowUpReceive p blk) s = .next u) ∧
      (∀ t2 t4 m, tbType blk = 10 → d.t2 = some t2 → d.t4 = some t4 → m = (t4 - d.t1) - (tbStamp blk - t2) →
        (0 ≤ m ∧ m ≤ 10000 * 2 ^ 17 → ∃ t, exec (.pdelayRespFollowUpReceive p blk) s = .next t ∧
          t.timPort p.toNat = { s.timPort p.toNat with pdelay := none, meas := (m :: (s.timPort p.toNat).meas).take 8 } ∧
          RegsBut [Reg.TIM_MPD + 16 * p.toNat] s t ∧ Changes [.regs, .tim] u t) ∧
        (m < 0 ∨ 10000 * 2 ^ 17 < m → ∃ t, exec (.pdelayRespFollowUpReceive p blk) s = .next t ∧
          t.timPort p.toNat = { s.timPort p.toNat with pdelay := none } ∧
          RegsBut [Reg.TIM_CNT_BAD] s t ∧ Changes [.regs, .tim] u t))) ∧
    ((∀ d, (s.timPort p.toNat).pdelay = some d → d.seq ≠ tbSeq blk) →
      (tbType blk = 3 → exec (.pdelayRespReceive p blk dev) s = .next u) ∧
      (tbType blk = 10 → exec (.pdelayRespFollowUpReceive p blk) s = .next u)) ∧
    (tbType blk = 8 → (∀ y, (s.timPort p.toNat).sync = some y → y.seq ≠ tbSeq blk ∨ y.at' + syncClks s < s.clock) →
      exec (.followUpReceive p blk) s = .next (noteMaster p.toNat blk u)) ∧
    (∀ y t0 v, tbType blk = 8 → t0 = s.timPort p.toNat → t0.sync = some y → y.seq = tbSeq blk → s.clock ≤ y.at' +
      syncClks s → v = (noteMaster p.toNat blk u).setTimPort p.toNat { t0 with sync := none } →
      (t0.meas.length < 4 → exec (.followUpReceive p blk) s = .next v) ∧
      (∀ o : Rat, 4 ≤ t0.meas.length → o = ((y.rx - tbStamp blk : Int) : Rat) / 2 ^ 16 -
          (mpdOf t0 + ((s.reg (Reg.TIM_ASYM + 16 * p.toNat)).toInt : Rat) / 2 ^ 16) →
        exec (.followUpReceive p blk) s = .next (syncComplete p.toNat blk o v) ∧
        (s.plat.upstream ≠ some p → ∃ t, exec (.followUpReceive p blk) s = .next t ∧
          t.reg (Reg.TIM_PORT_OFS + 16 * p.toNat) = sat32 (o * 2 ^ 8).floor ∧ (t.timPort p.toNat).sync = none ∧
          t.tim.count = s.tim.count ∧ t.tim.rate = s.tim.rate ∧ Changes [.regs, .out, .host, .tim] u t))))

/-- The servo, the time set by software, and the capture: The first complete Sync of the upstream port steps the counter
by its offset, raises TIM_STEPPED and takes the master over; later ones keep the rate within MAX_PPM, and the
sixteenth in a row within LOCK locks. The loss of Sync leads to HOLDOVER. The master's time and EPOCH are set by
TIM_SET_GO, which another module drops; RESTART returns to UNSYNCED; the arming of the capture stores its input.
(R277, R280, R281, R283, spec/09_shared_time.md) -/
def Obligations.SharedTimeServo : Prop :=
  (∀ (gm : BitVec 6) (epoch : BitVec 8) (o : Rat) (s : State), s.tim.st = .unsynced → s.tim.stepped = false →
    ∃ t, t = servo gm epoch o s ∧ t.tim.count = (((s.tim.count : Int) - (o * nsUnits).floor) % timeMod).toNat ∧
      t.tim.rate = 0 ∧ t.tim.stepped = true ∧ t.tim.gm = gm ∧ t.tim.epoch = epoch ∧ t.pendBit 0x2C0 = true ∧
      t.lks.anchorDue = true ∧ t.reg Reg.TIM_OFFSET = sat32 (o * 2 ^ 8).floor ∧
      RegsBut [Reg.TIM_OFFSET, pendReg 0x2C0] s t ∧ Changes [.regs, .out, .host, .tim, .lks] s t) ∧
  (∀ (gm : BitVec 6) (epoch : BitVec 8) (o : Rat) (s : State), s.tim.stepped = true → gm = s.tim.gm → epoch =
    s.tim.epoch →
    ∃ t lim, t = servo gm epoch o s ∧ lim = (s.fld Reg.TIM_CFG 24 8 : Rat) / 10 ^ 6 * 2 ^ 40 ∧ (t.tim.rate : Rat) ≤
      lim ∧
      -lim - 1 < (t.tim.rate : Rat) ∧ t.tim.count = s.tim.count ∧
      (|o| ≤ ((s.fld Reg.TIM_THRESH 0 16 : Nat) : Rat) → t.tim.lockRun = s.tim.lockRun + 1 ∧
        (15 ≤ s.tim.lockRun → t.tim.st = .locked ∧ (s.tim.st ≠ .locked → t.pendBit 0x2C1 = true))) ∧
      (((s.fld Reg.TIM_THRESH 0 16 : Nat) : Rat) < |o| → t.tim.lockRun = 0 ∧ t.tim.st = s.tim.st) ∧
      RegsBut [Reg.TIM_OFFSET, pendReg 0x2C1] s t ∧ Changes [.regs, .out, .host, .tim] s t) ∧
  (∀ (s : State), s.up = true →
    (s.tim.st = .locked ∨ (s.tim.st = .unsynced ∧ s.tim.stepped = true) →
      ∃ t, exec .syncLossTimeout s = .next t ∧ t.tim = { s.tim with st := .holdover, lockRun := 0 } ∧ t.pendBit 0x2C2
        = true ∧
        RegsBut [pendReg 0x2C2] s t ∧ Changes [.regs, .out, .host, .tim] s t) ∧
    (s.tim.st ≠ .locked → ¬ (s.tim.st = .unsynced ∧ s.tim.stepped = true) → exec .syncLossTimeout s = .next s)) ∧
  (∀ (path : Path) (val : Word32) (s : State), s.up = true → accepts path Reg.TIM_SET_GO val s → val.getLsbD 0 = true
    →
    (s.tim.st = .master → (s.reg (Reg.TIM_SET + 8)).toNat < 10 ^ 9 →
      ∃ t, exec (.timSet path val) s = .next t ∧ t.tim = { s.tim with
          count := ((s.reg Reg.TIM_SET).toNat % 2 ^ 16 * 2 ^ 32 + (s.reg (Reg.TIM_SET + 4)).toNat) * secUnits +
            (s.reg (Reg.TIM_SET + 8)).toNat * nsUnits
          epoch := s.tim.epoch + 1 } ∧ t.lks = { s.lks with anchorDue := true } ∧ Changes [.host, .tim, .lks] s t) ∧
    (s.tim.st = .master → 10 ^ 9 ≤ (s.reg (Reg.TIM_SET + 8)).toNat →
      ∃ t, exec (.timSet path val) s = .next t ∧ t.tim =
        { s.tim with count := t.tim.count, epoch := s.tim.epoch + 1 } ∧
        t.freeCtr = s.freeCtr + 1 ∧ Changes [.freeCtr, .host, .tim, .lks] s t) ∧
    (s.tim.st ≠ .master → ∃ t, exec (.timSet path val) s = .next t ∧ Changes [.host] s t)) ∧
  (∀ (path : Path) (val : Word32) (s : State), s.up = true → accepts path Reg.TIM_SET_GO val s → val.getLsbD 0 = false →
    ∃ t, exec (.timSet path val) s = .next t ∧ Changes [.host] s t) ∧
  (∀ (path : Path) (val : Word32) (s : State), s.up = true →
    (val.getLsbD 1 = true → accepts path Reg.TIM_CTRL val s → s.tim.st ≠ .master →
      ∃ t, exec (.timRestart path val) s = .next t ∧ t.tim = { s.tim with
          st := .unsynced
          stepped := false
          gm := 0
          epoch := 0
          rate := 0
          lockRun := 0 } ∧ t.bit Reg.TIM_CTRL 0 = val.getLsbD 0 ∧ RegsBut [Reg.TIM_CTRL] s t ∧ Changes [.regs, .host, .tim] s t) ∧
    (val.getLsbD 1 = true → accepts path Reg.TIM_CTRL val s → s.tim.st = .master →
      ∃ t, exec (.timRestart path val) s = .next t ∧ RegsBut [Reg.TIM_CTRL] s t ∧ Changes [.regs, .host] s t) ∧
    (val.getLsbD 1 = false → exec (.timRestart path val) s = .next s) ∧
    (val.getLsbD 6 = true → accepts path Reg.TIM_CAPT_CTRL val s →
      ∃ t, exec (.timCaptureArm path val) s = .next t ∧ t.bit Reg.TIM_CAPT_CTRL 6 = true ∧
        t.fld Reg.TIM_CAPT_CTRL 0 6 = bitsOf val 0 6 ∧ RegsBut [Reg.TIM_CAPT_CTRL] s t ∧ Changes [.regs, .host] s t) ∧
    (val.getLsbD 6 = false → exec (.timCaptureArm path val) s = .next s))

/-- The phases of a Glove load: A phase that passes goes on to the next one: the header names the regions, the list
isolates the region of a partial load and moves those of a full one to LOADING, and the data starts the regions. A failed
check ends the load with its status, DONE and its event, and the tags are compared at every end; once the data phase has
begun the regions of a failed load are then FAULT, or EMPTY for a full or a resident one. A phase event that does not belong
to the load's phase does nothing. (R289, R297, R298, R299, R300, R301, R303, R304, R305, spec/10_glove.md) -/
def Obligations.GloveLoads : Prop :=
  (∀ (h : List Byte) (failAt : BitVec 14) (l : GlvLoad) (regs : BitVec 4) (s : State), s.up = true → s.glv.load = some l →
    l.phase = .header → regs = BitVec.ofNat 4 (leAt h 10 1) →
    (fullBusy s l.source h = false →
      lowestFail (headerFails s h l.length ++ failIf (l.source == .host && l.regions ≠ regs) 12 1 10) = none →
      ∃ t, exec (.gloveLoadHeaderDone h failAt false) s = .next t ∧
        t.glv = { s.glv with load := some { l with phase := .list, header := h, regions := regs } } ∧
        t.fld Reg.GLV_LOAD_STATUS 4 4 = regs.toNat ∧ t.fld Reg.GLV_LOAD_STATUS 16 3 = 2 ∧
        RegsBut [Reg.GLV_LOAD_STATUS] s t ∧ Changes [.regs, .glv] s t) ∧
    (∀ (readFail : Bool) (f : GlvFail),
      (readFail = true ∧ f.status = 15 ∧ f.kind = 7 ∧ f.index = failAt.toNat) ∨
      (readFail = false ∧ fullBusy s l.source h = true ∧ f.status = 9 ∧ f.kind = 1 ∧ f.index = 6) ∨
      (readFail = false ∧ fullBusy s l.source h = false ∧
        lowestFail (headerFails s h l.length ++ failIf (l.source == .host && l.regions ≠ regs) 12 1 10) = some f) →
      ∃ t, exec (.gloveLoadHeaderDone h failAt readFail) s = .next t ∧
        t.glv = { s.glv with load := none, mapMismatch := t.glv.mapMismatch } ∧ TagsCompared s t ∧
        t.fld Reg.GLV_LOAD_STATUS 0 2 = 2 ∧ t.fld Reg.GLV_LOAD_STATUS 8 8 = f.status ∧
        t.fld Reg.GLV_LOAD_DETAIL 28 4 = f.kind ∧ t.fld Reg.GLV_LOAD_DETAIL 0 14 = f.index % 2 ^ 14 ∧
        t.bit Reg.GLV_CAUSE 0 = true ∧ t.pendBit 0x360 = true ∧
        RegsBut [Reg.GLV_LOAD_STATUS, Reg.GLV_LOAD_DETAIL, Reg.GLV_CAUSE, Reg.GLV_ERR_LOC, Reg.GLV_CNT + 20,
          Reg.GLV_CNT_SAT, pendReg 0x360] s t ∧ Changes [.regs, .out, .host, .glv] s t)) ∧
  (∀ (ws : List Word32) (l : GlvLoad) (s : State), s.up = true → s.glv.load = some l → l.phase = .list →
    (lowestFail (listFails l.regions ws ++ failIf (ws.length ≠ leAt l.header 12 4) 12 2 ws.length) = none →
      ∃ t, exec (.gloveLoadListDone ws false) s = .next t ∧ t.glv.load = some { l with phase := .data, list := ws } ∧
        (∀ r, r ∈ maskRegions l.regions →
          (t.region r).st = (if leAt l.header 6 2 % 2 = 1 then .isolated else .loading) ∧
          (t.region r).park = (l.header.drop (0x40 + 80 * r)).take 80 ∧ (t.region r).frames = (s.region r).frames ∧
          (leAt l.header 6 2 % 2 = 1 → (t.region r).heldLines = (captureHeld s r).heldLines ∧
            (t.region r).heldPins = (captureHeld s r).heldPins)) ∧
        (∀ r, r ∉ maskRegions l.regions → (t.region r).st = (s.region r).st ∧
          (t.region r).frames = (s.region r).frames) ∧ t.fld Reg.GLV_LOAD_STATUS 16 3 = 3 ∧
        t.glv.swept = s.glv.swept.filter (fun r => !(maskRegions l.regions).contains r) ∧
        RegsBut [Reg.GLV_LOAD_STATUS] s t ∧ Changes [.regs, .freeCtr, .glv] s t) ∧
    (∀ (readFail : Bool) (f : GlvFail), (readFail = true ∧ f.status = 15 ∧ f.kind = 7) ∨ (readFail = false ∧
      lowestFail (listFails l.regions ws ++ failIf (ws.length ≠ leAt l.header 12 4) 12 2 ws.length) = some f) →
      ∃ t, exec (.gloveLoadListDone ws readFail) s = .next t ∧
        t.glv = { s.glv with load := none, mapMismatch := t.glv.mapMismatch } ∧ TagsCompared s t ∧
        t.fld Reg.GLV_LOAD_STATUS 8 8 = f.status ∧ t.fld Reg.GLV_LOAD_DETAIL 28 4 = f.kind ∧ t.pendBit 0x360 = true ∧
        Changes [.regs, .out, .host, .glv] s t)) ∧
  (∀ (fs : List (BitVec 1024)) (crc : Word32) (l : GlvLoad) (s : State), s.up = true → s.glv.load = some l → l.phase
    = .data →
    (lowestFail (dataFails (writeFrames l fs s) l fs crc) = none → fs.length = l.list.length →
      ∃ t, exec (.gloveLoadDataDone fs crc false) s = .next t ∧ t.glv.load = none ∧
        (∀ r, r ∈ maskRegions l.regions → (t.region r).st = .running ∧
          (t.region r).frames = ((writeFrames l fs s).region r).frames ∧
          t.reg (Reg.GLV_GOLD + 4 * r) = BitVec.ofNat 32 (leAt l.header (0x18 + 4 * r) 4)) ∧
        (∀ r, r < 4 → r ∉ maskRegions l.regions → (t.region r).st = (s.region r).st) ∧ TagsCompared s t ∧
        t.fld Reg.GLV_LOAD_STATUS 8 8 = 0 ∧ t.pendBit 0x360 = true ∧ Changes [.regs, .freeCtr, .out, .host, .glv] s
          t) ∧
    (∀ (readFail : Bool) (f : GlvFail), (f.status = 15 ∧ (readFail = true ∨ fs.length ≠ l.list.length)) ∨
      (readFail = false ∧ fs.length = l.list.length ∧ lowestFail (dataFails (writeFrames l fs s) l fs crc) = some f) →
      ∃ t, exec (.gloveLoadDataDone fs crc readFail) s = .next t ∧ t.glv.load = none ∧
        (∀ r, r ∈ maskRegions l.regions →
          (t.region r).st = (if leAt l.header 6 2 % 2 = 1 ∧ l.source ≠ .resident then .fault else .empty) ∧
          (t.region r).frames = ((writeFrames l fs s).region r).frames) ∧
        (∀ r, r < 4 → r ∉ maskRegions l.regions → (t.region r).st = (s.region r).st) ∧ TagsCompared s t ∧
        t.fld Reg.GLV_LOAD_STATUS 8 8 = f.status ∧ t.pendBit 0x360 = true ∧ Changes [.regs, .freeCtr, .out,
          .host, .glv] s t)) ∧
  (∀ (h : List Byte) (failAt : BitVec 14) (ws : List Word32) (fs : List (BitVec 1024)) (crc : Word32) (x : Bool) (s : State),
    s.up = true →
    ((∀ l, s.glv.load = some l → l.phase ≠ .header) → exec (.gloveLoadHeaderDone h failAt x) s = .next s) ∧
    ((∀ l, s.glv.load = some l → l.phase ≠ .list) → exec (.gloveLoadListDone ws x) s = .next s) ∧
    ((∀ l, s.glv.load = some l → l.phase ≠ .data) → exec (.gloveLoadDataDone fs crc x) s = .next s))

/-- DO updates, trips, signatures, edges and pins of Glove: DO_UPDATE lets the clocks run until the oldest update has
taken place. A trip disables the segment's taps, puts its region into FAULT and is reported. A signature is computed
over the frames with the upsets in them, and one that differs from the reference is reported and, where the register
says so, faults the region. An edge on an enabled input is recorded for Aster, or lost when it comes too early. A
pin takes the level that the outside drives it to, or none, in every state of the module, and Glove responds while the
module is in service. (R286, R287, R292, R306, R307, R308, R309, R310, R311, spec/10_glove.md) -/
def Obligations.GloveEvents : Prop :=
  (∀ (e : DoEntry) (l : List DoEntry) (s : State), s.up = true → s.glv.doQueue = e :: l →
    (∀ n, n ≤ e.due - s.clock + 2 → (∀ i, i < n → (clockTick^[i] s).glv.doQueue.head? = some e) →
      (clockTick^[n] s).glv.doQueue.head? ≠ some e → exec .doUpdate s = .next (clockTick^[n] s)) ∧
    ((∀ i, i ≤ e.due - s.clock + 2 → (clockTick^[i] s).glv.doQueue.head? = some e) → exec .doUpdate s = .next s)) ∧
  (∀ (s : State), s.up = true → s.glv.doQueue = [] → exec .doUpdate s = .next s) ∧
  (∀ (e : DoEntry) (l : List DoEntry) (s : State), s.glv.doQueue = e :: l →
    (e.due ≤ s.clock → doDue s = doApply e.lines { s with glv := { s.glv with doQueue := l } }) ∧
    (s.clock < e.due → doDue s = s)) ∧
  (∀ (r : BitVec 2) (seg : BitVec 13) (s : State), s.up = true →
    ((s.region r.toNat).st = .running → Config.segmented (s.region r.toNat).frames = true → seg.toNat < 6144 →
      ∃ t, exec (.contentionTrip r seg) s = .next t ∧ (t.region r.toNat).st = .fault ∧ t.bit Reg.GLV_CAUSE 1 = true ∧
        t.pendBit 0x361 = true ∧
        (s.reg Reg.GLV_CAUSE = 0 →
          t.reg Reg.GLV_ERR_LOC = BitVec.ofNat 32 (2 ^ 29 + 2 ^ 26 * r.toNat + 2 ^ 13 * seg.toNat)) ∧
        (∀ b, b < 128 → (frameAt (t.region r.toNat) (1152 + seg.toNat / 8)).getLsbD (128 * (seg.toNat % 8) + b) =
          false) ∧
        Changes [.regs, .freeCtr, .out, .host, .glv] s t) ∧
    ((s.region r.toNat).st ≠ .running ∨ Config.segmented (s.region r.toNat).frames = false ∨ 6144 ≤ seg.toNat →
      exec (.contentionTrip r seg) s = .next s)) ∧
  (∀ (r : BitVec 2) (ups : List (BitVec 11 × BitVec 10)) (sig : BitVec 32) (s : State), s.up = true →
    sig = signatureOf ((forEach ups (fun u s => s.setRegion r.toNat { s.region r.toNat with
      frames := mset (s.region r.toNat).frames 0 u.1.toNat
        (frameAt (s.region r.toNat) u.1.toNat ^^^ BitVec.ofNat 1024 (2 ^ u.2.toNat)) }) s).region r.toNat) →
    ((s.region r.toNat).st = .running → s.bit Reg.GLV_CTRL 8 = true → s.glv.load = none →
      (sig = s.reg (Reg.GLV_GOLD + 4 * r.toNat) → ∃ t, exec (.signatureRegionDone r ups) s = .next t ∧
        t.reg (Reg.GLV_SIG + 4 * r.toNat) = sig ∧ (t.region r.toNat).st = .running ∧ Changes [.regs, .freeCtr, .out,
          .host, .glv] s t) ∧
      (sig ≠ s.reg (Reg.GLV_GOLD + 4 * r.toNat) → ∃ t, exec (.signatureRegionDone r ups) s = .next t ∧
        t.reg (Reg.GLV_SIG + 4 * r.toNat) = sig ∧ t.bit Reg.GLV_CAUSE 2 = true ∧ t.pendBit 0x362 = true ∧
        (t.region r.toNat).st = (if s.bit Reg.GLV_CTRL (4 + r.toNat) then .fault else .running) ∧ Changes [.regs,
          .freeCtr, .out, .host, .glv] s t)) ∧
    ((s.region r.toNat).st ≠ .running ∨ s.bit Reg.GLV_CTRL 8 = false ∨ s.glv.load.isSome = true →
      exec (.signatureRegionDone r ups) s = .next s)) ∧
  (∀ (x c : BitVec 6) (falling : Bool) (s : State), s.up = true →
    ((s.glv.residentDone && pairBit s Reg.GLV_TDC_EN x.toNat && (pairBit s (Reg.GLV_TDC_EN + 8) x.toNat == falling) &&
        c.toNat < 50) = true →
      (mget s.glv.tdcLast 0 x.toNat ≠ s.clock + 1 → mget s.pwr.tdcOut 0 x.toNat ≤ s.clock →
        ∃ t, exec (.tdcEdge x falling c) s = .next t ∧
          t.glv = { s.glv with tdcLast := mset s.glv.tdcLast 0 x.toNat (s.clock + 1) } ∧
          t.ast = { s.ast with tdc := if s.ast.tdc.length < 256 then
            s.ast.tdc ++ [{ input := x.toNat, clk := s.clock, code := c.toNat, time := s.tim.count }] else s.ast.tdc
              } ∧
          (256 ≤ s.ast.tdc.length → t.bit Reg.AST_CAUSE 0 = true ∧ t.pendBit 0x3E6 = true) ∧
          (falling = false → s.bit Reg.TIM_CAPT_CTRL 6 = true → s.fld Reg.TIM_CAPT_CTRL 0 6 = x.toNat →
            t.bit Reg.TIM_CAPT_CTRL 6 = false ∧ t.pendBit 0x2C4 = true) ∧ Changes [.regs, .out, .host, .glv, .ast] s
              t) ∧
      (mget s.glv.tdcLast 0 x.toNat = s.clock + 1 ∨ s.clock < mget s.pwr.tdcOut 0 x.toNat →
        ∃ t, exec (.tdcEdge x falling c) s = .next t ∧ t.bit Reg.GLV_CAUSE 5 = true ∧ t.pendBit 0x365 = true ∧
          (s.reg Reg.GLV_CAUSE = 0 → t.reg Reg.GLV_ERR_LOC =
            BitVec.ofNat 32 (6 * 2 ^ 28 + 2 ^ 26 * (x.toNat / 16) + 2 ^ 13 * x.toNat)) ∧
          RegsBut [Reg.GLV_CAUSE, Reg.GLV_ERR_LOC, Reg.GLV_CNT + 16, Reg.GLV_CNT_SAT, pendReg 0x365, pendReg 0x366] s
            t ∧
          Changes [.regs, .out, .host] s t)) ∧
    ((s.glv.residentDone && pairBit s Reg.GLV_TDC_EN x.toNat && (pairBit s (Reg.GLV_TDC_EN + 8) x.toNat == falling) &&
        c.toNat < 50) = false → exec (.tdcEdge x falling c) s = .next s)) ∧
  (∀ (pin : BitVec 9) (level : Option Bool) (s : State),
    (pin.toNat < 384 → s.up = true → ∃ t, exec (.pinInputChange pin level) s = .next t ∧
      t.glv.pinIn = mset s.glv.pinIn none pin.toNat level ∧ t.glv.doLine = s.glv.doLine ∧
      (∀ r, (t.region r).st = (s.region r).st ∧ (t.region r).frames = (s.region r).frames) ∧ Changes [.freeCtr, .glv]
        s t) ∧
    (pin.toNat < 384 → s.up = false → exec (.pinInputChange pin level) s =
      .next { s with glv := { s.glv with pinIn := mset s.glv.pinIn none pin.toNat level } }) ∧
    (384 ≤ pin.toNat → exec (.pinInputChange pin level) s = .next s))

/-- Evaluation, golden records, staging, disarming and release of Aster: The oldest committed cycle that waits is
evaluated: the state follows the branch taken, a violation is recorded, and the cycle leaves the queue; while its golden
record is missing it stays. The next golden record is read ahead by at most 64 cycles, and one with an uncorrected error is
reported. STAGE stages a shadow that passes its checks and ends with a status otherwise. DISARM drops what waits, RELEASE
ends a stop, and a write with both does both. (R315, R318, R319, R321, R322, R323, R328, R329, R330, R331,
spec/11_aster.md) -/
def Obligations.AsterOperation : Prop :=
  (∀ (e : AstEntry) (l : List AstEntry) (s : State), s.up = true → s.ast.queue = e :: l → astReady s = true →
    ∃ t bad, exec .asterEvaluate s = .next t ∧ t.ast.queue = l ∧ t.ast.lastEval = e.cyc ∧
      t.ast.prevP = e.probes ∧ t.ast.armed = s.ast.armed ∧ t.ast.applied = s.ast.applied ∧
      bad = mtResult s e (match mtIndex s e.cyc with
        | some i => s.ast.golden.find? (fun g => g.index == i)
        | none => none) ∧
      (bad.isSome = true → t.bit Reg.AST_MT_STATUS 1 = true ∧
        (s.bit Reg.AST_MT_STATUS 1 = false → t.reg64 Reg.AST_MT_VCYC = e.cyc ∧ t.pendBit 0x3E2 = true)) ∧
      (∀ sel ctl, takenBranch s (condInput s e bad.isSome) = some (sel, ctl) → t.ast.state = BitVec.ofNat 4 (bitsOf
        ctl 3 4)) ∧
      (takenBranch s (condInput s e bad.isSome) = none → t.ast.state = s.ast.state) ∧
      Changes [.regs, .freeCtr, .out, .host, .sch, .wave, .lnk, .ast, .lks, .pwr] s t) ∧
  (∀ (s : State), s.up = true → astReady s = false → exec .asterEvaluate s = .next (readyPending (schSettle s))) ∧
  (∀ (s : State) (ahead : Nat), s.up = true →
    ahead = (mtStart s + BitVec.ofNat 64 s.ast.goldenNext - s.sch.committed).toNat →
    (mtActive s = true → s.ast.goldenNext < mtCount s → (ahead ≤ 64 ∨ 2 ^ 63 ≤ ahead) →
      ∃ t g, exec .goldenRecordRead s = .next t ∧ g = (readGolden s.ast.goldenNext s).1 ∧
        t.ast = { s.ast with golden := s.ast.golden ++ [g], goldenNext := s.ast.goldenNext + 1 } ∧
        (g.bad = true → t.bit Reg.AST_CAUSE 1 = true ∧ t.bit Reg.AST_MT_STATUS 3 = true ∧ t.pendBit 0x3E7 = true) ∧
        (∃ qs, t.mem = { s.mem with pcReqs := s.mem.pcReqs ++ qs } ∧ ∀ x, x ∈ qs → x.2 = 3) ∧
        Changes [.regs, .out, .host, .mem, .ast, .ldg] s t) ∧
    (mtActive s = false ∨ mtCount s ≤ s.ast.goldenNext ∨ (64 < ahead ∧ ahead < 2 ^ 63) →
      exec .goldenRecordRead s = .next s)) ∧
  (∀ (path : Path) (val : Word32) (owns : Bool) (st : Nat) (s : State), s.up = true →
    (val.getLsbD 0 = true → accepts path Reg.AST_SHADOW val s →
      st = (if owns = false then 3 else if s.sch.applyT.isSome = true then 9
        else if shadowBad (storeReg Reg.AST_SHADOW val s) = true then 12 else 0) →
      ∃ t, exec (.asterStage ⟨path, owns⟩ val) s = .next t ∧ t.ast = { s.ast with staged := s.ast.staged || st == 0 } ∧
        t.fld Reg.AST_SHADOW 8 8 = st ∧ t.bit Reg.AST_SHADOW 16 = true ∧
        RegsBut [Reg.AST_SHADOW] s t ∧ Changes [.regs, .host, .ast] s t) ∧
    (val.getLsbD 0 = false → exec (.asterStage ⟨path, owns⟩ val) s = .next s)) ∧
  (∀ (path : Path) (val : Word32) (c : Instr) (s : State), s.up = true → accepts path Reg.AST_CTRL val s →
    (c = .asterDisarm path val ∧ val.getLsbD 3 = true) ∨ (c = .asterRelease path val ∧ val.getLsbD 4 = true) →
    ∃ t, exec c s = .next t ∧
      t.ast = { s.ast with
        armed := s.ast.armed && !val.getLsbD 3
        queue := if val.getLsbD 3 then [] else s.ast.queue
        tdc := if val.getLsbD 3 then s.ast.tdc.filter (fun r => !(s.ast.queue.any (fun e => r.cyc == some e.cyc))) else s.ast.tdc
        golden := if val.getLsbD 3 then [] else s.ast.golden
        stopped := if val.getLsbD 4 then none else s.ast.stopped } ∧
      (val.getLsbD 3 = true → t.bit Reg.AST_MT_STATUS 0 = false) ∧ t.bit Reg.AST_CTRL 5 = val.getLsbD 5 ∧
      Changes [.regs, .out, .host, .sch, .wave, .lnk, .ast, .lks] s t) ∧
  (∀ (path : Path) (val : Word32) (s : State), s.up = true →
    (val.getLsbD 3 = false → exec (.asterDisarm path val) s = .next s) ∧
    (val.getLsbD 4 = false → exec (.asterRelease path val) s = .next s))

/-- Arming, cycles, timers, blocks and sinks of Larkspur: EN arms Larkspur when the writer owns, a trace grant is there and
the resources are, and fails with a status and its event otherwise; a ring on a parked stack, or a PCIe sink without bus
mastering, is then lost at once (the model's reading of R348, log 149). Clearing EN disarms it, and a flush ends the block
being filled. The oldest committed cycle that has been evaluated is closed. A flow record sets the reference of its core,
the anchor timer the references of the stream, the flush timeout ends the block. The oldest block goes to the sink
in use, and waits while that has no room and in Doze and Nap; a sink that is lost is replaced by the fallback, or Larkspur is disarmed. (R337,
R338, R339, R340, R341, R342, R343, R346, R347, R348, R375, spec/12_larkspur.md) -/
def Obligations.LarkspurOperation : Prop :=
  (∀ (path : Path) (val : Word32) (owns : Bool) (c fb : Nat) (s : State), s.up = true → c = s.fld Reg.LKS_SINK 0 2 →
    fb = s.fld Reg.LKS_SINK 2 2 → val.getLsbD 0 = true → accepts path Reg.LKS_CTRL val s →
    (s.lks.armed = true → ∃ t, exec (.lksArm ⟨path, owns⟩ val) s = .next t ∧ t.lks.armed = true ∧
      t.bit Reg.LKS_CTRL 0 = true ∧ (val.getLsbD 7 = false → t.lks = { s.lks with bp := t.lks.bp } ∧
        RegsBut [Reg.LKS_CTRL] s t) ∧ (val.getLsbD 7 = true → t.lks.cur = []) ∧ Changes [.regs, .out, .host, .lks] s t) ∧
    (s.lks.armed = false → owns = true → (grantsOf s 2).isEmpty = false → armResource s = false →
      (c ≤ 1 → sinkDown s c = false) → ∃ t, exec (.lksArm ⟨path, owns⟩ val) s = .next t ∧ t.lks.armed = true ∧
        t.lks.capturing = false ∧ t.lks.cur = [] ∧ t.lks.bseq = 0 ∧ t.lks.lastClosed = s.sch.committed ∧
        t.lks.status = 0 ∧ t.lks.onFallback = false ∧ t.lks.blocks = s.lks.blocks ∧
        t.reg Reg.LKS_RING_WR = 0 ∧ RegsBut [Reg.LKS_CTRL, Reg.LKS_RING_WR] s t ∧ Changes [.regs, .host, .lks] s t) ∧
    (s.lks.armed = false → owns = true → (grantsOf s 2).isEmpty = false → armResource s = false → c ≤ 1 →
      sinkDown s c = true → ∃ t, exec (.lksArm ⟨path, owns⟩ val) s = .next t ∧ t.lks.sinkLost = true ∧
        t.lks.armed = (fb != 3 && !sinkDown s fb) ∧ t.lks.onFallback = (fb != 3 && !sinkDown s fb) ∧ t.lks.blocks = [] ∧
        t.bit Reg.LKS_CAUSE 1 = true ∧ t.pendBit 0x421 = true ∧ Changes [.regs, .out, .host, .lks] s t) ∧
    (s.lks.armed = false → (owns = false ∨ (grantsOf s 2).isEmpty = true ∨ armResource s = true) →
      ∃ t, exec (.lksArm ⟨path, owns⟩ val) s = .next t ∧ t.lks.armed = false ∧
        t.lks.status = (if owns = false then 3 else if (grantsOf s 2).isEmpty then 4 else 12) ∧
        t.bit Reg.LKS_CTRL 0 = false ∧ t.bit Reg.LKS_CAUSE 3 = true ∧ t.pendBit 0x423 = true ∧
        (val.getLsbD 7 = false → RegsBut [Reg.LKS_CTRL, Reg.LKS_CAUSE, pendReg 0x423] s t) ∧
        Changes [.regs, .out, .host, .lks] s t)) ∧
  (∀ (path : Path) (val : Word32) (owns : Bool) (s : State), s.up = true →
    (val.getLsbD 0 = false → exec (.lksArm ⟨path, owns⟩ val) s = .next s ∧ (accepts path Reg.LKS_CTRL val s →
      ∃ t, exec (.lksDisarm path val) s = .next t ∧ t.lks.armed = false ∧ t.bit Reg.LKS_CTRL 0 = false ∧
        (s.lks.armed = true → t.lks.capturing = false ∧ t.lks.cycs = [] ∧ t.lks.cur = []) ∧
        Changes [.regs, .out, .host, .lks] s t)) ∧
    (val.getLsbD 0 = true → exec (.lksDisarm path val) s = .next s) ∧
    (val.getLsbD 7 = true → accepts path Reg.LKS_CTRL val s → ∃ t, exec (.lksFlush path val) s = .next t ∧ t.lks.cur
      = [] ∧ t.lks.idle = 0 ∧ Changes [.regs, .out, .host, .lks] s t) ∧
    (val.getLsbD 7 = false → exec (.lksFlush path val) s = .next s)) ∧
  (∀ (c : LksCyc) (rest : List LksCyc) (s : State), s.up = true → s.lks.cycs = c :: rest →
    (s.lks.armed = true → c.evaluated = true → s.pwr.mode = .on → ∃ t, exec .lksCycleClose s = .next t ∧ t.lks.cycs =
      rest ∧
      t.lks.lastClosed = c.cyc ∧ t.lks.prevP = c.probes ∧
      t.lks.capturing = (!(s.bit Reg.LKS_CTRL 1 && c.marks.contains .stop) &&
        (s.lks.capturing || !(s.bit Reg.LKS_CTRL 1) || c.marks.contains .start)) ∧ Changes [.regs, .out, .host, .lks]
          s t) ∧
    (s.lks.armed = false ∨ c.evaluated = false ∨ s.pwr.mode ≠ .on → exec .lksCycleClose s = .next s)) ∧
  (∀ (s : State), s.up = true → s.lks.cycs = [] → exec .lksCycleClose s = .next s) ∧
  (∀ (kind : BitVec 2) (target : Word32) (s : State), s.up = true →
    ((s.lks.armed && s.lks.capturing && kind != 3 && s.pwr.mode == .on && s.bit Reg.LKS_CTRL (3 + b2n
      s.boot.activeB)) = true →
      ∃ t, exec (.lksFlowRecord kind target) s = .next t ∧
        (t.lks.losing = false → (if s.boot.activeB then t.lks.fa.2 else t.lks.fa.1) = target.toNat) ∧ Changes [.regs,
          .out, .host, .lks] s t) ∧
    ((s.lks.armed && s.lks.capturing && kind != 3 && s.pwr.mode == .on && s.bit Reg.LKS_CTRL (3 + b2n
      s.boot.activeB)) = false →
      exec (.lksFlowRecord kind target) s = .next s)) ∧
  (∀ (s : State), s.up = true →
    (s.fld Reg.LKS_FLUSH_US 0 16 ≠ 0 → s.lks.cur ≠ [] → ∃ t, exec .lksFlushTimeout s = .next t ∧ t.lks.cur = [] ∧
      t.lks.blocks = s.lks.blocks ++
        [{ seq := s.lks.bseq, bytes := blockBytes s.lks.bseq s.lks.first s.lks.cur, packets := s.lks.packets }] ∧
      t.lks.bseq = (s.lks.bseq + 1) % 2 ^ 32 ∧ Changes [.lks] s t) ∧
    (s.fld Reg.LKS_FLUSH_US 0 16 = 0 ∨ s.lks.cur = [] → exec .lksFlushTimeout s = .next s) ∧
    ((s.lks.armed && s.lks.capturing && s.pwr.mode == .on) = true → ∃ t, exec .lksAnchorTimer s = .next t ∧
      t.lks.anchorDue = false ∧ t.lks.sinceAnchor = 0 ∧ (t.lks.losing = false → t.lks.ma = (0, 0) ∧ t.lks.fa = (0, 0)
        ∧
        t.lks.anchorNs = (timeNs s).toNat) ∧ Changes [.regs, .out, .host, .lks] s t) ∧
    ((s.lks.armed && s.lks.capturing && s.pwr.mode == .on) = false → exec .lksAnchorTimer s = .next s)) ∧
  (∀ (seq : Nat) (first : Option Nat) (body : List Byte), body.length ≤ 4080 → (blockBytes seq first body).length =
    4096) ∧
  (∀ (s : State), s.up = true → s.pwr.mode ≠ .on → exec .lksBlockSend s = .next s) ∧
  (∀ (b : LksBlock) (rest : List LksBlock) (n w : Nat) (s : State), s.up = true → s.lks.blocks = b :: rest →
    s.pwr.mode = .on →
    (sinkNow s = 0 → sinkDown s 0 = true → exec .lksBlockSend s = .next (sinkLost s)) ∧
    (sinkNow s = 0 → sinkDown s 0 = false → n = ringBytes s / 4096 →
      (n = 0 → exec .lksBlockSend s = .next s) ∧
      (n ≠ 0 → w = (s.reg Reg.LKS_RING_WR).toNat % n → ∃ t, exec .lksBlockSend s = .next t ∧
        t.reg Reg.LKS_RING_WR = BitVec.ofNat 32 ((w + 1) % n) ∧
        (∀ i, i < b.bytes.length / 8 → mget t.mem.hbm none (ringStack s * 2 ^ 32 + (ringBase s + 4096 * w) / 8 + i) =
          some (BitVec.ofNat 64 (leAt b.bytes (8 * i) 8))) ∧
        ((s.bit Reg.LKS_SINK 4 = false ∨ w + 1 ≠ n) →
          ∃ more, t.lks.blocks = rest ++ more ∧ (s.lks.losing = false → more = [])) ∧
        (s.bit Reg.LKS_SINK 4 = true → w + 1 = n → t.lks.armed = false ∧ t.lks.blocks = [] ∧
          t.bit Reg.LKS_CAUSE 2 = true ∧ t.pendBit 0x422 = true) ∧
        Changes [.regs, .out, .host, .mem, .bnt, .lks] s t)) ∧
    (sinkNow s = 1 → n = (s.reg Reg.LKS_HOST_SLOTS).toNat → w = (s.reg Reg.LKS_HOST_WR).toNat →
      ((s.lks.busMasterOff || !s.host.dlActive) = true ∨ n = 0 ∨ (w + 1) % n = (s.reg Reg.LKS_HOST_RD).toNat →
        exec .lksBlockSend s = .next s) ∧
      ((s.lks.busMasterOff || !s.host.dlActive) = false → n ≠ 0 → (w + 1) % n ≠ (s.reg Reg.LKS_HOST_RD).toNat →
        ∃ t more, exec .lksBlockSend s = .next t ∧ t.lks.blocks = rest ++ more ∧ (s.lks.losing = false → more = []) ∧
          t.reg Reg.LKS_HOST_WR = BitVec.ofNat 32 ((w + 1) % n) ∧
          Output.lksRecord ((s.reg64 Reg.LKS_HOST_BASE).toNat + 4112 * w) (sealBlock s 1 b.bytes) ∈ t.out ∧ Changes
            [.regs, .out, .host, .bnt, .lks] s t)) ∧
    (∀ ps q, sinkNow s = 2 → ps = (lksPorts s).filter (fun p => (s.lane p).st == .active && (s.lane p).role == 1) →
      q = (if b.seq % 2 = 1 then ps.getLastD 0 else ps.headD 0) →
      (ps = [] ∨ 64 < (s.lane q).outstanding.length + 19 → exec .lksBlockSend s = .next s) ∧
      (ps ≠ [] → (s.lane q).outstanding.length + 19 ≤ 64 → ∃ t more, exec .lksBlockSend s = .next t ∧
        t.lks.blocks = rest ++ more ∧ (s.lks.losing = false → more = []) ∧
        mget t.lks.sent 0 2 = mget s.lks.sent 0 2 + 1 ∧
        (t.lane q).outstanding.length = (s.lane q).outstanding.length + 19 ∧
        Changes [.regs, .out, .host, .lnk, .bnt, .lks] s t)) ∧
    (sinkNow s = 3 → exec .lksBlockSend s = .next s)) ∧
  (∀ (s : State), s.up = true →
    (s.lks.blocks = [] → exec .lksBlockSend s = .next s) ∧
    (∀ fb, fb = s.fld Reg.LKS_SINK 2 2 →
      (s.lks.armed = true → s.lks.onFallback = false → fb ≠ 3 → sinkDown s fb = false →
        ∃ t, exec (.lksSinkLost false) s = .next t ∧
          t.lks.onFallback = true ∧ t.lks.sinkLost = true ∧ t.lks.armed = true ∧ t.bit Reg.LKS_CAUSE 1 = true ∧
          t.pendBit 0x421 = true ∧ Changes [.regs, .out, .host, .lks] s t) ∧
      ((s.lks.armed = true ∨ s.lks.blocks ≠ []) →
        (s.lks.armed = false ∨ s.lks.onFallback = true ∨ fb = 3 ∨ sinkDown s fb = true) →
        ∃ t, exec (.lksSinkLost false) s = .next t ∧
          t.lks.armed = false ∧ t.lks.sinkLost = true ∧ t.lks.blocks = [] ∧ t.bit Reg.LKS_CAUSE 1 = true ∧
          t.pendBit 0x421 = true ∧ Changes [.regs, .out, .host, .lks] s t)) ∧
    (s.lks.armed = false → s.lks.blocks = [] → exec (.lksSinkLost false) s = .next s) ∧
    (∀ u : State, u = { s with lks := { s.lks with busMasterOff := true } } →
      (sinkNow s = 1 → exec (.lksSinkLost true) s = exec (.lksSinkLost false) u) ∧
      (sinkNow s ≠ 1 → exec (.lksSinkLost true) s = .next u))) ∧
  (∀ (path : Path) (val : Word32) (s : State), s.up = true → accepts path Reg.LKS_HOST_RD val s →
    ∃ t, exec (.lksHostRdWrite path val) s = .next t ∧ t.reg Reg.LKS_HOST_RD = val ∧ RegsBut [Reg.LKS_HOST_RD] s t ∧
      Changes [.regs, .host] s t)

/-- Capture, ticks, deliveries, commands of the cores and configuration of the dispatcher: A captured word acts as its channel's
KIND says. It opens a message in a free slot, or joins the open one, which it gives PRIO, DELAY and the position key; the seventh
is dropped with TRUNC. MORE 0 or a call closes the message, and B3 closes an open one with TRUNC. A message that finds no slot is
not placed: EXHAUST, and a mismatch, or a fault stop in an execution under R370; a call of it reads 0. A call is released at once
when it is its cycle's turn, and waits for its word; one that matches an attached call takes that call's response. A call that
nothing has matched is withdrawn at B7. A RECV call takes the bound result, the oldest posted word, 0 under NOWAIT, or waits. A
tick lets the delays go down and
releases, in their order, the messages whose delay has run out, but not in Nap; a released message that is no barrier marker
takes its place in its queue. A delivery writes the record of the message that comes first into the ring of its core, while
it has room. A response is bound to the call that its tag names and reaches the context that waits, a response or a completion
of a withdrawn call and the completion of a message free the slot, a posted word goes to the call that waits or waits on its
channel; any other command is dropped and reported. A ring's size takes the values allowed, and a channel that holds a message
keeps its configuration. (R353, R354, R355, R356, R357, R359, R366, R367, R368, R369, R370, spec/13_dispatcher.md) -/
def Obligations.DispatcherOperation : Prop :=
  (∀ (n : Word64) (cl ctx op ch prio delay step : Nat) (more : Bool) (a : BitVec 40) (w : Word64) (s : State),
    ch = a.toNat % 2 ^ 8 → more = a.getLsbD 8 → prio = a.toNat / 2 ^ 9 % 2 ^ 3 → delay = a.toNat / 2 ^ 12 % 2 ^ 16 →
    (op = 0x10 ∨ op = 0x11) →
    (chKind s ch = 0 →
      dspIssue n cl ctx op a w step s = msgWord n cl ctx ch prio delay step more (op == 0x11) false w s) ∧
    (chKind s ch = 1 → op = 0x11 → dspIssue n cl ctx op a w step s = recvTake n cl ctx ch step s) ∧
    (chKind s ch = 2 → op = 0x10 → dspIssue n cl ctx op a w step s = msgWord n cl ctx ch prio delay step more false true w s) ∧
    (chKind s ch = 1 ∨ chKind s ch = 3 → op = 0x10 →
      dspIssue n cl ctx op a w step s = { s with dsp := { s.dsp with misuse := s.dsp.misuse ++ [(n, ch)] } }) ∧
    (chKind s ch = 2 ∨ chKind s ch = 3 → op = 0x11 → dspIssue n cl ctx op a w step s =
      rdataNext n cl ctx 0 { s with dsp := { s.dsp with misuse := s.dsp.misuse ++ [(n, ch)] } })) ∧
  (∀ (n v : Word64) (cl ctx step : Nat) (r : ReadOut) (s : State),
    r = { cluster := cl, ctx := ctx, cyc := n, stage := .call, value := 0, addr := 0, key := none, hbm := false, step := step } →
    rdataWait n cl ctx step s = { s with mem := { s.mem with reads := s.mem.reads ++ [r] } } ∧
    rdataNext n cl ctx v s = { s with mem := { s.mem with
      reads := s.mem.reads ++ [{ r with stage := .arriving (s.clock + 1), value := v, step := 0 }] } }) ∧
  (∀ (n : Word64) (cl ctx ch prio delay step : Nat) (more blocking barrier : Bool) (w : Word64) (m : Msg) (s u : State),
    s.dsp.msgs.find? (fun x => x.st == .open' && x.cyc == n && x.cluster == cl && x.ch == ch) = none →
    (∀ x, x ∈ s.dsp.msgs → x.id ≠ s.dsp.nextId) →
    m = { id := s.dsp.nextId, slot := 0, cyc := n, ch := ch, cluster := cl, ctx := ctx, step := step, closeClk := s.clock
          words := [w], prio := prio, delay := delay, barrier := barrier } →
    u = msgWord n cl ctx ch prio delay step more blocking barrier w s →
    (s.sch.exec.any (fun e => e.sole) = false → (placedMsgs s).length < 4096 → chHolds s ch < 255 →
      (blocking = false → ∃ k, k ∈ freeSlots s ∧ u.dsp.msgs = s.dsp.msgs ++
        [{ m with slot := k, st := if more = true then .open' else .closed }] ∧ u.dsp.nextId = s.dsp.nextId + 1 ∧
        Changes [.freeCtr, .dsp] s u) ∧
      (blocking = true → matchCall s n ch step cl ctx [w] = none → isNext s n = false → ∃ k, k ∈ freeSlots s ∧
        u.dsp.msgs = s.dsp.msgs ++ [{ m with slot := k, st := .closed, call := true }] ∧
        u.mem = (rdataWait n cl ctx step s).mem ∧ Changes [.freeCtr, .mem, .dsp] s u) ∧
      (blocking = true → matchCall s n ch step cl ctx [w] = none → barrier = false → isNext s n = true → ∃ k x, k ∈ freeSlots s ∧
        x ∈ u.dsp.msgs ∧ x.id = m.id ∧ x.slot = k ∧ x.words = [w] ∧ x.st = .released ∧ x.call = true ∧ x.provisional = true ∧
        x.relSeq = s.dsp.nextRel ∧ x.relClk = s.clock ∧
        u.mem = (rdataWait n cl ctx step s).mem ∧ Changes [.regs, .freeCtr, .out, .host, .mem, .dsp] s u) ∧
      (∀ a, blocking = true → matchCall s n ch step cl ctx [w] = some a →
        u.dsp.msgs = s.dsp.msgs.map (fun x => if x.id == a.id then { x with matched := true, trunc := false } else x) ∧
        (∀ v, a.resp = some v → u.mem = (rdataNext n cl ctx v s).mem) ∧
        (a.resp = none → u.mem = (rdataWait n cl ctx step s).mem) ∧ Changes [.freeCtr, .mem, .dsp] s u)) ∧
    (∀ e, s.sch.exec = some e → (e.sole = false ∨ barrier = true ∨ ∀ a, a ∈ s.dsp.msgs → a.matchable n = false) →
      (4096 ≤ (placedMsgs s).length ∨ 255 ≤ chHolds s ch) →
      placedMsgs u = placedMsgs s ∧ u.bit (0xE01008 + 16 * ch) 3 = true ∧
      (e.sole = true → u.sch = { s.sch with fatal := true } ∧ u.dsp.exhaust = s.dsp.exhaust) ∧
      (e.sole = false → u.sch = { s.sch with exec := some { e with mismatch := true, reverify := false } } ∧
        u.dsp.exhaust = some n) ∧
      (more = true → blocking = false → u.dsp.msgs = s.dsp.msgs ++ [{ m with lost := true }]) ∧
      (more = false ∨ blocking = true → u.dsp.msgs = s.dsp.msgs) ∧
      u.mem = (if blocking = true then rdataNext n cl ctx 0 s else s).mem ∧
      Changes [.regs, .out, .host, .sch, .mem, .dsp] s u) ∧
    (∀ e a, s.sch.exec = some e → e.sole = true → barrier = false → blocking = false → more = true → a ∈ s.dsp.msgs →
      a.matchable n = true → a.ch = ch → a.cluster = cl → a.words.head? = some w →
      u.dsp.msgs = s.dsp.msgs ++ [{ m with unplaced := true }] ∧ Changes [.dsp] s u)) ∧
  (∀ (n : Word64) (cl ctx ch prio delay step : Nat) (more barrier : Bool) (w : Word64) (m : Msg) (s : State),
    s.dsp.msgs.find? (fun x => x.st == .open' && x.cyc == n && x.cluster == cl && x.ch == ch) = some m →
    (∀ x, x ∈ s.dsp.msgs → x.id = m.id → x = m) → m.unplaced = false → m.lost = false →
    ∃ u, u = msgWord n cl ctx ch prio delay step more false barrier w s ∧
      u.dsp.msgs = s.dsp.msgs.map (fun x => if x.id == m.id then { m with
        prio := prio, delay := delay, step := step, ctx := ctx, closeClk := s.clock
        words := if m.words.length < 6 then m.words ++ [w] else m.words
        trunc := m.trunc || decide (6 ≤ m.words.length)
        st := if more = true then .open' else .closed } else x) ∧ Changes [.dsp] s u) ∧
  (∀ (n : Word64) (m : Msg) (s : State), s.dsp.msgs.filter (fun x => x.st == .open' && x.cyc == n) = [m] →
    (∀ x, x ∈ s.dsp.msgs → x.id = m.id → x = m) → m.unplaced = false → m.lost = false →
    dspCloseOpen n s = { s with dsp := { s.dsp with msgs := s.dsp.msgs.map (fun x =>
      if x.id == m.id then { m with trunc := true, st := .closed } else x) } }) ∧
  (∀ (n : Word64) (cl ctx ch step : Nat) (s u : State), u = recvTake n cl ctx ch step s →
    Changes [.mem, .dsp] s u ∧
    (∀ b, s.dsp.binds.find? (fun b => b.cyc == n && b.ch == ch && b.step == step && b.cluster == cl && b.ctx == ctx) = some b →
      u.dsp = { s.dsp with binds := s.dsp.binds.map (fun x => if x = b then { x with used := true } else x) } ∧
      u.mem = (rdataNext n cl ctx ((b.word.map (fun p => p.word ||| 0x8000000000000000)).getD 0) s).mem) ∧
    (∀ p, s.dsp.binds.find? (fun b => b.cyc == n && b.ch == ch && b.step == step && b.cluster == cl && b.ctx == ctx) = none →
      s.dsp.posted.find? (fun p => p.ch == ch) = some p →
      u.dsp = { s.dsp with posted := s.dsp.posted.erase p, binds := s.dsp.binds ++
        [{ cyc := n, ch := ch, step := step, cluster := cl, ctx := ctx, word := some p }] } ∧
      u.mem = (rdataNext n cl ctx (p.word ||| 0x8000000000000000) s).mem) ∧
    (s.dsp.binds.find? (fun b => b.cyc == n && b.ch == ch && b.step == step && b.cluster == cl && b.ctx == ctx) = none →
      s.dsp.posted.find? (fun p => p.ch == ch) = none →
      (chNowait s ch = true → u.dsp = { s.dsp with binds := s.dsp.binds ++
          [{ cyc := n, ch := ch, step := step, cluster := cl, ctx := ctx, word := none }] } ∧
        u.mem = (rdataNext n cl ctx 0 s).mem) ∧
      (chNowait s ch = false → u.dsp = { s.dsp with waits := s.dsp.waits ++
          [{ cyc := n, ch := ch, step := step, cluster := cl, ctx := ctx }] } ∧
        u.mem = (rdataWait n cl ctx step s).mem))) ∧
  (∀ (n : Word64) (m : Msg) (s u : State), u = dspB7 n s →
    s.dsp.msgs.filter (fun x => x.call && x.attached && !x.matched && x.cyc == n &&
      (x.st == .closed || x.st == .released || x.st == .delivered)) = [m] → (∀ x, x ∈ s.dsp.msgs → x.id = m.id → x = m) →
    u.bit (0xE01008 + 16 * m.ch) 5 = true ∧
    (m.st = .delivered → m.resp = none →
      { m with st := .withdrawPending, attached := false, matched := false } ∈ u.dsp.msgs) ∧
    (m.st ≠ .delivered ∨ m.resp.isSome = true → ∀ x, x ∈ u.dsp.msgs → x.id ≠ m.id) ∧
    Changes [.regs, .out, .host, .dsp] s u) ∧
  (∀ (s : State), s.up = true →
    (s.pwr.mode = .nap → exec .dspTick s = .next s) ∧
    (s.pwr.mode ≠ .nap → ∀ u, u = { s with dsp := { s.dsp with msgs := s.dsp.msgs.map (fun m => match m.st with
        | .delayTick k => { m with st := .delayTick (k - 1) }
        | _ => m) } } →
      exec .dspTick s = .next ((sortBy dueOrder (u.dsp.msgs.filter (fun m => m.st == .delayTick 0))).foldl
        (fun v m => releaseMsg m.id v) u) ∧
      ((∀ m, m ∈ s.dsp.msgs → m.st ≠ .delayTick 0 ∧ m.st ≠ .delayTick 1) → exec .dspTick s = .next u))) ∧
  (∀ (id : Nat) (m : Msg) (s : State), s.dsp.msgs.find? (fun x => x.id == id) = some m → m.barrier = false →
    (∀ a b, a ∈ s.dsp.msgs → b ∈ s.dsp.msgs → a.id = b.id → a = b) →
    ∃ t x, t = releaseMsg id s ∧ x ∈ t.dsp.msgs ∧ x.id = id ∧ x.st = .released ∧ x.relSeq = s.dsp.nextRel ∧
      x.relClk = s.clock ∧ x.words = m.words ∧ t.dsp.nextRel = s.dsp.nextRel + 1 ∧ Changes [.regs, .out, .host, .dsp]
        s t) ∧
  (∀ (k : BitVec 4) (s : State), s.up = true →
    (ringRoom s k.toNat = false ∨ s.pwr.mode = .nap → exec (.messageDelivery k) s = .next s) ∧
    (∀ m, ringRoom s k.toNat = true → s.pwr.mode ≠ .nap → withdrawHead s k.toNat = none → nextFor s k.toNat = some m →
      ∃ t, exec (.messageDelivery k) s = .next t ∧
        t.dsp = { s.dsp with msgs := s.dsp.msgs.map (fun x =>
          if x.id == m.id then { x with st := .delivered, core := k.toNat, delivClk := s.clock } else x) } ∧
        t.reg (Reg.DSP_CORE_WR + 32 * k.toNat) = BitVec.ofNat 32 ((coreWr s k.toNat + 1) % coreEntries s k.toNat) ∧
        Output.dspRecord k.toNat ((s.reg64 (Reg.DSP_CORE_BASE_LO + 32 * k.toNat)).toNat / 4096 * 4096 + 64 * coreWr s
          k.toNat)
          (recordHead m false ++ recordMasked s k.toNat (recordData m false)) ∈ t.out ∧
        Changes [.regs, .out, .host, .dsp, .bnt] s t) ∧
    (∀ m, ringRoom s k.toNat = true → s.pwr.mode ≠ .nap → withdrawHead s k.toNat = some m →
      ∃ t, exec (.messageDelivery k) s = .next t ∧
        t.dsp = { s.dsp with msgs := s.dsp.msgs.map (fun x => if x.id == m.id then { x with st := .withdrawn } else x) } ∧
        Output.dspRecord k.toNat ((s.reg64 (Reg.DSP_CORE_BASE_LO + 32 * k.toNat)).toNat / 4096 * 4096 + 64 * coreWr s
          k.toNat)
          (recordHead m true ++ recordMasked s k.toNat (recordData m true)) ∈ t.out ∧
        Changes [.regs, .out, .host, .dsp, .bnt] s t) ∧
    (ringRoom s k.toNat = true → withdrawHead s k.toNat = none → nextFor s k.toNat = none →
      exec (.messageDelivery k) s = .next s)) ∧
  (∀ (k : BitVec 4) (cmd : Word32) (data : Word64) (ch : Nat) (u s : State), s.up = true → ch = bitsOf cmd 16 8 →
    u = { s with dsp := { s.dsp with data := mset s.dsp.data 0 k.toNat data } } →
    (cmd &&& 0xFF00000C = 0 → bitsOf cmd 0 2 = 0 →
      (∀ m, tagged s k.toNat (bitsOf cmd 4 12) ch = some m → m.isWithdrawn = false → m.call = true →
        ∃ t, exec (.dspRespond k cmd data) s = .next t ∧
          (m.provisional = false → ∀ x, x ∈ t.dsp.msgs → x.id ≠ m.id) ∧
          (m.provisional = true → m.barrier = false → (∀ a b, a ∈ s.dsp.msgs → b ∈ s.dsp.msgs → a.id = b.id → a = b) →
            ∃ x, x ∈ t.dsp.msgs ∧ x.id = m.id ∧ x.resp = some data ∧ x.completed = true) ∧
          (∀ r, r ∈ s.mem.reads → r.cluster = m.cluster → r.ctx = m.ctx → r.cyc = m.cyc → r.step = m.step → r.stage = .call →
            (m.attached && !m.matched) = false →
            { r with stage := .arriving s.clock, value := data } ∈ t.mem.reads) ∧
          Changes [.regs, .mem, .dsp] s t) ∧
      (∀ m, tagged s k.toNat (bitsOf cmd 4 12) ch = some m → m.isWithdrawn = true →
        ∃ t, exec (.dspRespond k cmd data) s = .next t ∧ (∀ x, x ∈ t.dsp.msgs → x.id ≠ m.id) ∧ Changes [.regs, .dsp] s t) ∧
      ((∀ m, tagged s k.toNat (bitsOf cmd 4 12) ch = some m → m.isWithdrawn = false ∧ m.call = false) →
        exec (.dspRespond k cmd data) s = .next (dspCause ch 4 u))) ∧
    (cmd &&& 0xFF00000C = 0 → bitsOf cmd 0 2 = 1 →
      (chKind s ch ≠ 1 ∨ 255 ≤ postedOf s ch → exec (.dspPost k cmd data) s = .next (dspCause ch 4 u)) ∧
      (chKind s ch = 1 → postedOf s ch < 255 → s.dsp.waits.find? (fun w => w.ch == ch) = none →
        exec (.dspPost k cmd data) s = .next { s with dsp := { s.dsp with
          data := mset s.dsp.data 0 k.toNat data
          nextPost := s.dsp.nextPost + 1
          posted := s.dsp.posted ++ [{ ch := ch, seq := s.dsp.nextPost, word := data &&& 0x7FFFFFFFFFFFFFFF }] } }) ∧
      (∀ w, chKind s ch = 1 → postedOf s ch < 255 → s.dsp.waits.find? (fun w => w.ch == ch) = some w →
        ∃ t, exec (.dspPost k cmd data) s = .next t ∧ t.dsp.waits = s.dsp.waits.erase w ∧ t.dsp.posted = s.dsp.posted ∧
          (∀ b, b = Posted.mk ch s.dsp.nextPost (data &&& 0x7FFFFFFFFFFFFFFF) → t.dsp.binds = s.dsp.binds ++
            [{ cyc := w.cyc, ch := ch, step := w.step, cluster := w.cluster, ctx := w.ctx, word := some b }]) ∧
          (∀ r, r ∈ s.mem.reads → r.cluster = w.cluster → r.ctx = w.ctx → r.cyc = w.cyc → r.step = w.step → r.stage = .call →
            { r with stage := .arriving s.clock, value := data ||| 0x8000000000000000 } ∈ t.mem.reads) ∧
          Changes [.mem, .dsp] s t)) ∧
    (cmd &&& 0xFF00000C = 0 → bitsOf cmd 0 2 = 2 →
      (∀ m, tagged s k.toNat (bitsOf cmd 4 12) ch = some m → (m.isWithdrawn || !m.call) = true →
        ∃ t, exec (.dspComplete k cmd data) s = .next t ∧ (∀ x, x ∈ t.dsp.msgs → x.id ≠ m.id) ∧ Changes [.regs, .dsp]
          s t) ∧
      ((∀ m, tagged s k.toNat (bitsOf cmd 4 12) ch = some m → (m.isWithdrawn || !m.call) = false) →
        exec (.dspComplete k cmd data) s = .next (dspCause ch 4 u))) ∧
    (bitsOf cmd 0 2 = 3 → exec (.dspComplete k cmd data) s = .next (dspCause ch 4 u)) ∧
    (cmd &&& 0xFF00000C ≠ 0 → ∀ c : Instr, (c = .dspRespond k cmd data ∧ bitsOf cmd 0 2 = 0) ∨
      (c = .dspPost k cmd data ∧ bitsOf cmd 0 2 = 1) ∨ (c = .dspComplete k cmd data ∧ bitsOf cmd 0 2 = 2) →
      exec c s = .next (dspCause ch 4 u)) ∧
    (bitsOf cmd 0 2 ≠ 0 → exec (.dspRespond k cmd data) s = .next s) ∧
    (bitsOf cmd 0 2 ≠ 1 → exec (.dspPost k cmd data) s = .next s) ∧
    (bitsOf cmd 0 2 < 2 → exec (.dspComplete k cmd data) s = .next s)) ∧
  (∀ (window : Bool) (path : Path) (k : BitVec 4) (val : Word32) (s : State), s.up = true →
    ((window = true ∧ path = .pf0) ∨ (window = false ∧ accepts path (Reg.DSP_CORE_RD + 32 * k.toNat) val s) →
      ∃ t, exec (.dspCoreRdWrite window path k val) s = .next t ∧ t.reg (Reg.DSP_CORE_RD + 32 * k.toNat) = val ∧
        RegsBut [Reg.DSP_CORE_RD + 32 * k.toNat] s t ∧ Changes [.regs, .host] s t) ∧
    (window = true → path ≠ .pf0 → exec (.dspCoreRdWrite window path k val) s = .next s)) ∧
  (∀ (path : Path) (k : BitVec 4) (val : Word32) (s : State), s.up = true →
    accepts path (Reg.DSP_CORE_ENTRIES + 32 * k.toNat) val s →
    ∃ t, exec (.dspCoreEntriesWrite path k val) s = .next t ∧
      coreEntries t k.toNat = (if val = 0 ∨ ∃ i, i < 11 ∧ val.toNat = 64 * 2 ^ i then val.toNat else coreEntries s
        k.toNat) ∧
      RegsBut [Reg.DSP_CORE_ENTRIES + 32 * k.toNat] s t ∧ Changes [.regs, .host] s t) ∧
  (∀ (path : Path) (ch : BitVec 8) (val : Word32) (s : State), s.up = true → accepts path (Reg.DSP_CH_CFG_ch + 16 *
    ch.toNat) val s →
    (chHolds s ch.toNat = 0 → postedOf s ch.toNat = 0 → ∃ t, exec (.dspChCfgWrite path ch val) s = .next t ∧
      chKind t ch.toNat = bitsOf val 0 2 ∧ chCore t ch.toNat = bitsOf val 2 4 ∧ chTick t ch.toNat = val.getLsbD 6 ∧
      chNotify t ch.toNat = val.getLsbD 7 ∧ chDepEn t ch.toNat = val.getLsbD 8 ∧ chDepSrc t ch.toNat = bitsOf val 9 8
        ∧
      chGroup t ch.toNat = bitsOf val 17 4 ∧ chNowait t ch.toNat = val.getLsbD 21 ∧
      RegsBut [Reg.DSP_CH_CFG_ch + 16 * ch.toNat] s t ∧ Changes [.regs, .host] s t) ∧
    (0 < chHolds s ch.toNat ∨ 0 < postedOf s ch.toNat → ∃ t, exec (.dspChCfgWrite path ch val) s = .next t ∧
      t.bit (0xE01008 + 16 * ch.toNat) 6 = true ∧ chCfg t ch.toNat = chCfg s ch.toNat ∧
      RegsBut [0xE01008 + 16 * ch.toNat, pendReg (0x440 + ch.toNat)] s t ∧ Changes [.regs, .out, .host] s t))

/-- The Bonnet mailbox, its queue and the checks of a request: A submit on a path with a mailbox that is not busy puts
the request at the end of the queue; while it is busy only the request area is written, and not that either once the
request of the path is taken; one with an unknown OP ends with RESOURCE once it is at the front. No request is taken in
the KEY phase of an install. Each check before EXECUTE has its status, a request passes exactly when all hold, and one
that fails ends with its status and nothing else done. A command whose request is not at the front does nothing. (R405,
R406, R407, R408, R409, R417, spec/15_bonnet_security.md) -/
def Obligations.BonnetRequestsJudged : Prop :=
  (∀ (path : Path) (req : List Byte) (s : State), s.up = true →
    (pathTaken path (keyPhase s) s.bnt.reqs = true ↔
      keyPhase s = false ∧ ∃ r rest, s.bnt.reqs = r :: rest ∧ r.path = path) ∧
    (hasBox path = false ∨ pathTaken path (keyPhase s) s.bnt.reqs = true → exec (.bntMailboxSubmit path req) s = .next s) ∧
    (hasBox path = true → pathTaken path (keyPhase s) s.bnt.reqs = false → (s.bntBox path).busy = true →
      ∃ t, exec (.bntMailboxSubmit path req) s = .next t ∧ t.bntBox path = { s.bntBox path with area := req } ∧
        t.bnt.reqs = s.bnt.reqs.map (fun r => if r.path = path then Request.mk path req else r) ∧
        (∀ q, q ≠ path → t.bntBox q = s.bntBox q) ∧ Changes [.bnt] s t) ∧
    (hasBox path = true → pathTaken path (keyPhase s) s.bnt.reqs = false → (s.bntBox path).busy = false →
      (keyPhase s = true ∨ ∀ r, (s.bnt.reqs ++ [Request.mk path req]).head? = some r →
        bntOps.contains (reqOp r) = true ∧ (reqOp r = 3 → reqMode r ≤ 3)) →
      ∃ t, exec (.bntMailboxSubmit path req) s = .next t ∧ t.bnt.reqs = s.bnt.reqs ++ [Request.mk path req] ∧
        t.bntBox path = boxBusy req (s.bntBox path) ∧ (∀ q, q ≠ path → t.bntBox q = s.bntBox q) ∧ Changes [.bnt] s t) ∧
    (hasBox path = true → keyPhase s = false → (s.bntBox path).busy = false → s.bnt.reqs = [] →
      bntOps.contains (leAt req 0 2) = false →
      ∃ t, exec (.bntMailboxSubmit path req) s = .next t ∧ t.bnt.reqs = [] ∧
        t.bntBox path = boxDone 12 [] (boxBusy req (s.bntBox path)) ∧
        t.pendBit 0x040 = true ∧ RegsBut [pendReg 0x040] s t ∧ Changes [.regs, .out, .host, .bnt] s t) ∧
    (∀ r code, r = Request.mk path req → hasBox path = true → keyPhase s = false → (s.bntBox path).busy = false →
      s.bnt.reqs = [] → reqOp r = 3 → 3 < reqMode r →
      code = (if judge fwForm (byOwner r s) r s = 0 then 12 else judge fwForm (byOwner r s) r s) →
      ∃ t, exec (.bntMailboxSubmit path req) s = .next t ∧ t.bnt.reqs = [] ∧
        t.bntBox path = boxDone code [] (boxBusy req (s.bntBox path)) ∧
        t.pendBit 0x040 = true ∧ Changes [.regs, .out, .host, .bnt, .ldg] s t)) ∧
  (∀ (c : Instr) (b : BntCmd) (s : State), s.up = true → bntCmd c = some b →
    (keyPhase s = true ∨ (∀ r, s.bnt.reqs.head? = some r → ¬ b.names r) → exec c s = .next s) ∧
    (∀ r rest, s.bnt.reqs = r :: rest → keyPhase s = false → b.names r → judge b.form (b.authority r s) r s ≠ 0 →
      exec c s = .next (bntUnknown 2 (bntEnd (judge b.form (b.authority r s) r s) [] s)))) ∧
  (∀ (r : Request) (rest : List Request) (code : Nat) (resp : List Byte) (s : State), s.bnt.reqs = r :: rest →
    (bntEnd code resp s).bnt.reqs = rest ∧ (bntEnd code resp s).pendBit 0x040 = true ∧
    (hasBox r.path = true → (bntEnd code resp s).bntBox r.path = boxDone code resp (s.bntBox r.path)) ∧
    (∀ q, q ≠ r.path → (bntEnd code resp s).bntBox q = s.bntBox q) ∧
    (code = 1 ∨ code = 2 → (bntEnd code resp s).bit Reg.BNT_CAUSE 0 = true ∧ (bntEnd code resp s).pendBit 0x041 =
      true ∧
      (bntEnd code resp s).reg Reg.BNT_AUTHFAIL = BitVec.ofNat 32 (min 0xFFFFFFFF ((s.reg Reg.BNT_AUTHFAIL).toNat +
        1))) ∧
    (code = 13 → (bntEnd code resp s).bit Reg.BNT_CAUSE 1 = true ∧ (bntEnd code resp s).pendBit 0x042 = true) ∧
    RegsBut [Reg.BNT_AUTHFAIL, Reg.BNT_CAUSE, Reg.PWR_CAUSE, pendReg 0x040, pendReg 0x545] s (bntEnd code resp s) ∧
    Changes [.regs, .out, .host, .bnt, .ldg] s (bntEnd code resp s)) ∧
  (∀ (n : Nat) (s : State), (keyPhase s = true ∨ ∀ r, s.bnt.reqs.head? = some r → bntOps.contains (reqOp r) = true ∧ (reqOp r = 3 →
    reqMode r ≤ 3)) →
    bntUnknown n s = s) ∧
  (∀ (f : OpForm) (a : Bool) (r : Request) (s : State),
    (judge f a r s = 0 ↔ formatOk f r = true ∧ (f.authed = true → slotCtr s (reqSlot r) ≠ 2 ^ 64 - 1 ∧
      ∃ key, slotKey s (reqSlot r) = some key ∧ reqMac s key r = reqTag r ∧ slotCtr s (reqSlot r) < reqCounter r ∧ a
        = true)) ∧
    (formatOk f r = false → judge f a r s = 12) ∧
    (formatOk f r = true → f.authed = true → slotKey s (reqSlot r) = none → judge f a r s = 4) ∧
    (∀ key, formatOk f r = true → f.authed = true → slotKey s (reqSlot r) = some key →
      (slotCtr s (reqSlot r) = 2 ^ 64 - 1 → judge f a r s = 13) ∧
      (slotCtr s (reqSlot r) ≠ 2 ^ 64 - 1 → reqMac s key r ≠ reqTag r → judge f a r s = 1) ∧
      (slotCtr s (reqSlot r) ≠ 2 ^ 64 - 1 → reqMac s key r = reqTag r → reqCounter r ≤ slotCtr s (reqSlot r) →
        judge f a r s = 2) ∧
      (slotCtr s (reqSlot r) ≠ 2 ^ 64 - 1 → reqMac s key r = reqTag r → slotCtr s (reqSlot r) < reqCounter r → a =
        false →
        judge f a r s = 3)))

/-- What the operations of the Bonnet mailbox do: The oldest request that passes its checks writes its counter first and
then has its effect: a master becomes owner, a key is loaded, a package is named for the next start or a live
handover, firmware on trial is confirmed, a trial is cancelled, a grant is given or revoked, debug is unlocked or
locked, a Glove load begins (or ends LOCKED), registers are written, and reports, certificates and data leave. Where a condition of
EXECUTE fails, the request ends with its status and only the counter is written. (R298, R398, R401, R408, R409,
R410, R411, R413, R414, R416, R434, spec/15_bonnet_security.md) -/
def Obligations.BonnetCommandsAct : Prop :=
  (∀ (k v : Nat) (s : State), k < 4 → v < 2 ^ 64 → slotCtr (setCtr k v s) k = v ∧
    RegsBut [Reg.BNT_CTR + 8 * k, Reg.BNT_CTR + 8 * k + 4] s (setCtr k v s) ∧ Changes [.regs] s (setCtr k v s)) ∧
  (∀ (r : Request) (rest : List Request) (p : List Byte) (s v : State), s.up = true → s.bnt.reqs = r :: rest →
    p = payload r → v = setCtr (reqSlot r) (reqCounter r) s →
    (bntReady .handover r s → ∀ m, m = masterOf (leAt p 0 1) →
      (m ∈ ranking s → pathPresent s m = true → ∃ u, exec .handover s = .next (bntUnknown 2 (bntEnd 0 [] u)) ∧
        u.own.owner = m ∧ u.own.st = .owned ∧ u.own.gen = (if m = s.own.owner then s.own.gen else s.own.gen + 1) ∧
        u.own.claimHost = false ∧ u.own.claimBmc = false ∧ u.own.claimCond = false ∧
        (m ≠ s.own.owner → u.pendBit 0x006 = true) ∧ RegsBut [pendReg 0x006] v u ∧ Changes [.regs, .out, .host, .own]
          v u) ∧
      (m ∉ ranking s ∨ pathPresent s m = false → exec .handover s = .next (bntUnknown 2 (bntEnd 12 [] v)))) ∧
    (bntReady .keyLoad r s → ∀ k, k = leAt p 0 1 →
      (∀ key, k < 3 → unwrapKey s.ident k p = some key →
        ∃ u, exec .keyLoad s = .next (bntUnknown 2 (bntEnd 0 [] u)) ∧ mget u.bnt.keys none k = some key ∧
          (∀ j, j ≠ k → mget u.bnt.keys none j = mget s.bnt.keys none j) ∧ Changes [.bnt] v u) ∧
      (unwrapKey s.ident k p = none → exec .keyLoad s = .next (bntUnknown 2 (bntEnd 1 [] v))) ∧
      (3 ≤ k → unwrapKey s.ident k p ≠ none →
        exec .keyLoad s = .next (bntUnknown 2 (bntEnd 12 [] v)))) ∧
    (bntReady .fwActivateNextStart r s → ∀ st, st = fwChecks p [(1 < leAt p 1 1, 12)] s →
      (st = 0 → ∃ u, exec .fwActivateNextStart s = .next (bntUnknown 2 (bntEnd 0 [] u)) ∧
        u.boot.mram.trial = (if leAt p 1 1 = 0 then Trial.slot (inactiveSlot s) else .staging) ∧ Changes [.boot] v u)
          ∧
      (st ≠ 0 → exec .fwActivateNextStart s = .next (bntUnknown 2 (bntEnd st [] v)))) ∧
    (bntReady .fwActivateLive r s → ∀ st,
      st = fwChecks p [(leAt p 1 1 != 0, 9), (hdrFwClass (inactiveHeader s) != s.plat.fwClass, 12)] s →
      (st = 0 → exec .fwActivateLive s = .next (bntUnknown 2 (bntEnd 0 []
        { v with boot := { v.boot with handover := true, liveHeader := inactiveHeader s } }))) ∧
      (st ≠ 0 → exec .fwActivateLive s = .next (bntUnknown 2 (bntEnd st [] v)))) ∧
    (bntReady .fwActivateConfirm r s →
      (s.boot.fwTrial = true → ∃ u, exec .fwActivateConfirm s = .next (bntUnknown 2 (bntEnd 0 [] u)) ∧
        u.boot.mram.active = some (inactiveSlot s) ∧ u.boot.fwTrial = false ∧ u.boot.mram.fusePending = false ∧
        fuseFw u = max (fuseFw s) (hdrFwSv (inactiveHeader s)) ∧ fusePkg u = max (fusePkg s) (hdrPkgSv
          (inactiveHeader s)) ∧
        (∀ c, c ∈ u.boot.mram.settings → c.fmt = s.plat.settingsFmt ∧ c.confirmed = true) ∧ u.pendBit 0x00D = true ∧
        RegsBut [Reg.BNT_FUSE_SV, pendReg 0x00D] v u ∧ Changes [.regs, .out, .host, .boot] v u) ∧
      (s.boot.fwTrial = false → exec .fwActivateConfirm s = .next (bntUnknown 2 (bntEnd 9 [] v)))) ∧
    (bntReady .fwActivateCancel r s →
      (s.boot.mram.trial ≠ .none → s.boot.fwTrial = false → s.boot.handover = false →
        ∃ u, exec .fwActivateCancel s = .next (bntUnknown 2 (bntEnd 0 [] u)) ∧ u.boot.mram.trial = .none ∧ Changes
          [.boot] v u) ∧
      (s.boot.mram.trial = .none ∨ s.boot.fwTrial = true ∨ s.boot.handover = true →
        exec .fwActivateCancel s = .next (bntUnknown 2 (bntEnd 9 [] v))))) ∧
  (∀ (r : Request) (rest : List Request) (p : List Byte) (s v : State), s.up = true → s.bnt.reqs = r :: rest →
    p = payload r → v = setCtr (reqSlot r) (reqCounter r) s →
    (bntReady .obsGrant r s →
      (∀ g, freeGrant s = some g → grantBad p = false → nonceUsed s (grantOf p).nonce = false →
        ∃ u, exec .obsGrant s = .next (bntUnknown 2 (bntEnd 0 [] u)) ∧ mget u.bnt.grants none g = some (grantOf p) ∧
          (∀ j, j ≠ g → mget u.bnt.grants none j = mget s.bnt.grants none j) ∧ u.pendBit 0x043 = true ∧
          RegsBut [pendReg 0x043] v u ∧ Changes [.regs, .out, .host, .bnt] v u) ∧
      (freeGrant s = none ∨ grantBad p = true ∨ nonceUsed s (grantOf p).nonce = true →
        exec .obsGrant s = .next (bntUnknown 2 (bntEnd 12 [] v)))) ∧
    (bntReady .obsRevoke r s →
      (∀ x, mget s.bnt.grants none (leAt p 0 1) = some x →
        ∃ u, exec .obsRevoke s = .next (bntUnknown 2 (bntEnd 0 [] u)) ∧ mget u.bnt.grants none (leAt p 0 1) = none ∧
          (∀ j, j ≠ leAt p 0 1 → mget u.bnt.grants none j = mget s.bnt.grants none j) ∧
          (x.kind = 2 → u.lks.armed = false) ∧ (x.kind ≠ 2 → u.lks = s.lks) ∧ u.pendBit 0x043 = true ∧ Changes
            [.regs, .out, .host, .bnt, .lks] v u) ∧
      (mget s.bnt.grants none (leAt p 0 1) = none → exec .obsRevoke s = .next (bntUnknown 2 (bntEnd 12 [] v)))) ∧
    (bntReady .debugUnlock r s → ∃ u, exec .debugUnlock s = .next (bntUnknown 2 (bntEnd 0 [] u)) ∧
      u.bnt.debugUnlock = true ∧ u.bnt.debugNoImage = (!s.img.valid) ∧ u.pendBit 0x044 = true ∧
      RegsBut [pendReg 0x044] v u ∧ Changes [.regs, .out, .host, .bnt] v u) ∧
    (bntReady .debugLock r s → ∃ u, exec .debugLock s = .next (bntUnknown 2 (bntEnd 0 [] u)) ∧
      u.bnt.debugUnlock = false ∧ u.host.jtag ≠ .dbgGate ∧ (s.host.jtag ≠ .dbgGate → u.host = s.host) ∧ Changes
        [.host, .bnt] s u) ∧
    (bntReady .regionReconfig r s →
      (∀ m l, m = BitVec.ofNat 4 (leAt p 12 1) → l = loadAccepted .host m (leAt p 8 4) v → s.glv.load = none →
        leAt p 12 1 < 16 → exec .regionReconfig s =
          .next (bntUnknown 2 (bntEnd 0 [] (if lockedRegions s m then loadEnd 4 0 0 l else l)))) ∧
      (s.glv.load ≠ none → exec .regionReconfig s = .next (bntUnknown 2 (bntEnd 9 [] v))) ∧
      (s.glv.load = none → 16 ≤ leAt p 12 1 → exec .regionReconfig s = .next (bntUnknown 2 (bntEnd 12 [] v)))) ∧
    (bntReady .regWrite r s → ∃ codes u, (codes, u) = (List.range (p.length / 12)).foldl (regEntry p) ([], v) ∧
      exec .regWrite s = .next (bntUnknown 2 (bntEnd 0 codes u)) ∧ (u.up = true → codes.length = p.length / 12)) ∧
    (bntReady .attest r s → ∃ k sig, 0 < k ∧ k < n384 ∧ sig = ecdsaSign s.ident.identKey k (reportBody p s) ∧
      exec .attest s = .next (bntUnknown 2 (bntEnd 0 (reportBody p s ++ sig) s.tick1)) ∧
      (reportBody p s).length = 0x150 ∧ sig.length = 96 ∧ ((reportBody p s).drop 16).take 32 = p) ∧
    (bntReady .getCert r s →
      (leAt p 0 1 ≤ 2 → exec .getCert s =
        .next (bntUnknown 2 (bntEnd 0 ((Config.certificate (leAt p 0 1)).take 2048) s))) ∧
      (2 < leAt p 0 1 → exec .getCert s = .next (bntUnknown 2 (bntEnd 12 [] s)))) ∧
    (bntReady .readback r s →
      (readbackStatus p s = 0 → ∃ x u hdr, readGrant s (leAt p 0 1) = some x ∧
        exec .readback s = .next (bntUnknown 2 (bntEnd 0 [] u)) ∧
        u.out = .hostWrite (leAt p 12 8) (hdr ++ gcmSeal (grantKey s labelRead x) (leBytes 4 0 ++ beBytes 8 x.s) hdr
          ((List.range (leAt p 6 2)).flatMap (fun i => readbackUnit s (leAt p 1 1) (leAt p 4 2 + i)))) :: s.out ∧
        hdr.length = 64 ∧ hdr.take 8 = leBytes 8 s.sch.committed.toNat ∧ (hdr.drop 24).take 8 = leBytes 8 x.s ∧
        mget u.bnt.grants none (leAt p 0 1) = some { x with s := x.s + 1 } ∧
        (∀ j, j ≠ leAt p 0 1 → mget u.bnt.grants none j = mget s.bnt.grants none j) ∧ Changes [.out, .bnt] s u) ∧
      (readbackStatus p s ≠ 0 → exec .readback s = .next (bntUnknown 2 (bntEnd (readbackStatus p s) [] s))))) ∧
  (∀ (p codes : List Byte) (i off : Nat) (val : Word32) (s : State), s.up = true → off = leAt p (12 * i) 4 →
    val = entryValue s off (BitVec.ofNat 32 (leAt p (12 * i + 4) 4)) (BitVec.ofNat 32 (leAt p (12 * i + 8) 4)) →
    regEntry p (codes, s) i = (codes ++ [if entryLocked s off val then 4 else 0], barWrite .bonnet off val s))

/-- Resets: the pins, the supplies, GBL_RESET and the loss of the root clock: A reset leaves of the core die only what
DieReset names, and records itself in LAST_RESET: a cold reset waits for POR_N, whose release samples the straps; a
warm reset begins with RESIDENT and keeps BNT_AUTHFAIL; RESET_N and POR_N reset after a pulse of 10 us, not of less than
2 us, and either way between; with the loss of the root clock the module halts and keeps GBL_BOOT. An operation that a
reset interrupts changes only its own part of the keep, and none does where none runs (the model's choices of how far it
got are in logs 186 to 189). The choices of RESET_N before ANALOG has ended and while held are the model's (log 49). (R25, R418, R419, R439, R457, R475, R477,
spec/16_boot_update_reset.md) -/
def Obligations.ResetsLeaveTheKeep : Prop :=
  (∀ (s : State),
    (∃ t, exec (.coldReset .powerOn) s = .next t ∧ DieReset (interrupted s) t ∧ t.boot.stage = .porHeld ∧ t.reg Reg.PWR_VCCIO = 0 ∧
      t.reg Reg.GBL_BOOT = withBits (resetVal Reg.GBL_BOOT) 22 2 0 ∧ t.reg Reg.BNT_AUTHFAIL = resetVal
        Reg.BNT_AUTHFAIL) ∧
    (∀ ns, ns < 2000 → exec (.coldReset (.porLow ns)) s = .next s) ∧
    (∀ ns, 2000 ≤ ns → ns < 10000 → exec (.coldReset (.porLow ns)) s = .next s.tick1 ∨
      exec (.coldReset (.porLow ns)) s = exec (.coldReset (.porLow 10000)) s.tick1) ∧
    (∀ ns, 10000 ≤ ns →
      (s.boot.stage = .off ∨ s.boot.stage = .porHeld → exec (.coldReset (.porLow ns)) s = .next s) ∧
      (s.boot.stage ≠ .off → s.boot.stage ≠ .porHeld → ∃ t, exec (.coldReset (.porLow ns)) s = .next t ∧
        DieReset (interrupted s) t ∧ t.boot.stage = .porHeld ∧ t.reg Reg.PWR_VCCIO = s.reg Reg.PWR_VCCIO &&& 0xFF ∧
        t.reg Reg.GBL_BOOT = withBits (resetVal Reg.GBL_BOOT) 22 2 1 ∧
        t.reg Reg.BNT_AUTHFAIL = resetVal Reg.BNT_AUTHFAIL)) ∧
    (∃ t, exec .powerRemoved s = .next t ∧ DieReset (interrupted s) t ∧ t.boot.stage = .off ∧ t.reg Reg.PWR_VCCIO = 0)) ∧
  (∀ (modid : BitVec 6) (addr : BitVec 2) (s : State),
    (s.boot.stage = .porHeld → exec (.porNRelease modid addr) s = .next { s with
      ident := { s.ident with modid := modid }
      boot := { s.boot with stage := .fuse, smbAddr := addr } }) ∧
    (s.boot.stage ≠ .porHeld → exec (.porNRelease modid addr) s = .next s)) ∧
  (∀ (ns : Nat) (s : State),
    (ns < 2000 → exec (.resetNAssert ns) s = .next s) ∧
    (2000 ≤ ns → ns < 10000 → exec (.resetNAssert ns) s = .next s.tick1 ∨
      exec (.resetNAssert ns) s = exec (.resetNAssert 10000) s.tick1) ∧
    (10000 ≤ ns →
      (s.boot.stage = .off ∨ s.boot.stage = .porHeld ∨ s.boot.stage = .halted → exec (.resetNAssert ns) s = .next s) ∧
      (s.boot.stage = .fuse ∨ s.boot.stage = .analog → ∃ t, exec (.resetNAssert ns) s = .next t ∧
        DieReset (interrupted s) t ∧ t.boot.stage = .fuse ∧ t.reg Reg.PWR_VCCIO = s.reg Reg.PWR_VCCIO &&& 0xFF ∧
        t.reg Reg.GBL_BOOT = withBits (resetVal Reg.GBL_BOOT) 22 2 (s.fld Reg.GBL_BOOT 22 2)) ∧
      (s.boot.stage ∉ [BootStage.off, .porHeld, .halted, .fuse, .analog] → ∃ t, exec (.resetNAssert ns) s = .next t ∧
        DieReset (interrupted s) t ∧ t.boot.stage = .resident ∧ t.reg Reg.PWR_VCCIO = s.reg Reg.PWR_VCCIO &&& 0xFF ∧
        t.reg Reg.GBL_BOOT = withBits (resetVal Reg.GBL_BOOT) 22 2 2 ∧ t.reg Reg.BNT_AUTHFAIL = s.reg
          Reg.BNT_AUTHFAIL))) ∧
  (∀ (path : Path) (val : Word32) (fail : Bool) (s : State), s.up = true →
    (val.getLsbD 0 = false → exec (.gblWarmReset path val fail) s = .next s) ∧
    (val.getLsbD 0 = true → accepts path Reg.GBL_RESET val s → ∃ t, exec (.gblWarmReset path val fail) s = .next t ∧
      DieReset (interrupted (recordDone (writeLedger 3 fail (markDirty Reg.GBL_RESET s)))) t ∧ t.boot.stage = .resident ∧
      t.reg Reg.GBL_BOOT = withBits (resetVal Reg.GBL_BOOT) 22 2 2 ∧ t.reg Reg.BNT_AUTHFAIL = s.reg Reg.BNT_AUTHFAIL ∧
      (fail = true → t.ldg.recs = s.ldg.recs) ∧
      (fail = false → mget t.ldg.recs [] ((s.ldg.seq + 1).toNat % 256) = ledgerRecord (s.ldg.seq + 1) 3 s))) ∧
  (∀ (s : State), Changes [.regs, .freeCtr, .bnt, .boot, .ldg] s (interrupted s) ∧
    RegsBut ((List.range 8).map (fun i => Reg.BNT_CTR + 4 * i)) s (interrupted s) ∧
    (interrupted s).boot.stage = s.boot.stage ∧
    (s.boot.stage ≠ .copy → (interrupted s).boot.flash = s.boot.flash) ∧
    (∀ j, j ≠ s.ldg.seq.toNat % 256 → mget (interrupted s).ldg.recs [] j = mget s.ldg.recs [] j) ∧
    (ledgerOpen s = false → stageWriting s = false → s.bnt.reqs = [] → s.boot.stage ≠ .copy → interrupted s = s)) ∧
  (∀ (s : State), s.up = true → ∃ t, exec .rootPllLockLoss s = .next t ∧ t.boot.stage = .halted ∧ t.up = false ∧
    t.reg Reg.GBL_BOOT = s.reg Reg.GBL_BOOT ∧ DieReset (interrupted (raise 0x547 s)) t)

/-- Fabric resets and block resets: A fabric reset begins with the write of GBL_RESET.FABRIC and ends when no rewind,
copy or march copy runs any longer: the image stays, paused at its last committed cycle, and its next start point is reached,
or it is discarded when the image-invalid flag is set or a frozen apply was being written; LAST_RESET says FABRIC and the
event is pending. A block reset sets DONE and its status, and resets the named block where that is allowed and the writer
still owns. (R375, R419, R420, R421, R438, spec/16_boot_update_reset.md) -/
def Obligations.FabricAndBlockResets : Prop :=
  (∀ (path : Path) (val : Word32) (s : State), s.up = true →
    (val.getLsbD 1 = true → val.getLsbD 0 = false → accepts path Reg.GBL_RESET val s →
      ∃ t, exec (.fabricReset path val) s = .next t ∧ t.boot = { s.boot with fabricBusy := true } ∧ Changes [.host,
        .boot] s t) ∧
    (val.getLsbD 1 = false ∨ val.getLsbD 0 = true → exec (.fabricReset path val) s = .next s)) ∧
  (∀ (s : State), s.up = true →
    (s.boot.fabricBusy = false ∨ fabricWaits s = true → exec .fabricResetDone s = .next s) ∧
    (∀ (invalid pending : Bool) (u : State), s.boot.fabricBusy = true → fabricWaits s = false →
      invalid = (s.load.invalidFlag || applyWritesImage s) → pending = s.sch.applyT.isSome → u = atFabricReset s →
      (u.staged = {} ∧ u.sch.committed = s.sch.committed ∧ u.sch.cycles = [] ∧ u.sch.exec = none ∧ u.sch.st = .idle ∧
        u.mem.queue = [] ∧ u.dsp.msgs = [] ∧ u.img = s.img ∧ u.ast = {} ∧ u.lks.armed = false) ∧
      (invalid = true → ∃ t, exec .fabricResetDone s = .next t ∧ t.boot = { s.boot with fabricBusy := false } ∧
        t.fld Reg.GBL_BOOT 22 2 = 3 ∧ t.pendBit 0x011 = true ∧ t.img = {} ∧ t.sch.st = .idle ∧
        t.sch.committed = s.sch.committed ∧ t.bnt = { s.bnt with kImg := none, kAuth := none, kObs := none } ∧
        Changes [.regs, .freeCtr, .out, .host, .clu, .sch, .wave, .img, .staged, .load, .mem, .hbd, .lnk, .dsp, .bnt,
          .tim, .glv, .ast, .lks, .boot, .pwr, .ldg] s t) ∧
      (invalid = false → s.img.valid = false → ∃ t, exec .fabricResetDone s = .next t ∧
        t.boot = { s.boot with fabricBusy := false } ∧ t.fld Reg.GBL_BOOT 22 2 = 3 ∧ t.pendBit 0x011 = true ∧
        t.img = s.img ∧ t.sch.st = .idle) ∧
      (invalid = false → s.img.valid = true →
        exec .fabricResetDone s = .next (fabricReport pending (throttlePoint (reopen (fabricKept u)))) ∧
        (fabricKept u).img = s.img ∧ (fabricKept u).sch.st = .paused ∧ (fabricKept u).paused = true ∧
        (fabricKept u).sch.committed = s.sch.committed))) ∧
  (∀ (pending : Bool) (v : State), (fabricReport pending v).boot.fabricBusy = false ∧
    (fabricReport pending v).fld Reg.GBL_BOOT 22 2 = 3 ∧ (fabricReport pending v).pendBit 0x011 = true) ∧
  (∀ (path : Path) (val : Word32) (s : State), s.up = true → val.getLsbD 8 = true → accepts path Reg.GBL_BLOCK_RESET val s →
    ∃ t, exec (.blockReset ⟨path, false⟩ val) s = .next t ∧ t.bit Reg.GBL_BLOCK_RESET 24 = true ∧ t.pendBit 0x010 = true ∧
      t.fld Reg.GBL_BLOCK_RESET 0 5 = bitsOf val 0 5 ∧ t.fld Reg.GBL_BLOCK_RESET 16 8 = 3 ∧
      RegsBut [Reg.GBL_BLOCK_RESET, pendReg 0x010] s t ∧ Changes [.regs, .out, .host] s t) ∧
  (∀ (path : Path) (val : Word32) (s : State), s.up = true →
    (∀ owns, val.getLsbD 8 = false → exec (.blockReset ⟨path, owns⟩ val) s = .next s) ∧
    (val.getLsbD 8 = true → accepts path Reg.GBL_BLOCK_RESET val s → ∀ code, code = bitsOf val 0 5 →
      ∃ t, exec (.blockReset ⟨path, true⟩ val) s = .next t ∧ t.bit Reg.GBL_BLOCK_RESET 24 = true ∧ t.pendBit 0x010 = true ∧
        t.fld Reg.GBL_BLOCK_RESET 0 5 = code ∧
        (code ∉ [0x1B, 0x1A, 0x14, 0x1C, 0x18] → t.fld Reg.GBL_BLOCK_RESET 16 8 = 12 ∧
          RegsBut [Reg.GBL_BLOCK_RESET, pendReg 0x010] s t ∧ Changes [.regs, .out, .host] s t) ∧
        (code = 0x1B → t.fld Reg.GBL_BLOCK_RESET 16 8 = 0 ∧ t.lks.armed = false ∧ t.lks.capturing = false ∧
          t.lks.cycs = [] ∧
          t.lks.blocks = [] ∧ t.lks.cur = [] ∧ t.bit Reg.LKS_CTRL 0 = false ∧ Changes [.regs, .out, .host, .lks] s t)
            ∧
        (code = 0x1A → s.ast.armed = true → t.fld Reg.GBL_BLOCK_RESET 16 8 = 9 ∧ Changes [.regs, .out, .host] s t) ∧
        (code = 0x1A → s.ast.armed = false → t.fld Reg.GBL_BLOCK_RESET 16 8 = 0 ∧ t.ast =
          { s.ast with tdc := [], sums := [] } ∧
          (∀ k, k < 8 → t.reg (Reg.AST_STAT + 4 * k) = 0 ∧ t.reg (Reg.AST_SEQCNT + 4 * k) = 0) ∧ Changes [.regs,
            .out, .host, .ast] s t) ∧
        (code = 0x14 → t.fld Reg.GBL_BLOCK_RESET 16 8 = 0 ∧
          (s.tim.st ≠ .master → t.tim.st = .unsynced ∧ t.tim.stepped = false ∧ t.tim.lockRun = 0) ∧
          (∀ p, p < s.lanePorts → (t.timPort p).meas = [] ∧ (t.timPort p).pdelay = none) ∧ Changes [.regs, .out,
            .host, .tim] s t) ∧
        (code = 0x1C → s.sch.st = .idle → t.fld Reg.GBL_BLOCK_RESET 16 8 = 0 ∧ t.dsp.msgs = [] ∧ t.dsp.posted = [] ∧
          Changes [.regs, .out, .host, .dsp] s t) ∧
        (code = 0x1C → s.sch.st ≠ .idle → t.fld Reg.GBL_BLOCK_RESET 16 8 = 9 ∧ Changes [.regs, .out, .host] s t) ∧
        (code = 0x18 → (s.sch.st = .running ∨ s.sch.st = .frozen ∨ s.sch.st = .ckpt) →
          t.fld Reg.GBL_BLOCK_RESET 16 8 = 9 ∧ Changes [.regs, .out, .host] s t) ∧
        (code = 0x18 → s.sch.st ≠ .running → s.sch.st ≠ .frozen → s.sch.st ≠ .ckpt → t.fld Reg.GBL_BLOCK_RESET 16 8 =
          0 ∧
          (∀ r, r < 4 → (t.region r).st = .empty) ∧ Changes [.regs, .freeCtr, .out, .host, .glv] s t)))

/-- The stages of start-up: Each stage ends in the next one: FUSE, ANALOG, RESIDENT, JOURNAL, COPY, HEADER, ITEMS,
CONTROLLERS, CLAIM, UP. A failure of FUSE, ANALOG, JOURNAL or CONTROLLERS halts the module; a package that fails a
check makes the next slot be tried, and recovery follows the last one; a copy that fails abandons the trial, whose slot
would still have been booted (the model's reading, log 153). Firmware that starts keeps a settings copy of its own
format. A stage that is not in progress does not end. That a report of
another stage does nothing is the model's choice (log 49). (R303, R422, R423, R424, R427, R428,
R430, R431, R434, R438, R452, spec/16_boot_update_reset.md) -/
def Obligations.StartUpStages : Prop :=
  (∀ (ok : Bool) (f : Option (Byte × BitVec 16)) (s : State),
    (s.boot.stage ≠ .fuse → exec (.bootFuseDone ok) s = .next s) ∧ (s.boot.stage ≠ .analog → exec (.bootAnalogDone f)
      s = .next s) ∧
    (s.boot.stage ≠ .resident → exec .bootResidentDone s = .next s) ∧
    (s.boot.stage ≠ .journal → exec (.bootJournalDone ok) s = .next s) ∧
    (s.boot.stage ≠ .copy → exec (.bootCopyDone ok) s = .next s) ∧ (s.boot.stage ≠ .header → exec .bootHeaderDone s =
      .next s) ∧
    (s.boot.stage ≠ .items → exec .bootItemsDone s = .next s) ∧
    (s.boot.stage ≠ .controllers → exec (.bootControllersDone ok) s = .next s) ∧
    (s.boot.stage ≠ .claim → exec .bootUp s = .next s)) ∧
  (∀ (s : State),
    (s.boot.stage = .fuse → exec (.bootFuseDone true) s = .next (setStage .analog s) ∧
      ∃ t, exec (.bootFuseDone false) s = .next t ∧ t.boot.stage = .halted ∧ DieReset (interrupted s) t ∧
        t.reg Reg.GBL_BOOT = s.reg Reg.GBL_BOOT) ∧
    (s.boot.stage = .analog → exec (.bootAnalogDone none) s = .next (setStage .resident s) ∧
      ∀ f, ∃ t, exec (.bootAnalogDone (some f)) s = .next t ∧ t.boot.stage = .halted ∧ t.boot.mram.failure = some f ∧
        t.reg Reg.GBL_BOOT = withBits (s.reg Reg.GBL_BOOT) 24 8 15 ∧ t.ldg = { recs := s.ldg.recs } ∧ t.ident =
          s.ident) ∧
    (s.boot.stage = .resident →
      (s.boot.mram.resident = [] → exec .bootResidentDone s = .next { s with
        glv := { s.glv with pulls := s.boot.mram.pulls, residentDone := true }
        boot := { s.boot with stage := .journal } }) ∧
      (s.boot.mram.resident ≠ [] → ∃ t, exec .bootResidentDone s = .next t ∧ t.boot.stage = .journal ∧
        t.glv.residentDone = true ∧ (t.fld Reg.GLV_LOAD_STATUS 8 8 = 0 → t.glv.residentOk = true) ∧
        (t.fld Reg.GLV_LOAD_STATUS 8 8 ≠ 0 → t.pendBit 0x364 = true) ∧ Changes [.regs, .freeCtr, .out, .host, .glv,
          .boot] s t)) ∧
    (s.boot.stage = .journal →
      (∃ t, exec (.bootJournalDone true) s = .next t ∧ t.boot.stage = .copy ∧ t.boot.mram.stageTorn = false ∧
        (s.boot.mram.active ≠ none → t.boot.mram.fusePending = false) ∧ t.load.invalidFlag = false ∧
        t.bit Reg.GBL_BOOT 7 = s.load.invalidFlag ∧
        t.bit Reg.GBL_BOOT 8 = (s.boot.mram.stageTorn || s.boot.mram.fusePending) ∧
        t.ldg = (countReset (ledgerBase s)).ldg ∧
        (∀ r k, (k, r) ∈ s.ldg.recs → recordOk r = true → recordSeq r ≤ (ledgerBase s).ldg.seq.toNat) ∧
        ((∀ r k, (k, r) ∈ s.ldg.recs → recordOk r = false) → ledgerBase s = s) ∧
        (ledgerBase s = s ∨ ∃ r k, (k, r) ∈ s.ldg.recs ∧ recordOk r = true ∧
          (ledgerBase s).ldg.seq.toNat = recordSeq r ∧ (ledgerBase s).ldg.lastBoot = leAt r 0x10 1 ∧
          ∀ i, i < 448 → mget (ledgerBase s).ldg.base 0 i = leAt r (0x40 + 4 * i) 4) ∧
        t.mem = { s.mem with spares := journalSpares s } ∧ Changes [.regs, .freeCtr, .out, .host, .load, .mem, .boot,
          .ldg] s t) ∧
      ∃ t, exec (.bootJournalDone false) s = .next t ∧ t.boot.stage = .halted ∧ DieReset (interrupted s) t ∧
        t.reg Reg.GBL_BOOT = s.reg Reg.GBL_BOOT)) ∧
  (∀ (ok : Bool) (s : State), s.boot.stage = .copy →
    (s.boot.mram.trial ≠ .staging → exec (.bootCopyDone ok) s = .next { s with boot := { s.boot with
        stage := .header
        tries := bootOrder s.boot.mram
        wanted := (bootOrder s.boot.mram).head?
        onTrial := decide (s.boot.mram.trial ≠ .none)
        mram := { s.boot.mram with trial := .none } } }) ∧
    (s.boot.mram.trial = .staging → ok = false → exec (.bootCopyDone ok) s = .next { s with boot := { s.boot with
        stage := .header
        tries := bootOrder { s.boot.mram with trial := .none }
        wanted := some (inactiveSlot s)
        onTrial := false
        mram := { s.boot.mram with trial := .none, copied := 0 } } }) ∧
    (∀ k, s.boot.mram.trial = .staging → ok = true → k = inactiveSlot s → ∃ t, exec (.bootCopyDone ok) s = .next t ∧
      t.boot.stage = .header ∧ t.boot.tries.head? = some k ∧ t.boot.wanted = some k ∧ t.boot.onTrial = true ∧
      t.boot.mram.trial = .none ∧ t.boot.mram.copied = 0 ∧ t.bit Reg.GBL_BOOT 9 = true ∧
      (∀ a, a < slotBase k + s.boot.mram.copied ∨ slotBase k + copyLen s ≤ a →
        mget t.boot.flash 0xFF a = mget s.boot.flash 0xFF a) ∧
      (mwf s.boot.mram.staging (fun _ => 0xFF) = true → ∀ i, s.boot.mram.copied ≤ i → i < copyLen s →
        mget t.boot.flash 0xFF (slotBase k + i) = mget s.boot.mram.staging 0xFF i) ∧ RegsBut [Reg.GBL_BOOT] s t ∧ Changes [.regs, .boot] s
          t)) ∧
  (∀ (k : FlashSlot) (rest : List FlashSlot) (h : List Byte) (st : Nat) (s : State), s.boot.tries = k :: rest →
    (s.boot.stage = .header → h = pkgBytes s (some k) 0 1280 → st = headerStatus s h →
      (st = 0 → exec .bootHeaderDone s = .next { s with boot := { s.boot with stage := .items, header := h } }) ∧
      (st ≠ 0 → exec .bootHeaderDone s = .next (failSlot st s))) ∧
    (s.boot.stage = .items → st = itemsStatus s (some k) s.boot.header →
      (st = 0 → ∃ t, exec .bootItemsDone s = .next t ∧ t.boot.stage = .controllers ∧ t.boot.booted = some k ∧
        t.bit Reg.GBL_BOOT 4 = decide (k = .b) ∧ t.ldg.lastBoot = (if k = .b then 1 else 0) ∧
        (s.boot.wanted ≠ some k → t.bit Reg.GBL_BOOT 5 = true ∧ t.pendBit 0x00B = true) ∧ Changes [.regs, .out,
          .host, .boot, .ldg] s t) ∧
      (st ≠ 0 → exec .bootItemsDone s = .next (failSlot st s))) ∧
    (rest ≠ [] → (failSlot st s).boot = { s.boot with tries := rest, onTrial := false, stage := .header } ∧
      (s.fld Reg.GBL_BOOT 24 8 ≠ 0 → (failSlot st s).reg Reg.GBL_BOOT = s.reg Reg.GBL_BOOT) ∧
      (s.fld Reg.GBL_BOOT 24 8 = 0 → st < 256 → (failSlot st s).fld Reg.GBL_BOOT 24 8 = st) ∧
      RegsBut [Reg.GBL_BOOT] s (failSlot st s) ∧ Changes [.regs, .boot] s (failSlot st s)) ∧
    (rest = [] → (failSlot st s).boot.stage = .controllers ∧ (failSlot st s).boot.booted = none ∧
      (failSlot st s).bit Reg.GBL_BOOT 6 = true ∧ (failSlot st s).pendBit 0x00C = true ∧
      (failSlot st s).ldg.lastBoot = 2 ∧ Changes [.regs, .out, .host, .boot, .ldg] s (failSlot st s))) ∧
  (∀ (s : State), s.boot.tries = [] →
    (s.boot.stage = .header → exec .bootHeaderDone s = .next (bootRecovery s)) ∧
    (s.boot.stage = .items → exec .bootItemsDone s = .next (bootRecovery s))) ∧
  (∀ (s : State), (bootRecovery s).boot.stage = .controllers ∧ (bootRecovery s).boot.booted = none ∧
    (bootRecovery s).bit Reg.GBL_BOOT 6 = true ∧ (bootRecovery s).pendBit 0x00C = true ∧
    (bootRecovery s).ldg.lastBoot = 2 ∧ Changes [.regs, .out, .host, .boot, .ldg] s (bootRecovery s)) ∧
  (∀ (s : State), s.boot.stage = .controllers →
    (∃ t, exec (.bootControllersDone true) s = .next t ∧ t.boot.stage = .claim ∧ t.own.st = .claim ∧
      t.own.claimHost = false ∧ t.own.claimBmc = false ∧ t.own.claimCond = false ∧
      (s.boot.booted = none → t.plat = platRecovery s) ∧
      (s.boot.booted ≠ none → t.boot.runHeader = s.boot.header ∧ t.boot.fwTrial = s.boot.onTrial) ∧ Changes [.regs,
        .freeCtr, .out, .plat, .host, .own, .clu, .sch, .wave, .mem, .lnk, .dsp, .bnt, .tim, .glv, .lks, .boot, .pwr,
        .ldg] s t) ∧
    ∃ t, exec (.bootControllersDone false) s = .next t ∧ t.boot.stage = .halted ∧ DieReset (interrupted s) t ∧
      t.reg Reg.GBL_BOOT = s.reg Reg.GBL_BOOT) ∧
  (∀ (trial confirmed : Bool) (s t : State), t = settingsStart trial confirmed s →
    (∃ c, c ∈ t.boot.mram.settings ∧ c.fmt = s.plat.settingsFmt) ∧
    (∀ c, c ∈ s.boot.mram.settings → trial = true ∨ c.confirmed = true ∨ c.fmt = s.plat.settingsFmt →
      c ∈ t.boot.mram.settings) ∧
    (∀ c, c ∈ t.boot.mram.settings → c ∈ s.boot.mram.settings ∨
      (c.fmt = s.plat.settingsFmt ∧ c.confirmed = confirmed)) ∧ Changes [.boot] s t) ∧
  (∀ (s : State), s.boot.stage = .claim → ∃ t, exec .bootUp s = .next t ∧ t.boot = { s.boot with stage := .up } ∧
    t.up = true ∧ t.pendBit 0x00A = true ∧
    (∀ f, s.boot.mram.failure = some f →
      t.reg Reg.PWR_ST_LASTFAIL = BitVec.ofNat 32 (2 ^ 31 + 256 * f.2.toNat + f.1.toNat)) ∧
    RegsBut [Reg.PWR_ST_LASTFAIL, pendReg 0x00A] s t ∧ Changes [.regs, .out, .host, .boot] s t)

/-- The Cloche mailbox, staging, the flash, and a live handover: A submit puts the request at the end of the queue; while
the mailbox is busy only the request area is written, and not that either once the request of the path is taken; an
unknown OP ends once at the front. The owner's requests of the right form write the staging area or the inactive
flash slot, report the first byte not yet staged, or read the flash; other paths end with NOT_OWNER, a trial in the way
with BUSY, a slot in use with LOCKED, and a wrong form with RESOURCE, or with the lower of these where it fails too. A live handover makes the standby core,
when it has checked its firmware, the active one, on trial; when it fails, the firmware that runs goes on. (R405, R432, R435, R436, R437,
spec/16_boot_update_reset.md) -/
def Obligations.ClocheMailboxAndLiveHandover : Prop :=
  (∀ (path : Path) (req : List Byte) (s : State), s.up = true →
    (hasBox path = false ∨ pathTaken path false s.boot.reqs = true → exec (.clocheMailboxSubmit path req) s = .next s) ∧
    (hasBox path = true → pathTaken path false s.boot.reqs = false → (s.clocheBox path).busy = true →
      ∃ t, exec (.clocheMailboxSubmit path req) s = .next t ∧ t.clocheBox path = { s.clocheBox path with area := req } ∧
        t.boot.reqs = s.boot.reqs.map (fun r => if r.path = path then Request.mk path req else r) ∧
        (∀ q, q ≠ path → t.clocheBox q = s.clocheBox q) ∧ Changes [.boot] s t) ∧
    (hasBox path = true → pathTaken path false s.boot.reqs = false → (s.clocheBox path).busy = false →
      (∀ r, (s.boot.reqs ++ [Request.mk path req]).head? = some r → clocheOps.contains (reqOp r) = true) →
      ∃ t, exec (.clocheMailboxSubmit path req) s = .next t ∧ t.boot.reqs = s.boot.reqs ++ [Request.mk path req] ∧
        t.clocheBox path = boxBusy req (s.clocheBox path) ∧ (∀ q, q ≠ path → t.clocheBox q = s.clocheBox q) ∧
        t.boot.mram = s.boot.mram ∧ t.boot.flash = s.boot.flash ∧ Changes [.boot] s t) ∧
    (hasBox path = true → (s.clocheBox path).busy = false → s.boot.reqs = [] → clocheOps.contains (leAt req 0 2) =
      false →
      ∃ t, exec (.clocheMailboxSubmit path req) s = .next t ∧ t.boot.reqs = [] ∧
        t.clocheBox path = boxDone (if s.ownsPath path then 12 else 3) [] (boxBusy req (s.clocheBox path)) ∧ Changes [.boot] s t)) ∧
  (∀ (r : Request) (rest : List Request) (code : Nat) (resp : List Byte) (s : State), s.boot.reqs = r :: rest →
    (clocheEnd code resp s).boot.reqs = rest ∧
    (hasBox r.path = true → (clocheEnd code resp s).clocheBox r.path = boxDone code resp (s.clocheBox r.path)) ∧
    (∀ q, q ≠ r.path → (clocheEnd code resp s).clocheBox q = s.clocheBox q) ∧
    (clocheEnd code resp s).boot.mram = s.boot.mram ∧ (clocheEnd code resp s).boot.flash = s.boot.flash ∧
    Changes [.boot] s (clocheEnd code resp s)) ∧
  (∀ (n : Nat) (s : State), (∀ r, s.boot.reqs.head? = some r → clocheOps.contains (reqOp r) = true) → clocheUnknown n
    s = s) ∧
  (∀ (c : Instr) (op lo hi : Nat) (s : State), s.up = true →
    (c, op, lo, hi) ∈ [(Instr.stageWrite, 0x101, 5, 1540), (.stageStatus, 0x102, 0, 0), (.flashWrite, 0x103, 9, 1544),
      (.flashRead, 0x104, 12, 12)] →
    ((∀ r, s.boot.reqs.head? = some r → reqOp r ≠ op) → exec c s = .next s) ∧
    (∀ r rest, s.boot.reqs = r :: rest → reqOp r = op →
      (s.ownsPath r.path = false → exec c s = .next (clocheUnknown 2 (clocheEnd 3 [] s))) ∧
      (s.ownsPath r.path = true → clocheForm r lo hi = false → ∀ st p, p = payload r →
        (st = 9 ∧ op = 0x101 ∧ s.boot.mram.trial = .staging) ∨
        (st = 4 ∧ op = 0x103 ∧ p ≠ [] ∧ ∃ k, slotOf (leAt p 0 1) = some k ∧
          (s.boot.mram.active = some k ∨ slotOnTrial s k = true)) ∨
        (st = 12 ∧ ¬ (op = 0x101 ∧ s.boot.mram.trial = .staging) ∧ ¬ (op = 0x103 ∧ p ≠ [] ∧
          ∃ k, slotOf (leAt p 0 1) = some k ∧ (s.boot.mram.active = some k ∨ slotOnTrial s k = true))) →
        exec c s = .next (clocheUnknown 2 (clocheEnd st [] s))))) ∧
  (∀ (r : Request) (rest : List Request) (p : List Byte) (s : State), s.up = true → s.boot.reqs = r :: rest →
    s.ownsPath r.path = true → p = payload r →
    (reqOp r = 0x101 → clocheForm r 5 1540 = true → ∀ off data, off = leAt p 0 4 → data = p.drop 4 →
      (off + data.length ≤ 0x800000 → s.boot.mram.trial ≠ .staging →
        ∃ u, exec .stageWrite s = .next (clocheUnknown 2 (clocheEnd 0 [] u)) ∧
          (∀ i, i < data.length → mget u.boot.mram.staging 0xFF (off + i) = data.getD i 0) ∧
          (∀ a, a < off ∨ off + data.length ≤ a → mget u.boot.mram.staging 0xFF a = mget s.boot.mram.staging 0xFF a) ∧
          u.boot.mram.stageDone = unitsAfter s.boot.mram.stageDone off data.length ∧ u.boot.flash = s.boot.flash ∧
          Changes [.boot] s u) ∧
      (s.boot.mram.trial = .staging → exec .stageWrite s = .next (clocheUnknown 2 (clocheEnd 9 [] s))) ∧
      (0x800000 < off + data.length → s.boot.mram.trial ≠ .staging →
        exec .stageWrite s = .next (clocheUnknown 2 (clocheEnd 12 [] s)))) ∧
    (reqOp r = 0x102 → clocheForm r 0 0 = true → ∃ u, exec .stageStatus s =
        .next (clocheUnknown 2 (clocheEnd 0 (leBytes 4 (4096 * u)) s)) ∧
      (∀ j, j < u → j ∈ s.boot.mram.stageDone) ∧ (u ∉ s.boot.mram.stageDone ∨ u = 2048)) ∧
    (reqOp r = 0x103 → clocheForm r 9 1544 = true → ∀ off data, off = leAt p 4 4 → data = p.drop 8 →
      (∀ k, slotOf (leAt p 0 1) = some k →
        (allZero p 1 3 = true → off + data.length ≤ 2 ^ 24 → s.boot.mram.active ≠ some k → slotOnTrial s k = false →
          ∃ u, exec .flashWrite s = .next (clocheUnknown 2 (clocheEnd 0 [] u)) ∧
            (∀ i, i < data.length → mget u.boot.flash 0xFF (slotBase k + off + i) = data.getD i 0) ∧
            (∀ a, a < slotBase k + off ∨ slotBase k + off + data.length ≤ a →
              mget u.boot.flash 0xFF a = mget s.boot.flash 0xFF a) ∧ u.boot.mram = s.boot.mram ∧ Changes [.boot] s u)
                ∧
        (s.boot.mram.active = some k ∨ slotOnTrial s k = true →
          exec .flashWrite s = .next (clocheUnknown 2 (clocheEnd 4 [] s))) ∧
        ((allZero p 1 3 = false ∨ 2 ^ 24 < off + data.length) → s.boot.mram.active ≠ some k → slotOnTrial s k = false
          →
          exec .flashWrite s = .next (clocheUnknown 2 (clocheEnd 12 [] s)))) ∧
      (slotOf (leAt p 0 1) = none → exec .flashWrite s = .next (clocheUnknown 2 (clocheEnd 12 [] s)))) ∧
    (reqOp r = 0x104 → clocheForm r 12 12 = true → ∀ off n, off = leAt p 4 4 → n = leAt p 8 4 →
      (∀ k, slotOf (leAt p 0 1) = some k → allZero p 1 3 = true → n ≤ 2048 → off + n ≤ 2 ^ 24 →
        exec .flashRead s = .next (clocheUnknown 2 (clocheEnd 0
          ((List.range n).map (fun i => mget s.boot.flash 0xFF (slotBase k + (off + i)))) s))) ∧
      (slotOf (leAt p 0 1) = none ∨ allZero p 1 3 = false ∨ 2048 < n ∨ 2 ^ 24 < off + n →
        exec .flashRead s = .next (clocheUnknown 2 (clocheEnd 12 [] s))))) ∧
  (∀ (s : State), s.up = true →
    (s.boot.handover = false → exec .handoverStandbyReady s = .next s ∧ exec .handoverTimeout s = .next s ∧
      exec .standbyCheckFail s = .next s) ∧
    (s.boot.handover = true →
      (standbyCheck s = false → exec .handoverStandbyReady s = exec .standbyCheckFail s) ∧
      (standbyCheck s = true → ∃ t, exec .handoverStandbyReady s = .next t ∧ t.boot.handover = false ∧ t.boot.activeB = (!s.boot.activeB) ∧
        t.boot.fwTrial = true ∧ t.boot.runHeader = s.boot.liveHeader ∧ t.boot.liveHeader = [] ∧
        t.plat.fwClass = hdrFwClass s.boot.liveHeader ∧ t.plat.fwVer = BitVec.ofNat 32 (leAt s.boot.liveHeader 0xC 4)
          ∧
        t.plat.settingsFmt = s.boot.liveHeader.getD 0xB 0 ∧ t.boot.mram.trial = s.boot.mram.trial ∧
        t.pendBit 0x00E = true ∧ RegsBut [pendReg 0x00E] s t ∧ Changes
          [.regs, .out, .plat, .host, .boot] s t) ∧
      (∀ c, c ∈ [Instr.handoverTimeout, .standbyCheckFail] → ∃ t, exec c s = .next t ∧
        t.boot = { s.boot with handover := false, liveHeader := [] } ∧ t.pendBit 0x00F = true ∧
        RegsBut [pendReg 0x00F] s t ∧ Changes [.regs, .out, .host, .boot] s t)))

/-- Power states, temperatures, the ramp, the forecast and the perennial ledger: A request for Doze or Nap is queued
from HOLD or behind a transition under way, passing through HOLD, and refused with TARGET_REFUSED otherwise; a wake
is queued unless the target is HOLD. A transition ends in its state. A reading sets PWR_TEMP, the thermal level and
the trip. Ramp time moves the ramp level; a forecast frame leaves when the platform enables it. The ledger is
sampled each second and written as a record, or the failure is reported. (R439, R440, R441, R443, R444, R447, R448,
R451, R452, spec/17_power_thermal_ledger.md) -/
def Obligations.PowerThermalAndLedger : Prop :=
  (∀ (c : Instr) (path : Path) (val : Word32) (target : Nat) (m : PowMode) (s : State), s.up = true →
    (c, target, m) ∈ [(Instr.pwrTargetDoze path val, 1, PowMode.doze), (.pwrTargetNap path val, 2, .nap)] →
    (bitsOf val 0 2 ≠ target → exec c s = .next s) ∧
    (bitsOf val 0 2 = target → accepts path Reg.PWR_CTRL val s →
      (s.fld Reg.PWR_CTRL 0 2 = target → ∃ t, exec c s = .next t ∧ t.pwr = s.pwr ∧ Changes [.regs, .out, .host, .pwr,
        .ldg] s t) ∧
      (s.fld Reg.PWR_CTRL 0 2 ≠ target → powTo s ≠ .on → ∃ t, exec c s = .next t ∧
        t.pwr = { s.pwr with trans := s.pwr.trans ++ [PowMode.on, m] } ∧ t.fld Reg.PWR_CTRL 0 2 = target ∧
        Changes [.regs, .out, .host, .pwr, .ldg] s t) ∧
      (s.fld Reg.PWR_CTRL 0 2 ≠ target → powTo s = .on → s.pwr.trans ≠ [] ∨ dozeOpen s = true → ∃ t, exec c s = .next
        t ∧
        t.pwr = { s.pwr with trans := s.pwr.trans ++ [m] } ∧ t.fld Reg.PWR_CTRL 0 2 = target ∧ Changes [.regs, .out,
          .host, .pwr, .ldg] s t) ∧
      (s.fld Reg.PWR_CTRL 0 2 ≠ target → powTo s = .on → s.pwr.trans = [] → dozeOpen s = false → ∃ t, exec c s =
        .next t ∧
        t.pwr = s.pwr ∧ t.fld Reg.PWR_CTRL 0 2 = s.fld Reg.PWR_CTRL 0 2 ∧ t.bit Reg.PWR_CAUSE 2 = true ∧
        t.pendBit 0x543 = true ∧ Changes [.regs, .out, .host, .pwr, .ldg] s t))) ∧
  (∀ (path : Path) (val : Word32) (s : State), s.up = true →
    (bitsOf val 0 2 ≠ 0 → exec (.pwrWake path val) s = .next s) ∧
    (bitsOf val 0 2 = 0 → accepts path Reg.PWR_CTRL val s →
      (s.fld Reg.PWR_CTRL 0 2 = 0 ∨ powTo s = .on → ∃ t, exec (.pwrWake path val) s = .next t ∧ t.pwr = s.pwr ∧
        Changes [.regs, .out, .host, .pwr, .ldg] s t) ∧
      (s.fld Reg.PWR_CTRL 0 2 ≠ 0 → powTo s ≠ .on → ∃ t, exec (.pwrWake path val) s = .next t ∧
        t.pwr = { s.pwr with trans := s.pwr.trans ++ [PowMode.on] } ∧ t.fld Reg.PWR_CTRL 0 2 = 0 ∧ Changes [.regs,
          .out, .host, .pwr, .ldg] s t))) ∧
  (∀ (path : Path) (val : Word32) (fail : Bool) (s : State), s.up = true →
    (val.getLsbD 3 = false → exec (.ldgFlush path val fail) s = .next s) ∧
    (val.getLsbD 2 = false → exec (.shutdown path val fail) s = .next s) ∧
    (val.getLsbD 3 = true → accepts path Reg.PWR_CTRL val s → ∃ t, exec (.ldgFlush path val fail) s = .next t ∧
      (fail = true → t.ldg.recs = s.ldg.recs ∧ t.bit Reg.PWR_CAUSE 3 = true ∧ t.pendBit 0x544 = true) ∧
      (val.getLsbD 2 = false → fail = false → t.ldg.pend = [] ∧ t.ldg.seq = s.ldg.seq + 1 ∧
        mget t.ldg.recs [] ((s.ldg.seq + 1).toNat % 256) = ledgerRecord (s.ldg.seq + 1) 1 s) ∧
      (val.getLsbD 2 = true → exec (.ldgFlush path val fail) s = exec (.shutdown path val fail) s) ∧ Changes [.regs, .out, .host, .pwr, .ldg] s
          t) ∧
    (val.getLsbD 2 = true → accepts path Reg.PWR_CTRL val s → ∃ t, exec (.shutdown path val fail) s = .next t ∧
      (fail = true → t.ldg.recs = s.ldg.recs ∧ t.bit Reg.PWR_CAUSE 3 = true ∧ t.pendBit 0x544 = true) ∧
      (fail = false → t.ldg.pend = [] ∧ t.pendBit 0x540 = true ∧ t.ldg.seq = s.ldg.seq + (if val.getLsbD 3 then 2
        else 1) ∧
        mget t.ldg.recs [] (t.ldg.seq.toNat % 256) = ledgerRecord t.ldg.seq 2 s) ∧
      Changes [.regs, .out, .host, .pwr, .ldg] s t)) ∧
  (∀ (fail : Bool) (s : State), s.up = true →
    (s.pwr.trans = [] → exec (.pwrTransitionDone fail) s = .next s) ∧
    (∀ m rest, s.pwr.trans = m :: rest → ∃ t, exec (.pwrTransitionDone fail) s = .next t ∧ t.pwr.mode = m ∧
      t.pwr.trans = rest ∧ (m = .on → t.pwr.longHold = true) ∧ (rest = [] → t.pendBit 0x540 = true) ∧
      (m = .nap → fail = false → t.ldg.seq = s.ldg.seq + 1 ∧
        mget t.ldg.recs [] ((s.ldg.seq + 1).toNat % 256) = ledgerRecord (s.ldg.seq + 1) 4 s) ∧
      (m ≠ .nap → t.ldg.recs = s.ldg.recs ∧ t.ldg.seq = s.ldg.seq) ∧
      Changes [.regs, .freeCtr, .out, .host, .mem, .ast, .lks, .pwr, .ldg] s t) ∧
    (fail = false → exec (.ledgerPeriodicWrite fail) s = .next { s with ldg := { s.ldg with
      base := ledCounts s
      pend := []
      seq := s.ldg.seq + 1
      wrote := some s.clock
      recs := mset s.ldg.recs [] ((s.ldg.seq + 1).toNat % 256) (ledgerRecord (s.ldg.seq + 1) 0 s) } }) ∧
    (∀ (seq : Word64) (reason : Nat) (b : List Byte), reason < 256 → b = ledgerRecord seq reason s →
      b.length = 2048 ∧ recordOk b = true ∧ recordSeq b = seq.toNat ∧ leAt b 4 2 = 1 ∧ leAt b 6 2 = s.part ∧
      leAt b 0x10 1 = s.ldg.lastBoot % 256 ∧ leAt b 0x11 1 = reason ∧
      (∀ i, i < 448 → leAt b (0x40 + 4 * i) 4 = mget (ledCounts s) 0 i % 2 ^ 32) ∧
      (∀ i, i < 448 → (b.getD (0x740 + i / 8) 0).getLsbD (i % 8) = mget s.ldg.sat false i)) ∧
    (fail = true → ∃ t, exec (.ledgerPeriodicWrite fail) s = .next t ∧ t.bit Reg.PWR_CAUSE 3 = true ∧ t.pendBit 0x544
      = true ∧
      RegsBut [Reg.PWR_CAUSE, pendReg 0x544] s t ∧ Changes [.regs, .out, .host] s t)) ∧
  (∀ (s : State), s.up = true → ∃ t, exec .ledgerSample s = .next t ∧
    (∀ i, ledRead t i = (if i = powerState s ∨ i = tempBin (s.fld Reg.PWR_TEMP 0 8) ∨
        (s.pwr.vmonBad = false ∧ i = voltBin (s.fld Reg.PWR_VCORE 0 12)) then min 0xFFFFFFFF (ledRead s i + 1)
      else ledRead s i)) ∧ RegsBut [Reg.PWR_CAUSE, pendReg 0x545] s t ∧ Changes [.regs, .out, .host, .ldg] s t) ∧
  (∀ (temps : List Byte) (s : State), s.up = true →
    (temps.length ≠ 24 ∨ validTemps s temps = [] → exec (.thermalReading temps) s = .next s) ∧
    (∀ i tj throt, temps.length = 24 → validTemps s temps ≠ [] → (i, tj) = hottest (validTemps s temps) →
      throt = s.fld Reg.PWR_THERM 0 8 → ∃ t, exec (.thermalReading temps) s = .next t ∧
        (∀ p, p ∈ validTemps s temps → p.2 ≤ tj) ∧ (i, tj) ∈ validTemps s temps ∧
        t.fld Reg.PWR_TEMP 0 8 = tj ∧ t.fld Reg.PWR_TEMP 8 8 = max (s.fld Reg.PWR_TEMP 8 8) tj ∧
        t.fld Reg.PWR_TEMP 16 5 = i ∧
        t.pwr.lth = (if throt ≤ tj then min 63 (s.pwr.lth + s.fld Reg.PWR_THERM 20 4)
          else if tj + s.fld Reg.PWR_THERM 16 4 < throt then s.pwr.lth - 1 else s.pwr.lth) ∧
        t.pwr.trip = (if s.fld Reg.PWR_THERM 8 8 ≤ tj then true
          else if tj + s.fld Reg.PWR_THERM 16 4 < throt then false else s.pwr.trip) ∧
        (throt ≤ tj → s.pwr.lth = 0 → t.bit Reg.PWR_CAUSE 1 = true ∧ t.pendBit 0x541 = true) ∧ Changes [.regs, .out,
          .host, .clu, .sch, .wave, .mem, .lnk, .dsp, .pwr, .ldg] s t)) ∧
  (∀ (s : State), s.up = true →
    (s.pwr.rampT = none → exec .rampTick s = .next s) ∧
    (∀ n T, s.pwr.rampT = some n → T = s.fld Reg.PWR_RAMP 0 7 → ∃ t, exec .rampTick s = .next t ∧
      t.pwr = { s.pwr with rampT := if n + 1 < T then some (n + 1) else none
                           lramp := if n + 1 < T then 63 * (T - (n + 1)) / T else 0 } ∧ Changes [.sch, .pwr] s t) ∧
    (s.plat.lfcEn = false → exec .loadForecastFrame s = .next s) ∧
    (s.plat.lfcEn = true → ∃ t est rampBit, exec .loadForecastFrame s = .next t ∧ est < 2 ^ 16 ∧ rampBit < 2 ∧
      (∀ n, s.pwr.rampT = some n → n + 5 ≤ s.fld Reg.PWR_RAMP 0 7 → rampBit = 1) ∧
      (resumeMayCome s = false → s.pwr.rampT = none ∨ (∃ n, s.pwr.rampT = some n ∧ s.fld Reg.PWR_RAMP 0 7 < n + 4) →
        rampBit = 0) ∧
      t.out = .lfcFrame (BitVec.ofNat 25 (lfcBits est s.pwr.lfcSeq.toNat rampBit)) :: s.out ∧
      t.reg Reg.PWR_LFC = BitVec.ofNat 32 (2 ^ 16 * est + 2 * s.pwr.lfcSeq.toNat + 1) ∧
      t.pwr = { s.pwr with lfcSeq := s.pwr.lfcSeq + 1 } ∧ RegsBut [Reg.PWR_LFC] s t ∧ Changes [.regs, .freeCtr, .out,
        .pwr] s t))

/-- Requests of self-tests and their end: GO begins the test that PWR_ST_CTRL names, or ends the request with NOT_OWNER,
LOCKED, BUSY or RESOURCE; while a test runs its status alone is set. STOP ends a reflection. A test that ends sets DONE with
PASS, FAIL or REPAIRED; a loop test ends LOOP, a TDC input that fails is recorded and disabled, and the end of a march test
ends the march with it. (R375, R459, R460, R461, R462, spec/18_selftest_repair.md) -/
def Obligations.SelfTestRequests : Prop :=
  (∀ (path : Path) (val : Word32) (owns : Bool) (s v : State), s.up = true →
    (val.getLsbD 26 = false → exec (.selfTestGo ⟨path, owns⟩ val) s = .next s) ∧
    (val.getLsbD 27 = false → exec (.selfTestStop path val) s = .next s) ∧
    (accepts path Reg.PWR_ST_CTRL val s → v = storeReg Reg.PWR_ST_CTRL val (markDirty Reg.PWR_ST_CTRL s) →
      v.fld Reg.PWR_ST_CTRL 0 8 = bitsOf val 0 8 ∧ v.fld Reg.PWR_ST_CTRL 8 16 = bitsOf val 8 16 ∧
      v.bit Reg.PWR_ST_CTRL 25 = val.getLsbD 25 ∧ RegsBut [Reg.PWR_ST_CTRL] s v ∧ Changes [.regs, .host] s v ∧
      (val.getLsbD 26 = true →
        exec (.selfTestGo ⟨path, owns⟩ val) s = .next (testGo owns (if val.getLsbD 27 then testStop v else v))) ∧
      (val.getLsbD 27 = true → val.getLsbD 26 = false → exec (.selfTestStop path val) s = .next (testStop v)) ∧
      (val.getLsbD 27 = true → val.getLsbD 26 = true → exec (.selfTestStop path val) s = exec (.selfTestGo ⟨path, true⟩ val)
        s))) ∧
  (∀ (test unit st : Nat) (owns : Bool) (u t : State), test = u.fld Reg.PWR_ST_CTRL 0 8 →
    unit = u.fld Reg.PWR_ST_CTRL 8 16 → st = testStatus u owns test unit → t = testGo owns u →
    (u.pwr.test ≠ none → t = u.setFld Reg.PWR_ST_STATUS 8 8 st) ∧
    (u.pwr.test = none → st ≠ 0 → t.pwr = u.pwr ∧ t.fld Reg.PWR_ST_STATUS 8 8 = st ∧
      t.fld Reg.PWR_ST_STATUS 16 2 = 0 ∧ t.bit Reg.PWR_ST_STATUS 1 = true ∧
      t.pendBit 0x546 = true ∧ RegsBut [Reg.PWR_ST_STATUS, pendReg 0x546] u t) ∧
    (u.pwr.test = none → st = 0 →
      t.pwr.test = some (BitVec.ofNat 8 test, BitVec.ofNat 16 unit, u.bit Reg.PWR_ST_CTRL 25) ∧
      t.fld Reg.PWR_ST_STATUS 8 8 = 0 ∧ t.bit Reg.PWR_ST_STATUS 1 = false ∧
      (test = 4 → t.bit (lnkReg unit 0) 1 = true) ∧
      (test = 6 → mget t.pwr.tdcOut 0 unit = u.clock + 160) ∧
      (test = 0x11 ∨ test = 0x12 → t.mem =
        { u.mem with marchPhase := .march, marchSelfTest := true, marchSecond := false }) ∧
      RegsBut [Reg.PWR_ST_STATUS, lnkReg unit 0] u t) ∧
    (owns = false → st = 3) ∧ (owns = true → (test = 0x11 ∨ test = 0x12) → u.sch.st ≠ .idle → st = 4) ∧
    (owns = true → (test = 4 ∨ test = 5 ∨ test = 6) → u.pwr.test ≠ none → st = 9) ∧ st ∈ [0, 3, 4, 9, 12] ∧
    (st = 0 ↔ owns = true ∧ u.pwr.test = none ∧
      ((test = 4 ∨ test = 5) ∧ unit < u.lanePorts ∧ (u.lane unit).st ∈ [LaneState.disabled, .detect, .halt] ∨
        test = 6 ∧ unit < 64 ∨
        u.sch.st = .idle ∧ marching u = false ∧ (test = 0x11 ∧ unit < u.clusters / 64 ∨ test = 0x12)))) ∧
  (∀ (v : State),
    (∀ unit, v.pwr.test = some (5, unit, true) → (testStop v).pwr = { v.pwr with test := none } ∧
      (testStop v).bit Reg.PWR_ST_STATUS 1 = true ∧ (testStop v).fld Reg.PWR_ST_STATUS 16 2 = 0 ∧
      (testStop v).pendBit 0x546 = true ∧ RegsBut [Reg.PWR_ST_STATUS, pendReg 0x546] v (testStop v)) ∧
    ((∀ unit, v.pwr.test ≠ some (5, unit, true)) → testStop v = v)) ∧
  (∀ (pass : Bool) (s : State), s.up = true →
    (s.pwr.test = none → exec (.selfTestDone pass) s = .next s) ∧
    (∀ code unit mode, s.pwr.test = some (code, unit, mode) →
      (code = 5 → mode = true → exec (.selfTestDone pass) s = .next s) ∧
      (code ≠ 0x11 → code ≠ 0x12 → ¬ (code = 5 ∧ mode = true) → ∃ t, exec (.selfTestDone pass) s = .next t ∧
        t.pwr = { s.pwr with test := none } ∧ t.fld Reg.PWR_ST_STATUS 16 2 = (if pass then 1 else 2) ∧
        t.fld Reg.PWR_ST_STATUS 8 8 = 0 ∧
        t.bit Reg.PWR_ST_STATUS 1 = true ∧ t.pendBit 0x546 = true ∧ (pass = false → t.pendBit 0x547 = true) ∧
        (code = 4 → unit.toNat < 16 → t.bit (lnkReg unit.toNat 0) 1 = false) ∧
        (code = 6 → unit.toNat < 64 → pass = false →
          t.bit (Reg.PWR_TDC_FAIL + 4 * (unit.toNat / 32)) (unit.toNat % 32) = true ∧
          t.bit (Reg.GLV_TDC_EN + 4 * (unit.toNat / 32)) (unit.toNat % 32) = false) ∧ Changes [.regs, .out, .host,
            .pwr] s t) ∧
      (∀ u, code = 0x11 ∨ code = 0x12 → u = (if s.mem.marchPhase ≠ .march then s
          else if s.mem.marchSecond = true then remarchDone [] s else marchPhaseDone [] s) →
        ∃ t, exec (.selfTestDone pass) s = .next t ∧
        t.pwr.test = none ∧ t.mem.marchPhase = .idle ∧ t.mem.marchSelfTest = false ∧
        t.fld Reg.PWR_ST_STATUS 16 2 = (if u.pwr.failed ≠ [] then 2 else if u.pwr.repaired ≠ [] then 3 else 1) ∧
        t.fld Reg.PWR_ST_STATUS 8 8 = 0 ∧ t.bit Reg.PWR_ST_STATUS 1 = true ∧ t.pendBit 0x546 = true ∧
        (u.pwr.failed = [] → t.clu = (marchClear code.toNat unit.toNat s).clu) ∧
        (u.pwr.failed ≠ [] → t.pendBit 0x547 = true) ∧ Changes [.regs, .freeCtr, .out, .host, .clu, .sch, .wave, .mem,
          .lnk, .dsp, .tim, .glv, .boot, .pwr, .ldg] s t)))

/-- Marches with repair, and the checks that run in service: A march phase that finds no failing cell concludes; in one
that does, every failing unit is repaired with spares where R464's allocation finds them and the repair area has room, or
counts as failed, a failed bank is served by a spare bank, and a second march confirms the repairs. A sensor far from
the median is excluded, and too few sensors trip; the voltage counts when both references agree; the loss of a
lane's or a stack's clock parks the unit; a VCCIO bank that trips in service stays recorded, and its supply counts from the
clear on. (R444, R457, R463, R464, R465, R466, R468, R473, R478, R479, spec/18_selftest_repair.md,
spec/19_electrical_package.md) -/
def Obligations.MarchRepairAndChecks : Prop :=
  (∀ (cells : List FailCell) (s : State), s.up = true →
    (s.mem.marchPhase ≠ .march ∨ s.mem.marchSecond = true → exec (.marchPhaseDone cells) s = .next s) ∧
    (s.mem.marchPhase = .march → s.mem.marchSecond = false →
      (failUnits s cells = [] → ∃ t, exec (.marchPhaseDone cells) s = .next t ∧ t.pwr =
        { s.pwr with repaired := [], failed := [] } ∧
        t.mem.marchPhase = (if s.mem.marchSelfTest = true ∨ s.mem.marchDestr = false then .restore else .idle) ∧
        t.boot = s.boot ∧ t.reg Reg.PWR_ST_MARCH = BitVec.ofNat 32 (2 ^ 30 * marchTarget s + 2 ^ 14 * (marchUnits
          s).1) ∧
        (∀ k, k < 64 → t.reg (Reg.PWR_ST_CELL + 4 * k) = 0) ∧ Changes [.regs, .out, .host, .mem, .pwr] s t) ∧
      (∃ t, exec (.marchPhaseDone cells) s = .next t ∧
        (∀ u, u ∈ failUnits s cells ↔ u ∈ t.pwr.repaired ∨ u ∈ t.pwr.failed) ∧
        t.mem.marchSecond = !t.pwr.repaired.isEmpty ∧ Changes [.regs, .out, .host, .mem, .boot, .pwr, .ldg] s t) ∧
      (∀ u cs, failUnits s cells = [u] → cs = unitCells s cells u →
        (allocate cs (freeSpares s (marchTarget s) u 0).length (freeSpares s (marchTarget s) u 1).length = none →
          s.mem.marchSelfTest = true → ∃ t, exec (.marchPhaseDone cells) s = .next t ∧
            t.pwr = { s.pwr with repaired := [], failed := [u] } ∧ t.mem.marchPhase = .restore ∧ t.boot = s.boot ∧
            Changes [.regs, .out, .host, .mem, .pwr] s t) ∧
        (allocate cs (freeSpares s (marchTarget s) u 0).length (freeSpares s (marchTarget s) u 1).length = none →
          s.mem.marchSelfTest = false → s.mem.marchDestr = false → ∃ t, exec (.marchPhaseDone cells) s = .next t ∧
            t.pwr = { s.pwr with repaired := [], failed := [u] } ∧ t.pendBit 0x547 = true ∧
            t.mem.marchPhase = .idle ∧ t.bit Reg.MEM_MARCH_STATUS 3 = true ∧ t.mem.spares = s.mem.spares ∧
            (s.boot.mram.repairs.length < 4096 → ∃ x, t.boot.mram.repairs = s.boot.mram.repairs ++ [RepairRec.word x] ∧
              x.kind = 2 ∧ x.unit = BitVec.ofNat 16 u) ∧
            (4096 ≤ s.boot.mram.repairs.length → t.boot = s.boot ∧ t.bit Reg.PWR_ST_STATUS 18 = true ∧
              t.pendBit 0x54A = true)) ∧
        (∀ lanes rows, allocate cs (freeSpares s (marchTarget s) u 0).length (freeSpares s (marchTarget s) u
          1).length =
            some (lanes, rows) → s.boot.mram.repairs.length + lanes.length + rows.length ≤ 4096 →
          ∃ (t : State) (new : List RepairRec), exec (.marchPhaseDone cells) s = .next t ∧ t.pwr = { s.pwr with repaired := [u], failed := [] } ∧
            t.mem = { s.mem with marchSecond := true } ∧ t.boot.mram.repairs = s.boot.mram.repairs ++ new.map RepairRec.word ∧
            new.length = lanes.length + rows.length ∧ (∀ x, x ∈ new → x.unit = BitVec.ofNat 16 u ∧ x.kind.toNat < 2) ∧
            Changes [.regs, .out, .host, .mem, .boot, .pwr, .ldg] s t)))) ∧
  (∀ (cells : List FailCell) (s : State), s.up = true →
    (s.mem.marchPhase ≠ .march ∨ s.mem.marchSecond = false → exec (.repairRemarchDone cells) s = .next s) ∧
    (∀ failed, s.mem.marchPhase = .march → s.mem.marchSecond = true →
      failed = s.pwr.failed ++ s.pwr.repaired.filter (fun u => (failUnits s cells).contains u) →
      ∃ t, exec (.repairRemarchDone cells) s = .next t ∧ t.pwr = { s.pwr with failed := failed } ∧ t.mem.marchSecond
        = false ∧
        t.mem.marchPhase = (if s.mem.marchSelfTest = true ∨ (s.mem.marchDestr = false ∧
          s.mem.marchBank ∉ failed) then .restore else .idle) ∧ Changes [.regs, .out, .host, .mem, .boot, .pwr, .ldg] s t)) ∧
  (∀ (r : RepairRec), repairOf r.word = some r) ∧ (∀ (w : Word32), ones w.toNat 32 % 2 = 0 → repairOf w = none) ∧
  (∀ (cs : List FailCell) (fr fc : Nat),
    (∀ lanes rows, fc ≤ 2 → allocate cs fr fc = some (lanes, rows) → lanes.length ≤ fc ∧ rows.length ≤ fr ∧
      ∀ c, c ∈ cs → c.lane.toNat ∈ lanes ∨ c.word.toNat / 16 ∈ rows)) ∧
  (∀ (temps : List Byte) (s : State), s.up = true →
    (temps.length ≠ 24 → exec (.thermalSensorCheck temps) s = .next s) ∧
    (∀ m, temps.length = 24 → m = median2 ((validTemps s temps).map (fun p => p.2)) →
      ∃ t, exec (.thermalSensorCheck temps) s = .next t ∧
        (∀ i, i < 24 → t.bit Reg.PWR_TS_EXCL i = (s.bit Reg.PWR_TS_EXCL i ||
          decide (16 < (2 * (temps.getD i 0).toNat - m) + (m - 2 * (temps.getD i 0).toNat)))) ∧
        ((∃ i, i < 24 ∧ s.bit Reg.PWR_TS_EXCL i = false ∧ t.bit Reg.PWR_TS_EXCL i = true) → t.pendBit 0x548 = true) ∧
        ((validTemps t temps).length < 12 → t.pwr.trip = true) ∧
        (12 ≤ (validTemps t temps).length → RegsBut [Reg.PWR_TS_EXCL, pendReg 0x548] s t ∧ Changes [.regs, .out,
          .host] s t) ∧
        Changes [.regs, .out, .host, .clu, .sch, .wave, .mem, .lnk, .dsp, .pwr, .ldg] s t)) ∧
  (∀ (mv : BitVec 12) (d0 d1 : Nat) (s : State), s.up = true →
    (d0 ≤ 15 → d1 ≤ 15 → ∃ t, exec (.vmonCheck mv d0 d1) s = .next t ∧ t.pwr = { s.pwr with vmonBad := false } ∧
      t.reg Reg.PWR_VCORE = mv.setWidth 32 ∧
      (s.plat.avsEn = true → ∃ v, 10 ≤ v ∧ v ≤ 40 ∧ t.reg Reg.PWR_AVS = BitVec.ofNat 32 (256 + v)) ∧
      (s.plat.avsEn = false → t.reg Reg.PWR_AVS = s.reg Reg.PWR_AVS) ∧
      RegsBut [Reg.PWR_VCORE, Reg.PWR_AVS] s t ∧ Changes [.regs, .freeCtr, .pwr] s t) ∧
    (15 < d0 ∨ 15 < d1 → ∃ t, exec (.vmonCheck mv d0 d1) s = .next t ∧ t.pwr = { s.pwr with vmonBad := true } ∧
      t.reg Reg.PWR_VCORE = 0 ∧ t.bit Reg.PWR_AVS 8 = false ∧ t.pendBit 0x547 = true ∧
      RegsBut [Reg.PWR_VCORE, Reg.PWR_AVS, pendReg 0x547] s t ∧ Changes [.regs, .out, .host, .pwr] s t)) ∧
  (∀ (p : BitVec 4) (s : State), s.up = true →
    (s.lanePorts ≤ p.toNat → exec (.lanePllLockLoss p) s = .next s) ∧
    (p.toNat < s.lanePorts → ∃ t, exec (.lanePllLockLoss p) s = .next t ∧ (t.lane p.toNat).st = .disabled ∧
      (t.lane p.toNat).parked = true ∧ (0x12, p.toNat) ∈ t.pwr.parked ∧
      t.reg Reg.GBL_PARKED = BitVec.ofNat 32 (2 ^ 21 * 2 + 2 ^ 5 * p.toNat + 0x12) ∧ t.pendBit 0x001 = true ∧
      t.pendBit 0x547 = true ∧ Changes [.regs, .freeCtr, .out, .host, .clu, .sch, .wave, .mem, .lnk, .dsp, .tim, .glv,
        .lks, .pwr, .ldg] s t)) ∧
  (∀ (k : BitVec 1) (s : State), s.up = true →
    (s.stacks ≤ k.toNat → exec (.hbmPllLockLoss k) s = .next s) ∧
    (k.toNat < s.stacks → ∃ t, exec (.hbmPllLockLoss k) s = .next t ∧ (0x16, k.toNat) ∈ t.pwr.parked ∧
      t.reg Reg.GBL_PARKED = BitVec.ofNat 32 (2 ^ 21 * 3 + 2 ^ 5 * k.toNat + 0x16) ∧ t.pendBit 0x001 = true ∧
      t.pendBit 0x547 = true ∧ Changes [.regs, .freeCtr, .out, .host, .clu, .sch, .wave, .mem, .lnk, .dsp, .tim, .glv,
        .lks, .pwr, .ldg] s t)) ∧
  (∀ (b : BitVec 3) (s : State),
    (s.bit Reg.PWR_VCCIO b.toNat = false → exec (.vccioMonitorTrip b) s = .next s) ∧
    (s.bit Reg.PWR_VCCIO b.toNat = true → s.up = false → exec (.vccioMonitorTrip b) s =
      .next (s.setBit Reg.PWR_VCCIO b.toNat false)) ∧
    (s.bit Reg.PWR_VCCIO b.toNat = true → s.up = true → ∃ t, exec (.vccioMonitorTrip b) s = .next t ∧ t.bit Reg.PWR_VCCIO b.toNat =
      false ∧
      t.bit Reg.PWR_VCCIO (8 + b.toNat) = true ∧ (s.bit Reg.PWR_VCCIO (8 + b.toNat) = false → t.pendBit 0x54B = true)
        ∧
      RegsBut [Reg.PWR_VCCIO, pendReg 0x54B] s t ∧ Changes [.regs, .freeCtr, .out, .host, .glv] s t) ∧
    (s.boot.stage = .off → exec (.vccioMonitorClear b) s = .next s) ∧
    (s.boot.stage ≠ .off → ∃ t, exec (.vccioMonitorClear b) s = .next t ∧
      t.reg Reg.PWR_VCCIO = withBits (s.reg Reg.PWR_VCCIO) b.toNat 1 1 ∧
      (s.up = false → t = s.setBit Reg.PWR_VCCIO b.toNat true) ∧
      RegsBut [Reg.PWR_VCCIO] s t ∧ Changes [.regs, .freeCtr, .glv] s t))
end

