-- ==== Sys2Proof/Laws/Store.lean ====
section
/-!
SUPPORT. Laws/Store.lean: sparse stores: what a read gives after a write, and that every operation on a store keeps its
canonical form.
-/
namespace Sys2Proof.Laws
set_option Elab.async false
open Sys2Proof.Machine

variable {α : Type} [DecidableEq α]

/-! ### The canonical form -/

/-- The canonical form says that the keys rise and that no entry holds what an unlisted key reads as. -/
theorem mwf_iff (m : SMap α) (d : Nat → α) :
    mwf m d = true ↔ m.Pairwise (fun p q => p.1 < q.1) ∧ ∀ p ∈ m, p.2 ≠ d p.1 := by
  induction m with
  | nil => simp [mwf]
  | cons p t ih =>
    obtain ⟨k, v⟩ := p
    cases t with
    | nil => simp [mwf]
    | cons q t =>
      obtain ⟨j, w⟩ := q
      rw [mwf, Bool.and_eq_true, Bool.and_eq_true, ih]
      simp only [decide_eq_true_eq, List.pairwise_cons, List.mem_cons, forall_eq_or_imp]
      constructor
      · rintro ⟨⟨h1, h2⟩, ⟨h3, h4⟩, h5⟩
        exact ⟨⟨⟨h2, fun p hp => Nat.lt_trans h2 (h3 p hp)⟩, h3, h4⟩, h1, h5⟩
      · rintro ⟨⟨⟨h2, _⟩, h3, h4⟩, h1, h5⟩
        exact ⟨⟨h1, h2⟩, ⟨h3, h4⟩, h5⟩

/-- A part of a store is canonical. -/
theorem mwf_filter {m : SMap α} {d : Nat → α} (p : Nat × α → Bool) (h : mwf m d = true) : mwf (m.filter p) d = true := by
  rw [mwf_iff] at h ⊢
  exact ⟨h.1.filter p, fun q hq => h.2 q (List.mem_of_mem_filter hq)⟩

theorem mem_mins {m : SMap α} {k : Nat} {v : α} {p : Nat × α} : p ∈ mins m k v ↔ p = (k, v) ∨ p ∈ m := by
  induction m with
  | nil => simp [mins]
  | cons q t ih =>
    unfold mins
    split
    · simp
    · simp only [List.mem_cons, ih]
      tauto

/-- Writing a key keeps the canonical form. -/
theorem mwf_mset {m : SMap α} {d : Nat → α} (k : Nat) (v : α) (h : mwf m d = true) : mwf (mset m (d k) k v) d = true := by
  unfold mset
  split
  · exact mwf_filter _ h
  · rename_i hv
    have hd := mwf_filter (fun p => p.1 ≠ k) h
    rw [mwf_iff] at hd ⊢
    have hk : ∀ p ∈ mdel m k, p.1 ≠ k := fun p hp => by simpa using (List.mem_filter.mp hp).2
    refine ⟨?_, fun p hp => ?_⟩
    · have key : ∀ l : SMap α, l.Pairwise (fun p q => p.1 < q.1) → (∀ p ∈ l, p.1 ≠ k) →
          (mins l k v).Pairwise (fun p q => p.1 < q.1) := by
        intro l
        induction l with
        | nil => intro _ _; simp [mins]
        | cons q t ih =>
          obtain ⟨j, w⟩ := q
          intro hp hn
          rw [List.pairwise_cons] at hp
          unfold mins
          split
          · rename_i hlt
            refine List.pairwise_cons.mpr ⟨fun p hp' => ?_, List.pairwise_cons.mpr hp⟩
            rcases List.mem_cons.mp hp' with rfl | h'
            · exact hlt
            · exact Nat.lt_trans hlt (hp.1 p h')
          · rename_i hlt
            refine List.pairwise_cons.mpr ⟨fun p hp' => ?_, ih hp.2 (fun p h' => hn p (List.mem_cons_of_mem _ h'))⟩
            rcases mem_mins.mp hp' with rfl | h'
            · have := hn (j, w) List.mem_cons_self
              simp only at this hlt ⊢
              omega
            · exact hp.1 p h'
      exact key _ hd.1 hk
    · rcases mem_mins.mp hp with rfl | h'
      · exact hv
      · exact hd.2 p h'

/-- Writing a list of pairs keeps the canonical form. -/
theorem mwf_msetAll {m : SMap α} {d : α} (l : List (Nat × α)) (h : mwf m (fun _ => d) = true) :
    mwf (msetAll m d l) (fun _ => d) = true := by
  unfold msetAll
  induction l generalizing m with
  | nil => exact h
  | cons p t ih => exact ih (mwf_mset (d := fun _ => d) p.1 p.2 h)

/-! ### Reading after writing -/

omit [DecidableEq α] in
theorem mget_mins_same (m : SMap α) (d : α) (k : Nat) (v : α) (h : ∀ p ∈ m, p.1 ≠ k) : mget (mins m k v) d k = v := by
  induction m with
  | nil => simp [mins, mget]
  | cons q t ih =>
    unfold mins
    split
    · simp [mget]
    · have hq := h q List.mem_cons_self
      simp [mget, hq, ih (fun p hp => h p (List.mem_cons_of_mem _ hp))]

omit [DecidableEq α] in
theorem mget_mins_other (m : SMap α) (d : α) {k j : Nat} (v : α) (h : j ≠ k) : mget (mins m k v) d j = mget m d j := by
  induction m with
  | nil => simp [mins, mget, Ne.symm h]
  | cons q t ih =>
    unfold mins
    split
    · simp [mget, Ne.symm h]
    · simp [mget, ih]

omit [DecidableEq α] in
theorem mget_mdel_same (m : SMap α) (d : α) (k : Nat) : mget (mdel m k) d k = d := by
  induction m with
  | nil => rfl
  | cons q t ih =>
    unfold mdel at ih ⊢
    rw [List.filter_cons]
    split
    · rename_i hq
      simp only [mget]
      rw [if_neg (by simpa using hq)]
      exact ih
    · exact ih

omit [DecidableEq α] in
theorem mget_mdel_other (m : SMap α) (d : α) {k j : Nat} (h : j ≠ k) : mget (mdel m k) d j = mget m d j := by
  induction m with
  | nil => rfl
  | cons q t ih =>
    unfold mdel at ih ⊢
    rw [List.filter_cons]
    split
    · simp only [mget, ih]
    · rename_i hq
      have hq : q.1 = k := by simpa using hq
      simp only [mget]
      rw [if_neg (by rw [hq]; exact Ne.symm h)]
      exact ih

/-- A read of the key written gives the value written. -/
@[simp] theorem mget_mset_same (m : SMap α) (d : α) (k : Nat) (v : α) : mget (mset m d k v) d k = v := by
  unfold mset
  split
  · rename_i h; rw [h]; exact mget_mdel_same m d k
  · exact mget_mins_same _ d k v (fun p hp => by simpa using (List.mem_filter.mp hp).2)

/-- A read of another key gives what it gave before. -/
theorem mget_mset_other (m : SMap α) (d d' : α) {k j : Nat} (v : α) (h : j ≠ k) :
    mget (mset m d k v) d' j = mget m d' j := by
  unfold mset
  split
  · exact mget_mdel_other m d' h
  · rw [mget_mins_other _ d' v h, mget_mdel_other m d' h]

/-! ### Registers -/

/-- A register reads what was stored in it. -/
@[simp] theorem reg_setReg_same (s : State) (o : Nat) (v : Word32) : (s.setReg o v).reg o = v :=
  mget_mset_same ..

/-- Storing a register changes no other. -/
theorem reg_setReg_other (s : State) {o p : Nat} (v : Word32) (h : p ≠ o) : (s.setReg o v).reg p = s.reg p :=
  mget_mset_other _ _ _ v h

/-- A register reads what was stored last, in it or elsewhere. -/
theorem reg_setReg (s : State) (o p : Nat) (v : Word32) : (s.setReg o v).reg p = if p = o then v else s.reg p := by
  split
  · rename_i h; rw [h, reg_setReg_same]
  · rename_i h; exact reg_setReg_other s v h

end Sys2Proof.Laws
end

