-- ==== Sys2Proof/Laws/State.lean ====
section
/-!
SUPPORT. Laws/State.lean: what each named update of the state does to each part of it, and what reads give after it.
-/
namespace Sys2Proof.Laws
set_option Elab.async false
open Sys2Proof.Machine

@[simp] theorem setReg_pending (s : State) (o : Nat) (v : Word32) : (s.setReg o v).pending = s.pending := rfl
@[simp] theorem setReg_regs (s : State) (o : Nat) (v : Word32) :
    (s.setReg o v).regs = mset s.regs (resetVal o) o v := rfl
@[simp] theorem setReg_clock (s : State) (o : Nat) (v : Word32) : (s.setReg o v).clock = s.clock := rfl
@[simp] theorem setReg_freeCtr (s : State) (o : Nat) (v : Word32) : (s.setReg o v).freeCtr = s.freeCtr := rfl
@[simp] theorem setReg_out (s : State) (o : Nat) (v : Word32) : (s.setReg o v).out = s.out := rfl
@[simp] theorem setReg_ident (s : State) (o : Nat) (v : Word32) : (s.setReg o v).ident = s.ident := rfl
@[simp] theorem setReg_plat (s : State) (o : Nat) (v : Word32) : (s.setReg o v).plat = s.plat := rfl
@[simp] theorem setReg_host (s : State) (o : Nat) (v : Word32) : (s.setReg o v).host = s.host := rfl
@[simp] theorem setReg_own (s : State) (o : Nat) (v : Word32) : (s.setReg o v).own = s.own := rfl
@[simp] theorem setReg_clu (s : State) (o : Nat) (v : Word32) : (s.setReg o v).clu = s.clu := rfl
@[simp] theorem setReg_sch (s : State) (o : Nat) (v : Word32) : (s.setReg o v).sch = s.sch := rfl
@[simp] theorem setReg_wave (s : State) (o : Nat) (v : Word32) : (s.setReg o v).wave = s.wave := rfl
@[simp] theorem setReg_img (s : State) (o : Nat) (v : Word32) : (s.setReg o v).img = s.img := rfl
@[simp] theorem setReg_staged (s : State) (o : Nat) (v : Word32) : (s.setReg o v).staged = s.staged := rfl
@[simp] theorem setReg_load (s : State) (o : Nat) (v : Word32) : (s.setReg o v).load = s.load := rfl
@[simp] theorem setReg_mem (s : State) (o : Nat) (v : Word32) : (s.setReg o v).mem = s.mem := rfl
@[simp] theorem setReg_hbd (s : State) (o : Nat) (v : Word32) : (s.setReg o v).hbd = s.hbd := rfl
@[simp] theorem setReg_lnk (s : State) (o : Nat) (v : Word32) : (s.setReg o v).lnk = s.lnk := rfl
@[simp] theorem setReg_dsp (s : State) (o : Nat) (v : Word32) : (s.setReg o v).dsp = s.dsp := rfl
@[simp] theorem setReg_bnt (s : State) (o : Nat) (v : Word32) : (s.setReg o v).bnt = s.bnt := rfl
@[simp] theorem setReg_tim (s : State) (o : Nat) (v : Word32) : (s.setReg o v).tim = s.tim := rfl
@[simp] theorem setReg_glv (s : State) (o : Nat) (v : Word32) : (s.setReg o v).glv = s.glv := rfl
@[simp] theorem setReg_ast (s : State) (o : Nat) (v : Word32) : (s.setReg o v).ast = s.ast := rfl
@[simp] theorem setReg_lks (s : State) (o : Nat) (v : Word32) : (s.setReg o v).lks = s.lks := rfl
@[simp] theorem setReg_boot (s : State) (o : Nat) (v : Word32) : (s.setReg o v).boot = s.boot := rfl
@[simp] theorem setReg_pwr (s : State) (o : Nat) (v : Word32) : (s.setReg o v).pwr = s.pwr := rfl
@[simp] theorem setReg_ldg (s : State) (o : Nat) (v : Word32) : (s.setReg o v).ldg = s.ldg := rfl
@[simp] theorem setReg_up (s : State) (o : Nat) (v : Word32) : (s.setReg o v).up = s.up := rfl

@[simp] theorem setFld_pending (s : State) (o lo w v : Nat) : (s.setFld o lo w v).pending = s.pending := rfl
@[simp] theorem setFld_regs (s : State) (o lo w v : Nat) :
    (s.setFld o lo w v).regs = (s.setReg o (withBits (s.reg o) lo w v)).regs := rfl
@[simp] theorem setFld_clock (s : State) (o lo w v : Nat) : (s.setFld o lo w v).clock = s.clock := rfl
@[simp] theorem setFld_freeCtr (s : State) (o lo w v : Nat) : (s.setFld o lo w v).freeCtr = s.freeCtr := rfl
@[simp] theorem setFld_out (s : State) (o lo w v : Nat) : (s.setFld o lo w v).out = s.out := rfl
@[simp] theorem setFld_ident (s : State) (o lo w v : Nat) : (s.setFld o lo w v).ident = s.ident := rfl
@[simp] theorem setFld_plat (s : State) (o lo w v : Nat) : (s.setFld o lo w v).plat = s.plat := rfl
@[simp] theorem setFld_host (s : State) (o lo w v : Nat) : (s.setFld o lo w v).host = s.host := rfl
@[simp] theorem setFld_own (s : State) (o lo w v : Nat) : (s.setFld o lo w v).own = s.own := rfl
@[simp] theorem setFld_clu (s : State) (o lo w v : Nat) : (s.setFld o lo w v).clu = s.clu := rfl
@[simp] theorem setFld_sch (s : State) (o lo w v : Nat) : (s.setFld o lo w v).sch = s.sch := rfl
@[simp] theorem setFld_wave (s : State) (o lo w v : Nat) : (s.setFld o lo w v).wave = s.wave := rfl
@[simp] theorem setFld_img (s : State) (o lo w v : Nat) : (s.setFld o lo w v).img = s.img := rfl
@[simp] theorem setFld_staged (s : State) (o lo w v : Nat) : (s.setFld o lo w v).staged = s.staged := rfl
@[simp] theorem setFld_load (s : State) (o lo w v : Nat) : (s.setFld o lo w v).load = s.load := rfl
@[simp] theorem setFld_mem (s : State) (o lo w v : Nat) : (s.setFld o lo w v).mem = s.mem := rfl
@[simp] theorem setFld_hbd (s : State) (o lo w v : Nat) : (s.setFld o lo w v).hbd = s.hbd := rfl
@[simp] theorem setFld_lnk (s : State) (o lo w v : Nat) : (s.setFld o lo w v).lnk = s.lnk := rfl
@[simp] theorem setFld_dsp (s : State) (o lo w v : Nat) : (s.setFld o lo w v).dsp = s.dsp := rfl
@[simp] theorem setFld_bnt (s : State) (o lo w v : Nat) : (s.setFld o lo w v).bnt = s.bnt := rfl
@[simp] theorem setFld_tim (s : State) (o lo w v : Nat) : (s.setFld o lo w v).tim = s.tim := rfl
@[simp] theorem setFld_glv (s : State) (o lo w v : Nat) : (s.setFld o lo w v).glv = s.glv := rfl
@[simp] theorem setFld_ast (s : State) (o lo w v : Nat) : (s.setFld o lo w v).ast = s.ast := rfl
@[simp] theorem setFld_lks (s : State) (o lo w v : Nat) : (s.setFld o lo w v).lks = s.lks := rfl
@[simp] theorem setFld_boot (s : State) (o lo w v : Nat) : (s.setFld o lo w v).boot = s.boot := rfl
@[simp] theorem setFld_pwr (s : State) (o lo w v : Nat) : (s.setFld o lo w v).pwr = s.pwr := rfl
@[simp] theorem setFld_ldg (s : State) (o lo w v : Nat) : (s.setFld o lo w v).ldg = s.ldg := rfl
@[simp] theorem setFld_up (s : State) (o lo w v : Nat) : (s.setFld o lo w v).up = s.up := rfl

@[simp] theorem setBit_pending (s : State) (o i : Nat) (b : Bool) : (s.setBit o i b).pending = s.pending := rfl
@[simp] theorem setBit_regs (s : State) (o i : Nat) (b : Bool) :
    (s.setBit o i b).regs = (s.setFld o i 1 (b2n b)).regs := rfl
@[simp] theorem setBit_clock (s : State) (o i : Nat) (b : Bool) : (s.setBit o i b).clock = s.clock := rfl
@[simp] theorem setBit_freeCtr (s : State) (o i : Nat) (b : Bool) : (s.setBit o i b).freeCtr = s.freeCtr := rfl
@[simp] theorem setBit_out (s : State) (o i : Nat) (b : Bool) : (s.setBit o i b).out = s.out := rfl
@[simp] theorem setBit_ident (s : State) (o i : Nat) (b : Bool) : (s.setBit o i b).ident = s.ident := rfl
@[simp] theorem setBit_plat (s : State) (o i : Nat) (b : Bool) : (s.setBit o i b).plat = s.plat := rfl
@[simp] theorem setBit_host (s : State) (o i : Nat) (b : Bool) : (s.setBit o i b).host = s.host := rfl
@[simp] theorem setBit_own (s : State) (o i : Nat) (b : Bool) : (s.setBit o i b).own = s.own := rfl
@[simp] theorem setBit_clu (s : State) (o i : Nat) (b : Bool) : (s.setBit o i b).clu = s.clu := rfl
@[simp] theorem setBit_sch (s : State) (o i : Nat) (b : Bool) : (s.setBit o i b).sch = s.sch := rfl
@[simp] theorem setBit_wave (s : State) (o i : Nat) (b : Bool) : (s.setBit o i b).wave = s.wave := rfl
@[simp] theorem setBit_img (s : State) (o i : Nat) (b : Bool) : (s.setBit o i b).img = s.img := rfl
@[simp] theorem setBit_staged (s : State) (o i : Nat) (b : Bool) : (s.setBit o i b).staged = s.staged := rfl
@[simp] theorem setBit_load (s : State) (o i : Nat) (b : Bool) : (s.setBit o i b).load = s.load := rfl
@[simp] theorem setBit_mem (s : State) (o i : Nat) (b : Bool) : (s.setBit o i b).mem = s.mem := rfl
@[simp] theorem setBit_hbd (s : State) (o i : Nat) (b : Bool) : (s.setBit o i b).hbd = s.hbd := rfl
@[simp] theorem setBit_lnk (s : State) (o i : Nat) (b : Bool) : (s.setBit o i b).lnk = s.lnk := rfl
@[simp] theorem setBit_dsp (s : State) (o i : Nat) (b : Bool) : (s.setBit o i b).dsp = s.dsp := rfl
@[simp] theorem setBit_bnt (s : State) (o i : Nat) (b : Bool) : (s.setBit o i b).bnt = s.bnt := rfl
@[simp] theorem setBit_tim (s : State) (o i : Nat) (b : Bool) : (s.setBit o i b).tim = s.tim := rfl
@[simp] theorem setBit_glv (s : State) (o i : Nat) (b : Bool) : (s.setBit o i b).glv = s.glv := rfl
@[simp] theorem setBit_ast (s : State) (o i : Nat) (b : Bool) : (s.setBit o i b).ast = s.ast := rfl
@[simp] theorem setBit_lks (s : State) (o i : Nat) (b : Bool) : (s.setBit o i b).lks = s.lks := rfl
@[simp] theorem setBit_boot (s : State) (o i : Nat) (b : Bool) : (s.setBit o i b).boot = s.boot := rfl
@[simp] theorem setBit_pwr (s : State) (o i : Nat) (b : Bool) : (s.setBit o i b).pwr = s.pwr := rfl
@[simp] theorem setBit_ldg (s : State) (o i : Nat) (b : Bool) : (s.setBit o i b).ldg = s.ldg := rfl
@[simp] theorem setBit_up (s : State) (o i : Nat) (b : Bool) : (s.setBit o i b).up = s.up := rfl

@[simp] theorem setReg64_pending (s : State) (o : Nat) (v : Word64) : (s.setReg64 o v).pending = s.pending := rfl
@[simp] theorem setReg64_regs (s : State) (o : Nat) (v : Word64) :
    (s.setReg64 o v).regs = ((s.setReg o (lo32 v)).setReg (o + 4) (hi32 v)).regs := rfl
@[simp] theorem setReg64_clock (s : State) (o : Nat) (v : Word64) : (s.setReg64 o v).clock = s.clock := rfl
@[simp] theorem setReg64_freeCtr (s : State) (o : Nat) (v : Word64) : (s.setReg64 o v).freeCtr = s.freeCtr := rfl
@[simp] theorem setReg64_out (s : State) (o : Nat) (v : Word64) : (s.setReg64 o v).out = s.out := rfl
@[simp] theorem setReg64_ident (s : State) (o : Nat) (v : Word64) : (s.setReg64 o v).ident = s.ident := rfl
@[simp] theorem setReg64_plat (s : State) (o : Nat) (v : Word64) : (s.setReg64 o v).plat = s.plat := rfl
@[simp] theorem setReg64_host (s : State) (o : Nat) (v : Word64) : (s.setReg64 o v).host = s.host := rfl
@[simp] theorem setReg64_own (s : State) (o : Nat) (v : Word64) : (s.setReg64 o v).own = s.own := rfl
@[simp] theorem setReg64_clu (s : State) (o : Nat) (v : Word64) : (s.setReg64 o v).clu = s.clu := rfl
@[simp] theorem setReg64_sch (s : State) (o : Nat) (v : Word64) : (s.setReg64 o v).sch = s.sch := rfl
@[simp] theorem setReg64_wave (s : State) (o : Nat) (v : Word64) : (s.setReg64 o v).wave = s.wave := rfl
@[simp] theorem setReg64_img (s : State) (o : Nat) (v : Word64) : (s.setReg64 o v).img = s.img := rfl
@[simp] theorem setReg64_staged (s : State) (o : Nat) (v : Word64) : (s.setReg64 o v).staged = s.staged := rfl
@[simp] theorem setReg64_load (s : State) (o : Nat) (v : Word64) : (s.setReg64 o v).load = s.load := rfl
@[simp] theorem setReg64_mem (s : State) (o : Nat) (v : Word64) : (s.setReg64 o v).mem = s.mem := rfl
@[simp] theorem setReg64_hbd (s : State) (o : Nat) (v : Word64) : (s.setReg64 o v).hbd = s.hbd := rfl
@[simp] theorem setReg64_lnk (s : State) (o : Nat) (v : Word64) : (s.setReg64 o v).lnk = s.lnk := rfl
@[simp] theorem setReg64_dsp (s : State) (o : Nat) (v : Word64) : (s.setReg64 o v).dsp = s.dsp := rfl
@[simp] theorem setReg64_bnt (s : State) (o : Nat) (v : Word64) : (s.setReg64 o v).bnt = s.bnt := rfl
@[simp] theorem setReg64_tim (s : State) (o : Nat) (v : Word64) : (s.setReg64 o v).tim = s.tim := rfl
@[simp] theorem setReg64_glv (s : State) (o : Nat) (v : Word64) : (s.setReg64 o v).glv = s.glv := rfl
@[simp] theorem setReg64_ast (s : State) (o : Nat) (v : Word64) : (s.setReg64 o v).ast = s.ast := rfl
@[simp] theorem setReg64_lks (s : State) (o : Nat) (v : Word64) : (s.setReg64 o v).lks = s.lks := rfl
@[simp] theorem setReg64_boot (s : State) (o : Nat) (v : Word64) : (s.setReg64 o v).boot = s.boot := rfl
@[simp] theorem setReg64_pwr (s : State) (o : Nat) (v : Word64) : (s.setReg64 o v).pwr = s.pwr := rfl
@[simp] theorem setReg64_ldg (s : State) (o : Nat) (v : Word64) : (s.setReg64 o v).ldg = s.ldg := rfl
@[simp] theorem setReg64_up (s : State) (o : Nat) (v : Word64) : (s.setReg64 o v).up = s.up := rfl

@[simp] theorem keepRegs_pending (s : State) (p : Nat → Bool) : (keepRegs p s).pending = s.pending := rfl
@[simp] theorem keepRegs_regs (s : State) (p : Nat → Bool) :
    (keepRegs p s).regs = s.regs.filter (fun q => p q.1) := rfl
@[simp] theorem keepRegs_clock (s : State) (p : Nat → Bool) : (keepRegs p s).clock = s.clock := rfl
@[simp] theorem keepRegs_freeCtr (s : State) (p : Nat → Bool) : (keepRegs p s).freeCtr = s.freeCtr := rfl
@[simp] theorem keepRegs_out (s : State) (p : Nat → Bool) : (keepRegs p s).out = s.out := rfl
@[simp] theorem keepRegs_ident (s : State) (p : Nat → Bool) : (keepRegs p s).ident = s.ident := rfl
@[simp] theorem keepRegs_plat (s : State) (p : Nat → Bool) : (keepRegs p s).plat = s.plat := rfl
@[simp] theorem keepRegs_host (s : State) (p : Nat → Bool) : (keepRegs p s).host = s.host := rfl
@[simp] theorem keepRegs_own (s : State) (p : Nat → Bool) : (keepRegs p s).own = s.own := rfl
@[simp] theorem keepRegs_clu (s : State) (p : Nat → Bool) : (keepRegs p s).clu = s.clu := rfl
@[simp] theorem keepRegs_sch (s : State) (p : Nat → Bool) : (keepRegs p s).sch = s.sch := rfl
@[simp] theorem keepRegs_wave (s : State) (p : Nat → Bool) : (keepRegs p s).wave = s.wave := rfl
@[simp] theorem keepRegs_img (s : State) (p : Nat → Bool) : (keepRegs p s).img = s.img := rfl
@[simp] theorem keepRegs_staged (s : State) (p : Nat → Bool) : (keepRegs p s).staged = s.staged := rfl
@[simp] theorem keepRegs_load (s : State) (p : Nat → Bool) : (keepRegs p s).load = s.load := rfl
@[simp] theorem keepRegs_mem (s : State) (p : Nat → Bool) : (keepRegs p s).mem = s.mem := rfl
@[simp] theorem keepRegs_hbd (s : State) (p : Nat → Bool) : (keepRegs p s).hbd = s.hbd := rfl
@[simp] theorem keepRegs_lnk (s : State) (p : Nat → Bool) : (keepRegs p s).lnk = s.lnk := rfl
@[simp] theorem keepRegs_dsp (s : State) (p : Nat → Bool) : (keepRegs p s).dsp = s.dsp := rfl
@[simp] theorem keepRegs_bnt (s : State) (p : Nat → Bool) : (keepRegs p s).bnt = s.bnt := rfl
@[simp] theorem keepRegs_tim (s : State) (p : Nat → Bool) : (keepRegs p s).tim = s.tim := rfl
@[simp] theorem keepRegs_glv (s : State) (p : Nat → Bool) : (keepRegs p s).glv = s.glv := rfl
@[simp] theorem keepRegs_ast (s : State) (p : Nat → Bool) : (keepRegs p s).ast = s.ast := rfl
@[simp] theorem keepRegs_lks (s : State) (p : Nat → Bool) : (keepRegs p s).lks = s.lks := rfl
@[simp] theorem keepRegs_boot (s : State) (p : Nat → Bool) : (keepRegs p s).boot = s.boot := rfl
@[simp] theorem keepRegs_pwr (s : State) (p : Nat → Bool) : (keepRegs p s).pwr = s.pwr := rfl
@[simp] theorem keepRegs_ldg (s : State) (p : Nat → Bool) : (keepRegs p s).ldg = s.ldg := rfl
@[simp] theorem keepRegs_up (s : State) (p : Nat → Bool) : (keepRegs p s).up = s.up := rfl

@[simp] theorem emit_pending (s : State) (o : Output) : (s.emit o).pending = s.pending := rfl
@[simp] theorem emit_regs (s : State) (o : Output) : (s.emit o).regs = s.regs := rfl
@[simp] theorem emit_clock (s : State) (o : Output) : (s.emit o).clock = s.clock := rfl
@[simp] theorem emit_freeCtr (s : State) (o : Output) : (s.emit o).freeCtr = s.freeCtr := rfl
@[simp] theorem emit_out (s : State) (o : Output) : (s.emit o).out = o :: s.out := rfl
@[simp] theorem emit_ident (s : State) (o : Output) : (s.emit o).ident = s.ident := rfl
@[simp] theorem emit_plat (s : State) (o : Output) : (s.emit o).plat = s.plat := rfl
@[simp] theorem emit_host (s : State) (o : Output) : (s.emit o).host = s.host := rfl
@[simp] theorem emit_own (s : State) (o : Output) : (s.emit o).own = s.own := rfl
@[simp] theorem emit_clu (s : State) (o : Output) : (s.emit o).clu = s.clu := rfl
@[simp] theorem emit_sch (s : State) (o : Output) : (s.emit o).sch = s.sch := rfl
@[simp] theorem emit_wave (s : State) (o : Output) : (s.emit o).wave = s.wave := rfl
@[simp] theorem emit_img (s : State) (o : Output) : (s.emit o).img = s.img := rfl
@[simp] theorem emit_staged (s : State) (o : Output) : (s.emit o).staged = s.staged := rfl
@[simp] theorem emit_load (s : State) (o : Output) : (s.emit o).load = s.load := rfl
@[simp] theorem emit_mem (s : State) (o : Output) : (s.emit o).mem = s.mem := rfl
@[simp] theorem emit_hbd (s : State) (o : Output) : (s.emit o).hbd = s.hbd := rfl
@[simp] theorem emit_lnk (s : State) (o : Output) : (s.emit o).lnk = s.lnk := rfl
@[simp] theorem emit_dsp (s : State) (o : Output) : (s.emit o).dsp = s.dsp := rfl
@[simp] theorem emit_bnt (s : State) (o : Output) : (s.emit o).bnt = s.bnt := rfl
@[simp] theorem emit_tim (s : State) (o : Output) : (s.emit o).tim = s.tim := rfl
@[simp] theorem emit_glv (s : State) (o : Output) : (s.emit o).glv = s.glv := rfl
@[simp] theorem emit_ast (s : State) (o : Output) : (s.emit o).ast = s.ast := rfl
@[simp] theorem emit_lks (s : State) (o : Output) : (s.emit o).lks = s.lks := rfl
@[simp] theorem emit_boot (s : State) (o : Output) : (s.emit o).boot = s.boot := rfl
@[simp] theorem emit_pwr (s : State) (o : Output) : (s.emit o).pwr = s.pwr := rfl
@[simp] theorem emit_ldg (s : State) (o : Output) : (s.emit o).ldg = s.ldg := rfl
@[simp] theorem emit_reg (s : State) (o : Output) (q : Nat) : (s.emit o).reg q = s.reg q := rfl
@[simp] theorem emit_up (s : State) (o : Output) : (s.emit o).up = s.up := rfl

@[simp] theorem tick1_pending (s : State) : (s.tick1).pending = s.pending := rfl
@[simp] theorem tick1_regs (s : State) : (s.tick1).regs = s.regs := rfl
@[simp] theorem tick1_clock (s : State) : (s.tick1).clock = s.clock := rfl
@[simp] theorem tick1_freeCtr (s : State) : (s.tick1).freeCtr = s.freeCtr + 1 := rfl
@[simp] theorem tick1_out (s : State) : (s.tick1).out = s.out := rfl
@[simp] theorem tick1_ident (s : State) : (s.tick1).ident = s.ident := rfl
@[simp] theorem tick1_plat (s : State) : (s.tick1).plat = s.plat := rfl
@[simp] theorem tick1_host (s : State) : (s.tick1).host = s.host := rfl
@[simp] theorem tick1_own (s : State) : (s.tick1).own = s.own := rfl
@[simp] theorem tick1_clu (s : State) : (s.tick1).clu = s.clu := rfl
@[simp] theorem tick1_sch (s : State) : (s.tick1).sch = s.sch := rfl
@[simp] theorem tick1_wave (s : State) : (s.tick1).wave = s.wave := rfl
@[simp] theorem tick1_img (s : State) : (s.tick1).img = s.img := rfl
@[simp] theorem tick1_staged (s : State) : (s.tick1).staged = s.staged := rfl
@[simp] theorem tick1_load (s : State) : (s.tick1).load = s.load := rfl
@[simp] theorem tick1_mem (s : State) : (s.tick1).mem = s.mem := rfl
@[simp] theorem tick1_hbd (s : State) : (s.tick1).hbd = s.hbd := rfl
@[simp] theorem tick1_lnk (s : State) : (s.tick1).lnk = s.lnk := rfl
@[simp] theorem tick1_dsp (s : State) : (s.tick1).dsp = s.dsp := rfl
@[simp] theorem tick1_bnt (s : State) : (s.tick1).bnt = s.bnt := rfl
@[simp] theorem tick1_tim (s : State) : (s.tick1).tim = s.tim := rfl
@[simp] theorem tick1_glv (s : State) : (s.tick1).glv = s.glv := rfl
@[simp] theorem tick1_ast (s : State) : (s.tick1).ast = s.ast := rfl
@[simp] theorem tick1_lks (s : State) : (s.tick1).lks = s.lks := rfl
@[simp] theorem tick1_boot (s : State) : (s.tick1).boot = s.boot := rfl
@[simp] theorem tick1_pwr (s : State) : (s.tick1).pwr = s.pwr := rfl
@[simp] theorem tick1_ldg (s : State) : (s.tick1).ldg = s.ldg := rfl
@[simp] theorem tick1_reg (s : State) (q : Nat) : (s.tick1).reg q = s.reg q := rfl
@[simp] theorem tick1_up (s : State) : (s.tick1).up = s.up := rfl

@[simp] theorem setMsix_pending (s : State) (fn : PcieFn) (m : Msix) :
    (s.setMsix fn m).pending = s.pending := by cases fn <;> rfl
@[simp] theorem setMsix_regs (s : State) (fn : PcieFn) (m : Msix) :
    (s.setMsix fn m).regs = s.regs := by cases fn <;> rfl
@[simp] theorem setMsix_clock (s : State) (fn : PcieFn) (m : Msix) :
    (s.setMsix fn m).clock = s.clock := by cases fn <;> rfl
@[simp] theorem setMsix_freeCtr (s : State) (fn : PcieFn) (m : Msix) :
    (s.setMsix fn m).freeCtr = s.freeCtr := by cases fn <;> rfl
@[simp] theorem setMsix_out (s : State) (fn : PcieFn) (m : Msix) : (s.setMsix fn m).out = s.out := by cases fn <;> rfl
@[simp] theorem setMsix_ident (s : State) (fn : PcieFn) (m : Msix) :
    (s.setMsix fn m).ident = s.ident := by cases fn <;> rfl
@[simp] theorem setMsix_plat (s : State) (fn : PcieFn) (m : Msix) :
    (s.setMsix fn m).plat = s.plat := by cases fn <;> rfl
@[simp] theorem setMsix_own (s : State) (fn : PcieFn) (m : Msix) : (s.setMsix fn m).own = s.own := by cases fn <;> rfl
@[simp] theorem setMsix_clu (s : State) (fn : PcieFn) (m : Msix) : (s.setMsix fn m).clu = s.clu := by cases fn <;> rfl
@[simp] theorem setMsix_sch (s : State) (fn : PcieFn) (m : Msix) : (s.setMsix fn m).sch = s.sch := by cases fn <;> rfl
@[simp] theorem setMsix_wave (s : State) (fn : PcieFn) (m : Msix) :
    (s.setMsix fn m).wave = s.wave := by cases fn <;> rfl
@[simp] theorem setMsix_img (s : State) (fn : PcieFn) (m : Msix) : (s.setMsix fn m).img = s.img := by cases fn <;> rfl
@[simp] theorem setMsix_staged (s : State) (fn : PcieFn) (m : Msix) :
    (s.setMsix fn m).staged = s.staged := by cases fn <;> rfl
@[simp] theorem setMsix_load (s : State) (fn : PcieFn) (m : Msix) :
    (s.setMsix fn m).load = s.load := by cases fn <;> rfl
@[simp] theorem setMsix_mem (s : State) (fn : PcieFn) (m : Msix) : (s.setMsix fn m).mem = s.mem := by cases fn <;> rfl
@[simp] theorem setMsix_hbd (s : State) (fn : PcieFn) (m : Msix) : (s.setMsix fn m).hbd = s.hbd := by cases fn <;> rfl
@[simp] theorem setMsix_lnk (s : State) (fn : PcieFn) (m : Msix) : (s.setMsix fn m).lnk = s.lnk := by cases fn <;> rfl
@[simp] theorem setMsix_dsp (s : State) (fn : PcieFn) (m : Msix) : (s.setMsix fn m).dsp = s.dsp := by cases fn <;> rfl
@[simp] theorem setMsix_bnt (s : State) (fn : PcieFn) (m : Msix) : (s.setMsix fn m).bnt = s.bnt := by cases fn <;> rfl
@[simp] theorem setMsix_tim (s : State) (fn : PcieFn) (m : Msix) : (s.setMsix fn m).tim = s.tim := by cases fn <;> rfl
@[simp] theorem setMsix_glv (s : State) (fn : PcieFn) (m : Msix) : (s.setMsix fn m).glv = s.glv := by cases fn <;> rfl
@[simp] theorem setMsix_ast (s : State) (fn : PcieFn) (m : Msix) : (s.setMsix fn m).ast = s.ast := by cases fn <;> rfl
@[simp] theorem setMsix_lks (s : State) (fn : PcieFn) (m : Msix) : (s.setMsix fn m).lks = s.lks := by cases fn <;> rfl
@[simp] theorem setMsix_boot (s : State) (fn : PcieFn) (m : Msix) :
    (s.setMsix fn m).boot = s.boot := by cases fn <;> rfl
@[simp] theorem setMsix_pwr (s : State) (fn : PcieFn) (m : Msix) : (s.setMsix fn m).pwr = s.pwr := by cases fn <;> rfl
@[simp] theorem setMsix_ldg (s : State) (fn : PcieFn) (m : Msix) : (s.setMsix fn m).ldg = s.ldg := by cases fn <;> rfl
@[simp] theorem setMsix_reg (s : State) (fn : PcieFn) (m : Msix) (q : Nat) : (s.setMsix fn m).reg q = s.reg q := by cases fn <;> rfl
@[simp] theorem setMsix_up (s : State) (fn : PcieFn) (m : Msix) : (s.setMsix fn m).up = s.up := by cases fn <;> rfl

@[simp] theorem setLane_pending (s : State) (p : Nat) (l : LanePort) : (s.setLane p l).pending = s.pending := rfl
@[simp] theorem setLane_regs (s : State) (p : Nat) (l : LanePort) : (s.setLane p l).regs = s.regs := rfl
@[simp] theorem setLane_clock (s : State) (p : Nat) (l : LanePort) : (s.setLane p l).clock = s.clock := rfl
@[simp] theorem setLane_freeCtr (s : State) (p : Nat) (l : LanePort) : (s.setLane p l).freeCtr = s.freeCtr := rfl
@[simp] theorem setLane_out (s : State) (p : Nat) (l : LanePort) : (s.setLane p l).out = s.out := rfl
@[simp] theorem setLane_ident (s : State) (p : Nat) (l : LanePort) : (s.setLane p l).ident = s.ident := rfl
@[simp] theorem setLane_plat (s : State) (p : Nat) (l : LanePort) : (s.setLane p l).plat = s.plat := rfl
@[simp] theorem setLane_host (s : State) (p : Nat) (l : LanePort) : (s.setLane p l).host = s.host := rfl
@[simp] theorem setLane_own (s : State) (p : Nat) (l : LanePort) : (s.setLane p l).own = s.own := rfl
@[simp] theorem setLane_clu (s : State) (p : Nat) (l : LanePort) : (s.setLane p l).clu = s.clu := rfl
@[simp] theorem setLane_sch (s : State) (p : Nat) (l : LanePort) : (s.setLane p l).sch = s.sch := rfl
@[simp] theorem setLane_wave (s : State) (p : Nat) (l : LanePort) : (s.setLane p l).wave = s.wave := rfl
@[simp] theorem setLane_img (s : State) (p : Nat) (l : LanePort) : (s.setLane p l).img = s.img := rfl
@[simp] theorem setLane_staged (s : State) (p : Nat) (l : LanePort) : (s.setLane p l).staged = s.staged := rfl
@[simp] theorem setLane_load (s : State) (p : Nat) (l : LanePort) : (s.setLane p l).load = s.load := rfl
@[simp] theorem setLane_mem (s : State) (p : Nat) (l : LanePort) : (s.setLane p l).mem = s.mem := rfl
@[simp] theorem setLane_hbd (s : State) (p : Nat) (l : LanePort) : (s.setLane p l).hbd = s.hbd := rfl
@[simp] theorem setLane_lnk (s : State) (p : Nat) (l : LanePort) :
    (s.setLane p l).lnk = { s.lnk with ports := mset s.lnk.ports {} p l } := rfl
@[simp] theorem setLane_dsp (s : State) (p : Nat) (l : LanePort) : (s.setLane p l).dsp = s.dsp := rfl
@[simp] theorem setLane_bnt (s : State) (p : Nat) (l : LanePort) : (s.setLane p l).bnt = s.bnt := rfl
@[simp] theorem setLane_tim (s : State) (p : Nat) (l : LanePort) : (s.setLane p l).tim = s.tim := rfl
@[simp] theorem setLane_glv (s : State) (p : Nat) (l : LanePort) : (s.setLane p l).glv = s.glv := rfl
@[simp] theorem setLane_ast (s : State) (p : Nat) (l : LanePort) : (s.setLane p l).ast = s.ast := rfl
@[simp] theorem setLane_lks (s : State) (p : Nat) (l : LanePort) : (s.setLane p l).lks = s.lks := rfl
@[simp] theorem setLane_boot (s : State) (p : Nat) (l : LanePort) : (s.setLane p l).boot = s.boot := rfl
@[simp] theorem setLane_pwr (s : State) (p : Nat) (l : LanePort) : (s.setLane p l).pwr = s.pwr := rfl
@[simp] theorem setLane_ldg (s : State) (p : Nat) (l : LanePort) : (s.setLane p l).ldg = s.ldg := rfl
@[simp] theorem setLane_reg (s : State) (p : Nat) (l : LanePort) (q : Nat) : (s.setLane p l).reg q = s.reg q := rfl
@[simp] theorem setLane_up (s : State) (p : Nat) (l : LanePort) : (s.setLane p l).up = s.up := rfl

@[simp] theorem setTimPort_pending (s : State) (p : Nat) (t : TimPort) : (s.setTimPort p t).pending = s.pending := rfl
@[simp] theorem setTimPort_regs (s : State) (p : Nat) (t : TimPort) : (s.setTimPort p t).regs = s.regs := rfl
@[simp] theorem setTimPort_clock (s : State) (p : Nat) (t : TimPort) : (s.setTimPort p t).clock = s.clock := rfl
@[simp] theorem setTimPort_freeCtr (s : State) (p : Nat) (t : TimPort) : (s.setTimPort p t).freeCtr = s.freeCtr := rfl
@[simp] theorem setTimPort_out (s : State) (p : Nat) (t : TimPort) : (s.setTimPort p t).out = s.out := rfl
@[simp] theorem setTimPort_ident (s : State) (p : Nat) (t : TimPort) : (s.setTimPort p t).ident = s.ident := rfl
@[simp] theorem setTimPort_plat (s : State) (p : Nat) (t : TimPort) : (s.setTimPort p t).plat = s.plat := rfl
@[simp] theorem setTimPort_host (s : State) (p : Nat) (t : TimPort) : (s.setTimPort p t).host = s.host := rfl
@[simp] theorem setTimPort_own (s : State) (p : Nat) (t : TimPort) : (s.setTimPort p t).own = s.own := rfl
@[simp] theorem setTimPort_clu (s : State) (p : Nat) (t : TimPort) : (s.setTimPort p t).clu = s.clu := rfl
@[simp] theorem setTimPort_sch (s : State) (p : Nat) (t : TimPort) : (s.setTimPort p t).sch = s.sch := rfl
@[simp] theorem setTimPort_wave (s : State) (p : Nat) (t : TimPort) : (s.setTimPort p t).wave = s.wave := rfl
@[simp] theorem setTimPort_img (s : State) (p : Nat) (t : TimPort) : (s.setTimPort p t).img = s.img := rfl
@[simp] theorem setTimPort_staged (s : State) (p : Nat) (t : TimPort) : (s.setTimPort p t).staged = s.staged := rfl
@[simp] theorem setTimPort_load (s : State) (p : Nat) (t : TimPort) : (s.setTimPort p t).load = s.load := rfl
@[simp] theorem setTimPort_mem (s : State) (p : Nat) (t : TimPort) : (s.setTimPort p t).mem = s.mem := rfl
@[simp] theorem setTimPort_hbd (s : State) (p : Nat) (t : TimPort) : (s.setTimPort p t).hbd = s.hbd := rfl
@[simp] theorem setTimPort_lnk (s : State) (p : Nat) (t : TimPort) : (s.setTimPort p t).lnk = s.lnk := rfl
@[simp] theorem setTimPort_dsp (s : State) (p : Nat) (t : TimPort) : (s.setTimPort p t).dsp = s.dsp := rfl
@[simp] theorem setTimPort_bnt (s : State) (p : Nat) (t : TimPort) : (s.setTimPort p t).bnt = s.bnt := rfl
@[simp] theorem setTimPort_tim (s : State) (p : Nat) (t : TimPort) :
    (s.setTimPort p t).tim = { s.tim with ports := mset s.tim.ports {} p t } := rfl
@[simp] theorem setTimPort_glv (s : State) (p : Nat) (t : TimPort) : (s.setTimPort p t).glv = s.glv := rfl
@[simp] theorem setTimPort_ast (s : State) (p : Nat) (t : TimPort) : (s.setTimPort p t).ast = s.ast := rfl
@[simp] theorem setTimPort_lks (s : State) (p : Nat) (t : TimPort) : (s.setTimPort p t).lks = s.lks := rfl
@[simp] theorem setTimPort_boot (s : State) (p : Nat) (t : TimPort) : (s.setTimPort p t).boot = s.boot := rfl
@[simp] theorem setTimPort_pwr (s : State) (p : Nat) (t : TimPort) : (s.setTimPort p t).pwr = s.pwr := rfl
@[simp] theorem setTimPort_ldg (s : State) (p : Nat) (t : TimPort) : (s.setTimPort p t).ldg = s.ldg := rfl
@[simp] theorem setTimPort_reg (s : State) (p : Nat) (t : TimPort) (q : Nat) : (s.setTimPort p t).reg q = s.reg q := rfl
@[simp] theorem setTimPort_up (s : State) (p : Nat) (t : TimPort) : (s.setTimPort p t).up = s.up := rfl

@[simp] theorem setPort_pending (s : State) (c k : Nat) (p : PortCtx) : (s.setPort c k p).pending = s.pending := rfl
@[simp] theorem setPort_regs (s : State) (c k : Nat) (p : PortCtx) : (s.setPort c k p).regs = s.regs := rfl
@[simp] theorem setPort_clock (s : State) (c k : Nat) (p : PortCtx) : (s.setPort c k p).clock = s.clock := rfl
@[simp] theorem setPort_freeCtr (s : State) (c k : Nat) (p : PortCtx) : (s.setPort c k p).freeCtr = s.freeCtr := rfl
@[simp] theorem setPort_out (s : State) (c k : Nat) (p : PortCtx) : (s.setPort c k p).out = s.out := rfl
@[simp] theorem setPort_ident (s : State) (c k : Nat) (p : PortCtx) : (s.setPort c k p).ident = s.ident := rfl
@[simp] theorem setPort_plat (s : State) (c k : Nat) (p : PortCtx) : (s.setPort c k p).plat = s.plat := rfl
@[simp] theorem setPort_host (s : State) (c k : Nat) (p : PortCtx) : (s.setPort c k p).host = s.host := rfl
@[simp] theorem setPort_own (s : State) (c k : Nat) (p : PortCtx) : (s.setPort c k p).own = s.own := rfl
@[simp] theorem setPort_clu (s : State) (c k : Nat) (p : PortCtx) :
    (s.setPort c k p).clu = { s.clu with ports := mset s.clu.ports {} (8 * c + k) p } := rfl
@[simp] theorem setPort_sch (s : State) (c k : Nat) (p : PortCtx) : (s.setPort c k p).sch = s.sch := rfl
@[simp] theorem setPort_wave (s : State) (c k : Nat) (p : PortCtx) : (s.setPort c k p).wave = s.wave := rfl
@[simp] theorem setPort_img (s : State) (c k : Nat) (p : PortCtx) : (s.setPort c k p).img = s.img := rfl
@[simp] theorem setPort_staged (s : State) (c k : Nat) (p : PortCtx) : (s.setPort c k p).staged = s.staged := rfl
@[simp] theorem setPort_load (s : State) (c k : Nat) (p : PortCtx) : (s.setPort c k p).load = s.load := rfl
@[simp] theorem setPort_mem (s : State) (c k : Nat) (p : PortCtx) : (s.setPort c k p).mem = s.mem := rfl
@[simp] theorem setPort_hbd (s : State) (c k : Nat) (p : PortCtx) : (s.setPort c k p).hbd = s.hbd := rfl
@[simp] theorem setPort_lnk (s : State) (c k : Nat) (p : PortCtx) : (s.setPort c k p).lnk = s.lnk := rfl
@[simp] theorem setPort_dsp (s : State) (c k : Nat) (p : PortCtx) : (s.setPort c k p).dsp = s.dsp := rfl
@[simp] theorem setPort_bnt (s : State) (c k : Nat) (p : PortCtx) : (s.setPort c k p).bnt = s.bnt := rfl
@[simp] theorem setPort_tim (s : State) (c k : Nat) (p : PortCtx) : (s.setPort c k p).tim = s.tim := rfl
@[simp] theorem setPort_glv (s : State) (c k : Nat) (p : PortCtx) : (s.setPort c k p).glv = s.glv := rfl
@[simp] theorem setPort_ast (s : State) (c k : Nat) (p : PortCtx) : (s.setPort c k p).ast = s.ast := rfl
@[simp] theorem setPort_lks (s : State) (c k : Nat) (p : PortCtx) : (s.setPort c k p).lks = s.lks := rfl
@[simp] theorem setPort_boot (s : State) (c k : Nat) (p : PortCtx) : (s.setPort c k p).boot = s.boot := rfl
@[simp] theorem setPort_pwr (s : State) (c k : Nat) (p : PortCtx) : (s.setPort c k p).pwr = s.pwr := rfl
@[simp] theorem setPort_ldg (s : State) (c k : Nat) (p : PortCtx) : (s.setPort c k p).ldg = s.ldg := rfl
@[simp] theorem setPort_reg (s : State) (c k : Nat) (p : PortCtx) (q : Nat) : (s.setPort c k p).reg q = s.reg q := rfl
@[simp] theorem setPort_up (s : State) (c k : Nat) (p : PortCtx) : (s.setPort c k p).up = s.up := rfl

@[simp] theorem setRegion_pending (s : State) (r : Nat) (g : GlvRegion) : (s.setRegion r g).pending = s.pending := rfl
@[simp] theorem setRegion_regs (s : State) (r : Nat) (g : GlvRegion) : (s.setRegion r g).regs = s.regs := rfl
@[simp] theorem setRegion_clock (s : State) (r : Nat) (g : GlvRegion) : (s.setRegion r g).clock = s.clock := rfl
@[simp] theorem setRegion_freeCtr (s : State) (r : Nat) (g : GlvRegion) : (s.setRegion r g).freeCtr = s.freeCtr := rfl
@[simp] theorem setRegion_out (s : State) (r : Nat) (g : GlvRegion) : (s.setRegion r g).out = s.out := rfl
@[simp] theorem setRegion_ident (s : State) (r : Nat) (g : GlvRegion) : (s.setRegion r g).ident = s.ident := rfl
@[simp] theorem setRegion_plat (s : State) (r : Nat) (g : GlvRegion) : (s.setRegion r g).plat = s.plat := rfl
@[simp] theorem setRegion_host (s : State) (r : Nat) (g : GlvRegion) : (s.setRegion r g).host = s.host := rfl
@[simp] theorem setRegion_own (s : State) (r : Nat) (g : GlvRegion) : (s.setRegion r g).own = s.own := rfl
@[simp] theorem setRegion_clu (s : State) (r : Nat) (g : GlvRegion) : (s.setRegion r g).clu = s.clu := rfl
@[simp] theorem setRegion_sch (s : State) (r : Nat) (g : GlvRegion) : (s.setRegion r g).sch = s.sch := rfl
@[simp] theorem setRegion_wave (s : State) (r : Nat) (g : GlvRegion) : (s.setRegion r g).wave = s.wave := rfl
@[simp] theorem setRegion_img (s : State) (r : Nat) (g : GlvRegion) : (s.setRegion r g).img = s.img := rfl
@[simp] theorem setRegion_staged (s : State) (r : Nat) (g : GlvRegion) : (s.setRegion r g).staged = s.staged := rfl
@[simp] theorem setRegion_load (s : State) (r : Nat) (g : GlvRegion) : (s.setRegion r g).load = s.load := rfl
@[simp] theorem setRegion_mem (s : State) (r : Nat) (g : GlvRegion) : (s.setRegion r g).mem = s.mem := rfl
@[simp] theorem setRegion_hbd (s : State) (r : Nat) (g : GlvRegion) : (s.setRegion r g).hbd = s.hbd := rfl
@[simp] theorem setRegion_lnk (s : State) (r : Nat) (g : GlvRegion) : (s.setRegion r g).lnk = s.lnk := rfl
@[simp] theorem setRegion_dsp (s : State) (r : Nat) (g : GlvRegion) : (s.setRegion r g).dsp = s.dsp := rfl
@[simp] theorem setRegion_bnt (s : State) (r : Nat) (g : GlvRegion) : (s.setRegion r g).bnt = s.bnt := rfl
@[simp] theorem setRegion_tim (s : State) (r : Nat) (g : GlvRegion) : (s.setRegion r g).tim = s.tim := rfl
@[simp] theorem setRegion_glv (s : State) (r : Nat) (g : GlvRegion) :
    (s.setRegion r g).glv = { s.glv with regions := mset s.glv.regions {} r g } := rfl
@[simp] theorem setRegion_ast (s : State) (r : Nat) (g : GlvRegion) : (s.setRegion r g).ast = s.ast := rfl
@[simp] theorem setRegion_lks (s : State) (r : Nat) (g : GlvRegion) : (s.setRegion r g).lks = s.lks := rfl
@[simp] theorem setRegion_boot (s : State) (r : Nat) (g : GlvRegion) : (s.setRegion r g).boot = s.boot := rfl
@[simp] theorem setRegion_pwr (s : State) (r : Nat) (g : GlvRegion) : (s.setRegion r g).pwr = s.pwr := rfl
@[simp] theorem setRegion_ldg (s : State) (r : Nat) (g : GlvRegion) : (s.setRegion r g).ldg = s.ldg := rfl
@[simp] theorem setRegion_reg (s : State) (r : Nat) (g : GlvRegion) (q : Nat) : (s.setRegion r g).reg q = s.reg q := rfl
@[simp] theorem setRegion_up (s : State) (r : Nat) (g : GlvRegion) : (s.setRegion r g).up = s.up := rfl

@[simp] theorem setGrant_pending (s : State) (g : Nat) (x : Option Grant) :
    (setGrant g x s).pending = s.pending := rfl
@[simp] theorem setGrant_regs (s : State) (g : Nat) (x : Option Grant) : (setGrant g x s).regs = s.regs := rfl
@[simp] theorem setGrant_clock (s : State) (g : Nat) (x : Option Grant) : (setGrant g x s).clock = s.clock := rfl
@[simp] theorem setGrant_freeCtr (s : State) (g : Nat) (x : Option Grant) :
    (setGrant g x s).freeCtr = s.freeCtr := rfl
@[simp] theorem setGrant_out (s : State) (g : Nat) (x : Option Grant) : (setGrant g x s).out = s.out := rfl
@[simp] theorem setGrant_ident (s : State) (g : Nat) (x : Option Grant) : (setGrant g x s).ident = s.ident := rfl
@[simp] theorem setGrant_plat (s : State) (g : Nat) (x : Option Grant) : (setGrant g x s).plat = s.plat := rfl
@[simp] theorem setGrant_host (s : State) (g : Nat) (x : Option Grant) : (setGrant g x s).host = s.host := rfl
@[simp] theorem setGrant_own (s : State) (g : Nat) (x : Option Grant) : (setGrant g x s).own = s.own := rfl
@[simp] theorem setGrant_clu (s : State) (g : Nat) (x : Option Grant) : (setGrant g x s).clu = s.clu := rfl
@[simp] theorem setGrant_sch (s : State) (g : Nat) (x : Option Grant) : (setGrant g x s).sch = s.sch := rfl
@[simp] theorem setGrant_wave (s : State) (g : Nat) (x : Option Grant) : (setGrant g x s).wave = s.wave := rfl
@[simp] theorem setGrant_img (s : State) (g : Nat) (x : Option Grant) : (setGrant g x s).img = s.img := rfl
@[simp] theorem setGrant_staged (s : State) (g : Nat) (x : Option Grant) : (setGrant g x s).staged = s.staged := rfl
@[simp] theorem setGrant_load (s : State) (g : Nat) (x : Option Grant) : (setGrant g x s).load = s.load := rfl
@[simp] theorem setGrant_mem (s : State) (g : Nat) (x : Option Grant) : (setGrant g x s).mem = s.mem := rfl
@[simp] theorem setGrant_hbd (s : State) (g : Nat) (x : Option Grant) : (setGrant g x s).hbd = s.hbd := rfl
@[simp] theorem setGrant_lnk (s : State) (g : Nat) (x : Option Grant) : (setGrant g x s).lnk = s.lnk := rfl
@[simp] theorem setGrant_dsp (s : State) (g : Nat) (x : Option Grant) : (setGrant g x s).dsp = s.dsp := rfl
@[simp] theorem setGrant_bnt (s : State) (g : Nat) (x : Option Grant) :
    (setGrant g x s).bnt = { s.bnt with grants := mset s.bnt.grants none g x } := rfl
@[simp] theorem setGrant_tim (s : State) (g : Nat) (x : Option Grant) : (setGrant g x s).tim = s.tim := rfl
@[simp] theorem setGrant_glv (s : State) (g : Nat) (x : Option Grant) : (setGrant g x s).glv = s.glv := rfl
@[simp] theorem setGrant_ast (s : State) (g : Nat) (x : Option Grant) : (setGrant g x s).ast = s.ast := rfl
@[simp] theorem setGrant_lks (s : State) (g : Nat) (x : Option Grant) : (setGrant g x s).lks = s.lks := rfl
@[simp] theorem setGrant_boot (s : State) (g : Nat) (x : Option Grant) : (setGrant g x s).boot = s.boot := rfl
@[simp] theorem setGrant_pwr (s : State) (g : Nat) (x : Option Grant) : (setGrant g x s).pwr = s.pwr := rfl
@[simp] theorem setGrant_ldg (s : State) (g : Nat) (x : Option Grant) : (setGrant g x s).ldg = s.ldg := rfl
@[simp] theorem setGrant_reg (s : State) (g : Nat) (x : Option Grant) (q : Nat) : (setGrant g x s).reg q = s.reg q := rfl
@[simp] theorem setGrant_up (s : State) (g : Nat) (x : Option Grant) : (setGrant g x s).up = s.up := rfl

@[simp] theorem setBank_pending (s : State) (k : Nat) (w : Word64) : (setBank k w s).pending = s.pending := rfl
@[simp] theorem setBank_regs (s : State) (k : Nat) (w : Word64) : (setBank k w s).regs = s.regs := rfl
@[simp] theorem setBank_clock (s : State) (k : Nat) (w : Word64) : (setBank k w s).clock = s.clock := rfl
@[simp] theorem setBank_freeCtr (s : State) (k : Nat) (w : Word64) : (setBank k w s).freeCtr = s.freeCtr := rfl
@[simp] theorem setBank_out (s : State) (k : Nat) (w : Word64) : (setBank k w s).out = s.out := rfl
@[simp] theorem setBank_ident (s : State) (k : Nat) (w : Word64) : (setBank k w s).ident = s.ident := rfl
@[simp] theorem setBank_plat (s : State) (k : Nat) (w : Word64) : (setBank k w s).plat = s.plat := rfl
@[simp] theorem setBank_host (s : State) (k : Nat) (w : Word64) : (setBank k w s).host = s.host := rfl
@[simp] theorem setBank_own (s : State) (k : Nat) (w : Word64) : (setBank k w s).own = s.own := rfl
@[simp] theorem setBank_clu (s : State) (k : Nat) (w : Word64) : (setBank k w s).clu = s.clu := rfl
@[simp] theorem setBank_sch (s : State) (k : Nat) (w : Word64) : (setBank k w s).sch = s.sch := rfl
@[simp] theorem setBank_wave (s : State) (k : Nat) (w : Word64) : (setBank k w s).wave = s.wave := rfl
@[simp] theorem setBank_img (s : State) (k : Nat) (w : Word64) : (setBank k w s).img = s.img := rfl
@[simp] theorem setBank_staged (s : State) (k : Nat) (w : Word64) : (setBank k w s).staged = s.staged := rfl
@[simp] theorem setBank_load (s : State) (k : Nat) (w : Word64) : (setBank k w s).load = s.load := rfl
@[simp] theorem setBank_mem (s : State) (k : Nat) (w : Word64) :
    (setBank k w s).mem = { s.mem with banks := mset s.mem.banks 0 k w } := rfl
@[simp] theorem setBank_hbd (s : State) (k : Nat) (w : Word64) : (setBank k w s).hbd = s.hbd := rfl
@[simp] theorem setBank_lnk (s : State) (k : Nat) (w : Word64) : (setBank k w s).lnk = s.lnk := rfl
@[simp] theorem setBank_dsp (s : State) (k : Nat) (w : Word64) : (setBank k w s).dsp = s.dsp := rfl
@[simp] theorem setBank_bnt (s : State) (k : Nat) (w : Word64) : (setBank k w s).bnt = s.bnt := rfl
@[simp] theorem setBank_tim (s : State) (k : Nat) (w : Word64) : (setBank k w s).tim = s.tim := rfl
@[simp] theorem setBank_glv (s : State) (k : Nat) (w : Word64) : (setBank k w s).glv = s.glv := rfl
@[simp] theorem setBank_ast (s : State) (k : Nat) (w : Word64) : (setBank k w s).ast = s.ast := rfl
@[simp] theorem setBank_lks (s : State) (k : Nat) (w : Word64) : (setBank k w s).lks = s.lks := rfl
@[simp] theorem setBank_boot (s : State) (k : Nat) (w : Word64) : (setBank k w s).boot = s.boot := rfl
@[simp] theorem setBank_pwr (s : State) (k : Nat) (w : Word64) : (setBank k w s).pwr = s.pwr := rfl
@[simp] theorem setBank_ldg (s : State) (k : Nat) (w : Word64) : (setBank k w s).ldg = s.ldg := rfl
@[simp] theorem setBank_reg (s : State) (k : Nat) (w : Word64) (q : Nat) : (setBank k w s).reg q = s.reg q := rfl
@[simp] theorem setBank_up (s : State) (k : Nat) (w : Word64) : (setBank k w s).up = s.up := rfl

@[simp] theorem setHbm_pending (s : State) (k : Nat) (w : Word64) : (setHbm k w s).pending = s.pending := rfl
@[simp] theorem setHbm_regs (s : State) (k : Nat) (w : Word64) : (setHbm k w s).regs = s.regs := rfl
@[simp] theorem setHbm_clock (s : State) (k : Nat) (w : Word64) : (setHbm k w s).clock = s.clock := rfl
@[simp] theorem setHbm_freeCtr (s : State) (k : Nat) (w : Word64) : (setHbm k w s).freeCtr = s.freeCtr := rfl
@[simp] theorem setHbm_out (s : State) (k : Nat) (w : Word64) : (setHbm k w s).out = s.out := rfl
@[simp] theorem setHbm_ident (s : State) (k : Nat) (w : Word64) : (setHbm k w s).ident = s.ident := rfl
@[simp] theorem setHbm_plat (s : State) (k : Nat) (w : Word64) : (setHbm k w s).plat = s.plat := rfl
@[simp] theorem setHbm_host (s : State) (k : Nat) (w : Word64) : (setHbm k w s).host = s.host := rfl
@[simp] theorem setHbm_own (s : State) (k : Nat) (w : Word64) : (setHbm k w s).own = s.own := rfl
@[simp] theorem setHbm_clu (s : State) (k : Nat) (w : Word64) : (setHbm k w s).clu = s.clu := rfl
@[simp] theorem setHbm_sch (s : State) (k : Nat) (w : Word64) : (setHbm k w s).sch = s.sch := rfl
@[simp] theorem setHbm_wave (s : State) (k : Nat) (w : Word64) : (setHbm k w s).wave = s.wave := rfl
@[simp] theorem setHbm_img (s : State) (k : Nat) (w : Word64) : (setHbm k w s).img = s.img := rfl
@[simp] theorem setHbm_staged (s : State) (k : Nat) (w : Word64) : (setHbm k w s).staged = s.staged := rfl
@[simp] theorem setHbm_load (s : State) (k : Nat) (w : Word64) : (setHbm k w s).load = s.load := rfl
@[simp] theorem setHbm_mem (s : State) (k : Nat) (w : Word64) :
    (setHbm k w s).mem = { s.mem with hbm := mset s.mem.hbm none k (some w) } := rfl
@[simp] theorem setHbm_hbd (s : State) (k : Nat) (w : Word64) : (setHbm k w s).hbd = s.hbd := rfl
@[simp] theorem setHbm_lnk (s : State) (k : Nat) (w : Word64) : (setHbm k w s).lnk = s.lnk := rfl
@[simp] theorem setHbm_dsp (s : State) (k : Nat) (w : Word64) : (setHbm k w s).dsp = s.dsp := rfl
@[simp] theorem setHbm_bnt (s : State) (k : Nat) (w : Word64) : (setHbm k w s).bnt = s.bnt := rfl
@[simp] theorem setHbm_tim (s : State) (k : Nat) (w : Word64) : (setHbm k w s).tim = s.tim := rfl
@[simp] theorem setHbm_glv (s : State) (k : Nat) (w : Word64) : (setHbm k w s).glv = s.glv := rfl
@[simp] theorem setHbm_ast (s : State) (k : Nat) (w : Word64) : (setHbm k w s).ast = s.ast := rfl
@[simp] theorem setHbm_lks (s : State) (k : Nat) (w : Word64) : (setHbm k w s).lks = s.lks := rfl
@[simp] theorem setHbm_boot (s : State) (k : Nat) (w : Word64) : (setHbm k w s).boot = s.boot := rfl
@[simp] theorem setHbm_pwr (s : State) (k : Nat) (w : Word64) : (setHbm k w s).pwr = s.pwr := rfl
@[simp] theorem setHbm_ldg (s : State) (k : Nat) (w : Word64) : (setHbm k w s).ldg = s.ldg := rfl
@[simp] theorem setHbm_reg (s : State) (k : Nat) (w : Word64) (q : Nat) : (setHbm k w s).reg q = s.reg q := rfl
@[simp] theorem setHbm_up (s : State) (k : Nat) (w : Word64) : (setHbm k w s).up = s.up := rfl

@[simp] theorem setStage_pending (s : State) (x : BootStage) : (setStage x s).pending = s.pending := rfl
@[simp] theorem setStage_regs (s : State) (x : BootStage) : (setStage x s).regs = s.regs := rfl
@[simp] theorem setStage_clock (s : State) (x : BootStage) : (setStage x s).clock = s.clock := rfl
@[simp] theorem setStage_freeCtr (s : State) (x : BootStage) : (setStage x s).freeCtr = s.freeCtr := rfl
@[simp] theorem setStage_out (s : State) (x : BootStage) : (setStage x s).out = s.out := rfl
@[simp] theorem setStage_ident (s : State) (x : BootStage) : (setStage x s).ident = s.ident := rfl
@[simp] theorem setStage_plat (s : State) (x : BootStage) : (setStage x s).plat = s.plat := rfl
@[simp] theorem setStage_host (s : State) (x : BootStage) : (setStage x s).host = s.host := rfl
@[simp] theorem setStage_own (s : State) (x : BootStage) : (setStage x s).own = s.own := rfl
@[simp] theorem setStage_clu (s : State) (x : BootStage) : (setStage x s).clu = s.clu := rfl
@[simp] theorem setStage_sch (s : State) (x : BootStage) : (setStage x s).sch = s.sch := rfl
@[simp] theorem setStage_wave (s : State) (x : BootStage) : (setStage x s).wave = s.wave := rfl
@[simp] theorem setStage_img (s : State) (x : BootStage) : (setStage x s).img = s.img := rfl
@[simp] theorem setStage_staged (s : State) (x : BootStage) : (setStage x s).staged = s.staged := rfl
@[simp] theorem setStage_load (s : State) (x : BootStage) : (setStage x s).load = s.load := rfl
@[simp] theorem setStage_mem (s : State) (x : BootStage) : (setStage x s).mem = s.mem := rfl
@[simp] theorem setStage_hbd (s : State) (x : BootStage) : (setStage x s).hbd = s.hbd := rfl
@[simp] theorem setStage_lnk (s : State) (x : BootStage) : (setStage x s).lnk = s.lnk := rfl
@[simp] theorem setStage_dsp (s : State) (x : BootStage) : (setStage x s).dsp = s.dsp := rfl
@[simp] theorem setStage_bnt (s : State) (x : BootStage) : (setStage x s).bnt = s.bnt := rfl
@[simp] theorem setStage_tim (s : State) (x : BootStage) : (setStage x s).tim = s.tim := rfl
@[simp] theorem setStage_glv (s : State) (x : BootStage) : (setStage x s).glv = s.glv := rfl
@[simp] theorem setStage_ast (s : State) (x : BootStage) : (setStage x s).ast = s.ast := rfl
@[simp] theorem setStage_lks (s : State) (x : BootStage) : (setStage x s).lks = s.lks := rfl
@[simp] theorem setStage_boot (s : State) (x : BootStage) : (setStage x s).boot = { s.boot with stage := x } := rfl
@[simp] theorem setStage_pwr (s : State) (x : BootStage) : (setStage x s).pwr = s.pwr := rfl
@[simp] theorem setStage_ldg (s : State) (x : BootStage) : (setStage x s).ldg = s.ldg := rfl
@[simp] theorem setStage_reg (s : State) (x : BootStage) (q : Nat) : (setStage x s).reg q = s.reg q := rfl

@[simp] theorem setTrial_pending (s : State) (x : Trial) : (setTrial x s).pending = s.pending := rfl
@[simp] theorem setTrial_regs (s : State) (x : Trial) : (setTrial x s).regs = s.regs := rfl
@[simp] theorem setTrial_clock (s : State) (x : Trial) : (setTrial x s).clock = s.clock := rfl
@[simp] theorem setTrial_freeCtr (s : State) (x : Trial) : (setTrial x s).freeCtr = s.freeCtr := rfl
@[simp] theorem setTrial_out (s : State) (x : Trial) : (setTrial x s).out = s.out := rfl
@[simp] theorem setTrial_ident (s : State) (x : Trial) : (setTrial x s).ident = s.ident := rfl
@[simp] theorem setTrial_plat (s : State) (x : Trial) : (setTrial x s).plat = s.plat := rfl
@[simp] theorem setTrial_host (s : State) (x : Trial) : (setTrial x s).host = s.host := rfl
@[simp] theorem setTrial_own (s : State) (x : Trial) : (setTrial x s).own = s.own := rfl
@[simp] theorem setTrial_clu (s : State) (x : Trial) : (setTrial x s).clu = s.clu := rfl
@[simp] theorem setTrial_sch (s : State) (x : Trial) : (setTrial x s).sch = s.sch := rfl
@[simp] theorem setTrial_wave (s : State) (x : Trial) : (setTrial x s).wave = s.wave := rfl
@[simp] theorem setTrial_img (s : State) (x : Trial) : (setTrial x s).img = s.img := rfl
@[simp] theorem setTrial_staged (s : State) (x : Trial) : (setTrial x s).staged = s.staged := rfl
@[simp] theorem setTrial_load (s : State) (x : Trial) : (setTrial x s).load = s.load := rfl
@[simp] theorem setTrial_mem (s : State) (x : Trial) : (setTrial x s).mem = s.mem := rfl
@[simp] theorem setTrial_hbd (s : State) (x : Trial) : (setTrial x s).hbd = s.hbd := rfl
@[simp] theorem setTrial_lnk (s : State) (x : Trial) : (setTrial x s).lnk = s.lnk := rfl
@[simp] theorem setTrial_dsp (s : State) (x : Trial) : (setTrial x s).dsp = s.dsp := rfl
@[simp] theorem setTrial_bnt (s : State) (x : Trial) : (setTrial x s).bnt = s.bnt := rfl
@[simp] theorem setTrial_tim (s : State) (x : Trial) : (setTrial x s).tim = s.tim := rfl
@[simp] theorem setTrial_glv (s : State) (x : Trial) : (setTrial x s).glv = s.glv := rfl
@[simp] theorem setTrial_ast (s : State) (x : Trial) : (setTrial x s).ast = s.ast := rfl
@[simp] theorem setTrial_lks (s : State) (x : Trial) : (setTrial x s).lks = s.lks := rfl
@[simp] theorem setTrial_boot (s : State) (x : Trial) :
    (setTrial x s).boot = { s.boot with mram := { s.boot.mram with trial := x } } := rfl
@[simp] theorem setTrial_pwr (s : State) (x : Trial) : (setTrial x s).pwr = s.pwr := rfl
@[simp] theorem setTrial_ldg (s : State) (x : Trial) : (setTrial x s).ldg = s.ldg := rfl
@[simp] theorem setTrial_reg (s : State) (x : Trial) (q : Nat) : (setTrial x s).reg q = s.reg q := rfl

@[simp] theorem openWindow_pending (s : State) : (openWindow s).pending = s.pending := rfl
@[simp] theorem openWindow_regs (s : State) : (openWindow s).regs = s.regs := rfl
@[simp] theorem openWindow_clock (s : State) : (openWindow s).clock = s.clock := rfl
@[simp] theorem openWindow_freeCtr (s : State) : (openWindow s).freeCtr = s.freeCtr := rfl
@[simp] theorem openWindow_out (s : State) : (openWindow s).out = s.out := rfl
@[simp] theorem openWindow_ident (s : State) : (openWindow s).ident = s.ident := rfl
@[simp] theorem openWindow_plat (s : State) : (openWindow s).plat = s.plat := rfl
@[simp] theorem openWindow_host (s : State) : (openWindow s).host = s.host := rfl
@[simp] theorem openWindow_own (s : State) : (openWindow s).own = { s.own with st := .claim } := rfl
@[simp] theorem openWindow_clu (s : State) : (openWindow s).clu = s.clu := rfl
@[simp] theorem openWindow_sch (s : State) : (openWindow s).sch = s.sch := rfl
@[simp] theorem openWindow_wave (s : State) : (openWindow s).wave = s.wave := rfl
@[simp] theorem openWindow_img (s : State) : (openWindow s).img = s.img := rfl
@[simp] theorem openWindow_staged (s : State) : (openWindow s).staged = s.staged := rfl
@[simp] theorem openWindow_load (s : State) : (openWindow s).load = s.load := rfl
@[simp] theorem openWindow_mem (s : State) : (openWindow s).mem = s.mem := rfl
@[simp] theorem openWindow_hbd (s : State) : (openWindow s).hbd = s.hbd := rfl
@[simp] theorem openWindow_lnk (s : State) : (openWindow s).lnk = s.lnk := rfl
@[simp] theorem openWindow_dsp (s : State) : (openWindow s).dsp = s.dsp := rfl
@[simp] theorem openWindow_bnt (s : State) : (openWindow s).bnt = s.bnt := rfl
@[simp] theorem openWindow_tim (s : State) : (openWindow s).tim = s.tim := rfl
@[simp] theorem openWindow_glv (s : State) : (openWindow s).glv = s.glv := rfl
@[simp] theorem openWindow_ast (s : State) : (openWindow s).ast = s.ast := rfl
@[simp] theorem openWindow_lks (s : State) : (openWindow s).lks = s.lks := rfl
@[simp] theorem openWindow_boot (s : State) : (openWindow s).boot = s.boot := rfl
@[simp] theorem openWindow_pwr (s : State) : (openWindow s).pwr = s.pwr := rfl
@[simp] theorem openWindow_ldg (s : State) : (openWindow s).ldg = s.ldg := rfl
@[simp] theorem openWindow_reg (s : State) (q : Nat) : (openWindow s).reg q = s.reg q := rfl
@[simp] theorem openWindow_up (s : State) : (openWindow s).up = s.up := rfl

@[simp] theorem clearClaims_pending (s : State) : (clearClaims s).pending = s.pending := rfl
@[simp] theorem clearClaims_regs (s : State) : (clearClaims s).regs = s.regs := rfl
@[simp] theorem clearClaims_clock (s : State) : (clearClaims s).clock = s.clock := rfl
@[simp] theorem clearClaims_freeCtr (s : State) : (clearClaims s).freeCtr = s.freeCtr := rfl
@[simp] theorem clearClaims_out (s : State) : (clearClaims s).out = s.out := rfl
@[simp] theorem clearClaims_ident (s : State) : (clearClaims s).ident = s.ident := rfl
@[simp] theorem clearClaims_plat (s : State) : (clearClaims s).plat = s.plat := rfl
@[simp] theorem clearClaims_host (s : State) : (clearClaims s).host = s.host := rfl
@[simp] theorem clearClaims_own (s : State) :
    (clearClaims s).own = { s.own with claimHost := false, claimBmc := false, claimCond := false } := rfl
@[simp] theorem clearClaims_clu (s : State) : (clearClaims s).clu = s.clu := rfl
@[simp] theorem clearClaims_sch (s : State) : (clearClaims s).sch = s.sch := rfl
@[simp] theorem clearClaims_wave (s : State) : (clearClaims s).wave = s.wave := rfl
@[simp] theorem clearClaims_img (s : State) : (clearClaims s).img = s.img := rfl
@[simp] theorem clearClaims_staged (s : State) : (clearClaims s).staged = s.staged := rfl
@[simp] theorem clearClaims_load (s : State) : (clearClaims s).load = s.load := rfl
@[simp] theorem clearClaims_mem (s : State) : (clearClaims s).mem = s.mem := rfl
@[simp] theorem clearClaims_hbd (s : State) : (clearClaims s).hbd = s.hbd := rfl
@[simp] theorem clearClaims_lnk (s : State) : (clearClaims s).lnk = s.lnk := rfl
@[simp] theorem clearClaims_dsp (s : State) : (clearClaims s).dsp = s.dsp := rfl
@[simp] theorem clearClaims_bnt (s : State) : (clearClaims s).bnt = s.bnt := rfl
@[simp] theorem clearClaims_tim (s : State) : (clearClaims s).tim = s.tim := rfl
@[simp] theorem clearClaims_glv (s : State) : (clearClaims s).glv = s.glv := rfl
@[simp] theorem clearClaims_ast (s : State) : (clearClaims s).ast = s.ast := rfl
@[simp] theorem clearClaims_lks (s : State) : (clearClaims s).lks = s.lks := rfl
@[simp] theorem clearClaims_boot (s : State) : (clearClaims s).boot = s.boot := rfl
@[simp] theorem clearClaims_pwr (s : State) : (clearClaims s).pwr = s.pwr := rfl
@[simp] theorem clearClaims_ldg (s : State) : (clearClaims s).ldg = s.ldg := rfl
@[simp] theorem clearClaims_reg (s : State) (q : Nat) : (clearClaims s).reg q = s.reg q := rfl
@[simp] theorem clearClaims_up (s : State) : (clearClaims s).up = s.up := rfl

/-- A port reads what was stored for it. -/
@[simp] theorem lane_setLane_same (s : State) (p : Nat) (l : LanePort) : (s.setLane p l).lane p = l :=
  mget_mset_same ..

theorem lane_setLane_other (s : State) {p q : Nat} (l : LanePort) (h : q ≠ p) : (s.setLane p l).lane q = s.lane q :=
  mget_mset_other _ _ _ l h

@[simp] theorem timPort_setTimPort_same (s : State) (p : Nat) (t : TimPort) : (s.setTimPort p t).timPort p = t :=
  mget_mset_same ..

theorem timPort_setTimPort_other (s : State) {p q : Nat} (t : TimPort) (h : q ≠ p) :
    (s.setTimPort p t).timPort q = s.timPort q :=
  mget_mset_other _ _ _ t h

@[simp] theorem port_setPort_same (s : State) (c k : Nat) (p : PortCtx) : (s.setPort c k p).port c k = p :=
  mget_mset_same ..

@[simp] theorem region_setRegion_same (s : State) (r : Nat) (g : GlvRegion) : (s.setRegion r g).region r = g :=
  mget_mset_same ..

/-- The field written reads the value written, and the other bits of its register what they read before. -/
theorem reg_setFld (s : State) (o lo w v : Nat) : (s.setFld o lo w v).reg o = withBits (s.reg o) lo w v :=
  reg_setReg_same ..

theorem reg_setFld_other (s : State) {o q : Nat} (lo w v : Nat) (h : q ≠ o) : (s.setFld o lo w v).reg q = s.reg q :=
  reg_setReg_other s _ h

end Sys2Proof.Laws
end

