-- ==== Sys2Proof/Laws/Access.lean ====
section
/-!
SUPPORT. Laws/Access.lean: what a command in service answers, and what one write of BAR0 does: where it is accepted, where
its resource is absent, and where its path does not own.
-/
namespace Sys2Proof.Laws
set_option Elab.async false
open Sys2Proof.Machine

/-! ### In service and out of it -/

/-- In service the command's effect takes place. -/
theorem run_up {s : State} (f : State → State) (h : s.up = true) : run f s = .next (f s) := by
  unfold run; rw [if_pos h]; rfl

/-- Out of service nothing happens. -/
theorem run_down {s : State} (f : State → State) (h : s.up = false) : run f s = .next s := by
  unfold run; rw [if_neg (by simp [h])]; rfl

/-- With the supplies up the TAP acts. -/
theorem tap_on {s : State} (f : State → State) (h : s.boot.stage ≠ .off) : tap f s = .next (f s) := by
  unfold tap; rw [if_neg h]; rfl

/-- An SMBus transaction with a right PEC acts. -/
theorem smbRun_ok {s : State} (f : State → State) (h : smbUp s = true) : smbRun true f s = .next (f s) := by
  unfold smbRun; rw [if_neg (by simp [h])]; rfl

/-! ### Fields of a word -/

/-- Bit `i` of a word in which a field was replaced. -/
theorem withBits_getLsbD (x : Word32) {lo w v i : Nat} (hi : i < 32) :
    (withBits x lo w v).getLsbD i = if lo ≤ i ∧ i < lo + w then v.testBit (i - lo) else x.getLsbD i := by
  unfold withBits
  simp only [BitVec.getLsbD_or, BitVec.getLsbD_and, BitVec.getLsbD_not, BitVec.getLsbD_ofNat, Nat.testBit_shiftLeft, hi,
    decide_true, Bool.true_and, Nat.testBit_two_pow_sub_one, Nat.testBit_mod_two_pow]
  by_cases h1 : lo ≤ i
  · by_cases h2 : i < lo + w
    · have : i - lo < w := by omega
      simp [h1, h2, this]
    · have : ¬ i - lo < w := by omega
      simp [h1, h2, this]
  · simp [h1]

/-- Bit `i` of a field. -/
theorem bitsOf_testBit (x : Word32) (lo w i : Nat) : (bitsOf x lo w).testBit i = (decide (i < w) && x.getLsbD (lo + i)) := by
  unfold bitsOf
  simp [Nat.testBit_mod_two_pow, Nat.testBit_shiftRight, BitVec.testBit_toNat]

/-- The field that was replaced holds the low bits of what was written. -/
theorem bitsOf_withBits_same (x : Word32) {lo w : Nat} (v : Nat) (h : lo + w ≤ 32) :
    bitsOf (withBits x lo w v) lo w = v % 2 ^ w := by
  refine Nat.eq_of_testBit_eq fun i => ?_
  rw [bitsOf_testBit, Nat.testBit_mod_two_pow]
  by_cases hw : i < w
  · rw [withBits_getLsbD x (by omega), if_pos (by omega)]; simp [hw]
  · simp [hw]

/-- A field beside the one that was replaced keeps its value. -/
theorem bitsOf_withBits_other (x : Word32) {lo w l k : Nat} (v : Nat) (h : l + k ≤ 32) (hd : l + k ≤ lo ∨ lo + w ≤ l) :
    bitsOf (withBits x lo w v) l k = bitsOf x l k := by
  refine Nat.eq_of_testBit_eq fun i => ?_
  rw [bitsOf_testBit, bitsOf_testBit]
  by_cases hw : i < k
  · rw [withBits_getLsbD x (by omega), if_neg (by omega)]
  · simp [hw]

/-- A merge of two words that agree where it takes the second is the first. -/
theorem merge_same {x y m : Word32} (h : (x ^^^ y) &&& m = 0) : (x &&& ~~~m) ||| (y &&& m) = x := by
  refine BitVec.eq_of_getLsbD_eq fun i hi => ?_
  have hb : ((x ^^^ y) &&& m).getLsbD i = false := by rw [h]; simp
  simp only [BitVec.getLsbD_and, BitVec.getLsbD_xor] at hb
  simp only [BitVec.getLsbD_or, BitVec.getLsbD_and, BitVec.getLsbD_not, hi, decide_true, Bool.true_and]
  revert hb
  cases x.getLsbD i <;> cases y.getLsbD i <;> cases m.getLsbD i <;> simp

/-! ### One write of BAR0 -/

/-- Only the mark of the sweep may change. -/
theorem markDirty_reg (off : Nat) (s : State) (q : Nat) : (markDirty off s).reg q = s.reg q := by
  unfold markDirty; split <;> rfl

/-- A write that changes no KEEP field passes the check. -/
theorem keepCheck_same {path : Path} {off : Nat} {val : Word32} {s : State} {r : RegRow} (hr : rowAt off = some r)
    (h : (val ^^^ s.reg off) &&& r.keep = 0) : keepCheck path off val s = s := by
  unfold keepCheck; rw [hr]; exact if_pos h

/-- A write that a lock does not stop goes on with its value. -/
theorem lockCheck_same {path : Path} {off : Nat} {val : Word32} {s : State} {r : RegRow} (hr : rowAt off = some r)
    (h : lockedAt s off = false ∨ (val ^^^ s.reg off) &&& r.rwl = 0) : lockCheck path off val s = (val, s) := by
  unfold lockCheck; rw [hr]; dsimp only
  split
  · rename_i hl
    have h := h.resolve_left (by simp [hl])
    rw [if_pos h]
    rw [merge_same h]
  · rfl

/-- An accepted write has its effect. -/
theorem regAccess_accepted {path : Path} {off : Nat} {val : Word32} {s : State} (eff : Word32 → State → State)
    (h : accepts path off val s) : regAccess path off val eff s = eff val (markDirty off s) := by
  obtain ⟨r, hr, ha, ho, hk, hl⟩ := h
  unfold regAccess
  rw [if_neg (by simp [ha]), if_pos ho, keepCheck_same hr hk]
  dsimp only
  rw [lockCheck_same hr hl]
  have h0 : ownReport off val s = 0 := by
    unfold ownReport; rw [hr]; exact if_neg (by simp [hk])
  dsimp only
  rw [h0, show ~~~(0 : Word32) = BitVec.allOnes 32 from rfl, BitVec.and_allOnes]

/-- A write of a resource that the grade lacks is dropped in silence (R2). -/
theorem regAccess_absent {path : Path} {off : Nat} {val : Word32} {s : State} (eff : Word32 → State → State)
    (h : absentAt s off = true) : regAccess path off val eff s = s := by
  unfold regAccess; rw [if_pos h]

/-- A write by a path that may not make it is dropped and reported (R375). -/
theorem regAccess_observer {path : Path} {off : Nat} {val : Word32} {s : State} (eff : Word32 → State → State)
    (ha : absentAt s off = false) (h : (s.ownsPath path || nonOwnerOk path off) = false) :
    regAccess path off val eff s = observerWrite path off s := by
  unfold regAccess; rw [if_neg (by simp [ha]), if_neg (by simp [h])]

/-- A register with plain RW bits takes them, and keeps its others. -/
theorem storeReg_reg {off : Nat} {val : Word32} {s : State} {r : RegRow} (hr : rowAt off = some r) :
    (storeReg off val s).reg off = ((s.reg off &&& ~~~(r.rw ||| r.rwl) &&& ~~~(val &&& r.w1c)) |||
      (val &&& (r.rw ||| r.rwl))) ||| (val &&& r.w1s) := by
  unfold storeReg; rw [hr]; exact reg_setReg_same ..

theorem storeReg_other {off q : Nat} {val : Word32} {s : State} (h : q ≠ off) : (storeReg off val s).reg q = s.reg q := by
  unfold storeReg
  split
  · rfl
  · exact reg_setReg_other s _ h

/-! ### Events -/

/-- An event that is pending, or that the grade lacks, is not raised again. -/
theorem raise_again {e : Nat} {s : State} (h : eventAbsent s e = true ∨ s.pendBit e = true) : raise e s = s := by
  unfold raise; rw [if_pos (by simpa using h)]

end Sys2Proof.Laws
end

