-- ==== Sys2Proof/Laws/Events.lean ====
section
/-!
SUPPORT. Laws/Events.lean: what raising an event and setting a cause do to the registers.
-/
namespace Sys2Proof.Laws
set_option Elab.async false
open Sys2Proof.Machine

/-! ### Sending -/

@[simp] theorem msixSend_reg (fn : PcieFn) (v : Nat) (s : State) (o : Nat) : (msixSend fn v s).reg o = s.reg o := by
  unfold msixSend
  dsimp only
  split
  · rfl
  · exact setMsix_reg ..

@[simp] theorem deliver_reg (e : Nat) (s : State) (o : Nat) : (deliver e s).reg o = s.reg o := by
  unfold deliver
  dsimp only
  split
  · rw [msixSend_reg, msixSend_reg]
  · rw [msixSend_reg]

/-! ### Bits of registers -/

/-- A bit of a register, as its field of one bit. -/
theorem bit_eq (s : State) (o i : Nat) : s.bit o i = (s.reg o).getLsbD i := by
  unfold State.bit State.fld
  have h : (bitsOf (s.reg o) i 1).testBit 0 = (s.reg o).getLsbD i := by rw [bitsOf_testBit]; simp
  have hlt : bitsOf (s.reg o) i 1 < 2 := Nat.mod_lt _ (by decide)
  rw [← h]
  generalize bitsOf (s.reg o) i 1 = n at hlt
  have : n = 0 ∨ n = 1 := by omega
  rcases this with rfl | rfl <;> rfl

theorem bit_setBit_same (s : State) {o i : Nat} (b : Bool) (h : i < 32) : (s.setBit o i b).bit o i = b := by
  rw [bit_eq]
  unfold State.setBit
  rw [reg_setFld, withBits_getLsbD _ h, if_pos (by omega)]
  cases b <;> simp [b2n]

theorem bit_setBit_other (s : State) {o i p j : Nat} (b : Bool) (h : p ≠ o ∨ (j ≠ i ∧ j < 32)) :
    (s.setBit o i b).bit p j = s.bit p j := by
  rw [bit_eq, bit_eq]
  unfold State.setBit
  by_cases hp : p = o
  · subst hp
    obtain ⟨hj, h32⟩ := h.resolve_left (fun h => h rfl)
    rw [reg_setFld, withBits_getLsbD _ h32, if_neg (by omega)]
  · rw [reg_setFld_other _ _ _ _ hp]

theorem reg_setBit_other (s : State) {o q : Nat} (i : Nat) (b : Bool) (h : q ≠ o) : (s.setBit o i b).reg q = s.reg q :=
  reg_setFld_other s _ _ _ h

/-! ### Raising an event -/

/-- An event that is raised is pending (R33). -/
theorem raise_pendBit {e : Nat} {s : State} (h : eventAbsent s e = false) : (raise e s).pendBit e = true := by
  unfold raise
  split
  · rename_i hp
    simpa [h] using hp
  · dsimp only
    have hb : (s.setBit (pendReg e) (e % 32) true).pendBit e = true :=
      bit_setBit_same s true (Nat.mod_lt _ (by decide))
    split
    · split
      · exact hb
      · unfold State.pendBit State.bit State.fld
        rw [deliver_reg]
        exact hb
    · split
      · exact hb
      · unfold State.pendBit State.bit State.fld
        rw [deliver_reg]
        exact hb

/-- Raising an event changes no register but that of its pending bit. -/
theorem raise_reg {e o : Nat} (s : State) (h : o ≠ pendReg e) : (raise e s).reg o = s.reg o := by
  have hs : (s.setBit (pendReg e) (e % 32) true).reg o = s.reg o := reg_setBit_other s _ _ h
  unfold raise
  split
  · rfl
  · dsimp only
    split
    · split
      · exact hs
      · rw [deliver_reg]; exact hs
    · split
      · exact hs
      · rw [deliver_reg]; exact hs

/-- Raising an event clears no bit of a register. -/
theorem raise_keeps {e o i : Nat} {s : State} (hi : i < 32) (h : (s.reg o).getLsbD i = true) :
    ((raise e s).reg o).getLsbD i = true := by
  have hs : ((s.setBit (pendReg e) (e % 32) true).reg o).getLsbD i = true := by
    rw [← bit_eq] at h ⊢
    by_cases hp : o = pendReg e ∧ i = e % 32
    · rw [hp.1, hp.2]; exact bit_setBit_same s true (Nat.mod_lt _ (by decide))
    · rw [bit_setBit_other s true (by by_cases ho : o = pendReg e; exact .inr ⟨fun hx => hp ⟨ho, hx⟩, hi⟩; exact .inl ho)]
      exact h
  unfold raise
  split
  · exact h
  · dsimp only
    split
    · split
      · exact hs
      · rw [deliver_reg]; exact hs
    · split
      · exact hs
      · rw [deliver_reg]; exact hs

/-! ### Causes -/

theorem foldl_setReg_other (l : List (Nat × Word32)) (s : State) {o : Nat} (h : o ∉ l.map (fun p => p.1)) :
    (forEach l (fun p s => s.setReg p.1 p.2) s).reg o = s.reg o := by
  unfold forEach
  induction l generalizing s with
  | nil => rfl
  | cons p t ih =>
    simp only [List.map_cons, List.mem_cons, not_or] at h
    rw [List.foldl_cons, ih _ h.2, reg_setReg_other _ _ h.1]

/-- The cause is set. -/
theorem causeSet_bit {o b : Nat} (capt : List (Nat × Word32)) (s : State) (h : b < 32) :
    (causeSet o b capt s).bit o b = true := bit_setBit_same _ true h

/-- Setting a cause changes no register but the cause register and the capture registers. -/
theorem causeSet_reg {o b q : Nat} {capt : List (Nat × Word32)} (s : State) (h : q ≠ o) (hc : q ∉ capt.map (fun p => p.1)) :
    (causeSet o b capt s).reg q = s.reg q := by
  unfold causeSet
  dsimp only
  rw [reg_setBit_other _ _ _ h]
  split
  · exact foldl_setReg_other _ s hc
  · rfl

/-- Setting a cause clears no bit of the cause register. -/
theorem causeSet_keeps {o b i : Nat} {capt : List (Nat × Word32)} {s : State} (hi : i < 32)
    (hc : o ∉ capt.map (fun p => p.1)) (h : (s.reg o).getLsbD i = true) :
    ((causeSet o b capt s).reg o).getLsbD i = true := by
  unfold causeSet
  dsimp only
  have hs : ((if s.reg o = 0 then forEach capt (fun p s => s.setReg p.1 p.2) s else s).reg o).getLsbD i = true := by
    split
    · rw [foldl_setReg_other _ s hc]; exact h
    · exact h
  rw [← bit_eq] at hs ⊢
  by_cases hb : i = b
  · subst hb; exact bit_setBit_same _ true hi
  · rw [bit_setBit_other _ true (.inr ⟨hb, hi⟩)]; exact hs

/-- A GBL_ERR_STATUS cause is set and its event is pending (R392). -/
theorem gblErr_bit {kind ev off pc : Nat} {lanes : Bool} {s : State} (hk : kind < 32) (he : ev < 0x180) :
    (gblErr kind ev off pc lanes s).bit Reg.GBL_ERR_STATUS kind = true ∧
      (gblErr kind ev off pc lanes s).pendBit ev = true := by
  unfold gblErr
  refine ⟨?_, raise_pendBit ?_⟩
  · rw [bit_eq]
    refine raise_keeps hk ?_
    rw [← bit_eq]
    exact causeSet_bit _ _ hk
  · unfold eventAbsent
    have h1 : ¬ 0x5C0 ≤ ev := by omega
    have h2 : ¬ 0x180 ≤ ev := by omega
    have h3 : ¬ 0x280 ≤ ev := by omega
    simp [h1, h2, h3]

/-- A GBL_ERR_STATUS cause changes no register but the status, its captures and the pending bits of its event. -/
theorem gblErr_reg {kind ev off pc q : Nat} {lanes : Bool} (s : State) (h : q ≠ Reg.GBL_ERR_STATUS)
    (ha : q ≠ Reg.GBL_ERR_ADDR) (hi : q ≠ Reg.GBL_ERR_INFO) (hp : q ≠ pendReg ev) :
    (gblErr kind ev off pc lanes s).reg q = s.reg q := by
  unfold gblErr
  rw [raise_reg _ hp, causeSet_reg s h (by simp [ha, hi])]

end Sys2Proof.Laws
end

