-- ==== Sys2Proof/Laws/Frame.lean ====
section
/-!
SUPPORT. Laws/Frame.lean: frames of steps and of what they are made of. `Chg m s t` says that no part outside the mask `m`
changes and that the invariant `Invariant` is kept; masks join by `|||`, so that the frame of a meaning follows from the frames
of what it calls.
-/
namespace Sys2Proof.Laws
set_option Elab.async false
open Sys2Proof.Machine

/-- The parts in the order of their bits. -/
def partBit (p : Part) : Nat :=
  match p with
  | .pending => 0
  | .regs => 1
  | .clock => 2
  | .freeCtr => 3
  | .out => 4
  | .ident => 5
  | .plat => 6
  | .host => 7
  | .own => 8
  | .clu => 9
  | .sch => 10
  | .wave => 11
  | .img => 12
  | .staged => 13
  | .load => 14
  | .mem => 15
  | .hbd => 16
  | .lnk => 17
  | .dsp => 18
  | .bnt => 19
  | .tim => 20
  | .glv => 21
  | .ast => 22
  | .lks => 23
  | .boot => 24
  | .pwr => 25
  | .ldg => 26

/-- From `s` to `t` no part whose bit of `m` is 0 changes, and the invariant is kept. -/
structure Chg (m : Nat) (s t : State) : Prop where
  same : ∀ p, m.testBit (partBit p) = false → p.same s t
  inv : Invariant s → Invariant t

theorem Chg.refl (m : Nat) (s : State) : Chg m s s := ⟨fun p _ => by cases p <;> rfl, id⟩

theorem Chg.after {m m' : Nat} {s r t : State} (h : Chg m' r t) (hr : Chg m s r) (hm : m' ||| m = m := by decide) :
    Chg m s t := by
  refine ⟨fun p hp => ?_, fun i => h.inv (hr.inv i)⟩
  have hp' : m'.testBit (partBit p) = false := by
    have := congrArg (fun x => x.testBit (partBit p)) hm
    simp only [Nat.testBit_or, hp, Bool.or_false] at this
    exact this
  have h1 := h.same p hp'
  have h2 := hr.same p hp
  cases p <;> exact Eq.trans h1 h2

theorem Chg.ite {m : Nat} {s a b : State} {c : Prop} [Decidable c] (ha : Chg m s a) (hb : Chg m s b) :
    Chg m s (if c then a else b) := by
  split
  · exact ha
  · exact hb

theorem Chg.ite2 {α : Type} {m : Nat} {s : State} {a b : α × State} {c : Prop} [Decidable c] (ha : Chg m s a.2)
    (hb : Chg m s b.2) : Chg m s (if c then a else b).2 := by
  split
  · exact ha
  · exact hb

theorem Chg.ite1 {α : Type} {m : Nat} {s : State} {a b : State × α} {c : Prop} [Decidable c] (ha : Chg m s a.1)
    (hb : Chg m s b.1) : Chg m s (if c then a else b).1 := by
  split
  · exact ha
  · exact hb

theorem Chg.mk2 {α : Type} {m : Nat} {s b : State} {a : α} (h : Chg m s b) : Chg m s (a, b).2 := h

theorem Chg.mk1 {α : Type} {m : Nat} {s b : State} {a : α} (h : Chg m s b) : Chg m s (b, a).1 := h

/-- A record update of `r`: each field is `r`'s, or its part is in the mask. -/
theorem Chg.upd {m : Nat} {s r : State} (hr : Chg m s r)
    {x1 : SMap Word32} {x2 : Nat} {x3 : Nat} {x4 : List Output} {x5 : IdentSt} {x6 : PlatSt} {x7 : HostSt} {x8 : OwnSt} {x9 : CluSt} {x10 : SchSt} {x11 : WaveSt} {x12 : ImageSt} {x13 : StagedSt} {x14 : LoadSt} {x15 : MemSt} {x16 : HbdSt} {x17 : LnkSt} {x18 : DspSt} {x19 : BntSt} {x20 : TimSt} {x21 : GlvSt} {x22 : AstSt} {x23 : LksSt} {x24 : BootSt} {x25 : PwrSt} {x26 : LdgSt}
    (h1 : m.testBit 1 = true ∨ x1 = r.regs := by first | exact .inl (by decide) | exact .inr rfl)
    (h2 : m.testBit 2 = true ∨ x2 = r.clock := by first | exact .inl (by decide) | exact .inr rfl)
    (h3 : m.testBit 3 = true ∨ x3 = r.freeCtr := by first | exact .inl (by decide) | exact .inr rfl)
    (h4 : m.testBit 4 = true ∨ x4 = r.out := by first | exact .inl (by decide) | exact .inr rfl)
    (h5 : m.testBit 5 = true ∨ x5 = r.ident := by first | exact .inl (by decide) | exact .inr rfl)
    (h6 : m.testBit 6 = true ∨ x6 = r.plat := by first | exact .inl (by decide) | exact .inr rfl)
    (h7 : m.testBit 7 = true ∨ x7 = r.host := by first | exact .inl (by decide) | exact .inr rfl)
    (h8 : m.testBit 8 = true ∨ x8 = r.own := by first | exact .inl (by decide) | exact .inr rfl)
    (h9 : m.testBit 9 = true ∨ x9 = r.clu := by first | exact .inl (by decide) | exact .inr rfl)
    (h10 : m.testBit 10 = true ∨ x10 = r.sch := by first | exact .inl (by decide) | exact .inr rfl)
    (h11 : m.testBit 11 = true ∨ x11 = r.wave := by first | exact .inl (by decide) | exact .inr rfl)
    (h12 : m.testBit 12 = true ∨ x12 = r.img := by first | exact .inl (by decide) | exact .inr rfl)
    (h13 : m.testBit 13 = true ∨ x13 = r.staged := by first | exact .inl (by decide) | exact .inr rfl)
    (h14 : m.testBit 14 = true ∨ x14 = r.load := by first | exact .inl (by decide) | exact .inr rfl)
    (h15 : m.testBit 15 = true ∨ x15 = r.mem := by first | exact .inl (by decide) | exact .inr rfl)
    (h16 : m.testBit 16 = true ∨ x16 = r.hbd := by first | exact .inl (by decide) | exact .inr rfl)
    (h17 : m.testBit 17 = true ∨ x17 = r.lnk := by first | exact .inl (by decide) | exact .inr rfl)
    (h18 : m.testBit 18 = true ∨ x18 = r.dsp := by first | exact .inl (by decide) | exact .inr rfl)
    (h19 : m.testBit 19 = true ∨ x19 = r.bnt := by first | exact .inl (by decide) | exact .inr rfl)
    (h20 : m.testBit 20 = true ∨ x20 = r.tim := by first | exact .inl (by decide) | exact .inr rfl)
    (h21 : m.testBit 21 = true ∨ x21 = r.glv := by first | exact .inl (by decide) | exact .inr rfl)
    (h22 : m.testBit 22 = true ∨ x22 = r.ast := by first | exact .inl (by decide) | exact .inr rfl)
    (h23 : m.testBit 23 = true ∨ x23 = r.lks := by first | exact .inl (by decide) | exact .inr rfl)
    (h24 : m.testBit 24 = true ∨ x24 = r.boot := by first | exact .inl (by decide) | exact .inr rfl)
    (h25 : m.testBit 25 = true ∨ x25 = r.pwr := by first | exact .inl (by decide) | exact .inr rfl)
    (h26 : m.testBit 26 = true ∨ x26 = r.ldg := by first | exact .inl (by decide) | exact .inr rfl)
    (i1 : mwf r.regs resetVal = true → mwf x1 resetVal = true := by exact id)
    (i2 : mwf r.mem.banks (fun _ => 0) = true → mwf x15.banks (fun _ => 0) = true := by
      first | with_reducible exact id | exact fun _ => rfl)
    (i3 : mwf r.mem.hbm (fun _ => none) = true → mwf x15.hbm (fun _ => none) = true := by
      first | with_reducible exact id | exact fun _ => rfl)
    (i4 : ((r.own.st = .vacant → r.own.owner = .none) ∧ (r.own.st = .owned → r.own.owner ≠ .none)) →
      (x8.st = .vacant → x8.owner = .none) ∧ (x8.st = .owned → x8.owner ≠ .none) := by exact id) :
    Chg m s ⟨r.pending, x1, x2, x3, x4, x5, x6, x7, x8, x9, x10, x11, x12, x13, x14, x15, x16, x17, x18, x19, x20, x21, x22, x23, x24, x25, x26⟩ := by
  refine ⟨fun p hp => ?_, fun i =>
    have k := hr.inv i
    have o := i4 ⟨k.vacant, k.owned⟩
    ⟨i1 k.regs, i2 k.banks, i3 k.hbm, o.1, o.2⟩⟩
  have := hr.same p hp
  cases p
  · exact this
  · exact Eq.trans (h1.resolve_left (by simpa [partBit] using hp)) this
  · exact Eq.trans (h2.resolve_left (by simpa [partBit] using hp)) this
  · exact Eq.trans (h3.resolve_left (by simpa [partBit] using hp)) this
  · exact Eq.trans (h4.resolve_left (by simpa [partBit] using hp)) this
  · exact Eq.trans (h5.resolve_left (by simpa [partBit] using hp)) this
  · exact Eq.trans (h6.resolve_left (by simpa [partBit] using hp)) this
  · exact Eq.trans (h7.resolve_left (by simpa [partBit] using hp)) this
  · exact Eq.trans (h8.resolve_left (by simpa [partBit] using hp)) this
  · exact Eq.trans (h9.resolve_left (by simpa [partBit] using hp)) this
  · exact Eq.trans (h10.resolve_left (by simpa [partBit] using hp)) this
  · exact Eq.trans (h11.resolve_left (by simpa [partBit] using hp)) this
  · exact Eq.trans (h12.resolve_left (by simpa [partBit] using hp)) this
  · exact Eq.trans (h13.resolve_left (by simpa [partBit] using hp)) this
  · exact Eq.trans (h14.resolve_left (by simpa [partBit] using hp)) this
  · exact Eq.trans (h15.resolve_left (by simpa [partBit] using hp)) this
  · exact Eq.trans (h16.resolve_left (by simpa [partBit] using hp)) this
  · exact Eq.trans (h17.resolve_left (by simpa [partBit] using hp)) this
  · exact Eq.trans (h18.resolve_left (by simpa [partBit] using hp)) this
  · exact Eq.trans (h19.resolve_left (by simpa [partBit] using hp)) this
  · exact Eq.trans (h20.resolve_left (by simpa [partBit] using hp)) this
  · exact Eq.trans (h21.resolve_left (by simpa [partBit] using hp)) this
  · exact Eq.trans (h22.resolve_left (by simpa [partBit] using hp)) this
  · exact Eq.trans (h23.resolve_left (by simpa [partBit] using hp)) this
  · exact Eq.trans (h24.resolve_left (by simpa [partBit] using hp)) this
  · exact Eq.trans (h25.resolve_left (by simpa [partBit] using hp)) this
  · exact Eq.trans (h26.resolve_left (by simpa [partBit] using hp)) this

/-- The mask of a list of parts. -/
def maskOf (l : List Part) : Nat := l.foldr (fun p a => 2 ^ partBit p ||| a) 0

theorem Chg.changes {l : List Part} {m : Nat} {s t : State} (h : Chg m s t) (hm : m ||| maskOf l = maskOf l := by decide) :
    Changes l s t := by
  intro p hp
  refine h.same p ?_
  have hl : ∀ l : List Part, p ∉ l → (maskOf l).testBit (partBit p) = false := by
    intro l
    induction l with
    | nil => intro _; simp [maskOf]
    | cons q l ih =>
      intro hq
      have hne : p ≠ q := by intro e; exact hq (by simp [e])
      have hb : partBit q ≠ partBit p := by intro e; apply hne; revert e; cases p <;> cases q <;> simp [partBit]
      have hi := ih (fun h => hq (by simp [h]))
      simp only [maskOf, List.foldr_cons, Nat.testBit_or] at hi ⊢
      rw [hi, Nat.testBit_two_pow_of_ne hb]; rfl
  have := congrArg (fun x => x.testBit (partBit p)) hm
  simp only [Nat.testBit_or, hl l hp, Bool.or_false] at this
  exact this

theorem Chg.each {α : Type} {m : Nat} {s r : State} {f : α → State → State} {l : List α} (hr : Chg m s r)
    (h : ∀ a t, Chg m t (f a t)) : Chg m s (forEach l f r) := by
  unfold forEach
  induction l generalizing r with
  | nil => exact hr
  | cons a l ih => exact ih (.after (h a r) hr (Nat.or_self m))

theorem Chg.fold {α : Type} {m : Nat} {s r : State} {f : State → α → State} {l : List α} (hr : Chg m s r)
    (h : ∀ a t, Chg m t (f t a)) : Chg m s (l.foldl f r) := by
  induction l generalizing r with
  | nil => exact hr
  | cons a l ih => exact ih (.after (h a r) hr (Nat.or_self m))

theorem Chg.times {m n : Nat} {s r : State} {f : Nat → State → State} (hr : Chg m s r)
    (h : ∀ a t, Chg m t (f a t)) : Chg m s (forN n f r) := by
  induction n with
  | zero => exact hr
  | succ n ih => exact .after (h n _) ih (Nat.or_self m)

theorem Chg.each2 {α β : Type} {m : Nat} {s : State} {r : β × State} {f : α → β × State → β × State} {l : List α}
    (hr : Chg m s r.2) (h : ∀ a t, Chg m t.2 (f a t).2) : Chg m s (forEach l f r).2 := by
  unfold forEach
  induction l generalizing r with
  | nil => exact hr
  | cons a l ih => exact ih (.after (h a r) hr (Nat.or_self m))

theorem Chg.fold2 {α β : Type} {m : Nat} {s : State} {r : β × State} {f : β × State → α → β × State} {l : List α}
    (hr : Chg m s r.2) (h : ∀ t a, Chg m t.2 (f t a).2) : Chg m s (l.foldl f r).2 := by
  induction l generalizing r with
  | nil => exact hr
  | cons a l ih => exact ih (.after (h r a) hr (Nat.or_self m))

theorem Chg.fold1 {α β : Type} {m : Nat} {s : State} {r : State × β} {f : State × β → α → State × β} {l : List α}
    (hr : Chg m s r.1) (h : ∀ t a, Chg m t.1 (f t a).1) : Chg m s (l.foldl f r).1 := by
  induction l generalizing r with
  | nil => exact hr
  | cons a l ih => exact ih (.after (h r a) hr (Nat.or_self m))

theorem Chg.pair1 {α : Type} {m : Nat} {s b : State} {a : α} {p : State × α} (h : Chg m s p.1) (e : p = (b, a)) :
    Chg m s b := by
  subst e; exact h

/-- The state of a pair that a function gives. -/
theorem Chg.pair {α : Type} {m : Nat} {s b : State} {a : α} {p : α × State} (h : Chg m s p.2) (e : p = (a, b)) :
    Chg m s b := by
  subst e; exact h

/-- An outcome is a next state in which no part outside the mask changes. -/
def OChg (m : Nat) (s : State) (o : Host.Outcome State Fault Refusal) : Prop := ∃ t, o = .next t ∧ Chg m s t

theorem OChg.done {m : Nat} {s t : State} (h : Chg m s t) : OChg m s (done t) := ⟨t, rfl, h⟩

theorem OChg.run {m : Nat} {s : State} {f : State → State} (h : Chg m s (f s)) : OChg m s (run f s) := by
  unfold Machine.run
  split
  · exact ⟨_, rfl, h⟩
  · exact ⟨_, rfl, .refl m s⟩

/-- The frame of the next state that a command answers. -/
theorem OChg.get {m : Nat} {s t : State} {o : Host.Outcome State Fault Refusal} (h : OChg m s o) (e : o = .next t) :
    Chg m s t := by
  obtain ⟨u, hu, hc⟩ := h
  rw [hu] at e
  injection e with e
  rwa [← e]

theorem OChg.ite {m : Nat} {s : State} {a b : Host.Outcome State Fault Refusal} {c : Prop} [Decidable c]
    (ha : OChg m s a) (hb : OChg m s b) : OChg m s (if c then a else b) := by
  split
  · exact ha
  · exact hb

end Sys2Proof.Laws
end

