-- ==== Sys2Proof/Laws/FrameOps.lean ====
section
/-!
SUPPORT. Laws/FrameOps.lean: which parts of the state the operations of Machine/Ops.lean may change.
-/
namespace Sys2Proof.Laws
set_option Elab.async false
open Sys2Proof.Machine

theorem State_setReg_chg (x0 : State) (x1 : ℕ) (x2 : Word32) : Chg 2 x0 (State.setReg x0 x1 x2) := by
  unfold State.setReg
  exact .upd (.refl _ _) (i1 := mwf_mset x1 x2)

theorem keepRegs_chg (x0 : ℕ → Bool) (x1 : State) : Chg 2 x1 (keepRegs x0 x1) := by
  unfold keepRegs
  exact .upd (.refl _ _) (i1 := mwf_filter _)

theorem State_setFld_chg (x0 : State) (x1 : ℕ) (x2 : ℕ) (x3 : ℕ) (x4 : ℕ) :
    Chg 2 x0 (State.setFld x0 x1 x2 x3 x4) := by
  unfold State.setFld
  try dsimp only
  exact (.after (State_setReg_chg ..) (.refl _ _))

theorem State_setBit_chg (x0 : State) (x1 : ℕ) (x2 : ℕ) (x3 : Bool) :
    Chg 2 x0 (State.setBit x0 x1 x2 x3) := by
  unfold State.setBit
  try dsimp only
  exact (.after (State_setFld_chg ..) (.refl _ _))

theorem State_setReg64_chg (x0 : State) (x1 : ℕ) (x2 : Word64) :
    Chg 2 x0 (State.setReg64 x0 x1 x2) := by
  unfold State.setReg64
  try dsimp only
  exact (.after (State_setReg_chg ..) (.after (State_setReg_chg ..) (.refl _ _)))

theorem State_emit_chg (x0 : State) (x1 : Output) :
    Chg 16 x0 (State.emit x0 x1) := by
  unfold State.emit
  try dsimp only
  exact (.upd (.refl _ _))

theorem State_setMsix_chg (x0 : State) (x1 : PcieFn) (x2 : Msix) :
    Chg 128 x0 (State.setMsix x0 x1 x2) := by
  unfold State.setMsix
  try dsimp only
  split
  · exact (.upd (.refl _ _))
  · exact (.upd (.refl _ _))

theorem msixSend_chg (x0 : PcieFn) (x1 : ℕ) (x2 : State) :
    Chg 144 x2 (msixSend x0 x1 x2) := by
  unfold msixSend
  try dsimp only
  exact (.ite (.after (State_emit_chg ..) (.refl _ _)) (.after (State_setMsix_chg ..) (.refl _ _)))

theorem deliver_chg (x0 : ℕ) (x1 : State) :
    Chg 144 x1 (deliver x0 x1) := by
  unfold deliver
  try dsimp only
  exact (.ite (.after (msixSend_chg ..) (.after (msixSend_chg ..) (.refl _ _))) (.after (msixSend_chg ..) (.refl _
      _)))

theorem raise_chg (x0 : ℕ) (x1 : State) :
    Chg 146 x1 (raise x0 x1) := by
  unfold raise
  try dsimp only
  refine .ite ?_ ?_
  · exact (.refl _ _)
  · refine .ite ?_ ?_
    · refine .ite ?_ ?_
      · refine .upd ?_
        exact (.after (State_setBit_chg ..) (.refl _ _))
      · exact (.after (State_setBit_chg ..) (.refl _ _))
    · refine .after (deliver_chg ..) ?_
      refine .ite ?_ ?_
      · refine .upd ?_
        exact (.after (State_setBit_chg ..) (.refl _ _))
      · exact (.after (State_setBit_chg ..) (.refl _ _))

theorem State_tick1_chg (x0 : State) :
    Chg 8 x0 (State.tick1 x0) := by
  unfold State.tick1
  try dsimp only
  exact (.upd (.refl _ _))

end Sys2Proof.Laws
end

