-- ==== Sys2Proof/Laws/FrameFlags.lean ====
section
/-!
SUPPORT. Laws/FrameFlags.lean: which parts of the state the operations of Machine/Flags.lean may change.
-/
namespace Sys2Proof.Laws
set_option Elab.async false
open Sys2Proof.Machine

theorem satAdd_chg (x0 : ℕ) (x1 : ℕ) (x2 : ℕ) (x3 : Option ℕ) (x4 : ℕ) (x5 : State) :
    Chg 146 x5 (satAdd x0 x1 x2 x3 x4 x5) := by
  unfold satAdd
  try dsimp only
  refine .ite ?_ ?_
  · exact (.refl _ _)
  · refine .ite ?_ ?_
    · exact (.after (State_setReg_chg ..) (.refl _ _))
    · split
      · exact (.after (raise_chg ..) (.after (State_setBit_chg ..) (.after (State_setReg_chg ..) (.refl _ _))))
      · exact (.after (State_setBit_chg ..) (.after (State_setReg_chg ..) (.refl _ _)))

theorem countUp_chg (x0 : ℕ) (x1 : State) :
    Chg 2 x1 (countUp x0 x1) := by
  unfold countUp
  try dsimp only
  exact (.ite (.refl _ _) (.after (State_setReg_chg ..) (.refl _ _)))

theorem satAdd64_chg (x0 : ℕ) (x1 : ℕ) (x2 : ℕ) (x3 : Option ℕ) (x4 : ℕ) (x5 : State) :
    Chg 146 x5 (satAdd64 x0 x1 x2 x3 x4 x5) := by
  unfold satAdd64
  try dsimp only
  refine .ite ?_ ?_
  · exact (.refl _ _)
  · refine .ite ?_ ?_
    · exact (.after (State_setReg64_chg ..) (.refl _ _))
    · split
      · exact (.after (raise_chg ..) (.after (State_setBit_chg ..) (.after (State_setReg64_chg ..) (.refl _ _))))
      · exact (.after (State_setBit_chg ..) (.after (State_setReg64_chg ..) (.refl _ _)))

theorem spcAdd_chg (x0 : ℕ) (x1 : ℕ) (x2 : State) :
    Chg 146 x2 (spcAdd x0 x1 x2) := by
  unfold spcAdd
  try dsimp only
  exact (.after (satAdd64_chg ..) (.refl _ _))

theorem memCnt_chg (x0 : ℕ) (x1 : ℕ) (x2 : State) :
    Chg 146 x2 (memCnt x0 x1 x2) := by
  unfold memCnt
  try dsimp only
  exact (.after (satAdd_chg ..) (.refl _ _))

theorem hbdCnt_chg (x0 : ℕ) (x1 : ℕ) (x2 : State) :
    Chg 146 x2 (hbdCnt x0 x1 x2) := by
  unfold hbdCnt
  try dsimp only
  exact (.after (satAdd_chg ..) (.refl _ _))

theorem heldCnt_chg (x0 : ℕ) (x1 : ℕ) (x2 : State) :
    Chg 146 x2 (heldCnt x0 x1 x2) := by
  unfold heldCnt
  try dsimp only
  exact (.after (satAdd_chg ..) (.refl _ _))

theorem cluCnt_chg (x0 : ℕ) (x1 : ℕ) (x2 : ℕ) (x3 : State) :
    Chg 146 x3 (cluCnt x0 x1 x2 x3) := by
  unfold cluCnt
  try dsimp only
  exact (.after (satAdd_chg ..) (.refl _ _))

theorem lnkCnt_chg (x0 : ℕ) (x1 : ℕ) (x2 : ℕ) (x3 : State) :
    Chg 146 x3 (lnkCnt x0 x1 x2 x3) := by
  unfold lnkCnt
  try dsimp only
  exact (.after (satAdd_chg ..) (.refl _ _))

theorem causeSet_chg (x0 : ℕ) (x1 : ℕ) (x2 : List (ℕ × Word32)) (x3 : State) :
    Chg 2 x3 (causeSet x0 x1 x2 x3) := by
  unfold causeSet
  try dsimp only
  exact (.after (State_setBit_chg ..) (.ite (.each (.refl _ _) (fun _ _ => (.after (State_setReg_chg ..) (.refl _
      _)))) (.refl _ _)))

theorem gblErr_chg (x0 : ℕ) (x1 : ℕ) (x2 : ℕ) (x3 : ℕ) (x4 : Bool) (x5 : State) :
    Chg 146 x5 (gblErr x0 x1 x2 x3 x4 x5) := by
  unfold gblErr
  try dsimp only
  exact (.after (raise_chg ..) (.after (causeSet_chg ..) (.refl _ _)))

theorem memCause_chg (x0 : ℕ) (x1 : ℕ) (x2 : Word64) (x3 : ℕ) (x4 : ℕ) (x5 : Bool) (x6 : Bool) (x7 : State) :
    Chg 2 x7 (memCause x0 x1 x2 x3 x4 x5 x6 x7) := by
  unfold memCause
  try dsimp only
  exact (.after (causeSet_chg ..) (.refl _ _))

theorem hbdCause_chg (x0 : ℕ) (x1 : ℕ) (x2 : HbdLoc) (x3 : ℕ) (x4 : Word64) (x5 : State) :
    Chg 2 x5 (hbdCause x0 x1 x2 x3 x4 x5) := by
  unfold hbdCause
  try dsimp only
  exact (.after (causeSet_chg ..) (.refl _ _))

theorem lnkCause_chg (x0 : ℕ) (x1 : ℕ) (x2 : ℕ) (x3 : State) :
    Chg 146 x3 (lnkCause x0 x1 x2 x3) := by
  unfold lnkCause
  try dsimp only
  exact (.ite (.after (causeSet_chg ..) (.refl _ _)) (.after (raise_chg ..) (.after (causeSet_chg ..) (.refl _ _))))

theorem cluCause_chg (x0 : ℕ) (x1 : ℕ) (x2 : ℕ) (x3 : ℕ) (x4 : ℕ) (x5 : Word64) (x6 : State) :
    Chg 658 x6 (cluCause x0 x1 x2 x3 x4 x5 x6) := by
  unfold cluCause
  try dsimp only
  refine .upd ?_
  refine .ite ?_ ?_
  · refine .after (causeSet_chg ..) ?_
    refine .ite ?_ ?_
    · exact (.upd (.refl _ _))
    · exact (.refl _ _)
  · refine .after (raise_chg ..) ?_
    refine .after (causeSet_chg ..) ?_
    refine .ite ?_ ?_
    · exact (.upd (.refl _ _))
    · exact (.refl _ _)

theorem ledAdd_chg (x0 : ℕ) (x1 : ℕ) (x2 : State) :
    Chg 67109010 x2 (ledAdd x0 x1 x2) := by
  unfold ledAdd
  try dsimp only
  refine .ite ?_ ?_
  · exact (.refl _ _)
  · refine .ite ?_ ?_
    · exact (.upd (.refl _ _))
    · refine .ite ?_ ?_
      · refine .after (raise_chg ..) ?_
        refine .after (causeSet_chg ..) ?_
        exact (.upd (.refl _ _))
      · exact (.upd (.refl _ _))

end Sys2Proof.Laws
end

