-- ==== Sys2Proof/Laws/FrameAccess.lean ====
section
/-!
SUPPORT. Laws/FrameAccess.lean: which parts of the state the operations of Machine/Access.lean may change.
-/
namespace Sys2Proof.Laws
set_option Elab.async false
open Sys2Proof.Machine

theorem observerWrite_chg (x0 : Path) (x1 : ℕ) (x2 : State) :
    Chg 146 x2 (observerWrite x0 x1 x2) := by
  unfold observerWrite
  try dsimp only
  exact (.after (gblErr_chg ..) (.refl _ _))

theorem ownerWrite_chg {m : Nat} {path : Path} {off : Nat} {f : State → State} {s : State}
    (h : ∀ t, Chg m t (f t)) (hm : 146 ||| m = m := by decide) : Chg m s (ownerWrite path off f s) := by
  unfold ownerWrite
  exact .ite (.refl _ _) (.ite (h s) (.after (observerWrite_chg ..) (.refl _ _) hm))

theorem markDirty_chg (x0 : ℕ) (x1 : State) :
    Chg 128 x1 (markDirty x0 x1) := by
  unfold markDirty
  try dsimp only
  refine .ite ?_ ?_
  · exact (.upd (.refl _ _))
  · exact (.refl _ _)

theorem writeFld_chg (x0 : ℕ) (x1 : ℕ) (x2 : ℕ) (x3 : ℕ) (x4 : State) :
    Chg 130 x4 (writeFld x0 x1 x2 x3 x4) := by
  unfold writeFld
  try dsimp only
  exact (.after (markDirty_chg ..) (.after (State_setFld_chg ..) (.refl _ _)))

theorem storeReg_chg (x0 : ℕ) (x1 : Word32) (x2 : State) :
    Chg 2 x2 (storeReg x0 x1 x2) := by
  unfold storeReg
  try dsimp only
  split
  · exact (.refl _ _)
  · exact (.after (State_setReg_chg ..) (.refl _ _))

theorem keepCheck_chg (x0 : Path) (x1 : ℕ) (x2 : Word32) (x3 : State) :
    Chg 146 x3 (keepCheck x0 x1 x2 x3) := by
  unfold keepCheck
  try dsimp only
  split
  · exact (.refl _ _)
  · exact (.ite (.refl _ _) (.ite (.after (State_setReg_chg ..) (.after (gblErr_chg ..) (.refl _ _))) (.after
        (gblErr_chg ..) (.refl _ _))))

theorem lockCheck_chg (x0 : Path) (x1 : ℕ) (x2 : Word32) (x3 : State) :
    Chg 146 x3 (lockCheck x0 x1 x2 x3).2 := by
  unfold lockCheck
  try dsimp only
  split
  · exact (.refl _ _)
  · refine .ite2 ?_ ?_
    · refine .ite2 ?_ ?_
      · exact (.mk2 (.refl _ _))
      · exact (.mk2 (.after (gblErr_chg ..) (.refl _ _)))
    · exact (.mk2 (.refl _ _))

/-- A BAR0 write changes what its effect changes, and what its reports change. -/
theorem regAccess_chg {m : Nat} {path : Path} {off : Nat} {val : Word32} {eff : Word32 → State → State} {s : State}
    (h : ∀ v t, Chg m t (eff v t)) (hm : 146 ||| m = m := by decide) : Chg m s (regAccess path off val eff s) := by
  have hk : Chg m s (keepCheck path off val s) := .after (keepCheck_chg ..) (.refl _ _) hm
  have hl : Chg m s (lockCheck path off val (keepCheck path off val s)).2 := .after (lockCheck_chg ..) hk hm
  have hd : 128 ||| m = m := by
    calc 128 ||| m = 128 ||| (146 ||| m) := by rw [hm]
      _ = (128 ||| 146) ||| m := (Nat.or_assoc ..).symm
      _ = m := hm
  unfold regAccess
  refine .ite (.refl _ _) (.ite ?_ (.after (observerWrite_chg ..) (.refl _ _) hm))
  exact .after (h _ _) (.after (markDirty_chg ..) hl hd) (Nat.or_self m)

end Sys2Proof.Laws
end

