-- ==== Sys2Proof/Laws/FrameGlove.lean ====
section
/-!
SUPPORT. Laws/FrameGlove.lean: which parts of the state the operations of Machine/Glove.lean may change.
-/
namespace Sys2Proof.Laws
set_option Elab.async false
open Sys2Proof.Machine

theorem State_setRegion_chg (x0 : State) (x1 : ℕ) (x2 : GlvRegion) :
    Chg 2097152 x0 (State.setRegion x0 x1 x2) := by
  unfold State.setRegion
  try dsimp only
  exact (.upd (.refl _ _))

theorem keepPins_chg (x0 : State) :
    Chg 2097152 x0 (keepPins x0) := by
  unfold keepPins
  try dsimp only
  refine .each ?_ (fun _ _ => ?_)
  · exact (.refl _ _)
  · refine .each ?_ (fun _ _ => ?_)
    · exact (.refl _ _)
    · exact (.upd (.refl _ _))

theorem glvRound_chg (x0 : State) :
    Chg 2097152 x0 (glvRound x0) := by
  unfold glvRound
  try dsimp only
  exact (.fold (.refl _ _) (fun _ _ => (.after (State_setRegion_chg ..) (.refl _ _))))

theorem freeOutputs_chg (x0 : State) (x1 : State) :
    Chg 2097160 x1 (freeOutputs x0 x1) := by
  unfold freeOutputs
  try dsimp only
  exact (.each (.refl _ _) (fun _ _ => (.ite (.refl _ _) (.after (State_tick1_chg ..) (.after (State_setRegion_chg
      ..) (.refl _ _))))))

theorem settleFor_chg (x0 : ℕ) (x1 : State) :
    Chg 2097160 x1 (settleFor x0 x1) := by
  induction x0 generalizing x1 with
  | zero =>
    unfold settleFor
    try dsimp only
    exact (.ite (.refl _ _) (.after (freeOutputs_chg ..) (.refl _ _)))
  | succ n ih =>
    unfold settleFor
    try dsimp only
    exact (.ite (.refl _ _) (.after (ih ..) (.after (glvRound_chg ..) (.refl _ _))))

theorem diTrack_chg (x0 : State) :
    Chg 2097152 x0 (diTrack x0) := by
  unfold diTrack
  try dsimp only
  refine .each ?_ (fun _ _ => ?_)
  · exact (.refl _ _)
  · refine .ite ?_ ?_
    · exact (.refl _ _)
    · exact (.upd (.refl _ _))

theorem diFresh_chg (x0 : State) :
    Chg 2097152 x0 (diFresh x0) := by
  unfold diFresh
  try dsimp only
  exact (.upd (.refl _ _))

theorem settle_chg (x0 : State) :
    Chg 2097160 x0 (settle x0) := by
  unfold settle
  try dsimp only
  exact (.after (diTrack_chg ..) (.after (keepPins_chg ..) (.after (settleFor_chg ..) (.refl _ _))))

theorem pulseDo_chg (x0 : State) :
    Chg 2097160 x0 (pulseDo x0) := by
  unfold pulseDo
  try dsimp only
  refine .after (settle_chg ..) ?_
  refine .upd ?_
  refine .after (settle_chg ..) ?_
  exact (.upd (.refl _ _))

theorem pulseDi_chg (x0 : State) :
    Chg 2097160 x0 (pulseDi x0) := by
  unfold pulseDi
  try dsimp only
  refine .after (settle_chg ..) ?_
  refine .upd ?_
  refine .after (settle_chg ..) ?_
  exact (.upd (.refl _ _))

theorem glvClock_chg (x0 : State) :
    Chg 2097160 x0 (glvClock x0) := by
  unfold glvClock
  try dsimp only
  refine .ite ?_ ?_
  · exact (.refl _ _)
  · refine .after (settle_chg ..) ?_
    exact (.upd (.refl _ _))

theorem glvCnt_chg (x0 : ℕ) (x1 : ℕ) (x2 : State) :
    Chg 146 x2 (glvCnt x0 x1 x2) := by
  unfold glvCnt
  try dsimp only
  exact (.after (satAdd_chg ..) (.refl _ _))

theorem glvCause_chg (x0 : ℕ) (x1 : ℕ) (x2 : ℕ) (x3 : State) :
    Chg 2 x3 (glvCause x0 x1 x2 x3) := by
  unfold glvCause
  try dsimp only
  exact (.after (causeSet_chg ..) (.refl _ _))

theorem changeRegions_chg (x0 : List ℕ) (x1 : State → ℕ → GlvRegion) (x2 : State) :
    Chg 2097160 x2 (changeRegions x0 x1 x2) := by
  unfold changeRegions
  try dsimp only
  exact (.after (settle_chg ..) (.each (.refl _ _) (fun _ _ => (.after (State_setRegion_chg ..) (.refl _ _)))))

theorem holdRegions_chg (x0 : List ℕ) (x1 : RegionState) (x2 : State) :
    Chg 2097160 x2 (holdRegions x0 x1 x2) := by
  unfold holdRegions
  try dsimp only
  exact (.after (changeRegions_chg ..) (.refl _ _))

theorem holdRegion_chg (x0 : ℕ) (x1 : RegionState) (x2 : State) :
    Chg 2097160 x2 (holdRegion x0 x1 x2) := by
  unfold holdRegion
  try dsimp only
  exact (.after (holdRegions_chg ..) (.refl _ _))

theorem emptyRegions_chg (x0 : List ℕ) (x1 : RegionState) (x2 : State) :
    Chg 2097160 x2 (emptyRegions x0 x1 x2) := by
  unfold emptyRegions
  try dsimp only
  exact (.after (changeRegions_chg ..) (.refl _ _))

theorem glvEdges_chg (x0 : ℕ) (x1 : State) :
    Chg 2097160 x1 (glvEdges x0 x1) := by
  unfold glvEdges
  try dsimp only
  refine .times ?_ (fun _ _ => ?_)
  · exact (.refl _ _)
  · refine .after (settle_chg ..) ?_
    exact (.upd (.refl _ _))

theorem startRegions_chg (x0 : List ℕ) (x1 : State) :
    Chg 2097160 x1 (startRegions x0 x1) := by
  unfold startRegions
  try dsimp only
  refine .after (changeRegions_chg ..) ?_
  refine .after (glvEdges_chg ..) ?_
  refine .after (changeRegions_chg ..) ?_
  refine .after (changeRegions_chg ..) ?_
  exact (.upd (.refl _ _))

theorem tagCheck_chg (x0 : State) :
    Chg 2097298 x0 (tagCheck x0) := by
  unfold tagCheck
  try dsimp only
  refine .ite ?_ ?_
  · exact (.refl _ _)
  · split
    · exact (.upd (.refl _ _))
    · refine .after (raise_chg ..) ?_
      refine .after (glvCause_chg ..) ?_
      exact (.upd (.refl _ _))

theorem doCommit_chg (x0 : Word64) (x1 : ℕ) (x2 : State) :
    Chg 2097152 x2 (doCommit x0 x1 x2) := by
  unfold doCommit
  try dsimp only
  refine .ite ?_ ?_
  · exact (.upd (.refl _ _))
  · exact (.refl _ _)

theorem doApply_chg (x0 : SMap Bool) (x1 : State) :
    Chg 2097306 x1 (doApply x0 x1) := by
  unfold doApply
  try dsimp only
  refine .after (glvCnt_chg ..) ?_
  refine .after (pulseDo_chg ..) ?_
  exact (.upd (.refl _ _))

theorem doDue_chg (x0 : State) :
    Chg 2097306 x0 (doDue x0) := by
  unfold doDue
  try dsimp only
  split
  · refine .ite ?_ ?_
    · refine .after (doApply_chg ..) ?_
      exact (.upd (.refl _ _))
    · exact (.refl _ _)
  · exact (.refl _ _)

theorem diValue_chg (x0 : ℕ) (x1 : State) :
    Chg 8 x1 (diValue x0 x1).2 := by
  unfold diValue
  try dsimp only
  refine .ite2 ?_ ?_
  · exact (.mk2 (.after (State_tick1_chg ..) (.refl _ _)))
  · exact (.mk2 (.refl _ _))

theorem diSample_chg (x0 : Word64) (x1 : State) :
    Chg 2097306 x1 (diSample x0 x1).2 := by
  unfold diSample
  split
  · exact .refl _ _
  · dsimp only
    refine .after (glvCnt_chg ..) ?_
    refine .after (pulseDi_chg ..) ?_
    generalize hf : List.foldl _ _ _ = p
    have hp : Chg 2097306 x1 p.2 := hf ▸ .fold2 (.refl _ _) (fun _ _ => .after (diValue_chg ..) (.refl _ _))
    exact .upd hp

theorem diInsert_chg (x0 : Word64) (x1 : State) :
    Chg 512 x1 (diInsert x0 x1) := by
  unfold diInsert
  try dsimp only
  split
  · exact (.refl _ _)
  · refine .each ?_ (fun _ _ => ?_)
    · exact (.refl _ _)
    · exact (.upd (.refl _ _))

theorem diRelease_chg (x0 : Word64 → Bool) (x1 : State) :
    Chg 2097152 x1 (diRelease x0 x1) := by
  unfold diRelease
  try dsimp only
  exact (.upd (.refl _ _))

theorem doInstall_chg (x0 : ℕ) (x1 : State) :
    Chg 2097306 x1 (doInstall x0 x1) := by
  unfold doInstall
  try dsimp only
  refine .after (tagCheck_chg ..) ?_
  refine .after (doApply_chg ..) ?_
  refine .after (diFresh_chg ..) ?_
  exact (.upd (.refl _ _))

theorem doNone_chg (x0 : State) :
    Chg 2097160 x0 (doNone x0) := by
  unfold doNone
  try dsimp only
  refine .after (settle_chg ..) ?_
  exact (.upd (.refl _ _))

theorem loadEnd_chg (x0 : ℕ) (x1 : ℕ) (x2 : ℕ) (x3 : State) :
    Chg 2097298 x3 (loadEnd x0 x1 x2 x3) := by
  unfold loadEnd
  try dsimp only
  refine .after (tagCheck_chg ..) ?_
  refine .after (raise_chg ..) ?_
  refine .ite ?_ ?_
  · refine .upd ?_
    exact (.after (State_setReg_chg ..) (.after (State_setFld_chg ..) (.after (State_setFld_chg ..) (.refl _ _))))
  · refine .after (glvCnt_chg ..) ?_
    refine .after (glvCause_chg ..) ?_
    refine .upd ?_
    exact (.after (State_setReg_chg ..) (.after (State_setFld_chg ..) (.after (State_setFld_chg ..) (.refl _ _))))

theorem loadPhase_chg (x0 : ℕ) (x1 : State) :
    Chg 2 x1 (loadPhase x0 x1) := by
  unfold loadPhase
  try dsimp only
  exact (.after (State_setFld_chg ..) (.refl _ _))

theorem loadAccepted_chg (x0 : GloveSource) (x1 : BitVec 4) (x2 : ℕ) (x3 : State) :
    Chg 2097154 x3 (loadAccepted x0 x1 x2 x3) := by
  unfold loadAccepted
  try dsimp only
  refine .upd ?_
  exact (.after (State_setReg_chg ..) (.after (State_setReg_chg ..) (.refl _ _)))

theorem loadBegin_chg (x0 : GloveSource) (x1 : BitVec 4) (x2 : ℕ) (x3 : State) :
    Chg 2097298 x3 (loadBegin x0 x1 x2 x3) := by
  unfold loadBegin
  try dsimp only
  exact (.ite (.after (loadEnd_chg ..) (.after (loadAccepted_chg ..) (.refl _ _))) (.after (loadAccepted_chg ..)
      (.refl _ _)))

theorem headerJudged_chg (x0 : List GlvFail) (x1 : GlvLoad) (x2 : BitVec 4) (x3 : List Byte) (x4 : State) :
    Chg 2097298 x4 (headerJudged x0 x1 x2 x3 x4) := by
  unfold headerJudged
  try dsimp only
  split
  · exact (.after (loadEnd_chg ..) (.refl _ _))
  · refine .after (loadPhase_chg ..) ?_
    exact (.upd (.refl _ _))

theorem headerWith_chg (x0 : GlvLoad) (x1 : BitVec 4) (x2 : List Byte) (x3 : ℕ) (x4 : Bool) (x5 : State) :
    Chg 2097298 x5 (headerWith x0 x1 x2 x3 x4 x5) := by
  unfold headerWith
  try dsimp only
  exact (.ite (.after (loadEnd_chg ..) (.after (loadPhase_chg ..) (.after (State_setFld_chg ..) (.refl _ _)))) (.ite
      (.after (loadEnd_chg ..) (.after (State_setFld_chg ..) (.refl _ _))) (.after (headerJudged_chg ..) (.after
      (loadPhase_chg ..) (.after (State_setFld_chg ..) (.refl _ _))))))

theorem loadHeader_chg (x0 : List Byte) (x1 : ℕ) (x2 : Bool) (x3 : State) :
    Chg 2097298 x3 (loadHeader x0 x1 x2 x3) := by
  unfold loadHeader
  try dsimp only
  split
  · exact (.refl _ _)
  · exact (.ite (.refl _ _) (.after (headerWith_chg ..) (.refl _ _)))

theorem loadList_chg (x0 : List Word32) (x1 : Bool) (x2 : State) :
    Chg 2097306 x2 (loadList x0 x1 x2) := by
  unfold loadList
  try dsimp only
  split
  · exact (.refl _ _)
  · refine .ite ?_ ?_
    · exact (.refl _ _)
    · refine .ite ?_ ?_
      · exact (.after (loadEnd_chg ..) (.refl _ _))
      · split
        · exact (.after (loadEnd_chg ..) (.refl _ _))
        · refine .after (changeRegions_chg ..) ?_
          refine .after (loadPhase_chg ..) ?_
          exact (.upd (.refl _ _))

theorem writeFrames_chg (x0 : GlvLoad) (x1 : List (BitVec 1024)) (x2 : State) :
    Chg 2097152 x2 (writeFrames x0 x1 x2) := by
  unfold writeFrames
  try dsimp only
  exact (.each (.each (.refl _ _) (fun _ _ => (.after (State_setRegion_chg ..) (.refl _ _)))) (fun _ _ => (.after
      (State_setRegion_chg ..) (.refl _ _))))

theorem loadData_chg (x0 : List (BitVec 1024)) (x1 : Word32) (x2 : Bool) (x3 : State) :
    Chg 2097306 x3 (loadData x0 x1 x2 x3) := by
  unfold loadData
  try dsimp only
  split
  · exact (.refl _ _)
  · refine .ite ?_ ?_
    · exact (.refl _ _)
    · split
      · exact (.after (loadEnd_chg ..) (.ite (.after (holdRegions_chg ..) (.after (writeFrames_chg ..) (.refl _ _)))
            (.after (emptyRegions_chg ..) (.after (writeFrames_chg ..) (.refl _ _)))))
      · exact (.after (loadEnd_chg ..) (.after (startRegions_chg ..) (.each (.after (loadPhase_chg ..) (.after
            (writeFrames_chg ..) (.refl _ _))) (fun _ _ => (.after (State_setRegion_chg ..) (.after (State_setReg_chg
            ..) (.refl _ _)))))))

theorem loadWhole_chg (x0 : GloveSource) (x1 : List Byte) (x2 : State) :
    Chg 2097306 x2 (loadWhole x0 x1 x2) := by
  unfold loadWhole
  try dsimp only
  exact (.after (loadData_chg ..) (.after (loadList_chg ..) (.after (loadHeader_chg ..) (.after (loadBegin_chg ..)
      (.refl _ _)))))

theorem execGloveLoadHeaderDone_chg (x0 : List Byte) (x1 : BitVec 14) (x2 : Bool) (x3 : State) :
    OChg 2097298 x3 (execGloveLoadHeaderDone x0 x1 x2 x3) := by
  unfold execGloveLoadHeaderDone
  try dsimp only
  exact (.run (.after (loadHeader_chg ..) (.refl _ _)))

theorem execGloveLoadListDone_chg (x0 : List Word32) (x1 : Bool) (x2 : State) :
    OChg 2097306 x2 (execGloveLoadListDone x0 x1 x2) := by
  unfold execGloveLoadListDone
  try dsimp only
  exact (.run (.after (loadList_chg ..) (.refl _ _)))

theorem execGloveLoadDataDone_chg (x0 : List (BitVec 1024)) (x1 : Word32) (x2 : Bool) (x3 : State) :
    OChg 2097306 x3 (execGloveLoadDataDone x0 x1 x2 x3) := by
  unfold execGloveLoadDataDone
  try dsimp only
  exact (.run (.after (loadData_chg ..) (.refl _ _)))

theorem contentionTrip_chg (x0 : ℕ) (x1 : ℕ) (x2 : State) :
    Chg 2097306 x2 (contentionTrip x0 x1 x2) := by
  unfold contentionTrip
  try dsimp only
  exact (.ite (.after (raise_chg ..) (.after (glvCnt_chg ..) (.after (glvCause_chg ..) (.after (State_setRegion_chg
      ..) (.after (holdRegion_chg ..) (.refl _ _)))))) (.refl _ _))

theorem execContentionTrip_chg (x0 : BitVec 2) (x1 : BitVec 13) (x2 : State) :
    OChg 2097306 x2 (execContentionTrip x0 x1 x2) := by
  unfold execContentionTrip
  try dsimp only
  exact (.run (.after (contentionTrip_chg ..) (.refl _ _)))

theorem sweepRegion_chg (x0 : ℕ) (x1 : State) :
    Chg 2097298 x1 (sweepRegion x0 x1) := by
  unfold sweepRegion
  try dsimp only
  refine .ite ?_ ?_
  · refine .after (glvCnt_chg ..) ?_
    exact (.upd (.refl _ _))
  · exact (.upd (.refl _ _))

theorem signatureDone_chg (x0 : ℕ) (x1 : List (BitVec 11 × BitVec 10)) (x2 : State) :
    Chg 2097306 x2 (signatureDone x0 x1 x2) := by
  unfold signatureDone
  try dsimp only
  refine .ite ?_ ?_
  · refine .ite ?_ ?_
    · exact (.after (sweepRegion_chg ..) (.after (State_setReg_chg ..) (.after (settle_chg ..) (.each (.refl _ _)
          (fun _ _ => (.after (State_setRegion_chg ..) (.refl _ _)))))))
    · refine .ite ?_ ?_
      · exact (.after (holdRegion_chg ..) (.after (raise_chg ..) (.after (glvCnt_chg ..) (.after (glvCause_chg ..)
            (.after (sweepRegion_chg ..) (.after (State_setReg_chg ..) (.after (settle_chg ..) (.each (.refl _ _)
            (fun _ _ => (.after (State_setRegion_chg ..) (.refl _ _)))))))))))
      · exact (.after (raise_chg ..) (.after (glvCnt_chg ..) (.after (glvCause_chg ..) (.after (sweepRegion_chg ..)
            (.after (State_setReg_chg ..) (.after (settle_chg ..) (.each (.refl _ _) (fun _ _ => (.after
            (State_setRegion_chg ..) (.refl _ _))))))))))
  · exact (.refl _ _)

theorem execSignatureRegionDone_chg (x0 : BitVec 2) (x1 : List (BitVec 11 × BitVec 10)) (x2 : State) :
    OChg 2097306 x2 (execSignatureRegionDone x0 x1 x2) := by
  unfold execSignatureRegionDone
  try dsimp only
  exact (.run (.after (signatureDone_chg ..) (.refl _ _)))

theorem pinsChanged_chg (x0 : State) :
    Chg 2097160 x0 (pinsChanged x0) := by
  unfold pinsChanged
  try dsimp only
  exact (.ite (.after (settle_chg ..) (.refl _ _)) (.refl _ _))

theorem pinChange_chg (x0 : ℕ) (x1 : Option Bool) (x2 : State) :
    Chg 2097160 x2 (pinChange x0 x1 x2) := by
  unfold pinChange
  try dsimp only
  refine .ite ?_ ?_
  · refine .after (pinsChanged_chg ..) ?_
    exact (.upd (.refl _ _))
  · exact (.refl _ _)

theorem execPinInputChange_chg (x0 : BitVec 9) (x1 : Option Bool) (x2 : State) :
    OChg 2097160 x2 (execPinInputChange x0 x1 x2) := by
  unfold execPinInputChange
  try dsimp only
  exact (.done (.after (pinChange_chg ..) (.refl _ _)))

end Sys2Proof.Laws
end

