-- ==== Sys2Proof/Laws/FrameGrants.lean ====
section
/-!
SUPPORT. Laws/FrameGrants.lean: which parts of the state the operations of Machine/Grants.lean may change.
-/
namespace Sys2Proof.Laws
set_option Elab.async false
open Sys2Proof.Machine

theorem setGrant_chg (x0 : ℕ) (x1 : Option Grant) (x2 : State) :
    Chg 524288 x2 (setGrant x0 x1 x2) := by
  unfold setGrant
  try dsimp only
  exact (.upd (.refl _ _))

theorem grantChanged_chg (x0 : State) :
    Chg 146 x0 (grantChanged x0) := by
  unfold grantChanged
  try dsimp only
  exact (.after (raise_chg ..) (.refl _ _))

end Sys2Proof.Laws
end

