-- ==== Sys2Proof/Laws/FrameLaneOut.lean ====
section
/-!
SUPPORT. Laws/FrameLaneOut.lean: which parts of the state the operations of Machine/LaneOut.lean may change.
-/
namespace Sys2Proof.Laws
set_option Elab.async false
open Sys2Proof.Machine

theorem State_setLane_chg (x0 : State) (x1 : ℕ) (x2 : LanePort) :
    Chg 131072 x0 (State.setLane x0 x1 x2) := by
  unfold State.setLane
  try dsimp only
  exact (.upd (.refl _ _))

theorem sendBlock_chg (x0 : ℕ) (x1 : LanePart) (x2 : State) :
    Chg 131088 x2 (sendBlock x0 x1 x2) := by
  unfold sendBlock
  try dsimp only
  exact (.after (State_emit_chg ..) (.after (State_setLane_chg ..) (.refl _ _)))

theorem sendTimeBlock_chg (x0 : ℕ) (x1 : TimeBlock) (x2 : State) :
    Chg 131088 x2 (sendTimeBlock x0 x1 x2) := by
  unfold sendTimeBlock
  try dsimp only
  exact (.after (sendBlock_chg ..) (.ite (.after (sendBlock_chg ..) (.refl _ _)) (.refl _ _)))

theorem sendGroup_chg (x0 : ℕ) (x1 : List LanePart) (x2 : State) :
    Chg 131088 x2 (sendGroup x0 x1 x2) := by
  unfold sendGroup
  try dsimp only
  exact (.ite (.refl _ _) (.ite (.after (sendBlock_chg ..) (.refl _ _)) (.after (State_emit_chg ..) (.after
      (State_setLane_chg ..) (.refl _ _)))))

theorem flushWaves_chg (x0 : ℕ) (x1 : State) :
    Chg 131088 x1 (flushWaves x0 x1) := by
  unfold flushWaves
  try dsimp only
  exact (.ite (.after (sendGroup_chg ..) (.refl _ _)) (.refl _ _))

theorem waveOut_chg (x0 : ℕ) (x1 : Word64) (x2 : State) :
    Chg 131088 x2 (waveOut x0 x1 x2) := by
  unfold waveOut
  try dsimp only
  exact (.after (flushWaves_chg ..) (.after (State_setLane_chg ..) (.refl _ _)))

theorem laneTake_chg (x0 : ℕ) (x1 : LanePart) (x2 : State) :
    Chg 131072 x2 (laneTake x0 x1 x2) := by
  unfold laneTake
  try dsimp only
  exact (.after (State_setLane_chg ..) (.refl _ _))

theorem laneGives_chg {m : Nat} {p : Nat} {x : LanePart} {f : State → State} {s : State} (h : ∀ t, Chg m t (f t))
    (hm : 131072 ||| m = m := by decide) : Chg m s (laneGives p x f s) := by
  unfold laneGives
  exact .ite (.after (h _) (.after (laneTake_chg ..) (.refl _ _) hm) (Nat.or_self m)) (.refl _ _)

end Sys2Proof.Laws
end

