-- ==== Sys2Proof/Laws/FrameMemory.lean ====
section
/-!
SUPPORT. Laws/FrameMemory.lean: which parts of the state the operations of Machine/Memory.lean may change.
-/
namespace Sys2Proof.Laws
set_option Elab.async false
open Sys2Proof.Machine

theorem setBank_chg (x0 : ℕ) (x1 : Word64) (x2 : State) : Chg 32768 x2 (setBank x0 x1 x2) := by
  unfold setBank
  exact .upd (.refl _ _) (i2 := mwf_mset (d := fun _ => 0) x0 x1)

theorem setHbm_chg (x0 : ℕ) (x1 : Word64) (x2 : State) : Chg 32768 x2 (setHbm x0 x1 x2) := by
  unfold setHbm
  exact .upd (.refl _ _) (i3 := mwf_mset (d := fun _ => none) x0 (some x1))

theorem loadBanks_chg (x0 : List (ℕ × Word64)) (x1 : State) : Chg 32768 x1 (loadBanks x0 x1) := by
  unfold loadBanks
  exact .upd (.refl _ _) (i2 := fun _ => mwf_msetAll x0 rfl)

theorem restoreHbm_chg (x0 : ℕ → Bool) (x1 : List (ℕ × Option Word64)) (x2 : State) :
    Chg 32768 x2 (restoreHbm x0 x1 x2) := by
  unfold restoreHbm
  exact .upd (.refl _ _) (i3 := fun h => mwf_msetAll x1 (mwf_filter _ h))

theorem writeStored_chg (x0 : ℕ) (x1 : ℕ) (x2 : Word64) (x3 : Word64) (x4 : State) :
    Chg 32768 x4 (writeStored x0 x1 x2 x3 x4) := by
  unfold writeStored
  try dsimp only
  refine .ite ?_ ?_
  · refine .after (setBank_chg ..) ?_
    exact (.upd (.refl _ _))
  · exact (.after (setHbm_chg ..) (.refl _ _))

theorem markMismatch_chg (x0 : State) :
    Chg 1024 x0 (markMismatch x0) := by
  unfold markMismatch
  try dsimp only
  split
  · exact (.upd (.refl _ _))
  · exact (.refl _ _)

theorem markFatal_chg (x0 : State) :
    Chg 1024 x0 (markFatal x0) := by
  unfold markFatal
  try dsimp only
  exact (.upd (.refl _ _))

theorem queueOverflow_chg (x0 : Word64) (x1 : BitVec 40) (x2 : ℕ) (x3 : ℕ) (x4 : Bool) (x5 : State) :
    Chg 33938 x5 (queueOverflow x0 x1 x2 x3 x4 x5) := by
  unfold queueOverflow
  try dsimp only
  refine .ite ?_ ?_
  · exact (.after (markFatal_chg ..) (.after (raise_chg ..) (.after (memCause_chg ..) (.refl _ _))))
  · refine .after (markMismatch_chg ..) ?_
    refine .upd ?_
    exact (.after (memCnt_chg ..) (.after (raise_chg ..) (.after (memCause_chg ..) (.refl _ _))))

theorem placeEntry_chg (x0 : Word64) (x1 : ℕ) (x2 : ℕ) (x3 : Word64) (x4 : Word64) (x5 : BitVec 40) (x6 : ℕ) (x7 : ℕ)
    (x8 : State) :
    Chg 33938 x8 (placeEntry x0 x1 x2 x3 x4 x5 x6 x7 x8).1 := by
  unfold placeEntry
  try dsimp only
  refine .ite1 ?_ ?_
  · refine .mk1 ?_
    exact (.upd (.refl _ _))
  · refine .ite1 ?_ ?_
    · exact (.mk1 (.after (queueOverflow_chg ..) (.refl _ _)))
    · refine .mk1 ?_
      exact (.upd (.refl _ _))

theorem addNote_chg (x0 : Word64) (x1 : Bool) (x2 : Access) (x3 : State) :
    Chg 32768 x3 (addNote x0 x1 x2 x3) := by
  unfold addNote
  try dsimp only
  exact (.upd (.refl _ _))

theorem addRead_chg (x0 : Word64) (x1 : Access) (x2 : Word64) (x3 : Option ℕ) (x4 : State) :
    Chg 32768 x4 (addRead x0 x1 x2 x3 x4) := by
  unfold addRead
  try dsimp only
  exact (.upd (.refl _ _))

theorem memRead_chg (x0 : Word64) (x1 : Access) (x2 : State) :
    Chg 32768 x2 (memRead x0 x1 x2) := by
  unfold memRead
  try dsimp only
  split
  · exact (.after (addNote_chg ..) (.after (addRead_chg ..) (.refl _ _)))
  · exact (.after (addRead_chg ..) (.refl _ _))

theorem memWrite_chg (x0 : Word64) (x1 : Access) (x2 : State) :
    Chg 33938 x2 (memWrite x0 x1 x2) := by
  unfold memWrite
  try dsimp only
  split
  · exact (.after (addNote_chg ..) (.refl _ _))
  · exact (.ite (.refl _ _) (.after (placeEntry_chg ..) (.refl _ _)))

theorem memAtomic_chg (x0 : Word64) (x1 : Access) (x2 : State) :
    Chg 33938 x2 (memAtomic x0 x1 x2) := by
  unfold memAtomic
  try dsimp only
  split
  · exact (.after (addNote_chg ..) (.after (addRead_chg ..) (.refl _ _)))
  · exact (.ite (.after (addRead_chg ..) (.after (placeEntry_chg ..) (.refl _ _))) (.after (addRead_chg ..) (.after
        (placeEntry_chg ..) (.refl _ _))))

theorem memGroup_chg (x0 : Word64) (x1 : List Access) (x2 : State) :
    Chg 33938 x2 (memGroup x0 x1 x2) := by
  unfold memGroup
  try dsimp only
  exact (.each (.each (.each (.refl _ _) (fun _ _ => (.after (memRead_chg ..) (.refl _ _)))) (fun _ _ => (.ite
      (.after (memWrite_chg ..) (.refl _ _)) (.after (memAtomic_chg ..) (.refl _ _))))) (fun _ _ => (.after
      (addNote_chg ..) (.refl _ _))))

theorem hbmCorrected_chg (x0 : ℕ) (x1 : State) :
    Chg 67109010 x1 (hbmCorrected x0 x1) := by
  unfold hbmCorrected
  try dsimp only
  exact (.after (raise_chg ..) (.after (ledAdd_chg ..) (.after (countUp_chg ..) (.refl _ _))))

theorem hbmUncorrected_chg (x0 : Word64) (x1 : ℕ) (x2 : ℕ) (x3 : Bool) (x4 : State) :
    Chg 146 x4 (hbmUncorrected x0 x1 x2 x3 x4) := by
  unfold hbmUncorrected
  try dsimp only
  exact (.after (raise_chg ..) (.after (memCause_chg ..) (.refl _ _)))

theorem bankStep_chg (x0 : List ReadOut) (x1 : ℕ) (x2 : ReadOut) (x3 : State) :
    Chg 33938 x3 (bankStep x0 x1 x2 x3) := by
  unfold bankStep
  try dsimp only
  refine .ite ?_ ?_
  · exact (.refl _ _)
  · refine .ite ?_ ?_
    · refine .after (memCnt_chg ..) ?_
      exact (.upd (.refl _ _))
    · refine .ite ?_ ?_
      · refine .after (memCnt_chg ..) ?_
        exact (.upd (.refl _ _))
      · refine .ite ?_ ?_
        · refine .after (markFatal_chg ..) ?_
          refine .after (raise_chg ..) ?_
          refine .after (memCause_chg ..) ?_
          exact (.upd (.refl _ _))
        · exact (.upd (.refl _ _))

theorem hbmStart_chg (x0 : ℕ) (x1 : ReadOut) (x2 : State) :
    Chg 67142802 x2 (hbmStart x0 x1 x2) := by
  unfold hbmStart
  try dsimp only
  refine .ite ?_ ?_
  · refine .after (hbmCorrected_chg ..) ?_
    exact (.upd (.refl _ _))
  · refine .ite ?_ ?_
    · refine .after (markFatal_chg ..) ?_
      refine .after (hbmUncorrected_chg ..) ?_
      exact (.upd (.refl _ _))
    · exact (.upd (.refl _ _))

theorem askBurst_chg (x0 : ℕ) (x1 : ℕ) (x2 : State) :
    Chg 32768 x2 (askBurst x0 x1 x2) := by
  unfold askBurst
  try dsimp only
  exact (.upd (.refl _ _))

theorem askBursts_chg (x0 : ℕ) (x1 : List ℕ) (x2 : State) :
    Chg 32768 x2 (askBursts x0 x1 x2) := by
  unfold askBursts
  try dsimp only
  exact (.each (.refl _ _) (fun _ _ => (.after (askBurst_chg ..) (.refl _ _))))

theorem startBurst_chg (x0 : ℕ) (x1 : ℕ → Bool) (x2 : ℕ) (x3 : State) :
    Chg 32776 x3 (startBurst x0 x1 x2 x3) := by
  unfold startBurst
  try dsimp only
  split
  · exact (.refl _ _)
  · refine .ite ?_ ?_
    · refine .after (State_tick1_chg ..) ?_
      exact (.upd (.refl _ _))
    · exact (.refl _ _)

theorem startBursts_chg (x0 : ℕ) (x1 : ℕ → Bool) (x2 : State) :
    Chg 32776 x2 (startBursts x0 x1 x2) := by
  unfold startBursts
  try dsimp only
  exact (.each (.refl _ _) (fun _ _ => (.after (startBurst_chg ..) (.refl _ _))))

theorem hbmStep_chg (x0 : List ReadOut) (x1 : ℕ) (x2 : ReadOut) (x3 : State) :
    Chg 67142810 x3 (hbmStep x0 x1 x2 x3) := by
  unfold hbmStep
  try dsimp only
  refine .ite ?_ ?_
  · exact (.refl _ _)
  · refine .ite ?_ ?_
    · exact (.after (hbmStart_chg ..) (.ite (.after (State_tick1_chg ..) (.refl _ _)) (.refl _ _)))
    · refine .after (memCnt_chg ..) ?_
      refine .upd ?_
      exact (.ite (.after (State_tick1_chg ..) (.refl _ _)) (.refl _ _))

theorem readArrivals_chg (x0 : ℕ) (x1 : State) :
    Chg 33280 x1 (readArrivals x0 x1) := by
  unfold readArrivals
  try dsimp only
  exact (.upd (.refl _ _))

theorem memClock_chg (x0 : State) :
    Chg 67143322 x0 (memClock x0) := by
  unfold memClock
  try dsimp only
  exact (.after (readArrivals_chg ..) (.after (startBursts_chg ..) (.each (.each (.refl _ _) (fun _ _ => (.after
      (bankStep_chg ..) (.refl _ _)))) (fun _ _ => (.after (hbmStep_chg ..) (.refl _ _))))))

theorem releaseAllFour_chg (x0 : State) :
    Chg 32768 x0 (releaseAllFour x0) := by
  unfold releaseAllFour
  try dsimp only
  split
  · refine .ite ?_ ?_
    · exact (.refl _ _)
    · refine .ite ?_ ?_
      · exact (.refl _ _)
      · exact (.upd (.refl _ _))
  · exact (.refl _ _)

theorem dropMem_chg (x0 : Word64 → Bool) (x1 : State) :
    Chg 32768 x1 (dropMem x0 x1) := by
  unfold dropMem
  try dsimp only
  exact (.upd (.refl _ _))

theorem commitMem_chg (x0 : Word64) (x1 : State) :
    Chg 32914 x1 (commitMem x0 x1) := by
  unfold commitMem
  try dsimp only
  refine .after (releaseAllFour_chg ..) ?_
  refine .each ?_ (fun _ _ => ?_)
  · exact (.upd (.refl _ _))
  · exact (.ite (.after (memCnt_chg ..) (.after (raise_chg ..) (.after (memCause_chg ..) (.refl _ _)))) (.after
        (memCnt_chg ..) (.after (raise_chg ..) (.after (memCause_chg ..) (.refl _ _)))))

end Sys2Proof.Laws
end

