-- ==== Sys2Proof/Laws/FrameTime.lean ====
section
/-!
SUPPORT. Laws/FrameTime.lean: which parts of the state the operations of Machine/Time.lean may change.
-/
namespace Sys2Proof.Laws
set_option Elab.async false
open Sys2Proof.Machine

theorem timeClock_chg (x0 : State) :
    Chg 1048576 x0 (timeClock x0) := by
  unfold timeClock
  try dsimp only
  exact (.upd (.refl _ _))

theorem timeStepped_chg (x0 : State) :
    Chg 8388608 x0 (timeStepped x0) := by
  unfold timeStepped
  try dsimp only
  exact (.upd (.refl _ _))

theorem timeMasterFix_chg (x0 : State) :
    Chg 1048576 x0 (timeMasterFix x0) := by
  unfold timeMasterFix
  try dsimp only
  refine .ite ?_ ?_
  · refine .ite ?_ ?_
    · exact (.refl _ _)
    · exact (.upd (.refl _ _))
  · refine .ite ?_ ?_
    · exact (.upd (.refl _ _))
    · exact (.refl _ _)

theorem timeHoldover_chg (x0 : State) :
    Chg 1048722 x0 (timeHoldover x0) := by
  unfold timeHoldover
  try dsimp only
  refine .ite ?_ ?_
  · refine .after (raise_chg ..) ?_
    exact (.upd (.refl _ _))
  · exact (.refl _ _)

theorem upstreamLost_chg (x0 : ℕ) (x1 : State) :
    Chg 1048722 x1 (upstreamLost x0 x1) := by
  unfold upstreamLost
  try dsimp only
  exact (.ite (.after (timeHoldover_chg ..) (.refl _ _)) (.refl _ _))

theorem timeRestart_chg (x0 : State) :
    Chg 1048576 x0 (timeRestart x0) := by
  unfold timeRestart
  try dsimp only
  refine .ite ?_ ?_
  · exact (.refl _ _)
  · exact (.upd (.refl _ _))

theorem State_setTimPort_chg (x0 : State) (x1 : ℕ) (x2 : TimPort) :
    Chg 1048576 x0 (State.setTimPort x0 x1 x2) := by
  unfold State.setTimPort
  try dsimp only
  exact (.upd (.refl _ _))

theorem showMpd_chg (x0 : ℕ) (x1 : State) :
    Chg 2 x1 (showMpd x0 x1) := by
  unfold showMpd
  try dsimp only
  exact (.after (State_setReg_chg ..) (.refl _ _))

theorem clearMpd_chg (x0 : ℕ) (x1 : State) :
    Chg 1048578 x1 (clearMpd x0 x1) := by
  unfold clearMpd
  try dsimp only
  exact (.after (showMpd_chg ..) (.after (State_setTimPort_chg ..) (.refl _ _)))

theorem countBad_chg (x0 : State) :
    Chg 2 x0 (countBad x0) := by
  unfold countBad
  try dsimp only
  exact (.ite (.after (State_setReg_chg ..) (.refl _ _)) (.refl _ _))

theorem addMeasurement_chg (x0 : ℕ) (x1 : ℤ) (x2 : State) :
    Chg 1048578 x2 (addMeasurement x0 x1 x2) := by
  unfold addMeasurement
  try dsimp only
  exact (.ite (.after (showMpd_chg ..) (.after (State_setTimPort_chg ..) (.refl _ _))) (.after (countBad_chg ..)
      (.refl _ _)))

theorem sendTime_chg (x0 : ℕ) (x1 : List TimeBlock) (x2 : State) :
    Chg 131088 x2 (sendTime x0 x1 x2) := by
  unfold sendTime
  try dsimp only
  exact (.ite (.after (sendGroup_chg ..) (.times (.refl _ _) (fun _ _ => (.after (flushWaves_chg ..) (.refl _ _)))))
      (.each (.times (.refl _ _) (fun _ _ => (.after (flushWaves_chg ..) (.refl _ _)))) (fun _ _ => (.after
      (sendTimeBlock_chg ..) (.refl _ _)))))

theorem onTimeBlock_chg {m : Nat} {p : Nat} {b : TimeBlock} {ty : Nat} {f : State → State} {s : State}
    (h : ∀ t, Chg m t (f t)) (hm : 131074 ||| m = m := by decide) : Chg m s (onTimeBlock p b ty f s) := by
  have hs : ∀ k, k ||| 131074 = 131074 → k ||| m = m := fun k hk => by
    calc k ||| m = k ||| (131074 ||| m) := by rw [hm]
      _ = (k ||| 131074) ||| m := (Nat.or_assoc ..).symm
      _ = m := by rw [hk, hm]
  unfold onTimeBlock
  refine .ite (.refl _ _) (laneGives_chg (fun t => ?_) (hs _ rfl))
  exact .ite (.after (countBad_chg ..) (.refl _ _) (hs _ rfl)) (.ite (h t) (.refl _ _))

theorem servoRate_chg (x0 : State) (x1 : ℚ) :
    Chg 1048576 x0 (servoRate x0 x1) := by
  unfold servoRate
  try dsimp only
  exact (.upd (.refl _ _))

theorem servoStep_chg (x0 : BitVec 6) (x1 : BitVec 8) (x2 : ℚ) (x3 : State) :
    Chg 9437330 x3 (servoStep x0 x1 x2 x3) := by
  unfold servoStep
  try dsimp only
  refine .after (timeStepped_chg ..) ?_
  refine .after (raise_chg ..) ?_
  exact (.upd (.refl _ _))

theorem servo_chg (x0 : BitVec 6) (x1 : BitVec 8) (x2 : ℚ) (x3 : State) :
    Chg 9437330 x3 (servo x0 x1 x2 x3) := by
  unfold servo
  try dsimp only
  refine .ite ?_ ?_
  · refine .after (servoStep_chg ..) ?_
    refine .ite ?_ ?_
    · refine .upd ?_
      exact (.after (State_setReg_chg ..) (.refl _ _))
    · exact (.after (State_setReg_chg ..) (.refl _ _))
  · refine .ite ?_ ?_
    · refine .after (raise_chg ..) ?_
      refine .upd ?_
      refine .after (servoRate_chg ..) ?_
      refine .ite ?_ ?_
      · refine .upd ?_
        exact (.after (State_setReg_chg ..) (.refl _ _))
      · exact (.after (State_setReg_chg ..) (.refl _ _))
    · refine .upd ?_
      refine .after (servoRate_chg ..) ?_
      refine .ite ?_ ?_
      · refine .upd ?_
        exact (.after (State_setReg_chg ..) (.refl _ _))
      · exact (.after (State_setReg_chg ..) (.refl _ _))

theorem timeDropped_chg (x0 : ℕ) (x1 : List LanePart) (x2 : State) :
    Chg 1048576 x2 (timeDropped x0 x1 x2) := by
  unfold timeDropped
  try dsimp only
  split
  · exact (.ite (.after (State_setTimPort_chg ..) (.refl _ _)) (.refl _ _))
  · exact (.refl _ _)

theorem timeCompare_chg (x0 : ℕ) (x1 : State) :
    Chg 146 x1 (timeCompare x0 x1) := by
  unfold timeCompare
  try dsimp only
  exact (.ite (.after (lnkCause_chg ..) (.refl _ _)) (.ite (.after (raise_chg ..) (.after (lnkCause_chg ..) (.refl _
      _))) (.refl _ _)))

theorem syncOut_chg (x0 : List ℤ) (x1 : ℕ) (x2 : State) :
    Chg 1179664 x2 (syncOut x0 x1 x2) := by
  unfold syncOut
  try dsimp only
  exact (.ite (.after (State_setTimPort_chg ..) (.after (sendTime_chg ..) (.refl _ _))) (.refl _ _))

theorem execSyncInterval_chg (x0 : List ℤ) (x1 : State) :
    OChg 1179664 x1 (execSyncInterval x0 x1) := by
  unfold execSyncInterval
  try dsimp only
  exact (.run (.each (.refl _ _) (fun _ _ => (.after (syncOut_chg ..) (.refl _ _)))))

theorem pdelayOut_chg (x0 : ℤ) (x1 : ℕ) (x2 : State) :
    Chg 1179664 x2 (pdelayOut x0 x1 x2) := by
  unfold pdelayOut
  try dsimp only
  exact (.ite (.after (State_setTimPort_chg ..) (.after (sendTime_chg ..) (.refl _ _))) (.refl _ _))

theorem execPdelayInterval_chg (x0 : BitVec 4) (x1 : ℤ) (x2 : State) :
    OChg 1179664 x2 (execPdelayInterval x0 x1 x2) := by
  unfold execPdelayInterval
  try dsimp only
  exact (.run (.after (pdelayOut_chg ..) (.refl _ _)))

theorem noteMaster_chg (x0 : ℕ) (x1 : TimeBlock) (x2 : State) :
    Chg 1048576 x2 (noteMaster x0 x1 x2) := by
  unfold noteMaster
  try dsimp only
  refine .ite ?_ ?_
  · exact (.upd (.refl _ _))
  · exact (.refl _ _)

theorem execSyncReceive_chg (x0 : BitVec 4) (x1 : TimeBlock) (x2 : ℤ) (x3 : State) :
    OChg 1179650 x3 (execSyncReceive x0 x1 x2 x3) := by
  unfold execSyncReceive
  try dsimp only
  exact (.run (.after (onTimeBlock_chg (m := 1179650) (fun _ => (.after (noteMaster_chg ..) (.after
      (State_setTimPort_chg ..) (.refl _ _))))) (.refl _ _)))

theorem syncComplete_chg (x0 : ℕ) (x1 : TimeBlock) (x2 : ℚ) (x3 : State) :
    Chg 9437330 x3 (syncComplete x0 x1 x2 x3) := by
  unfold syncComplete
  try dsimp only
  exact (.ite (.after (servo_chg ..) (.after (timeCompare_chg ..) (.after (State_setReg_chg ..) (.refl _ _))))
      (.after (timeCompare_chg ..) (.after (State_setReg_chg ..) (.refl _ _))))

theorem followUp_chg (x0 : ℕ) (x1 : TimeBlock) (x2 : State) :
    Chg 9437330 x2 (followUp x0 x1 x2) := by
  unfold followUp
  try dsimp only
  split
  · exact (.after (noteMaster_chg ..) (.refl _ _))
  · exact (.ite (.ite (.after (syncComplete_chg ..) (.after (State_setTimPort_chg ..) (.after (noteMaster_chg ..)
        (.refl _ _)))) (.after (State_setTimPort_chg ..) (.after (noteMaster_chg ..) (.refl _ _)))) (.after
        (noteMaster_chg ..) (.refl _ _)))

theorem execFollowUpReceive_chg (x0 : BitVec 4) (x1 : TimeBlock) (x2 : State) :
    OChg 9568402 x2 (execFollowUpReceive x0 x1 x2) := by
  unfold execFollowUpReceive
  try dsimp only
  exact (.run (.after (onTimeBlock_chg (m := 9568402) (fun _ => (.after (followUp_chg ..) (.refl _ _)))) (.refl _ _)))

theorem execPdelayReqReceive_chg (x0 : BitVec 4) (x1 : TimeBlock) (x2 : ℤ) (x3 : ℤ) (x4 : State) :
    OChg 131090 x4 (execPdelayReqReceive x0 x1 x2 x3 x4) := by
  unfold execPdelayReqReceive
  try dsimp only
  exact (.run (.after (onTimeBlock_chg (m := 131090) (fun _ => (.ite (.after (sendTime_chg ..) (.refl _ _)) (.refl _
      _)))) (.refl _ _)))

theorem execPdelayRespReceive_chg (x0 : BitVec 4) (x1 : TimeBlock) (x2 : ℤ) (x3 : State) :
    OChg 1179650 x3 (execPdelayRespReceive x0 x1 x2 x3) := by
  unfold execPdelayRespReceive
  try dsimp only
  refine .run ?_
  refine .after (onTimeBlock_chg (m := 1179650) (fun _ => ?_)) ?_
  · split
    · exact (.ite (.after (State_setTimPort_chg ..) (.refl _ _)) (.refl _ _))
    · exact (.refl _ _)
  · exact (.refl _ _)

theorem respFollowUp_chg (x0 : ℕ) (x1 : TimeBlock) (x2 : State) :
    Chg 1048578 x2 (respFollowUp x0 x1 x2) := by
  unfold respFollowUp
  try dsimp only
  split
  · refine .ite ?_ ?_
    · split
      · exact (.after (addMeasurement_chg ..) (.after (State_setTimPort_chg ..) (.refl _ _)))
      · exact (.refl _ _)
    · exact (.refl _ _)
  · exact (.refl _ _)

theorem execPdelayRespFollowUpReceive_chg (x0 : BitVec 4) (x1 : TimeBlock) (x2 : State) :
    OChg 1179650 x2 (execPdelayRespFollowUpReceive x0 x1 x2) := by
  unfold execPdelayRespFollowUpReceive
  try dsimp only
  exact (.run (.after (onTimeBlock_chg (m := 1179650) (fun _ => (.after (respFollowUp_chg ..) (.refl _ _)))) (.refl _
      _)))

theorem execSyncLossTimeout_chg (x0 : State) :
    OChg 1048722 x0 (execSyncLossTimeout x0) := by
  unfold execSyncLossTimeout
  try dsimp only
  exact (.run (.after (timeHoldover_chg ..) (.refl _ _)))

theorem timSetWrite_chg (x0 : Word32) (x1 : State) :
    Chg 9437192 x1 (timSetWrite x0 x1) := by
  unfold timSetWrite
  try dsimp only
  refine .ite ?_ ?_
  · refine .after (timeStepped_chg ..) ?_
    refine .upd ?_
    exact (.ite (.refl _ _) (.after (State_tick1_chg ..) (.refl _ _)))
  · exact (.refl _ _)

theorem execTimSet_chg (x0 : Path) (x1 : Word32) (x2 : State) :
    OChg 9437338 x2 (execTimSet x0 x1 x2) := by
  unfold execTimSet
  try dsimp only
  exact (.run (.after (regAccess_chg (m := 9437338) (fun _ _ => (.after (timSetWrite_chg ..) (.refl _ _)))) (.refl _
      _)))

theorem timCtrlWrite_chg (x0 : Word32) (x1 : State) :
    Chg 1048578 x1 (timCtrlWrite x0 x1) := by
  unfold timCtrlWrite
  try dsimp only
  exact (.ite (.after (timeRestart_chg ..) (.after (storeReg_chg ..) (.refl _ _))) (.after (storeReg_chg ..) (.refl _
      _)))

theorem execTimRestart_chg (x0 : Path) (x1 : Word32) (x2 : State) :
    OChg 1048722 x2 (execTimRestart x0 x1 x2) := by
  unfold execTimRestart
  try dsimp only
  exact (.run (.ite (.after (regAccess_chg (m := 1048722) (fun _ _ => (.after (timCtrlWrite_chg ..) (.refl _ _))))
      (.refl _ _)) (.refl _ _)))

theorem execTimCaptureArm_chg (x0 : Path) (x1 : Word32) (x2 : State) :
    OChg 146 x2 (execTimCaptureArm x0 x1 x2) := by
  unfold execTimCaptureArm
  try dsimp only
  exact (.run (.ite (.after (regAccess_chg (m := 146) (fun _ _ => (.after (storeReg_chg ..) (.refl _ _)))) (.refl _
      _)) (.refl _ _)))

theorem timCfgWrite_chg (x0 : Word32) (x1 : State) :
    Chg 2 x1 (timCfgWrite x0 x1) := by
  unfold timCfgWrite
  try dsimp only
  refine .ite ?_ ?_
  · exact (.after (State_setFld_chg ..) (.ite (.after (State_setFld_chg ..) (.ite (.after (State_setFld_chg ..)
        (.refl _ _)) (.refl _ _))) (.ite (.after (State_setFld_chg ..) (.refl _ _)) (.refl _ _))))
  · exact (.ite (.after (State_setFld_chg ..) (.ite (.after (State_setFld_chg ..) (.refl _ _)) (.refl _ _))) (.ite
        (.after (State_setFld_chg ..) (.refl _ _)) (.refl _ _)))

theorem timeCapture_chg (x0 : ℕ) (x1 : ℕ) (x2 : State) :
    Chg 146 x2 (timeCapture x0 x1 x2) := by
  unfold timeCapture
  try dsimp only
  exact (.ite (.after (raise_chg ..) (.after (State_setBit_chg ..) (.after (State_setReg_chg ..) (.after
      (State_setReg_chg ..) (.after (State_setReg_chg ..) (.after (State_setReg_chg ..) (.refl _ _))))))) (.refl _ _))

end Sys2Proof.Laws
end

