-- ==== Sys2Proof/Laws/FrameLarkspur.lean ====
section
/-!
SUPPORT. Laws/FrameLarkspur.lean: which parts of the state the operations of Machine/Larkspur.lean may change.
-/
namespace Sys2Proof.Laws
set_option Elab.async false
open Sys2Proof.Machine

theorem lksCnt_chg (x0 : ℕ) (x1 : ℕ) (x2 : State) :
    Chg 146 x2 (lksCnt x0 x1 x2) := by
  unfold lksCnt
  try dsimp only
  exact (.after (satAdd_chg ..) (.refl _ _))

theorem lksCause_chg (x0 : ℕ) (x1 : ℕ) (x2 : State) :
    Chg 146 x2 (lksCause x0 x1 x2) := by
  unfold lksCause
  try dsimp only
  exact (.after (raise_chg ..) (.after (causeSet_chg ..) (.refl _ _)))

theorem lksPressure_chg (x0 : State) :
    Chg 8388608 x0 (lksPressure x0) := by
  unfold lksPressure
  try dsimp only
  exact (.upd (.refl _ _))

theorem endBlock_chg (x0 : State) :
    Chg 8388608 x0 (endBlock x0) := by
  unfold endBlock
  try dsimp only
  refine .ite ?_ ?_
  · exact (.refl _ _)
  · exact (.upd (.refl _ _))

theorem streamBytes_chg (x0 : ℕ) (x1 : List Byte) (x2 : State) :
    Chg 8388608 x2 (streamBytes x0 x1 x2) := by
  induction x0 generalizing x1 x2 with
  | zero =>
    unfold streamBytes
    try dsimp only
    exact (.refl _ _)
  | succ n ih =>
    unfold streamBytes
    try dsimp only
    refine .ite ?_ ?_
    · exact (.refl _ _)
    · refine .after (ih ..) ?_
      refine .ite ?_ ?_
      · refine .after (endBlock_chg ..) ?_
        exact (.upd (.refl _ _))
      · exact (.upd (.refl _ _))

theorem streamPacket_chg (x0 : List Byte) (x1 : State) :
    Chg 8388754 x1 (streamPacket x0 x1) := by
  unfold streamPacket
  try dsimp only
  refine .after (streamBytes_chg ..) ?_
  refine .after (lksCnt_chg ..) ?_
  exact (.upd (.refl _ _))

theorem losePacket_chg (x0 : State) :
    Chg 8388754 x0 (losePacket x0) := by
  unfold losePacket
  try dsimp only
  refine .ite ?_ ?_
  · refine .after (lksCnt_chg ..) ?_
    exact (.upd (.refl _ _))
  · refine .after (lksCause_chg ..) ?_
    refine .after (lksCnt_chg ..) ?_
    exact (.upd (.refl _ _))

theorem enterPacket_chg (x0 : List Byte) (x1 : State) :
    Chg 8388754 x1 (enterPacket x0 x1) := by
  unfold enterPacket
  try dsimp only
  exact (.ite (.after (losePacket_chg ..) (.refl _ _)) (.after (streamPacket_chg ..) (.refl _ _)))

theorem putWrap_chg (x0 : State) :
    Chg 8388754 x0 (putWrap x0) := by
  unfold putWrap
  try dsimp only
  refine .ite ?_ ?_
  · exact (.refl _ _)
  · refine .after (enterPacket_chg ..) ?_
    exact (.upd (.refl _ _))

theorem putPacket_chg (x0 : List Byte) (x1 : State) :
    Chg 8388754 x1 (putPacket x0 x1) := by
  unfold putPacket
  try dsimp only
  exact (.after (enterPacket_chg ..) (.after (putWrap_chg ..) (.refl _ _)))

theorem putAnchor_chg (x0 : State) :
    Chg 8388754 x0 (putAnchor x0) := by
  unfold putAnchor
  try dsimp only
  refine .ite ?_ ?_
  · refine .after (putPacket_chg ..) ?_
    exact (.upd (.refl _ _))
  · refine .after (lksCnt_chg ..) ?_
    refine .upd ?_
    refine .after (putPacket_chg ..) ?_
    exact (.upd (.refl _ _))

theorem putIdle_chg (x0 : State) :
    Chg 8388754 x0 (putIdle x0) := by
  unfold putIdle
  try dsimp only
  refine .ite ?_ ?_
  · exact (.refl _ _)
  · refine .after (putPacket_chg ..) ?_
    exact (.upd (.refl _ _))

theorem lksRecover_chg (x0 : State) :
    Chg 8388754 x0 (lksRecover x0) := by
  unfold lksRecover
  try dsimp only
  refine .ite ?_ ?_
  · exact (.refl _ _)
  · refine .ite ?_ ?_
    · refine .after (putAnchor_chg ..) ?_
      refine .after (putPacket_chg ..) ?_
      refine .upd ?_
      exact (.after (putIdle_chg ..) (.refl _ _))
    · exact (.after (putIdle_chg ..) (.refl _ _))

theorem beforePacket_chg (x0 : State) :
    Chg 8388754 x0 (beforePacket x0) := by
  unfold beforePacket
  try dsimp only
  exact (.ite (.after (putAnchor_chg ..) (.after (putIdle_chg ..) (.after (lksRecover_chg ..) (.refl _ _)))) (.after
      (putIdle_chg ..) (.after (lksRecover_chg ..) (.refl _ _))))

theorem lksPacket_chg (x0 : List Byte) (x1 : State) :
    Chg 8388754 x1 (lksPacket x0 x1) := by
  unfold lksPacket
  try dsimp only
  exact (.after (putPacket_chg ..) (.after (beforePacket_chg ..) (.refl _ _)))

theorem lksFlush_chg (x0 : State) :
    Chg 8388754 x0 (lksFlush x0) := by
  unfold lksFlush
  try dsimp only
  exact (.after (endBlock_chg ..) (.after (putIdle_chg ..) (.refl _ _)))

theorem lksDisarm_chg (x0 : State) :
    Chg 8388754 x0 (lksDisarm x0) := by
  unfold lksDisarm
  try dsimp only
  refine .ite ?_ ?_
  · refine .after (lksPressure_chg ..) ?_
    refine .after (State_setBit_chg ..) ?_
    refine .upd ?_
    exact (.after (lksFlush_chg ..) (.refl _ _))
  · exact (.after (State_setBit_chg ..) (.refl _ _))

theorem putMemw_chg (x0 : LksMemw) (x1 : State) :
    Chg 8388754 x1 (putMemw x0 x1) := by
  unfold putMemw
  try dsimp only
  refine .ite ?_ ?_
  · exact (.after (putPacket_chg ..) (.after (beforePacket_chg ..) (.refl _ _)))
  · refine .upd ?_
    exact (.after (putPacket_chg ..) (.after (beforePacket_chg ..) (.refl _ _)))

theorem putMark_chg (x0 : LksMark) (x1 : State) :
    Chg 8388754 x1 (putMark x0 x1) := by
  unfold putMark
  try dsimp only
  exact (.after (lksPacket_chg ..) (.refl _ _))

theorem putAvg_chg (x0 : Bool × List ℕ) (x1 : State) :
    Chg 8388754 x1 (putAvg x0 x1) := by
  unfold putAvg
  try dsimp only
  exact (.after (lksPacket_chg ..) (.refl _ _))

theorem closeParts_chg (x0 : LksCyc) (x1 : State) :
    Chg 8388754 x1 (closeParts x0 x1) := by
  unfold closeParts
  try dsimp only
  exact (.each (.each (.each (.ite (.after (lksPacket_chg ..) (.refl _ _)) (.refl _ _)) (fun _ _ => (.after
      (putMemw_chg ..) (.refl _ _)))) (fun _ _ => (.after (putMark_chg ..) (.refl _ _)))) (fun _ _ => (.after
      (putAvg_chg ..) (.refl _ _))))

theorem closeLast_chg (x0 : LksCyc) (x1 : Bool) (x2 : State) :
    Chg 8388754 x2 (closeLast x0 x1 x2) := by
  unfold closeLast
  try dsimp only
  refine .ite ?_ ?_
  · exact (.after (putPacket_chg ..) (.after (beforePacket_chg ..) (.refl _ _)))
  · exact (.upd (.refl _ _))

theorem closePackets_chg (x0 : LksCyc) (x1 : State) :
    Chg 8388754 x1 (closePackets x0 x1) := by
  unfold closePackets
  try dsimp only
  refine .after (lksCnt_chg ..) ?_
  refine .upd ?_
  exact (.after (closeLast_chg ..) (.after (closeParts_chg ..) (.refl _ _)))

theorem anchorFirst_chg (x0 : State) :
    Chg 8388754 x0 (anchorFirst x0) := by
  unfold anchorFirst
  try dsimp only
  exact (.ite (.after (beforePacket_chg ..) (.refl _ _)) (.refl _ _))

theorem lksClose_chg (x0 : State) :
    Chg 8388754 x0 (lksClose x0) := by
  unfold lksClose
  try dsimp only
  split
  · exact (.refl _ _)
  · refine .ite ?_ ?_
    · exact (.refl _ _)
    · refine .after (lksPressure_chg ..) ?_
      refine .ite ?_ ?_
      · refine .upd ?_
        refine .ite ?_ ?_
        · refine .after (closePackets_chg ..) ?_
          refine .after (anchorFirst_chg ..) ?_
          refine .ite ?_ ?_
          · exact (.upd (.refl _ _))
          · exact (.upd (.refl _ _))
        · refine .ite ?_ ?_
          · exact (.upd (.refl _ _))
          · exact (.upd (.refl _ _))
      · refine .upd ?_
        refine .ite ?_ ?_
        · refine .after (closePackets_chg ..) ?_
          refine .after (anchorFirst_chg ..) ?_
          refine .ite ?_ ?_
          · exact (.upd (.refl _ _))
          · exact (.upd (.refl _ _))
        · refine .ite ?_ ?_
          · exact (.upd (.refl _ _))
          · exact (.upd (.refl _ _))

theorem lksDrain_chg (x0 : State) :
    Chg 8388754 x0 (lksDrain x0) := by
  unfold lksDrain
  try dsimp only
  exact (.times (.refl _ _) (fun _ _ => (.after (lksClose_chg ..) (.refl _ _))))

theorem execLksCycleClose_chg (x0 : State) :
    OChg 8388754 x0 (execLksCycleClose x0) := by
  unfold execLksCycleClose
  try dsimp only
  exact (.run (.after (lksClose_chg ..) (.refl _ _)))

theorem lksCommit_chg (x0 : Word64) (x1 : BitVec 1024) (x2 : List QEntry) (x3 : Bool) (x4 : State) :
    Chg 8388608 x4 (lksCommit x0 x1 x2 x3 x4) := by
  unfold lksCommit
  try dsimp only
  refine .ite ?_ ?_
  · exact (.upd (.refl _ _))
  · exact (.refl _ _)

theorem lksFlow_chg (x0 : ℕ) (x1 : ℕ) (x2 : State) :
    Chg 8388754 x2 (lksFlow x0 x1 x2) := by
  unfold lksFlow
  try dsimp only
  refine .ite ?_ ?_
  · refine .after (lksPressure_chg ..) ?_
    refine .ite ?_ ?_
    · exact (.after (putPacket_chg ..) (.after (beforePacket_chg ..) (.refl _ _)))
    · refine .upd ?_
      exact (.after (putPacket_chg ..) (.after (beforePacket_chg ..) (.refl _ _)))
  · exact (.refl _ _)

theorem execLksFlowRecord_chg (x0 : BitVec 2) (x1 : Word32) (x2 : State) :
    OChg 8388754 x2 (execLksFlowRecord x0 x1 x2) := by
  unfold execLksFlowRecord
  try dsimp only
  exact (.run (.after (lksFlow_chg ..) (.refl _ _)))

theorem execLksFlushTimeout_chg (x0 : State) :
    OChg 8388608 x0 (execLksFlushTimeout x0) := by
  unfold execLksFlushTimeout
  try dsimp only
  exact (.run (.ite (.refl _ _) (.after (lksPressure_chg ..) (.after (endBlock_chg ..) (.refl _ _)))))

theorem execLksAnchorTimer_chg (x0 : State) :
    OChg 8388754 x0 (execLksAnchorTimer x0) := by
  unfold execLksAnchorTimer
  try dsimp only
  exact (.run (.ite (.after (lksPressure_chg ..) (.after (putAnchor_chg ..) (.after (putIdle_chg ..) (.after
      (lksRecover_chg ..) (.refl _ _))))) (.refl _ _)))

theorem lksGap_chg (x0 : Bool) (x1 : State) :
    Chg 8388754 x1 (lksGap x0 x1) := by
  unfold lksGap
  try dsimp only
  exact (.ite (.after (lksPressure_chg ..) (.after (lksFlush_chg ..) (.ite (.after (lksPacket_chg ..) (.after
      (lksDrain_chg ..) (.refl _ _))) (.after (lksDrain_chg ..) (.refl _ _))))) (.after (lksDrain_chg ..) (.refl _
      _)))

theorem lksWake_chg (x0 : State) :
    Chg 8388754 x0 (lksWake x0) := by
  unfold lksWake
  try dsimp only
  exact (.ite (.after (lksPressure_chg ..) (.ite (.after (lksRecover_chg ..) (.refl _ _)) (.after (putAnchor_chg ..)
      (.after (lksRecover_chg ..) (.refl _ _))))) (.refl _ _))

theorem lksRewind_chg (x0 : ℕ) (x1 : Word64) (x2 : BitVec 1024) (x3 : State) :
    Chg 8388754 x3 (lksRewind x0 x1 x2 x3) := by
  unfold lksRewind
  try dsimp only
  refine .ite ?_ ?_
  · refine .ite ?_ ?_
    · refine .after (lksPressure_chg ..) ?_
      refine .after (putAnchor_chg ..) ?_
      refine .upd ?_
      exact (.after (lksPacket_chg ..) (.refl _ _))
    · exact (.upd (.refl _ _))
  · exact (.refl _ _)

theorem sinkLost_chg (x0 : State) :
    Chg 8388754 x0 (sinkLost x0) := by
  unfold sinkLost
  try dsimp only
  refine .ite ?_ ?_
  · exact (.refl _ _)
  · refine .ite ?_ ?_
    · refine .after (lksPressure_chg ..) ?_
      refine .after (lksRecover_chg ..) ?_
      refine .after (lksCnt_chg ..) ?_
      refine .upd ?_
      refine .after (lksCause_chg ..) ?_
      refine .after (lksCnt_chg ..) ?_
      refine .upd ?_
      exact (.ite (.refl _ _) (.after (lksDisarm_chg ..) (.refl _ _)))
    · refine .after (lksPressure_chg ..) ?_
      refine .after (lksCause_chg ..) ?_
      refine .after (lksCnt_chg ..) ?_
      refine .upd ?_
      exact (.ite (.refl _ _) (.after (lksDisarm_chg ..) (.refl _ _)))

theorem loseSink_chg (x0 : ℕ) (x1 : State) :
    Chg 8388754 x1 (loseSink x0 x1) := by
  unfold loseSink
  try dsimp only
  exact (.ite (.after (sinkLost_chg ..) (.refl _ _)) (.refl _ _))

theorem lksArmNow_chg (x0 : Bool) (x1 : State) :
    Chg 8388754 x1 (lksArmNow x0 x1) := by
  unfold lksArmNow
  try dsimp only
  refine .ite ?_ ?_
  · refine .after (lksCause_chg ..) ?_
    refine .after (State_setBit_chg ..) ?_
    exact (.upd (.refl _ _))
  · refine .ite ?_ ?_
    · refine .after (sinkLost_chg ..) ?_
      refine .after (lksPressure_chg ..) ?_
      refine .after (State_setReg_chg ..) ?_
      exact (.upd (.refl _ _))
    · refine .after (lksPressure_chg ..) ?_
      refine .after (State_setReg_chg ..) ?_
      exact (.upd (.refl _ _))

theorem lksCtrlWrite_chg (x0 : Bool) (x1 : Word32) (x2 : State) :
    Chg 8388754 x2 (lksCtrlWrite x0 x1 x2) := by
  unfold lksCtrlWrite
  try dsimp only
  refine .after (lksPressure_chg ..) ?_
  refine .ite ?_ ?_
  · exact (.after (lksFlush_chg ..) (.ite (.ite (.after (storeReg_chg ..) (.refl _ _)) (.after (lksArmNow_chg ..)
        (.after (storeReg_chg ..) (.refl _ _)))) (.ite (.after (lksDisarm_chg ..) (.after (storeReg_chg ..) (.refl _
        _))) (.after (storeReg_chg ..) (.refl _ _)))))
  · exact (.ite (.ite (.after (storeReg_chg ..) (.refl _ _)) (.after (lksArmNow_chg ..) (.after (storeReg_chg ..)
        (.refl _ _)))) (.ite (.after (lksDisarm_chg ..) (.after (storeReg_chg ..) (.refl _ _))) (.after (storeReg_chg
        ..) (.refl _ _))))

theorem execLksArm_chg (x0 : OpWrite) (x1 : Word32) (x2 : State) :
    OChg 8388754 x2 (execLksArm x0 x1 x2) := by
  unfold execLksArm
  try dsimp only
  exact (.run (.ite (.after (regAccess_chg (m := 8388754) (fun _ _ => (.after (lksCtrlWrite_chg ..) (.refl _ _))))
      (.refl _ _)) (.refl _ _)))

theorem execLksDisarm_chg (x0 : Path) (x1 : Word32) (x2 : State) :
    OChg 8388754 x2 (execLksDisarm x0 x1 x2) := by
  unfold execLksDisarm
  try dsimp only
  exact (.run (.ite (.refl _ _) (.after (regAccess_chg (m := 8388754) (fun _ _ => (.after (lksCtrlWrite_chg ..)
      (.refl _ _)))) (.refl _ _))))

theorem execLksFlush_chg (x0 : Path) (x1 : Word32) (x2 : State) :
    OChg 8388754 x2 (execLksFlush x0 x1 x2) := by
  unfold execLksFlush
  try dsimp only
  exact (.run (.ite (.after (regAccess_chg (m := 8388754) (fun _ _ => (.after (lksCtrlWrite_chg ..) (.refl _ _))))
      (.refl _ _)) (.refl _ _)))

theorem lksSinkWrite_chg (x0 : Word32) (x1 : State) :
    Chg 2 x1 (lksSinkWrite x0 x1) := by
  unfold lksSinkWrite
  try dsimp only
  exact (.ite (.refl _ _) (.after (storeReg_chg ..) (.refl _ _)))

theorem countSent_chg (x0 : ℕ) (x1 : State) :
    Chg 8912896 x1 (countSent x0 x1) := by
  unfold countSent
  try dsimp only
  split
  · refine .after (setGrant_chg ..) ?_
    exact (.upd (.refl _ _))
  · exact (.upd (.refl _ _))

theorem blockTaken_chg (x0 : State) :
    Chg 8388754 x0 (blockTaken x0) := by
  unfold blockTaken
  try dsimp only
  refine .after (lksPressure_chg ..) ?_
  refine .after (lksRecover_chg ..) ?_
  refine .after (lksCnt_chg ..) ?_
  exact (.upd (.refl _ _))

theorem writeHbmBytes_chg (x0 : ℕ) (x1 : ℕ) (x2 : List Byte) (x3 : State) :
    Chg 32768 x3 (writeHbmBytes x0 x1 x2 x3) := by
  unfold writeHbmBytes
  try dsimp only
  refine .each ?_ (fun _ _ => ?_)
  · exact (.refl _ _)
  · refine .after (setHbm_chg ..) ?_
    exact (.upd (.refl _ _))

theorem sendRing_chg (x0 : LksBlock) (x1 : State) :
    Chg 8945810 x1 (sendRing x0 x1) := by
  unfold sendRing
  try dsimp only
  refine .ite ?_ ?_
  · exact (.refl _ _)
  · refine .ite ?_ ?_
    · refine .after (lksPressure_chg ..) ?_
      refine .after (lksCnt_chg ..) ?_
      refine .upd ?_
      exact (.after (lksDisarm_chg ..) (.after (lksCause_chg ..) (.after (blockTaken_chg ..) (.after (countSent_chg
          ..) (.after (State_setReg_chg ..) (.after (askBursts_chg ..) (.after (writeHbmBytes_chg ..) (.refl _
          _))))))))
    · exact (.after (blockTaken_chg ..) (.after (countSent_chg ..) (.after (State_setReg_chg ..) (.after
          (askBursts_chg ..) (.after (writeHbmBytes_chg ..) (.refl _ _))))))

theorem sendHost_chg (x0 : LksBlock) (x1 : State) :
    Chg 8913042 x1 (sendHost x0 x1) := by
  unfold sendHost
  try dsimp only
  exact (.ite (.refl _ _) (.after (blockTaken_chg ..) (.after (countSent_chg ..) (.after (State_setReg_chg ..)
      (.after (State_emit_chg ..) (.refl _ _))))))

theorem sendLane_chg (x0 : LksBlock) (x1 : State) :
    Chg 9044114 x1 (sendLane x0 x1) := by
  unfold sendLane
  try dsimp only
  split
  · exact (.refl _ _)
  · exact (.ite (.refl _ _) (.after (blockTaken_chg ..) (.after (countSent_chg ..) (.times (.refl _ _) (fun _ _ =>
        (.after (sendGroup_chg ..) (.refl _ _)))))))

theorem lksSend_chg (x0 : State) :
    Chg 9076882 x0 (lksSend x0) := by
  unfold lksSend
  try dsimp only
  split
  · exact (.refl _ _)
  · exact (.ite (.refl _ _) (.ite (.ite (.after (sinkLost_chg ..) (.refl _ _)) (.after (sendRing_chg ..) (.refl _
        _))) (.ite (.ite (.refl _ _) (.after (sendHost_chg ..) (.refl _ _))) (.ite (.after (sendLane_chg ..) (.refl _
        _)) (.refl _ _)))))

theorem execLksBlockSend_chg (x0 : State) :
    OChg 9076882 x0 (execLksBlockSend x0) := by
  unfold execLksBlockSend
  try dsimp only
  exact (.run (.after (lksSend_chg ..) (.refl _ _)))

theorem execLksSinkLost_chg (x0 : Bool) (x1 : State) :
    OChg 8388754 x1 (execLksSinkLost x0 x1) := by
  unfold execLksSinkLost
  try dsimp only
  refine .run ?_
  refine .ite ?_ ?_
  · refine .after (loseSink_chg ..) ?_
    exact (.upd (.refl _ _))
  · exact (.after (sinkLost_chg ..) (.refl _ _))

theorem execLksHostRdWrite_chg (x0 : Path) (x1 : Word32) (x2 : State) :
    OChg 146 x2 (execLksHostRdWrite x0 x1 x2) := by
  unfold execLksHostRdWrite
  try dsimp only
  exact (.run (.after (regAccess_chg (m := 146) (fun _ _ => (.after (storeReg_chg ..) (.refl _ _)))) (.refl _ _)))

end Sys2Proof.Laws
end

