-- ==== Sys2Proof/Laws/FrameAster.lean ====
section
/-!
SUPPORT. Laws/FrameAster.lean: which parts of the state the operations of Machine/Aster.lean may change.
-/
namespace Sys2Proof.Laws
set_option Elab.async false
open Sys2Proof.Machine

theorem astStat_chg (x0 : ℕ) (x1 : ℕ) (x2 : State) :
    Chg 146 x2 (astStat x0 x1 x2) := by
  unfold astStat
  try dsimp only
  exact (.after (satAdd_chg ..) (.refl _ _))

theorem readGolden_chg (x0 : ℕ) (x1 : State) :
    Chg 67141778 x1 (readGolden x0 x1).2 := by
  unfold readGolden
  try dsimp only
  exact (.ite (.refl _ _) (.each (.after (askBursts_chg ..) (.refl _ _)) (fun _ _ => (.ite (.after (hbmCorrected_chg
      ..) (.refl _ _)) (.ite (.after (hbmUncorrected_chg ..) (.refl _ _)) (.refl _ _))))))

theorem goldenRead_chg (x0 : State) :
    Chg 71336082 x0 (goldenRead x0) := by
  unfold goldenRead
  try dsimp only
  refine .ite ?_ ?_
  · refine .ite ?_ ?_
    · refine .after (raise_chg ..) ?_
      refine .after (causeSet_chg ..) ?_
      refine .after (State_setBit_chg ..) ?_
      refine .upd ?_
      exact (.after (readGolden_chg ..) (.refl _ _))
    · refine .upd ?_
      exact (.after (readGolden_chg ..) (.refl _ _))
  · exact (.refl _ _)

theorem execGoldenRecordRead_chg (x0 : State) :
    OChg 71336082 x0 (execGoldenRecordRead x0) := by
  unfold execGoldenRecordRead
  try dsimp only
  exact (.run (.after (goldenRead_chg ..) (.refl _ _)))

theorem tdcLose_chg (x0 : ℕ) (x1 : State) :
    Chg 146 x1 (tdcLose x0 x1) := by
  unfold tdcLose
  try dsimp only
  exact (.after (raise_chg ..) (.after (glvCnt_chg ..) (.after (glvCause_chg ..) (.refl _ _))))

theorem tdcToAster_chg (x0 : ℕ) (x1 : ℕ) (x2 : State) :
    Chg 4194450 x2 (tdcToAster x0 x1 x2) := by
  unfold tdcToAster
  try dsimp only
  refine .ite ?_ ?_
  · exact (.after (raise_chg ..) (.after (astStat_chg ..) (.after (causeSet_chg ..) (.refl _ _))))
  · exact (.upd (.refl _ _))

theorem tdcEdge_chg (x0 : ℕ) (x1 : ℕ) (x2 : Bool) (x3 : State) :
    Chg 6291602 x3 (tdcEdge x0 x1 x2 x3) := by
  unfold tdcEdge
  try dsimp only
  refine .ite ?_ ?_
  · refine .ite ?_ ?_
    · exact (.after (tdcLose_chg ..) (.refl _ _))
    · refine .ite ?_ ?_
      · refine .after (tdcToAster_chg ..) ?_
        refine .after (glvCnt_chg ..) ?_
        exact (.upd (.refl _ _))
      · refine .after (timeCapture_chg ..) ?_
        refine .after (tdcToAster_chg ..) ?_
        refine .after (glvCnt_chg ..) ?_
        exact (.upd (.refl _ _))
  · exact (.refl _ _)

theorem execTdcEdge_chg (x0 : BitVec 6) (x1 : Bool) (x2 : BitVec 6) (x3 : State) :
    OChg 6291602 x3 (execTdcEdge x0 x1 x2 x3) := by
  unfold execTdcEdge
  try dsimp only
  exact (.run (.after (tdcEdge_chg ..) (.refl _ _)))

theorem tdcAssign_chg (x0 : Word64) (x1 : State) :
    Chg 4194450 x1 (tdcAssign x0 x1) := by
  unfold tdcAssign
  try dsimp only
  refine .after (astStat_chg ..) ?_
  exact (.upd (.refl _ _))

theorem lksMark_chg (x0 : Word64) (x1 : LksMark) (x2 : State) :
    Chg 8388608 x2 (lksMark x0 x1 x2) := by
  unfold lksMark
  try dsimp only
  exact (.upd (.refl _ _))

theorem trigRecord_chg (x0 : AstEntry) (x1 : Word32) (x2 : State) :
    Chg 12582914 x2 (trigRecord x0 x1 x2) := by
  unfold trigRecord
  try dsimp only
  refine .after (lksMark_chg ..) ?_
  refine .after (State_setReg_chg ..) ?_
  refine .after (State_setReg_chg ..) ?_
  refine .after (State_setReg_chg ..) ?_
  refine .after (State_setReg_chg ..) ?_
  refine .after (State_setReg_chg ..) ?_
  refine .after (State_setReg64_chg ..) ?_
  exact (.upd (.refl _ _))

theorem trigAction_chg (x0 : AstEntry) (x1 : Word32) (x2 : State) :
    Chg 12583058 x2 (trigAction x0 x1 x2) := by
  unfold trigAction
  try dsimp only
  exact (.after (raise_chg ..) (.after (astStat_chg ..) (.ite (.after (lksMark_chg ..) (.refl _ _)) (.after
      (trigRecord_chg ..) (.refl _ _)))))

theorem setPause_chg (x0 : State) :
    Chg 2 x0 (setPause x0) := by
  unfold setPause
  try dsimp only
  exact (.after (State_setBit_chg ..) (.refl _ _))

theorem astStop_chg (x0 : Word64) (x1 : State) :
    Chg 4194450 x1 (astStop x0 x1) := by
  unfold astStop
  try dsimp only
  refine .ite ?_ ?_
  · exact (.refl _ _)
  · refine .after (raise_chg ..) ?_
    refine .after (setPause_chg ..) ?_
    exact (.upd (.refl _ _))

theorem branchActions_chg (x0 : AstEntry) (x1 : Word32) (x2 : Word32) (x3 : State) :
    Chg 12583058 x3 (branchActions x0 x1 x2 x3) := by
  unfold branchActions
  try dsimp only
  refine .upd ?_
  refine .ite ?_ ?_
  · refine .after (lksMark_chg ..) ?_
    refine .ite ?_ ?_
    · refine .after (lksMark_chg ..) ?_
      refine .ite ?_ ?_
      · refine .ite ?_ ?_
        · refine .after (astStop_chg ..) ?_
          refine .ite ?_ ?_
          · refine .after (raise_chg ..) ?_
            refine .ite ?_ ?_
            · refine .after (trigAction_chg ..) ?_
              refine .each ?_ (fun _ _ => ?_)
              · exact (.each (.each (.refl _ _) (fun _ _ => (.ite (.after (State_setReg_chg ..) (.refl _ _)) (.refl _
                    _)))) (fun _ _ => (.ite (.after (State_setReg_chg ..) (.refl _ _)) (.refl _ _))))
              · refine .ite ?_ ?_
                · exact (.upd (.refl _ _))
                · exact (.refl _ _)
            · refine .each ?_ (fun _ _ => ?_)
              · exact (.each (.each (.refl _ _) (fun _ _ => (.ite (.after (State_setReg_chg ..) (.refl _ _)) (.refl _
                    _)))) (fun _ _ => (.ite (.after (State_setReg_chg ..) (.refl _ _)) (.refl _ _))))
              · refine .ite ?_ ?_
                · exact (.upd (.refl _ _))
                · exact (.refl _ _)
          · refine .ite ?_ ?_
            · refine .after (trigAction_chg ..) ?_
              refine .each ?_ (fun _ _ => ?_)
              · exact (.each (.each (.refl _ _) (fun _ _ => (.ite (.after (State_setReg_chg ..) (.refl _ _)) (.refl _
                    _)))) (fun _ _ => (.ite (.after (State_setReg_chg ..) (.refl _ _)) (.refl _ _))))
              · refine .ite ?_ ?_
                · exact (.upd (.refl _ _))
                · exact (.refl _ _)
            · refine .each ?_ (fun _ _ => ?_)
              · exact (.each (.each (.refl _ _) (fun _ _ => (.ite (.after (State_setReg_chg ..) (.refl _ _)) (.refl _
                    _)))) (fun _ _ => (.ite (.after (State_setReg_chg ..) (.refl _ _)) (.refl _ _))))
              · refine .ite ?_ ?_
                · exact (.upd (.refl _ _))
                · exact (.refl _ _)
        · refine .after (setPause_chg ..) ?_
          refine .ite ?_ ?_
          · refine .after (raise_chg ..) ?_
            refine .ite ?_ ?_
            · refine .after (trigAction_chg ..) ?_
              refine .each ?_ (fun _ _ => ?_)
              · exact (.each (.each (.refl _ _) (fun _ _ => (.ite (.after (State_setReg_chg ..) (.refl _ _)) (.refl _
                    _)))) (fun _ _ => (.ite (.after (State_setReg_chg ..) (.refl _ _)) (.refl _ _))))
              · refine .ite ?_ ?_
                · exact (.upd (.refl _ _))
                · exact (.refl _ _)
            · refine .each ?_ (fun _ _ => ?_)
              · exact (.each (.each (.refl _ _) (fun _ _ => (.ite (.after (State_setReg_chg ..) (.refl _ _)) (.refl _
                    _)))) (fun _ _ => (.ite (.after (State_setReg_chg ..) (.refl _ _)) (.refl _ _))))
              · refine .ite ?_ ?_
                · exact (.upd (.refl _ _))
                · exact (.refl _ _)
          · refine .ite ?_ ?_
            · refine .after (trigAction_chg ..) ?_
              refine .each ?_ (fun _ _ => ?_)
              · exact (.each (.each (.refl _ _) (fun _ _ => (.ite (.after (State_setReg_chg ..) (.refl _ _)) (.refl _
                    _)))) (fun _ _ => (.ite (.after (State_setReg_chg ..) (.refl _ _)) (.refl _ _))))
              · refine .ite ?_ ?_
                · exact (.upd (.refl _ _))
                · exact (.refl _ _)
            · refine .each ?_ (fun _ _ => ?_)
              · exact (.each (.each (.refl _ _) (fun _ _ => (.ite (.after (State_setReg_chg ..) (.refl _ _)) (.refl _
                    _)))) (fun _ _ => (.ite (.after (State_setReg_chg ..) (.refl _ _)) (.refl _ _))))
              · refine .ite ?_ ?_
                · exact (.upd (.refl _ _))
                · exact (.refl _ _)
      · refine .ite ?_ ?_
        · refine .after (raise_chg ..) ?_
          refine .ite ?_ ?_
          · refine .after (trigAction_chg ..) ?_
            refine .each ?_ (fun _ _ => ?_)
            · exact (.each (.each (.refl _ _) (fun _ _ => (.ite (.after (State_setReg_chg ..) (.refl _ _)) (.refl _
                  _)))) (fun _ _ => (.ite (.after (State_setReg_chg ..) (.refl _ _)) (.refl _ _))))
            · refine .ite ?_ ?_
              · exact (.upd (.refl _ _))
              · exact (.refl _ _)
          · refine .each ?_ (fun _ _ => ?_)
            · exact (.each (.each (.refl _ _) (fun _ _ => (.ite (.after (State_setReg_chg ..) (.refl _ _)) (.refl _
                  _)))) (fun _ _ => (.ite (.after (State_setReg_chg ..) (.refl _ _)) (.refl _ _))))
            · refine .ite ?_ ?_
              · exact (.upd (.refl _ _))
              · exact (.refl _ _)
        · refine .ite ?_ ?_
          · refine .after (trigAction_chg ..) ?_
            refine .each ?_ (fun _ _ => ?_)
            · exact (.each (.each (.refl _ _) (fun _ _ => (.ite (.after (State_setReg_chg ..) (.refl _ _)) (.refl _
                  _)))) (fun _ _ => (.ite (.after (State_setReg_chg ..) (.refl _ _)) (.refl _ _))))
            · refine .ite ?_ ?_
              · exact (.upd (.refl _ _))
              · exact (.refl _ _)
          · refine .each ?_ (fun _ _ => ?_)
            · exact (.each (.each (.refl _ _) (fun _ _ => (.ite (.after (State_setReg_chg ..) (.refl _ _)) (.refl _
                  _)))) (fun _ _ => (.ite (.after (State_setReg_chg ..) (.refl _ _)) (.refl _ _))))
            · refine .ite ?_ ?_
              · exact (.upd (.refl _ _))
              · exact (.refl _ _)
    · refine .ite ?_ ?_
      · refine .ite ?_ ?_
        · refine .after (astStop_chg ..) ?_
          refine .ite ?_ ?_
          · refine .after (raise_chg ..) ?_
            refine .ite ?_ ?_
            · refine .after (trigAction_chg ..) ?_
              refine .each ?_ (fun _ _ => ?_)
              · exact (.each (.each (.refl _ _) (fun _ _ => (.ite (.after (State_setReg_chg ..) (.refl _ _)) (.refl _
                    _)))) (fun _ _ => (.ite (.after (State_setReg_chg ..) (.refl _ _)) (.refl _ _))))
              · refine .ite ?_ ?_
                · exact (.upd (.refl _ _))
                · exact (.refl _ _)
            · refine .each ?_ (fun _ _ => ?_)
              · exact (.each (.each (.refl _ _) (fun _ _ => (.ite (.after (State_setReg_chg ..) (.refl _ _)) (.refl _
                    _)))) (fun _ _ => (.ite (.after (State_setReg_chg ..) (.refl _ _)) (.refl _ _))))
              · refine .ite ?_ ?_
                · exact (.upd (.refl _ _))
                · exact (.refl _ _)
          · refine .ite ?_ ?_
            · refine .after (trigAction_chg ..) ?_
              refine .each ?_ (fun _ _ => ?_)
              · exact (.each (.each (.refl _ _) (fun _ _ => (.ite (.after (State_setReg_chg ..) (.refl _ _)) (.refl _
                    _)))) (fun _ _ => (.ite (.after (State_setReg_chg ..) (.refl _ _)) (.refl _ _))))
              · refine .ite ?_ ?_
                · exact (.upd (.refl _ _))
                · exact (.refl _ _)
            · refine .each ?_ (fun _ _ => ?_)
              · exact (.each (.each (.refl _ _) (fun _ _ => (.ite (.after (State_setReg_chg ..) (.refl _ _)) (.refl _
                    _)))) (fun _ _ => (.ite (.after (State_setReg_chg ..) (.refl _ _)) (.refl _ _))))
              · refine .ite ?_ ?_
                · exact (.upd (.refl _ _))
                · exact (.refl _ _)
        · refine .after (setPause_chg ..) ?_
          refine .ite ?_ ?_
          · refine .after (raise_chg ..) ?_
            refine .ite ?_ ?_
            · refine .after (trigAction_chg ..) ?_
              refine .each ?_ (fun _ _ => ?_)
              · exact (.each (.each (.refl _ _) (fun _ _ => (.ite (.after (State_setReg_chg ..) (.refl _ _)) (.refl _
                    _)))) (fun _ _ => (.ite (.after (State_setReg_chg ..) (.refl _ _)) (.refl _ _))))
              · refine .ite ?_ ?_
                · exact (.upd (.refl _ _))
                · exact (.refl _ _)
            · refine .each ?_ (fun _ _ => ?_)
              · exact (.each (.each (.refl _ _) (fun _ _ => (.ite (.after (State_setReg_chg ..) (.refl _ _)) (.refl _
                    _)))) (fun _ _ => (.ite (.after (State_setReg_chg ..) (.refl _ _)) (.refl _ _))))
              · refine .ite ?_ ?_
                · exact (.upd (.refl _ _))
                · exact (.refl _ _)
          · refine .ite ?_ ?_
            · refine .after (trigAction_chg ..) ?_
              refine .each ?_ (fun _ _ => ?_)
              · exact (.each (.each (.refl _ _) (fun _ _ => (.ite (.after (State_setReg_chg ..) (.refl _ _)) (.refl _
                    _)))) (fun _ _ => (.ite (.after (State_setReg_chg ..) (.refl _ _)) (.refl _ _))))
              · refine .ite ?_ ?_
                · exact (.upd (.refl _ _))
                · exact (.refl _ _)
            · refine .each ?_ (fun _ _ => ?_)
              · exact (.each (.each (.refl _ _) (fun _ _ => (.ite (.after (State_setReg_chg ..) (.refl _ _)) (.refl _
                    _)))) (fun _ _ => (.ite (.after (State_setReg_chg ..) (.refl _ _)) (.refl _ _))))
              · refine .ite ?_ ?_
                · exact (.upd (.refl _ _))
                · exact (.refl _ _)
      · refine .ite ?_ ?_
        · refine .after (raise_chg ..) ?_
          refine .ite ?_ ?_
          · refine .after (trigAction_chg ..) ?_
            refine .each ?_ (fun _ _ => ?_)
            · exact (.each (.each (.refl _ _) (fun _ _ => (.ite (.after (State_setReg_chg ..) (.refl _ _)) (.refl _
                  _)))) (fun _ _ => (.ite (.after (State_setReg_chg ..) (.refl _ _)) (.refl _ _))))
            · refine .ite ?_ ?_
              · exact (.upd (.refl _ _))
              · exact (.refl _ _)
          · refine .each ?_ (fun _ _ => ?_)
            · exact (.each (.each (.refl _ _) (fun _ _ => (.ite (.after (State_setReg_chg ..) (.refl _ _)) (.refl _
                  _)))) (fun _ _ => (.ite (.after (State_setReg_chg ..) (.refl _ _)) (.refl _ _))))
            · refine .ite ?_ ?_
              · exact (.upd (.refl _ _))
              · exact (.refl _ _)
        · refine .ite ?_ ?_
          · refine .after (trigAction_chg ..) ?_
            refine .each ?_ (fun _ _ => ?_)
            · exact (.each (.each (.refl _ _) (fun _ _ => (.ite (.after (State_setReg_chg ..) (.refl _ _)) (.refl _
                  _)))) (fun _ _ => (.ite (.after (State_setReg_chg ..) (.refl _ _)) (.refl _ _))))
            · refine .ite ?_ ?_
              · exact (.upd (.refl _ _))
              · exact (.refl _ _)
          · refine .each ?_ (fun _ _ => ?_)
            · exact (.each (.each (.refl _ _) (fun _ _ => (.ite (.after (State_setReg_chg ..) (.refl _ _)) (.refl _
                  _)))) (fun _ _ => (.ite (.after (State_setReg_chg ..) (.refl _ _)) (.refl _ _))))
            · refine .ite ?_ ?_
              · exact (.upd (.refl _ _))
              · exact (.refl _ _)
  · refine .ite ?_ ?_
    · refine .after (lksMark_chg ..) ?_
      refine .ite ?_ ?_
      · refine .ite ?_ ?_
        · refine .after (astStop_chg ..) ?_
          refine .ite ?_ ?_
          · refine .after (raise_chg ..) ?_
            refine .ite ?_ ?_
            · refine .after (trigAction_chg ..) ?_
              refine .each ?_ (fun _ _ => ?_)
              · exact (.each (.each (.refl _ _) (fun _ _ => (.ite (.after (State_setReg_chg ..) (.refl _ _)) (.refl _
                    _)))) (fun _ _ => (.ite (.after (State_setReg_chg ..) (.refl _ _)) (.refl _ _))))
              · refine .ite ?_ ?_
                · exact (.upd (.refl _ _))
                · exact (.refl _ _)
            · refine .each ?_ (fun _ _ => ?_)
              · exact (.each (.each (.refl _ _) (fun _ _ => (.ite (.after (State_setReg_chg ..) (.refl _ _)) (.refl _
                    _)))) (fun _ _ => (.ite (.after (State_setReg_chg ..) (.refl _ _)) (.refl _ _))))
              · refine .ite ?_ ?_
                · exact (.upd (.refl _ _))
                · exact (.refl _ _)
          · refine .ite ?_ ?_
            · refine .after (trigAction_chg ..) ?_
              refine .each ?_ (fun _ _ => ?_)
              · exact (.each (.each (.refl _ _) (fun _ _ => (.ite (.after (State_setReg_chg ..) (.refl _ _)) (.refl _
                    _)))) (fun _ _ => (.ite (.after (State_setReg_chg ..) (.refl _ _)) (.refl _ _))))
              · refine .ite ?_ ?_
                · exact (.upd (.refl _ _))
                · exact (.refl _ _)
            · refine .each ?_ (fun _ _ => ?_)
              · exact (.each (.each (.refl _ _) (fun _ _ => (.ite (.after (State_setReg_chg ..) (.refl _ _)) (.refl _
                    _)))) (fun _ _ => (.ite (.after (State_setReg_chg ..) (.refl _ _)) (.refl _ _))))
              · refine .ite ?_ ?_
                · exact (.upd (.refl _ _))
                · exact (.refl _ _)
        · refine .after (setPause_chg ..) ?_
          refine .ite ?_ ?_
          · refine .after (raise_chg ..) ?_
            refine .ite ?_ ?_
            · refine .after (trigAction_chg ..) ?_
              refine .each ?_ (fun _ _ => ?_)
              · exact (.each (.each (.refl _ _) (fun _ _ => (.ite (.after (State_setReg_chg ..) (.refl _ _)) (.refl _
                    _)))) (fun _ _ => (.ite (.after (State_setReg_chg ..) (.refl _ _)) (.refl _ _))))
              · refine .ite ?_ ?_
                · exact (.upd (.refl _ _))
                · exact (.refl _ _)
            · refine .each ?_ (fun _ _ => ?_)
              · exact (.each (.each (.refl _ _) (fun _ _ => (.ite (.after (State_setReg_chg ..) (.refl _ _)) (.refl _
                    _)))) (fun _ _ => (.ite (.after (State_setReg_chg ..) (.refl _ _)) (.refl _ _))))
              · refine .ite ?_ ?_
                · exact (.upd (.refl _ _))
                · exact (.refl _ _)
          · refine .ite ?_ ?_
            · refine .after (trigAction_chg ..) ?_
              refine .each ?_ (fun _ _ => ?_)
              · exact (.each (.each (.refl _ _) (fun _ _ => (.ite (.after (State_setReg_chg ..) (.refl _ _)) (.refl _
                    _)))) (fun _ _ => (.ite (.after (State_setReg_chg ..) (.refl _ _)) (.refl _ _))))
              · refine .ite ?_ ?_
                · exact (.upd (.refl _ _))
                · exact (.refl _ _)
            · refine .each ?_ (fun _ _ => ?_)
              · exact (.each (.each (.refl _ _) (fun _ _ => (.ite (.after (State_setReg_chg ..) (.refl _ _)) (.refl _
                    _)))) (fun _ _ => (.ite (.after (State_setReg_chg ..) (.refl _ _)) (.refl _ _))))
              · refine .ite ?_ ?_
                · exact (.upd (.refl _ _))
                · exact (.refl _ _)
      · refine .ite ?_ ?_
        · refine .after (raise_chg ..) ?_
          refine .ite ?_ ?_
          · refine .after (trigAction_chg ..) ?_
            refine .each ?_ (fun _ _ => ?_)
            · exact (.each (.each (.refl _ _) (fun _ _ => (.ite (.after (State_setReg_chg ..) (.refl _ _)) (.refl _
                  _)))) (fun _ _ => (.ite (.after (State_setReg_chg ..) (.refl _ _)) (.refl _ _))))
            · refine .ite ?_ ?_
              · exact (.upd (.refl _ _))
              · exact (.refl _ _)
          · refine .each ?_ (fun _ _ => ?_)
            · exact (.each (.each (.refl _ _) (fun _ _ => (.ite (.after (State_setReg_chg ..) (.refl _ _)) (.refl _
                  _)))) (fun _ _ => (.ite (.after (State_setReg_chg ..) (.refl _ _)) (.refl _ _))))
            · refine .ite ?_ ?_
              · exact (.upd (.refl _ _))
              · exact (.refl _ _)
        · refine .ite ?_ ?_
          · refine .after (trigAction_chg ..) ?_
            refine .each ?_ (fun _ _ => ?_)
            · exact (.each (.each (.refl _ _) (fun _ _ => (.ite (.after (State_setReg_chg ..) (.refl _ _)) (.refl _
                  _)))) (fun _ _ => (.ite (.after (State_setReg_chg ..) (.refl _ _)) (.refl _ _))))
            · refine .ite ?_ ?_
              · exact (.upd (.refl _ _))
              · exact (.refl _ _)
          · refine .each ?_ (fun _ _ => ?_)
            · exact (.each (.each (.refl _ _) (fun _ _ => (.ite (.after (State_setReg_chg ..) (.refl _ _)) (.refl _
                  _)))) (fun _ _ => (.ite (.after (State_setReg_chg ..) (.refl _ _)) (.refl _ _))))
            · refine .ite ?_ ?_
              · exact (.upd (.refl _ _))
              · exact (.refl _ _)
    · refine .ite ?_ ?_
      · refine .ite ?_ ?_
        · refine .after (astStop_chg ..) ?_
          refine .ite ?_ ?_
          · refine .after (raise_chg ..) ?_
            refine .ite ?_ ?_
            · refine .after (trigAction_chg ..) ?_
              refine .each ?_ (fun _ _ => ?_)
              · exact (.each (.each (.refl _ _) (fun _ _ => (.ite (.after (State_setReg_chg ..) (.refl _ _)) (.refl _
                    _)))) (fun _ _ => (.ite (.after (State_setReg_chg ..) (.refl _ _)) (.refl _ _))))
              · refine .ite ?_ ?_
                · exact (.upd (.refl _ _))
                · exact (.refl _ _)
            · refine .each ?_ (fun _ _ => ?_)
              · exact (.each (.each (.refl _ _) (fun _ _ => (.ite (.after (State_setReg_chg ..) (.refl _ _)) (.refl _
                    _)))) (fun _ _ => (.ite (.after (State_setReg_chg ..) (.refl _ _)) (.refl _ _))))
              · refine .ite ?_ ?_
                · exact (.upd (.refl _ _))
                · exact (.refl _ _)
          · refine .ite ?_ ?_
            · refine .after (trigAction_chg ..) ?_
              refine .each ?_ (fun _ _ => ?_)
              · exact (.each (.each (.refl _ _) (fun _ _ => (.ite (.after (State_setReg_chg ..) (.refl _ _)) (.refl _
                    _)))) (fun _ _ => (.ite (.after (State_setReg_chg ..) (.refl _ _)) (.refl _ _))))
              · refine .ite ?_ ?_
                · exact (.upd (.refl _ _))
                · exact (.refl _ _)
            · refine .each ?_ (fun _ _ => ?_)
              · exact (.each (.each (.refl _ _) (fun _ _ => (.ite (.after (State_setReg_chg ..) (.refl _ _)) (.refl _
                    _)))) (fun _ _ => (.ite (.after (State_setReg_chg ..) (.refl _ _)) (.refl _ _))))
              · refine .ite ?_ ?_
                · exact (.upd (.refl _ _))
                · exact (.refl _ _)
        · refine .after (setPause_chg ..) ?_
          refine .ite ?_ ?_
          · refine .after (raise_chg ..) ?_
            refine .ite ?_ ?_
            · refine .after (trigAction_chg ..) ?_
              refine .each ?_ (fun _ _ => ?_)
              · exact (.each (.each (.refl _ _) (fun _ _ => (.ite (.after (State_setReg_chg ..) (.refl _ _)) (.refl _
                    _)))) (fun _ _ => (.ite (.after (State_setReg_chg ..) (.refl _ _)) (.refl _ _))))
              · refine .ite ?_ ?_
                · exact (.upd (.refl _ _))
                · exact (.refl _ _)
            · refine .each ?_ (fun _ _ => ?_)
              · exact (.each (.each (.refl _ _) (fun _ _ => (.ite (.after (State_setReg_chg ..) (.refl _ _)) (.refl _
                    _)))) (fun _ _ => (.ite (.after (State_setReg_chg ..) (.refl _ _)) (.refl _ _))))
              · refine .ite ?_ ?_
                · exact (.upd (.refl _ _))
                · exact (.refl _ _)
          · refine .ite ?_ ?_
            · refine .after (trigAction_chg ..) ?_
              refine .each ?_ (fun _ _ => ?_)
              · exact (.each (.each (.refl _ _) (fun _ _ => (.ite (.after (State_setReg_chg ..) (.refl _ _)) (.refl _
                    _)))) (fun _ _ => (.ite (.after (State_setReg_chg ..) (.refl _ _)) (.refl _ _))))
              · refine .ite ?_ ?_
                · exact (.upd (.refl _ _))
                · exact (.refl _ _)
            · refine .each ?_ (fun _ _ => ?_)
              · exact (.each (.each (.refl _ _) (fun _ _ => (.ite (.after (State_setReg_chg ..) (.refl _ _)) (.refl _
                    _)))) (fun _ _ => (.ite (.after (State_setReg_chg ..) (.refl _ _)) (.refl _ _))))
              · refine .ite ?_ ?_
                · exact (.upd (.refl _ _))
                · exact (.refl _ _)
      · refine .ite ?_ ?_
        · refine .after (raise_chg ..) ?_
          refine .ite ?_ ?_
          · refine .after (trigAction_chg ..) ?_
            refine .each ?_ (fun _ _ => ?_)
            · exact (.each (.each (.refl _ _) (fun _ _ => (.ite (.after (State_setReg_chg ..) (.refl _ _)) (.refl _
                  _)))) (fun _ _ => (.ite (.after (State_setReg_chg ..) (.refl _ _)) (.refl _ _))))
            · refine .ite ?_ ?_
              · exact (.upd (.refl _ _))
              · exact (.refl _ _)
          · refine .each ?_ (fun _ _ => ?_)
            · exact (.each (.each (.refl _ _) (fun _ _ => (.ite (.after (State_setReg_chg ..) (.refl _ _)) (.refl _
                  _)))) (fun _ _ => (.ite (.after (State_setReg_chg ..) (.refl _ _)) (.refl _ _))))
            · refine .ite ?_ ?_
              · exact (.upd (.refl _ _))
              · exact (.refl _ _)
        · refine .ite ?_ ?_
          · refine .after (trigAction_chg ..) ?_
            refine .each ?_ (fun _ _ => ?_)
            · exact (.each (.each (.refl _ _) (fun _ _ => (.ite (.after (State_setReg_chg ..) (.refl _ _)) (.refl _
                  _)))) (fun _ _ => (.ite (.after (State_setReg_chg ..) (.refl _ _)) (.refl _ _))))
            · refine .ite ?_ ?_
              · exact (.upd (.refl _ _))
              · exact (.refl _ _)
          · refine .each ?_ (fun _ _ => ?_)
            · exact (.each (.each (.refl _ _) (fun _ _ => (.ite (.after (State_setReg_chg ..) (.refl _ _)) (.refl _
                  _)))) (fun _ _ => (.ite (.after (State_setReg_chg ..) (.refl _ _)) (.refl _ _))))
            · refine .ite ?_ ?_
              · exact (.upd (.refl _ _))
              · exact (.refl _ _)

theorem violProbe_chg (x0 : Option ℕ) (x1 : State) :
    Chg 8 x1 (violProbe x0 x1).2 := by
  unfold violProbe
  try dsimp only
  split
  · exact (.refl _ _)
  · exact (.after (State_tick1_chg ..) (.refl _ _))

theorem mtViolation_chg (x0 : AstEntry) (x1 : Option ℕ) (x2 : State) :
    Chg 4194458 x2 (mtViolation x0 x1 x2) := by
  unfold mtViolation
  try dsimp only
  refine .ite ?_ ?_
  · exact (.after (astStop_chg ..) (.ite (.after (astStat_chg ..) (.after (countUp_chg ..) (.refl _ _))) (.after
        (raise_chg ..) (.after (State_setBit_chg ..) (.after (State_setReg_chg ..) (.after (State_setReg64_chg ..)
        (.after (violProbe_chg ..) (.after (astStat_chg ..) (.after (countUp_chg ..) (.refl _ _))))))))))
  · exact (.ite (.after (astStat_chg ..) (.after (countUp_chg ..) (.refl _ _))) (.after (raise_chg ..) (.after
        (State_setBit_chg ..) (.after (State_setReg_chg ..) (.after (State_setReg64_chg ..) (.after (violProbe_chg
        ..) (.after (astStat_chg ..) (.after (countUp_chg ..) (.refl _ _)))))))))

theorem mtEnd_chg (x0 : ℕ) (x1 : State) :
    Chg 146 x1 (mtEnd x0 x1) := by
  unfold mtEnd
  try dsimp only
  exact (.ite (.after (raise_chg ..) (.after (State_setBit_chg ..) (.after (State_setBit_chg ..) (.refl _ _))))
      (.refl _ _))

theorem avgReport_chg (x0 : Word64) (x1 : ℕ) (x2 : State) :
    Chg 12583058 x2 (avgReport x0 x1 x2) := by
  unfold avgReport
  try dsimp only
  refine .after (raise_chg ..) ?_
  refine .upd ?_
  exact (.after (State_setReg_chg ..) (.after (State_setReg64_chg ..) (.each (.refl _ _) (fun _ _ => (.after
      (State_setReg_chg ..) (.refl _ _))))))

theorem avgStep_chg (x0 : AstEntry) (x1 : State) :
    Chg 12583058 x1 (avgStep x0 x1) := by
  unfold avgStep
  try dsimp only
  refine .ite ?_ ?_
  · refine .ite ?_ ?_
    · refine .after (avgReport_chg ..) ?_
      refine .each ?_ (fun _ _ => ?_)
      · exact (.refl _ _)
      · refine .ite ?_ ?_
        · exact (.upd (.refl _ _))
        · exact (.refl _ _)
    · refine .each ?_ (fun _ _ => ?_)
      · exact (.refl _ _)
      · refine .ite ?_ ?_
        · exact (.upd (.refl _ _))
        · exact (.refl _ _)
  · exact (.refl _ _)

theorem showTimers_chg (x0 : AstEntry) (x1 : State) :
    Chg 2 x1 (showTimers x0 x1) := by
  unfold showTimers
  try dsimp only
  exact (.each (.refl _ _) (fun _ _ => (.after (State_setReg64_chg ..) (.refl _ _))))

theorem astEvalEntry_chg (x0 : AstEntry) (x1 : State) :
    Chg 12583066 x1 (astEvalEntry x0 x1) := by
  unfold astEvalEntry
  try dsimp only
  refine .after (astStat_chg ..) ?_
  refine .upd ?_
  refine .after (showTimers_chg ..) ?_
  refine .after (avgStep_chg ..) ?_
  split
  · refine .after (mtEnd_chg ..) ?_
    split
    · refine .after (mtViolation_chg ..) ?_
      split
      · exact (.after (branchActions_chg ..) (.refl _ _))
      · exact (.refl _ _)
    · split
      · exact (.after (branchActions_chg ..) (.refl _ _))
      · exact (.refl _ _)
  · split
    · refine .after (mtViolation_chg ..) ?_
      split
      · exact (.after (branchActions_chg ..) (.refl _ _))
      · exact (.refl _ _)
    · split
      · exact (.after (branchActions_chg ..) (.refl _ _))
      · exact (.refl _ _)

theorem astEval_chg (x0 : State) :
    Chg 12583066 x0 (astEval x0) := by
  unfold astEval
  try dsimp only
  split
  · exact (.refl _ _)
  · exact (.ite (.after (astEvalEntry_chg ..) (.refl _ _)) (.refl _ _))

theorem astDrain_chg (x0 : ℕ) (x1 : State) :
    Chg 79724698 x1 (astDrain x0 x1) := by
  induction x0 generalizing x1 with
  | zero =>
    unfold astDrain
    try dsimp only
    exact (.refl _ _)
  | succ n ih =>
    unfold astDrain
    try dsimp only
    exact (.ite (.refl _ _) (.ite (.after (ih ..) (.after (astEval_chg ..) (.refl _ _))) (.after (ih ..) (.after
        (goldenRead_chg ..) (.refl _ _)))))

theorem astCommit_chg (x0 : Word64) (x1 : BitVec 1024) (x2 : BitVec 4096) (x3 : State) :
    Chg 4194304 x3 (astCommit x0 x1 x2 x3) := by
  unfold astCommit
  try dsimp only
  refine .ite ?_ ?_
  · exact (.upd (.refl _ _))
  · exact (.upd (.refl _ _))

theorem astShadowWrite_chg (x0 : Bool) (x1 : Word32) (x2 : State) :
    Chg 4194306 x2 (astShadowWrite x0 x1 x2) := by
  unfold astShadowWrite
  try dsimp only
  refine .ite ?_ ?_
  · refine .ite ?_ ?_
    · refine .upd ?_
      exact (.after (State_setBit_chg ..) (.after (State_setFld_chg ..) (.after (storeReg_chg ..) (.refl _ _))))
    · exact (.after (State_setBit_chg ..) (.after (State_setFld_chg ..) (.after (storeReg_chg ..) (.refl _ _))))
  · exact (.after (storeReg_chg ..) (.refl _ _))

theorem execAsterStage_chg (x0 : OpWrite) (x1 : Word32) (x2 : State) :
    OChg 4194450 x2 (execAsterStage x0 x1 x2) := by
  unfold execAsterStage
  try dsimp only
  exact (.run (.ite (.after (regAccess_chg (m := 4194450) (fun _ _ => (.after (astShadowWrite_chg ..) (.refl _ _))))
      (.refl _ _)) (.refl _ _)))

theorem astShadowedWrite_chg (x0 : ℕ) (x1 : Word32) (x2 : State) :
    Chg 2 x2 (astShadowedWrite x0 x1 x2) := by
  unfold astShadowedWrite
  try dsimp only
  exact (.ite (.after (State_setBit_chg ..) (.refl _ _)) (.after (storeReg_chg ..) (.refl _ _)))

theorem astClearRun_chg (x0 : State) :
    Chg 4194306 x0 (astClearRun x0) := by
  unfold astClearRun
  try dsimp only
  refine .upd ?_
  exact (.each (.after (State_setReg_chg ..) (.each (.after (State_setReg64_chg ..) (.each (.refl _ _) (fun _ _ =>
      (.after (State_setReg_chg ..) (.refl _ _))))) (fun _ _ => (.after (State_setReg_chg ..) (.refl _ _))))) (fun _
      _ => (.after (State_setReg64_chg ..) (.refl _ _))))

theorem astDisarm_chg (x0 : State) :
    Chg 12582914 x0 (astDisarm x0) := by
  unfold astDisarm
  try dsimp only
  refine .upd ?_
  exact (.after (State_setBit_chg ..) (.refl _ _))

theorem astApply_chg (x0 : Word64) (x1 : State) :
    Chg 12582914 x1 (astApply x0 x1) := by
  unfold astApply
  try dsimp only
  refine .ite ?_ ?_
  · exact (.refl _ _)
  · refine .ite ?_ ?_
    · refine .upd ?_
      refine .after (State_setReg_chg ..) ?_
      refine .after (State_setReg_chg ..) ?_
      refine .after (astClearRun_chg ..) ?_
      refine .after (astDisarm_chg ..) ?_
      exact (.upd (.refl _ _))
    · refine .after (astDisarm_chg ..) ?_
      exact (.upd (.refl _ _))

theorem astCtrlWrite_chg (x0 : Word32) (x1 : State) :
    Chg 12582914 x1 (astCtrlWrite x0 x1) := by
  unfold astCtrlWrite
  try dsimp only
  refine .ite ?_ ?_
  · refine .upd ?_
    refine .ite ?_ ?_
    · exact (.after (astDisarm_chg ..) (.ite (.after (State_setBit_chg ..) (.after (State_setBit_chg ..) (.refl _
          _))) (.ite (.after (State_setBit_chg ..) (.refl _ _)) (.after (State_setBit_chg ..) (.after
          (State_setBit_chg ..) (.after (State_setBit_chg ..) (.refl _ _)))))))
    · exact (.ite (.after (State_setBit_chg ..) (.after (State_setBit_chg ..) (.refl _ _))) (.ite (.after
          (State_setBit_chg ..) (.refl _ _)) (.after (State_setBit_chg ..) (.after (State_setBit_chg ..) (.after
          (State_setBit_chg ..) (.refl _ _))))))
  · refine .ite ?_ ?_
    · exact (.after (astDisarm_chg ..) (.ite (.after (State_setBit_chg ..) (.after (State_setBit_chg ..) (.refl _
          _))) (.ite (.after (State_setBit_chg ..) (.refl _ _)) (.after (State_setBit_chg ..) (.after
          (State_setBit_chg ..) (.after (State_setBit_chg ..) (.refl _ _)))))))
    · exact (.ite (.after (State_setBit_chg ..) (.after (State_setBit_chg ..) (.refl _ _))) (.ite (.after
          (State_setBit_chg ..) (.refl _ _)) (.after (State_setBit_chg ..) (.after (State_setBit_chg ..) (.after
          (State_setBit_chg ..) (.refl _ _))))))

theorem astRewind_chg (x0 : State) :
    Chg 4194306 x0 (astRewind x0) := by
  unfold astRewind
  try dsimp only
  refine .upd ?_
  exact (.after (astClearRun_chg ..) (.refl _ _))

theorem astInstall_chg (x0 : State) :
    Chg 12582914 x0 (astInstall x0) := by
  unfold astInstall
  try dsimp only
  refine .upd ?_
  exact (.after (State_setBit_chg ..) (.after (keepRegs_chg ..) (.after (astDisarm_chg ..) (.refl _ _))))

end Sys2Proof.Laws
end

