-- ==== Sys2Proof/Laws/FrameHatband.lean ====
section
/-!
SUPPORT. Laws/FrameHatband.lean: which parts of the state the operations of Machine/Hatband.lean may change.
-/
namespace Sys2Proof.Laws
set_option Elab.async false
open Sys2Proof.Machine

theorem cutExec_chg (x0 : State) :
    Chg 132096 x0 (cutExec x0) := by
  unfold cutExec
  try dsimp only
  split
  · exact (.refl _ _)
  · exact (.upd (.refl _ _))

theorem vc0Fault_chg (x0 : FlitFault) (x1 : HbdLoc) (x2 : ℕ) (x3 : ℕ) (x4 : Word64) (x5 : State) :
    Chg 132242 x5 (vc0Fault x0 x1 x2 x3 x4 x5) := by
  unfold vc0Fault
  try dsimp only
  refine .ite ?_ ?_
  · refine .upd ?_
    exact (.after (cutExec_chg ..) (.after (hbdCnt_chg ..) (.after (raise_chg ..) (.after (hbdCause_chg ..) (.refl _
        _)))))
  · exact (.after (hbdCnt_chg ..) (.after (raise_chg ..) (.after (hbdCause_chg ..) (.refl _ _))))

theorem deliverBit_chg (x0 : ℕ) (x1 : ℕ) (x2 : Bool) (x3 : ℕ) (x4 : State) :
    Chg 658 x4 (deliverBit x0 x1 x2 x3 x4) := by
  unfold deliverBit
  try dsimp only
  refine .ite ?_ ?_
  · exact (.after (hbdCnt_chg ..) (.after (raise_chg ..) (.after (hbdCause_chg ..) (.refl _ _))))
  · exact (.upd (.refl _ _))

theorem lateDrop_chg (x0 : ℕ) (x1 : ℕ) (x2 : Word64) (x3 : State) :
    Chg 146 x3 (lateDrop x0 x1 x2 x3) := by
  unfold lateDrop
  try dsimp only
  exact (.after (hbdCnt_chg ..) (.after (raise_chg ..) (.after (hbdCause_chg ..) (.refl _ _))))

theorem deliverValues_chg (x0 : ℕ) (x1 : ℕ) (x2 : ℕ) (x3 : BitVec 128) (x4 : Word64) (x5 : ℕ) (x6 : Bool) (x7 :
    State) :
    Chg 658 x7 (deliverValues x0 x1 x2 x3 x4 x5 x6 x7) := by
  unfold deliverValues
  try dsimp only
  exact (.ite (.each (.refl _ _) (fun _ _ => (.after (deliverBit_chg ..) (.refl _ _)))) (.after (lateDrop_chg ..)
      (.refl _ _)))

theorem hubTake_chg (x0 : ℕ) (x1 : ℕ) (x2 : ℕ) (x3 : ℕ) (x4 : BitVec 128) (x5 : Word64) (x6 : State) :
    Chg 131072 x6 (hubTake x0 x1 x2 x3 x4 x5 x6) := by
  unfold hubTake
  try dsimp only
  exact (.upd (.refl _ _))

theorem flitArrives_chg (x0 : Flit) (x1 : State) :
    Chg 197266 x1 (flitArrives x0 x1) := by
  unfold flitArrives
  try dsimp only
  refine .ite ?_ ?_
  · refine .ite ?_ ?_
    · refine .after (hubTake_chg ..) ?_
      exact (.upd (.refl _ _))
    · exact (.upd (.refl _ _))
  · refine .after (deliverValues_chg ..) ?_
    exact (.upd (.refl _ _))

theorem markDelivered_chg (x0 : List HubRec) (x1 : State) :
    Chg 131072 x1 (markDelivered x0 x1) := by
  unfold markDelivered
  try dsimp only
  exact (.upd (.refl _ _))

theorem injectEntry_chg (x0 : Exec) (x1 : SlotHbd) (x2 : State) :
    Chg 196754 x2 (injectEntry x0 x1 x2) := by
  unfold injectEntry
  try dsimp only
  split
  · exact (.refl _ _)
  · refine .ite ?_ ?_
    · refine .ite ?_ ?_
      · refine .after (hbdCnt_chg ..) ?_
        refine .after (hbdCnt_chg ..) ?_
        exact (.upd (.refl _ _))
      · refine .after (hbdCnt_chg ..) ?_
        exact (.upd (.refl _ _))
    · refine .ite ?_ ?_
      · refine .ite ?_ ?_
        · refine .after (hbdCnt_chg ..) ?_
          refine .after (hbdCnt_chg ..) ?_
          refine .upd ?_
          exact (.after (markDelivered_chg ..) (.refl _ _))
        · refine .after (hbdCnt_chg ..) ?_
          refine .upd ?_
          exact (.after (markDelivered_chg ..) (.refl _ _))
      · exact (.refl _ _)

theorem injectAt_chg (x0 : ℕ) (x1 : State) :
    Chg 196754 x1 (injectAt x0 x1) := by
  unfold injectAt
  try dsimp only
  split
  · exact (.refl _ _)
  · exact (.ite (.refl _ _) (.each (.refl _ _) (fun _ _ => (.after (injectEntry_chg ..) (.refl _ _)))))

theorem agedFold_chg (x0 : State) :
    Chg 65682 x0 (agedFold x0) := by
  unfold agedFold
  try dsimp only
  refine .upd ?_
  exact (.ite (.refl _ _) (.after (hbdCnt_chg ..) (.refl _ _)))

theorem linkFlits_chg (x0 : ℕ) (x1 : ℕ) (x2 : State) :
    Chg 2 x2 (linkFlits x0 x1 x2) := by
  unfold linkFlits
  try dsimp only
  exact (.after (State_setReg_chg ..) (.refl _ _))

theorem strayFlit_chg (x0 : Flit) (x1 : State) :
    Chg 197778 x1 (strayFlit x0 x1) := by
  unfold strayFlit
  try dsimp only
  split
  · exact (.refl _ _)
  · refine .after (vc0Fault_chg ..) ?_
    exact (.upd (.refl _ _))

theorem flitClock_chg (x0 : State) :
    Chg 198290 x0 (flitClock x0) := by
  unfold flitClock
  try dsimp only
  exact (.each (.each (.ite (.refl _ _) (.after (linkFlits_chg ..) (.refl _ _))) (fun _ _ => (.after (strayFlit_chg
      ..) (.refl _ _)))) (fun _ _ => (.after (flitArrives_chg ..) (.refl _ _))))

theorem hbdRetx_chg (x0 : HbdLink) (x1 : BitVec 9) (x2 : State) :
    Chg 146 x2 (hbdRetx x0 x1 x2) := by
  unfold hbdRetx
  try dsimp only
  exact (.after (hbdCnt_chg ..) (.after (hbdCause_chg ..) (.refl _ _)))

theorem hbdLinkFail_chg (x0 : HbdLink) (x1 : State) :
    Chg 65682 x1 (hbdLinkFail x0 x1) := by
  unfold hbdLinkFail
  try dsimp only
  refine .after (raise_chg ..) ?_
  refine .after (hbdCause_chg ..) ?_
  exact (.upd (.refl _ _))

end Sys2Proof.Laws
end

