-- ==== Sys2Proof/Laws/FrameChannels.lean ====
section
/-!
SUPPORT. Laws/FrameChannels.lean: which parts of the state the operations of Machine/Channels.lean may change.
-/
namespace Sys2Proof.Laws
set_option Elab.async false
open Sys2Proof.Machine

theorem vcKeep_chg (x0 : VcFlit) (x1 : VcFlit) (x2 : State) :
    Chg 65538 x2 (vcKeep x0 x1 x2) := by
  unfold vcKeep
  try dsimp only
  refine .ite ?_ ?_
  · refine .after (linkFlits_chg ..) ?_
    exact (.upd (.refl _ _))
  · exact (.upd (.refl _ _))

theorem vcPass_chg (x0 : VcFlit) (x1 : State) :
    Chg 65536 x1 (vcPass x0 x1) := by
  unfold vcPass
  try dsimp only
  exact (.upd (.refl _ _))

theorem vcNak_chg (x0 : VcFlit) (x1 : State) :
    Chg 66706 x1 (vcNak x0 x1) := by
  unfold vcNak
  try dsimp only
  refine .ite ?_ ?_
  · exact (.after (markFatal_chg ..) (.after (hbdLinkFail_chg ..) (.refl _ _)))
  · exact (.upd (.refl _ _))

theorem vcReceive_chg (x0 : VcFlit) (x1 : State) :
    Chg 197778 x1 (vcReceive x0 x1) := by
  unfold vcReceive
  try dsimp only
  refine .ite ?_ ?_
  · exact (.upd (.refl _ _))
  · split
    · exact (.after (vcPass_chg ..) (.refl _ _))
    · split
      · refine .after (vcNak_chg ..) ?_
        split
        · exact (.after (vc0Fault_chg ..) (.refl _ _))
        · exact (.refl _ _)
      · exact (.after (vcNak_chg ..) (.refl _ _))
      · exact (.after (vc0Fault_chg ..) (.refl _ _))
      · exact (.after (vcPass_chg ..) (.refl _ _))

theorem vcMove_chg (x0 : VcFlit) (x1 : State) :
    Chg 197778 x1 (vcMove x0 x1) := by
  unfold vcMove
  try dsimp only
  refine .after (vcReceive_chg ..) ?_
  refine .upd ?_
  exact (.after (vcKeep_chg ..) (.refl _ _))

theorem vcWait_chg (x0 : VcFlit) (x1 : State) :
    Chg 65682 x1 (vcWait x0 x1) := by
  unfold vcWait
  try dsimp only
  refine .ite ?_ ?_
  · refine .after (hbdCnt_chg ..) ?_
    exact (.upd (.refl _ _))
  · exact (.upd (.refl _ _))

theorem lateArrives_chg (x0 : Flit) (x1 : State) :
    Chg 132754 x1 (lateArrives x0 x1) := by
  unfold lateArrives
  try dsimp only
  exact (.ite (.after (vc0Fault_chg ..) (.refl _ _)) (.ite (.after (hubTake_chg ..) (.refl _ _)) (.after
      (deliverValues_chg ..) (.refl _ _))))

theorem vcArrives_chg (x0 : VcFlit) (x1 : State) :
    Chg 198290 x1 (vcArrives x0 x1) := by
  unfold vcArrives
  try dsimp only
  refine .ite ?_ ?_
  · refine .after (lateArrives_chg ..) ?_
    exact (.upd (.refl _ _))
  · exact (.upd (.refl _ _))

theorem vcResend_chg (x0 : VcFlit) (x1 : State) :
    Chg 65682 x1 (vcResend x0 x1) := by
  unfold vcResend
  try dsimp only
  refine .after (hbdRetx_chg ..) ?_
  exact (.upd (.refl _ _))

theorem vcLinkClock_chg (x0 : ℕ → Bool) (x1 : List VcFlit) (x2 : List VcFlit) (x3 : ℕ) (x4 : State) :
    Chg 197778 x4 (vcLinkClock x0 x1 x2 x3 x4) := by
  unfold vcLinkClock
  try dsimp only
  refine .ite ?_ ?_
  · exact (.refl _ _)
  · split
    · exact (.after (vcMove_chg ..) (.refl _ _))
    · exact (.refl _ _)

theorem vcClock_chg (x0 : ℕ → Bool) (x1 : State) :
    Chg 198290 x1 (vcClock x0 x1) := by
  unfold vcClock
  try dsimp only
  exact (.each (.each (.each (.each (.refl _ _) (fun _ _ => (.after (vcArrives_chg ..) (.refl _ _)))) (fun _ _ =>
      (.after (vcResend_chg ..) (.refl _ _)))) (fun _ _ => (.after (vcLinkClock_chg ..) (.refl _ _)))) (fun _ _ =>
      (.ite (.after (vcWait_chg ..) (.refl _ _)) (.refl _ _))))

theorem vcTick_chg (x0 : State) :
    Chg 198290 x0 (vcTick x0) := by
  unfold vcTick
  try dsimp only
  exact (.ite (.refl _ _) (.after (vcClock_chg ..) (.refl _ _)))

end Sys2Proof.Laws
end

