-- ==== Sys2Proof/Laws/FrameDispatcher.lean ====
section
/-!
SUPPORT. Laws/FrameDispatcher.lean: which parts of the state the operations of Machine/Dispatcher.lean may change.
-/
namespace Sys2Proof.Laws
set_option Elab.async false
open Sys2Proof.Machine

theorem dspCause_chg (x0 : ℕ) (x1 : ℕ) (x2 : State) :
    Chg 146 x2 (dspCause x0 x1 x2) := by
  unfold dspCause
  try dsimp only
  exact (.ite (.refl _ _) (.after (raise_chg ..) (.after (State_setBit_chg ..) (.refl _ _))))

theorem dspCount_chg (x0 : ℕ) (x1 : State) :
    Chg 2 x1 (dspCount x0 x1) := by
  unfold dspCount
  try dsimp only
  exact (.after (countUp_chg ..) (.refl _ _))

theorem updMsg_chg (x0 : ℕ) (x1 : Msg → Msg) (x2 : State) :
    Chg 262144 x2 (updMsg x0 x1 x2) := by
  unfold updMsg
  try dsimp only
  exact (.upd (.refl _ _))

theorem dropMsg_chg (x0 : ℕ) (x1 : State) :
    Chg 262144 x1 (dropMsg x0 x1) := by
  unfold dropMsg
  try dsimp only
  exact (.upd (.refl _ _))

theorem retireBarriers_chg (x0 : ℕ) (x1 : State) :
    Chg 262144 x1 (retireBarriers x0 x1) := by
  induction x0 generalizing x1 with
  | zero =>
    unfold retireBarriers
    try dsimp only
    exact (.refl _ _)
  | succ n ih =>
    unfold retireBarriers
    try dsimp only
    split
    · exact (.after (ih ..) (.after (dropMsg_chg ..) (.refl _ _)))
    · exact (.refl _ _)

theorem completeMsg_chg (x0 : ℕ) (x1 : State) :
    Chg 262144 x1 (completeMsg x0 x1) := by
  unfold completeMsg
  try dsimp only
  refine .after (retireBarriers_chg ..) ?_
  exact (.upd (.refl _ _))

theorem releaseMsg_chg (x0 : ℕ) (x1 : State) :
    Chg 262290 x1 (releaseMsg x0 x1) := by
  unfold releaseMsg
  try dsimp only
  split
  · exact (.refl _ _)
  · refine .after (retireBarriers_chg ..) ?_
    refine .ite ?_ ?_
    · refine .after (dspCause_chg ..) ?_
      refine .upd ?_
      exact (.after (updMsg_chg ..) (.refl _ _))
    · refine .upd ?_
      exact (.after (updMsg_chg ..) (.refl _ _))

theorem rdataNext_chg (x0 : Word64) (x1 : ℕ) (x2 : ℕ) (x3 : Word64) (x4 : State) :
    Chg 32768 x4 (rdataNext x0 x1 x2 x3 x4) := by
  unfold rdataNext
  try dsimp only
  exact (.upd (.refl _ _))

theorem rdataWait_chg (x0 : Word64) (x1 : ℕ) (x2 : ℕ) (x3 : ℕ) (x4 : State) :
    Chg 32768 x4 (rdataWait x0 x1 x2 x3 x4) := by
  unfold rdataWait
  try dsimp only
  exact (.upd (.refl _ _))

theorem rdataCome_chg (x0 : Word64) (x1 : ℕ) (x2 : ℕ) (x3 : ℕ) (x4 : Word64) (x5 : State) :
    Chg 32768 x5 (rdataCome x0 x1 x2 x3 x4 x5) := by
  unfold rdataCome
  try dsimp only
  exact (.upd (.refl _ _))

theorem exhaustion_chg (x0 : Word64) (x1 : ℕ) (x2 : State) :
    Chg 263314 x2 (exhaustion x0 x1 x2) := by
  unfold exhaustion
  try dsimp only
  refine .ite ?_ ?_
  · exact (.after (markFatal_chg ..) (.after (dspCause_chg ..) (.refl _ _)))
  · refine .after (markMismatch_chg ..) ?_
    refine .upd ?_
    exact (.after (dspCause_chg ..) (.refl _ _))

theorem placeMsg_chg (x0 : Msg) (x1 : State) :
    Chg 263322 x1 (placeMsg x0 x1) := by
  unfold placeMsg
  try dsimp only
  exact (.ite (.after (exhaustion_chg ..) (.after (updMsg_chg ..) (.refl _ _))) (.after (State_tick1_chg ..) (.after
      (updMsg_chg ..) (.refl _ _))))

theorem wordPlaced_chg (x0 : ℕ) (x1 : State) :
    Chg 263322 x1 (wordPlaced x0 x1) := by
  unfold wordPlaced
  try dsimp only
  split
  · exact (.ite (.after (placeMsg_chg ..) (.refl _ _)) (.refl _ _))
  · exact (.refl _ _)

theorem takeMatch_chg (x0 : Word64) (x1 : Bool) (x2 : Msg) (x3 : State) :
    Chg 294912 x3 (takeMatch x0 x1 x2 x3) := by
  unfold takeMatch
  try dsimp only
  split
  · exact (.after (rdataNext_chg ..) (.after (updMsg_chg ..) (.refl _ _)))
  · exact (.after (rdataWait_chg ..) (.after (updMsg_chg ..) (.refl _ _)))

theorem closePlaced_chg (x0 : ℕ) (x1 : Bool) (x2 : State) :
    Chg 295058 x2 (closePlaced x0 x1 x2) := by
  unfold closePlaced
  try dsimp only
  split
  · exact (.refl _ _)
  · refine .ite ?_ ?_
    · exact (.ite (.after (rdataNext_chg ..) (.after (dropMsg_chg ..) (.refl _ _))) (.after (dropMsg_chg ..) (.refl _
          _)))
    · exact (.ite (.ite (.after (releaseMsg_chg ..) (.after (rdataWait_chg ..) (.after (updMsg_chg ..) (.refl _ _))))
          (.after (rdataWait_chg ..) (.after (updMsg_chg ..) (.refl _ _)))) (.after (updMsg_chg ..) (.refl _ _)))

theorem closeMsg_chg (x0 : ℕ) (x1 : Bool) (x2 : State) :
    Chg 296090 x2 (closeMsg x0 x1 x2) := by
  unfold closeMsg
  try dsimp only
  split
  · exact (.refl _ _)
  · split
    · exact (.after (takeMatch_chg ..) (.after (dropMsg_chg ..) (.refl _ _)))
    · exact (.after (closePlaced_chg ..) (.ite (.after (placeMsg_chg ..) (.refl _ _)) (.refl _ _)))

theorem msgWord_chg (x0 : Word64) (x1 : ℕ) (x2 : ℕ) (x3 : ℕ) (x4 : ℕ) (x5 : ℕ) (x6 : ℕ) (x7 : Bool) (x8 : Bool) (x9 :
    Bool) (x10 : Word64) (x11 : State) :
    Chg 296090 x11 (msgWord x0 x1 x2 x3 x4 x5 x6 x7 x8 x9 x10 x11) := by
  unfold msgWord
  try dsimp only
  refine .ite ?_ ?_
  · refine .after (closeMsg_chg ..) ?_
    refine .after (wordPlaced_chg ..) ?_
    split
    · exact (.after (updMsg_chg ..) (.refl _ _))
    · exact (.upd (.refl _ _))
  · refine .after (wordPlaced_chg ..) ?_
    split
    · exact (.after (updMsg_chg ..) (.refl _ _))
    · exact (.upd (.refl _ _))

theorem recvTake_chg (x0 : Word64) (x1 : ℕ) (x2 : ℕ) (x3 : ℕ) (x4 : ℕ) (x5 : State) :
    Chg 294912 x5 (recvTake x0 x1 x2 x3 x4 x5) := by
  unfold recvTake
  try dsimp only
  split
  · refine .after (rdataNext_chg ..) ?_
    exact (.upd (.refl _ _))
  · split
    · refine .after (rdataNext_chg ..) ?_
      exact (.upd (.refl _ _))
    · refine .ite ?_ ?_
      · refine .after (rdataNext_chg ..) ?_
        exact (.upd (.refl _ _))
      · refine .after (rdataWait_chg ..) ?_
        exact (.upd (.refl _ _))

theorem dspIssue_chg (x0 : Word64) (x1 : ℕ) (x2 : ℕ) (x3 : ℕ) (x4 : BitVec 40) (x5 : Word64) (x6 : ℕ) (x7 : State) :
    Chg 296090 x7 (dspIssue x0 x1 x2 x3 x4 x5 x6 x7) := by
  unfold dspIssue
  try dsimp only
  refine .ite ?_ ?_
  · exact (.after (msgWord_chg ..) (.refl _ _))
  · refine .ite ?_ ?_
    · refine .ite ?_ ?_
      · exact (.after (recvTake_chg ..) (.refl _ _))
      · exact (.upd (.refl _ _))
    · refine .ite ?_ ?_
      · refine .ite ?_ ?_
        · refine .upd ?_
          exact (.after (rdataNext_chg ..) (.refl _ _))
        · exact (.after (msgWord_chg ..) (.refl _ _))
      · refine .ite ?_ ?_
        · refine .upd ?_
          exact (.after (rdataNext_chg ..) (.refl _ _))
        · exact (.upd (.refl _ _))

theorem dspCloseOpen_chg (x0 : Word64) (x1 : State) :
    Chg 296090 x1 (dspCloseOpen x0 x1) := by
  unfold dspCloseOpen
  try dsimp only
  exact (.each (.refl _ _) (fun _ _ => (.after (closeMsg_chg ..) (.after (updMsg_chg ..) (.refl _ _)))))

theorem withdrawCall_chg (x0 : Msg) (x1 : State) :
    Chg 262290 x1 (withdrawCall x0 x1) := by
  unfold withdrawCall
  try dsimp only
  refine .ite ?_ ?_
  · exact (.after (dropMsg_chg ..) (.after (dspCause_chg ..) (.refl _ _)))
  · refine .ite ?_ ?_
    · refine .upd ?_
      exact (.after (dropMsg_chg ..) (.after (dspCause_chg ..) (.refl _ _)))
    · exact (.after (completeMsg_chg ..) (.after (dropMsg_chg ..) (.after (dspCause_chg ..) (.refl _ _))))

theorem dspB7_chg (x0 : Word64) (x1 : State) :
    Chg 262290 x1 (dspB7 x0 x1) := by
  unfold dspB7
  try dsimp only
  refine .upd ?_
  exact (.each (.refl _ _) (fun _ _ => (.after (withdrawCall_chg ..) (.refl _ _))))

theorem dspDiscard_chg (x0 : Word64 → Bool) (x1 : State) :
    Chg 262144 x1 (dspDiscard x0 x1) := by
  unfold dspDiscard
  try dsimp only
  exact (.upd (.refl _ _))

theorem returnWords_chg (x0 : List Posted) (x1 : State) :
    Chg 262144 x1 (returnWords x0 x1) := by
  unfold returnWords
  try dsimp only
  exact (.upd (.refl _ _))

theorem dspCommit_chg (x0 : Word64) (x1 : State) :
    Chg 262290 x1 (dspCommit x0 x1) := by
  unfold dspCommit
  try dsimp only
  refine .each ?_ (fun _ _ => ?_)
  · refine .upd ?_
    refine .after (returnWords_chg ..) ?_
    refine .each ?_ (fun _ _ => ?_)
    · exact (.each (.each (.each (.refl _ _) (fun _ _ => (.after (releaseMsg_chg ..) (.refl _ _)))) (fun _ _ => (.ite
          (.after (releaseMsg_chg ..) (.ite (.after (dspCause_chg ..) (.refl _ _)) (.refl _ _))) (.after (updMsg_chg
          ..) (.ite (.after (dspCause_chg ..) (.refl _ _)) (.refl _ _)))))) (fun _ _ => (.after (dspCause_chg ..)
          (.refl _ _))))
    · exact (.after (dspCause_chg ..) (.refl _ _))
  · exact (.after (releaseMsg_chg ..) (.refl _ _))

theorem dspRewind_chg (x0 : Word64 → Bool) (x1 : State) :
    Chg 262290 x1 (dspRewind x0 x1) := by
  unfold dspRewind
  try dsimp only
  refine .upd ?_
  exact (.after (returnWords_chg ..) (.each (.after (dspDiscard_chg ..) (.refl _ _)) (fun _ _ => (.after
      (withdrawCall_chg ..) (.refl _ _)))))

theorem dspClear_chg (x0 : State) :
    Chg 262144 x0 (dspClear x0) := by
  unfold dspClear
  try dsimp only
  exact (.upd (.refl _ _))

theorem dspClearCounters_chg (x0 : State) :
    Chg 2 x0 (dspClearCounters x0) := by
  unfold dspClearCounters
  try dsimp only
  exact (.after (keepRegs_chg ..) (.refl _ _))

end Sys2Proof.Laws
end

