-- ==== Sys2Proof/Laws/FrameCluster.lean ====
section
/-!
SUPPORT. Laws/FrameCluster.lean: which parts of the state the operations of Machine/Cluster.lean may change.
-/
namespace Sys2Proof.Laws
set_option Elab.async false
open Sys2Proof.Machine

theorem State_setPort_chg (x0 : State) (x1 : ℕ) (x2 : ℕ) (x3 : PortCtx) :
    Chg 512 x0 (State.setPort x0 x1 x2 x3) := by
  unfold State.setPort
  try dsimp only
  exact (.upd (.refl _ _))

theorem orphanRead_chg (x0 : ℕ) (x1 : ℕ) (x2 : ℕ) (x3 : ℕ) (x4 : ℕ) (x5 : Option ℕ) (x6 : Word64) (x7 : State) :
    Chg 658 x7 (orphanRead x0 x1 x2 x3 x4 x5 x6 x7) := by
  unfold orphanRead
  try dsimp only
  refine .ite ?_ ?_
  · refine .upd ?_
    exact (.ite (.after (State_setFld_chg ..) (.after (cluCause_chg ..) (.refl _ _))) (.after (cluCause_chg ..)
        (.refl _ _)))
  · exact (.ite (.after (State_setFld_chg ..) (.after (cluCause_chg ..) (.refl _ _))) (.after (cluCause_chg ..)
        (.refl _ _)))

theorem readSel_chg (x0 : Exec) (x1 : ℕ) (x2 : ℕ) (x3 : ℕ) (x4 : ℕ) (x5 : Sel) (x6 : State) :
    Chg 658 x6 (readSel x0 x1 x2 x3 x4 x5 x6).2 := by
  unfold readSel
  try dsimp only
  split
  · refine .ite2 ?_ ?_
    · exact (.mk2 (.ite (.after (cluCause_chg ..) (.refl _ _)) (.refl _ _)))
    · exact (.mk2 (.after (orphanRead_chg ..) (.ite (.after (cluCause_chg ..) (.refl _ _)) (.refl _ _))))
  · exact (.ite (.after (cluCause_chg ..) (.refl _ _)) (.refl _ _))
  · refine .ite2 ?_ ?_
    · exact (.mk2 (.ite (.after (cluCause_chg ..) (.refl _ _)) (.refl _ _)))
    · refine .mk2 ?_
      refine .after (cluCnt_chg ..) ?_
      refine .upd ?_
      exact (.ite (.after (cluCause_chg ..) (.refl _ _)) (.refl _ _))
  · exact (.refl _ _)
  · exact (.refl _ _)
  · refine .ite2 ?_ ?_
    · exact (.mk2 (.refl _ _))
    · exact (.mk2 (.after (orphanRead_chg ..) (.refl _ _)))
  · exact (.refl _ _)

theorem readAll_chg (x0 : Exec) (x1 : ℕ) (x2 : ℕ) (x3 : ℕ) (x4 : List Sel) (x5 : State) :
    Chg 658 x5 (readAll x0 x1 x2 x3 x4 x5).2 := by
  unfold readAll
  try dsimp only
  exact (.fold2 (.refl _ _) (fun _ _ => (.after (readSel_chg ..) (.refl _ _))))

theorem pushEffect_chg (x0 : ℕ) (x1 : ℕ) (x2 : ℕ) (x3 : ℕ) (x4 : EffKind) (x5 : State) :
    Chg 1024 x5 (pushEffect x0 x1 x2 x3 x4 x5) := by
  unfold pushEffect
  try dsimp only
  exact (.upd (.refl _ _))

theorem issueVerify_chg (x0 : Exec) (x1 : ℕ) (x2 : ℕ) (x3 : ℕ) (x4 : ℕ) (x5 : State) :
    Chg 1682 x5 (issueVerify x0 x1 x2 x3 x4 x5) := by
  unfold issueVerify
  try dsimp only
  refine .ite ?_ ?_
  · refine .after (pushEffect_chg ..) ?_
    refine .ite ?_ ?_
    · refine .after (cluCause_chg ..) ?_
      refine .upd ?_
      exact (.after (readSel_chg ..) (.refl _ _))
    · refine .upd ?_
      exact (.after (readSel_chg ..) (.refl _ _))
  · refine .ite ?_ ?_
    · refine .after (cluCause_chg ..) ?_
      refine .upd ?_
      exact (.after (readSel_chg ..) (.refl _ _))
    · refine .upd ?_
      exact (.after (readSel_chg ..) (.refl _ _))

theorem issueWord_chg (x0 : Exec) (x1 : ℕ) (x2 : ℕ) (x3 : ℕ) (x4 : InstrWord) (x5 : State) :
    Chg 1682 x5 (issueWord x0 x1 x2 x3 x4 x5) := by
  unfold issueWord
  try dsimp only
  refine .ite ?_ ?_
  · exact (.after (cluCause_chg ..) (.refl _ _))
  · split
    · exact (.refl _ _)
    · exact (.after (cluCause_chg ..) (.refl _ _))
    · exact (.after (issueVerify_chg ..) (.refl _ _))
    · exact (.after (pushEffect_chg ..) (.after (readAll_chg ..) (.refl _ _)))
    · exact (.after (pushEffect_chg ..) (.after (readAll_chg ..) (.refl _ _)))
    · exact (.after (pushEffect_chg ..) (.after (readAll_chg ..) (.refl _ _)))
    · exact (.after (pushEffect_chg ..) (.after (readAll_chg ..) (.refl _ _)))
    · exact (.after (pushEffect_chg ..) (.after (readAll_chg ..) (.refl _ _)))
    · exact (.after (pushEffect_chg ..) (.after (readAll_chg ..) (.refl _ _)))

theorem issueBp_chg (x0 : Exec) (x1 : ℕ) (x2 : ℕ) (x3 : State) :
    Chg 1682 x3 (issueBp x0 x1 x2 x3) := by
  unfold issueBp
  try dsimp only
  refine .ite ?_ ?_
  · exact (.refl _ _)
  · refine .upd ?_
    exact (.after (issueWord_chg ..) (.refl _ _))

theorem issueRest_chg (x0 : Exec) (x1 : State) :
    Chg 1682 x1 (issueRest x0 x1) := by
  unfold issueRest
  try dsimp only
  exact (.each (.refl _ _) (fun _ _ => (.after (issueBp_chg ..) (.refl _ _))))

theorem raceAt_chg (x0 : Effect) (x1 : Word64) (x2 : State) :
    Chg 658 x2 (raceAt x0 x1 x2) := by
  unfold raceAt
  try dsimp only
  exact (.after (cluCnt_chg ..) (.after (cluCause_chg ..) (.refl _ _)))

theorem writeEffect_chg (x0 : Effect) (x1 : State) :
    Chg 1682 x1 (writeEffect x0 x1) := by
  unfold writeEffect
  try dsimp only
  split
  · exact (.upd (.refl _ _))
  · exact (.upd (.refl _ _))
  · exact (.upd (.refl _ _))
  · exact (.after (State_setPort_chg ..) (.refl _ _))
  · exact (.after (State_setPort_chg ..) (.refl _ _))
  · exact (.refl _ _)
  · exact (.after (markMismatch_chg ..) (.after (cluCnt_chg ..) (.refl _ _)))

theorem afterIssue_chg (x0 : Access) (x1 : State) :
    Chg 658 x1 (afterIssue x0 x1) := by
  unfold afterIssue
  try dsimp only
  exact (.after (cluCnt_chg ..) (.after (State_setPort_chg ..) (.refl _ _)))

theorem takeEffects_chg (x0 : ℕ) (x1 : Word64) (x2 : State) :
    Chg 296602 x2 (takeEffects x0 x1 x2) := by
  unfold takeEffects
  try dsimp only
  refine .each ?_ (fun _ _ => ?_)
  · refine .after (memGroup_chg ..) ?_
    refine .each ?_ (fun _ _ => ?_)
    · refine .each ?_ (fun _ _ => ?_)
      · refine .each ?_ (fun _ _ => ?_)
        · exact (.upd (.refl _ _))
        · exact (.after (raceAt_chg ..) (.refl _ _))
      · exact (.after (writeEffect_chg ..) (.refl _ _))
    · exact (.after (afterIssue_chg ..) (.refl _ _))
  · exact (.after (dspIssue_chg ..) (.refl _ _))

end Sys2Proof.Laws
end

