-- ==== Sys2Proof/Laws/FrameControl.lean ====
section
/-!
SUPPORT. Laws/FrameControl.lean: which parts of the state the operations of Machine/Control.lean may change.
-/
namespace Sys2Proof.Laws
set_option Elab.async false
open Sys2Proof.Machine

theorem schSettle_chg (x0 : State) :
    Chg 33555602 x0 (schSettle x0) := by
  unfold schSettle
  try dsimp only
  split
  · exact (.refl _ _)
  · exact (.refl _ _)
  · exact (.refl _ _)
  · refine .ite ?_ ?_
    · exact (.upd (.refl _ _))
    · refine .ite ?_ ?_
      · exact (.upd (.refl _ _))
      · refine .ite ?_ ?_
        · refine .ite ?_ ?_
          · exact (.upd (.refl _ _))
          · refine .after (raise_chg ..) ?_
            exact (.upd (.refl _ _))
        · exact (.upd (.refl _ _))

theorem discardCycles_chg (x0 : Word64 → Bool) (x1 : State) :
    Chg 427154 x1 (discardCycles x0 x1) := by
  unfold discardCycles
  try dsimp only
  refine .after (dspDiscard_chg ..) ?_
  refine .after (dropMem_chg ..) ?_
  refine .upd ?_
  exact (.after (spcAdd_chg ..) (.after (spcAdd_chg ..) (.refl _ _)))

theorem clearWork_chg (x0 : State) :
    Chg 34304 x0 (clearWork x0) := by
  unfold clearWork
  try dsimp only
  exact (.upd (.refl _ _))

theorem endDiscarded_chg (x0 : Exec) (x1 : ℕ) (x2 : State) :
    Chg 427154 x2 (endDiscarded x0 x1 x2) := by
  unfold endDiscarded
  try dsimp only
  refine .upd ?_
  exact (.after (discardCycles_chg ..) (.after (spcAdd_chg ..) (.after (spcAdd_chg ..) (.refl _ _))))

theorem faultStop_chg (x0 : State) :
    Chg 101093010 x0 (faultStop x0) := by
  unfold faultStop
  try dsimp only
  refine .ite ?_ ?_
  · exact (.upd (.refl _ _))
  · refine .after (ledAdd_chg ..) ?_
    refine .after (raise_chg ..) ?_
    refine .after (setPause_chg ..) ?_
    refine .upd ?_
    refine .after (clearWork_chg ..) ?_
    refine .after (discardCycles_chg ..) ?_
    split
    · exact (.after (endDiscarded_chg ..) (.refl _ _))
    · exact (.refl _ _)

theorem waveSelf_chg (x0 : Word64) (x1 : State) :
    Chg 2048 x1 (waveSelf x0 x1) := by
  unfold waveSelf
  try dsimp only
  exact (.upd (.refl _ _))

theorem waveUp_chg (x0 : Word64) (x1 : State) :
    Chg 133136 x1 (waveUp x0 x1) := by
  unfold waveUp
  try dsimp only
  refine .ite ?_ ?_
  · exact (.after (waveSelf_chg ..) (.refl _ _))
  · split
    · exact (.after (waveOut_chg ..) (.refl _ _))
    · exact (.refl _ _)

theorem waveDown_chg (x0 : Word64) (x1 : State) :
    Chg 131088 x1 (waveDown x0 x1) := by
  unfold waveDown
  try dsimp only
  exact (.each (.refl _ _) (fun _ _ => (.after (waveOut_chg ..) (.refl _ _))))

theorem readyPending_chg (x0 : State) :
    Chg 134290 x0 (readyPending x0) := by
  unfold readyPending
  try dsimp only
  refine .ite ?_ ?_
  · exact (.refl _ _)
  · refine .each ?_ (fun _ _ => ?_)
    · exact (.refl _ _)
    · refine .ite ?_ ?_
      · refine .after (spcAdd_chg ..) ?_
        refine .after (waveUp_chg ..) ?_
        exact (.upd (.refl _ _))
      · exact (.refl _ _)

theorem readyAgain_chg (x0 : State) :
    Chg 134290 x0 (readyAgain x0) := by
  unfold readyAgain
  try dsimp only
  refine .after (readyPending_chg ..) ?_
  exact (.upd (.refl _ _))

theorem squash_chg (x0 : Word64) (x1 : ℕ) (x2 : State) :
    Chg 429202 x2 (squash x0 x1 x2) := by
  unfold squash
  try dsimp only
  refine .upd ?_
  exact (.ite (.after (cutExec_chg ..) (.after (discardCycles_chg ..) (.refl _ _))) (.after (discardCycles_chg ..)
      (.refl _ _)))

theorem squashSend_chg (x0 : State) :
    Chg 133266 x0 (squashSend x0) := by
  unfold squashSend
  try dsimp only
  split
  · exact (.refl _ _)
  · refine .ite ?_ ?_
    · refine .after (spcAdd_chg ..) ?_
      exact (.upd (.refl _ _))
    · refine .upd ?_
      refine .after (spcAdd_chg ..) ?_
      refine .after (waveUp_chg ..) ?_
      refine .after (spcAdd_chg ..) ?_
      exact (.upd (.refl _ _))

theorem parityAbort_chg (x0 : Word64) (x1 : State) :
    Chg 101093010 x1 (parityAbort x0 x1) := by
  unfold parityAbort
  try dsimp only
  refine .ite ?_ ?_
  · refine .after (faultStop_chg ..) ?_
    refine .after (raise_chg ..) ?_
    refine .after (State_setBit_chg ..) ?_
    refine .after (spcAdd_chg ..) ?_
    refine .after (State_setFld_chg ..) ?_
    refine .after (State_setReg64_chg ..) ?_
    split
    · exact (.after (ledAdd_chg ..) (.refl _ _))
    · exact (.refl _ _)
  · refine .after (squash_chg ..) ?_
    refine .after (raise_chg ..) ?_
    refine .upd ?_
    refine .after (State_setFld_chg ..) ?_
    refine .after (State_setReg64_chg ..) ?_
    split
    · exact (.after (ledAdd_chg ..) (.refl _ _))
    · exact (.refl _ _)

theorem ckptFail_chg (x0 : State) :
    Chg 146 x0 (ckptFail x0) := by
  unfold ckptFail
  try dsimp only
  exact (.after (raise_chg ..) (.after (State_setBit_chg ..) (.refl _ _)))

theorem ckptStart_chg (x0 : Word64) (x1 : State) :
    Chg 33555602 x1 (ckptStart x0 x1) := by
  unfold ckptStart
  try dsimp only
  refine .ite ?_ ?_
  · exact (.refl _ _)
  · refine .ite ?_ ?_
    · refine .after (ckptFail_chg ..) ?_
      exact (.upd (.refl _ _))
    · refine .after (schSettle_chg ..) ?_
      exact (.upd (.refl _ _))

theorem commitCycle_chg (x0 : CycRec) (x1 : State) :
    Chg 48661650 x1 (commitCycle x0 x1) := by
  unfold commitCycle
  try dsimp only
  refine .after (ckptStart_chg ..) ?_
  refine .after (spcAdd_chg ..) ?_
  refine .after (spcAdd_chg ..) ?_
  refine .after (spcAdd_chg ..) ?_
  refine .after (dspCommit_chg ..) ?_
  refine .after (diRelease_chg ..) ?_
  refine .after (doCommit_chg ..) ?_
  refine .after (commitMem_chg ..) ?_
  refine .after (astCommit_chg ..) ?_
  refine .after (lksCommit_chg ..) ?_
  exact (.upd (.refl _ _))

theorem takeCommit_chg (x0 : State) :
    Chg 48663698 x0 (takeCommit x0) := by
  unfold takeCommit
  try dsimp only
  split
  · refine .ite ?_ ?_
    · exact (.after (commitCycle_chg ..) (.refl _ _))
    · exact (.upd (.refl _ _))
  · exact (.upd (.refl _ _))

theorem commitQueued_chg (x0 : ℕ) (x1 : State) :
    Chg 48663698 x1 (commitQueued x0 x1) := by
  induction x0 generalizing x1 with
  | zero =>
    unfold commitQueued
    try dsimp only
    exact (.refl _ _)
  | succ n ih =>
    unfold commitQueued
    try dsimp only
    split
    · exact (.refl _ _)
    · refine .ite ?_ ?_
      · exact (.refl _ _)
      · refine .after (ih ..) ?_
        refine .after (takeCommit_chg ..) ?_
        exact (.upd (.refl _ _))

theorem applyCommit_chg (x0 : State) :
    Chg 1024 x0 (applyCommit x0) := by
  unfold applyCommit
  try dsimp only
  exact (.upd (.refl _ _))

theorem throttleSeen_chg (x0 : State) :
    Chg 1024 x0 (throttleSeen x0) := by
  unfold throttleSeen
  try dsimp only
  refine .ite ?_ ?_
  · exact (.refl _ _)
  · exact (.upd (.refl _ _))

theorem throttleStep_chg (x0 : State) :
    Chg 1024 x0 (throttleStep x0) := by
  unfold throttleStep
  try dsimp only
  refine .ite ?_ ?_
  · refine .upd ?_
    exact (.after (throttleSeen_chg ..) (.refl _ _))
  · refine .upd ?_
    exact (.after (throttleSeen_chg ..) (.refl _ _))

theorem rampZero_chg (x0 : State) :
    Chg 33555456 x0 (rampZero x0) := by
  unfold rampZero
  try dsimp only
  refine .after (throttleSeen_chg ..) ?_
  exact (.upd (.refl _ _))

theorem throttlePoint_chg (x0 : State) :
    Chg 33555456 x0 (throttlePoint x0) := by
  unfold throttlePoint
  try dsimp only
  refine .after (throttleStep_chg ..) ?_
  refine .upd ?_
  exact (.ite (.after (rampZero_chg ..) (.refl _ _)) (.refl _ _))

theorem throttleChanged_chg (x0 : State) :
    Chg 1024 x0 (throttleChanged x0) := by
  unfold throttleChanged
  try dsimp only
  exact (.ite (.after (throttleStep_chg ..) (.refl _ _)) (.after (throttleSeen_chg ..) (.refl _ _)))

theorem countRequests_chg (x0 : List ℕ) (x1 : State) :
    Chg 146 x1 (countRequests x0 x1) := by
  unfold countRequests
  try dsimp only
  exact (.each (.refl _ _) (fun _ _ => (.after (cluCnt_chg ..) (.refl _ _))))

theorem countHelds_chg (x0 : ℕ) (x1 : BitVec 7) (x2 : State) :
    Chg 33555602 x2 (countHelds x0 x1 x2) := by
  unfold countHelds
  try dsimp only
  refine .upd ?_
  exact (.each (.refl _ _) (fun _ _ => (.ite (.after (heldCnt_chg ..) (.refl _ _)) (.refl _ _))))

theorem countHeld_chg (x0 : BitVec 7) (x1 : State) :
    Chg 33555602 x1 (countHeld x0 x1) := by
  unfold countHeld
  try dsimp only
  exact (.after (countHelds_chg ..) (.refl _ _))

theorem issueResumes_chg (x0 : State) :
    Chg 33555456 x0 (issueResumes x0) := by
  unfold issueResumes
  try dsimp only
  refine .ite ?_ ?_
  · exact (.upd (.refl _ _))
  · exact (.upd (.refl _ _))

end Sys2Proof.Laws
end

