-- ==== Sys2Proof/Laws/FrameWave.lean ====
section
/-!
SUPPORT. Laws/FrameWave.lean: which parts of the state the operations of Machine/Wave.lean may change.
-/
namespace Sys2Proof.Laws
set_option Elab.async false
open Sys2Proof.Machine

theorem reverifyFail_chg (x0 : Word64) (x1 : State) :
    Chg 429202 x1 (reverifyFail x0 x1) := by
  unfold reverifyFail
  try dsimp only
  split
  · refine .ite ?_ ?_
    · exact (.upd (.refl _ _))
    · exact (.ite (.after (squash_chg ..) (.refl _ _)) (.refl _ _))
  · exact (.ite (.after (squash_chg ..) (.refl _ _)) (.refl _ _))

theorem recordValue_chg (x0 : WaitStripe) (x1 : ℕ) (x2 : State) :
    Chg 131072 x2 (recordValue x0 x1 x2).1 := by
  unfold recordValue
  try dsimp only
  split
  · exact (.upd (.refl _ _))
  · exact (.upd (.refl _ _))

theorem recordStripe_chg (x0 : WaitStripe) (x1 : State) :
    Chg 429202 x1 (recordStripe x0 x1) := by
  unfold recordStripe
  try dsimp only
  exact (.after (readyPending_chg ..) (.ite (.after (reverifyFail_chg ..) (.fold1 (.refl _ _) (fun _ _ => (.after
      (recordValue_chg ..) (.refl _ _))))) (.fold1 (.refl _ _) (fun _ _ => (.after (recordValue_chg ..) (.refl _
      _))))))

theorem treatStripe_chg (x0 : WaitStripe) (x1 : State) :
    Chg 429202 x1 (treatStripe x0 x1) := by
  unfold treatStripe
  try dsimp only
  refine .ite ?_ ?_
  · exact (.after (lnkCnt_chg ..) (.refl _ _))
  · refine .ite ?_ ?_
    · exact (.upd (.refl _ _))
    · exact (.after (recordStripe_chg ..) (.refl _ _))

theorem protocolError_chg (x0 : State) :
    Chg 101093010 x0 (protocolError x0) := by
  unfold protocolError
  try dsimp only
  exact (.after (faultStop_chg ..) (.after (raise_chg ..) (.refl _ _)))

theorem condIssue_chg (x0 : State) :
    Chg 133136 x0 (condIssue x0) := by
  unfold condIssue
  try dsimp only
  refine .ite ?_ ?_
  · refine .after (waveDown_chg ..) ?_
    refine .after (waveSelf_chg ..) ?_
    exact (.upd (.refl _ _))
  · exact (.refl _ _)

theorem condReady_chg (x0 : Word64) (x1 : State) :
    Chg 2194 x1 (condReady x0 x1) := by
  unfold condReady
  try dsimp only
  refine .ite ?_ ?_
  · refine .ite ?_ ?_
    · exact (.refl _ _)
    · exact (.upd (.refl _ _))
  · exact (.after (spcAdd_chg ..) (.refl _ _))

theorem condSquash_chg (x0 : Word64) (x1 : State) :
    Chg 133266 x1 (condSquash x0 x1) := by
  unfold condSquash
  try dsimp only
  refine .after (waveDown_chg ..) ?_
  refine .after (waveSelf_chg ..) ?_
  refine .upd ?_
  exact (.ite (.after (spcAdd_chg ..) (.refl _ _)) (.refl _ _))

theorem modCommit_chg (x0 : Word64) (x1 : State) :
    Chg 101093010 x1 (modCommit x0 x1) := by
  unfold modCommit
  try dsimp only
  refine .ite ?_ ?_
  · exact (.after (spcAdd_chg ..) (.refl _ _))
  · refine .ite ?_ ?_
    · exact (.refl _ _)
    · refine .ite ?_ ?_
      · exact (.after (protocolError_chg ..) (.refl _ _))
      · split
        · exact (.ite (.after (applyCommit_chg ..) (.refl _ _)) (.after (protocolError_chg ..) (.refl _ _)))
        · exact (.ite (.after (protocolError_chg ..) (.refl _ _)) (.after (applyCommit_chg ..) (.refl _ _)))

theorem markStale_chg (x0 : BitVec 6) (x1 : Word64) (x2 : State) :
    Chg 131072 x2 (markStale x0 x1 x2) := by
  unfold markStale
  try dsimp only
  exact (.upd (.refl _ _))

theorem retreat_chg (x0 : State) :
    Chg 429202 x0 (retreat x0) := by
  unfold retreat
  try dsimp only
  refine .each ?_ (fun _ _ => ?_)
  · exact (.upd (.refl _ _))
  · exact (.after (treatStripe_chg ..) (.refl _ _))

theorem modRelay_chg (x0 : Word64) (x1 : State) :
    Chg 429202 x1 (modRelay x0 x1) := by
  unfold modRelay
  try dsimp only
  refine .after (readyAgain_chg ..) ?_
  refine .after (retreat_chg ..) ?_
  refine .after (markStale_chg ..) ?_
  refine .after (spcAdd_chg ..) ?_
  exact (.upd (.refl _ _))

theorem forward_chg (x0 : Word64) (x1 : State) :
    Chg 133136 x1 (forward x0 x1) := by
  unfold forward
  try dsimp only
  exact (.ite (.ite (.refl _ _) (.after (waveUp_chg ..) (.refl _ _))) (.after (waveDown_chg ..) (.refl _ _)))

theorem applyWave_chg (x0 : Word64) (x1 : State) :
    Chg 101093010 x1 (applyWave x0 x1) := by
  unfold applyWave
  try dsimp only
  exact (.ite (.ite (.after (condReady_chg ..) (.refl _ _)) (.refl _ _)) (.ite (.ite (.after (condSquash_chg ..)
      (.refl _ _)) (.refl _ _)) (.ite (.after (modCommit_chg ..) (.refl _ _)) (.after (modRelay_chg ..) (.refl _
      _)))))

theorem waveClock_chg (x0 : State) :
    Chg 115773074 x0 (waveClock x0) := by
  unfold waveClock
  try dsimp only
  refine .each ?_ (fun _ _ => ?_)
  · refine .upd ?_
    exact (.after (condIssue_chg ..) (.after (commitQueued_chg ..) (.refl _ _)))
  · exact (.ite (.refl _ _) (.after (applyWave_chg ..) (.refl _ _)))

end Sys2Proof.Laws
end

