-- ==== Sys2Proof/Laws/FrameClock.lean ====
section
/-!
SUPPORT. Laws/FrameClock.lean: which parts of the state the operations of Machine/Clock.lean may change.
-/
namespace Sys2Proof.Laws
set_option Elab.async false
open Sys2Proof.Machine

theorem clockArrive_chg (x0 : State) :
    Chg 67339930 x0 (clockArrive x0) := by
  unfold clockArrive
  try dsimp only
  exact (.after (vcTick_chg ..) (.after (flitClock_chg ..) (.after (memClock_chg ..) (.refl _ _))))

theorem clockClose_chg (x0 : BitVec 7) (x1 : State) :
    Chg 116821662 x1 (clockClose x0 x1) := by
  unfold clockClose
  try dsimp only
  refine .after (waveClock_chg ..) ?_
  refine .ite ?_ ?_
  · refine .after (faultStop_chg ..) ?_
    refine .upd ?_
    refine .after (squashSend_chg ..) ?_
    refine .after (doDue_chg ..) ?_
    refine .after (glvClock_chg ..) ?_
    refine .after (timeClock_chg ..) ?_
    refine .ite ?_ ?_
    · refine .after (astStat_chg ..) ?_
      exact (.upd (.refl _ _))
    · exact (.upd (.refl _ _))
  · refine .upd ?_
    refine .after (squashSend_chg ..) ?_
    refine .after (doDue_chg ..) ?_
    refine .after (glvClock_chg ..) ?_
    refine .after (timeClock_chg ..) ?_
    refine .ite ?_ ?_
    · refine .after (astStat_chg ..) ?_
      exact (.upd (.refl _ _))
    · exact (.upd (.refl _ _))

theorem clockEnd_chg (x0 : BitVec 7) (x1 : State) :
    Chg 116887198 x1 (clockEnd x0 x1) := by
  unfold clockEnd
  try dsimp only
  exact (.after (clockClose_chg ..) (.after (clockArrive_chg ..) (.refl _ _)))

theorem issueClock_chg (x0 : Exec) (x1 : State) :
    Chg 116887198 x1 (issueClock x0 x1) := by
  unfold issueClock
  try dsimp only
  refine .ite ?_ ?_
  · exact (.after (clockEnd_chg ..) (.refl _ _))
  · refine .ite ?_ ?_
    · refine .after (clockEnd_chg ..) ?_
      refine .after (countHeld_chg ..) ?_
      refine .after (countRequests_chg ..) ?_
      exact (.upd (.refl _ _))
    · refine .after (clockEnd_chg ..) ?_
      refine .upd ?_
      refine .ite ?_ ?_
      · refine .after (injectAt_chg ..) ?_
        refine .after (issueRest_chg ..) ?_
        refine .after (issueResumes_chg ..) ?_
        refine .upd ?_
        exact (.after (countRequests_chg ..) (.refl _ _))
      · refine .after (takeEffects_chg ..) ?_
        refine .after (injectAt_chg ..) ?_
        refine .after (issueRest_chg ..) ?_
        refine .after (issueResumes_chg ..) ?_
        refine .upd ?_
        exact (.after (countRequests_chg ..) (.refl _ _))

theorem waitClock_chg (x0 : State) :
    Chg 116887198 x0 (waitClock x0) := by
  unfold waitClock
  try dsimp only
  refine .ite ?_ ?_
  · exact (.after (clockEnd_chg ..) (.refl _ _))
  · refine .after (clockEnd_chg ..) ?_
    refine .ite ?_ ?_
    · refine .ite ?_ ?_
      · refine .after (memCnt_chg ..) ?_
        refine .upd ?_
        exact (.ite (.after (countRequests_chg ..) (.refl _ _)) (.after (countHeld_chg ..) (.after (countRequests_chg
            ..) (.refl _ _))))
      · refine .upd ?_
        exact (.ite (.after (countRequests_chg ..) (.refl _ _)) (.after (countHeld_chg ..) (.after (countRequests_chg
            ..) (.refl _ _))))
    · exact (.ite (.after (countRequests_chg ..) (.refl _ _)) (.after (countHeld_chg ..) (.after (countRequests_chg
          ..) (.refl _ _))))

theorem gatedClock_chg (x0 : State) :
    Chg 36931230 x0 (gatedClock x0) := by
  unfold gatedClock
  try dsimp only
  refine .upd ?_
  exact (.after (doDue_chg ..) (.after (glvClock_chg ..) (.after (timeClock_chg ..) (.ite (.after (vcTick_chg ..)
      (.ite (.after (startBursts_chg ..) (.refl _ _)) (.refl _ _))) (.ite (.after (startBursts_chg ..) (.refl _ _))
      (.refl _ _))))))

theorem clockTick_chg (x0 : State) :
    Chg 116887198 x0 (clockTick x0) := by
  unfold clockTick
  try dsimp only
  refine .ite ?_ ?_
  · exact (.after (gatedClock_chg ..) (.refl _ _))
  · split
    · exact (.after (issueClock_chg ..) (.refl _ _))
    · exact (.after (waitClock_chg ..) (.refl _ _))

theorem clocksUntil_chg {n : Nat} {p : State → Bool} {s t : State} (h : clocksUntil n p s = some t) :
    Chg 116887198 s t := by
  induction n generalizing s with
  | zero =>
    unfold clocksUntil at h
    split at h
    · cases h; exact .refl _ _
    · cases h
  | succ n ih =>
    unfold clocksUntil at h
    split at h
    · cases h; exact .refl _ _
    · exact .after (ih h) (clockTick_chg s)

theorem clocksUntil_getD_chg (n : Nat) (p : State → Bool) (s : State) : Chg 116887198 s ((clocksUntil n p s).getD s)
    := by
  cases h : clocksUntil n p s with
  | none => exact .refl _ _
  | some t => exact clocksUntil_chg h

theorem idle_chg (x0 : State) :
    Chg 116887198 x0 (idle x0) := by
  unfold idle
  try dsimp only
  exact (.ite (.after (clockTick_chg ..) (.refl _ _)) (.refl _ _))

theorem throttleClocks_chg (x0 : ℕ) (x1 : State) :
    Chg 36701342 x1 (throttleClocks x0 x1) := by
  unfold throttleClocks
  try dsimp only
  refine .upd ?_
  refine .after (countHelds_chg ..) ?_
  refine .ite ?_ ?_
  · refine .after (astStat_chg ..) ?_
    refine .ite ?_ ?_
    · refine .after (glvEdges_chg ..) ?_
      exact (.upd (.refl _ _))
    · refine .after (glvEdges_chg ..) ?_
      exact (.upd (.refl _ _))
  · refine .ite ?_ ?_
    · refine .after (glvEdges_chg ..) ?_
      exact (.upd (.refl _ _))
    · refine .after (glvEdges_chg ..) ?_
      exact (.upd (.refl _ _))

end Sys2Proof.Laws
end

