-- ==== Sys2Proof/Laws/FrameCycle.lean ====
section
/-!
SUPPORT. Laws/FrameCycle.lean: which parts of the state the operations of Machine/Cycle.lean may change.
-/
namespace Sys2Proof.Laws
set_option Elab.async false
open Sys2Proof.Machine

theorem openCycle_chg (x0 : State) :
    Chg 165376 x0 (openCycle x0) := by
  unfold openCycle
  try dsimp only
  refine .upd ?_
  exact (.after (clearWork_chg ..) (.refl _ _))

theorem bindInputs_chg (x0 : State) :
    Chg 6292122 x0 (bindInputs x0) := by
  unfold bindInputs
  try dsimp only
  split
  · exact (.refl _ _)
  · exact (.after (diInsert_chg ..) (.ite (.after (tdcAssign_chg ..) (.after (diSample_chg ..) (.refl _ _))) (.after
        (diSample_chg ..) (.refl _ _))))

theorem diAwaited_chg (x0 : State) :
    Chg 512 x0 (diAwaited x0) := by
  unfold diAwaited
  try dsimp only
  exact (.upd (.refl _ _))

theorem swapClock_chg (x0 : ℕ) (x1 : State) :
    Chg 116887198 x1 (swapClock x0 x1) := by
  unfold swapClock
  try dsimp only
  exact (.ite (.refl _ _) (.after (clockEnd_chg ..) (.after (countRequests_chg ..) (.refl _ _))))

theorem runWindow_chg (x0 : State) :
    Chg 116887198 x0 (runWindow x0) := by
  unfold runWindow
  try dsimp only
  exact (.after (swapClock_chg ..) (.after (swapClock_chg ..) (.after (swapClock_chg ..) (.after (bindInputs_chg ..)
      (.after (swapClock_chg ..) (.after (openCycle_chg ..) (.refl _ _)))))))

theorem reopen_chg (x0 : State) :
    Chg 116887198 x0 (reopen x0) := by
  unfold reopen
  try dsimp only
  exact (.ite (.after (runWindow_chg ..) (.refl _ _)) (.refl _ _))

theorem wrapCheck_chg (x0 : State) :
    Chg 146 x0 (wrapCheck x0) := by
  unfold wrapCheck
  try dsimp only
  exact (.ite (.after (raise_chg ..) (.after (State_setBit_chg ..) (.refl _ _))) (.refl _ _))

theorem countRun_chg (x0 : State) :
    Chg 2 x0 (countRun x0) := by
  unfold countRun
  try dsimp only
  exact (.ite (.refl _ _) (.ite (.after (setPause_chg ..) (.after (State_setReg_chg ..) (.refl _ _))) (.after
      (State_setReg_chg ..) (.refl _ _))))

theorem rampStart_chg (x0 : State) :
    Chg 33555456 x0 (rampStart x0) := by
  unfold rampStart
  try dsimp only
  exact (.ite (.after (rampZero_chg ..) (.refl _ _)) (.refl _ _))

theorem beginCycle_chg (x0 : State) :
    Chg 33588882 x0 (beginCycle x0) := by
  unfold beginCycle
  try dsimp only
  refine .after (schSettle_chg ..) ?_
  refine .ite ?_ ?_
  · refine .after (spcAdd_chg ..) ?_
    refine .after (spcAdd_chg ..) ?_
    refine .upd ?_
    refine .after (rampStart_chg ..) ?_
    refine .after (State_setReg64_chg ..) ?_
    refine .ite ?_ ?_
    · exact (.refl _ _)
    · refine .after (countRun_chg ..) ?_
      exact (.upd (.refl _ _))
  · refine .after (spcAdd_chg ..) ?_
    refine .upd ?_
    refine .after (rampStart_chg ..) ?_
    refine .after (State_setReg64_chg ..) ?_
    refine .ite ?_ ?_
    · exact (.refl _ _)
    · refine .after (countRun_chg ..) ?_
      exact (.upd (.refl _ _))

theorem throttleEnd_chg {s t : State} (h : throttleEnd s = some t) : Chg 116887198 s t := by
  unfold throttleEnd at h
  obtain ⟨u, hu, rfl⟩ := Option.map_eq_some_iff.mp h
  exact .ite (.after (throttleClocks_chg ..) (clocksUntil_chg hu)) (clocksUntil_chg hu)

theorem lfcWait_chg {s t : State} (h : lfcWait s = some t) : Chg 116887198 s t := by
  unfold lfcWait at h
  split at h
  · exact .after (throttleEnd_chg h) (.upd (.refl _ _))
  · cases h; exact .refl _ _

theorem startCycle_chg (s : State) : Chg 116887198 s (startCycle s) := by
  unfold startCycle
  dsimp only
  refine .ite (.refl _ _) ?_
  split
  · exact .refl _ _
  · rename_i heq
    obtain ⟨u, hu, hv⟩ := Option.bind_eq_some_iff.mp heq
    refine .ite (.after (beginCycle_chg ..) (.after (reopen_chg ..) (.after (lfcWait_chg hv) (.after (throttleEnd_chg
        hu) ?_)))) (.refl _ _)
    exact .after (reopen_chg ..) (.refl _ _)

theorem execCycleStart_chg (x0 : State) :
    OChg 116887198 x0 (execCycleStart x0) := by
  unfold execCycleStart
  try dsimp only
  exact (.run (.after (startCycle_chg ..) (.refl _ _)))

theorem slotIssues_chg {k : Nat} {s u : State} {e : Exec} (h : slotIssues k s = some (e, u)) :
    Chg 116887198 s u := by
  unfold slotIssues at h
  obtain ⟨v, hv, hw⟩ := Option.bind_eq_some_iff.mp h
  obtain ⟨w, hw', hx⟩ := Option.bind_eq_some_iff.mp hv
  simp only [Option.map_eq_some_iff, Prod.mk.injEq] at hw
  obtain ⟨e', -, -, rfl⟩ := hw
  exact .after (clocksUntil_chg hx) (clocksUntil_chg hw')

theorem issueAt_chg (x0 : WordKind → Bool) (x1 : Place) (x2 : State) :
    Chg 116887198 x2 (issueAt x0 x1 x2) := by
  unfold issueAt
  refine .ite (.refl _ _) ?_
  split
  · rename_i heq
    exact .after (issueBp_chg ..) (slotIssues_chg heq)
  · exact .refl _ _

theorem execInstrNop_chg (x0 : Place) (x1 : State) :
    OChg 116887198 x1 (execInstrNop x0 x1) := by
  unfold execInstrNop
  try dsimp only
  exact (.run (.after (issueAt_chg ..) (.refl _ _)))

theorem execInstrCnsWrite_chg (x0 : Place) (x1 : State) :
    OChg 116887198 x1 (execInstrCnsWrite x0 x1) := by
  unfold execInstrCnsWrite
  try dsimp only
  exact (.run (.after (issueAt_chg ..) (.refl _ _)))

theorem execInstrShadowWrite_chg (x0 : Place) (x1 : State) :
    OChg 116887198 x1 (execInstrShadowWrite x0 x1) := by
  unfold execInstrShadowWrite
  try dsimp only
  exact (.run (.after (issueAt_chg ..) (.refl _ _)))

theorem execInstrSendSlotWrite_chg (x0 : Place) (x1 : State) :
    OChg 116887198 x1 (execInstrSendSlotWrite x0 x1) := by
  unfold execInstrSendSlotWrite
  try dsimp only
  exact (.run (.after (issueAt_chg ..) (.refl _ _)))

theorem execPortAddrbit_chg (x0 : Place) (x1 : State) :
    OChg 116887198 x1 (execPortAddrbit x0 x1) := by
  unfold execPortAddrbit
  try dsimp only
  exact (.run (.after (issueAt_chg ..) (.refl _ _)))

theorem execPortWdatabit_chg (x0 : Place) (x1 : State) :
    OChg 116887198 x1 (execPortWdatabit x0 x1) := by
  unfold execPortWdatabit
  try dsimp only
  exact (.run (.after (issueAt_chg ..) (.refl _ _)))

theorem execIssueRead_chg (x0 : Place) (x1 : State) :
    OChg 116887198 x1 (execIssueRead x0 x1) := by
  unfold execIssueRead
  try dsimp only
  exact (.run (.after (issueAt_chg ..) (.refl _ _)))

theorem execIssueWrite_chg (x0 : Place) (x1 : State) :
    OChg 116887198 x1 (execIssueWrite x0 x1) := by
  unfold execIssueWrite
  try dsimp only
  exact (.run (.after (issueAt_chg ..) (.refl _ _)))

theorem execIssueAtomicAdd_chg (x0 : Place) (x1 : State) :
    OChg 116887198 x1 (execIssueAtomicAdd x0 x1) := by
  unfold execIssueAtomicAdd
  try dsimp only
  exact (.run (.after (issueAt_chg ..) (.refl _ _)))

theorem execIssueAtomicSwap_chg (x0 : Place) (x1 : State) :
    OChg 116887198 x1 (execIssueAtomicSwap x0 x1) := by
  unfold execIssueAtomicSwap
  try dsimp only
  exact (.run (.after (issueAt_chg ..) (.refl _ _)))

theorem execIssueSend_chg (x0 : Place) (x1 : State) :
    OChg 116887198 x1 (execIssueSend x0 x1) := by
  unfold execIssueSend
  try dsimp only
  exact (.run (.after (issueAt_chg ..) (.refl _ _)))

theorem execIssueSendBlocking_chg (x0 : Place) (x1 : State) :
    OChg 116887198 x1 (execIssueSendBlocking x0 x1) := by
  unfold execIssueSendBlocking
  try dsimp only
  exact (.run (.after (issueAt_chg ..) (.refl _ _)))

theorem execVerify_chg (x0 : Place) (x1 : State) :
    OChg 116887198 x1 (execVerify x0 x1) := by
  unfold execVerify
  try dsimp only
  exact (.run (.after (issueAt_chg ..) (.refl _ _)))

theorem bndClock_chg {m : Nat} {f : Exec → State → State} {s : State} (h : ∀ e t, Chg m t (f e t))
    (hm : 116887198 ||| m = m := by decide) : Chg m s (bndClock f s) := by
  unfold bndClock
  split
  · exact .after (clockEnd_chg ..) (h _ s) hm
  · exact .refl _ _

theorem verifyCheck_chg (x0 : Exec) (x1 : State) :
    Chg 658 x1 (verifyCheck x0 x1) := by
  unfold verifyCheck
  try dsimp only
  exact (.each (.refl _ _) (fun _ _ => (.ite (.after (cluCause_chg ..) (.ite (.refl _ _) (.after (State_setFld_chg
      ..) (.refl _ _)))) (.ite (.refl _ _) (.after (State_setFld_chg ..) (.refl _ _))))))

theorem drain_chg (x0 : State) :
    Chg 116887198 x0 (drain x0) := by
  unfold drain
  try dsimp only
  split
  · exact (.refl _ _)
  · refine .ite ?_ ?_
    · exact (.refl _ _)
    · split
      · rename_i heq2
        exact (.refl _ _)
      · rename_i heq3
        split
        · refine .upd ?_
          refine .after (bndClock_chg (m := 116887198) (fun _ _ => (.after (dspCloseOpen_chg ..) (.after
              (injectAt_chg ..) (.refl _ _))))) ?_
          refine .after (bndClock_chg (m := 116887198) (fun _ _ => (.after (verifyCheck_chg ..) (.after (injectAt_chg
              ..) (.refl _ _))))) ?_
          refine .after (bndClock_chg (m := 116887198) (fun _ _ => (.after (injectAt_chg ..) (.refl _ _)))) ?_
          refine .after (bndClock_chg (m := 116887198) (fun _ _ => ?_)) ?_
          · split
            · exact (.after (injectAt_chg ..) (.refl _ _))
            · exact (.after (takeEffects_chg ..) (.after (injectAt_chg ..) (.refl _ _)))
          · exact (.after (clocksUntil_chg heq3 ..) (.refl _ _))
        · refine .after (bndClock_chg (m := 116887198) (fun _ _ => (.after (dspCloseOpen_chg ..) (.after
              (injectAt_chg ..) (.refl _ _))))) ?_
          refine .after (bndClock_chg (m := 116887198) (fun _ _ => (.after (verifyCheck_chg ..) (.after (injectAt_chg
              ..) (.refl _ _))))) ?_
          refine .after (bndClock_chg (m := 116887198) (fun _ _ => (.after (injectAt_chg ..) (.refl _ _)))) ?_
          refine .after (bndClock_chg (m := 116887198) (fun _ _ => ?_)) ?_
          · split
            · exact (.after (injectAt_chg ..) (.refl _ _))
            · exact (.after (takeEffects_chg ..) (.after (injectAt_chg ..) (.refl _ _)))
          · exact (.after (clocksUntil_chg heq3 ..) (.refl _ _))

theorem execBoundaryDrain_chg (x0 : State) :
    OChg 116887198 x0 (execBoundaryDrain x0) := by
  unfold execBoundaryDrain
  try dsimp only
  exact (.run (.after (drain_chg ..) (.refl _ _)))

theorem updateLast_chg (x0 : State) :
    Chg 512 x0 (updateLast x0) := by
  unfold updateLast
  try dsimp only
  exact (.upd (.refl _ _))

theorem mergeCopy_chg (x0 : ℕ) (x1 : State) :
    Chg 512 x1 (mergeCopy x0 x1) := by
  unfold mergeCopy
  try dsimp only
  exact (.upd (.refl _ _))

theorem mergeParity_chg (x0 : ℕ) (x1 : Exec) (x2 : State) :
    Chg 658 x2 (mergeParity x0 x1 x2) := by
  unfold mergeParity
  try dsimp only
  exact (.each (.refl _ _) (fun _ _ => (.after (cluCause_chg ..) (.refl _ _))))

theorem settleOrphans_chg (x0 : State) :
    Chg 2 x0 (settleOrphans x0) := by
  unfold settleOrphans
  try dsimp only
  refine .each ?_ (fun _ _ => ?_)
  · exact (.refl _ _)
  · split
    · split
      · exact (.ite (.after (State_setFld_chg ..) (.refl _ _)) (.refl _ _))
      · exact (.refl _ _)
    · exact (.refl _ _)

theorem finishCycle_chg (x0 : Exec) (x1 : State) :
    Chg 48663698 x1 (finishCycle x0 x1) := by
  unfold finishCycle
  try dsimp only
  refine .ite ?_ ?_
  · refine .after (commitQueued_chg ..) ?_
    refine .after (takeCommit_chg ..) ?_
    refine .after (raise_chg ..) ?_
    refine .after (spcAdd_chg ..) ?_
    exact (.upd (.refl _ _))
  · refine .after (readyPending_chg ..) ?_
    exact (.upd (.refl _ _))

theorem decide'_chg (x0 : Exec) (x1 : State) :
    Chg 115773074 x1 (decide' x0 x1) := by
  unfold decide'
  try dsimp only
  refine .ite ?_ ?_
  · exact (.after (faultStop_chg ..) (.after (dspB7_chg ..) (.after (settleOrphans_chg ..) (.refl _ _))))
  · refine .ite ?_ ?_
    · exact (.after (parityAbort_chg ..) (.after (endDiscarded_chg ..) (.after (dspB7_chg ..) (.after
          (settleOrphans_chg ..) (.refl _ _)))))
    · refine .ite ?_ ?_
      · exact (.after (endDiscarded_chg ..) (.after (dspB7_chg ..) (.after (settleOrphans_chg ..) (.refl _ _))))
      · refine .ite ?_ ?_
        · exact (.after (parityAbort_chg ..) (.after (endDiscarded_chg ..) (.after (dspB7_chg ..) (.after
              (settleOrphans_chg ..) (.refl _ _)))))
        · refine .ite ?_ ?_
          · exact (.after (faultStop_chg ..) (.after (raise_chg ..) (.after (dspB7_chg ..) (.after (settleOrphans_chg
                ..) (.refl _ _)))))
          · refine .ite ?_ ?_
            · exact (.after (faultStop_chg ..) (.after (raise_chg ..) (.after (dspB7_chg ..) (.after
                  (settleOrphans_chg ..) (.refl _ _)))))
            · refine .ite ?_ ?_
              · exact (.after (faultStop_chg ..) (.after (raise_chg ..) (.after (dspB7_chg ..) (.after
                    (settleOrphans_chg ..) (.refl _ _)))))
              · exact (.ite (.after (squash_chg ..) (.after (endDiscarded_chg ..) (.after (dspB7_chg ..) (.after
                    (settleOrphans_chg ..) (.refl _ _))))) (.after (finishCycle_chg ..) (.after (dspB7_chg ..)
                    (.after (settleOrphans_chg ..) (.refl _ _)))))

theorem swap_chg (x0 : State) :
    Chg 116887198 x0 (swap x0) := by
  unfold swap
  try dsimp only
  refine .ite ?_ ?_
  · exact (.refl _ _)
  · refine .ite ?_ ?_
    · exact (.after (runWindow_chg ..) (.refl _ _))
    · refine .after (reopen_chg ..) ?_
      refine .after (schSettle_chg ..) ?_
      refine .after (throttlePoint_chg ..) ?_
      refine .after (wrapCheck_chg ..) ?_
      refine .upd ?_
      exact (.after (runWindow_chg ..) (.refl _ _))

theorem lastMerge_chg (x0 : State) :
    Chg 116887198 x0 (lastMerge x0) := by
  unfold lastMerge
  try dsimp only
  split
  · exact (.refl _ _)
  · split
    · exact (.after (clockClose_chg ..) (.after (decide'_chg ..) (.after (clockArrive_chg ..) (.after (mergeCopy_chg
          ..) (.after (mergeParity_chg ..) (.refl _ _))))))
    · exact (.after (clockClose_chg ..) (.after (clockArrive_chg ..) (.after (mergeCopy_chg ..) (.after
          (mergeParity_chg ..) (.refl _ _)))))

theorem commitPoint_chg (x0 : State) :
    Chg 116887198 x0 (commitPoint x0) := by
  unfold commitPoint
  try dsimp only
  split
  · exact (.refl _ _)
  · refine .ite ?_ ?_
    · exact (.refl _ _)
    · refine .after (swap_chg ..) ?_
      refine .upd ?_
      exact (.after (lastMerge_chg ..) (.after (bndClock_chg (m := 116887198) (fun _ _ => (.after (mergeParity_chg
          ..) (.refl _ _)))) (.after (bndClock_chg (m := 116887198) (fun _ _ => (.after (mergeParity_chg ..) (.refl _
          _)))) (.after (bndClock_chg (m := 116887198) (fun _ _ => (.after (mergeParity_chg ..) (.after
          (updateLast_chg ..) (.refl _ _))))) (.refl _ _)))))

theorem execCommitPointPass_chg (x0 : State) :
    OChg 116887198 x0 (execCommitPointPass x0) := by
  unfold execCommitPointPass
  try dsimp only
  exact (.run (.after (commitPoint_chg ..) (.refl _ _)))

theorem loadDropped_chg (x0 : State) :
    Chg 2 x0 (loadDropped x0) := by
  unfold loadDropped
  try dsimp only
  exact (.after (State_setBit_chg ..) (.refl _ _))

theorem startWake_chg (x0 : State) :
    Chg 33554434 x0 (startWake x0) := by
  unfold startWake
  try dsimp only
  refine .ite ?_ ?_
  · exact (.refl _ _)
  · refine .after (State_setFld_chg ..) ?_
    exact (.upd (.refl _ _))

theorem schCtrlWrite_chg (x0 : Word32) (x1 : State) :
    Chg 33555602 x1 (schCtrlWrite x0 x1) := by
  unfold schCtrlWrite
  try dsimp only
  refine .ite ?_ ?_
  · exact (.ite (.ite (.refl _ _) (.after (State_setFld_chg ..) (.refl _ _))) (.after (startWake_chg ..) (.ite (.refl
        _ _) (.after (State_setFld_chg ..) (.refl _ _)))))
  · refine .ite ?_ ?_
    · exact (.after (schSettle_chg ..) (.after (setPause_chg ..) (.ite (.refl _ _) (.after (State_setFld_chg ..)
          (.refl _ _)))))
    · exact (.ite (.after (loadDropped_chg ..) (.ite (.refl _ _) (.after (State_setFld_chg ..) (.refl _ _)))) (.after
          (startWake_chg ..) (.after (schSettle_chg ..) (.after (State_setBit_chg ..) (.ite (.refl _ _) (.after
          (State_setFld_chg ..) (.refl _ _)))))))

theorem execPauseSet_chg (x0 : Path) (x1 : State) :
    OChg 33555602 x1 (execPauseSet x0 x1) := by
  unfold execPauseSet
  try dsimp only
  exact (.run (.after (regAccess_chg (m := 33555602) (fun _ _ => (.after (schCtrlWrite_chg ..) (.refl _ _)))) (.refl
      _ _)))

theorem execPauseClear_chg (x0 : Path) (x1 : State) :
    OChg 33555602 x1 (execPauseClear x0 x1) := by
  unfold execPauseClear
  try dsimp only
  exact (.run (.after (regAccess_chg (m := 33555602) (fun _ _ => (.after (schCtrlWrite_chg ..) (.refl _ _)))) (.refl
      _ _)))

theorem execDepthSet_chg (x0 : Path) (x1 : BitVec 2) (x2 : State) :
    OChg 33555602 x2 (execDepthSet x0 x1 x2) := by
  unfold execDepthSet
  try dsimp only
  exact (.run (.after (regAccess_chg (m := 33555602) (fun _ _ => (.after (schCtrlWrite_chg ..) (.refl _ _)))) (.refl
      _ _)))

theorem execRunCountWrite_chg (x0 : Path) (x1 : Word32) (x2 : State) :
    OChg 146 x2 (execRunCountWrite x0 x1 x2) := by
  unfold execRunCountWrite
  try dsimp only
  exact (.run (.after (regAccess_chg (m := 146) (fun _ _ => (.after (storeReg_chg ..) (.refl _ _)))) (.refl _ _)))

theorem holdLong_chg (x0 : State) :
    Chg 1170 x0 (holdLong x0) := by
  unfold holdLong
  try dsimp only
  refine .ite ?_ ?_
  · exact (.refl _ _)
  · refine .after (raise_chg ..) ?_
    refine .after (State_setReg_chg ..) ?_
    exact (.upd (.refl _ _))

theorem execHoldLong_chg (x0 : State) :
    OChg 1170 x0 (execHoldLong x0) := by
  unfold execHoldLong
  try dsimp only
  exact (.run (.after (holdLong_chg ..) (.refl _ _)))

theorem applyEnd_chg (x0 : ℕ) (x1 : State) :
    Chg 33555602 x1 (applyEnd x0 x1) := by
  unfold applyEnd
  try dsimp only
  refine .after (schSettle_chg ..) ?_
  refine .after (raise_chg ..) ?_
  refine .upd ?_
  exact (.after (State_setBit_chg ..) (.after (State_setFld_chg ..) (.refl _ _)))

theorem applyRefused_chg (x0 : ℕ) (x1 : State) :
    Chg 146 x1 (applyRefused x0 x1) := by
  unfold applyRefused
  try dsimp only
  exact (.after (raise_chg ..) (.after (State_setBit_chg ..) (.after (State_setFld_chg ..) (.refl _ _))))

theorem applyGo_chg (x0 : Bool) (x1 : Word32) (x2 : State) :
    Chg 1170 x2 (applyGo x0 x1 x2) := by
  unfold applyGo
  try dsimp only
  refine .ite ?_ ?_
  · exact (.refl _ _)
  · refine .ite ?_ ?_
    · exact (.after (loadDropped_chg ..) (.refl _ _))
    · refine .ite ?_ ?_
      · exact (.after (applyRefused_chg ..) (.refl _ _))
      · refine .ite ?_ ?_
        · exact (.after (applyRefused_chg ..) (.refl _ _))
        · refine .after (State_setBit_chg ..) ?_
          exact (.upd (.refl _ _))

theorem execApplyGo_chg (x0 : OpWrite) (x1 : State) :
    OChg 1170 x1 (execApplyGo x0 x1) := by
  unfold execApplyGo
  try dsimp only
  exact (.run (.after (regAccess_chg (m := 1170) (fun _ _ => (.after (applyGo_chg ..) (.refl _ _)))) (.refl _ _)))

theorem applyImage_chg (x0 : State) :
    Chg 12802 x0 (applyImage x0) := by
  unfold applyImage
  try dsimp only
  refine .ite ?_ ?_
  · exact (.refl _ _)
  · split
    · refine .each ?_ (fun _ _ => ?_)
      · exact (.upd (.refl _ _))
      · exact (.after (State_setFld_chg ..) (.refl _ _))
    · exact (.upd (.refl _ _))

theorem applyNow_chg (x0 : Word64) (x1 : State) :
    Chg 113292954 x1 (applyNow x0 x1) := by
  unfold applyNow
  try dsimp only
  refine .after (applyEnd_chg ..) ?_
  refine .ite ?_ ?_
  · refine .upd ?_
    refine .after (astApply_chg ..) ?_
    refine .after (applyImage_chg ..) ?_
    refine .ite ?_ ?_
    · refine .upd ?_
      exact (.ite (.after (astDrain_chg ..) (.refl _ _)) (.refl _ _))
    · exact (.ite (.after (astDrain_chg ..) (.refl _ _)) (.refl _ _))
  · refine .after (astApply_chg ..) ?_
    refine .after (applyImage_chg ..) ?_
    refine .ite ?_ ?_
    · refine .upd ?_
      exact (.ite (.after (astDrain_chg ..) (.refl _ _)) (.refl _ _))
    · exact (.ite (.after (astDrain_chg ..) (.refl _ _)) (.refl _ _))

theorem applyExecute_chg (x0 : Bool) (x1 : State) :
    Chg 113292954 x1 (applyExecute x0 x1) := by
  unfold applyExecute
  try dsimp only
  split
  · exact (.refl _ _)
  · refine .ite ?_ ?_
    · exact (.refl _ _)
    · refine .ite ?_ ?_
      · exact (.after (applyEnd_chg ..) (.refl _ _))
      · refine .ite ?_ ?_
        · refine .after (schSettle_chg ..) ?_
          exact (.upd (.refl _ _))
        · exact (.after (applyNow_chg ..) (.refl _ _))

theorem execApplyExecute_chg (x0 : Bool) (x1 : State) :
    OChg 113292954 x1 (execApplyExecute x0 x1) := by
  unfold execApplyExecute
  try dsimp only
  exact (.run (.after (applyExecute_chg ..) (.refl _ _)))

theorem execFrozenApplyDone_chg (x0 : State) :
    OChg 113292954 x0 (execFrozenApplyDone x0) := by
  unfold execFrozenApplyDone
  try dsimp only
  refine .run ?_
  split
  · exact (.ite (.after (applyNow_chg ..) (.refl _ _)) (.refl _ _))
  · exact (.refl _ _)

theorem ckptCtrlWrite_chg (x0 : Word32) (x1 : State) :
    Chg 1026 x1 (ckptCtrlWrite x0 x1) := by
  unfold ckptCtrlWrite
  try dsimp only
  refine .ite ?_ ?_
  · exact (.after (loadDropped_chg ..) (.refl _ _))
  · refine .ite ?_ ?_
    · exact (.after (storeReg_chg ..) (.refl _ _))
    · refine .upd ?_
      exact (.after (storeReg_chg ..) (.refl _ _))

theorem execCheckpointNow_chg (x0 : Path) (x1 : State) :
    OChg 1170 x1 (execCheckpointNow x0 x1) := by
  unfold execCheckpointNow
  try dsimp only
  exact (.run (.after (regAccess_chg (m := 1170) (fun _ _ => (.after (ckptCtrlWrite_chg ..) (.refl _ _)))) (.refl _
      _)))

theorem dropEntry_chg (x0 : QEntry) (x1 : State) :
    Chg 32768 x1 (dropEntry x0 x1) := by
  unfold dropEntry
  try dsimp only
  refine .after (releaseAllFour_chg ..) ?_
  exact (.upd (.refl _ _))

theorem applyStored_chg (x0 : QEntry) (x1 : State) :
    Chg 101093010 x1 (applyStored x0 x1) := by
  unfold applyStored
  try dsimp only
  exact (.ite (.after (faultStop_chg ..) (.after (hbmUncorrected_chg ..) (.after (dropEntry_chg ..) (.refl _ _))))
      (.after (dropEntry_chg ..) (.after (writeStored_chg ..) (.ite (.after (hbmCorrected_chg ..) (.refl _ _)) (.refl
      _ _)))))

theorem drainQueues_chg (x0 : State) :
    Chg 101093010 x0 (drainQueues x0) := by
  unfold drainQueues
  try dsimp only
  refine .upd ?_
  exact (.each (.refl _ _) (fun _ _ => (.after (applyStored_chg ..) (.refl _ _))))

theorem settledMem_chg (x0 : State) :
    Chg 32768 x0 (settledMem x0) := by
  unfold settledMem
  try dsimp only
  exact (.each (.refl _ _) (fun _ _ => (.after (writeStored_chg ..) (.refl _ _))))

theorem copyParity_chg (x0 : State) :
    Chg 146 x0 (copyParity x0) := by
  unfold copyParity
  try dsimp only
  split
  · exact (.refl _ _)
  · exact (.after (raise_chg ..) (.after (memCause_chg ..) (.refl _ _)))

theorem copyEcc_chg (x0 : ℕ → Bool) (x1 : State) :
    Chg 67109010 x1 (copyEcc x0 x1) := by
  unfold copyEcc
  try dsimp only
  exact (.each (.refl _ _) (fun _ _ => (.ite (.after (hbmUncorrected_chg ..) (.refl _ _)) (.ite (.after
      (hbmCorrected_chg ..) (.refl _ _)) (.refl _ _)))))

theorem ckptStore_chg (x0 : CkptCopy) (x1 : State) : Chg 33792 x1 (ckptStore x0 x1) := by
  unfold ckptStore
  exact .upd (.refl _ _) (i3 := mwf_filter _)

theorem ckptDone_chg (x0 : Bool) (x1 : State) :
    Chg 100697234 x1 (ckptDone x0 x1) := by
  unfold ckptDone
  try dsimp only
  split
  · exact (.refl _ _)
  · refine .after (schSettle_chg ..) ?_
    refine .ite ?_ ?_
    · refine .after (ckptFail_chg ..) ?_
      refine .after (copyEcc_chg ..) ?_
      refine .ite ?_ ?_
      · refine .after (copyParity_chg ..) ?_
        exact (.upd (.refl _ _))
      · exact (.upd (.refl _ _))
    · refine .after (raise_chg ..) ?_
      refine .after (State_setFld_chg ..) ?_
      refine .after (ckptStore_chg ..) ?_
      refine .after (copyEcc_chg ..) ?_
      refine .ite ?_ ?_
      · refine .after (copyParity_chg ..) ?_
        exact (.upd (.refl _ _))
      · exact (.upd (.refl _ _))

theorem execCheckpointDone_chg (x0 : Bool) (x1 : State) :
    OChg 100697234 x1 (execCheckpointDone x0 x1) := by
  unfold execCheckpointDone
  try dsimp only
  exact (.run (.after (ckptDone_chg ..) (.refl _ _)))

theorem rewindEnd_chg (x0 : ℕ) (x1 : State) :
    Chg 1170 x1 (rewindEnd x0 x1) := by
  unfold rewindEnd
  try dsimp only
  refine .after (raise_chg ..) ?_
  refine .after (State_setBit_chg ..) ?_
  refine .after (State_setFld_chg ..) ?_
  exact (.upd (.refl _ _))

theorem rewindRefused_chg (x0 : ℕ) (x1 : State) :
    Chg 146 x1 (rewindRefused x0 x1) := by
  unfold rewindRefused
  try dsimp only
  exact (.after (raise_chg ..) (.after (State_setBit_chg ..) (.after (State_setFld_chg ..) (.refl _ _))))

theorem rewindWrite_chg (x0 : Bool) (x1 : Word32) (x2 : State) :
    Chg 1170 x2 (rewindWrite x0 x1 x2) := by
  unfold rewindWrite
  try dsimp only
  refine .ite ?_ ?_
  · exact (.after (loadDropped_chg ..) (.refl _ _))
  · refine .ite ?_ ?_
    · exact (.after (storeReg_chg ..) (.refl _ _))
    · refine .ite ?_ ?_
      · exact (.after (rewindRefused_chg ..) (.after (State_setBit_chg ..) (.after (storeReg_chg ..) (.refl _ _))))
      · refine .ite ?_ ?_
        · exact (.after (rewindRefused_chg ..) (.after (State_setBit_chg ..) (.after (storeReg_chg ..) (.refl _ _))))
        · refine .ite ?_ ?_
          · exact (.after (rewindRefused_chg ..) (.after (State_setBit_chg ..) (.after (storeReg_chg ..) (.refl _
                _))))
          · refine .upd ?_
            exact (.after (State_setBit_chg ..) (.after (storeReg_chg ..) (.refl _ _)))

theorem execRewindGo_chg (x0 : OpWrite) (x1 : BitVec 6) (x2 : State) :
    OChg 1170 x2 (execRewindGo x0 x1 x2) := by
  unfold execRewindGo
  try dsimp only
  exact (.run (.after (regAccess_chg (m := 1170) (fun _ _ => (.after (rewindWrite_chg ..) (.refl _ _)))) (.refl _ _)))

theorem waveFresh_chg (x0 : Word64) (x1 : State) :
    Chg 133120 x1 (waveFresh x0 x1) := by
  unfold waveFresh
  try dsimp only
  exact (.upd (.refl _ _))

theorem bumpEpoch_chg (x0 : State) :
    Chg 524434 x0 (bumpEpoch x0) := by
  unfold bumpEpoch
  try dsimp only
  refine .ite ?_ ?_
  · exact (.upd (.refl _ _))
  · exact (.ite (.refl _ _) (.after (grantChanged_chg ..) (.each (.refl _ _) (fun _ _ => (.after (setGrant_chg ..)
        (.refl _ _))))))

theorem restoreSlot_chg (x0 : CkptSlot) (x1 : State) :
    Chg 101093010 x1 (restoreSlot x0 x1) := by
  unfold restoreSlot
  try dsimp only
  refine .upd ?_
  exact (.ite (.after (restoreHbm_chg ..) (.ite (.after (loadBanks_chg ..) (.after (drainQueues_chg ..) (.refl _ _)))
      (.after (drainQueues_chg ..) (.refl _ _)))) (.ite (.after (loadBanks_chg ..) (.after (drainQueues_chg ..)
      (.refl _ _))) (.after (drainQueues_chg ..) (.refl _ _))))

theorem rewound_chg (x0 : ℕ) (x1 : CkptSlot) (x2 : State) :
    Chg 117345946 x2 (rewound x0 x1 x2) := by
  unfold rewound
  try dsimp only
  refine .after (wrapCheck_chg ..) ?_
  refine .after (clearWork_chg ..) ?_
  refine .after (setPause_chg ..) ?_
  refine .upd ?_
  exact (.after (lksRewind_chg ..) (.after (bumpEpoch_chg ..) (.after (timeMasterFix_chg ..) (.after (astRewind_chg
      ..) (.after (diRelease_chg ..) (.after (waveFresh_chg ..) (.after (restoreSlot_chg ..) (.after (dspRewind_chg
      ..) (.after (discardCycles_chg ..) (.after (lksDrain_chg ..) (.after (astDrain_chg ..) (.refl _ _))))))))))))

theorem rewindTo_chg (x0 : ℕ) (x1 : CkptSlot) (x2 : State) :
    Chg 117411486 x2 (rewindTo x0 x1 x2) := by
  unfold rewindTo
  try dsimp only
  exact (.after (throttlePoint_chg ..) (.after (reopen_chg ..) (.after (rewound_chg ..) (.refl _ _))))

theorem rewindDone_chg (x0 : Bool) (x1 : State) :
    Chg 117411486 x1 (rewindDone x0 x1) := by
  unfold rewindDone
  try dsimp only
  split
  · exact (.refl _ _)
  · refine .ite ?_ ?_
    · refine .after (schSettle_chg ..) ?_
      refine .after (rewindEnd_chg ..) ?_
      refine .upd ?_
      exact (.after (copyEcc_chg ..) (.refl _ _))
    · exact (.after (rewindEnd_chg ..) (.after (rewindTo_chg ..) (.after (copyEcc_chg ..) (.refl _ _))))

theorem execRewindDone_chg (x0 : Bool) (x1 : State) :
    OChg 117411486 x1 (execRewindDone x0 x1) := by
  unfold execRewindDone
  try dsimp only
  exact (.run (.after (rewindDone_chg ..) (.refl _ _)))

end Sys2Proof.Laws
end

