-- ==== Sys2Proof/Laws/FrameAsterCommands.lean ====
section
/-!
SUPPORT. Laws/FrameAsterCommands.lean: which parts of the state the operations of Machine/AsterCommands.lean may change.
-/
namespace Sys2Proof.Laws
set_option Elab.async false
open Sys2Proof.Machine

theorem execAsterEvaluate_chg (x0 : State) :
    OChg 46271642 x0 (execAsterEvaluate x0) := by
  unfold execAsterEvaluate
  try dsimp only
  exact (.run (.after (readyPending_chg ..) (.after (schSettle_chg ..) (.after (astEval_chg ..) (.refl _ _)))))

theorem astCtrl_chg (x0 : Word32) (x1 : State) :
    Chg 12717202 x1 (astCtrl x0 x1) := by
  unfold astCtrl
  try dsimp only
  exact (.ite (.after (readyAgain_chg ..) (.after (astCtrlWrite_chg ..) (.refl _ _))) (.after (readyPending_chg ..)
      (.after (astCtrlWrite_chg ..) (.refl _ _))))

theorem execAsterDisarm_chg (x0 : Path) (x1 : Word32) (x2 : State) :
    OChg 12717202 x2 (execAsterDisarm x0 x1 x2) := by
  unfold execAsterDisarm
  try dsimp only
  exact (.run (.ite (.after (regAccess_chg (m := 12717202) (fun _ _ => (.after (astCtrl_chg ..) (.refl _ _)))) (.refl
      _ _)) (.refl _ _)))

theorem execAsterRelease_chg (x0 : Path) (x1 : Word32) (x2 : State) :
    OChg 12717202 x2 (execAsterRelease x0 x1 x2) := by
  unfold execAsterRelease
  try dsimp only
  exact (.run (.ite (.after (regAccess_chg (m := 12717202) (fun _ _ => (.after (astCtrl_chg ..) (.refl _ _)))) (.refl
      _ _)) (.refl _ _)))

theorem doUpdate_chg (x0 : State) :
    Chg 116887198 x0 (doUpdate x0) := by
  unfold doUpdate
  try dsimp only
  split
  · exact (.refl _ _)
  · exact (.after (clocksUntil_getD_chg ..) (.refl _ _))

theorem execDoUpdate_chg (x0 : State) :
    OChg 116887198 x0 (execDoUpdate x0) := by
  unfold execDoUpdate
  try dsimp only
  exact (.run (.after (doUpdate_chg ..) (.refl _ _)))

end Sys2Proof.Laws
end

