-- ==== Sys2Proof/Laws/FrameOwnership.lean ====
section
/-!
SUPPORT. Laws/FrameOwnership.lean: which parts of the state the operations of Machine/Ownership.lean may change.
-/
namespace Sys2Proof.Laws
set_option Elab.async false
open Sys2Proof.Machine

theorem setClaim_chg (x0 : Master) (x1 : State) :
    Chg 256 x1 (setClaim x0 x1) := by
  unfold setClaim
  try dsimp only
  split
  · exact (.refl _ _)
  · exact (.upd (.refl _ _))
  · exact (.upd (.refl _ _))
  · exact (.upd (.refl _ _))

theorem clearClaims_chg (x0 : State) :
    Chg 256 x0 (clearClaims x0) := by
  unfold clearClaims
  try dsimp only
  exact (.upd (.refl _ _))

theorem setOwner_chg (x0 : Master) (x1 : State) : Chg 256 x1 (setOwner x0 x1) := by
  unfold setOwner
  refine .upd (.refl _ _) (i4 := fun _ => ⟨fun e => ?_, fun e => ?_⟩)
  · by_cases hm : x0 = .none
    · exact hm
    · simp [hm] at e
  · by_cases hm : x0 = .none
    · simp [hm] at e
    · exact hm

theorem own_chg (x0 : Master) (x1 : State) :
    Chg 402 x1 (own x0 x1) := by
  unfold own
  try dsimp only
  exact (.ite (.after (setOwner_chg ..) (.refl _ _)) (.after (raise_chg ..) (.after (setOwner_chg ..) (.refl _ _))))

theorem vacate_chg (x0 : State) :
    Chg 402 x0 (vacate x0) := by
  unfold vacate
  try dsimp only
  exact (.after (raise_chg ..) (.after (setOwner_chg ..) (.refl _ _)))

theorem openWindow_chg (x0 : State) : Chg 256 x0 (openWindow x0) := by
  unfold openWindow
  exact .upd (.refl _ _) (i4 := fun _ => ⟨nofun, nofun⟩)

theorem claimRefused_chg (x0 : ℕ) (x1 : Bool) (x2 : State) :
    Chg 146 x2 (claimRefused x0 x1 x2) := by
  unfold claimRefused
  try dsimp only
  exact (.after (gblErr_chg ..) (.refl _ _))

theorem claim_chg (x0 : Master) (x1 : ℕ) (x2 : Bool) (x3 : State) :
    Chg 402 x3 (claim x0 x1 x2 x3) := by
  unfold claim
  try dsimp only
  split
  · exact (.ite (.after (setClaim_chg ..) (.refl _ _)) (.after (claimRefused_chg ..) (.refl _ _)))
  · exact (.ite (.refl _ _) (.after (claimRefused_chg ..) (.refl _ _)))
  · exact (.ite (.after (setClaim_chg ..) (.after (clearClaims_chg ..) (.after (openWindow_chg ..) (.refl _ _))))
        (.after (claimRefused_chg ..) (.refl _ _)))

theorem windowClose_chg (x0 : State) :
    Chg 402 x0 (windowClose x0) := by
  unfold windowClose
  try dsimp only
  refine .ite ?_ ?_
  · exact (.refl _ _)
  · refine .after (own_chg ..) ?_
    refine .after (clearClaims_chg ..) ?_
    exact (.upd (.refl _ _))

theorem execClaimWindowClose_chg (x0 : State) :
    OChg 402 x0 (execClaimWindowClose x0) := by
  unfold execClaimWindowClose
  try dsimp only
  exact (.run (.after (windowClose_chg ..) (.refl _ _)))

theorem ownClaimWrite_chg (x0 : Path) (x1 : Word32) (x2 : State) :
    Chg 402 x2 (ownClaimWrite x0 x1 x2) := by
  unfold ownClaimWrite
  try dsimp only
  refine .ite ?_ ?_
  · exact (.refl _ _)
  · split
    · exact (.after (claim_chg ..) (.refl _ _))
    · exact (.after (claim_chg ..) (.refl _ _))
    · exact (.refl _ _)
    · exact (.refl _ _)

theorem execOwnClaim_chg (x0 : Path) (x1 : Word32) (x2 : State) :
    OChg 402 x2 (execOwnClaim x0 x1 x2) := by
  unfold execOwnClaim
  try dsimp only
  exact (.run (.after (regAccess_chg (m := 402) (fun _ _ => (.after (ownClaimWrite_chg ..) (.refl _ _)))) (.refl _
      _)))

theorem ownBeatWrite_chg (x0 : Word32) (x1 : State) :
    Chg 256 x1 (ownBeatWrite x0 x1) := by
  unfold ownBeatWrite
  try dsimp only
  exact (.upd (.refl _ _))

theorem execOwnBeat_chg (x0 : Path) (x1 : Word32) (x2 : State) :
    OChg 402 x2 (execOwnBeat x0 x1 x2) := by
  unfold execOwnBeat
  try dsimp only
  exact (.run (.after (regAccess_chg (m := 402) (fun _ _ => (.after (ownBeatWrite_chg ..) (.refl _ _)))) (.refl _ _)))

theorem execHeartbeatTimeout_chg (x0 : State) :
    OChg 402 x0 (execHeartbeatTimeout x0) := by
  unfold execHeartbeatTimeout
  try dsimp only
  exact (.run (.ite (.after (vacate_chg ..) (.refl _ _)) (.refl _ _)))

theorem execGraceExpiry_chg (x0 : State) :
    OChg 402 x0 (execGraceExpiry x0) := by
  unfold execGraceExpiry
  try dsimp only
  exact (.run (.ite (.after (vacate_chg ..) (.refl _ _)) (.refl _ _)))

end Sys2Proof.Laws
end

