-- ==== Sys2Proof/Laws/FrameLanes.lean ====
section
/-!
SUPPORT. Laws/FrameLanes.lean: which parts of the state the operations of Machine/Lanes.lean may change.
-/
namespace Sys2Proof.Laws
set_option Elab.async false
open Sys2Proof.Machine

theorem lanesLedger_chg (x0 : ℕ) (x1 : State) :
    Chg 67109010 x1 (lanesLedger x0 x1) := by
  unfold lanesLedger
  try dsimp only
  exact (.times (.refl _ _) (fun _ _ => (.after (ledAdd_chg ..) (.refl _ _))))

theorem traceLeft_chg (x0 : State) :
    Chg 8388754 x0 (traceLeft x0) := by
  unfold traceLeft
  try dsimp only
  exact (.ite (.after (loseSink_chg ..) (.refl _ _)) (.refl _ _))

theorem portTo_chg (x0 : ℕ) (x1 : LaneState) (x2 : State) :
    Chg 110530194 x2 (portTo x0 x1 x2) := by
  unfold portTo
  try dsimp only
  refine .ite ?_ ?_
  · exact (.ite (.after (clearMpd_chg ..) (.after (State_setLane_chg ..) (.refl _ _))) (.after (State_setLane_chg ..)
        (.refl _ _)))
  · refine .ite ?_ ?_
    · refine .after (faultStop_chg ..) ?_
      refine .after (traceLeft_chg ..) ?_
      exact (.after (lanesLedger_chg ..) (.after (lnkCause_chg ..) (.ite (.after (upstreamLost_chg ..) (.ite (.after
          (clearMpd_chg ..) (.after (State_setLane_chg ..) (.refl _ _))) (.after (State_setLane_chg ..) (.refl _
          _)))) (.ite (.after (clearMpd_chg ..) (.after (State_setLane_chg ..) (.refl _ _))) (.after
          (State_setLane_chg ..) (.refl _ _))))))
    · refine .after (traceLeft_chg ..) ?_
      exact (.after (lanesLedger_chg ..) (.after (lnkCause_chg ..) (.ite (.after (upstreamLost_chg ..) (.ite (.after
          (clearMpd_chg ..) (.after (State_setLane_chg ..) (.refl _ _))) (.after (State_setLane_chg ..) (.refl _
          _)))) (.ite (.after (clearMpd_chg ..) (.after (State_setLane_chg ..) (.refl _ _))) (.after
          (State_setLane_chg ..) (.refl _ _))))))

theorem trainFail_chg (x0 : ℕ) (x1 : ℕ) (x2 : State) :
    Chg 110530194 x2 (trainFail x0 x1 x2) := by
  unfold trainFail
  try dsimp only
  exact (.after (portTo_chg ..) (.after (lnkCause_chg ..) (.refl _ _)))

theorem sendTrain_chg (x0 : ℕ) (x1 : State) :
    Chg 131088 x1 (sendTrain x0 x1) := by
  unfold sendTrain
  try dsimp only
  exact (.times (.after (State_emit_chg ..) (.after (State_setLane_chg ..) (.refl _ _))) (fun _ _ => (.after
      (State_emit_chg ..) (.refl _ _))))

theorem enterRecovery_chg (x0 : ℕ) (x1 : ℕ) (x2 : State) :
    Chg 76677266 x2 (enterRecovery x0 x1 x2) := by
  unfold enterRecovery
  try dsimp only
  exact (.after (traceLeft_chg ..) (.after (lanesLedger_chg ..) (.after (lnkCnt_chg ..) (.after (lnkCause_chg ..)
      (.after (upstreamLost_chg ..) (.after (sendTrain_chg ..) (.after (clearMpd_chg ..) (.after (State_setLane_chg
      ..) (.refl _ _)))))))))

theorem trainTo_chg (x0 : ℕ) (x1 : LaneState) (x2 : State) :
    Chg 131088 x2 (trainTo x0 x1 x2) := by
  unfold trainTo
  try dsimp only
  exact (.ite (.after (State_setLane_chg ..) (.refl _ _)) (.after (sendTrain_chg ..) (.after (State_setLane_chg ..)
      (.refl _ _))))

theorem lnkCtrlWrite_chg (x0 : ℕ) (x1 : Word32) (x2 : State) :
    Chg 110530194 x2 (lnkCtrlWrite x0 x1 x2) := by
  unfold lnkCtrlWrite
  try dsimp only
  refine .ite ?_ ?_
  · refine .ite ?_ ?_
    · exact (.ite (.ite (.refl _ _) (.after (State_setFld_chg ..) (.refl _ _))) (.after (State_setFld_chg ..) (.ite
          (.refl _ _) (.after (State_setFld_chg ..) (.refl _ _)))))
    · exact (.after (portTo_chg ..) (.ite (.ite (.refl _ _) (.after (State_setFld_chg ..) (.refl _ _))) (.after
          (State_setFld_chg ..) (.ite (.refl _ _) (.after (State_setFld_chg ..) (.refl _ _))))))
  · exact (.ite (.ite (.refl _ _) (.after (State_setFld_chg ..) (.refl _ _))) (.after (State_setFld_chg ..) (.ite
        (.refl _ _) (.after (State_setFld_chg ..) (.refl _ _)))))

theorem execLaneRestart_chg (x0 : Path) (x1 : BitVec 4) (x2 : Word32) (x3 : State) :
    OChg 110530194 x3 (execLaneRestart x0 x1 x2 x3) := by
  unfold execLaneRestart
  try dsimp only
  exact (.run (.ite (.after (regAccess_chg (m := 110530194) (fun _ _ => (.after (lnkCtrlWrite_chg ..) (.refl _ _))))
      (.refl _ _)) (.refl _ _)))

theorem onPort_chg {m : Nat} {p : BitVec 4} {f : Nat → State → State} {s : State} (h : ∀ k t, Chg m t (f k t)) :
    Chg m s (onPort p f s) := by
  unfold onPort
  exact .ite (h _ s) (.refl _ _)

theorem execLaneDetectDone_chg (x0 : BitVec 4) (x1 : State) :
    OChg 131088 x1 (execLaneDetectDone x0 x1) := by
  unfold execLaneDetectDone
  try dsimp only
  exact (.run (.after (onPort_chg (m := 131088) (fun _ _ => (.ite (.after (trainTo_chg ..) (.refl _ _)) (.refl _
      _)))) (.refl _ _)))

theorem execLanePatternLocked_chg (x0 : BitVec 4) (x1 : State) :
    OChg 131088 x1 (execLanePatternLocked x0 x1) := by
  unfold execLanePatternLocked
  try dsimp only
  exact (.run (.after (onPort_chg (m := 131088) (fun _ _ => (.ite (.after (trainTo_chg ..) (.refl _ _)) (.refl _
      _)))) (.refl _ _)))

theorem alignDone_chg (x0 : List AlignLane) (x1 : ℕ) (x2 : State) :
    Chg 110530194 x2 (alignDone x0 x1 x2) := by
  unfold alignDone
  try dsimp only
  exact (.ite (.refl _ _) (.ite (.after (trainTo_chg ..) (.after (State_setLane_chg ..) (.refl _ _))) (.after
      (trainFail_chg ..) (.after (lnkCause_chg ..) (.refl _ _)))))

theorem execLaneAlignDone_chg (x0 : BitVec 4) (x1 : AlignLane) (x2 : AlignLane) (x3 : AlignLane) (x4 : AlignLane) (x5
    : State) :
    OChg 110530194 x5 (execLaneAlignDone x0 x1 x2 x3 x4 x5) := by
  unfold execLaneAlignDone
  try dsimp only
  exact (.run (.after (onPort_chg (m := 110530194) (fun _ _ => (.after (alignDone_chg ..) (.refl _ _)))) (.refl _ _)))

theorem sendCaps_chg (x0 : ℕ) (x1 : Bool) (x2 : ℕ) (x3 : State) :
    Chg 131088 x3 (sendCaps x0 x1 x2 x3) := by
  unfold sendCaps
  try dsimp only
  exact (.times (.after (State_setLane_chg ..) (.refl _ _)) (fun _ _ => (.after (State_emit_chg ..) (.refl _ _))))

theorem lanesLocked_chg (x0 : ℕ) (x1 : State) :
    Chg 131072 x1 (lanesLocked x0 x1) := by
  unfold lanesLocked
  try dsimp only
  exact (.after (State_setLane_chg ..) (.refl _ _))

theorem deskewDone_chg (x0 : ℕ) (x1 : ℕ) (x2 : State) :
    Chg 110530194 x2 (deskewDone x0 x1 x2) := by
  unfold deskewDone
  try dsimp only
  exact (.ite (.refl _ _) (.ite (.after (sendCaps_chg ..) (.after (trainTo_chg ..) (.after (lanesLocked_chg ..)
      (.refl _ _)))) (.after (trainFail_chg ..) (.refl _ _))))

theorem execLaneDeskewDone_chg (x0 : BitVec 4) (x1 : ℕ) (x2 : State) :
    OChg 110530194 x2 (execLaneDeskewDone x0 x1 x2) := by
  unfold execLaneDeskewDone
  try dsimp only
  exact (.run (.after (onPort_chg (m := 110530194) (fun _ _ => (.after (deskewDone_chg ..) (.refl _ _)))) (.refl _
      _)))

theorem enterDesync_chg (x0 : ℕ) (x1 : State) :
    Chg 132242 x1 (enterDesync x0 x1) := by
  unfold enterDesync
  try dsimp only
  refine .ite ?_ ?_
  · exact (.after (lnkCause_chg ..) (.after (State_setLane_chg ..) (.refl _ _)))
  · split
    · refine .upd ?_
      exact (.after (cutExec_chg ..) (.after (lnkCause_chg ..) (.after (State_setLane_chg ..) (.refl _ _))))
    · exact (.after (cutExec_chg ..) (.after (lnkCause_chg ..) (.after (State_setLane_chg ..) (.refl _ _))))

theorem pedigreeRows_chg (x0 : ℕ) (x1 : BitVec 128) (x2 : State) :
    Chg 1180818 x2 (pedigreeRows x0 x1 x2) := by
  unfold pedigreeRows
  try dsimp only
  refine .after (flushWaves_chg ..) ?_
  refine .after (timeCompare_chg ..) ?_
  refine .ite ?_ ?_
  · refine .after (upstreamLost_chg ..) ?_
    refine .ite ?_ ?_
    · exact (.after (enterDesync_chg ..) (.ite (.after (lnkCause_chg ..) (.ite (.after (lnkCause_chg ..) (.after
          (State_setLane_chg ..) (.refl _ _))) (.after (State_setLane_chg ..) (.refl _ _)))) (.ite (.after
          (lnkCause_chg ..) (.after (State_setLane_chg ..) (.refl _ _))) (.after (State_setLane_chg ..) (.refl _
          _)))))
    · exact (.ite (.after (lnkCause_chg ..) (.ite (.after (lnkCause_chg ..) (.after (State_setLane_chg ..) (.refl _
          _))) (.after (State_setLane_chg ..) (.refl _ _)))) (.ite (.after (lnkCause_chg ..) (.after
          (State_setLane_chg ..) (.refl _ _))) (.after (State_setLane_chg ..) (.refl _ _))))
  · refine .ite ?_ ?_
    · exact (.after (enterDesync_chg ..) (.ite (.after (lnkCause_chg ..) (.ite (.after (lnkCause_chg ..) (.after
          (State_setLane_chg ..) (.refl _ _))) (.after (State_setLane_chg ..) (.refl _ _)))) (.ite (.after
          (lnkCause_chg ..) (.after (State_setLane_chg ..) (.refl _ _))) (.after (State_setLane_chg ..) (.refl _
          _)))))
    · exact (.ite (.after (lnkCause_chg ..) (.ite (.after (lnkCause_chg ..) (.after (State_setLane_chg ..) (.refl _
          _))) (.after (State_setLane_chg ..) (.refl _ _)))) (.ite (.after (lnkCause_chg ..) (.after
          (State_setLane_chg ..) (.refl _ _))) (.after (State_setLane_chg ..) (.refl _ _))))

theorem pedigreeIn_chg (x0 : ℕ) (x1 : BitVec 128) (x2 : State) :
    Chg 110530194 x2 (pedigreeIn x0 x1 x2) := by
  unfold pedigreeIn
  try dsimp only
  exact (.ite (.after (portTo_chg ..) (.after (lnkCause_chg ..) (.after (lnkCnt_chg ..) (.after (State_setLane_chg
      ..) (.refl _ _))))) (.ite (.after (pedigreeRows_chg ..) (.after (lnkCnt_chg ..) (.after (State_setLane_chg ..)
      (.refl _ _)))) (.after (lnkCnt_chg ..) (.after (State_setLane_chg ..) (.refl _ _)))))

theorem sendToPedigree_chg (x0 : ℕ) (x1 : ℕ) (x2 : State) :
    Chg 131088 x2 (sendToPedigree x0 x1 x2) := by
  induction x0 generalizing x1 x2 with
  | zero =>
    unfold sendToPedigree
    try dsimp only
    exact (.refl _ _)
  | succ n ih =>
    unfold sendToPedigree
    try dsimp only
    exact (.ite (.after (sendGroup_chg ..) (.refl _ _)) (.after (ih ..) (.after (sendGroup_chg ..) (.refl _ _))))

theorem pedigreeSend_chg (x0 : ℕ) (x1 : State) :
    Chg 131088 x1 (pedigreeSend x0 x1) := by
  unfold pedigreeSend
  try dsimp only
  exact (.ite (.after (sendToPedigree_chg ..) (.refl _ _)) (.refl _ _))

theorem execPedigreeSend_chg (x0 : BitVec 4) (x1 : State) :
    OChg 131088 x1 (execPedigreeSend x0 x1) := by
  unfold execPedigreeSend
  try dsimp only
  exact (.run (.after (onPort_chg (m := 131088) (fun _ _ => (.after (pedigreeSend_chg ..) (.refl _ _)))) (.refl _ _)))

theorem execPedigreeReceive_chg (x0 : BitVec 4) (x1 : BitVec 128) (x2 : State) :
    OChg 110530194 x2 (execPedigreeReceive x0 x1 x2) := by
  unfold execPedigreeReceive
  try dsimp only
  exact (.run (.after (onPort_chg (m := 110530194) (fun _ _ => (.after (laneGives_chg (m := 110530194) (fun _ =>
      (.ite (.after (pedigreeIn_chg ..) (.refl _ _)) (.refl _ _)))) (.refl _ _)))) (.refl _ _)))

theorem takeAck_chg (x0 : BitVec 8) (x1 : ℕ) (x2 : State) :
    Chg 131072 x2 (takeAck x0 x1 x2) := by
  unfold takeAck
  try dsimp only
  exact (.ite (.after (State_setLane_chg ..) (.refl _ _)) (.refl _ _))

theorem resendAll_chg (x0 : ℕ) (x1 : State) :
    Chg 1179794 x1 (resendAll x0 x1) := by
  unfold resendAll
  try dsimp only
  exact (.each (.after (timeDropped_chg ..) (.after (lnkCnt_chg ..) (.after (State_setLane_chg ..) (.refl _ _))))
      (fun _ _ => (.after (State_emit_chg ..) (.refl _ _))))

theorem takeCaps_chg (x0 : ℕ) (x1 : Caps) (x2 : State) :
    Chg 131072 x2 (takeCaps x0 x1 x2) := by
  unfold takeCaps
  try dsimp only
  exact (.after (State_setLane_chg ..) (.refl _ _))

theorem exchangeDone_chg (x0 : Caps) (x1 : ℕ) (x2 : State) :
    Chg 110530450 x2 (exchangeDone x0 x1 x2) := by
  unfold exchangeDone
  try dsimp only
  refine .ite ?_ ?_
  · exact (.refl _ _)
  · refine .ite ?_ ?_
    · exact (.after (portTo_chg ..) (.after (lnkCause_chg ..) (.refl _ _)))
    · refine .ite ?_ ?_
      · exact (.after (pedigreeIn_chg ..) (.after (takeCaps_chg ..) (.after (sendCaps_chg ..) (.after
            (lanesLocked_chg ..) (.ite (.after (takeAck_chg ..) (.refl _ _)) (.refl _ _))))))
      · refine .ite ?_ ?_
        · refine .after (claim_chg ..) ?_
          refine .after (flushWaves_chg ..) ?_
          refine .ite ?_ ?_
          · exact (.after (resendAll_chg ..) (.after (State_setLane_chg ..) (.after (pedigreeIn_chg ..) (.after
                (takeCaps_chg ..) (.after (sendCaps_chg ..) (.after (lanesLocked_chg ..) (.ite (.after (takeAck_chg
                ..) (.refl _ _)) (.refl _ _))))))))
          · exact (.after (State_setLane_chg ..) (.after (pedigreeIn_chg ..) (.after (takeCaps_chg ..) (.after
                (sendCaps_chg ..) (.after (lanesLocked_chg ..) (.ite (.after (takeAck_chg ..) (.refl _ _)) (.refl _
                _)))))))
        · refine .after (flushWaves_chg ..) ?_
          refine .ite ?_ ?_
          · exact (.after (resendAll_chg ..) (.after (State_setLane_chg ..) (.after (pedigreeIn_chg ..) (.after
                (takeCaps_chg ..) (.after (sendCaps_chg ..) (.after (lanesLocked_chg ..) (.ite (.after (takeAck_chg
                ..) (.refl _ _)) (.refl _ _))))))))
          · exact (.after (State_setLane_chg ..) (.after (pedigreeIn_chg ..) (.after (takeCaps_chg ..) (.after
                (sendCaps_chg ..) (.after (lanesLocked_chg ..) (.ite (.after (takeAck_chg ..) (.refl _ _)) (.refl _
                _)))))))

theorem execLaneExchangeDone_chg (x0 : BitVec 4) (x1 : Caps) (x2 : State) :
    OChg 110530450 x2 (execLaneExchangeDone x0 x1 x2) := by
  unfold execLaneExchangeDone
  try dsimp only
  exact (.run (.after (onPort_chg (m := 110530450) (fun _ _ => (.after (exchangeDone_chg ..) (.refl _ _)))) (.refl _
      _)))

theorem execLaneTrainingTimeout_chg (x0 : BitVec 4) (x1 : State) :
    OChg 110530194 x1 (execLaneTrainingTimeout x0 x1) := by
  unfold execLaneTrainingTimeout
  try dsimp only
  exact (.run (.after (onPort_chg (m := 110530194) (fun _ _ => (.ite (.after (trainFail_chg ..) (.refl _ _)) (.refl _
      _)))) (.refl _ _)))

theorem execLaneRecoveryTimeout_chg (x0 : BitVec 4) (x1 : State) :
    OChg 110530194 x1 (execLaneRecoveryTimeout x0 x1) := by
  unfold execLaneRecoveryTimeout
  try dsimp only
  exact (.run (.after (onPort_chg (m := 110530194) (fun _ _ => (.ite (.after (portTo_chg ..) (.refl _ _)) (.refl _
      _)))) (.refl _ _)))

theorem lockLoss_chg (x0 : ℕ) (x1 : ℕ) (x2 : State) :
    Chg 76677266 x2 (lockLoss x0 x1 x2) := by
  unfold lockLoss
  try dsimp only
  exact (.ite (.after (enterRecovery_chg ..) (.after (State_setLane_chg ..) (.refl _ _))) (.after (State_setLane_chg
      ..) (.refl _ _)))

theorem phaseLoss_chg (x0 : ℕ) (x1 : ℕ) (x2 : State) :
    Chg 76677266 x2 (phaseLoss x0 x1 x2) := by
  unfold phaseLoss
  try dsimp only
  exact (.ite (.after (lockLoss_chg ..) (.refl _ _)) (.refl _ _))

theorem execLaneBlockLockLoss_chg (x0 : BitVec 4) (x1 : LaneHeads) (x2 : State) :
    OChg 76677266 x2 (execLaneBlockLockLoss x0 x1 x2) := by
  unfold execLaneBlockLockLoss
  try dsimp only
  exact (.run (.after (onPort_chg (m := 76677266) (fun _ _ => (.ite (.after (lockLoss_chg ..) (.refl _ _)) (.refl _
      _)))) (.refl _ _)))

theorem execPhaseLoopLockLoss_chg (x0 : BitVec 4) (x1 : BitVec 2) (x2 : State) :
    OChg 76677266 x2 (execPhaseLoopLockLoss x0 x1 x2) := by
  unfold execPhaseLoopLockLoss
  try dsimp only
  exact (.run (.after (onPort_chg (m := 76677266) (fun _ _ => (.after (phaseLoss_chg ..) (.refl _ _)))) (.refl _ _)))

theorem groupBad_chg (x0 : Bool) (x1 : ℕ) (x2 : State) :
    Chg 131218 x2 (groupBad x0 x1 x2) := by
  unfold groupBad
  try dsimp only
  exact (.ite (.after (lnkCnt_chg ..) (.after (State_setLane_chg ..) (.after (lnkCnt_chg ..) (.after (lnkCause_chg
      ..) (.refl _ _))))) (.after (lnkCnt_chg ..) (.after (lnkCause_chg ..) (.refl _ _))))

theorem stripeAccept_chg (x0 : ℕ) (x1 : LaneStripe) (x2 : State) :
    Chg 131218 x2 (stripeAccept x0 x1 x2) := by
  unfold stripeAccept
  try dsimp only
  refine .ite ?_ ?_
  · exact (.after (lnkCnt_chg ..) (.refl _ _))
  · refine .ite ?_ ?_
    · exact (.after (State_setLane_chg ..) (.ite (.after (State_setLane_chg ..) (.ite (.after (takeAck_chg ..) (.refl
          _ _)) (.refl _ _))) (.ite (.after (takeAck_chg ..) (.refl _ _)) (.refl _ _))))
    · exact (.ite (.after (State_setLane_chg ..) (.ite (.after (takeAck_chg ..) (.refl _ _)) (.refl _ _))) (.ite
          (.after (takeAck_chg ..) (.refl _ _)) (.refl _ _)))

theorem groupIn_chg (x0 : List LaneStripe) (x1 : ℕ) (x2 : State) :
    Chg 131218 x2 (groupIn x0 x1 x2) := by
  unfold groupIn
  try dsimp only
  exact (.ite (.ite (.after (State_emit_chg ..) (.refl _ _)) (.refl _ _)) (.after (sendGroup_chg ..) (.ite (.each
      (.after (State_setLane_chg ..) (.refl _ _)) (fun _ _ => (.after (stripeAccept_chg ..) (.refl _ _)))) (.after
      (groupBad_chg ..) (.refl _ _)))))

theorem execLaneGroupReceive_chg (x0 : BitVec 4) (x1 : List LaneStripe) (x2 : State) :
    OChg 131218 x2 (execLaneGroupReceive x0 x1 x2) := by
  unfold execLaneGroupReceive
  try dsimp only
  exact (.run (.after (onPort_chg (m := 131218) (fun _ _ => (.after (groupIn_chg ..) (.refl _ _)))) (.refl _ _)))

theorem resend_chg (x0 : ℕ) (x1 : State) :
    Chg 76677266 x1 (resend x0 x1) := by
  unfold resend
  try dsimp only
  exact (.ite (.after (enterRecovery_chg ..) (.refl _ _)) (.after (resendAll_chg ..) (.refl _ _)))

theorem nakIn_chg (x0 : BitVec 8) (x1 : ℕ) (x2 : State) :
    Chg 76677266 x2 (nakIn x0 x1 x2) := by
  unfold nakIn
  try dsimp only
  exact (.ite (.after (resend_chg ..) (.after (takeAck_chg ..) (.after (State_setLane_chg ..) (.refl _ _)))) (.refl _
      _))

theorem execLaneNakReceive_chg (x0 : BitVec 4) (x1 : BitVec 8) (x2 : State) :
    OChg 76677266 x2 (execLaneNakReceive x0 x1 x2) := by
  unfold execLaneNakReceive
  try dsimp only
  exact (.run (.after (onPort_chg (m := 76677266) (fun _ _ => (.after (nakIn_chg ..) (.refl _ _)))) (.refl _ _)))

theorem execLaneResendTimeout_chg (x0 : BitVec 4) (x1 : State) :
    OChg 76677266 x1 (execLaneResendTimeout x0 x1) := by
  unfold execLaneResendTimeout
  try dsimp only
  exact (.run (.after (onPort_chg (m := 76677266) (fun _ _ => (.ite (.after (resend_chg ..) (.refl _ _)) (.refl _
      _)))) (.refl _ _)))

theorem sendStripe_chg (x0 : SlotLane) (x1 : Word64) (x2 : List Bool) (x3 : State) :
    Chg 131088 x3 (sendStripe x0 x1 x2 x3) := by
  unfold sendStripe
  try dsimp only
  refine .after (sendGroup_chg ..) ?_
  exact (.upd (.refl _ _))

theorem stripeOut_chg (x0 : BitVec 8) (x1 : ℕ) (x2 : ℕ) (x3 : State) :
    Chg 131088 x3 (stripeOut x0 x1 x2 x3) := by
  unfold stripeOut
  try dsimp only
  split
  · split
    · exact (.ite (.after (sendStripe_chg ..) (.refl _ _)) (.refl _ _))
    · exact (.refl _ _)
  · exact (.refl _ _)

theorem execValueStripeSend_chg (x0 : BitVec 4) (x1 : BitVec 8) (x2 : BitVec 12) (x3 : State) :
    OChg 131088 x3 (execValueStripeSend x0 x1 x2 x3) := by
  unfold execValueStripeSend
  try dsimp only
  exact (.run (.after (onPort_chg (m := 131088) (fun _ _ => (.after (stripeOut_chg ..) (.refl _ _)))) (.refl _ _)))

theorem stripeIn_chg (x0 : Word64) (x1 : BitVec 192) (x2 : ℕ) (x3 : State) :
    Chg 101093010 x3 (stripeIn x0 x1 x2 x3) := by
  unfold stripeIn
  try dsimp only
  exact (.ite (.refl _ _) (.ite (.after (lnkCause_chg ..) (.after (lnkCnt_chg ..) (.refl _ _))) (.ite (.after
      (protocolError_chg ..) (.refl _ _)) (.after (treatStripe_chg ..) (.refl _ _)))))

theorem execValueStripeReceive_chg (x0 : BitVec 4) (x1 : Word64) (x2 : BitVec 192) (x3 : State) :
    OChg 101093010 x3 (execValueStripeReceive x0 x1 x2 x3) := by
  unfold execValueStripeReceive
  try dsimp only
  exact (.run (.after (onPort_chg (m := 101093010) (fun _ _ => (.after (laneGives_chg (m := 101093010) (fun _ =>
      (.after (stripeIn_chg ..) (.refl _ _)))) (.refl _ _)))) (.refl _ _)))

theorem nakBack_chg (x0 : HbdLink) (x1 : ℕ) (x2 : State) :
    Chg 65536 x2 (nakBack x0 x1 x2) := by
  unfold nakBack
  try dsimp only
  exact (.upd (.refl _ _))

theorem hbdNak_chg (x0 : LinkNak) (x1 : ℕ) (x2 : State) :
    Chg 101158546 x2 (hbdNak x0 x1 x2) := by
  unfold hbdNak
  try dsimp only
  split
  · exact (.ite (.after (faultStop_chg ..) (.after (hbdLinkFail_chg ..) (.refl _ _))) (.after (hbdRetx_chg ..)
        (.after (nakBack_chg ..) (.refl _ _))))
  · refine .ite ?_ ?_
    · exact (.after (faultStop_chg ..) (.after (hbdLinkFail_chg ..) (.refl _ _)))
    · refine .after (hbdRetx_chg ..) ?_
      exact (.upd (.refl _ _))

theorem sidebandFail_chg (x0 : LinkNak) (x1 : ℕ) (x2 : ℕ) (x3 : State) :
    Chg 101158546 x3 (sidebandFail x0 x1 x2 x3) := by
  unfold sidebandFail
  try dsimp only
  refine .after (hbdNak_chg ..) ?_
  split
  · exact (.after (vc0Fault_chg ..) (.refl _ _))
  · exact (.refl _ _)

theorem flitMeets_chg (x0 : Flit) (x1 : FlitUpset) (x2 : State) :
    Chg 101158546 x2 (flitMeets x0 x1 x2) := by
  unfold flitMeets
  try dsimp only
  split
  · refine .after (sidebandFail_chg ..) ?_
    exact (.upd (.refl _ _))
  · refine .after (vc0Fault_chg ..) ?_
    exact (.upd (.refl _ _))
  · exact (.upd (.refl _ _))

theorem flitLands_chg (x0 : Flit) (x1 : State) :
    Chg 116887198 x1 (flitLands x0 x1) := by
  unfold flitLands
  try dsimp only
  exact (.after (clocksUntil_getD_chg ..) (.refl _ _))

theorem valueArrives_chg (x0 : ℕ) (x1 : ℕ) (x2 : Option FlitUpset) (x3 : State) :
    Chg 116887198 x3 (valueArrives x0 x1 x2 x3) := by
  unfold valueArrives
  try dsimp only
  split
  · exact (.refl _ _)
  · split
    · exact (.after (flitLands_chg ..) (.refl _ _))
    · refine .ite ?_ ?_
      · exact (.after (flitLands_chg ..) (.refl _ _))
      · split
        · rename_i heq4
          exact (.refl _ _)
        · rename_i heq5
          exact (.ite (.after (clocksUntil_chg heq5 ..) (.refl _ _)) (.after (flitLands_chg ..) (.after
              (flitMeets_chg ..) (.after (clocksUntil_chg heq5 ..) (.refl _ _)))))

theorem execInboundValueArrival_chg (x0 : BitVec 9) (x1 : BitVec 12) (x2 : Option FlitUpset) (x3 : State) :
    OChg 116887198 x3 (execInboundValueArrival x0 x1 x2 x3) := by
  unfold execInboundValueArrival
  try dsimp only
  exact (.run (.after (valueArrives_chg ..) (.refl _ _)))

theorem lateSend_chg (x0 : SlotHbd) (x1 : Route) (x2 : ℕ) (x3 : List HubRec) (x4 : Word64) (x5 : Option FlitUpset)
    (x6 : Bool) (x7 : State) :
    Chg 196754 x7 (lateSend x0 x1 x2 x3 x4 x5 x6 x7) := by
  unfold lateSend
  try dsimp only
  refine .after (hbdCnt_chg ..) ?_
  refine .upd ?_
  exact (.after (markDelivered_chg ..) (.refl _ _))

theorem lateDelivery_chg (x0 : ℕ) (x1 : ℕ) (x2 : ℕ) (x3 : Option FlitUpset) (x4 : Bool) (x5 : State) :
    Chg 116887198 x5 (lateDelivery x0 x1 x2 x3 x4 x5) := by
  unfold lateDelivery
  try dsimp only
  split
  · split
    · refine .ite ?_ ?_
      · refine .after (lateSend_chg ..) ?_
        refine .upd ?_
        exact (.after (reopen_chg ..) (.refl _ _))
      · exact (.refl _ _)
    · exact (.refl _ _)
  · exact (.refl _ _)

theorem execLateDelivery_chg (x0 : ℕ) (x1 : BitVec 7) (x2 : BitVec 7) (x3 : Option FlitUpset) (x4 : Bool) (x5 :
    State) :
    OChg 116887198 x5 (execLateDelivery x0 x1 x2 x3 x4 x5) := by
  unfold execLateDelivery
  try dsimp only
  exact (.run (.after (lateDelivery_chg ..) (.refl _ _)))

theorem execHbdNak_chg (x0 : LinkNak) (x1 : BitVec 4) (x2 : Bool) (x3 : State) :
    OChg 101158546 x3 (execHbdNak x0 x1 x2 x3) := by
  unfold execHbdNak
  try dsimp only
  refine .run ?_
  refine .ite ?_ ?_
  · refine .after (sidebandFail_chg ..) ?_
    exact (.upd (.refl _ _))
  · exact (.after (hbdNak_chg ..) (.refl _ _))

end Sys2Proof.Laws
end

