-- ==== Sys2Proof/Laws/FrameHost.lean ====
section
/-!
SUPPORT. Laws/FrameHost.lean: which parts of the state the operations of Machine/Host.lean may change.
-/
namespace Sys2Proof.Laws
set_option Elab.async false
open Sys2Proof.Machine

theorem unmapped_chg (x0 : Path) (x1 : ℕ) (x2 : State) :
    Chg 146 x2 (unmapped x0 x1 x2) := by
  unfold unmapped
  try dsimp only
  exact (.ite (.refl _ _) (.after (gblErr_chg ..) (.refl _ _)))

theorem State_setSnap_chg (x0 : State) (x1 : Path) (x2 : Snap) :
    Chg 128 x0 (State.setSnap x0 x1 x2) := by
  unfold State.setSnap
  try dsimp only
  split
  · exact (.upd (.refl _ _))
  · exact (.upd (.refl _ _))
  · exact (.upd (.refl _ _))
  · exact (.refl _ _)

theorem busMasterEnds_chg (x0 : State) :
    Chg 8388754 x0 (busMasterEnds x0) := by
  unfold busMasterEnds
  try dsimp only
  refine .after (loseSink_chg ..) ?_
  exact (.upd (.refl _ _))

theorem fnReset_chg (x0 : PcieFn) (x1 : State) :
    Chg 8421522 x1 (fnReset x0 x1) := by
  unfold fnReset
  try dsimp only
  split
  · refine .after (busMasterEnds_chg ..) ?_
    refine .upd ?_
    exact (.after (State_setSnap_chg ..) (.after (State_setMsix_chg ..) (.refl _ _)))
  · refine .upd ?_
    exact (.after (State_setSnap_chg ..) (.after (State_setMsix_chg ..) (.refl _ _)))

theorem setFlr_chg (x0 : PcieFn) (x1 : Bool) (x2 : State) :
    Chg 128 x2 (setFlr x0 x1 x2) := by
  unfold setFlr
  try dsimp only
  split
  · exact (.upd (.refl _ _))
  · exact (.upd (.refl _ _))

theorem linkReset_chg (x0 : State) :
    Chg 8421522 x0 (linkReset x0) := by
  unfold linkReset
  try dsimp only
  refine .after (fnReset_chg ..) ?_
  refine .after (fnReset_chg ..) ?_
  exact (.upd (.refl _ _))

theorem execPcieFlr_chg (x0 : PcieFn) (x1 : State) :
    OChg 8421522 x1 (execPcieFlr x0 x1) := by
  unfold execPcieFlr
  try dsimp only
  exact (.run (.after (fnReset_chg ..) (.after (setFlr_chg ..) (.refl _ _))))

theorem flrEnd_chg (x0 : PcieFn) (x1 : State) :
    Chg 8388736 x1 (flrEnd x0 x1) := by
  unfold flrEnd
  try dsimp only
  refine .ite ?_ ?_
  · refine .upd ?_
    exact (.after (setFlr_chg ..) (.refl _ _))
  · exact (.after (setFlr_chg ..) (.refl _ _))

theorem execFunctionLevelResetEnd_chg (x0 : PcieFn) (x1 : State) :
    OChg 8388736 x1 (execFunctionLevelResetEnd x0 x1) := by
  unfold execFunctionLevelResetEnd
  try dsimp only
  exact (.run (.after (flrEnd_chg ..) (.refl _ _)))

theorem execPcieHotReset_chg (x0 : State) :
    OChg 8421522 x0 (execPcieHotReset x0) := by
  unfold execPcieHotReset
  try dsimp only
  exact (.run (.after (linkReset_chg ..) (.refl _ _)))

theorem execPcieLinkDown_chg (x0 : State) :
    OChg 8421522 x0 (execPcieLinkDown x0) := by
  unfold execPcieLinkDown
  try dsimp only
  exact (.run (.after (linkReset_chg ..) (.refl _ _)))

theorem linkUp_chg (x0 : State) :
    Chg 8388744 x0 (linkUp x0) := by
  unfold linkUp
  try dsimp only
  refine .ite ?_ ?_
  · exact (.refl _ _)
  · refine .upd ?_
    exact (.after (State_tick1_chg ..) (.refl _ _))

theorem execPcieLinkUp_chg (x0 : State) :
    OChg 8388744 x0 (execPcieLinkUp x0) := by
  unfold execPcieLinkUp
  try dsimp only
  exact (.run (.after (linkUp_chg ..) (.refl _ _)))

theorem perstAssert_chg (x0 : State) :
    Chg 8421522 x0 (perstAssert x0) := by
  unfold perstAssert
  try dsimp only
  refine .ite ?_ ?_
  · refine .after (linkReset_chg ..) ?_
    exact (.upd (.refl _ _))
  · exact (.upd (.refl _ _))

theorem execPerstNAssert_chg (x0 : State) :
    OChg 8421522 x0 (execPerstNAssert x0) := by
  unfold execPerstNAssert
  try dsimp only
  exact (.done (.after (perstAssert_chg ..) (.refl _ _)))

theorem execPerstNRelease_chg (x0 : State) :
    OChg 128 x0 (execPerstNRelease x0) := by
  unfold execPerstNRelease
  try dsimp only
  refine .done ?_
  exact (.upd (.refl _ _))

theorem maskWrite_chg (x0 : ℕ) (x1 : Word32) (x2 : State) :
    Chg 146 x2 (maskWrite x0 x1 x2) := by
  unfold maskWrite
  try dsimp only
  exact (.fold (.after (storeReg_chg ..) (.refl _ _)) (fun _ _ => (.ite (.after (deliver_chg ..) (.refl _ _)) (.refl
      _ _))))

theorem execEventMaskWrite_chg (x0 : Path) (x1 : BitVec 6) (x2 : Word32) (x3 : State) :
    OChg 146 x3 (execEventMaskWrite x0 x1 x2 x3) := by
  unfold execEventMaskWrite
  try dsimp only
  refine .run ?_
  split
  · exact (.after (regAccess_chg (m := 146) (fun _ _ => (.after (maskWrite_chg ..) (.refl _ _)))) (.refl _ _))
  · exact (.after (unmapped_chg ..) (.refl _ _))

theorem raiseInEdge_chg (x0 : ℕ) (x1 : Word32) (x2 : State) :
    Chg 146 x2 (raiseInEdge x0 x1 x2) := by
  unfold raiseInEdge
  try dsimp only
  exact (.fold (.refl _ _) (fun _ _ => (.ite (.after (raise_chg ..) (.refl _ _)) (.refl _ _))))

theorem pendClear_chg (x0 : Path) (x1 : ℕ) (x2 : Word32) (x3 : Word32) (x4 : State) :
    Chg 146 x4 (pendClear x0 x1 x2 x3 x4) := by
  unfold pendClear
  try dsimp only
  exact (.after (raiseInEdge_chg ..) (.after (regAccess_chg (m := 146) (fun _ _ => (.after (storeReg_chg ..) (.refl _
      _)))) (.refl _ _)))

theorem execEventPendClear_chg (x0 : Path) (x1 : BitVec 6) (x2 : Word32) (x3 : Word32) (x4 : State) :
    OChg 146 x4 (execEventPendClear x0 x1 x2 x3 x4) := by
  unfold execEventPendClear
  try dsimp only
  refine .run ?_
  split
  · exact (.after (pendClear_chg ..) (.refl _ _))
  · exact (.after (unmapped_chg ..) (.refl _ _))

theorem msixFlush_chg (x0 : PcieFn) (x1 : State) :
    Chg 144 x1 (msixFlush x0 x1) := by
  unfold msixFlush
  try dsimp only
  exact (.fold (.refl _ _) (fun _ _ => (.ite (.after (State_emit_chg ..) (.after (State_setMsix_chg ..) (.refl _ _)))
      (.refl _ _))))

theorem msixUnmask_chg (x0 : PcieFn) (x1 : ℕ) (x2 : Word64) (x3 : Word32) (x4 : Bool) (x5 : State) :
    Chg 144 x5 (msixUnmask x0 x1 x2 x3 x4 x5) := by
  unfold msixUnmask
  try dsimp only
  exact (.ite (.refl _ _) (.after (msixFlush_chg ..) (.after (State_setMsix_chg ..) (.refl _ _))))

theorem execMsixVectorUnmask_chg (x0 : PcieFn) (x1 : BitVec 11) (x2 : Word64) (x3 : Word32) (x4 : Bool) (x5 : State) :
    OChg 144 x5 (execMsixVectorUnmask x0 x1 x2 x3 x4 x5) := by
  unfold execMsixVectorUnmask
  try dsimp only
  exact (.run (.after (msixUnmask_chg ..) (.refl _ _)))

theorem allPorts_chg (x0 : LaneState) (x1 : State) :
    Chg 110530194 x1 (allPorts x0 x1) := by
  unfold allPorts
  try dsimp only
  exact (.times (.refl _ _) (fun _ _ => (.after (portTo_chg ..) (.refl _ _))))

theorem jtagSet_chg (x0 : JtagInstr) (x1 : State) :
    Chg 112627354 x1 (jtagSet x0 x1) := by
  unfold jtagSet
  try dsimp only
  refine .ite ?_ ?_
  · exact (.upd (.refl _ _))
  · refine .ite ?_ ?_
    · refine .after (settle_chg ..) ?_
      refine .ite ?_ ?_
      · exact (.upd (.refl _ _))
      · refine .after (allPorts_chg ..) ?_
        exact (.upd (.refl _ _))
    · refine .ite ?_ ?_
      · refine .after (settle_chg ..) ?_
        refine .after (allPorts_chg ..) ?_
        exact (.upd (.refl _ _))
      · exact (.upd (.refl _ _))

theorem jtagLoad_chg (x0 : JtagInstr) (x1 : State) :
    Chg 112627354 x1 (jtagLoad x0 x1) := by
  unfold jtagLoad
  try dsimp only
  exact (.ite (.after (jtagSet_chg ..) (.refl _ _)) (.after (jtagSet_chg ..) (.after (gblErr_chg ..) (.refl _ _))))

theorem tap_chg {m : Nat} {f : State → State} {s : State} (h : ∀ t, Chg m t (f t)) : OChg m s (tap f s) := by
  unfold tap
  exact .ite (.done (.refl _ _)) (.done (h s))

theorem execJtagExtest_chg (x0 : State) :
    OChg 112627354 x0 (execJtagExtest x0) := by
  unfold execJtagExtest
  try dsimp only
  exact (tap_chg (fun _ => (.after (jtagLoad_chg ..) (.refl _ _))))

theorem execJtagSamplePreload_chg (x0 : State) :
    OChg 112627354 x0 (execJtagSamplePreload x0) := by
  unfold execJtagSamplePreload
  try dsimp only
  exact (tap_chg (fun _ => (.after (jtagLoad_chg ..) (.refl _ _))))

theorem execJtagHighz_chg (x0 : State) :
    OChg 112627354 x0 (execJtagHighz x0) := by
  unfold execJtagHighz
  try dsimp only
  exact (tap_chg (fun _ => (.after (jtagLoad_chg ..) (.refl _ _))))

theorem execJtagClamp_chg (x0 : State) :
    OChg 112627354 x0 (execJtagClamp x0) := by
  unfold execJtagClamp
  try dsimp only
  exact (tap_chg (fun _ => (.after (jtagLoad_chg ..) (.refl _ _))))

theorem execJtagExtestPulse_chg (x0 : State) :
    OChg 112627354 x0 (execJtagExtestPulse x0) := by
  unfold execJtagExtestPulse
  try dsimp only
  exact (tap_chg (fun _ => (.after (jtagLoad_chg ..) (.refl _ _))))

theorem execJtagExtestTrain_chg (x0 : State) :
    OChg 112627354 x0 (execJtagExtestTrain x0) := by
  unfold execJtagExtestTrain
  try dsimp only
  exact (tap_chg (fun _ => (.after (jtagLoad_chg ..) (.refl _ _))))

theorem execJtagDbgGate_chg (x0 : State) :
    OChg 112627354 x0 (execJtagDbgGate x0) := by
  unfold execJtagDbgGate
  try dsimp only
  exact (tap_chg (fun _ => (.after (jtagLoad_chg ..) (.refl _ _))))

theorem execJtagTestLogicReset_chg (x0 : State) :
    OChg 112627354 x0 (execJtagTestLogicReset x0) := by
  unfold execJtagTestLogicReset
  try dsimp only
  exact (tap_chg (fun _ => (.after (jtagSet_chg ..) (.refl _ _))))

theorem execJtagIdcode_chg (x0 : State) :
    OChg 112627354 x0 (execJtagIdcode x0) := by
  unfold execJtagIdcode
  try dsimp only
  exact (tap_chg (fun _ => (.ite (.after (jtagLoad_chg ..) (.refl _ _)) (.after (State_emit_chg ..) (.after
      (jtagLoad_chg ..) (.refl _ _))))))

theorem execJtagBypass_chg (x0 : BitVec 8) (x1 : State) :
    OChg 112627354 x1 (execJtagBypass x0 x1) := by
  unfold execJtagBypass
  try dsimp only
  exact (tap_chg (fun _ => (.after (jtagLoad_chg ..) (.refl _ _))))

theorem sweepEnd_chg (x0 : Word32) (x1 : State) :
    Chg 146 x1 (sweepEnd x0 x1) := by
  unfold sweepEnd
  try dsimp only
  refine .ite ?_ ?_
  · refine .upd ?_
    exact (.after (State_setBit_chg ..) (.after (State_setReg_chg ..) (.refl _ _)))
  · refine .ite ?_ ?_
    · refine .after (raise_chg ..) ?_
      refine .after (State_setBit_chg ..) ?_
      refine .upd ?_
      exact (.after (State_setBit_chg ..) (.after (State_setReg_chg ..) (.refl _ _)))
    · refine .ite ?_ ?_
      · refine .after (State_setFld_chg ..) ?_
        refine .after (State_setReg_chg ..) ?_
        refine .upd ?_
        exact (.after (State_setBit_chg ..) (.after (State_setReg_chg ..) (.refl _ _)))
      · refine .upd ?_
        exact (.after (State_setBit_chg ..) (.after (State_setReg_chg ..) (.refl _ _)))

theorem execCfgcrcSweepEnd_chg (x0 : State) :
    OChg 146 x0 (execCfgcrcSweepEnd x0) := by
  unfold execCfgcrcSweepEnd
  try dsimp only
  exact (.run (.after (sweepEnd_chg ..) (.refl _ _)))

end Sys2Proof.Laws
end

