-- ==== Sys2Proof/Laws/FrameLoader.lean ====
section
/-!
SUPPORT. Laws/FrameLoader.lean: which parts of the state the operations of Machine/Loader.lean may change.
-/
namespace Sys2Proof.Laws
set_option Elab.async false
open Sys2Proof.Machine

theorem endUnlock_chg (x0 : State) :
    Chg 524416 x0 (endUnlock x0) := by
  unfold endUnlock
  try dsimp only
  exact (.upd (.refl _ _))

theorem lksStop_chg (x0 : State) :
    Chg 8388754 x0 (lksStop x0) := by
  unfold lksStop
  try dsimp only
  exact (.ite (.after (lksDisarm_chg ..) (.refl _ _)) (.refl _ _))

theorem endGrants_chg (x0 : State) :
    Chg 8913042 x0 (endGrants x0) := by
  unfold endGrants
  try dsimp only
  refine .ite ?_ ?_
  · exact (.refl _ _)
  · refine .after (grantChanged_chg ..) ?_
    refine .upd ?_
    exact (.after (lksStop_chg ..) (.refl _ _))

theorem clearCounters_chg (x0 : State) :
    Chg 2 x0 (clearCounters x0) := by
  unfold clearCounters
  try dsimp only
  exact (.after (dspClearCounters_chg ..) (.after (keepRegs_chg ..) (.refl _ _)))

theorem discardImage_chg (x0 : State) :
    Chg 49788570 x0 (discardImage x0) := by
  unfold discardImage
  try dsimp only
  refine .after (doNone_chg ..) ?_
  refine .after (timeMasterFix_chg ..) ?_
  refine .upd ?_
  exact (.after (clearWork_chg ..) (.after (dspClear_chg ..) (.after (discardCycles_chg ..) (.after (astInstall_chg
      ..) (.after (lksStop_chg ..) (.refl _ _))))))

theorem imgLoadEnd_chg (x0 : Option ImgFail) (x1 : State) :
    Chg 16530 x1 (imgLoadEnd x0 x1) := by
  unfold imgLoadEnd
  try dsimp only
  refine .after (raise_chg ..) ?_
  refine .upd ?_
  exact (.after (State_setReg_chg ..) (.after (State_setReg_chg ..) (.after (State_setBit_chg ..) (.after
      (State_setFld_chg ..) (.refl _ _)))))

theorem requestFail_chg (x0 : ℕ) (x1 : State) :
    Chg 16530 x1 (requestFail x0 x1) := by
  unfold requestFail
  try dsimp only
  exact (.after (imgLoadEnd_chg ..) (.refl _ _))

theorem requestEnd_chg (x0 : Bool) (x1 : ℕ) (x2 : State) :
    Chg 16530 x2 (requestEnd x0 x1 x2) := by
  unfold requestEnd
  try dsimp only
  refine .ite ?_ ?_
  · exact (.after (requestFail_chg ..) (.refl _ _))
  · exact (.upd (.refl _ _))

theorem loadCtrlWrite_chg (x0 : Bool) (x1 : Word32) (x2 : State) :
    Chg 4219026 x2 (loadCtrlWrite x0 x1 x2) := by
  unfold loadCtrlWrite
  try dsimp only
  refine .ite ?_ ?_
  · exact (.refl _ _)
  · refine .ite ?_ ?_
    · exact (.after (State_setFld_chg ..) (.refl _ _))
    · split
      · refine .after (requestEnd_chg ..) ?_
        refine .after (State_setBit_chg ..) ?_
        refine .upd ?_
        exact (.after (State_setFld_chg ..) (.refl _ _))
      · refine .after (requestEnd_chg ..) ?_
        refine .after (State_setBit_chg ..) ?_
        refine .upd ?_
        exact (.after (State_setFld_chg ..) (.refl _ _))
      · refine .ite ?_ ?_
        · refine .after (requestFail_chg ..) ?_
          refine .after (State_setBit_chg ..) ?_
          refine .upd ?_
          exact (.after (State_setFld_chg ..) (.refl _ _))
        · refine .after (imgLoadEnd_chg ..) ?_
          refine .upd ?_
          refine .after (State_setBit_chg ..) ?_
          refine .upd ?_
          exact (.after (State_setFld_chg ..) (.refl _ _))
      · refine .after (requestFail_chg ..) ?_
        refine .after (State_setBit_chg ..) ?_
        refine .upd ?_
        exact (.after (State_setFld_chg ..) (.refl _ _))

theorem execLoadInstall_chg (x0 : Path) (x1 : Bool) (x2 : State) :
    OChg 4219026 x2 (execLoadInstall x0 x1 x2) := by
  unfold execLoadInstall
  try dsimp only
  exact (.run (.after (regAccess_chg (m := 4219026) (fun _ _ => (.after (loadCtrlWrite_chg ..) (.refl _ _)))) (.refl
      _ _)))

theorem execLoadStage_chg (x0 : Path) (x1 : Bool) (x2 : State) :
    OChg 4219026 x2 (execLoadStage x0 x1 x2) := by
  unfold execLoadStage
  try dsimp only
  exact (.run (.after (regAccess_chg (m := 4219026) (fun _ _ => (.after (loadCtrlWrite_chg ..) (.refl _ _)))) (.refl
      _ _)))

theorem execLoadDiscard_chg (x0 : Path) (x1 : State) :
    OChg 4219026 x1 (execLoadDiscard x0 x1) := by
  unfold execLoadDiscard
  try dsimp only
  exact (.run (.after (regAccess_chg (m := 4219026) (fun _ _ => (.after (loadCtrlWrite_chg ..) (.refl _ _)))) (.refl
      _ _)))

theorem phaseJudged_chg {m : Nat} {fails : List ImgFail} {f : State → State} {s : State} (h : ∀ t, Chg m t (f t))
    (hm : 16530 ||| m = m := by decide) : Chg m s (phaseJudged fails f s) := by
  unfold phaseJudged
  split
  · exact .after (imgLoadEnd_chg ..) (.refl _ _) hm
  · exact h s

theorem loadHeaderDone_chg (x0 : List Byte) (x1 : Option Word32) (x2 : Bool) (x3 : State) :
    Chg 16530 x3 (loadHeaderDone x0 x1 x2 x3) := by
  unfold loadHeaderDone
  try dsimp only
  refine .ite ?_ ?_
  · exact (.refl _ _)
  · split
    · exact (.after (imgLoadEnd_chg ..) (.refl _ _))
    · refine .after (phaseJudged_chg (m := 16530) (fun _ => (.upd (.refl _ _)))) ?_
      exact (.refl _ _)

theorem execLoadHeaderDone_chg (x0 : List Byte) (x1 : HeaderRead) (x2 : State) :
    OChg 16530 x2 (execLoadHeaderDone x0 x1 x2) := by
  unfold execLoadHeaderDone
  try dsimp only
  exact (.run (.after (loadHeaderDone_chg ..) (.refl _ _)))

theorem loadKeyDone_chg (x0 : Bool) (x1 : State) :
    Chg 16530 x1 (loadKeyDone x0 x1) := by
  unfold loadKeyDone
  try dsimp only
  refine .ite ?_ ?_
  · exact (.refl _ _)
  · refine .ite ?_ ?_
    · exact (.after (imgLoadEnd_chg ..) (.refl _ _))
    · refine .ite ?_ ?_
      · exact (.after (imgLoadEnd_chg ..) (.refl _ _))
      · exact (.upd (.refl _ _))

theorem writeBegin_chg (x0 : State) :
    Chg 50329242 x0 (writeBegin x0) := by
  unfold writeBegin
  try dsimp only
  refine .after (endUnlock_chg ..) ?_
  refine .upd ?_
  exact (.after (discardImage_chg ..) (.after (endGrants_chg ..) (.refl _ _)))

theorem loadVerifyDone_chg (x0 : ImageBody) (x1 : PassResult) (x2 : State) :
    Chg 50329242 x2 (loadVerifyDone x0 x1 x2) := by
  unfold loadVerifyDone
  try dsimp only
  refine .ite ?_ ?_
  · exact (.refl _ _)
  · refine .after (phaseJudged_chg (m := 50329242) (fun _ => ?_)) ?_
    · refine .ite ?_ ?_
      · exact (.upd (.refl _ _))
      · exact (.after (writeBegin_chg ..) (.refl _ _))
    · exact (.refl _ _)

theorem execLoadVerifyDone_chg (x0 : ImageBody) (x1 : PassResult) (x2 : State) :
    OChg 50329242 x2 (execLoadVerifyDone x0 x1 x2) := by
  unfold execLoadVerifyDone
  try dsimp only
  exact (.run (.after (loadVerifyDone_chg ..) (.refl _ _)))

theorem writeImage_chg (x0 : List Byte) (x1 : ImageBody) (x2 : State) :
    Chg 102914 x2 (writeImage x0 x1 x2) := by
  unfold writeImage
  try dsimp only
  refine .upd ?_
  refine .each ?_ (fun _ _ => ?_)
  · refine .each ?_ (fun _ _ => ?_)
    · refine .upd ?_
      exact (.after (loadBanks_chg ..) (.refl _ _))
    · exact (.after (State_setFld_chg ..) (.refl _ _))
  · exact (.ite (.after (State_setFld_chg ..) (.refl _ _)) (.refl _ _))

theorem atInstall_chg (x0 : State) :
    Chg 3820698 x0 (atInstall x0) := by
  unfold atInstall
  try dsimp only
  refine .after (doInstall_chg ..) ?_
  refine .after (timeMasterFix_chg ..) ?_
  refine .ite ?_ ?_
  · refine .after (endUnlock_chg ..) ?_
    refine .after (State_setBit_chg ..) ?_
    refine .after (setPause_chg ..) ?_
    refine .upd ?_
    exact (.after (waveFresh_chg ..) (.refl _ _))
  · refine .after (State_setBit_chg ..) ?_
    refine .after (setPause_chg ..) ?_
    refine .upd ?_
    exact (.after (waveFresh_chg ..) (.refl _ _))

theorem installed_chg (x0 : State) :
    Chg 117427870 x0 (installed x0) := by
  unfold installed
  try dsimp only
  exact (.after (throttlePoint_chg ..) (.after (clearCounters_chg ..) (.after (reopen_chg ..) (.after (atInstall_chg
      ..) (.refl _ _)))))

theorem loadWriteDone_chg (x0 : ImageBody) (x1 : PassResult) (x2 : State) :
    Chg 117440158 x2 (loadWriteDone x0 x1 x2) := by
  unfold loadWriteDone
  try dsimp only
  refine .ite ?_ ?_
  · exact (.refl _ _)
  · split
    · refine .ite ?_ ?_
      · exact (.after (imgLoadEnd_chg ..) (.refl _ _))
      · refine .after (raise_chg ..) ?_
        refine .after (imgLoadEnd_chg ..) ?_
        exact (.upd (.refl _ _))
    · refine .ite ?_ ?_
      · refine .after (imgLoadEnd_chg ..) ?_
        exact (.upd (.refl _ _))
      · exact (.after (imgLoadEnd_chg ..) (.after (installed_chg ..) (.after (writeImage_chg ..) (.refl _ _))))

theorem execLoadWriteDone_chg (x0 : ImageBody) (x1 : PassResult) (x2 : State) :
    OChg 117440158 x2 (execLoadWriteDone x0 x1 x2) := by
  unfold execLoadWriteDone
  try dsimp only
  exact (.run (.after (loadWriteDone_chg ..) (.refl _ _)))

end Sys2Proof.Laws
end

