-- ==== Sys2Proof/Laws/FrameMemCommands.lean ====
section
/-!
SUPPORT. Laws/FrameMemCommands.lean: which parts of the state the operations of Machine/MemCommands.lean may change.
-/
namespace Sys2Proof.Laws
set_option Elab.async false
open Sys2Proof.Machine

theorem rdataReturn_chg (x0 : ℕ) (x1 : ℕ) (x2 : State) :
    Chg 116887198 x2 (rdataReturn x0 x1 x2) := by
  unfold rdataReturn
  try dsimp only
  exact (.ite (.after (clocksUntil_getD_chg ..) (.refl _ _)) (.refl _ _))

theorem execRdataReturn_chg (x0 : BitVec 8) (x1 : BitVec 3) (x2 : State) :
    OChg 116887198 x2 (execRdataReturn x0 x1 x2) := by
  unfold execRdataReturn
  try dsimp only
  exact (.run (.after (rdataReturn_chg ..) (.refl _ _)))

theorem hbmAccessStart_chg (x0 : ℕ) (x1 : ℕ) (x2 : State) :
    Chg 101093010 x2 (hbmAccessStart x0 x1 x2) := by
  unfold hbmAccessStart
  try dsimp only
  split
  · refine .ite ?_ ?_
    · exact (.refl _ _)
    · refine .ite ?_ ?_
      · refine .after (faultStop_chg ..) ?_
        refine .after (hbmStart_chg ..) ?_
        exact (.upd (.refl _ _))
      · refine .after (hbmStart_chg ..) ?_
        exact (.upd (.refl _ _))
  · exact (.refl _ _)

theorem execHbmAccessStart_chg (x0 : BitVec 8) (x1 : BitVec 3) (x2 : State) :
    OChg 101093010 x2 (execHbmAccessStart x0 x1 x2) := by
  unfold execHbmAccessStart
  try dsimp only
  exact (.run (.after (hbmAccessStart_chg ..) (.refl _ _)))

theorem openB_chg (x0 : ℕ) (x1 : State) :
    Chg 32768 x1 (openB x0 x1) := by
  unfold openB
  try dsimp only
  exact (.upd (.refl _ _))

theorem applyEntry_chg (x0 : QEntry) (x1 : State) :
    Chg 101093010 x1 (applyEntry x0 x1) := by
  unfold applyEntry
  try dsimp only
  exact (.ite (.ite (.refl _ _) (.ite (.after (memCnt_chg ..) (.refl _ _)) (.after (applyStored_chg ..) (.after
      (openB_chg ..) (.refl _ _))))) (.ite (.refl _ _) (.after (applyStored_chg ..) (.after (askBurst_chg ..) (.refl
      _ _)))))

theorem pendingApply_chg (x0 : ℕ) (x1 : State) :
    Chg 101093010 x1 (pendingApply x0 x1) := by
  unfold pendingApply
  try dsimp only
  split
  · exact (.after (applyEntry_chg ..) (.refl _ _))
  · exact (.refl _ _)

theorem execPendingWriteApply_chg (x0 : BitVec 10) (x1 : State) :
    OChg 101093010 x1 (execPendingWriteApply x0 x1) := by
  unfold execPendingWriteApply
  try dsimp only
  exact (.run (.after (pendingApply_chg ..) (.refl _ _)))

theorem refreshOverrun_chg (x0 : ℕ) (x1 : ℕ) (x2 : State) :
    Chg 32914 x2 (refreshOverrun x0 x1 x2) := by
  unfold refreshOverrun
  try dsimp only
  refine .ite ?_ ?_
  · exact (.refl _ _)
  · refine .upd ?_
    exact (.ite (.refl _ _) (.after (raise_chg ..) (.after (memCnt_chg ..) (.after (memCause_chg ..) (.refl _ _)))))

theorem execRefreshOverrun_chg (x0 : BitVec 6) (x1 : ℕ) (x2 : State) :
    OChg 32914 x2 (execRefreshOverrun x0 x1 x2) := by
  unfold execRefreshOverrun
  try dsimp only
  exact (.run (.after (refreshOverrun_chg ..) (.refl _ _)))

theorem bar2Flag_chg (x0 : ℕ) (x1 : State) :
    Chg 2 x1 (bar2Flag x0 x1) := by
  unfold bar2Flag
  try dsimp only
  exact (.after (State_setBit_chg ..) (.refl _ _))

theorem bar2Denied_chg (x0 : State) :
    Chg 146 x0 (bar2Denied x0) := by
  unfold bar2Denied
  try dsimp only
  exact (.after (raise_chg ..) (.after (bar2Flag_chg ..) (.refl _ _)))

theorem bar2Read_chg (x0 : PcieFn) (x1 : BitVec 36) (x2 : Bool) (x3 : State) :
    Chg 32914 x3 (bar2Read x0 x1 x2 x3) := by
  unfold bar2Read
  try dsimp only
  split
  · exact (.upd (.refl _ _))
  · exact (.after (State_emit_chg ..) (.ite (.after (bar2Flag_chg ..) (.ite (.after (bar2Denied_chg ..) (.refl _ _))
        (.refl _ _))) (.ite (.after (bar2Denied_chg ..) (.refl _ _)) (.refl _ _))))

theorem execBar2Read_chg (x0 : PcieFn) (x1 : BitVec 36) (x2 : Bool) (x3 : State) :
    OChg 32914 x3 (execBar2Read x0 x1 x2 x3) := by
  unfold execBar2Read
  try dsimp only
  exact (.run (.after (bar2Read_chg ..) (.refl _ _)))

theorem bar2Error_chg (x0 : ℕ) (x1 : ℕ) (x2 : ℕ) (x3 : State) :
    Chg 67109010 x3 (bar2Error x0 x1 x2 x3).1 := by
  unfold bar2Error
  try dsimp only
  refine .ite1 ?_ ?_
  · refine .ite1 ?_ ?_
    · exact (.mk1 (.after (raise_chg ..) (.after (memCause_chg ..) (.refl _ _))))
    · exact (.mk1 (.refl _ _))
  · refine .ite1 ?_ ?_
    · exact (.mk1 (.after (hbmUncorrected_chg ..) (.refl _ _)))
    · refine .ite1 ?_ ?_
      · exact (.mk1 (.after (hbmCorrected_chg ..) (.refl _ _)))
      · exact (.mk1 (.refl _ _))

theorem bar2Answer_chg (x0 : Bar2Out) (x1 : Grant) (x2 : ℕ) (x3 : ℕ) (x4 : State) :
    Chg 67109010 x4 (bar2Answer x0 x1 x2 x3 x4) := by
  unfold bar2Answer
  try dsimp only
  exact (.after (State_emit_chg ..) (.ite (.after (bar2Flag_chg ..) (.after (bar2Error_chg ..) (.refl _ _))) (.after
      (bar2Error_chg ..) (.refl _ _))))

theorem bar2Present_chg {n key : Nat} {s t : State} (h : bar2Present n key s = some t) : Chg 116887198 s t := by
  induction n generalizing s with
  | zero => cases h
  | succ n ih =>
    unfold bar2Present at h
    split at h
    · exact .after (ih h) (clockTick_chg s)
    · split at h
      · exact .after (ih h) (.after (clockTick_chg _) (.after (memCnt_chg ..) (.refl _ _)))
      · cases h; exact .upd (.refl _ _)

theorem bar2Fetch_chg {q key : Nat} {s t : State} (h : bar2Fetch q key s = some t) : Chg 116887198 s t := by
  unfold bar2Fetch at h
  split at h
  · exact bar2Present_chg h
  · cases h; exact .after (askBurst_chg ..) (.refl _ _)

theorem bar2Complete_chg (x0 : State) :
    Chg 116887198 x0 (bar2Complete x0) := by
  unfold bar2Complete
  dsimp only
  split
  · exact (.refl _ _)
  · split
    · split
      · rename_i heq3
        exact .after (bar2Answer_chg ..) (.after (bar2Fetch_chg heq3) (.upd (.refl _ _)))
      · exact (.refl _ _)
    · exact .after (State_emit_chg ..) (.after (bar2Denied_chg ..) (.upd (.refl _ _)))
    · exact .after (State_emit_chg ..) (.after (bar2Flag_chg ..) (.upd (.refl _ _)))

theorem execBar2ReadComplete_chg (x0 : State) :
    OChg 116887198 x0 (execBar2ReadComplete x0) := by
  unfold execBar2ReadComplete
  try dsimp only
  exact (.run (.after (bar2Complete_chg ..) (.refl _ _)))

theorem drainQueue_chg (x0 : ℕ) (x1 : State) :
    Chg 101093010 x1 (drainQueue x0 x1) := by
  unfold drainQueue
  try dsimp only
  exact (.each (.refl _ _) (fun _ _ => (.after (applyStored_chg ..) (.refl _ _))))

theorem bar2Begin_chg (x0 : ℕ) (x1 : ℕ) (x2 : State) :
    Chg 116887198 x2 (bar2Begin x0 x1 x2) := by
  induction x0 generalizing x1 x2 with
  | zero =>
    unfold bar2Begin
    try dsimp only
    exact (.refl _ _)
  | succ n ih =>
    unfold bar2Begin
    try dsimp only
    exact (.ite (.after (ih ..) (.after (clockTick_chg ..) (.refl _ _))) (.ite (.after (ih ..) (.after (clockTick_chg
        ..) (.after (memCnt_chg ..) (.refl _ _)))) (.refl _ _)))

theorem bar2Store_chg (x0 : Grant) (x1 : ℕ) (x2 : ℕ) (x3 : ℕ) (x4 : Bool) (x5 : Word64) (x6 : State) :
    Chg 117411486 x6 (bar2Store x0 x1 x2 x3 x4 x5 x6) := by
  unfold bar2Store
  try dsimp only
  refine .ite ?_ ?_
  · refine .after (bumpEpoch_chg ..) ?_
    refine .ite ?_ ?_
    · exact (.after (writeStored_chg ..) (.after (openB_chg ..) (.after (drainQueue_chg ..) (.ite (.after
          (bar2Begin_chg ..) (.refl _ _)) (.refl _ _)))))
    · refine .ite ?_ ?_
      · exact (.after (bar2Flag_chg ..) (.after (hbmUncorrected_chg ..) (.after (askBurst_chg ..) (.after
            (drainQueue_chg ..) (.ite (.after (bar2Begin_chg ..) (.refl _ _)) (.refl _ _))))))
      · exact (.after (writeStored_chg ..) (.ite (.after (hbmCorrected_chg ..) (.after (askBurst_chg ..) (.after
            (drainQueue_chg ..) (.ite (.after (bar2Begin_chg ..) (.refl _ _)) (.refl _ _))))) (.after (askBurst_chg
            ..) (.after (drainQueue_chg ..) (.ite (.after (bar2Begin_chg ..) (.refl _ _)) (.refl _ _))))))
  · refine .ite ?_ ?_
    · exact (.after (writeStored_chg ..) (.after (openB_chg ..) (.after (drainQueue_chg ..) (.ite (.after
          (bar2Begin_chg ..) (.refl _ _)) (.refl _ _)))))
    · refine .ite ?_ ?_
      · exact (.after (bar2Flag_chg ..) (.after (hbmUncorrected_chg ..) (.after (askBurst_chg ..) (.after
            (drainQueue_chg ..) (.ite (.after (bar2Begin_chg ..) (.refl _ _)) (.refl _ _))))))
      · exact (.after (writeStored_chg ..) (.ite (.after (hbmCorrected_chg ..) (.after (askBurst_chg ..) (.after
            (drainQueue_chg ..) (.ite (.after (bar2Begin_chg ..) (.refl _ _)) (.refl _ _))))) (.after (askBurst_chg
            ..) (.after (drainQueue_chg ..) (.ite (.after (bar2Begin_chg ..) (.refl _ _)) (.refl _ _))))))

theorem bar2Write_chg (x0 : PcieFn) (x1 : BitVec 36) (x2 : Bool) (x3 : Word64) (x4 : State) :
    Chg 117411486 x4 (bar2Write x0 x1 x2 x3 x4) := by
  unfold bar2Write
  try dsimp only
  split
  · exact (.ite (.after (bar2Store_chg ..) (.refl _ _)) (.after (bar2Flag_chg ..) (.refl _ _)))
  · exact (.ite (.after (bar2Flag_chg ..) (.ite (.after (bar2Denied_chg ..) (.refl _ _)) (.refl _ _))) (.ite (.after
        (bar2Denied_chg ..) (.refl _ _)) (.refl _ _)))

theorem execBar2Write_chg (x0 : PcieFn) (x1 : BitVec 36) (x2 : Bool) (x3 : Word64) (x4 : State) :
    OChg 117411486 x4 (execBar2Write x0 x1 x2 x3 x4) := by
  unfold execBar2Write
  try dsimp only
  exact (.run (.after (bar2Write_chg ..) (.refl _ _)))

theorem bankField_chg (x0 : ℕ) (x1 : ℕ) (x2 : State) :
    Chg 2 x2 (bankField x0 x1 x2) := by
  unfold bankField
  try dsimp only
  exact (.ite (.refl _ _) (.ite (.after (State_setBit_chg ..) (.refl _ _)) (.after (State_setFld_chg ..) (.refl _
      _))))

theorem bankPwrWrite_chg (x0 : ℕ) (x1 : Word32) (x2 : State) :
    Chg 32770 x2 (bankPwrWrite x0 x1 x2) := by
  unfold bankPwrWrite
  try dsimp only
  refine .upd ?_
  exact (.each (.refl _ _) (fun _ _ => (.after (bankField_chg ..) (.refl _ _))))

theorem execBankPowerWrite_chg (x0 : Path) (x1 : BitVec 5) (x2 : Word32) (x3 : State) :
    OChg 32914 x3 (execBankPowerWrite x0 x1 x2 x3) := by
  unfold execBankPowerWrite
  try dsimp only
  exact (.run (.after (regAccess_chg (m := 32914) (fun _ _ => (.after (bankPwrWrite_chg ..) (.refl _ _)))) (.refl _
      _)))

theorem clearBank_chg (x0 : ℕ) (x1 : State) : Chg 32768 x1 (clearBank x0 x1) := by
  unfold clearBank
  exact .upd (.refl _ _) (i2 := mwf_filter _)

theorem bankReach_chg (x0 : ℕ) (x1 : State) :
    Chg 32768 x1 (bankReach x0 x1) := by
  unfold bankReach
  try dsimp only
  refine .upd ?_
  exact (.ite (.after (clearBank_chg ..) (.refl _ _)) (.refl _ _))

theorem bankPowerDone_chg (x0 : State) :
    Chg 32914 x0 (bankPowerDone x0) := by
  unfold bankPowerDone
  try dsimp only
  refine .ite ?_ ?_
  · exact (.refl _ _)
  · refine .after (raise_chg ..) ?_
    refine .upd ?_
    exact (.each (.refl _ _) (fun _ _ => (.after (bankReach_chg ..) (.refl _ _))))

theorem execBankPowerDone_chg (x0 : State) :
    OChg 32914 x0 (execBankPowerDone x0) := by
  unfold execBankPowerDone
  try dsimp only
  exact (.run (.after (bankPowerDone_chg ..) (.refl _ _)))

theorem marchDone_chg (x0 : State) :
    Chg 32914 x0 (marchDone x0) := by
  unfold marchDone
  try dsimp only
  refine .after (raise_chg ..) ?_
  refine .after (State_setBit_chg ..) ?_
  exact (.upd (.refl _ _))

theorem marchCtrlWrite_chg (x0 : Bool) (x1 : Word32) (x2 : State) :
    Chg 32914 x2 (marchCtrlWrite x0 x1 x2) := by
  unfold marchCtrlWrite
  try dsimp only
  refine .ite ?_ ?_
  · exact (.after (State_setFld_chg ..) (.refl _ _))
  · refine .ite ?_ ?_
    · exact (.after (State_setFld_chg ..) (.after (State_setFld_chg ..) (.refl _ _)))
    · refine .ite ?_ ?_
      · exact (.after (marchDone_chg ..) (.after (State_setReg_chg ..) (.after (State_setFld_chg ..) (.refl _ _))))
      · refine .upd ?_
        exact (.after (State_setReg_chg ..) (.after (State_setFld_chg ..) (.refl _ _)))

theorem execMarchPreserving_chg (x0 : Path) (x1 : BitVec 9) (x2 : Bool) (x3 : State) :
    OChg 32914 x3 (execMarchPreserving x0 x1 x2 x3) := by
  unfold execMarchPreserving
  try dsimp only
  exact (.run (.after (regAccess_chg (m := 32914) (fun _ _ => (.after (marchCtrlWrite_chg ..) (.refl _ _)))) (.refl _
      _)))

theorem execMarchDestructive_chg (x0 : Path) (x1 : BitVec 9) (x2 : Bool) (x3 : State) :
    OChg 32914 x3 (execMarchDestructive x0 x1 x2 x3) := by
  unfold execMarchDestructive
  try dsimp only
  exact (.run (.after (regAccess_chg (m := 32914) (fun _ _ => (.after (marchCtrlWrite_chg ..) (.refl _ _)))) (.refl _
      _)))

theorem marchCopyDone_chg (x0 : State) :
    Chg 32768 x0 (marchCopyDone x0) := by
  unfold marchCopyDone
  try dsimp only
  refine .ite ?_ ?_
  · exact (.upd (.refl _ _))
  · exact (.refl _ _)

theorem execMarchCopyDone_chg (x0 : State) :
    OChg 32768 x0 (execMarchCopyDone x0) := by
  unfold execMarchCopyDone
  try dsimp only
  exact (.run (.after (marchCopyDone_chg ..) (.refl _ _)))

theorem bankMended_chg (x0 : ℕ) (x1 : State) :
    Chg 32768 x1 (bankMended x0 x1) := by
  unfold bankMended
  try dsimp only
  exact (.upd (.refl _ _))

theorem marchRestoreDone_chg (x0 : State) :
    Chg 32914 x0 (marchRestoreDone x0) := by
  unfold marchRestoreDone
  try dsimp only
  refine .ite ?_ ?_
  · refine .after (marchDone_chg ..) ?_
    refine .upd ?_
    exact (.ite (.after (bankMended_chg ..) (.refl _ _)) (.refl _ _))
  · exact (.refl _ _)

theorem execMarchRestoreDone_chg (x0 : State) :
    OChg 32914 x0 (execMarchRestoreDone x0) := by
  unfold execMarchRestoreDone
  try dsimp only
  exact (.run (.after (marchRestoreDone_chg ..) (.refl _ _)))

end Sys2Proof.Laws
end

