-- ==== Sys2Proof/Laws/FrameSelfTest.lean ====
section
/-!
SUPPORT. Laws/FrameSelfTest.lean: which parts of the state the operations of Machine/SelfTest.lean may change.
-/
namespace Sys2Proof.Laws
set_option Elab.async false
open Sys2Proof.Machine

theorem parkEffect_chg (x0 : ℕ) (x1 : ℕ) (x2 : State) :
    Chg 3145882 x2 (parkEffect x0 x1 x2) := by
  unfold parkEffect
  try dsimp only
  exact (.ite (.after (timeHoldover_chg ..) (.refl _ _)) (.ite (.after (holdRegion_chg ..) (.refl _ _)) (.ite (.after
      (holdRegions_chg ..) (.refl _ _)) (.refl _ _))))

theorem parkBlock_chg (x0 : ℕ) (x1 : ℕ) (x2 : ℕ) (x3 : State) :
    Chg 104238746 x3 (parkBlock x0 x1 x2 x3) := by
  unfold parkBlock
  try dsimp only
  refine .ite ?_ ?_
  · refine .after (faultStop_chg ..) ?_
    refine .after (parkEffect_chg ..) ?_
    refine .after (raise_chg ..) ?_
    refine .upd ?_
    exact (.after (State_setBit_chg ..) (.after (State_setReg_chg ..) (.refl _ _)))
  · refine .after (parkEffect_chg ..) ?_
    refine .after (raise_chg ..) ?_
    refine .upd ?_
    exact (.after (State_setBit_chg ..) (.after (State_setReg_chg ..) (.refl _ _)))

theorem testFailed_chg (x0 : State) :
    Chg 146 x0 (testFailed x0) := by
  unfold testFailed
  try dsimp only
  exact (.after (raise_chg ..) (.refl _ _))

theorem criticalTrip_chg (x0 : State) :
    Chg 101093010 x0 (criticalTrip x0) := by
  unfold criticalTrip
  try dsimp only
  refine .ite ?_ ?_
  · exact (.refl _ _)
  · refine .ite ?_ ?_
    · refine .after (faultStop_chg ..) ?_
      refine .after (ledAdd_chg ..) ?_
      refine .after (raise_chg ..) ?_
      refine .after (causeSet_chg ..) ?_
      exact (.upd (.refl _ _))
    · refine .after (ledAdd_chg ..) ?_
      refine .after (raise_chg ..) ?_
      refine .after (causeSet_chg ..) ?_
      exact (.upd (.refl _ _))

theorem testEnd_chg (x0 : ℕ) (x1 : ℕ) (x2 : State) :
    Chg 33554578 x2 (testEnd x0 x1 x2) := by
  unfold testEnd
  try dsimp only
  refine .after (raise_chg ..) ?_
  refine .after (State_setBit_chg ..) ?_
  refine .after (State_setFld_chg ..) ?_
  refine .after (State_setFld_chg ..) ?_
  exact (.upd (.refl _ _))

theorem testDone_chg (x0 : ℕ) (x1 : State) :
    Chg 33554578 x1 (testDone x0 x1) := by
  unfold testDone
  try dsimp only
  exact (.after (testEnd_chg ..) (.refl _ _))

theorem testBegin_chg (x0 : ℕ) (x1 : ℕ) (x2 : Bool) (x3 : State) :
    Chg 33587202 x3 (testBegin x0 x1 x2 x3) := by
  unfold testBegin
  try dsimp only
  refine .ite ?_ ?_
  · refine .after (State_setBit_chg ..) ?_
    exact (.upd (.refl _ _))
  · refine .ite ?_ ?_
    · exact (.upd (.refl _ _))
    · refine .ite ?_ ?_
      · exact (.upd (.refl _ _))
      · exact (.upd (.refl _ _))

theorem testGo_chg (x0 : Bool) (x1 : State) :
    Chg 33587346 x1 (testGo x0 x1) := by
  unfold testGo
  try dsimp only
  exact (.ite (.after (State_setFld_chg ..) (.refl _ _)) (.ite (.after (testEnd_chg ..) (.after (State_setBit_chg ..)
      (.after (State_setFld_chg ..) (.after (State_setFld_chg ..) (.refl _ _))))) (.after (testBegin_chg ..) (.after
      (State_setBit_chg ..) (.after (State_setFld_chg ..) (.after (State_setFld_chg ..) (.refl _ _)))))))

theorem testStop_chg (x0 : State) :
    Chg 33554578 x0 (testStop x0) := by
  unfold testStop
  try dsimp only
  split
  · exact (.ite (.after (testDone_chg ..) (.refl _ _)) (.refl _ _))
  · exact (.refl _ _)

theorem stCtrlWrite_chg (x0 : Bool) (x1 : Word32) (x2 : State) :
    Chg 33587346 x2 (stCtrlWrite x0 x1 x2) := by
  unfold stCtrlWrite
  try dsimp only
  exact (.ite (.after (testGo_chg ..) (.ite (.after (testStop_chg ..) (.after (storeReg_chg ..) (.refl _ _))) (.after
      (storeReg_chg ..) (.refl _ _)))) (.ite (.after (testStop_chg ..) (.after (storeReg_chg ..) (.refl _ _)))
      (.after (storeReg_chg ..) (.refl _ _))))

theorem execSelfTestGo_chg (x0 : OpWrite) (x1 : Word32) (x2 : State) :
    OChg 33587346 x2 (execSelfTestGo x0 x1 x2) := by
  unfold execSelfTestGo
  try dsimp only
  exact (.run (.ite (.after (regAccess_chg (m := 33587346) (fun _ _ => (.after (stCtrlWrite_chg ..) (.refl _ _))))
      (.refl _ _)) (.refl _ _)))

theorem execSelfTestStop_chg (x0 : Path) (x1 : Word32) (x2 : State) :
    OChg 33587346 x2 (execSelfTestStop x0 x1 x2) := by
  unfold execSelfTestStop
  try dsimp only
  exact (.run (.ite (.after (regAccess_chg (m := 33587346) (fun _ _ => (.after (stCtrlWrite_chg ..) (.refl _ _))))
      (.refl _ _)) (.refl _ _)))

theorem marchOutcome_chg (x0 : ℕ) (x1 : ℕ) (x2 : State) :
    Chg 2 x2 (marchOutcome x0 x1 x2) := by
  unfold marchOutcome
  try dsimp only
  exact (.ite (.after (State_setFld_chg ..) (.refl _ _)) (.refl _ _))

theorem reportMarch_chg (x0 : List FailCell) (x1 : State) :
    Chg 2 x1 (reportMarch x0 x1) := by
  unfold reportMarch
  try dsimp only
  exact (.times (.after (State_setReg_chg ..) (.refl _ _)) (fun _ _ => (.after (State_setReg_chg ..) (.refl _ _))))

theorem addRecord_chg (x0 : RepairRec) (x1 : State) :
    Chg 16777362 x1 (addRecord x0 x1).2 := by
  unfold addRecord
  try dsimp only
  refine .ite2 ?_ ?_
  · exact (.mk2 (.after (raise_chg ..) (.after (State_setBit_chg ..) (.refl _ _))))
  · refine .mk2 ?_
    refine .after (raise_chg ..) ?_
    exact (.upd (.refl _ _))

theorem useSpare_chg (x0 : ℕ) (x1 : ℕ) (x2 : ℕ) (x3 : ℕ × ℕ) (x4 : Bool × State) :
    Chg 83886226 x4.2 (useSpare x0 x1 x2 x3 x4).2 := by
  unfold useSpare
  try dsimp only
  refine .ite2 ?_ ?_
  · exact (.refl _ _)
  · refine .ite2 ?_ ?_
    · exact (.mk2 (.after (ledAdd_chg ..) (.after (addRecord_chg ..) (.refl _ _))))
    · exact (.after (addRecord_chg ..) (.refl _ _))

theorem repairUnit_chg (x0 : List FailCell) (x1 : ℕ) (x2 : State) :
    Chg 117440658 x2 (repairUnit x0 x1 x2) := by
  unfold repairUnit
  try dsimp only
  split
  · exact (.upd (.refl _ _))
  · refine .ite ?_ ?_
    · refine .upd ?_
      exact (.each2 (.each2 (.refl _ _) (fun _ _ => (.after (useSpare_chg ..) (.refl _ _)))) (fun _ _ => (.after
          (useSpare_chg ..) (.refl _ _))))
    · refine .upd ?_
      exact (.each2 (.each2 (.refl _ _) (fun _ _ => (.after (useSpare_chg ..) (.refl _ _)))) (fun _ _ => (.after
          (useSpare_chg ..) (.refl _ _))))

theorem keepFaults_chg (x0 : State) :
    Chg 67109010 x0 (keepFaults x0) := by
  unfold keepFaults
  try dsimp only
  exact (.after (ledAdd_chg ..) (.after (State_setBit_chg ..) (.refl _ _)))

theorem substitute_chg (x0 : ℕ) (x1 : ℕ) (x2 : State) :
    Chg 83918994 x2 (substitute x0 x1 x2) := by
  unfold substitute
  try dsimp only
  exact (.after (ledAdd_chg ..) (.after (marchOutcome_chg ..) (.after (State_setBit_chg ..) (.after (bankMended_chg
      ..) (.after (addRecord_chg ..) (.refl _ _))))))

theorem bankConclude_chg (x0 : State) :
    Chg 83918994 x0 (bankConclude x0) := by
  unfold bankConclude
  try dsimp only
  refine .ite ?_ ?_
  · refine .ite ?_ ?_
    · refine .upd ?_
      exact (.ite (.refl _ _) (.after (testFailed_chg ..) (.after (marchOutcome_chg ..) (.refl _ _))))
    · exact (.after (marchDone_chg ..) (.after (substitute_chg ..) (.ite (.refl _ _) (.after (testFailed_chg ..)
          (.after (marchOutcome_chg ..) (.refl _ _))))))
  · refine .ite ?_ ?_
    · exact (.after (marchDone_chg ..) (.after (clearBank_chg ..) (.ite (.refl _ _) (.after (testFailed_chg ..)
          (.after (marchOutcome_chg ..) (.refl _ _))))))
    · split
      · refine .after (marchDone_chg ..) ?_
        refine .upd ?_
        exact (.after (substitute_chg ..) (.after (clearBank_chg ..) (.ite (.refl _ _) (.after (testFailed_chg ..)
            (.after (marchOutcome_chg ..) (.refl _ _))))))
      · exact (.after (marchDone_chg ..) (.after (keepFaults_chg ..) (.after (clearBank_chg ..) (.ite (.refl _ _)
            (.after (testFailed_chg ..) (.after (marchOutcome_chg ..) (.refl _ _)))))))

theorem marchConclude_chg (x0 : State) :
    Chg 83918994 x0 (marchConclude x0) := by
  unfold marchConclude
  try dsimp only
  refine .ite ?_ ?_
  · refine .upd ?_
    refine .each ?_ (fun _ _ => ?_)
    · refine .upd ?_
      exact (.each (.refl _ _) (fun _ _ => (.ite (.after (marchOutcome_chg ..) (.refl _ _)) (.after (marchOutcome_chg
          ..) (.refl _ _)))))
    · exact (.after (marchOutcome_chg ..) (.refl _ _))
  · refine .after (bankConclude_chg ..) ?_
    refine .upd ?_
    exact (.each (.refl _ _) (fun _ _ => (.ite (.after (marchOutcome_chg ..) (.refl _ _)) (.after (marchOutcome_chg
        ..) (.refl _ _)))))

theorem marchPhaseDone_chg (x0 : List FailCell) (x1 : State) :
    Chg 117473426 x1 (marchPhaseDone x0 x1) := by
  unfold marchPhaseDone
  try dsimp only
  refine .ite ?_ ?_
  · exact (.refl _ _)
  · refine .ite ?_ ?_
    · refine .after (marchConclude_chg ..) ?_
      refine .each ?_ (fun _ _ => ?_)
      · refine .after (reportMarch_chg ..) ?_
        exact (.upd (.refl _ _))
      · exact (.after (repairUnit_chg ..) (.refl _ _))
    · refine .upd ?_
      refine .each ?_ (fun _ _ => ?_)
      · refine .after (reportMarch_chg ..) ?_
        exact (.upd (.refl _ _))
      · exact (.after (repairUnit_chg ..) (.refl _ _))

theorem execMarchPhaseDone_chg (x0 : List FailCell) (x1 : State) :
    OChg 117473426 x1 (execMarchPhaseDone x0 x1) := by
  unfold execMarchPhaseDone
  try dsimp only
  exact (.run (.after (marchPhaseDone_chg ..) (.refl _ _)))

theorem remarchDone_chg (x0 : List FailCell) (x1 : State) :
    Chg 117473426 x1 (remarchDone x0 x1) := by
  unfold remarchDone
  try dsimp only
  refine .ite ?_ ?_
  · exact (.refl _ _)
  · refine .after (marchConclude_chg ..) ?_
    exact (.upd (.refl _ _))

theorem execRepairRemarchDone_chg (x0 : List FailCell) (x1 : State) :
    OChg 117473426 x1 (execRepairRemarchDone x0 x1) := by
  unfold execRepairRemarchDone
  try dsimp only
  exact (.run (.after (remarchDone_chg ..) (.refl _ _)))

theorem marchClear_chg (x0 : ℕ) (x1 : ℕ) (x2 : State) :
    Chg 512 x2 (marchClear x0 x1 x2) := by
  unfold marchClear
  try dsimp only
  refine .ite ?_ ?_
  · exact (.upd (.refl _ _))
  · exact (.upd (.refl _ _))

theorem marchTestDone_chg (x0 : ℕ) (x1 : ℕ) (x2 : State) :
    Chg 121015962 x2 (marchTestDone x0 x1 x2) := by
  unfold marchTestDone
  try dsimp only
  refine .after (testDone_chg ..) ?_
  refine .each ?_ (fun _ _ => ?_)
  · refine .ite ?_ ?_
    · refine .after (marchClear_chg ..) ?_
      refine .upd ?_
      exact (.ite (.refl _ _) (.ite (.after (remarchDone_chg ..) (.refl _ _)) (.after (marchPhaseDone_chg ..) (.refl
          _ _))))
    · refine .after (testFailed_chg ..) ?_
      refine .after (marchClear_chg ..) ?_
      refine .upd ?_
      exact (.ite (.refl _ _) (.ite (.after (remarchDone_chg ..) (.refl _ _)) (.after (marchPhaseDone_chg ..) (.refl
          _ _))))
  · exact (.after (parkBlock_chg ..) (.refl _ _))

theorem selfTestDone_chg (x0 : Bool) (x1 : State) :
    Chg 121015962 x1 (selfTestDone x0 x1) := by
  unfold selfTestDone
  try dsimp only
  split
  · exact (.refl _ _)
  · refine .ite ?_ ?_
    · exact (.after (marchTestDone_chg ..) (.refl _ _))
    · refine .ite ?_ ?_
      · exact (.refl _ _)
      · refine .after (testDone_chg ..) ?_
        refine .ite ?_ ?_
        · exact (.after (State_setBit_chg ..) (.after (State_setBit_chg ..) (.ite (.ite (.after (State_setBit_chg ..)
              (.refl _ _)) (.refl _ _)) (.after (testFailed_chg ..) (.ite (.after (State_setBit_chg ..) (.refl _ _))
              (.refl _ _))))))
        · exact (.ite (.ite (.after (State_setBit_chg ..) (.refl _ _)) (.refl _ _)) (.after (testFailed_chg ..) (.ite
              (.after (State_setBit_chg ..) (.refl _ _)) (.refl _ _))))

theorem execSelfTestDone_chg (x0 : Bool) (x1 : State) :
    OChg 121015962 x1 (execSelfTestDone x0 x1) := by
  unfold execSelfTestDone
  try dsimp only
  exact (.run (.after (selfTestDone_chg ..) (.refl _ _)))

theorem tdcEnWrite_chg (x0 : ℕ) (x1 : Word32) (x2 : State) :
    Chg 2 x2 (tdcEnWrite x0 x1 x2) := by
  unfold tdcEnWrite
  try dsimp only
  exact (.after (storeReg_chg ..) (.refl _ _))

theorem sensorCheck_chg (x0 : List Byte) (x1 : State) :
    Chg 101093010 x1 (sensorCheck x0 x1) := by
  unfold sensorCheck
  try dsimp only
  exact (.ite (.refl _ _) (.ite (.after (criticalTrip_chg ..) (.each (.refl _ _) (fun _ _ => (.after (raise_chg ..)
      (.after (State_setBit_chg ..) (.refl _ _)))))) (.each (.refl _ _) (fun _ _ => (.after (raise_chg ..) (.after
      (State_setBit_chg ..) (.refl _ _)))))))

theorem execThermalSensorCheck_chg (x0 : List Byte) (x1 : State) :
    OChg 101093010 x1 (execThermalSensorCheck x0 x1) := by
  unfold execThermalSensorCheck
  try dsimp only
  exact (.run (.after (sensorCheck_chg ..) (.refl _ _)))

theorem vmonCheck_chg (x0 : BitVec 12) (x1 : ℕ) (x2 : ℕ) (x3 : State) :
    Chg 33554586 x3 (vmonCheck x0 x1 x2 x3) := by
  unfold vmonCheck
  try dsimp only
  refine .ite ?_ ?_
  · refine .ite ?_ ?_
    · refine .after (State_tick1_chg ..) ?_
      refine .after (State_setReg_chg ..) ?_
      refine .after (State_setReg_chg ..) ?_
      exact (.upd (.refl _ _))
    · refine .after (State_setReg_chg ..) ?_
      exact (.upd (.refl _ _))
  · refine .after (testFailed_chg ..) ?_
    refine .after (State_setBit_chg ..) ?_
    refine .after (State_setReg_chg ..) ?_
    exact (.upd (.refl _ _))

theorem execVmonCheck_chg (x0 : BitVec 12) (x1 : ℕ) (x2 : ℕ) (x3 : State) :
    OChg 33554586 x3 (execVmonCheck x0 x1 x2 x3) := by
  unfold execVmonCheck
  try dsimp only
  exact (.run (.after (vmonCheck_chg ..) (.refl _ _)))

theorem lanePllLoss_chg (x0 : ℕ) (x1 : State) :
    Chg 112627354 x1 (lanePllLoss x0 x1) := by
  unfold lanePllLoss
  try dsimp only
  exact (.after (portTo_chg ..) (.after (parkBlock_chg ..) (.after (testFailed_chg ..) (.after (State_setLane_chg ..)
      (.refl _ _)))))

theorem execLanePllLockLoss_chg (x0 : BitVec 4) (x1 : State) :
    OChg 112627354 x1 (execLanePllLockLoss x0 x1) := by
  unfold execLanePllLockLoss
  try dsimp only
  exact (.run (.after (onPort_chg (m := 112627354) (fun _ _ => (.after (lanePllLoss_chg ..) (.refl _ _)))) (.refl _
      _)))

theorem hbmPllLoss_chg (x0 : ℕ) (x1 : State) :
    Chg 112627354 x1 (hbmPllLoss x0 x1) := by
  unfold hbmPllLoss
  try dsimp only
  exact (.ite (.refl _ _) (.ite (.after (loseSink_chg ..) (.after (parkBlock_chg ..) (.after (testFailed_chg ..)
      (.refl _ _)))) (.after (parkBlock_chg ..) (.after (testFailed_chg ..) (.refl _ _)))))

theorem execHbmPllLockLoss_chg (x0 : BitVec 1) (x1 : State) :
    OChg 112627354 x1 (execHbmPllLockLoss x0 x1) := by
  unfold execHbmPllLockLoss
  try dsimp only
  exact (.run (.after (hbmPllLoss_chg ..) (.refl _ _)))

theorem vccioTrip_chg (x0 : ℕ) (x1 : State) :
    Chg 2097306 x1 (vccioTrip x0 x1) := by
  unfold vccioTrip
  try dsimp only
  exact (.ite (.refl _ _) (.ite (.after (State_setBit_chg ..) (.refl _ _)) (.ite (.after (settle_chg ..) (.after
      (State_setBit_chg ..) (.after (State_setBit_chg ..) (.refl _ _)))) (.after (raise_chg ..) (.after (settle_chg
      ..) (.after (State_setBit_chg ..) (.after (State_setBit_chg ..) (.refl _ _))))))))

theorem execVccioMonitorTrip_chg (x0 : BitVec 3) (x1 : State) :
    OChg 2097306 x1 (execVccioMonitorTrip x0 x1) := by
  unfold execVccioMonitorTrip
  try dsimp only
  exact (.done (.after (vccioTrip_chg ..) (.refl _ _)))

theorem vccioClear_chg (x0 : ℕ) (x1 : State) :
    Chg 2097162 x1 (vccioClear x0 x1) := by
  unfold vccioClear
  try dsimp only
  exact (.ite (.refl _ _) (.after (pinsChanged_chg ..) (.after (State_setBit_chg ..) (.refl _ _))))

theorem execVccioMonitorClear_chg (x0 : BitVec 3) (x1 : State) :
    OChg 2097162 x1 (execVccioMonitorClear x0 x1) := by
  unfold execVccioMonitorClear
  try dsimp only
  exact (.done (.after (vccioClear_chg ..) (.refl _ _)))

end Sys2Proof.Laws
end

