-- ==== Sys2Proof/Laws/FramePower.lean ====
section
/-!
SUPPORT. Laws/FramePower.lean: which parts of the state the operations of Machine/Power.lean may change.
-/
namespace Sys2Proof.Laws
set_option Elab.async false
open Sys2Proof.Machine

theorem writeLedger_chg (x0 : ℕ) (x1 : Bool) (x2 : State) :
    Chg 67109010 x2 (writeLedger x0 x1 x2) := by
  unfold writeLedger
  try dsimp only
  refine .ite ?_ ?_
  · exact (.after (raise_chg ..) (.after (causeSet_chg ..) (.refl _ _)))
  · exact (.upd (.refl _ _))

theorem execLedgerPeriodicWrite_chg (x0 : Bool) (x1 : State) :
    OChg 67109010 x1 (execLedgerPeriodicWrite x0 x1) := by
  unfold execLedgerPeriodicWrite
  try dsimp only
  exact (.run (.after (writeLedger_chg ..) (.refl _ _)))

theorem ledgerSample_chg (x0 : State) :
    Chg 67109010 x0 (ledgerSample x0) := by
  unfold ledgerSample
  try dsimp only
  exact (.ite (.after (ledAdd_chg ..) (.after (ledAdd_chg ..) (.refl _ _))) (.after (ledAdd_chg ..) (.after
      (ledAdd_chg ..) (.after (ledAdd_chg ..) (.refl _ _)))))

theorem execLedgerSample_chg (x0 : State) :
    OChg 67109010 x0 (execLedgerSample x0) := by
  unfold execLedgerSample
  try dsimp only
  exact (.run (.after (ledgerSample_chg ..) (.refl _ _)))

theorem targetWrite_chg (x0 : ℕ) (x1 : State) :
    Chg 33554578 x1 (targetWrite x0 x1) := by
  unfold targetWrite
  try dsimp only
  refine .ite ?_ ?_
  · exact (.refl _ _)
  · refine .ite ?_ ?_
    · exact (.after (startWake_chg ..) (.refl _ _))
    · refine .ite ?_ ?_
      · refine .after (State_setFld_chg ..) ?_
        exact (.upd (.refl _ _))
      · refine .ite ?_ ?_
        · refine .after (State_setFld_chg ..) ?_
          exact (.upd (.refl _ _))
        · exact (.after (raise_chg ..) (.after (causeSet_chg ..) (.refl _ _)))

theorem pwrCtrlWrite_chg (x0 : Bool) (x1 : Word32) (x2 : State) :
    Chg 100663442 x2 (pwrCtrlWrite x0 x1 x2) := by
  unfold pwrCtrlWrite
  try dsimp only
  refine .ite ?_ ?_
  · exact (.ite (.after (writeLedger_chg ..) (.ite (.after (writeLedger_chg ..) (.after (targetWrite_chg ..) (.refl _
        _))) (.after (targetWrite_chg ..) (.refl _ _)))) (.after (raise_chg ..) (.after (writeLedger_chg ..) (.ite
        (.after (writeLedger_chg ..) (.after (targetWrite_chg ..) (.refl _ _))) (.after (targetWrite_chg ..) (.refl _
        _))))))
  · exact (.ite (.after (writeLedger_chg ..) (.after (targetWrite_chg ..) (.refl _ _))) (.after (targetWrite_chg ..)
        (.refl _ _)))

theorem onPwrCtrl_chg (x0 : Path) (x1 : Word32) (x2 : Bool) (x3 : Bool) (x4 : State) :
    OChg 100663442 x4 (onPwrCtrl x0 x1 x2 x3 x4) := by
  unfold onPwrCtrl
  try dsimp only
  exact (.run (.ite (.after (regAccess_chg (m := 100663442) (fun _ _ => (.after (pwrCtrlWrite_chg ..) (.refl _ _))))
      (.refl _ _)) (.refl _ _)))

theorem execPwrTargetDoze_chg (x0 : Path) (x1 : Word32) (x2 : State) :
    OChg 100663442 x2 (execPwrTargetDoze x0 x1 x2) := by
  unfold execPwrTargetDoze
  try dsimp only
  exact (onPwrCtrl_chg ..)

theorem execPwrTargetNap_chg (x0 : Path) (x1 : Word32) (x2 : State) :
    OChg 100663442 x2 (execPwrTargetNap x0 x1 x2) := by
  unfold execPwrTargetNap
  try dsimp only
  exact (onPwrCtrl_chg ..)

theorem execPwrWake_chg (x0 : Path) (x1 : Word32) (x2 : State) :
    OChg 100663442 x2 (execPwrWake x0 x1 x2) := by
  unfold execPwrWake
  try dsimp only
  exact (onPwrCtrl_chg ..)

theorem execLdgFlush_chg (x0 : Path) (x1 : Word32) (x2 : Bool) (x3 : State) :
    OChg 100663442 x3 (execLdgFlush x0 x1 x2 x3) := by
  unfold execLdgFlush
  try dsimp only
  exact (onPwrCtrl_chg ..)

theorem execShutdown_chg (x0 : Path) (x1 : Word32) (x2 : Bool) (x3 : State) :
    OChg 100663442 x3 (execShutdown x0 x1 x2 x3) := by
  unfold execShutdown
  try dsimp only
  exact (onPwrCtrl_chg ..)

theorem enterPower_chg (x0 : PowMode) (x1 : Bool) (x2 : State) :
    Chg 113279130 x2 (enterPower x0 x1 x2) := by
  unfold enterPower
  try dsimp only
  split
  · refine .after (lksWake_chg ..) ?_
    exact (.upd (.refl _ _))
  · refine .upd ?_
    exact (.after (lksGap_chg ..) (.after (astDrain_chg ..) (.refl _ _)))
  · refine .upd ?_
    exact (.after (lksGap_chg ..) (.after (astDrain_chg ..) (.after (writeLedger_chg ..) (.refl _ _))))

theorem transitionDone_chg (x0 : Bool) (x1 : State) :
    Chg 113279130 x1 (transitionDone x0 x1) := by
  unfold transitionDone
  try dsimp only
  split
  · exact (.refl _ _)
  · refine .ite ?_ ?_
    · refine .after (raise_chg ..) ?_
      refine .after (enterPower_chg ..) ?_
      exact (.upd (.refl _ _))
    · refine .after (enterPower_chg ..) ?_
      exact (.upd (.refl _ _))

theorem execPwrTransitionDone_chg (x0 : Bool) (x1 : State) :
    OChg 113279130 x1 (execPwrTransitionDone x0 x1) := by
  unfold execPwrTransitionDone
  try dsimp only
  exact (.run (.after (transitionDone_chg ..) (.refl _ _)))

theorem thermalReading_chg (x0 : List Byte) (x1 : State) :
    Chg 101093010 x1 (thermalReading x0 x1) := by
  unfold thermalReading
  try dsimp only
  refine .ite ?_ ?_
  · exact (.refl _ _)
  · refine .after (throttleChanged_chg ..) ?_
    refine .ite ?_ ?_
    · refine .ite ?_ ?_
      · refine .after (raise_chg ..) ?_
        refine .after (causeSet_chg ..) ?_
        refine .upd ?_
        refine .ite ?_ ?_
        · exact (.after (criticalTrip_chg ..) (.after (State_setReg_chg ..) (.refl _ _)))
        · refine .ite ?_ ?_
          · refine .upd ?_
            exact (.after (State_setReg_chg ..) (.refl _ _))
          · exact (.after (State_setReg_chg ..) (.refl _ _))
      · refine .upd ?_
        refine .ite ?_ ?_
        · exact (.after (criticalTrip_chg ..) (.after (State_setReg_chg ..) (.refl _ _)))
        · refine .ite ?_ ?_
          · refine .upd ?_
            exact (.after (State_setReg_chg ..) (.refl _ _))
          · exact (.after (State_setReg_chg ..) (.refl _ _))
    · refine .ite ?_ ?_
      · refine .upd ?_
        refine .ite ?_ ?_
        · exact (.after (criticalTrip_chg ..) (.after (State_setReg_chg ..) (.refl _ _)))
        · refine .ite ?_ ?_
          · refine .upd ?_
            exact (.after (State_setReg_chg ..) (.refl _ _))
          · exact (.after (State_setReg_chg ..) (.refl _ _))
      · refine .ite ?_ ?_
        · exact (.after (criticalTrip_chg ..) (.after (State_setReg_chg ..) (.refl _ _)))
        · refine .ite ?_ ?_
          · refine .upd ?_
            exact (.after (State_setReg_chg ..) (.refl _ _))
          · exact (.after (State_setReg_chg ..) (.refl _ _))

theorem execThermalReading_chg (x0 : List Byte) (x1 : State) :
    OChg 101093010 x1 (execThermalReading x0 x1) := by
  unfold execThermalReading
  try dsimp only
  exact (.run (.after (thermalReading_chg ..) (.refl _ _)))

theorem pwrThermWrite_chg (x0 : Word32) (x1 : State) :
    Chg 2 x1 (pwrThermWrite x0 x1) := by
  unfold pwrThermWrite
  try dsimp only
  exact (.ite (.after (storeReg_chg ..) (.refl _ _)) (.refl _ _))

theorem pwrThrotWrite_chg (x0 : Word32) (x1 : State) :
    Chg 1026 x1 (pwrThrotWrite x0 x1) := by
  unfold pwrThrotWrite
  try dsimp only
  exact (.after (throttleChanged_chg ..) (.after (storeReg_chg ..) (.refl _ _)))

theorem pwrRampWrite_chg (x0 : Word32) (x1 : State) :
    Chg 2 x1 (pwrRampWrite x0 x1) := by
  unfold pwrRampWrite
  try dsimp only
  exact (.ite (.after (State_setFld_chg ..) (.ite (.after (State_setFld_chg ..) (.refl _ _)) (.refl _ _))) (.ite
      (.after (State_setFld_chg ..) (.refl _ _)) (.refl _ _)))

theorem rampTick_chg (x0 : State) :
    Chg 33555456 x0 (rampTick x0) := by
  unfold rampTick
  try dsimp only
  split
  · exact (.refl _ _)
  · refine .after (throttleChanged_chg ..) ?_
    refine .ite ?_ ?_
    · exact (.upd (.refl _ _))
    · exact (.upd (.refl _ _))

theorem execRampTick_chg (x0 : State) :
    OChg 33555456 x0 (execRampTick x0) := by
  unfold execRampTick
  try dsimp only
  exact (.run (.after (rampTick_chg ..) (.refl _ _)))

theorem forecast_chg (x0 : State) :
    Chg 33554458 x0 (forecast x0) := by
  unfold forecast
  try dsimp only
  refine .ite ?_ ?_
  · exact (.refl _ _)
  · refine .upd ?_
    exact (.after (State_setReg_chg ..) (.after (State_emit_chg ..) (.after (State_tick1_chg ..) (.refl _ _))))

theorem execLoadForecastFrame_chg (x0 : State) :
    OChg 33554458 x0 (execLoadForecastFrame x0) := by
  unfold execLoadForecastFrame
  try dsimp only
  exact (.run (.after (forecast_chg ..) (.refl _ _)))

end Sys2Proof.Laws
end

