-- ==== Sys2Proof/Laws/FramePackage.lean ====
section
/-!
SUPPORT. Laws/FramePackage.lean: which parts of the state the operations of Machine/Package.lean may change.
-/
namespace Sys2Proof.Laws
set_option Elab.async false
open Sys2Proof.Machine

theorem rolesReset_chg (x0 : State) :
    Chg 2 x0 (rolesReset x0) := by
  unfold rolesReset
  try dsimp only
  exact (.times (.refl _ _) (fun _ _ => (.after (State_setFld_chg ..) (.refl _ _))))

theorem platRegs_chg (x0 : List Byte) (x1 : State) :
    Chg 2 x1 (platRegs x0 x1) := by
  unfold platRegs
  try dsimp only
  exact (.after (State_setBit_chg ..) (.after (rolesReset_chg ..) (.times (.after (State_setReg_chg ..) (.refl _ _))
      (fun _ _ => (.after (State_setReg_chg ..) (.refl _ _))))))

theorem loadKeys_chg (x0 : List Byte) (x1 : State) :
    Chg 524288 x1 (loadKeys x0 x1) := by
  unfold loadKeys
  try dsimp only
  refine .fold ?_ (fun _ _ => ?_)
  · exact (.refl _ _)
  · split
    · exact (.upd (.refl _ _))
    · exact (.refl _ _)

end Sys2Proof.Laws
end

