-- ==== Sys2Proof/Laws/FrameRequests.lean ====
section
/-!
SUPPORT. Laws/FrameRequests.lean: which parts of the state the operations of Machine/Requests.lean may change.
-/
namespace Sys2Proof.Laws
set_option Elab.async false
open Sys2Proof.Machine

theorem setCtr_chg (x0 : ℕ) (x1 : ℕ) (x2 : State) :
    Chg 2 x2 (setCtr x0 x1 x2) := by
  unfold setCtr
  try dsimp only
  exact (.after (State_setReg_chg ..) (.after (State_setReg_chg ..) (.refl _ _)))

theorem Chg.answer {m st : Nat} {resp : List Byte} {r t s : State} (ht : Chg m r t) (hs : Chg m r s) :
    Chg m r (answer st resp t s).2.2 := by
  unfold Machine.answer
  split
  · exact hs
  · exact ht

theorem keyLoad_chg (x0 : List Byte) (x1 : State) :
    Chg 524288 x1 (keyLoad x0 x1).2.2 := by
  unfold keyLoad
  try dsimp only
  refine .answer ?_ ?_
  · exact (.upd (.refl _ _))
  · exact (.refl _ _)

theorem stageWrite_chg (x0 : List Byte) (x1 : State) :
    Chg 16777216 x1 (stageWrite x0 x1).2.2 := by
  unfold stageWrite
  try dsimp only
  refine .answer ?_ ?_
  · exact (.upd (.refl _ _))
  · exact (.refl _ _)

theorem ledgerTorn_chg (x0 : State) :
    Chg 67108872 x0 (ledgerTorn x0) := by
  unfold ledgerTorn
  try dsimp only
  refine .ite ?_ ?_
  · exact (.refl _ _)
  · refine .ite ?_ ?_
    · refine .after (State_tick1_chg ..) ?_
      exact (.upd (.refl _ _))
    · exact (.after (State_tick1_chg ..) (.refl _ _))

theorem stageTorn_chg (x0 : State) :
    Chg 16777224 x0 (stageTorn x0) := by
  unfold stageTorn
  try dsimp only
  refine .ite ?_ ?_
  · exact (.refl _ _)
  · refine .after (State_tick1_chg ..) ?_
    refine .upd ?_
    exact (.ite (.refl _ _) (.after (stageWrite_chg ..) (.refl _ _)))

theorem copyUpTo_chg (x0 : FlashSlot) (x1 : ℕ) (x2 : State) :
    Chg 16777216 x2 (copyUpTo x0 x1 x2) := by
  unfold copyUpTo
  try dsimp only
  exact (.upd (.refl _ _))

theorem copyTorn_chg (x0 : State) :
    Chg 16777224 x0 (copyTorn x0) := by
  unfold copyTorn
  try dsimp only
  exact (.ite (.after (State_tick1_chg ..) (.after (copyUpTo_chg ..) (.refl _ _))) (.refl _ _))

theorem confirmRecord_chg (x0 : State) :
    Chg 16777216 x0 (confirmRecord x0) := by
  unfold confirmRecord
  try dsimp only
  refine .ite ?_ ?_
  · exact (.upd (.refl _ _))
  · exact (.refl _ _)

theorem lastWrite_chg (x0 : Request) (x1 : State) :
    Chg 17301504 x1 (lastWrite x0 x1) := by
  unfold lastWrite
  try dsimp only
  exact (.ite (.after (keyLoad_chg ..) (.refl _ _)) (.ite (.after (confirmRecord_chg ..) (.refl _ _)) (.refl _ _)))

theorem requestTorn_chg (x0 : State) :
    Chg 17301514 x0 (requestTorn x0) := by
  unfold requestTorn
  try dsimp only
  split
  · exact (.refl _ _)
  · exact (.ite (.refl _ _) (.ite (.after (State_tick1_chg ..) (.refl _ _)) (.ite (.after (lastWrite_chg ..) (.after
        (setCtr_chg ..) (.after (State_tick1_chg ..) (.refl _ _)))) (.after (setCtr_chg ..) (.after (State_tick1_chg
        ..) (.refl _ _))))))

theorem interrupted_chg (x0 : State) :
    Chg 84410378 x0 (interrupted x0) := by
  unfold interrupted
  try dsimp only
  exact (.after (copyTorn_chg ..) (.after (requestTorn_chg ..) (.after (stageTorn_chg ..) (.after (ledgerTorn_chg ..)
      (.refl _ _)))))

end Sys2Proof.Laws
end

