-- ==== Sys2Proof/Laws/FrameStart.lean ====
section
/-!
SUPPORT. Laws/FrameStart.lean: which parts of the state the operations of Machine/Start.lean may change.
-/
namespace Sys2Proof.Laws
set_option Elab.async false
open Sys2Proof.Machine

theorem wipeDie_chg (x0 : State) : Chg 134217670 x0 (wipeDie x0) := by
  unfold wipeDie
  refine .after (State_setReg_chg ..) ?_
  exact .upd (.refl _ _) (i1 := mwf_filter _) (i4 := fun _ => ⟨fun _ => rfl, nofun⟩)

theorem resetDie_chg (x0 : State) :
    Chg 134217678 x0 (resetDie x0) := by
  unfold resetDie
  try dsimp only
  exact (.after (wipeDie_chg ..) (.after (interrupted_chg ..) (.refl _ _)))

theorem setStage_chg (x0 : BootStage) (x1 : State) :
    Chg 16777216 x1 (setStage x0 x1) := by
  unfold setStage
  try dsimp only
  exact (.upd (.refl _ _))

theorem lastReset_chg (x0 : ℕ) (x1 : State) :
    Chg 2 x1 (lastReset x0 x1) := by
  unfold lastReset
  try dsimp only
  exact (.after (State_setFld_chg ..) (.refl _ _))

theorem pulsed_chg {m ns : Nat} {f : State → State} {s : State} (h : ∀ t, Chg m t (f t)) (hm : 8 ||| m = m := by
    decide) :
    Chg m s (pulsed ns f s) := by
  have ht : Chg m s s.tick1 := .after (State_tick1_chg ..) (.refl _ _) hm
  unfold pulsed
  exact .ite (.refl _ _) (.ite (h s) (.ite (.after (h _) ht (Nat.or_self m)) ht))

theorem porPin_chg (x0 : State) :
    Chg 134217678 x0 (porPin x0) := by
  unfold porPin
  try dsimp only
  exact (.ite (.refl _ _) (.after (lastReset_chg ..) (.after (setStage_chg ..) (.after (resetDie_chg ..) (.refl _
      _)))))

theorem coldReset_chg (x0 : ColdCause) (x1 : State) :
    Chg 134217678 x1 (coldReset x0 x1) := by
  unfold coldReset
  try dsimp only
  split
  · exact (.after (lastReset_chg ..) (.after (State_setReg_chg ..) (.after (setStage_chg ..) (.after (resetDie_chg
        ..) (.refl _ _)))))
  · exact (.after (pulsed_chg (m := 134217678) (fun _ => (.after (porPin_chg ..) (.refl _ _)))) (.refl _ _))

theorem execColdReset_chg (x0 : ColdCause) (x1 : State) :
    OChg 134217678 x1 (execColdReset x0 x1) := by
  unfold execColdReset
  try dsimp only
  exact (.done (.after (coldReset_chg ..) (.refl _ _)))

theorem porRelease_chg (x0 : BitVec 6) (x1 : BitVec 2) (x2 : State) :
    Chg 16777248 x2 (porRelease x0 x1 x2) := by
  unfold porRelease
  try dsimp only
  refine .ite ?_ ?_
  · exact (.refl _ _)
  · exact (.upd (.refl _ _))

theorem execPorNRelease_chg (x0 : BitVec 6) (x1 : BitVec 2) (x2 : State) :
    OChg 16777248 x2 (execPorNRelease x0 x1 x2) := by
  unfold execPorNRelease
  try dsimp only
  exact (.done (.after (porRelease_chg ..) (.refl _ _)))

theorem powerRemoved_chg (x0 : State) :
    Chg 134217678 x0 (powerRemoved x0) := by
  unfold powerRemoved
  try dsimp only
  exact (.after (State_setReg_chg ..) (.after (setStage_chg ..) (.after (resetDie_chg ..) (.refl _ _))))

theorem execPowerRemoved_chg (x0 : State) :
    OChg 134217678 x0 (execPowerRemoved x0) := by
  unfold execPowerRemoved
  try dsimp only
  exact (.done (.after (powerRemoved_chg ..) (.refl _ _)))

theorem warmReset_chg (x0 : State) :
    Chg 134217678 x0 (warmReset x0) := by
  unfold warmReset
  try dsimp only
  exact (.after (lastReset_chg ..) (.after (setStage_chg ..) (.after (State_setReg_chg ..) (.after (resetDie_chg ..)
      (.refl _ _)))))

theorem resetPin_chg (x0 : State) :
    Chg 134217678 x0 (resetPin x0) := by
  unfold resetPin
  try dsimp only
  split
  · exact (.refl _ _)
  · exact (.refl _ _)
  · exact (.refl _ _)
  · exact (.after (lastReset_chg ..) (.after (setStage_chg ..) (.after (resetDie_chg ..) (.refl _ _))))
  · exact (.after (lastReset_chg ..) (.after (setStage_chg ..) (.after (resetDie_chg ..) (.refl _ _))))
  · exact (.after (warmReset_chg ..) (.refl _ _))

theorem resetPulse_chg (x0 : ℕ) (x1 : State) :
    Chg 134217678 x1 (resetPulse x0 x1) := by
  unfold resetPulse
  try dsimp only
  exact (.after (pulsed_chg (m := 134217678) (fun _ => (.after (resetPin_chg ..) (.refl _ _)))) (.refl _ _))

theorem execResetNAssert_chg (x0 : ℕ) (x1 : State) :
    OChg 134217678 x1 (execResetNAssert x0 x1) := by
  unfold execResetNAssert
  try dsimp only
  exact (.done (.after (resetPulse_chg ..) (.refl _ _)))

theorem recordDone_chg (x0 : State) :
    Chg 67108864 x0 (recordDone x0) := by
  unfold recordDone
  try dsimp only
  exact (.upd (.refl _ _))

theorem execGblWarmReset_chg (x0 : Path) (x1 : Word32) (x2 : Bool) (x3 : State) :
    OChg 134217694 x3 (execGblWarmReset x0 x1 x2 x3) := by
  unfold execGblWarmReset
  try dsimp only
  exact (.run (.ite (.after (regAccess_chg (m := 134217694) (fun _ _ => (.after (warmReset_chg ..) (.after
      (recordDone_chg ..) (.after (writeLedger_chg ..) (.refl _ _)))))) (.refl _ _)) (.refl _ _)))

theorem halt_chg (x0 : State) :
    Chg 134217678 x0 (halt x0) := by
  unfold halt
  try dsimp only
  exact (.after (State_setReg_chg ..) (.after (setStage_chg ..) (.after (resetDie_chg ..) (.refl _ _))))

theorem execRootPllLockLoss_chg (x0 : State) :
    OChg 134217694 x0 (execRootPllLockLoss x0) := by
  unfold execRootPllLockLoss
  try dsimp only
  exact (.run (.after (halt_chg ..) (.after (raise_chg ..) (.refl _ _))))

theorem atStage_chg {m : Nat} {st : BootStage} {f : State → State} {s : State} (h : ∀ t, Chg m t (f t)) :
    Chg m s (atStage st f s) := by
  unfold atStage
  exact .ite (h s) (.refl _ _)

theorem execBootFuseDone_chg (x0 : Bool) (x1 : State) :
    OChg 134217678 x1 (execBootFuseDone x0 x1) := by
  unfold execBootFuseDone
  try dsimp only
  exact (.done (.after (atStage_chg (m := 134217678) (fun _ => (.ite (.after (setStage_chg ..) (.refl _ _)) (.after
      (halt_chg ..) (.refl _ _))))) (.refl _ _)))

theorem analogDone_chg (x0 : Option (Byte × BitVec 16)) (x1 : State) :
    Chg 134217678 x1 (analogDone x0 x1) := by
  unfold analogDone
  try dsimp only
  split
  · exact (.after (setStage_chg ..) (.refl _ _))
  · refine .after (halt_chg ..) ?_
    refine .upd ?_
    exact (.after (State_setFld_chg ..) (.refl _ _))

theorem execBootAnalogDone_chg (x0 : Option (Byte × BitVec 16)) (x1 : State) :
    OChg 134217678 x1 (execBootAnalogDone x0 x1) := by
  unfold execBootAnalogDone
  try dsimp only
  exact (.done (.after (atStage_chg (m := 134217678) (fun _ => (.after (analogDone_chg ..) (.refl _ _)))) (.refl _
      _)))

theorem residentDone_chg (x0 : State) :
    Chg 18874522 x0 (residentDone x0) := by
  unfold residentDone
  try dsimp only
  refine .after (setStage_chg ..) ?_
  refine .upd ?_
  refine .ite ?_ ?_
  · exact (.upd (.refl _ _))
  · refine .ite ?_ ?_
    · refine .upd ?_
      refine .after (loadWhole_chg ..) ?_
      exact (.upd (.refl _ _))
    · refine .after (raise_chg ..) ?_
      refine .after (glvCause_chg ..) ?_
      refine .after (loadWhole_chg ..) ?_
      exact (.upd (.refl _ _))

theorem execBootResidentDone_chg (x0 : State) :
    OChg 18874522 x0 (execBootResidentDone x0) := by
  unfold execBootResidentDone
  try dsimp only
  exact (.done (.after (atStage_chg (m := 18874522) (fun _ => (.after (residentDone_chg ..) (.refl _ _)))) (.refl _
      _)))

theorem ledgerBase_chg (x0 : State) :
    Chg 67108864 x0 (ledgerBase x0) := by
  unfold ledgerBase
  try dsimp only
  split
  · exact (.refl _ _)
  · exact (.upd (.refl _ _))

theorem countReset_chg (x0 : State) :
    Chg 67109010 x0 (countReset x0) := by
  unfold countReset
  try dsimp only
  exact (.ite (.after (ledAdd_chg ..) (.refl _ _)) (.refl _ _))

theorem firstReadings_chg (x0 : State) :
    Chg 10 x0 (firstReadings x0) := by
  unfold firstReadings
  try dsimp only
  exact (.after (State_setReg_chg ..) (.after (State_setReg_chg ..) (.after (State_tick1_chg ..) (.refl _ _))))

theorem blowFuses_chg (x0 : List Byte) (x1 : State) :
    Chg 2 x1 (blowFuses x0 x1) := by
  unfold blowFuses
  try dsimp only
  exact (.after (State_setFld_chg ..) (.after (State_setFld_chg ..) (.refl _ _)))

theorem keepResident_chg (x0 : Option FlashSlot) (x1 : List Byte) (x2 : State) :
    Chg 16777216 x2 (keepResident x0 x1 x2) := by
  unfold keepResident
  try dsimp only
  split
  · exact (.upd (.refl _ _))
  · exact (.refl _ _)

theorem finishConfirm_chg (x0 : State) :
    Chg 16777218 x0 (finishConfirm x0) := by
  unfold finishConfirm
  try dsimp only
  split
  · exact (.refl _ _)
  · refine .upd ?_
    exact (.after (keepResident_chg ..) (.after (blowFuses_chg ..) (.refl _ _)))

theorem journalDone_chg (x0 : State) :
    Chg 83935386 x0 (journalDone x0) := by
  unfold journalDone
  try dsimp only
  refine .upd ?_
  exact (.ite (.after (finishConfirm_chg ..) (.after (State_setBit_chg ..) (.after (State_setBit_chg ..) (.after
      (firstReadings_chg ..) (.after (countReset_chg ..) (.after (ledgerBase_chg ..) (.refl _ _))))))) (.after
      (State_setBit_chg ..) (.after (State_setBit_chg ..) (.after (firstReadings_chg ..) (.after (countReset_chg ..)
      (.after (ledgerBase_chg ..) (.refl _ _)))))))

theorem execBootJournalDone_chg (x0 : Bool) (x1 : State) :
    OChg 134217694 x1 (execBootJournalDone x0 x1) := by
  unfold execBootJournalDone
  try dsimp only
  exact (.done (.after (atStage_chg (m := 134217694) (fun _ => (.ite (.after (journalDone_chg ..) (.refl _ _))
      (.after (halt_chg ..) (.refl _ _))))) (.refl _ _)))

theorem setTrial_chg (x0 : Trial) (x1 : State) :
    Chg 16777216 x1 (setTrial x0 x1) := by
  unfold setTrial
  try dsimp only
  exact (.upd (.refl _ _))

theorem beginSlots_chg (x0 : State) :
    Chg 16777216 x0 (beginSlots x0) := by
  unfold beginSlots
  try dsimp only
  refine .after (setTrial_chg ..) ?_
  exact (.upd (.refl _ _))

theorem copyNone_chg (x0 : State) :
    Chg 16777216 x0 (copyNone x0) := by
  unfold copyNone
  try dsimp only
  exact (.upd (.refl _ _))

theorem copyStaged_chg (x0 : FlashSlot) (x1 : State) :
    Chg 16777216 x1 (copyStaged x0 x1) := by
  unfold copyStaged
  try dsimp only
  exact (.after (copyNone_chg ..) (.after (copyUpTo_chg ..) (.refl _ _)))

theorem copyDone_chg (x0 : Bool) (x1 : State) :
    Chg 16777218 x1 (copyDone x0 x1) := by
  unfold copyDone
  try dsimp only
  split
  · refine .ite ?_ ?_
    · exact (.after (beginSlots_chg ..) (.after (setTrial_chg ..) (.after (State_setBit_chg ..) (.after
          (copyStaged_chg ..) (.refl _ _)))))
    · refine .upd ?_
      exact (.after (beginSlots_chg ..) (.after (setTrial_chg ..) (.after (copyNone_chg ..) (.refl _ _))))
  · exact (.after (beginSlots_chg ..) (.refl _ _))
  · exact (.after (beginSlots_chg ..) (.refl _ _))

theorem execBootCopyDone_chg (x0 : Bool) (x1 : State) :
    OChg 16777218 x1 (execBootCopyDone x0 x1) := by
  unfold execBootCopyDone
  try dsimp only
  exact (.done (.after (atStage_chg (m := 16777218) (fun _ => (.after (copyDone_chg ..) (.refl _ _)))) (.refl _ _)))

theorem bootRecovery_chg (x0 : State) :
    Chg 83886226 x0 (bootRecovery x0) := by
  unfold bootRecovery
  try dsimp only
  refine .upd ?_
  exact (.after (ledAdd_chg ..) (.after (raise_chg ..) (.after (State_setBit_chg ..) (.refl _ _))))

theorem failSlot_chg (x0 : ℕ) (x1 : State) :
    Chg 83886226 x1 (failSlot x0 x1) := by
  unfold failSlot
  try dsimp only
  refine .ite ?_ ?_
  · refine .after (bootRecovery_chg ..) ?_
    refine .upd ?_
    exact (.ite (.after (State_setFld_chg ..) (.refl _ _)) (.refl _ _))
  · refine .upd ?_
    exact (.ite (.after (State_setFld_chg ..) (.refl _ _)) (.refl _ _))

theorem takeSlot_chg (x0 : FlashSlot) (x1 : State) :
    Chg 83886226 x1 (takeSlot x0 x1) := by
  unfold takeSlot
  try dsimp only
  refine .upd ?_
  exact (.after (ledAdd_chg ..) (.ite (.after (State_setBit_chg ..) (.refl _ _)) (.after (ledAdd_chg ..) (.after
      (raise_chg ..) (.after (State_setBit_chg ..) (.after (State_setBit_chg ..) (.refl _ _)))))))

theorem bootHeader_chg (x0 : State) :
    Chg 83886226 x0 (bootHeader x0) := by
  unfold bootHeader
  try dsimp only
  split
  · exact (.after (bootRecovery_chg ..) (.refl _ _))
  · refine .ite ?_ ?_
    · exact (.after (failSlot_chg ..) (.refl _ _))
    · exact (.upd (.refl _ _))

theorem execBootHeaderDone_chg (x0 : State) :
    OChg 83886226 x0 (execBootHeaderDone x0) := by
  unfold execBootHeaderDone
  try dsimp only
  exact (.done (.after (atStage_chg (m := 83886226) (fun _ => (.after (bootHeader_chg ..) (.refl _ _)))) (.refl _ _)))

theorem bootItems_chg (x0 : State) :
    Chg 83886226 x0 (bootItems x0) := by
  unfold bootItems
  try dsimp only
  split
  · exact (.after (bootRecovery_chg ..) (.refl _ _))
  · exact (.ite (.after (failSlot_chg ..) (.refl _ _)) (.after (takeSlot_chg ..) (.refl _ _)))

theorem execBootItemsDone_chg (x0 : State) :
    OChg 83886226 x0 (execBootItemsDone x0) := by
  unfold execBootItemsDone
  try dsimp only
  exact (.done (.after (atStage_chg (m := 83886226) (fun _ => (.after (bootItems_chg ..) (.refl _ _)))) (.refl _ _)))

theorem settingsStart_chg (x0 : Bool) (x1 : Bool) (x2 : State) :
    Chg 16777216 x2 (settingsStart x0 x1 x2) := by
  unfold settingsStart
  try dsimp only
  exact (.upd (.refl _ _))

theorem loadPackage_chg (x0 : FlashSlot) (x1 : State) :
    Chg 19398874 x1 (loadPackage x0 x1) := by
  unfold loadPackage
  try dsimp only
  refine .after (settingsStart_chg ..) ?_
  refine .each ?_ (fun _ _ => ?_)
  · refine .after (loadKeys_chg ..) ?_
    refine .after (platRegs_chg ..) ?_
    exact (.upd (.refl _ _))
  · exact (.after (loadWhole_chg ..) (.refl _ _))

theorem claimStage_chg (x0 : State) :
    Chg 127307666 x0 (claimStage x0) := by
  unfold claimStage
  try dsimp only
  exact (.after (allPorts_chg ..) (.after (clearClaims_chg ..) (.after (openWindow_chg ..) (.after (setStage_chg ..)
      (.refl _ _)))))

theorem controllersDone_chg (x0 : State) :
    Chg 129929178 x0 (controllersDone x0) := by
  unfold controllersDone
  try dsimp only
  refine .after (claimStage_chg ..) ?_
  refine .after (timeMasterFix_chg ..) ?_
  refine .after (waveFresh_chg ..) ?_
  split
  · exact (.after (loadPackage_chg ..) (.refl _ _))
  · refine .after (settingsStart_chg ..) ?_
    refine .after (rolesReset_chg ..) ?_
    exact (.upd (.refl _ _))

theorem execBootControllersDone_chg (x0 : Bool) (x1 : State) :
    OChg 134217694 x1 (execBootControllersDone x0 x1) := by
  unfold execBootControllersDone
  try dsimp only
  exact (.done (.after (atStage_chg (m := 134217694) (fun _ => (.ite (.after (controllersDone_chg ..) (.refl _ _))
      (.after (halt_chg ..) (.refl _ _))))) (.refl _ _)))

theorem bootUp_chg (x0 : State) :
    Chg 16777362 x0 (bootUp x0) := by
  unfold bootUp
  try dsimp only
  refine .after (raise_chg ..) ?_
  refine .after (setStage_chg ..) ?_
  split
  · exact (.after (State_setReg_chg ..) (.refl _ _))
  · exact (.refl _ _)

theorem execBootUp_chg (x0 : State) :
    OChg 16777362 x0 (execBootUp x0) := by
  unfold execBootUp
  try dsimp only
  exact (.done (.after (atStage_chg (m := 16777362) (fun _ => (.after (bootUp_chg ..) (.refl _ _)))) (.refl _ _)))

end Sys2Proof.Laws
end

