-- ==== Sys2Proof/Laws/FrameCloche.lean ====
section
/-!
SUPPORT. Laws/FrameCloche.lean: which parts of the state the operations of Machine/Cloche.lean may change.
-/
namespace Sys2Proof.Laws
set_option Elab.async false
open Sys2Proof.Machine

theorem State_setClocheBox_chg (x0 : State) (x1 : Path) (x2 : Mbox) :
    Chg 16777216 x0 (State.setClocheBox x0 x1 x2) := by
  unfold State.setClocheBox
  try dsimp only
  split
  · exact (.upd (.refl _ _))
  · exact (.upd (.refl _ _))
  · exact (.refl _ _)
  · exact (.refl _ _)

theorem clocheEnd_chg (x0 : ℕ) (x1 : List Byte) (x2 : State) :
    Chg 16777216 x2 (clocheEnd x0 x1 x2) := by
  unfold clocheEnd
  try dsimp only
  split
  · exact (.refl _ _)
  · refine .upd ?_
    exact (.after (State_setClocheBox_chg ..) (.refl _ _))

theorem clocheUnknown_chg (x0 : ℕ) (x1 : State) :
    Chg 16777216 x1 (clocheUnknown x0 x1) := by
  induction x0 generalizing x1 with
  | zero =>
    unfold clocheUnknown
    try dsimp only
    exact (.refl _ _)
  | succ n ih =>
    unfold clocheUnknown
    try dsimp only
    split
    · exact (.refl _ _)
    · exact (.ite (.refl _ _) (.after (ih ..) (.after (clocheEnd_chg ..) (.refl _ _))))

theorem clocheSubmit_chg (x0 : Path) (x1 : List Byte) (x2 : State) :
    Chg 16777216 x2 (clocheSubmit x0 x1 x2) := by
  unfold clocheSubmit
  try dsimp only
  refine .ite ?_ ?_
  · exact (.refl _ _)
  · refine .ite ?_ ?_
    · refine .upd ?_
      exact (.after (State_setClocheBox_chg ..) (.refl _ _))
    · refine .after (clocheUnknown_chg ..) ?_
      refine .upd ?_
      exact (.after (State_setClocheBox_chg ..) (.refl _ _))

theorem execClocheMailboxSubmit_chg (x0 : Path) (x1 : List Byte) (x2 : State) :
    OChg 16777216 x2 (execClocheMailboxSubmit x0 x1 x2) := by
  unfold execClocheMailboxSubmit
  try dsimp only
  exact (.run (.after (clocheSubmit_chg ..) (.refl _ _)))

theorem badForm_chg (x0 : ℕ × List Byte × State) (x1 : State) :
    Chg 0 x1 (badForm x0 x1).2.2 := by
  unfold badForm
  try dsimp only
  exact (.refl _ _)

theorem clocheOp_chg {m : Nat} {op lo hi : Nat} {f : List Byte → State → Nat × List Byte × State} {s : State}
    (h : ∀ p t, Chg m t (f p t).2.2) (hm : 16777216 ||| m = m := by decide) : Chg m s (clocheOp op lo hi f s) := by
  unfold clocheOp
  split
  · exact .refl _ _
  · refine .ite (.refl _ _) (.after (clocheUnknown_chg ..) (.after (clocheEnd_chg ..) ?_ hm) hm)
    split
    · exact .refl _ _
    · split
      · exact .refl _ _
      · exact h _ s

theorem execStageWrite_chg (x0 : State) :
    OChg 16777216 x0 (execStageWrite x0) := by
  unfold execStageWrite
  try dsimp only
  exact (.run (.after (clocheOp_chg (m := 16777216) (fun _ _ => (.after (stageWrite_chg ..) (.refl _ _)))) (.refl _
      _)))

theorem execStageStatus_chg (x0 : State) :
    OChg 16777216 x0 (execStageStatus x0) := by
  unfold execStageStatus
  try dsimp only
  exact (.run (.after (clocheOp_chg (m := 16777216) (fun _ _ => (.refl _ _))) (.refl _ _)))

theorem flashWrite_chg (x0 : List Byte) (x1 : State) :
    Chg 16777216 x1 (flashWrite x0 x1).2.2 := by
  unfold flashWrite
  try dsimp only
  split
  · exact (.refl _ _)
  · refine .answer ?_ ?_
    · exact (.upd (.refl _ _))
    · exact (.refl _ _)

theorem execFlashWrite_chg (x0 : State) :
    OChg 16777216 x0 (execFlashWrite x0) := by
  unfold execFlashWrite
  try dsimp only
  exact (.run (.after (clocheOp_chg (m := 16777216) (fun _ _ => (.after (flashWrite_chg ..) (.refl _ _)))) (.refl _
      _)))

theorem flashRead_chg (x0 : List Byte) (x1 : State) :
    Chg 0 x1 (flashRead x0 x1).2.2 := by
  unfold flashRead
  try dsimp only
  split
  · exact (.refl _ _)
  · split
    · exact (.refl _ _)
    · exact (.refl _ _)

theorem execFlashRead_chg (x0 : State) :
    OChg 16777216 x0 (execFlashRead x0) := by
  unfold execFlashRead
  try dsimp only
  exact (.run (.after (clocheOp_chg (m := 16777216) (fun _ _ => (.after (flashRead_chg ..) (.refl _ _)))) (.refl _
      _)))

theorem handoverFail_chg (x0 : State) :
    Chg 16777362 x0 (handoverFail x0) := by
  unfold handoverFail
  try dsimp only
  refine .ite ?_ ?_
  · refine .after (raise_chg ..) ?_
    exact (.upd (.refl _ _))
  · exact (.refl _ _)

theorem takeOver_chg (x0 : State) :
    Chg 16777426 x0 (takeOver x0) := by
  unfold takeOver
  try dsimp only
  refine .ite ?_ ?_
  · exact (.refl _ _)
  · refine .ite ?_ ?_
    · exact (.after (handoverFail_chg ..) (.refl _ _))
    · refine .after (raise_chg ..) ?_
      refine .after (settingsStart_chg ..) ?_
      exact (.upd (.refl _ _))

theorem execHandoverStandbyReady_chg (x0 : State) :
    OChg 16777426 x0 (execHandoverStandbyReady x0) := by
  unfold execHandoverStandbyReady
  try dsimp only
  exact (.run (.after (takeOver_chg ..) (.refl _ _)))

theorem execHandoverTimeout_chg (x0 : State) :
    OChg 16777362 x0 (execHandoverTimeout x0) := by
  unfold execHandoverTimeout
  try dsimp only
  exact (.run (.after (handoverFail_chg ..) (.refl _ _)))

theorem execStandbyCheckFail_chg (x0 : State) :
    OChg 16777362 x0 (execStandbyCheckFail x0) := by
  unfold execStandbyCheckFail
  try dsimp only
  exact (.run (.after (handoverFail_chg ..) (.refl _ _)))

end Sys2Proof.Laws
end

