-- ==== Sys2Proof/Laws/FrameDspCommands.lean ====
section
/-!
SUPPORT. Laws/FrameDspCommands.lean: which parts of the state the operations of Machine/DspCommands.lean may change.
-/
namespace Sys2Proof.Laws
set_option Elab.async false
open Sys2Proof.Machine

theorem dspTick_chg (x0 : State) :
    Chg 262290 x0 (dspTick x0) := by
  unfold dspTick
  try dsimp only
  refine .ite ?_ ?_
  · exact (.refl _ _)
  · refine .each ?_ (fun _ _ => ?_)
    · exact (.upd (.refl _ _))
    · exact (.after (releaseMsg_chg ..) (.refl _ _))

theorem execDspTick_chg (x0 : State) :
    OChg 262290 x0 (execDspTick x0) := by
  unfold execDspTick
  try dsimp only
  exact (.run (.after (dspTick_chg ..) (.refl _ _)))

theorem countRecords_chg (x0 : ℕ) (x1 : State) :
    Chg 524434 x1 (countRecords x0 x1) := by
  unfold countRecords
  try dsimp only
  exact (.each (.refl _ _) (fun _ _ => (.ite (.after (grantChanged_chg ..) (.after (setGrant_chg ..) (.refl _ _)))
      (.after (setGrant_chg ..) (.refl _ _)))))

theorem writeRecord_chg (x0 : ℕ) (x1 : Msg) (x2 : Bool) (x3 : State) :
    Chg 524434 x3 (writeRecord x0 x1 x2 x3) := by
  unfold writeRecord
  try dsimp only
  exact (.after (dspCount_chg ..) (.after (State_setReg_chg ..) (.after (State_emit_chg ..) (.after (countRecords_chg
      ..) (.ite (.after (raise_chg ..) (.after (causeSet_chg ..) (.refl _ _))) (.refl _ _))))))

theorem messageDelivery_chg (x0 : ℕ) (x1 : State) :
    Chg 786578 x1 (messageDelivery x0 x1) := by
  unfold messageDelivery
  try dsimp only
  refine .ite ?_ ?_
  · exact (.refl _ _)
  · split
    · exact (.after (updMsg_chg ..) (.after (writeRecord_chg ..) (.refl _ _)))
    · split
      · exact (.refl _ _)
      · exact (.ite (.after (dspCause_chg ..) (.after (dspCount_chg ..) (.after (dspCount_chg ..) (.after (updMsg_chg
            ..) (.after (writeRecord_chg ..) (.refl _ _)))))) (.after (dspCount_chg ..) (.after (dspCount_chg ..)
            (.after (updMsg_chg ..) (.after (writeRecord_chg ..) (.refl _ _))))))

theorem execMessageDelivery_chg (x0 : BitVec 4) (x1 : State) :
    OChg 786578 x1 (execMessageDelivery x0 x1) := by
  unfold execMessageDelivery
  try dsimp only
  exact (.run (.after (messageDelivery_chg ..) (.refl _ _)))

theorem countDone_chg (x0 : Msg) (x1 : State) :
    Chg 2 x1 (countDone x0 x1) := by
  unfold countDone
  try dsimp only
  exact (.after (dspCount_chg ..) (.refl _ _))

theorem finishMsg_chg (x0 : Msg) (x1 : State) :
    Chg 262146 x1 (finishMsg x0 x1) := by
  unfold finishMsg
  try dsimp only
  exact (.after (completeMsg_chg ..) (.after (dropMsg_chg ..) (.after (countDone_chg ..) (.refl _ _))))

theorem cmdDrop_chg (x0 : ℕ) (x1 : State) :
    Chg 146 x1 (cmdDrop x0 x1) := by
  unfold cmdDrop
  try dsimp only
  exact (.after (dspCause_chg ..) (.refl _ _))

theorem answerCall_chg (x0 : Msg) (x1 : Word64) (x2 : State) :
    Chg 294914 x2 (answerCall x0 x1 x2) := by
  unfold answerCall
  try dsimp only
  refine .ite ?_ ?_
  · exact (.after (completeMsg_chg ..) (.after (updMsg_chg ..) (.ite (.after (countDone_chg ..) (.refl _ _)) (.after
        (rdataCome_chg ..) (.after (countDone_chg ..) (.refl _ _))))))
  · exact (.after (completeMsg_chg ..) (.after (dropMsg_chg ..) (.ite (.after (countDone_chg ..) (.refl _ _)) (.after
        (rdataCome_chg ..) (.after (countDone_chg ..) (.refl _ _))))))

theorem respond_chg (x0 : ℕ) (x1 : ℕ) (x2 : ℕ) (x3 : Word64) (x4 : State) :
    Chg 295058 x4 (respond x0 x1 x2 x3 x4) := by
  unfold respond
  try dsimp only
  split
  · exact (.ite (.after (finishMsg_chg ..) (.refl _ _)) (.ite (.after (answerCall_chg ..) (.refl _ _)) (.after
        (cmdDrop_chg ..) (.refl _ _))))
  · exact (.after (cmdDrop_chg ..) (.refl _ _))

theorem complete_chg (x0 : ℕ) (x1 : ℕ) (x2 : ℕ) (x3 : State) :
    Chg 262290 x3 (complete x0 x1 x2 x3) := by
  unfold complete
  try dsimp only
  split
  · exact (.ite (.after (finishMsg_chg ..) (.refl _ _)) (.after (cmdDrop_chg ..) (.refl _ _)))
  · exact (.after (cmdDrop_chg ..) (.refl _ _))

theorem post_chg (x0 : ℕ) (x1 : Word64) (x2 : State) :
    Chg 295058 x2 (post x0 x1 x2) := by
  unfold post
  try dsimp only
  refine .ite ?_ ?_
  · exact (.after (cmdDrop_chg ..) (.refl _ _))
  · split
    · exact (.upd (.refl _ _))
    · refine .after (rdataCome_chg ..) ?_
      exact (.upd (.refl _ _))

theorem coreCmd_chg (x0 : ℕ) (x1 : Word32) (x2 : Word64) (x3 : State) :
    Chg 295058 x3 (coreCmd x0 x1 x2 x3) := by
  unfold coreCmd
  try dsimp only
  refine .ite ?_ ?_
  · refine .after (cmdDrop_chg ..) ?_
    exact (.upd (.refl _ _))
  · split
    · refine .after (respond_chg ..) ?_
      exact (.upd (.refl _ _))
    · refine .after (post_chg ..) ?_
      exact (.upd (.refl _ _))
    · refine .after (complete_chg ..) ?_
      exact (.upd (.refl _ _))
    · refine .after (cmdDrop_chg ..) ?_
      exact (.upd (.refl _ _))

theorem execDspRespond_chg (x0 : BitVec 4) (x1 : Word32) (x2 : Word64) (x3 : State) :
    OChg 295058 x3 (execDspRespond x0 x1 x2 x3) := by
  unfold execDspRespond
  try dsimp only
  exact (.run (.ite (.after (coreCmd_chg ..) (.refl _ _)) (.refl _ _)))

theorem execDspPost_chg (x0 : BitVec 4) (x1 : Word32) (x2 : Word64) (x3 : State) :
    OChg 295058 x3 (execDspPost x0 x1 x2 x3) := by
  unfold execDspPost
  try dsimp only
  exact (.run (.ite (.after (coreCmd_chg ..) (.refl _ _)) (.refl _ _)))

theorem execDspComplete_chg (x0 : BitVec 4) (x1 : Word32) (x2 : Word64) (x3 : State) :
    OChg 295058 x3 (execDspComplete x0 x1 x2 x3) := by
  unfold execDspComplete
  try dsimp only
  exact (.run (.ite (.after (coreCmd_chg ..) (.refl _ _)) (.refl _ _)))

theorem execDspCoreRdWrite_chg (x0 : Bool) (x1 : Path) (x2 : BitVec 4) (x3 : Word32) (x4 : State) :
    OChg 146 x4 (execDspCoreRdWrite x0 x1 x2 x3 x4) := by
  unfold execDspCoreRdWrite
  try dsimp only
  exact (.run (.ite (.ite (.after (storeReg_chg ..) (.refl _ _)) (.refl _ _)) (.after (regAccess_chg (m := 146) (fun
      _ _ => (.after (storeReg_chg ..) (.refl _ _)))) (.refl _ _))))

theorem coreEntriesWrite_chg (x0 : ℕ) (x1 : Word32) (x2 : State) :
    Chg 2 x2 (coreEntriesWrite x0 x1 x2) := by
  unfold coreEntriesWrite
  try dsimp only
  exact (.ite (.after (storeReg_chg ..) (.refl _ _)) (.refl _ _))

theorem execDspCoreEntriesWrite_chg (x0 : Path) (x1 : BitVec 4) (x2 : Word32) (x3 : State) :
    OChg 146 x3 (execDspCoreEntriesWrite x0 x1 x2 x3) := by
  unfold execDspCoreEntriesWrite
  try dsimp only
  exact (.run (.after (regAccess_chg (m := 146) (fun _ _ => (.after (coreEntriesWrite_chg ..) (.refl _ _)))) (.refl _
      _)))

theorem chCfgWrite_chg (x0 : ℕ) (x1 : Word32) (x2 : State) :
    Chg 146 x2 (chCfgWrite x0 x1 x2) := by
  unfold chCfgWrite
  try dsimp only
  exact (.ite (.after (dspCause_chg ..) (.refl _ _)) (.after (storeReg_chg ..) (.refl _ _)))

theorem execDspChCfgWrite_chg (x0 : Path) (x1 : BitVec 8) (x2 : Word32) (x3 : State) :
    OChg 146 x3 (execDspChCfgWrite x0 x1 x2 x3) := by
  unfold execDspChCfgWrite
  try dsimp only
  exact (.run (.after (regAccess_chg (m := 146) (fun _ _ => (.after (chCfgWrite_chg ..) (.refl _ _)))) (.refl _ _)))

end Sys2Proof.Laws
end

