-- ==== Sys2Proof/Laws/FrameFabric.lean ====
section
/-!
SUPPORT. Laws/FrameFabric.lean: which parts of the state the operations of Machine/Fabric.lean may change.
-/
namespace Sys2Proof.Laws
set_option Elab.async false
open Sys2Proof.Machine

theorem resetWrite_chg (x0 : Bool) (x1 : Word32) (x2 : State) :
    Chg 134217694 x2 (resetWrite x0 x1 x2) := by
  unfold resetWrite
  try dsimp only
  refine .ite ?_ ?_
  · exact (.after (warmReset_chg ..) (.after (writeLedger_chg ..) (.refl _ _)))
  · refine .ite ?_ ?_
    · exact (.upd (.refl _ _))
    · exact (.refl _ _)

theorem execFabricReset_chg (x0 : Path) (x1 : Word32) (x2 : State) :
    OChg 134217694 x2 (execFabricReset x0 x1 x2) := by
  unfold execFabricReset
  try dsimp only
  exact (.run (.ite (.after (regAccess_chg (m := 134217694) (fun _ _ => (.after (resetWrite_chg ..) (.refl _ _))))
      (.refl _ _)) (.refl _ _)))

theorem fabricRegs_chg (x0 : State) :
    Chg 2 x0 (fabricRegs x0) := by
  unfold fabricRegs
  try dsimp only
  exact (.after (rolesReset_chg ..) (.times (.after (State_setBit_chg ..) (.after (keepRegs_chg ..) (.refl _ _)))
      (fun _ _ => (.after (State_setFld_chg ..) (.refl _ _)))))

theorem fabricPort_chg (x0 : ℕ) (x1 : State) :
    Chg 110530194 x1 (fabricPort x0 x1) := by
  unfold fabricPort
  try dsimp only
  exact (.after (portTo_chg ..) (.after (State_setLane_chg ..) (.ite (.after (lanesLedger_chg ..) (.refl _ _)) (.refl
      _ _))))

theorem fabricDiscard_chg (x0 : State) :
    Chg 2524818 x0 (fabricDiscard x0) := by
  unfold fabricDiscard
  try dsimp only
  refine .after (clearWork_chg ..) ?_
  refine .after (diRelease_chg ..) ?_
  refine .after (dspRewind_chg ..) ?_
  refine .after (discardCycles_chg ..) ?_
  split
  · exact (.after (endDiscarded_chg ..) (.refl _ _))
  · exact (.refl _ _)

theorem fabricBlocks_chg (x0 : State) :
    Chg 114814610 x0 (fabricBlocks x0) := by
  unfold fabricBlocks
  try dsimp only
  refine .times ?_ (fun _ _ => ?_)
  · refine .upd ?_
    exact (.after (fabricRegs_chg ..) (.after (clearCounters_chg ..) (.after (dspClear_chg ..) (.refl _ _))))
  · exact (.after (fabricPort_chg ..) (.refl _ _))

theorem fabricKept_chg (x0 : State) :
    Chg 1170 x0 (fabricKept x0) := by
  unfold fabricKept
  try dsimp only
  refine .after (wrapCheck_chg ..) ?_
  refine .after (setPause_chg ..) ?_
  exact (.upd (.refl _ _))

theorem fabricImage_chg (x0 : Bool) (x1 : State) :
    Chg 117423774 x1 (fabricImage x0 x1) := by
  unfold fabricImage
  try dsimp only
  refine .ite ?_ ?_
  · refine .after (raise_chg ..) ?_
    refine .upd ?_
    exact (.after (discardImage_chg ..) (.refl _ _))
  · exact (.ite (.after (throttlePoint_chg ..) (.after (reopen_chg ..) (.after (fabricKept_chg ..) (.refl _ _))))
        (.refl _ _))

theorem atFabricReset_chg (x0 : State) :
    Chg 116911762 x0 (atFabricReset x0) := by
  unfold atFabricReset
  try dsimp only
  exact (.after (fabricBlocks_chg ..) (.after (fabricDiscard_chg ..) (.after (drainQueues_chg ..) (.refl _ _))))

theorem fabricReport_chg (x0 : Bool) (x1 : State) :
    Chg 50332818 x1 (fabricReport x0 x1) := by
  unfold fabricReport
  try dsimp only
  refine .after (raise_chg ..) ?_
  refine .after (lastReset_chg ..) ?_
  refine .upd ?_
  exact (.ite (.after (applyEnd_chg ..) (.refl _ _)) (.refl _ _))

theorem fabricDone_chg (x0 : State) :
    Chg 134217374 x0 (fabricDone x0) := by
  unfold fabricDone
  try dsimp only
  exact (.ite (.refl _ _) (.after (fabricReport_chg ..) (.after (fabricImage_chg ..) (.after (atFabricReset_chg ..)
      (.refl _ _)))))

theorem execFabricResetDone_chg (x0 : State) :
    OChg 134217374 x0 (execFabricResetDone x0) := by
  unfold execFabricResetDone
  try dsimp only
  exact (.run (.after (fabricDone_chg ..) (.refl _ _)))

theorem lksBlockReset_chg (x0 : State) :
    Chg 8388754 x0 (lksBlockReset x0) := by
  unfold lksBlockReset
  try dsimp only
  refine .after (lksPressure_chg ..) ?_
  refine .upd ?_
  exact (.after (lksCnt_chg ..) (.after (State_setBit_chg ..) (.refl _ _)))

theorem astBlockReset_chg (x0 : State) :
    Chg 4194306 x0 (astBlockReset x0) := by
  unfold astBlockReset
  try dsimp only
  refine .upd ?_
  exact (.times (.times (.after (keepRegs_chg ..) (.refl _ _)) (fun _ _ => (.after (State_setReg_chg ..) (.refl _
      _)))) (fun _ _ => (.after (State_setReg64_chg ..) (.refl _ _))))

theorem timBlockReset_chg (x0 : State) :
    Chg 1048578 x0 (timBlockReset x0) := by
  unfold timBlockReset
  try dsimp only
  exact (.times (.after (timeRestart_chg ..) (.refl _ _)) (fun _ _ => (.after (clearMpd_chg ..) (.refl _ _))))

theorem glvBlockReset_chg (x0 : State) :
    Chg 2097160 x0 (glvBlockReset x0) := by
  unfold glvBlockReset
  try dsimp only
  exact (.after (emptyRegions_chg ..) (.refl _ _))

theorem blockResetOf_chg (x0 : Bool) (x1 : ℕ) (x2 : State) :
    Chg 15990938 x2 (blockResetOf x0 x1 x2).2 := by
  unfold blockResetOf
  try dsimp only
  refine .ite2 ?_ ?_
  · exact (.mk2 (.refl _ _))
  · refine .ite2 ?_ ?_
    · exact (.mk2 (.after (lksBlockReset_chg ..) (.refl _ _)))
    · refine .ite2 ?_ ?_
      · refine .ite2 ?_ ?_
        · exact (.mk2 (.refl _ _))
        · exact (.mk2 (.after (astBlockReset_chg ..) (.refl _ _)))
      · refine .ite2 ?_ ?_
        · exact (.mk2 (.after (timBlockReset_chg ..) (.refl _ _)))
        · refine .ite2 ?_ ?_
          · refine .ite2 ?_ ?_
            · exact (.mk2 (.after (dspClear_chg ..) (.refl _ _)))
            · exact (.mk2 (.refl _ _))
          · refine .ite2 ?_ ?_
            · refine .ite2 ?_ ?_
              · exact (.mk2 (.refl _ _))
              · exact (.mk2 (.after (glvBlockReset_chg ..) (.refl _ _)))
            · exact (.mk2 (.refl _ _))

theorem blockResetWrite_chg (x0 : Bool) (x1 : Word32) (x2 : State) :
    Chg 15990938 x2 (blockResetWrite x0 x1 x2) := by
  unfold blockResetWrite
  try dsimp only
  exact (.ite (.after (State_setFld_chg ..) (.refl _ _)) (.after (raise_chg ..) (.after (State_setBit_chg ..) (.after
      (State_setFld_chg ..) (.after (blockResetOf_chg ..) (.after (State_setFld_chg ..) (.refl _ _)))))))

theorem execBlockReset_chg (x0 : OpWrite) (x1 : Word32) (x2 : State) :
    OChg 15990938 x2 (execBlockReset x0 x1 x2) := by
  unfold execBlockReset
  try dsimp only
  exact (.run (.ite (.after (regAccess_chg (m := 15990938) (fun _ _ => (.after (blockResetWrite_chg ..) (.refl _
      _)))) (.refl _ _)) (.refl _ _)))

end Sys2Proof.Laws
end

