-- ==== Sys2Proof/Laws/FrameWaveCommands.lean ====
section
/-!
SUPPORT. Laws/FrameWaveCommands.lean: which parts of the state the operations of Machine/WaveCommands.lean may change.
-/
namespace Sys2Proof.Laws
set_option Elab.async false
open Sys2Proof.Machine

theorem waveOnLane_chg (x0 : BitVec 4) (x1 : Word64) (x2 : State) :
    Chg 101093010 x2 (waveOnLane x0 x1 x2) := by
  unfold waveOnLane
  try dsimp only
  exact (.ite (.refl _ _) (.ite (.ite (.after (forward_chg ..) (.refl _ _)) (.refl _ _)) (.ite (.after (applyWave_chg
      ..) (.after (forward_chg ..) (.refl _ _))) (.after (protocolError_chg ..) (.refl _ _)))))

theorem waveInside_chg (x0 : Word64) (x1 : State) :
    Chg 116887198 x1 (waveInside x0 x1) := by
  unfold waveInside
  try dsimp only
  exact (.ite (.after (clocksUntil_getD_chg ..) (.refl _ _)) (.refl _ _))

theorem waveReceive_chg (x0 : ℕ) (x1 : WavePort) (x2 : Word64) (x3 : State) :
    Chg 116887198 x3 (waveReceive x0 x1 x2 x3) := by
  unfold waveReceive
  try dsimp only
  refine .ite ?_ ?_
  · exact (.refl _ _)
  · split
    · exact (.after (laneGives_chg (m := 101093010) (fun _ => (.after (waveOnLane_chg ..) (.refl _ _)))) (.refl _ _))
    · exact (.after (waveInside_chg ..) (.refl _ _))

theorem execReadyReceive_chg (x0 : WavePort) (x1 : Word64) (x2 : State) :
    OChg 116887198 x2 (execReadyReceive x0 x1 x2) := by
  unfold execReadyReceive
  try dsimp only
  exact (.run (.after (waveReceive_chg ..) (.refl _ _)))

theorem execCommitReceive_chg (x0 : WavePort) (x1 : Word64) (x2 : State) :
    OChg 116887198 x2 (execCommitReceive x0 x1 x2) := by
  unfold execCommitReceive
  try dsimp only
  exact (.run (.after (waveReceive_chg ..) (.refl _ _)))

theorem execSquashReqReceive_chg (x0 : WavePort) (x1 : Word64) (x2 : State) :
    OChg 116887198 x2 (execSquashReqReceive x0 x1 x2) := by
  unfold execSquashReqReceive
  try dsimp only
  exact (.run (.after (waveReceive_chg ..) (.refl _ _)))

theorem execSquashRelayReceive_chg (x0 : WavePort) (x1 : Word64) (x2 : State) :
    OChg 116887198 x2 (execSquashRelayReceive x0 x1 x2) := by
  unfold execSquashRelayReceive
  try dsimp only
  exact (.run (.after (waveReceive_chg ..) (.refl _ _)))

theorem waveTimeout_chg (x0 : State) :
    Chg 2194 x0 (waveTimeout x0) := by
  unfold waveTimeout
  try dsimp only
  refine .ite ?_ ?_
  · refine .after (raise_chg ..) ?_
    exact (.upd (.refl _ _))
  · exact (.refl _ _)

theorem execWaveTimeout_chg (x0 : State) :
    OChg 2194 x0 (execWaveTimeout x0) := by
  unfold execWaveTimeout
  try dsimp only
  exact (.run (.after (waveTimeout_chg ..) (.refl _ _)))

end Sys2Proof.Laws
end

