-- ==== Sys2Proof/Laws/FrameRegRead.lean ====
section
/-!
SUPPORT. Laws/FrameRegRead.lean: which parts of the state the operations of Machine/RegRead.lean may change.
-/
namespace Sys2Proof.Laws
set_option Elab.async false
open Sys2Proof.Machine

theorem readLatch_chg (x0 : ℕ) (x1 : State) :
    Chg 2 x1 (readLatch x0 x1) := by
  unfold readLatch
  try dsimp only
  exact (.ite (.after (State_setReg_chg ..) (.after (State_setReg_chg ..) (.after (State_setReg_chg ..) (.after
      (State_setReg_chg ..) (.refl _ _))))) (.ite (.after (State_setReg_chg ..) (.after (State_setReg_chg ..) (.refl
      _ _))) (.refl _ _)))

theorem barRead_chg (x0 : Path) (x1 : ℕ) (x2 : State) :
    Chg 146 x2 (barRead x0 x1 x2).2 := by
  unfold barRead
  try dsimp only
  split
  · exact (.after (unmapped_chg ..) (.refl _ _))
  · exact (.after (readLatch_chg ..) (.refl _ _))

end Sys2Proof.Laws
end

