-- ==== Sys2Proof/Laws/FrameRegisters.lean ====
section
/-!
SUPPORT. Laws/FrameRegisters.lean: which parts of the state the operations of Machine/Registers.lean may change.
-/
namespace Sys2Proof.Laws
set_option Elab.async false
open Sys2Proof.Machine

theorem snapStore_chg (x0 : Path) (x1 : Word32) (x2 : State) :
    Chg 128 x2 (snapStore x0 x1 x2) := by
  unfold snapStore
  try dsimp only
  exact (.ite (.after (State_setSnap_chg ..) (.refl _ _)) (.after (State_setSnap_chg ..) (.refl _ _)))

theorem snapWrite_chg (x0 : Path) (x1 : Word32) (x2 : State) :
    Chg 128 x2 (snapWrite x0 x1 x2) := by
  unfold snapWrite
  try dsimp only
  exact (.after (snapStore_chg ..) (.refl _ _))

theorem execSnapReq_chg (x0 : Path) (x1 : BitVec 5) (x2 : State) :
    OChg 146 x2 (execSnapReq x0 x1 x2) := by
  unfold execSnapReq
  try dsimp only
  exact (.run (.after (regAccess_chg (m := 146) (fun _ _ => (.after (snapWrite_chg ..) (.refl _ _)))) (.refl _ _)))

theorem execSnapRel_chg (x0 : Path) (x1 : State) :
    OChg 146 x1 (execSnapRel x0 x1) := by
  unfold execSnapRel
  try dsimp only
  exact (.run (.after (regAccess_chg (m := 146) (fun _ _ => (.after (snapWrite_chg ..) (.refl _ _)))) (.refl _ _)))

theorem linkSelWrite_chg (x0 : Word32) (x1 : State) :
    Chg 65538 x1 (linkSelWrite x0 x1) := by
  unfold linkSelWrite
  try dsimp only
  refine .fold ?_ (fun _ _ => ?_)
  · refine .upd ?_
    exact (.ite (.after (State_setFld_chg ..) (.after (State_setFld_chg ..) (.refl _ _))) (.after (State_setFld_chg
        ..) (.refl _ _)))
  · exact (.after (State_setReg_chg ..) (.refl _ _))

theorem ageWrite_chg (x0 : Word32) (x1 : State) :
    Chg 65682 x1 (ageWrite x0 x1) := by
  unfold ageWrite
  try dsimp only
  exact (.after (storeReg_chg ..) (.after (agedFold_chg ..) (.refl _ _)))

theorem effectLow_chg (x0 : Path) (x1 : ℕ) (x2 : Word32) (x3 : State) :
    Chg 134217694 x3 (effectLow x0 x1 x2 x3) := by
  unfold effectLow
  try dsimp only
  refine .ite ?_ ?_
  · exact (.after (snapWrite_chg ..) (.refl _ _))
  · refine .ite ?_ ?_
    · exact (.after (ownClaimWrite_chg ..) (.refl _ _))
    · refine .ite ?_ ?_
      · exact (.after (ownBeatWrite_chg ..) (.refl _ _))
      · refine .ite ?_ ?_
        · exact (.after (resetWrite_chg ..) (.refl _ _))
        · refine .ite ?_ ?_
          · exact (.after (blockResetWrite_chg ..) (.refl _ _))
          · refine .ite ?_ ?_
            · exact (.after (maskWrite_chg ..) (.refl _ _))
            · exact (.ite (.after (schCtrlWrite_chg ..) (.refl _ _)) (.ite (.after (applyGo_chg ..) (.refl _ _))
                  (.ite (.after (ckptCtrlWrite_chg ..) (.refl _ _)) (.ite (.after (rewindWrite_chg ..) (.refl _ _))
                  (.ite (.after (loadCtrlWrite_chg ..) (.refl _ _)) (.after (storeReg_chg ..) (.refl _ _)))))))

theorem effectMid_chg (x0 : ℕ) (x1 : Word32) (x2 : State) :
    Chg 110595738 x2 (effectMid x0 x1 x2) := by
  unfold effectMid
  try dsimp only
  refine .ite ?_ ?_
  · exact (.after (linkSelWrite_chg ..) (.refl _ _))
  · refine .ite ?_ ?_
    · exact (.after (ageWrite_chg ..) (.refl _ _))
    · refine .ite ?_ ?_
      · exact (.after (lnkCtrlWrite_chg ..) (.refl _ _))
      · refine .ite ?_ ?_
        · exact (.after (timCtrlWrite_chg ..) (.refl _ _))
        · exact (.ite (.after (timCfgWrite_chg ..) (.refl _ _)) (.ite (.after (timSetWrite_chg ..) (.refl _ _)) (.ite
              (.after (bankPwrWrite_chg ..) (.refl _ _)) (.ite (.after (marchCtrlWrite_chg ..) (.refl _ _)) (.ite
              (.after (tdcEnWrite_chg ..) (.refl _ _)) (.after (storeReg_chg ..) (.refl _ _)))))))

theorem effectHigh_chg (x0 : ℕ) (x1 : Word32) (x2 : State) :
    Chg 113413266 x2 (effectHigh x0 x1 x2) := by
  unfold effectHigh
  try dsimp only
  refine .ite ?_ ?_
  · exact (.after (astCtrl_chg ..) (.refl _ _))
  · refine .ite ?_ ?_
    · exact (.after (astShadowWrite_chg ..) (.refl _ _))
    · refine .ite ?_ ?_
      · exact (.after (astShadowedWrite_chg ..) (.refl _ _))
      · refine .ite ?_ ?_
        · exact (.after (lksCtrlWrite_chg ..) (.refl _ _))
        · refine .ite ?_ ?_
          · exact (.after (lksPressure_chg ..) (.after (storeReg_chg ..) (.refl _ _)))
          · refine .ite ?_ ?_
            · exact (.after (lksSinkWrite_chg ..) (.refl _ _))
            · refine .ite ?_ ?_
              · exact (.after (chCfgWrite_chg ..) (.refl _ _))
              · refine .ite ?_ ?_
                · exact (.after (coreEntriesWrite_chg ..) (.refl _ _))
                · exact (.ite (.after (pwrCtrlWrite_chg ..) (.refl _ _)) (.ite (.after (pwrThermWrite_chg ..) (.refl
                      _ _)) (.ite (.after (pwrThrotWrite_chg ..) (.refl _ _)) (.ite (.after (pwrRampWrite_chg ..)
                      (.refl _ _)) (.ite (.after (stCtrlWrite_chg ..) (.refl _ _)) (.after (storeReg_chg ..) (.refl _
                      _)))))))

theorem effectOf_chg (x0 : Path) (x1 : ℕ) (x2 : Word32) (x3 : State) :
    Chg 134217694 x3 (effectOf x0 x1 x2 x3) := by
  unfold effectOf
  try dsimp only
  exact (.ite (.after (effectLow_chg ..) (.refl _ _)) (.ite (.after (effectMid_chg ..) (.refl _ _)) (.after
      (effectHigh_chg ..) (.refl _ _))))

theorem barWrite_chg (x0 : Path) (x1 : ℕ) (x2 : Word32) (x3 : State) :
    Chg 134217694 x3 (barWrite x0 x1 x2 x3) := by
  unfold barWrite
  try dsimp only
  split
  · exact (.after (unmapped_chg ..) (.refl _ _))
  · exact (.after (regAccess_chg (m := 134217694) (fun _ _ => (.after (effectOf_chg ..) (.refl _ _)))) (.refl _ _))

theorem execRegisterWrite_chg (x0 : Path) (x1 : BitVec 24) (x2 : Word32) (x3 : State) :
    OChg 134217694 x3 (execRegisterWrite x0 x1 x2 x3) := by
  unfold execRegisterWrite
  try dsimp only
  exact (.run (.after (barWrite_chg ..) (.refl _ _)))

theorem unmappedAccess_chg (x0 : Path) (x1 : ℕ) (x2 : Bool) (x3 : State) :
    Chg 146 x3 (unmappedAccess x0 x1 x2 x3) := by
  unfold unmappedAccess
  try dsimp only
  split
  · exact (.refl _ _)
  · exact (.ite (.after (unmapped_chg ..) (.refl _ _)) (.after (State_emit_chg ..) (.after (unmapped_chg ..) (.refl _
        _))))

theorem bar4Access_chg (x0 : PcieFn) (x1 : ℕ) (x2 : Bool) (x3 : State) :
    Chg 16 x3 (bar4Access x0 x1 x2 x3) := by
  unfold bar4Access
  try dsimp only
  exact (.ite (.refl _ _) (.after (State_emit_chg ..) (.refl _ _)))

theorem execUnmappedAccess_chg (x0 : UnmappedBar) (x1 : BitVec 24) (x2 : Bool) (x3 : Word32) (x4 : State) :
    OChg 146 x4 (execUnmappedAccess x0 x1 x2 x3 x4) := by
  unfold execUnmappedAccess
  try dsimp only
  refine .run ?_
  split
  · exact (.after (unmappedAccess_chg ..) (.refl _ _))
  · exact (.after (bar4Access_chg ..) (.refl _ _))

theorem obsCycRead_chg (x0 : Path) (x1 : State) :
    Chg 146 x1 (obsCycRead x0 x1) := by
  unfold obsCycRead
  try dsimp only
  exact (.after (State_emit_chg ..) (.after (barRead_chg ..) (.refl _ _)))

theorem execBntObsCycRead_chg (x0 : Path) (x1 : State) :
    OChg 146 x1 (execBntObsCycRead x0 x1) := by
  unfold execBntObsCycRead
  try dsimp only
  exact (.run (.after (obsCycRead_chg ..) (.refl _ _)))

theorem smbRun_chg {m : Nat} {b : Bool} {f : State → State} {s : State} (h : ∀ t, Chg m t (f t))
    (hm : 16 ||| m = m := by decide) : OChg m s (smbRun b f s) := by
  unfold smbRun
  exact .ite (.done (.refl _ _)) (.ite (.done (h s)) (.done (.after (State_emit_chg ..) (.refl _ _) hm)))

theorem smbWrite_chg (x0 : ℕ) (x1 : Word32) (x2 : State) :
    Chg 134217694 x2 (smbWrite x0 x1 x2) := by
  unfold smbWrite
  try dsimp only
  refine .upd ?_
  exact (.ite (.after (barWrite_chg ..) (.refl _ _)) (.refl _ _))

theorem execSmbBar0Write_chg (x0 : Bool) (x1 : Word32) (x2 : Word32) (x3 : State) :
    OChg 134217694 x3 (execSmbBar0Write x0 x1 x2 x3) := by
  unfold execSmbBar0Write
  try dsimp only
  exact (smbRun_chg (fun _ => (.after (smbWrite_chg ..) (.refl _ _))))

theorem smbStart_chg (x0 : Word32) (x1 : State) :
    Chg 128 x1 (smbStart x0 x1) := by
  unfold smbStart
  try dsimp only
  exact (.upd (.refl _ _))

theorem execSmbReadStart_chg (x0 : Bool) (x1 : Word32) (x2 : State) :
    OChg 144 x2 (execSmbReadStart x0 x1 x2) := by
  unfold execSmbReadStart
  try dsimp only
  exact (smbRun_chg (fun _ => (.after (smbStart_chg ..) (.refl _ _))))

theorem smbReadOf_chg (x0 : ℕ) (x1 : State) :
    Chg 146 x1 (smbReadOf x0 x1).2.2 := by
  unfold smbReadOf
  try dsimp only
  split
  · exact (.after (barRead_chg ..) (.refl _ _))
  · exact (.refl _ _)

theorem smbComplete_chg (x0 : State) :
    Chg 146 x0 (smbComplete x0) := by
  unfold smbComplete
  try dsimp only
  split
  · exact (.refl _ _)
  · refine .upd ?_
    exact (.after (smbReadOf_chg ..) (.refl _ _))

theorem execSmbReadComplete_chg (x0 : State) :
    OChg 146 x0 (execSmbReadComplete x0) := by
  unfold execSmbReadComplete
  try dsimp only
  exact (.ite (.done (.after (smbComplete_chg ..) (.refl _ _))) (.done (.refl _ _)))

theorem smbResult_chg (x0 : State) :
    Chg 24 x0 (smbResult x0) := by
  unfold smbResult
  try dsimp only
  exact (.ite (.after (State_emit_chg ..) (.refl _ _)) (.after (State_tick1_chg ..) (.after (State_emit_chg ..)
      (.refl _ _))))

theorem execSmbReadResult_chg (x0 : Bool) (x1 : State) :
    OChg 24 x1 (execSmbReadResult x0 x1) := by
  unfold execSmbReadResult
  try dsimp only
  exact (smbRun_chg (fun _ => (.after (smbResult_chg ..) (.refl _ _))))

theorem smbWStat_chg (x0 : State) :
    Chg 16 x0 (smbWStat x0) := by
  unfold smbWStat
  try dsimp only
  exact (.after (State_emit_chg ..) (.refl _ _))

theorem execSmbWriteStatus_chg (x0 : Bool) (x1 : State) :
    OChg 16 x1 (execSmbWriteStatus x0 x1) := by
  unfold execSmbWriteStatus
  try dsimp only
  exact (smbRun_chg (fun _ => (.after (smbWStat_chg ..) (.refl _ _))))

theorem smbAlert_chg (x0 : State) :
    Chg 144 x0 (smbAlert x0) := by
  unfold smbAlert
  try dsimp only
  refine .ite ?_ ?_
  · refine .after (State_emit_chg ..) ?_
    exact (.upd (.refl _ _))
  · exact (.refl _ _)

theorem execSmbAlertResponse_chg (x0 : State) :
    OChg 144 x0 (execSmbAlertResponse x0) := by
  unfold execSmbAlertResponse
  try dsimp only
  exact (.ite (.done (.after (smbAlert_chg ..) (.refl _ _))) (.done (.refl _ _)))

end Sys2Proof.Laws
end

