-- ==== Sys2Proof/Laws/FrameBonnet.lean ====
section
/-!
SUPPORT. Laws/FrameBonnet.lean: which parts of the state the operations of Machine/Bonnet.lean may change.
-/
namespace Sys2Proof.Laws
set_option Elab.async false
open Sys2Proof.Machine

theorem State_setBntBox_chg (x0 : State) (x1 : Path) (x2 : Mbox) :
    Chg 524288 x0 (State.setBntBox x0 x1 x2) := by
  unfold State.setBntBox
  try dsimp only
  split
  · exact (.upd (.refl _ _))
  · exact (.upd (.refl _ _))
  · exact (.refl _ _)
  · exact (.refl _ _)

theorem authFailed_chg (x0 : State) :
    Chg 67109010 x0 (authFailed x0) := by
  unfold authFailed
  try dsimp only
  exact (.after (raise_chg ..) (.after (causeSet_chg ..) (.after (ledAdd_chg ..) (.after (countUp_chg ..) (.refl _
      _)))))

theorem endReport_chg (x0 : ℕ) (x1 : State) :
    Chg 67109010 x1 (endReport x0 x1) := by
  unfold endReport
  try dsimp only
  exact (.after (raise_chg ..) (.ite (.after (raise_chg ..) (.after (causeSet_chg ..) (.ite (.after (authFailed_chg
      ..) (.refl _ _)) (.refl _ _)))) (.ite (.after (authFailed_chg ..) (.refl _ _)) (.refl _ _))))

theorem bntEnd_chg (x0 : ℕ) (x1 : List Byte) (x2 : State) :
    Chg 67633298 x2 (bntEnd x0 x1 x2) := by
  unfold bntEnd
  try dsimp only
  split
  · exact (.refl _ _)
  · refine .after (endReport_chg ..) ?_
    refine .upd ?_
    exact (.after (State_setBntBox_chg ..) (.refl _ _))

theorem bntRun_chg {m : Nat} {f : OpForm} {au : Request → State → Bool}
    {exe : List Byte → State → Nat × List Byte × State} {r : Request} {s : State}
    (h : ∀ p t, Chg m t (exe p t).2.2) (hm : 67633298 ||| m = m := by decide) (hr : 2 ||| m = m := by decide) :
    Chg m s (bntRun f au exe r s) := by
  have hc : Chg m s (if f.authed then setCtr (reqSlot r) (reqCounter r) s else s) :=
    .ite (.after (setCtr_chg ..) (.refl _ _) hr) (.refl _ _)
  unfold bntRun
  refine .ite (.after (bntEnd_chg ..) (.refl _ _) hm) (.ite (.after (bntEnd_chg ..) ?_ hm) (.after (bntEnd_chg ..) hc
      hm))
  exact .after (h _ _) hc (Nat.or_self m)

theorem bntUnknown_chg (x0 : ℕ) (x1 : State) :
    Chg 67633298 x1 (bntUnknown x0 x1) := by
  induction x0 generalizing x1 with
  | zero =>
    unfold bntUnknown
    try dsimp only
    exact (.refl _ _)
  | succ n ih =>
    unfold bntUnknown
    try dsimp only
    split
    · exact (.refl _ _)
    · exact (.ite (.refl _ _) (.ite (.after (ih ..) (.after (bntEnd_chg ..) (.refl _ _))) (.ite (.after (ih ..)
          (.after (bntRun_chg (m := 67633298) (fun _ _ => (.refl _ _))) (.refl _ _))) (.refl _ _))))

theorem bntSubmit_chg (x0 : Path) (x1 : List Byte) (x2 : State) :
    Chg 67633298 x2 (bntSubmit x0 x1 x2) := by
  unfold bntSubmit
  try dsimp only
  refine .ite ?_ ?_
  · exact (.refl _ _)
  · refine .ite ?_ ?_
    · refine .upd ?_
      exact (.after (State_setBntBox_chg ..) (.refl _ _))
    · refine .after (bntUnknown_chg ..) ?_
      refine .upd ?_
      exact (.after (State_setBntBox_chg ..) (.refl _ _))

theorem execBntMailboxSubmit_chg (x0 : Path) (x1 : List Byte) (x2 : State) :
    OChg 67633298 x2 (execBntMailboxSubmit x0 x1 x2) := by
  unfold execBntMailboxSubmit
  try dsimp only
  exact (.run (.after (bntSubmit_chg ..) (.refl _ _)))

theorem bntOp_chg {m : Nat} {op : Nat} {mode : Option Nat}
    {exe : List Byte → State → Nat × List Byte × State} {s : State}
    (h : ∀ p t, Chg m t (exe p t).2.2) (hm : 67633298 ||| m = m := by decide) (hr : 2 ||| m = m := by decide) :
    Chg m s (bntOp op mode exe s) := by
  unfold bntOp
  split
  · exact .refl _ _
  · exact .ite (.after (bntUnknown_chg ..) (bntRun_chg h hm hr) hm) (.refl _ _)

theorem execLoadKeyDone_chg (x0 : Bool) (x1 : State) :
    OChg 67649682 x1 (execLoadKeyDone x0 x1) := by
  unfold execLoadKeyDone
  try dsimp only
  exact (.run (.after (bntUnknown_chg ..) (.after (loadKeyDone_chg ..) (.refl _ _))))

theorem handover_chg (x0 : List Byte) (x1 : State) :
    Chg 402 x1 (handover x0 x1).2.2 := by
  unfold handover
  try dsimp only
  split
  · exact (.refl _ _)
  · refine .after (own_chg ..) ?_
    refine .after (clearClaims_chg ..) ?_
    exact (.upd (.refl _ _))

theorem execHandover_chg (x0 : State) :
    OChg 67633554 x0 (execHandover x0) := by
  unfold execHandover
  try dsimp only
  exact (.run (.after (bntOp_chg (m := 67633554) (fun _ _ => (.after (handover_chg ..) (.refl _ _)))) (.refl _ _)))

theorem execKeyLoad_chg (x0 : State) :
    OChg 67633298 x0 (execKeyLoad x0) := by
  unfold execKeyLoad
  try dsimp only
  exact (.run (.after (bntOp_chg (m := 67633298) (fun _ _ => (.after (keyLoad_chg ..) (.refl _ _)))) (.refl _ _)))

theorem fwNextStart_chg (x0 : List Byte) (x1 : State) :
    Chg 16777216 x1 (fwNextStart x0 x1).2.2 := by
  unfold fwNextStart
  try dsimp only
  refine .answer ?_ ?_
  · exact (.after (setTrial_chg ..) (.refl _ _))
  · exact (.refl _ _)

theorem execFwActivateNextStart_chg (x0 : State) :
    OChg 84410514 x0 (execFwActivateNextStart x0) := by
  unfold execFwActivateNextStart
  try dsimp only
  exact (.run (.after (bntOp_chg (m := 84410514) (fun _ _ => (.after (fwNextStart_chg ..) (.refl _ _)))) (.refl _ _)))

theorem fwLive_chg (x0 : List Byte) (x1 : State) :
    Chg 16777216 x1 (fwLive x0 x1).2.2 := by
  unfold fwLive
  try dsimp only
  refine .answer ?_ ?_
  · exact (.upd (.refl _ _))
  · exact (.refl _ _)

theorem execFwActivateLive_chg (x0 : State) :
    OChg 84410514 x0 (execFwActivateLive x0) := by
  unfold execFwActivateLive
  try dsimp only
  exact (.run (.after (bntOp_chg (m := 84410514) (fun _ _ => (.after (fwLive_chg ..) (.refl _ _)))) (.refl _ _)))

theorem settingsConfirm_chg (x0 : State) :
    Chg 16777216 x0 (settingsConfirm x0) := by
  unfold settingsConfirm
  try dsimp only
  exact (.upd (.refl _ _))

theorem trialConfirmed_chg (x0 : State) :
    Chg 16777362 x0 (trialConfirmed x0) := by
  unfold trialConfirmed
  try dsimp only
  refine .after (raise_chg ..) ?_
  refine .upd ?_
  exact (.after (settingsConfirm_chg ..) (.after (finishConfirm_chg ..) (.after (confirmRecord_chg ..) (.refl _ _))))

theorem fwConfirm_chg (x0 : List Byte) (x1 : State) :
    Chg 16777362 x1 (fwConfirm x0 x1).2.2 := by
  unfold fwConfirm
  try dsimp only
  refine .answer ?_ ?_
  · exact (.after (trialConfirmed_chg ..) (.refl _ _))
  · exact (.refl _ _)

theorem execFwActivateConfirm_chg (x0 : State) :
    OChg 84410514 x0 (execFwActivateConfirm x0) := by
  unfold execFwActivateConfirm
  try dsimp only
  exact (.run (.after (bntOp_chg (m := 84410514) (fun _ _ => (.after (fwConfirm_chg ..) (.refl _ _)))) (.refl _ _)))

theorem fwCancel_chg (x0 : List Byte) (x1 : State) :
    Chg 16777216 x1 (fwCancel x0 x1).2.2 := by
  unfold fwCancel
  try dsimp only
  split
  · exact (.after (setTrial_chg ..) (.refl _ _))
  · exact (.refl _ _)

theorem execFwActivateCancel_chg (x0 : State) :
    OChg 84410514 x0 (execFwActivateCancel x0) := by
  unfold execFwActivateCancel
  try dsimp only
  exact (.run (.after (bntOp_chg (m := 84410514) (fun _ _ => (.after (fwCancel_chg ..) (.refl _ _)))) (.refl _ _)))

theorem obsGrant_chg (x0 : List Byte) (x1 : State) :
    Chg 524434 x1 (obsGrant x0 x1).2.2 := by
  unfold obsGrant
  try dsimp only
  split
  · exact (.refl _ _)
  · split
    · exact (.refl _ _)
    · exact (.after (grantChanged_chg ..) (.after (setGrant_chg ..) (.refl _ _)))

theorem execObsGrant_chg (x0 : State) :
    OChg 67633298 x0 (execObsGrant x0) := by
  unfold execObsGrant
  try dsimp only
  exact (.run (.after (bntOp_chg (m := 67633298) (fun _ _ => (.after (obsGrant_chg ..) (.refl _ _)))) (.refl _ _)))

theorem obsRevoke_chg (x0 : List Byte) (x1 : State) :
    Chg 8913042 x1 (obsRevoke x0 x1).2.2 := by
  unfold obsRevoke
  try dsimp only
  split
  · exact (.refl _ _)
  · exact (.after (grantChanged_chg ..) (.after (setGrant_chg ..) (.ite (.after (lksStop_chg ..) (.refl _ _)) (.refl
        _ _))))

theorem execObsRevoke_chg (x0 : State) :
    OChg 76021906 x0 (execObsRevoke x0) := by
  unfold execObsRevoke
  try dsimp only
  exact (.run (.after (bntOp_chg (m := 76021906) (fun _ _ => (.after (obsRevoke_chg ..) (.refl _ _)))) (.refl _ _)))

theorem debugUnlock_chg (x0 : List Byte) (x1 : State) :
    Chg 524434 x1 (debugUnlock x0 x1).2.2 := by
  unfold debugUnlock
  try dsimp only
  refine .after (raise_chg ..) ?_
  exact (.upd (.refl _ _))

theorem execDebugUnlock_chg (x0 : State) :
    OChg 67633298 x0 (execDebugUnlock x0) := by
  unfold execDebugUnlock
  try dsimp only
  exact (.run (.after (bntOp_chg (m := 67633298) (fun _ _ => (.after (debugUnlock_chg ..) (.refl _ _)))) (.refl _ _)))

theorem execDebugLock_chg (x0 : State) :
    OChg 67633298 x0 (execDebugLock x0) := by
  unfold execDebugLock
  try dsimp only
  exact (.run (.after (bntOp_chg (m := 67633298) (fun _ _ => (.after (endUnlock_chg ..) (.refl _ _)))) (.refl _ _)))

theorem regionReconfig_chg (x0 : List Byte) (x1 : State) :
    Chg 2097298 x1 (regionReconfig x0 x1).2.2 := by
  unfold regionReconfig
  try dsimp only
  refine .answer ?_ ?_
  · exact (.after (loadBegin_chg ..) (.refl _ _))
  · exact (.refl _ _)

theorem execRegionReconfig_chg (x0 : State) :
    OChg 69730450 x0 (execRegionReconfig x0) := by
  unfold execRegionReconfig
  try dsimp only
  exact (.run (.after (bntOp_chg (m := 69730450) (fun _ _ => (.after (regionReconfig_chg ..) (.refl _ _)))) (.refl _
      _)))

theorem regEntry_chg (x0 : List Byte) (x1 : List Byte × State) (x2 : ℕ) :
    Chg 134217694 x1.2 (regEntry x0 x1 x2).2 := by
  unfold regEntry
  try dsimp only
  refine .ite2 ?_ ?_
  · exact (.refl _ _)
  · exact (.mk2 (.after (barWrite_chg ..) (.refl _ _)))

theorem regWrite_chg (x0 : List Byte) (x1 : State) :
    Chg 134217694 x1 (regWrite x0 x1).2.2 := by
  unfold regWrite
  try dsimp only
  exact (.fold2 (.refl _ _) (fun _ _ => (.after (regEntry_chg ..) (.refl _ _))))

theorem execRegWrite_chg (x0 : State) :
    OChg 134217694 x0 (execRegWrite x0) := by
  unfold execRegWrite
  try dsimp only
  exact (.run (.after (bntOp_chg (m := 134217694) (fun _ _ => (.after (regWrite_chg ..) (.refl _ _)))) (.refl _ _)))

theorem attest_chg (x0 : List Byte) (x1 : State) :
    Chg 8 x1 (attest x0 x1).2.2 := by
  unfold attest
  try dsimp only
  exact (.after (State_tick1_chg ..) (.refl _ _))

theorem execAttest_chg (x0 : State) :
    OChg 67633306 x0 (execAttest x0) := by
  unfold execAttest
  try dsimp only
  exact (.run (.after (bntOp_chg (m := 67633306) (fun _ _ => (.after (attest_chg ..) (.refl _ _)))) (.refl _ _)))

theorem getCert_chg (x0 : List Byte) (x1 : State) :
    Chg 0 x1 (getCert x0 x1).2.2 := by
  unfold getCert
  try dsimp only
  split
  · exact (.refl _ _)
  · exact (.refl _ _)

theorem execGetCert_chg (x0 : State) :
    OChg 67633298 x0 (execGetCert x0) := by
  unfold execGetCert
  try dsimp only
  exact (.run (.after (bntOp_chg (m := 67633298) (fun _ _ => (.after (getCert_chg ..) (.refl _ _)))) (.refl _ _)))

theorem readback_chg (x0 : List Byte) (x1 : State) :
    Chg 524304 x1 (readback x0 x1).2.2 := by
  unfold readback
  try dsimp only
  split
  · split
    · exact (.refl _ _)
    · exact (.after (State_emit_chg ..) (.after (setGrant_chg ..) (.refl _ _)))
  · exact (.refl _ _)

theorem execReadback_chg (x0 : State) :
    OChg 67633298 x0 (execReadback x0) := by
  unfold execReadback
  try dsimp only
  exact (.run (.after (bntOp_chg (m := 67633298) (fun _ _ => (.after (readback_chg ..) (.refl _ _)))) (.refl _ _)))

end Sys2Proof.Laws
end

