-- ==== Sys2Proof/WellFormed.lean ====
section
/-!
DEFINITION. WellFormed.lean: which commands can reach the module. A command's operands are what its event brings; these
checks say which operands the event's own description allows, whatever the state. The machine answers an ill-formed
command too; nothing but a sender's mistake makes one.
-/
namespace Sys2Proof

/-- The path carries BAR0 accesses of a master or observer (R375); Bonnet's own accesses come from REG_WRITE alone. -/
def Path.external (p : Path) : Bool :=
  match p with
  | .pf0 | .pf1 | .smb => true
  | .bonnet => false

/-- The path has the mailboxes of R405. -/
def Path.hasMailbox (p : Path) : Bool :=
  match p with
  | .pf0 | .smb => true
  | .pf1 | .bonnet => false

/-- A JTAG instruction code that R383 does not list, or BYPASS. -/
def bypassCode (c : BitVec 8) : Bool := !(c.toNat ≤ 6 || c == 0x10)

/-- A BAR0 write that a row names carries this field value. -/
def hasField (path : Path) (val : Word32) (lo w v : Nat) : Bool := path.external && val.toNat / 2 ^ lo % 2 ^ w == v

/-- The commands that an event can bring. -/
def Instr.wf (i : Instr) : Bool :=
  match i with
  | .registerWrite p _ _ | .unmappedAccess (.bar0 p) _ _ _ | .snapReq p _ | .snapRel p | .bntObsCycRead p | .ownClaim p _
  | .ownBeat p _ | .pauseSet p | .pauseClear p | .depthSet p _ | .runCountWrite p _ | .applyGo ⟨p, _⟩ | .checkpointNow p
  | .rewindGo ⟨p, _⟩ _ | .loadInstall p _ | .loadStage p _ | .loadDiscard p | .bankPowerWrite p _ _ | .marchPreserving p _ _
  | .marchDestructive p _ _ | .timSet p _ | .lksHostRdWrite p _ | .dspCoreEntriesWrite p _ _ | .dspChCfgWrite p _ _ =>
    p.external
  | .eventMaskWrite p k _ | .eventPendClear p k _ _ => p.external && decide (k.toNat < 48)
  | .dspCoreRdWrite w p _ _ => if w then p == .pf0 else p.external
  | .unmappedAccess (.bar4 _) _ _ _ => true
  | .jtagBypass c => bypassCode c
  | .laneRestart p _ v => hasField p v 4 1 1
  | .timRestart p v => hasField p v 1 1 1
  | .timCaptureArm p v => hasField p v 6 1 1
  | .asterStage ⟨p, _⟩ v => hasField p v 0 1 1
  | .asterDisarm p v => hasField p v 3 1 1
  | .asterRelease p v => hasField p v 4 1 1
  | .lksArm ⟨p, _⟩ v => hasField p v 0 1 1
  | .lksDisarm p v => hasField p v 0 1 0
  | .lksFlush p v => hasField p v 7 1 1
  | .gblWarmReset p v _ => hasField p v 0 1 1
  | .fabricReset p v => hasField p v 0 2 2
  | .blockReset ⟨p, _⟩ v => hasField p v 8 1 1
  | .pwrTargetDoze p v => hasField p v 0 2 1
  | .pwrTargetNap p v => hasField p v 0 2 2
  | .pwrWake p v => hasField p v 0 2 0
  | .ldgFlush p v _ => hasField p v 3 1 1
  | .shutdown p v _ => hasField p v 2 1 1
  | .selfTestGo ⟨p, _⟩ v => hasField p v 26 1 1
  | .selfTestStop p v => hasField p v 27 1 1
  | .dspRespond _ c _ => c.toNat % 4 == 0
  | .dspPost _ c _ => c.toNat % 4 == 1
  | .dspComplete _ c _ => decide (2 ≤ c.toNat % 4)
  | .loadHeaderDone h _ | .gloveLoadHeaderDone h _ _ => h.length == 512
  | .bar2Read _ o w | .bar2Write _ o w _ => o.toNat % (if w then 8 else 4) == 0
  | .laneGroupReceive _ l => l.length == 8
  | .bntMailboxSubmit p r | .clocheMailboxSubmit p r => p.hasMailbox && decide (r.length ≤ 1792)
  | .thermalReading t | .thermalSensorCheck t => t.length == 24
  | .syncInterval d => decide (d.length ≤ 16)
  | .pinInputChange p _ => decide (p.toNat < 384)
  | .lksFlowRecord k _ => decide (k.toNat < 3)
  | .claimWindowClose | .heartbeatTimeout | .graceExpiry | .pcieFlr _ | .pcieHotReset | .pcieLinkDown | .perstNAssert
  | .smbBar0Write _ _ _ | .smbReadStart _ _ | .smbReadComplete | .smbReadResult _ | .smbWriteStatus _ | .smbAlertResponse
  | .msixVectorUnmask _ _ _ _ _ | .jtagExtest | .jtagSamplePreload | .jtagIdcode | .jtagHighz | .jtagClamp
  | .jtagExtestPulse | .jtagExtestTrain | .jtagDbgGate | .jtagTestLogicReset | .cfgcrcSweepEnd | .pcieLinkUp
  | .functionLevelResetEnd _ | .perstNRelease | .cycleStart | .instrNop _ | .instrCnsWrite _ | .instrShadowWrite _
  | .instrSendSlotWrite _ | .portAddrbit _ | .portWdatabit _ | .issueRead _ | .issueWrite _ | .issueAtomicAdd _
  | .issueAtomicSwap _ | .issueSend _ | .issueSendBlocking _ | .verify _ | .boundaryDrain | .commitPointPass
  | .applyExecute _ | .frozenApplyDone | .checkpointDone _ | .rewindDone _ | .holdLong | .readyReceive _ _
  | .commitReceive _ _ | .squashReqReceive _ _ | .squashRelayReceive _ _ | .waveTimeout | .loadKeyDone _
  | .loadVerifyDone _ _ | .loadWriteDone _ _ | .rdataReturn _ _ | .pendingWriteApply _ | .hbmAccessStart _ _
  | .refreshOverrun _ _ | .bar2ReadComplete | .bankPowerDone | .marchCopyDone | .inboundValueArrival _ _ _
  | .lateDelivery _ _ _ _ _ | .hbdNak _ _ _ | .laneDetectDone _ | .lanePatternLocked _ | .laneAlignDone _ _ _ _ _
  | .laneDeskewDone _ _ | .laneExchangeDone _ _ | .laneTrainingTimeout _ | .laneRecoveryTimeout _ | .laneNakReceive _ _
  | .laneResendTimeout _ | .laneBlockLockLoss _ _ | .phaseLoopLockLoss _ _ | .valueStripeSend _ _ _
  | .valueStripeReceive _ _ _ | .pedigreeSend _ | .pedigreeReceive _ _ | .marchRestoreDone | .pdelayInterval _ _
  | .syncReceive _ _ _ | .followUpReceive _ _ | .pdelayReqReceive _ _ _ _ | .pdelayRespReceive _ _ _
  | .pdelayRespFollowUpReceive _ _ | .syncLossTimeout | .doUpdate | .gloveLoadListDone _ _ | .gloveLoadDataDone _ _ _
  | .contentionTrip _ _ | .signatureRegionDone _ _ | .tdcEdge _ _ _ | .asterEvaluate | .goldenRecordRead
  | .lksCycleClose | .lksFlushTimeout | .lksAnchorTimer | .lksBlockSend | .lksSinkLost _ | .dspTick | .messageDelivery _
  | .handover | .keyLoad | .fwActivateNextStart | .fwActivateLive | .fwActivateConfirm | .fwActivateCancel | .obsGrant
  | .obsRevoke | .debugUnlock | .debugLock | .regionReconfig | .regWrite | .attest | .getCert | .readback | .coldReset _
  | .resetNAssert _ | .fabricResetDone | .bootFuseDone _ | .bootAnalogDone _ | .bootResidentDone | .bootJournalDone _
  | .bootCopyDone _ | .bootHeaderDone | .bootItemsDone | .bootControllersDone _ | .bootUp | .stageWrite | .stageStatus
  | .flashWrite | .flashRead | .handoverStandbyReady | .handoverTimeout | .standbyCheckFail | .pwrTransitionDone _
  | .rampTick | .loadForecastFrame | .ledgerSample | .ledgerPeriodicWrite _ | .selfTestDone _ | .vmonCheck _ _ _
  | .rootPllLockLoss | .lanePllLockLoss _ | .hbmPllLockLoss _ | .vccioMonitorTrip _ | .vccioMonitorClear _
  | .marchPhaseDone _ | .repairRemarchDone _ | .porNRelease _ _ | .powerRemoved => true

end Sys2Proof
end

