-- ==== Sys2Proof/Tests/Slice0.lean ====
section
/-!
SUPPORT. Tests/Slice0.lean: the model's own tests: ill-formed commands, words written out from the specification's encoding,
single steps, and for every statement a witness that its hypotheses can be met.
-/
open Sys2Proof Sys2Proof.Machine
namespace Sys2Proof.Tests
set_option Elab.async false

/-! ### Helpers -/

/-- The state after a command. -/
def after (c : Instr) (s : State) : State :=
  match exec c s with
  | .next t => t
  | .fault _ => s
  | .refused _ => s

/-- In service, with the host as owner. -/
def upS : State := { boot := { stage := .up }, own := { st := .owned, owner := .host }, host := { dlActive := true } }

/-- A running image of four steps, before its first cycle. -/
def runS : State :=
  State.setReg { upS with img := { valid := true, n := 4 }, sch := { st := .running, opened := some 1 } } Reg.SCH_CTRL 0

/-- Its first cycle, at step 0. -/
def issS : State := { runS with sch := { runS.sch with phase := .issue, exec := some { num := 1, ns := false, copy := 1 } } }

/-- Its first cycle, at the commit point. -/
def cpS : State := { issS with sch := { issS.sch with phase := .commitPoint, slot := 4 } }

/-- `accepts`, as a computation. -/
def acceptsB (path : Path) (off : Nat) (val : Word32) (s : State) : Bool :=
  match rowAt off with
  | some r => absentAt s off == false && (s.ownsPath path || nonOwnerOk path off) && ((val ^^^ s.reg off) &&& r.keep == 0) &&
      (lockedAt s off == false || (val ^^^ s.reg off) &&& r.rwl == 0)
  | none => false

theorem accepts_of {path : Path} {off : Nat} {val : Word32} {s : State} (h : acceptsB path off val s = true) :
    accepts path off val s := by
  unfold acceptsB at h
  split at h
  · rename_i r hr
    simp only [Bool.and_eq_true, Bool.or_eq_true, beq_iff_eq] at h
    exact ⟨r, hr, h.1.1.1, by simpa using h.1.1.2, h.1.2, h.2⟩
  · cases h

/-- An instruction word with its payload and odd parity (R36). -/
def sealedWord (x : Nat) : InstrWord :=
  BitVec.ofNat 112 (x + (List.range 4).foldl (fun a k =>
    a + 2 ^ (108 + k) * ((ones (x >>> (27 * k)) 27 + 1) % 2)) 0)

/-- A group of eight control blocks with GSEQ `g`. -/
def rawGroup (g crc : Nat) : List LaneStripe :=
  (List.range 8).map (fun k => ⟨2, 2, 2, 2, BitVec.ofNat 64 (2 ^ 48 * g + if k = 7 then crc else 0), 0, 0, 0⟩)
def goodGroup (g : Nat) : List LaneStripe := rawGroup g (crc32 (groupBytes (rawGroup g 0))).toNat

theorem groupBytes_raw (g x : Nat) (hx : x < 2 ^ 32) : groupBytes (rawGroup g x) = groupBytes (rawGroup g 0) := by
  have h : (2 ^ 48 * g + x) % 2 ^ 64 / 2 ^ 32 * 2 ^ 32 = (2 ^ 48 * g + 0) % 2 ^ 64 / 2 ^ 32 * 2 ^ 32 := by omega
  simp only [groupBytes, rawGroup, List.length_map, List.length_range]
  congr 1
  funext k
  by_cases hk : k < 8
  · simp only [List.getElem?_map, List.getElem?_range hk, Option.map_some]
    by_cases h7 : k = 7
    · subst h7
      simp only [if_true, BitVec.toNat_ofNat, h]
    · simp [h7]
  · simp [hk]

theorem goodGroup_ok (g : Nat) : groupOk (goodGroup g) = true := by
  have hb := groupBytes_raw g (crc32 (groupBytes (rawGroup g 0))).toNat (crc32 (groupBytes (rawGroup g 0))).isLt
  have hg : groupBytes (goodGroup g) = groupBytes (rawGroup g 0) := hb
  have hl : (goodGroup g)[7]? = some ⟨2, 2, 2, 2, BitVec.ofNat 64 (2 ^ 48 * g + (crc32 (groupBytes (rawGroup g 0))).toNat), 0, 0, 0⟩ := by
    simp [goodGroup, rawGroup]
  have hm : (2 ^ 48 * g + (crc32 (groupBytes (rawGroup g 0))).toNat) % 2 ^ 64 % 2 ^ 32 = (crc32 (groupBytes (rawGroup g 0))).toNat := by
    have := (crc32 (groupBytes (rawGroup g 0))).isLt
    omega
  unfold groupOk
  rw [hl, hg]
  simp only [BitVec.toNat_ofNat, hm]
  simp [goodGroup, rawGroup, headerOk, isCtrl]

theorem rawGroup_gseq (x : Nat) (hx : x < 2 ^ 32) : ((rawGroup 0 x).filter isCtrl).all (fun y => cbGseq y == 0) = true ∧
    ((rawGroup 1 x).filter isCtrl).all (fun y => cbGseq y == 0) = false := by
  have h : x % 18446744073709551616 / 281474976710656 = 0 := by omega
  constructor
  · simp [rawGroup, isCtrl, cbGseq, List.range_succ, h]
  · simp [rawGroup, isCtrl, cbGseq, List.range_succ]

theorem goodGroup_gseq : ((goodGroup 0).filter isCtrl).all (fun y => cbGseq y == 0) = true ∧
    ((goodGroup 1).filter isCtrl).all (fun y => cbGseq y == 0) = false :=
  ⟨(rawGroup_gseq _ (crc32 (groupBytes (rawGroup 0 0))).isLt).1, (rawGroup_gseq _ (crc32 (groupBytes (rawGroup 1 0))).isLt).2⟩

/-- A Glove header of one frame for region 0, without its CRC. -/
def hdrBase : List Byte :=
  leBytes 4 0x42564C47 ++ leBytes 2 1 ++ leBytes 2 0 ++ leBytes 2 0x9640 ++ leBytes 2 1 ++ leBytes 4 1 ++ List.replicate 492 0
def gloveHdr : List Byte := hdrBase ++ leBytes 4 (crc32c hdrBase).toNat

theorem hdrBase_length : hdrBase.length = 508 := by decide +kernel

theorem leAt_append (b x : List Byte) (o n : Nat) (h : o + n ≤ b.length) : leAt (b ++ x) o n = leAt b o n := by
  unfold leAt
  exact List.foldl_ext _ _ _ (fun a i hi => by
    rw [List.getD_append _ _ _ _ (by have := List.mem_range.mp hi; omega)])

theorem beAt_append (b x : List Byte) (o n : Nat) (h : o + n ≤ b.length) : beAt (b ++ x) o n = beAt b o n := by
  unfold beAt
  exact List.foldl_ext _ _ _ (fun a i hi => by
    rw [List.getD_append _ _ _ _ (by have := List.mem_range.mp hi; omega)])

theorem zeroBytes_append (b x : List Byte) (o n : Nat) (h : o + n ≤ b.length) : zeroBytes (b ++ x) o n = zeroBytes b o n := by
  have e : ∀ i ∈ List.range n, (b ++ x).getD (o + i) 0 = b.getD (o + i) 0 := fun i hi => by
    rw [List.getD_append _ _ _ _ (by have := List.mem_range.mp hi; omega)]
  unfold zeroBytes
  rw [Bool.eq_iff_iff, List.all_eq_true, List.all_eq_true]
  constructor <;> intro g i hi <;> have := g i hi <;> simpa only [e i hi] using this

theorem leAt_gloveHdr (o n : Nat) (h : o + n ≤ 508) : leAt gloveHdr o n = leAt hdrBase o n :=
  leAt_append _ _ _ _ (by rw [hdrBase_length]; exact h)
theorem beAt_gloveHdr (o n : Nat) (h : o + n ≤ 508) : beAt gloveHdr o n = beAt hdrBase o n :=
  beAt_append _ _ _ _ (by rw [hdrBase_length]; exact h)
theorem zeroBytes_gloveHdr (o n : Nat) (h : o + n ≤ 508) : zeroBytes gloveHdr o n = zeroBytes hdrBase o n :=
  zeroBytes_append _ _ _ _ (by rw [hdrBase_length]; exact h)

theorem suffix_getD (b : List Byte) (x i : Nat) (hi : i < 4) :
    (b ++ leBytes 4 x).getD (b.length + i) 0 = BitVec.ofNat 8 (x >>> (8 * i)) := by
  rw [List.getD_append_right _ _ _ _ (Nat.le_add_right _ _), Nat.add_sub_cancel_left]
  simp [leBytes, hi]
theorem leAt4 (l : List Byte) (o : Nat) : leAt l o 4 = 0 + (l.getD (o + 0) 0).toNat * 2 ^ (8 * 0) + (l.getD (o + 1) 0).toNat * 2 ^ (8 * 1) +
   (l.getD (o + 2) 0).toNat * 2 ^ (8 * 2) + (l.getD (o + 3) 0).toNat * 2 ^ (8 * 3) := by
  have h : List.range 4 = [0, 1, 2, 3] := by decide
  unfold leAt
  rw [h, List.foldl_cons, List.foldl_cons, List.foldl_cons, List.foldl_cons, List.foldl_nil]
theorem four_bytes (x : Nat) (h : x < 2 ^ 32) :
    0 + (BitVec.ofNat 8 (x >>> (8 * 0))).toNat * 2 ^ (8 * 0) + (BitVec.ofNat 8 (x >>> (8 * 1))).toNat * 2 ^ (8 * 1) +
      (BitVec.ofNat 8 (x >>> (8 * 2))).toNat * 2 ^ (8 * 2) + (BitVec.ofNat 8 (x >>> (8 * 3))).toNat * 2 ^ (8 * 3) = x := by
  simp only [BitVec.toNat_ofNat, Nat.shiftRight_eq_div_pow]
  omega
theorem leAt_suffix (b : List Byte) (x : Nat) (h : x < 2 ^ 32) : leAt (b ++ leBytes 4 x) b.length 4 = x := by
  rw [leAt4, suffix_getD b x 0 (by omega), suffix_getD b x 1 (by omega), suffix_getD b x 2 (by omega), suffix_getD b x 3 (by omega)]
  exact four_bytes x h

theorem leAt_sealed_crc (b : List Byte) (h : b.length = 508) :
    leAt (b ++ leBytes 4 (crc32c b).toNat) 0x1FC 4 = (crc32c ((b ++ leBytes 4 (crc32c b).toNat).take 508)).toNat := by
  have e := leAt_suffix b _ (crc32c b).isLt
  rw [h] at e
  rw [List.take_left' h, e]

theorem leAt_gloveHdr_crc : leAt gloveHdr 0x1FC 4 = (crc32c (gloveHdr.take 508)).toNat :=
  leAt_sealed_crc hdrBase hdrBase_length

theorem headerFails_of (h : List Byte) (hc : leAt h 0x1FC 4 = (crc32c (h.take 508)).toNat)
    (hl : ∀ o n, o + n ≤ 508 → leAt h o n = leAt hdrBase o n) (hb : ∀ o n, o + n ≤ 508 → beAt h o n = beAt hdrBase o n)
    (hz : ∀ o n, o + n ≤ 508 → zeroBytes h o n = zeroBytes hdrBase o n) : headerFails upS h 648 = [] := by
  unfold headerFails
  rw [hc]
  simp only [hl _ _ (show 0 + 4 ≤ 508 by omega), hl _ _ (show 4 + 2 ≤ 508 by omega),
    hl _ _ (show 6 + 2 ≤ 508 by omega), hl _ _ (show 8 + 2 ≤ 508 by omega),
    hl _ _ (show 10 + 1 ≤ 508 by omega), hl _ _ (show 12 + 4 ≤ 508 by omega),
    hb _ _ (show 16 + 8 ≤ 508 by omega), hz _ _ (show 11 + 1 ≤ 508 by omega),
    hz _ _ (show 0x38 + 8 ≤ 508 by omega), hz _ _ (show 0x180 + 124 ≤ 508 by omega),
    List.range_succ, List.range_zero, List.nil_append, List.flatMap_append, List.flatMap_cons, List.flatMap_nil, Nat.mul_zero, Nat.mul_one,
    Nat.reduceMul, Nat.reduceAdd,
    hl _ _ (show 64 + 1 ≤ 508 by omega), hl _ _ (show 144 + 1 ≤ 508 by omega),
    hl _ _ (show 224 + 1 ≤ 508 by omega), hl _ _ (show 304 + 1 ≤ 508 by omega),
    hz _ _ (show 65 + 7 ≤ 508 by omega), hz _ _ (show 145 + 7 ≤ 508 by omega),
    hz _ _ (show 225 + 7 ≤ 508 by omega), hz _ _ (show 305 + 7 ≤ 508 by omega),
    hz _ _ (show 136 + 8 ≤ 508 by omega), hz _ _ (show 216 + 8 ≤ 508 by omega),
    hz _ _ (show 296 + 8 ≤ 508 by omega), hz _ _ (show 376 + 8 ≤ 508 by omega)]
  simp only [ne_eq, not_true, decide_false, failIf, Bool.false_eq_true, if_false]
  decide +kernel

theorem gloveHdr_fails : headerFails upS gloveHdr 648 = [] :=
  headerFails_of gloveHdr leAt_gloveHdr_crc leAt_gloveHdr beAt_gloveHdr zeroBytes_gloveHdr

theorem headerFails_congr {s t : State} (hi : s.ident = t.ident) (hp : s.part = t.part) (h : List Byte) (n : Nat) :
    headerFails s h n = headerFails t h n := by
  unfold headerFails
  rw [hi, hp]

/-! ### The cryptographic functions, on published vectors -/

/-- FIPS 180-4: SHA-384 of "abc". -/
theorem test_sha384 : (sha384 [0x61, 0x62, 0x63]).toNat =
    0xcb00753f45a35e8bb5a03d699ac65007272c32ab0eded1631a8b605a43ff5bed8086072ba1e7cc2358baeca134c825a7 := by decide +kernel
/-- RFC 4231, test case 2, the first 16 bytes. -/
theorem test_hmac : hmacTag (0x4A656665 <<< 224) [0x77, 0x68, 0x61, 0x74, 0x20, 0x64, 0x6F, 0x20, 0x79, 0x61, 0x20, 0x77, 0x61, 0x6E,
    0x74, 0x20, 0x66, 0x6F, 0x72, 0x20, 0x6E, 0x6F, 0x74, 0x68, 0x69, 0x6E, 0x67, 0x3F] = 0x5bdcc146bf60754e6a042426089575c7 := by
  decide +kernel
/-- FIPS 197, appendix C.3. -/
theorem test_aes : aes256 0x000102030405060708090a0b0c0d0e0f101112131415161718191a1b1c1d1e1f 0x00112233445566778899aabbccddeeff =
    0x8ea2b7ca516745bfeafc49904b496089 := by decide +kernel
/-- The GCM specification, test case 14. -/
theorem test_gcm : gcmSeal 0 (List.replicate 12 0) [] (List.replicate 16 0) =
    beBytes 16 0xcea7403d4d606b6e074ec5d3baf39d18 ++ beBytes 16 0xd0d1c8a799996bf0265b98b5d48ab919 := by decide +kernel
/-- Twice the base point of P-384. -/
theorem test_p384 : (publicKey 2).take 48 =
    beBytes 48 0x08d999057ba3d2d969260045c55b97f089025959a6f434d651d207d19fb96e9e4fe0e86ebe0e64f85b96a9c75295df61 := by decide +kernel
/-- A signature verifies. -/
theorem test_ecdsa : ecdsaVerify (publicKey 1) (ecdsaSign 1 5 [1]) [1] = true := by decide +kernel
/-- DEVICE_BIND of the base point, the identity key of private half 1. -/
theorem test_device_bind : deviceBind {} = [161, 157, 77, 177, 113, 181, 130, 235] := by decide +kernel

/-! ### Bonnet requests with a right tag -/

/-- The head of a request. -/
def reqHead (op slot len ctr : Nat) : List Byte := leBytes 2 op ++ leBytes 1 slot ++ [0] ++ leBytes 4 len ++ leBytes 8 ctr

/-- A request on PF0 without a tag, and one with the tag that `key` gives. -/
def plainReq (op : Nat) (p : List Byte) : Request := { path := .pf0, bytes := reqHead op 0xFF p.length 0 ++ p }
def taggedReq (key : BitVec 256) (b : List Byte) : Request :=
  { path := .pf0, bytes := b ++ beBytes 16 (hmacTag key (deviceBind upS.ident ++ b)).toNat }

theorem beBytes_16 (x : Nat) : beBytes 16 x = [BitVec.ofNat 8 (x >>> 120), BitVec.ofNat 8 (x >>> 112), BitVec.ofNat 8 (x >>> 104),
    BitVec.ofNat 8 (x >>> 96), BitVec.ofNat 8 (x >>> 88), BitVec.ofNat 8 (x >>> 80), BitVec.ofNat 8 (x >>> 72), BitVec.ofNat 8 (x >>> 64),
    BitVec.ofNat 8 (x >>> 56), BitVec.ofNat 8 (x >>> 48), BitVec.ofNat 8 (x >>> 40), BitVec.ofNat 8 (x >>> 32), BitVec.ofNat 8 (x >>> 24),
    BitVec.ofNat 8 (x >>> 16), BitVec.ofNat 8 (x >>> 8), BitVec.ofNat 8 (x >>> 0)] := by
  have h : List.range 16 = [0, 1, 2, 3, 4, 5, 6, 7, 8, 9, 10, 11, 12, 13, 14, 15] := by decide
  unfold beBytes leBytes
  rw [h]
  simp only [List.map_cons, List.map_nil, List.reverse_cons, List.reverse_nil, List.nil_append, List.cons_append, Nat.reduceMul]

theorem beAt_foldl (l : List Byte) (n : Nat) (h : l.length = n) :
    beAt l 0 n = l.foldl (fun a b => 256 * a + b.toNat) 0 := by
  subst h
  unfold beAt
  rw [← List.foldl_map (f := fun i => l.getD (0 + i) 0) (g := fun (a : Nat) (b : Byte) => 256 * a + b.toNat)]
  congr 1
  apply List.ext_getElem
  · simp
  · intro i h1 h2
    simp only [List.getElem_map, List.getElem_range, Nat.zero_add]
    rw [List.getD_eq_getElem]

theorem beBytes_foldl (n x a : Nat) :
    (beBytes n x).foldl (fun a (b : Byte) => 256 * a + b.toNat) a = a * 256 ^ n + x % 256 ^ n := by
  induction n generalizing a with
  | zero => simp [beBytes, leBytes, Nat.mod_one]
  | succ n ih =>
    have h : beBytes (n + 1) x = BitVec.ofNat 8 (x >>> (8 * n)) :: beBytes n x := by
      simp [beBytes, leBytes, List.range_succ]
    have e : (2 : Nat) ^ (8 * n) = 256 ^ n := by rw [Nat.pow_mul]
    have m : x % 256 ^ (n + 1) = x % 256 ^ n + 256 ^ n * (x / 256 ^ n % 256) := Nat.mod_pow_succ
    rw [h, List.foldl_cons, ih, BitVec.toNat_ofNat, Nat.shiftRight_eq_div_pow, e, m, show (2 : Nat) ^ 8 = 256 by norm_num]
    ring

theorem beAt_beBytes (x : BitVec 128) : BitVec.ofNat 128 (beAt (beBytes 16 x.toNat) 0 16) = x := by
  rw [beAt_foldl _ 16 (by rw [beBytes_16]; rfl), beBytes_foldl, Nat.zero_mul, Nat.zero_add]
  apply BitVec.eq_of_toNat_eq
  rw [BitVec.toNat_ofNat]
  have hx := x.isLt
  omega

theorem reqBytes_left (path : Path) (b t : List Byte) : reqBytes { path := path, bytes := b ++ t } 0 b.length = b := by
  unfold reqBytes
  apply List.ext_getElem
  · simp
  · intro i h1 h2
    simp only [List.getElem_map, List.getElem_range, Nat.zero_add]
    rw [List.getD_append _ _ _ _ h2, List.getD_eq_getElem]

theorem reqBytes_right (path : Path) (b t : List Byte) : reqBytes { path := path, bytes := b ++ t } b.length t.length = t := by
  unfold reqBytes
  apply List.ext_getElem
  · simp
  · intro i h1 h2
    simp only [List.getElem_map, List.getElem_range]
    rw [List.getD_append_right _ _ _ _ (Nat.le_add_right _ _), Nat.add_sub_cancel_left, List.getD_eq_getElem]

theorem taggedReq_mac (key : BitVec 256) (b : List Byte) (s : State) (h : b.length = 16 + min 1760 (reqLen (taggedReq key b)))
    (hs : s.ident = upS.ident) : reqMac s key (taggedReq key b) = reqTag (taggedReq key b) := by
  unfold reqMac reqTag
  rw [← h, hs]
  unfold taggedReq
  rw [reqBytes_left]
  have hl := reqBytes_right .pf0 b (beBytes 16 (hmacTag key (deviceBind upS.ident ++ b)).toNat)
  rw [show (beBytes 16 (hmacTag key (deviceBind upS.ident ++ b)).toNat).length = 16 by rw [beBytes_16]; rfl] at hl
  rw [hl, beAt_beBytes]

theorem judge_passes (f : OpForm) (a : Bool) (r : Request) (s : State) (key : BitVec 256) (h1 : formatOk f r = true)
    (h2 : (slotCtr s (reqSlot r) == 2 ^ 64 - 1) = false) (h3 : slotKey s (reqSlot r) = some key) (h4 : reqMac s key r = reqTag r)
    (h5 : reqCounter r ≤ slotCtr s (reqSlot r) → False) (h6 : a = true) : judge f a r s = 0 := by
  subst h6
  unfold judge
  rw [h1]
  cases hf : f.authed
  · simp
  · have h7 : (reqMac s key r != reqTag r) = false := by rw [h4]; exact bne_self_eq_false _
    simp only [h2, h3, Option.isNone_some, lowestStatus, decide_eq_false h5]
    simp [h7]

/-- In service, with keys, one request and a busy mailbox. -/
def bntS (r : Request) : State :=
  { upS with bnt := { keys := [(0, some 5)], kAuth := some 6, reqs := [r], box0 := { busy := true }
                      grants := [(1, some { nonce := 1, kind := 3, masked := false, write := false, pf1 := false, cores := 0,
                                            base := 0, units := 0 })] } }

/-- A request of counter 1 in slot 0 or 3 with its right tag. -/
def authReq (op slot : Nat) (p : List Byte) : Request := taggedReq (if slot = 3 then 6 else 5) (reqHead op slot p.length 1 ++ p)

theorem ready_of (c : Instr) (b : BntCmd) (op slot : Nat) (p : List Byte) (s : State) (hs : s.ident = upS.ident)
    (hb : bntCmd c = some b) (hn : b.names (authReq op slot p)) (h1 : formatOk b.form (authReq op slot p) = true)
    (hl : (reqHead op slot p.length 1 ++ p).length = 16 + min 1760 (reqLen (authReq op slot p)))
    (h2 : (slotCtr s (reqSlot (authReq op slot p)) == 2 ^ 64 - 1) = false)
    (h3 : slotKey s (reqSlot (authReq op slot p)) = some (if slot = 3 then 6 else 5))
    (h5 : ¬ reqCounter (authReq op slot p) ≤ slotCtr s (reqSlot (authReq op slot p)))
    (h6 : b.authority (authReq op slot p) s = true) (hk : keyPhase s = false) : bntReady c (authReq op slot p) s :=
  ⟨hk, b, hb, hn, judge_passes _ _ _ _ _ h1 h2 h3 (taggedReq_mac _ _ _ hl hs) h5 h6⟩

theorem lowestStatus_ne (c : Nat) (l : List (Bool × Nat)) (hc : c ≠ 0) (h : ∀ p ∈ l, p.2 ≠ 0) : lowestStatus ((true, c) :: l) ≠ 0 := by
  have key : ∀ (l : List (Bool × Nat)) (a : Nat), a ≠ 0 → (∀ p ∈ l, p.2 ≠ 0) →
      (l.filter (fun p => p.1)).foldl (fun a p => if a = 0 ∨ p.2 < a then p.2 else a) a ≠ 0 := by
    intro l
    induction l with
    | nil => intro a ha _; exact ha
    | cons p t ih =>
      intro a ha hl
      have ht : ∀ q ∈ t, q.2 ≠ 0 := fun q hq => hl q (List.mem_cons_of_mem _ hq)
      by_cases hp : p.1 = true
      · rw [List.filter_cons_of_pos hp, List.foldl_cons]
        split
        · exact ih _ (hl p List.mem_cons_self) ht
        · exact ih _ ha ht
      · rw [List.filter_cons_of_neg hp]
        exact ih _ ha ht
  unfold lowestStatus
  rw [List.filter_cons_of_pos rfl, List.foldl_cons, if_pos (Or.inl rfl)]
  exact key l c hc h

/-! ### Ill-formed commands (WellFormed.lean) -/

theorem test_wf_path : (Instr.registerWrite .bonnet 0 0).wf = false ∧ (Instr.registerWrite .pf0 0 0).wf = true := by decide
theorem test_wf_event_register : (Instr.eventMaskWrite .pf0 48 0).wf = false ∧ (Instr.eventMaskWrite .pf0 47 0).wf = true := by
  decide
theorem test_wf_window : (Instr.dspCoreRdWrite true .smb 0 0).wf = false ∧ (Instr.dspCoreRdWrite false .smb 0 0).wf = true := by
  decide
theorem test_wf_bypass : (Instr.jtagBypass 0).wf = false ∧ (Instr.jtagBypass 0x10).wf = false ∧ (Instr.jtagBypass 0xFF).wf = true := by
  decide
theorem test_wf_field : (Instr.laneRestart .pf0 0 0).wf = false ∧ (Instr.laneRestart .pf0 0 0x10).wf = true ∧
    (Instr.timRestart .pf0 1).wf = false ∧ (Instr.timCaptureArm .pf0 0).wf = false ∧ (Instr.asterStage ⟨.pf0, true⟩ 0).wf = false ∧
    (Instr.asterDisarm .pf0 1).wf = false ∧ (Instr.asterRelease .pf0 8).wf = false ∧ (Instr.lksArm ⟨.pf0, true⟩ 0).wf = false ∧
    (Instr.lksDisarm .pf0 1).wf = false ∧ (Instr.lksFlush .pf0 1).wf = false := by decide
theorem test_wf_reset_field : (Instr.gblWarmReset .pf0 2 false).wf = false ∧ (Instr.fabricReset .pf0 3).wf = false ∧
    (Instr.fabricReset .pf0 2).wf = true ∧ (Instr.blockReset ⟨.pf0, true⟩ 0x1B).wf = false ∧ (Instr.blockReset ⟨.pf0, true⟩ 0x11B).wf = true := by
  decide
theorem test_wf_power_field : (Instr.pwrTargetDoze .pf0 2).wf = false ∧ (Instr.pwrTargetNap .pf0 1).wf = false ∧
    (Instr.pwrWake .pf0 1).wf = false ∧ (Instr.ldgFlush .pf0 4 false).wf = false ∧ (Instr.shutdown .pf0 8 false).wf = false ∧
    (Instr.selfTestGo ⟨.pf0, true⟩ 0).wf = false ∧ (Instr.selfTestStop .pf0 0x4000000).wf = false := by decide
theorem test_wf_dsp_command : (Instr.dspRespond 0 1 0).wf = false ∧ (Instr.dspPost 0 0 0).wf = false ∧
    (Instr.dspComplete 0 1 0).wf = false ∧ (Instr.dspComplete 0 3 0).wf = true := by decide
theorem test_wf_lengths : (Instr.loadHeaderDone [] ⟨none, false⟩).wf = false ∧ (Instr.laneGroupReceive 0 []).wf = false ∧
    (Instr.thermalReading []).wf = false ∧ (Instr.thermalSensorCheck []).wf = false ∧ (Instr.lksFlowRecord 3 0).wf = false ∧
    (Instr.pinInputChange 384 (some true)).wf = false ∧ (Instr.bntMailboxSubmit .pf1 []).wf = false ∧
    (Instr.clocheMailboxSubmit .bonnet []).wf = false := by decide

/-! ### Instruction words, written out from the layout of spec/02_boolean_processor.md -/

/-- No operation: W, N and X are 0. -/
theorem test_word_nop : kindOf 0 nopWord = .nop ∧ wordParityOk nopWord = true ∧ wordParityOk 0 = false := by decide +kernel
/-- W; class 00, DINDEX 5. -/
def wCns : InstrWord := sealedWord (2 ^ 107 + 5 * 2 ^ 88)
/-- W; class 01, DINDEX 7. -/
def wShadow : InstrWord := sealedWord (2 ^ 107 + 2 ^ 102 + 7 * 2 ^ 88)
/-- W and N; class 10, DINDEX 3. -/
def wSend : InstrWord := sealedWord (2 ^ 107 + 2 ^ 106 + 2 * 2 ^ 102 + 3 * 2 ^ 88)
/-- X; class 11, field 0, context 0, bit 39. -/
def wAddr : InstrWord := sealedWord (2 ^ 104 + 3 * 2 ^ 102 + 39 * 2 ^ 88)
/-- X; class 11, field 1, context 0, bit 63. -/
def wData : InstrWord := sealedWord (2 ^ 104 + 3 * 2 ^ 102 + (2048 + 63) * 2 ^ 88)
/-- X; class 11, field 2, context 0, an operation. -/
def wIssue (op : Nat) : InstrWord := sealedWord (2 ^ 104 + 3 * 2 ^ 102 + (4096 + op) * 2 ^ 88)
/-- X; class 11, field 3; operand 0 is inbound slot 9. -/
def wVerify : InstrWord := sealedWord (2 ^ 104 + 3 * 2 ^ 102 + 6144 * 2 ^ 88 + 0x20000 + 9)

theorem test_word_kinds : kindOf 0 wCns = .cnsWrite 5 ∧ kindOf 64 wShadow = .shadowWrite (16384 + 7) ∧
    kindOf 0 wSend = .sendWrite 3 ∧ kindOf 0 wAddr = .addrBit 0 39 ∧ kindOf 0 wData = .wdataBit 0 63 ∧
    kindOf 0 wVerify = .verify 9 := by decide +kernel
theorem test_word_issues : kindOf 0 (wIssue 0) = .issue 0 0 ∧ kindOf 0 (wIssue 1) = .issue 0 1 ∧ kindOf 0 (wIssue 2) = .issue 0 2 ∧
    kindOf 0 (wIssue 3) = .issue 0 3 ∧ kindOf 0 (wIssue 0x10) = .issue 0 0x10 ∧ kindOf 0 (wIssue 0x11) = .issue 0 0x11 := by
  decide +kernel
theorem test_word_parity : wordParityOk wCns = true ∧ wordParityOk wVerify = true ∧ wordParityOk (wCns ^^^ 1) = false := by
  decide +kernel
/-- An address bit above 39 is no legal word. -/
theorem test_word_illegal : kindOf 0 (sealedWord (2 ^ 104 + 3 * 2 ^ 102 + 40 * 2 ^ 88)) = .illegal := by decide +kernel

/-! ### Witnesses: the hypotheses of each statement can be met -/

theorem witness_StepRunsFrontCommand : (State.reset.pending = [] ∧ ({ State.reset with boot := { stage := .off } } : State).up = false) ∧
    upS.pending = [] ∧ upS.up = true := by decide +kernel
theorem witness_ResetState : 1535 < 1536 := by decide
theorem witness_InvariantKeptByEveryStep : Invariant upS ∧ step { upS with pending := [.rampTick] } = .next upS :=
  ⟨⟨by decide +kernel, by decide +kernel, by decide +kernel, by decide +kernel, by decide +kernel⟩, rfl⟩
theorem witness_IdentityFixed : exec .rampTick upS = .next upS ∧ ∀ a b, Instr.rampTick ≠ .porNRelease a b :=
  ⟨rfl, fun _ _ h => by cases h⟩
theorem witness_OutOfServiceOnlyStartUpActs :
    ({ upS with boot := { stage := .halted } } : State).up = false ∧ wakes .cycleStart = false := by decide +kernel
theorem witness_HaltEndsOnlyByColdReset : ({ upS with boot := { stage := .halted } } : State).boot.stage = .halted ∧
    (after .powerRemoved { upS with boot := { stage := .halted } }).boot.stage ≠ .halted := by decide +kernel
theorem witness_KeepAndLockedFields :
    (rowAt 0x200004).isSome = true ∧ absentAt upS 0x40 = false ∧ upS.ownsPath .pf0 = true ∧ upS.unlocked = false ∧
    commandReg Reg.PWR_LFC = false ∧ ((rowAt Reg.PWR_LFC).any (fun r => (0x8 ^^^ upS.reg Reg.PWR_LFC) &&& r.keep != 0)) = true ∧
    (upS.setReg Reg.GBL_LOCK 0xFFFFFFFF).bit Reg.GBL_LOCK (blockCode 0x4000) = true ∧ commandReg 0x4000 = false ∧
    ((rowAt 0x4000).any (fun r => (0x3FFFF ^^^ (upS.setReg Reg.GBL_LOCK 0xFFFFFFFF).reg 0x4000) &&& r.rwl != 0)) = true := by
  decide +kernel
theorem witness_TruthTableResult : evalTT (ttOf (sealedWord (2 ^ (72 + 5)))) [true, false, true, false] = true := by decide +kernel
theorem witness_ShadowDestination : 255 < 256 ∧ kindOf 255 wShadow = .shadowWrite (16384 * 3 + 7) := by decide +kernel

theorem witness_RegisterWriteStores : upS.up = true ∧ (rowAt Reg.PWR_RAMP).isSome = true ∧
    accepts .pf0 Reg.SCH_RUN_COUNT 5 upS ∧ commandReg Reg.SCH_RUN_COUNT = false ∧ accepts .pf0 Reg.PWR_RAMP 0x1402 upS ∧
    commandReg Reg.PWR_RAMP = true ∧ rowAt 0xFFFFFC = none := by
  and_intros <;> first | exact accepts_of (by decide +kernel) | decide +kernel
theorem test_write_stores : (after (.registerWrite .pf0 (BitVec.ofNat 24 Reg.SCH_RUN_COUNT) 5) upS).reg Reg.SCH_RUN_COUNT = 5 ∧
    (after (.registerWrite .smb (BitVec.ofNat 24 Reg.SCH_RUN_COUNT) 5) upS).reg Reg.SCH_RUN_COUNT = 0 := by decide +kernel
theorem witness_UnmappedAccessReported : upS.up = true ∧ rowAt 0xFFFFFC = none ∧ absentAt upS 0xFFFFFC = false ∧
    upS.reg Reg.GBL_ERR_STATUS = 0 ∧ (rowAt 0).isSome = true ∧ rowAt 0x480014 = none ∧
    absentAt { upS with ident := { half := true } } 0x480014 = true := by decide +kernel
theorem test_unmapped : (after (.unmappedAccess (.bar0 .smb) 0xFFFFFC false 0) upS).reg Reg.GBL_ERR_INFO = 32 ∧
    (after (.unmappedAccess (.bar0 .smb) 0xFFFFFC false 0) upS).out.head? = some (.bar0Data .smb 0) := by decide +kernel
theorem witness_ObserverWriteDropped : (rowAt 0x200000).isSome = true ∧ absentAt upS 0x200000 = false ∧
    upS.ownsPath .pf1 = false ∧ nonOwnerOk .pf1 0x200000 = false ∧ (rowAt 0x480000).isSome = true ∧
    absentAt { upS with ident := { half := true } } 0x480000 = true := by decide +kernel
theorem test_observer : (after (.registerWrite .pf1 0x200000 0) upS).bit Reg.GBL_ERR_STATUS 2 = true ∧
    (after (.registerWrite .pf1 0x200000 0) upS).reg 0x200000 = upS.reg 0x200000 := by decide +kernel
theorem witness_EventMaskAndPendingWrites : accepts .pf0 (Reg.GBL_EVT_MASK + 4 * 47) 0 upS ∧
    accepts .pf0 (Reg.GBL_EVT_PEND + 4 * 47) 0 upS ∧
    ((upS.setReg Reg.GBL_EVT_PEND 4).reg Reg.GBL_EVT_PEND).getLsbD 2 = true ∧
    accepts .pf0 Reg.GBL_EVT_PEND 4 (upS.setReg Reg.GBL_EVT_PEND 4) ∧ 48 ≤ (63 : BitVec 6).toNat ∧
    2047 < msixVectors .pf0 ∧ upS.inFlr .pf0 = false ∧ msixVectors .pf1 ≤ 2047 := by
  and_intros <;> first | exact accepts_of (by decide +kernel) | decide +kernel
theorem test_event_stays_pending :
    (after (.eventPendClear .pf0 0 4 4) (upS.setReg Reg.GBL_EVT_PEND 4)).reg Reg.GBL_EVT_PEND = 4 ∧
    (after (.eventPendClear .pf0 0 4 0) (upS.setReg Reg.GBL_EVT_PEND 4)).reg Reg.GBL_EVT_PEND = 0 := by decide +kernel
theorem witness_SnapshotsAndCycleRead : accepts .pf1 Reg.GBL_SNAP (BitVec.ofNat 32 (256 + 31)) upS ∧
    accepts .pf1 Reg.GBL_SNAP (BitVec.ofNat 32 (512 + (upS.snapOf .pf1).block.toNat)) upS := by
  and_intros <;> exact accepts_of (by decide +kernel)

/-- The host and then the BMC are ranked, with a heartbeat timeout. -/
def rankS : State := State.setReg { upS with own := { st := .claim } } Reg.GBL_OWN_POLICY 0x01000009

theorem witness_OwnershipClaims : rankS.up = true ∧ accepts .pf0 Reg.GBL_OWN_CLAIM 1 rankS ∧ rankS.own.st = .claim ∧
    Master.host ∈ ranking rankS ∧ Master.bmc ∈ ranking rankS ∧ accepts .smb Reg.GBL_OWN_CLAIM 1 rankS ∧
    upS.own.st = .owned ∧ upS.own.owner = .host ∧ pathPresent rankS .host = true ∧
    ({ rankS with own := { firstClosed := true } } : State).own.st = .vacant ∧ Master.conductor ∉ ranking rankS ∧
    ({ rankS with own := { firstClosed := true } } : State).own.firstClosed = true ∧
    pathPresent { rankS with own := { firstClosed := true } } .host = true ∧
    ({ rankS with own := { firstClosed := false } } : State).own.firstClosed = false ∧
    accepts .pf0 Reg.GBL_OWN_CLAIM 1 { rankS with own := { firstClosed := false } } ∧
    accepts .pf0 Reg.GBL_OWN_CLAIM 1 { rankS with own := { firstClosed := true } } ∧ accepts .smb Reg.GBL_OWN_CLAIM 1 upS ∧
    accepts .bonnet Reg.GBL_OWN_CLAIM 1 upS ∧
    accepts .pf0 Reg.GBL_OWN_CLAIM 0 rankS ∧ upS.own.st ≠ .claim := by
  and_intros <;> first | exact accepts_of (by decide +kernel) | decide +kernel
theorem test_claim_window :
    (after .claimWindowClose { rankS with own := { st := .claim, claimBmc := true } }).own.owner = .bmc ∧
    (after .claimWindowClose { rankS with own := { st := .claim, claimBmc := true, claimHost := true } }).own.owner = .host ∧
    (after .claimWindowClose rankS).own.st = .vacant := by decide +kernel
theorem witness_OwnershipEnds : accepts .pf0 Reg.GBL_OWN_BEAT 0 upS ∧
    (let s : State := { rankS with own := { st := .owned, owner := .host } }
     s.own.owner ≠ .none ∧ s.fld Reg.GBL_OWN_POLICY 24 8 ≠ 0 ∧ s.own.beatAt ≠ s.clock + 1 ∧
       pathPresent { s with host := {} } .host = false) ∧
    rankS.own.owner = .none ∧ pathPresent upS upS.own.owner = true ∧
    ({ rankS with own := { st := .owned, owner := .host, beatAt := 1 } } : State).own.beatAt = rankS.clock + 1 := by
  and_intros <;> first | exact accepts_of (by decide +kernel) | decide +kernel
theorem witness_PcieLinkAndFunctionResets : upS.up = true ∧ upS.lks.armed = false ∧ upS.lks.blocks = [] ∧
    (let s : State := State.setReg { upS with lks := { armed := true } } Reg.LKS_SINK 1
     s.lks.armed = true ∧ sinkNow s = 1) ∧ sinkNow (State.setReg { upS with lks := { armed := true } } Reg.LKS_SINK 2) ≠ 1 ∧
    upS.host.dlActive = true ∧ upS.host.perst = false ∧ ({ upS with host := { perst := true } } : State).host.perst = true ∧
    ({ upS with boot := { stage := .porHeld } } : State).up = false := by decide +kernel
theorem witness_SmbusTarget : upS.up = true ∧ smbUp { upS with boot := { stage := .halted } } = true ∧
    ({ upS with host := { smbRead := some 0xFFFFFF } } : State).host.smbRead = some 0xFFFFFF ∧ (0xFFFFFF : Word32).toNat < 2 ^ 24 ∧
    upS.host.smbRead = none ∧ upS.host.smbStatus = 0 ∧ ({ upS with host := { smbStatus := 9 } } : State).host.smbStatus ≠ 0 ∧
    ({ upS with host := { smbAlert := true } } : State).host.smbAlert = true := by decide +kernel
theorem witness_JtagInstructions : upS.boot.stage ≠ .off ∧ upS.sch.st = .idle ∧ runS.sch.st = .running ∧
    disruptive upS.host.jtag = false ∧ disruptive (after .jtagExtest upS).host.jtag = true ∧
    ({ upS with bnt := { debugUnlock := true } } : State).unlocked = true ∧ jtagOf 0xFF = .bypass ∧
    ({ upS with boot := { stage := .off } } : State).boot.stage = .off := by decide +kernel
theorem test_jtag_refused : (after .jtagExtest runS).host.jtag = .bypass ∧ (after .jtagExtest runS).pendBit 8 = true := by
  decide +kernel
theorem witness_ConfigurationCrcSweep : upS.up = true ∧ upS.host.sweepDirty = false ∧
    (upS.setReg Reg.GBL_CFGCRC_CTRL 1).fld Reg.GBL_CFGCRC_CTRL 0 2 = 1 ∧
    (upS.setReg Reg.GBL_CFGCRC_CTRL 2).fld Reg.GBL_CFGCRC_CTRL 0 2 = 2 ∧
    ({ upS with host := { sweepDirty := true } } : State).host.sweepDirty = true := by decide +kernel

theorem witness_CycleBegins : runS.up = true ∧ startOpen (reopen runS) = true ∧
    ((throttleEnd (reopen runS)).bind lfcWait).any (fun u => startOpen (reopen u) && treeOut (reopen u) == 0 &&
      !isReexec (reopen u) && (reopen u).sch.applyFrozen == false && (reopen u).reg Reg.SCH_RUN_COUNT == 0) = true ∧
    ((throttleEnd (reopen (runS.setReg Reg.SCH_RUN_COUNT 1))).bind lfcWait).any (fun u => startOpen (reopen u) &&
      (reopen u).reg Reg.SCH_RUN_COUNT == 1) = true ∧
    (let s : State := { runS with sch := { runS.sch with highest := 1 } }
     startOpen (reopen s) = true ∧ ((throttleEnd (reopen s)).bind lfcWait).any (fun u => isReexec (reopen u)) = true) ∧
    runS.sch.opened = some (nextNum runS) ∧ startFree runS = true ∧ (runS.plat.lfcEn && runS.pwr.longHold) = false ∧
    startOpen (reopen (runS.setReg Reg.SCH_CTRL 1)) = false := by decide +kernel
theorem test_cycle_begins : (after .cycleStart runS).sch.phase = .issue ∧ (after .cycleStart runS).sch.highest = 1 ∧
    (after .cycleStart (runS.setReg Reg.SCH_RUN_COUNT 1)).paused = true := by decide +kernel

/-- The image has these words in slot 0 of cluster 0, from BP 0 on. -/
def wordS (l : List InstrWord) : State :=
  { issS with clu := { tier := (List.range l.length).map (fun i => (i, l.getD i nopWord)) } }

/-- A place of cluster 0 and slot 0. -/
def place (bp : BitVec 8) : Place := { cluster := 0, bp := bp, slot := 0 }

theorem witness_WordsOfBooleanProcessorsIssue : issS.up = true ∧ (place 255).cluster.toNat < issS.clusters ∧
    (place 255).slot.toNat < issS.N ∧ issS.sch.exec.isSome = true ∧ issS.sch.phase = .issue ∧
    issS.sch.exec.all (fun e => !issueOver issS e && !headBlocked issS e.ns) = true ∧ treeOut issS = 0 ∧
    issS.sch.slot ≤ (place 255).slot.toNat ∧
    (slotIssues 0 issS).any (fun p => p.2.sch.slot == 0 && p.2.sch.issued == [] && tierWord p.2 0 255 0 == nopWord) = true ∧
    fits isNop 255 (tierWord issS 0 255 0) = true ∧
    wordParityOk (tierWord issS 0 255 0) = true ∧ isNop (kindOf 255 (tierWord issS 0 255 0)) = true ∧
    isCnsWrite (kindOf 0 wCns) = true ∧ isShadowWrite (kindOf 0 wShadow) = true ∧ isSendWrite (kindOf 0 wSend) = true ∧
    isAddrBit (kindOf 0 wAddr) = true ∧ isWdataBit (kindOf 0 wData) = true ∧ isIssueOf 0 (kindOf 0 (wIssue 0)) = true ∧
    isIssueOf 1 (kindOf 0 (wIssue 1)) = true ∧ isIssueOf 2 (kindOf 0 (wIssue 2)) = true ∧
    isIssueOf 3 (kindOf 0 (wIssue 3)) = true ∧ isIssueOf 0x10 (kindOf 0 (wIssue 0x10)) = true ∧
    isIssueOf 0x11 (kindOf 0 (wIssue 0x11)) = true ∧ isVerify (kindOf 0 wVerify) = true ∧
    fits isNop 0 wCns = false ∧ wordParityOk (tierWord (wordS [0]) 0 0 0) = false ∧ runS.sch.exec = none := by decide +kernel
/-- The first cycle with every slot issued. -/
def overS : State := { issS with sch := { issS.sch with slot := 4 } }
theorem test_issue_words :
    (after (.instrCnsWrite (place 0)) (wordS [wCns])).sch.infl.map (fun e => e.kind) = [EffKind.cns 5 false] := by decide +kernel
theorem test_issue_parity : (after (.instrNop (place 0)) (wordS [0])).bit (cluReg 0 4) 0 = true := by decide +kernel
theorem witness_ResultsTakeEffect : 39 < 40 ∧ 63 < 64 ∧ issS.sch.exec.isSome = true := by decide +kernel
theorem witness_BoundarySteps :
    (overS.sch.exec.isSome = true ∧ overS.sch.phase = .issue ∧ stepsOver overS = true ∧
      (clocksUntil 8192 stepsOver overS).isSome = true) ∧
    (runS.sch.exec = none ∧ cpS.sch.exec.isSome = true ∧ cpS.sch.phase = .commitPoint ∧ commitOpen cpS = true) ∧
    cpS.sch.exec.all (fun e => (clockArrive (mergeCopy e.copy (mergeParity 3 e cpS))).sch.exec.isSome) = true ∧
    commitOpen { cpS with sch := { cpS.sch with cycles := [⟨1, 0, .ready, 0, 0, 0, 0, 0⟩, ⟨2, 0, .ready, 0, 0, 0, 0, 0⟩,
      ⟨3, 0, .ready, 0, 0, 0, 0, 0⟩] } } = false := by decide +kernel
theorem test_boundary : (after .boundaryDrain overS).sch.phase = .commitPoint ∧
    (after .commitPointPass cpS).sch.committed = 1 ∧ (after .commitPointPass cpS).sch.exec = none := by decide +kernel
theorem witness_OutcomeAtB7 : issS.pwr.parked.any (parkFatal issS) = false ∧
    ({ issS with pwr := { parked := [(8, 0)] } } : State).pwr.parked.any (parkFatal { issS with pwr := { parked := [(8, 0)] } }) = true ∧
    reported { issS with clu := { cause := [(0, 0x10)] } } (BitVec.ofNat 8 (2 ^ 4)) = true ∧
    reported { issS with clu := { cause := [(0, 0x80)] } } (BitVec.ofNat 8 (2 ^ 7)) = true ∧
    reported { issS with clu := { cause := [(0, 1)] } } (BitVec.ofNat 8 (2 ^ 0)) = true ∧
    (∀ b, b < 8 → reported issS (BitVec.ofNat 8 (2 ^ b)) = false) := by decide +kernel
theorem witness_FaultStopAndReplay : issS.sch.st ≠ .faultStop ∧
    ({ issS with sch := { issS.sch with parityCnt := [(1, 3)] } } : State).sch.parityCnt.find? (fun p => p.1 == 1) = some (1, 3) ∧
    issS.sch.parityCnt.find? (fun p => p.1 == 1) = none := by decide +kernel
theorem witness_RunControl : accepts .pf0 Reg.SCH_CTRL (withBits (runS.reg Reg.SCH_CTRL) 0 1 1) runS ∧ runS.sch.st = .running ∧
    runS.sch.exec = none ∧ faultHeld runS = false ∧ issS.sch.exec.isSome = true ∧
    faultHeld { upS with sch := { st := .faultStop } } = true ∧
    accepts .pf0 Reg.SCH_CTRL (withBits (upS.reg Reg.SCH_CTRL) 0 1 0) { upS with sch := { st := .faultStop } } ∧
    accepts .pf0 Reg.SCH_CTRL (withBits (upS.reg Reg.SCH_CTRL) 0 1 0) upS ∧
    (installBusy upS && upS.paused) = false ∧
    (let s : State := { upS with load := { busy := true } }.setReg Reg.SCH_CTRL 1
     (installBusy s && s.paused) = true ∧ faultHeld s = false) ∧
    accepts .pf0 Reg.SCH_CTRL (withBits (upS.reg Reg.SCH_CTRL) 1 2 3) upS ∧ powTo upS = .on ∧
    accepts .pf0 Reg.SCH_RUN_COUNT 0xFFFFFFFF upS ∧ (upS.setReg Reg.SCH_HOLD_LIMIT 1).fld Reg.SCH_HOLD_LIMIT 0 16 ≠ 0 ∧
    ({ upS with sch := { holdRun := 1 } } : State).sch.holdRun ≠ 0 ∧ upS.sch.holdRun = 0 ∧
    upS.sch.holdRaised = false ∧ powTo { upS with pwr := { mode := .nap } } ≠ .on := by
  and_intros <;> first | exact accepts_of (by decide +kernel) | decide +kernel
theorem test_pause : (after (.pauseSet .pf0) runS).sch.st = .paused ∧ (after (.pauseSet .pf0) runS).pendBit 0x084 = true ∧
    (after (.depthSet .pf0 3) runS).depth = runS.depth ∧ (after (.depthSet .pf0 1) runS).depth = 1 := by decide +kernel
theorem witness_Applies : accepts .pf0 Reg.SCH_APPLY 1 upS ∧ installBusy upS = false ∧ upS.pwr.mode = .on ∧ upS.sch.applyT = none ∧
    installBusy { upS with load := { busy := true } } = true ∧ ({ upS with pwr := { mode := .nap } } : State).pwr.mode ≠ .on ∧
    (let s : State := { runS with sch := { runS.sch with applyT := some 1 } }
     s.sch.applyFrozen = false ∧ s.sch.exec = none ∧ s.sch.phase = .start ∧ s.U = 0 ∧ cycLe (1 - 1) s.sch.committed = true ∧
       s.sch.ckptCopy = none ∧ s.sch.st ≠ .rewind ∧ applyIsFrozen s = false) ∧
    applyIsFrozen { runS with staged := { patch := [(0, some 0)], any := true } } = true ∧
    ({ runS with sch := { runS.sch with applyT := some 1, applyFrozen := true } } : State).sch.applyFrozen = true := by
  and_intros <;> first | exact accepts_of (by decide +kernel) | decide +kernel
theorem test_apply : (after (.applyGo ⟨.pf0, true⟩) runS).sch.applyT = some 1 ∧
    (after (.applyGo ⟨.pf0, false⟩) runS).fld Reg.SCH_APPLY 8 8 = 3 ∧
    (after (.applyExecute true) { runS with sch := { runS.sch with applyT := some 1 } }).sch.applyT = none := by decide +kernel
theorem witness_CheckpointsAndRewinds :
    accepts .pf0 Reg.SCH_CKPT_CTRL (upS.reg Reg.SCH_CKPT_CTRL ||| 0x10000) upS ∧
    (let s : State := { upS with sch := { ckptCopy := some { slot := 63, num := 1 } } }
     s.mem.bankBad.isEmpty = true ∧ s.mem.hbmErr = [] ∧ eccFatal (fun k => false && ckptMarked s k) s = false ∧
       (false || (true && !s.mem.bankBad.isEmpty) || eccFatal (fun k => false && ckptMarked s k) s) = false) ∧
    (let s : State := { upS with mem := { hbmErr := [(0, 2)] } }
     eccFatal (fun _ => true) s = true) ∧
    accepts .pf0 Reg.SCH_REWIND (BitVec.ofNat 32 (128 + 63)) upS ∧
    (let s : State := { upS with sch := { st := .paused, slots := [(63, { valid := true })] } }
     s.sch.st = .paused ∧ s.sch.ckptCopy = none ∧ (mget s.sch.slots {} 63).valid = true ∧ (mget s.sch.slots {} 0).valid = false) ∧
    upS.sch.st ≠ .paused ∧ upS.sch.st ≠ .faultStop ∧
    (let s : State := { upS with sch := { rewindSlot := some 63 } }
     s.sch.rewindSlot = some 63 ∧ (!true || slotDamaged (mget s.sch.slots {} 63) s) = false ∧
       (!false || slotDamaged (mget s.sch.slots {} 63) s) = true ∧ s.sch.applyFrozen = false ∧ s.sch.exec = none) := by
  and_intros <;> first | exact accepts_of (by decide +kernel) | decide +kernel
theorem test_rewind : (after (.rewindGo ⟨.pf0, true⟩ 0) upS).fld Reg.SCH_REWIND 8 8 = 9 ∧
    (after (.rewindGo ⟨.pf0, true⟩ 0) { upS with sch := { st := .paused } }).fld Reg.SCH_REWIND 8 8 = 12 ∧
    (after (.rewindDone true) { upS with sch := { rewindSlot := some 5, slots := [(5, { valid := true, num := 7 })] } }).sch.committed = 7 := by
  decide +kernel

/-- Module 0, the conductor, with module 1 below it on lane port 0. -/
def condS (m : Word64) : State :=
  { runS with lnk := { ports := [(0, { st := .active, inbox := [.wave [m]] })] }
              wave := { members := 3, children := [0] } }

/-- Module 1, with the conductor above it on lane port 0, and a cycle that is READY. -/
def leafS (m : Word64) : State :=
  { runS with lnk := { ports := [(0, { st := .active, inbox := [.wave [m]] })] }
              wave := { members := 3, module := 1, parent := some 0 }
              sch := { runS.sch with cycles := [⟨1, 0, .ready, 1, 0, 0, 0, 0⟩] } }
/-- The conductor alone, whose own READY was issued in the clock before. -/
def soloS : State :=
  { runS with clock := 1, wave := { members := 1, selfMsgs := [(0, waveMsg 1 0 0 0 1)] } }

theorem witness_CommitWaveMessages : let condS := condS (waveMsg 1 0 1 0 1); let leafS := leafS (waveMsg 1 0 1 0 1)
    condS.up = true ∧ condS.img.valid = true ∧
    (let m := waveMsg 1 0 1 0 1
     laneHas condS 0 (.wave [m]) = true ∧ carriesDesign (laneTake 0 (.wave [m]) condS) 0 = true ∧
       wmType m = 1 ∧ wmLegal m = true ∧ rightPort condS 0 m = true ∧ wmGen m = condS.wave.condGen ∧ wmOrigin m = 1 ∧
       wmCycle m condS.wave.c = condS.wave.c + 1 ∧ condS.wave.readys.contains (1, 1) = false ∧
       laneHas leafS 0 (.wave [m]) = true ∧ rightPort leafS 0 m = false) ∧
    laneHas (Tests.condS (waveMsg 5 0 0 1 1)) 0 (.wave [waveMsg 5 0 0 1 1]) = true ∧ wmType (waveMsg 5 0 0 1 1) = 5 ∧ laneHas upS 0 (.wave []) = false ∧
    isConductor condS = true ∧ condS.sch.st ≠ .faultStop ∧ condS.wave.members.getLsbD 0 = true ∧
    condS.wave.readys.contains (condS.wave.c + 1, BitVec.ofNat 6 0) = false ∧ goesUp (waveMsg 1 0 1 0 1) = true ∧
    wmType (waveMsg 3 0 1 0 1) = 3 ∧ rightPort condS 0 (waveMsg 3 0 1 0 1) = true ∧
    (soloS.img.valid && isConductor soloS && soloS.sch.st != .faultStop && condComplete soloS) = false ∧
    (let s : State := { soloS with wave := { soloS.wave with readys := [(1, 0)] } }
     (s.img.valid && isConductor s && s.sch.st != .faultStop && condComplete s) = true) ∧
    soloS.wave.selfMsgs.any (fun q => q.2 == waveMsg 1 0 0 0 1) = true ∧
    (clocksUntil 4 (fun u => !u.wave.selfMsgs.any (fun q => q.2 == waveMsg 1 0 0 0 1)) soloS).isSome = true := by decide +kernel
theorem witness_CommitWaveMessages_leaf : let condS := condS (waveMsg 1 0 1 0 1); let leafS := leafS (waveMsg 2 0 0 0 1)
    carriesDesign leafS 0 = true ∧ leafS.wave.children = [] ∧
    (let m := waveMsg 2 0 0 0 1
     wmLegal m = true ∧ rightPort leafS 0 m = true ∧ wmType m = 2 ∧ wmCycle m leafS.sch.committed =
       leafS.sch.committed + BitVec.ofNat 64 (leafS.sch.commitQ.length + b2n leafS.wave.lateHeld + 1) ∧
       cycLe (wmCycle m leafS.sch.committed) leafS.sch.committed = false ∧
       (leafS.sch.cycles.find? (fun c => c.num == wmCycle m leafS.sch.committed)).isSome = true) ∧
    (let s : State := { leafS with sch := { leafS.sch with commitQ := [1] } }
     commitWaits s = false ∧ s.wave.lateHeld = false ∧ s.sch.cycles = [⟨1, 0, .ready, 1, 0, 0, 0, 0⟩] ∧ s.sch.commitQ = [1] ∧
       s.sch.committed + 1 = 1) ∧
    cycLe (wmCycle (waveMsg 2 0 0 0 0) leafS.sch.committed) leafS.sch.committed = true ∧
    rightPort leafS 0 (waveMsg 4 0 0 1 1) = true ∧ wmType (waveMsg 4 0 0 1 1) = 4 ∧
    (upS.img.valid && carriesDesign upS 0) = false ∧
    (condS.setReg Reg.SCH_WAVE_TIMEOUT 1).fld Reg.SCH_WAVE_TIMEOUT 0 16 ≠ 0 ∧ condS.wave.timedOut ≠ some (condS.wave.c + 1) ∧
    isConductor leafS = false := by decide +kernel
theorem test_wave_messages : (after (.commitReceive (.lane 0) (waveMsg 2 0 0 0 1)) (leafS (waveMsg 2 0 0 0 1))).sch.commitQ.length = 1 ∧
    (clockTick (after (.commitReceive (.lane 0) (waveMsg 2 0 0 0 1)) (leafS (waveMsg 2 0 0 0 1)))).sch.committed = 1 ∧
    (after (.readyReceive (.lane 0) (waveMsg 1 0 1 0 1)) (condS (waveMsg 1 0 1 0 1))).wave.readys = [(1, 1)] ∧
    (after (.squashRelayReceive (.lane 0) (waveMsg 4 0 0 7 1)) (leafS (waveMsg 4 0 0 7 1))).wave.gen = 7 ∧
    (after (.readyReceive (.lane 0) (waveMsg 1 0 1 0 1)) (leafS (waveMsg 1 0 1 0 1))).sch.st = .faultStop := by decide +kernel
theorem test_wave_inside : (after (.readyReceive .internal (waveMsg 1 0 0 0 1)) soloS).wave.readys = [(1, 0)] := by decide +kernel

theorem witness_LoadRequests : upS.load.busy = false ∧ accepts .pf0 Reg.SCH_LOAD_CTRL 1 upS ∧ accepts .pf0 Reg.SCH_LOAD_CTRL 3 upS ∧
    accepts .pf0 Reg.SCH_LOAD_CTRL 5 upS ∧ installRequest upS false = 3 ∧ installRequest runS true = 9 ∧
    stageRequest (upS.setReg (Reg.SCH_LOAD_ADDR + 8) 4096) true = 0 ∧ installRequest (upS.setReg (Reg.SCH_LOAD_ADDR + 8) 4096) true = 0 ∧
    upS.pwr.mode = .on ∧ upS.sch.applyT = none ∧ ({ upS with load := { busy := true } } : State).load.busy = true ∧
    accepts .pf0 Reg.SCH_LOAD_CTRL 1 { upS with load := { busy := true } } := by
  and_intros <;> first | exact accepts_of (by decide +kernel) | decide +kernel
theorem test_load_request : (after (.loadInstall .pf0 false) upS).fld Reg.SCH_LOAD_STATUS 8 8 = 3 ∧
    (after (.loadDiscard .pf0) { upS with staged := { any := true } }).staged = {} := by decide +kernel

/-- A load in a phase. -/
def loadS (ph : LoadPhase) (stage : Bool) : State := { upS with load := { busy := true, phase := ph, stage := stage } }
/-- The header of a change of 20 bytes of PATCH, and of no entry, without its CRC. -/
def imgBase : List Byte :=
  leBytes 4 0x4F45485A ++ leBytes 2 1 ++ leBytes 2 1 ++ leBytes 2 0x9640 ++ leBytes 2 32 ++ [0, 1] ++ leBytes 2 1 ++
    [161, 157, 77, 177, 113, 181, 130, 235] ++ List.replicate 264 0 ++ leBytes 2 12 ++ leBytes 2 0 ++ leBytes 4 20 ++ leBytes 8 0x200 ++ List.replicate 204 0
def imgHdr : List Byte := imgBase ++ leBytes 4 (crc32c imgBase).toNat
theorem imgBase_length : imgBase.length = 508 := by decide +kernel
theorem hEntries_imgHdr : hEntries imgHdr = hEntries imgBase := by
  have hs : hSections imgHdr = hSections imgBase := leAt_append _ _ _ _ (by rw [imgBase_length]; omega)
  unfold hEntries
  rw [hs]
  refine List.map_congr_left (fun k hk => ?_)
  have hk : k < 12 := by have := List.mem_range.mp hk; omega
  simp (disch := (rw [imgBase_length]; omega)) only [imgHdr, leAt_append]
/-- A stage load in HEADER, of a change to an installed image. -/
def changeS : State := { loadS .header true with img := { valid := true, n := 32, partitions := 1 } }
theorem imgHdr_fails : imgHeaderFails changeS imgHdr 548 true = [] := by
  have hc : ((crc32c (imgHdr.take 0x1FC)).toNat != leAt imgHdr 0x1FC 4) = false := by
    rw [imgHdr, leAt_sealed_crc _ imgBase_length]
    exact bne_self_eq_false _
  have hl (o n : Nat) (h : o + n ≤ 508) : leAt imgHdr o n = leAt imgBase o n :=
    leAt_append _ _ _ _ (by rw [imgBase_length]; omega)
  have hb (o n : Nat) (h : o + n ≤ 508) : beAt imgHdr o n = beAt imgBase o n :=
    beAt_append _ _ _ _ (by rw [imgBase_length]; omega)
  have hz (o n : Nat) (h : o + n ≤ 508) : hZero imgHdr o n = hZero imgBase o n := by unfold hZero; rw [hl o n h]
  have hs : hSections imgHdr = hSections imgBase := hl _ _ (by omega)
  have hn : hN imgHdr = hN imgBase := hl _ _ (by omega)
  have hp : hPartition imgHdr = hPartition imgBase := hl _ _ (by omega)
  have hq : hPartitions imgHdr = hPartitions imgBase := hl _ _ (by omega)
  unfold imgHeaderFails fieldFails identityFails tableFails
  rw [hc]
  simp (disch := omega) only [hs, hn, hp, hq, hz, hl, hb, hEntries_imgHdr]
  decide +kernel
/-- A header of no section whose BODY_DIGEST is right. -/
def digHdr : List Byte := List.replicate 32 0 ++ (beBytes 48 (sha384 []).toNat ++ List.replicate 432 0)
theorem digHdr_entries : hEntries digHdr = [] := by decide +kernel
theorem digHdr_passes (s : State) : passFails s digHdr {} {} = [] := by
  have h : digestOk s.clusters digHdr {} = true := by
    unfold digestOk
    rw [digHdr_entries, List.flatMap_nil]
    unfold digHdr
    rw [List.drop_left' (by simp), List.take_left' (by simp [beBytes, leBytes])]
    exact beq_self_eq_true _
  unfold passFails tagFails
  rw [h, digHdr_entries]
  rfl
theorem stageFails_digHdr : firstFail (stageFails (loadS .verify true) digHdr {} {}) = none := by
  unfold stageFails
  rw [digHdr_passes]
  decide +kernel
theorem installFails_digHdr : firstFail (installFails (loadS .verify false) digHdr {} {}) = none := by
  unfold installFails
  rw [digHdr_passes]
  decide +kernel
/-- A load in KEY whose EPH_KEY is the base point of P-384. -/
def keyS : State :=
  { loadS .key false with load := { (loadS .key false).load with
      header := List.replicate 0xB0 0 ++ beBytes 48 0xaa87ca22be8b05378eb1c71ef320ad746e1d3b628ba79b9859f741e082542a385502f25dbf55296c3a545e3872760ab7 ++
        beBytes 48 0x3617de4a96262c6f5d9e98bf9292dc29f8f41dbd289a147ce9da3113b5f0b8c00a60b1ce1d7e819d7a431d7c90ea0e5f } }

theorem witness_LoadPhases : (loadS .header false).load.busy = true ∧ (loadS .header false).load.phase = .header ∧
    changeS.load.busy = true ∧ changeS.load.phase = .header ∧
    (firstFail (imgHeaderFails (loadS .header false) [] (loadLen (loadS .header false)) false)).isSome = true ∧
    ephOnCurve (loadS .key false).load.header = false ∧ ephOnCurve keyS.load.header = true ∧
    bodyFits (loadS .verify true).clusters digHdr {} = true ∧
    (firstFail (internalFails [] { dmaFail := some (0, 0) })).isSome = true ∧
    (firstFail (stageFails (loadS .verify true) [] {} { dmaFail := some (0, 0) })).isSome = true ∧
    bodyFits (loadS .write true).clusters (loadS .write true).load.header {} = true ∧
    firstFail (tagFails 0 (loadS .write true).clusters [] {} {} ++ internalFails [] {}) = none ∧
    (firstFail (tagFails 0 (loadS .write true).clusters [] {} {} ++ internalFails [] { internalFail := true })).isSome = true ∧
    upS.load.busy = false ∧ (loadS .write true).load.phase ≠ .verify := by decide +kernel
theorem witness_LoadPhases_pass : firstFail (imgHeaderFails changeS imgHdr 548 true) = none ∧
    firstFail (stageFails (loadS .verify true) digHdr {} {}) = none ∧
    firstFail (installFails (loadS .verify false) digHdr {} {}) = none :=
  ⟨by rw [imgHdr_fails]; rfl, stageFails_digHdr, installFails_digHdr⟩
theorem test_load_write : (after (.loadWriteDone {} {}) (loadS .write true)).fld Reg.SCH_LOAD_STATUS 8 8 = 0 ∧
    (after (.loadWriteDone {} {}) (loadS .write true)).load.busy = false ∧
    (after (.loadWriteDone {} { dmaFail := some (0, 0) }) (loadS .write false)).fld Reg.SCH_LOAD_STATUS 8 8 = 15 := by decide +kernel

/-- The image uses bank 0 and has an HBM memory at its first word. -/
def memS : State := { runS with img := { runS.img with memdecl := { bankUse := [1], mems := [⟨0, 1024, 0, 0, false⟩] } } }

theorem witness_PortMemoryOperations : memPlace memS 8191 = some (0, 8191) ∧ (memPlace memS (2 ^ 39 + 1023)).isSome = true ∧
    memPlace memS 8192 = none ∧ memPlace memS (2 ^ 39 + 1024) = none ∧ memS.mem.queue = [] ∧ queueFull memS 1 0 = false ∧
    (let s : State := { memS with mem := { queue := [⟨1, 0, 3, 9, 15, false, 0⟩] } }
     s.mem.queue.any (fun e => e.cyc == 1 && e.q == 0 && e.key == 3 && !e.committed) = true ∧
       (s.mem.queue.filter (fun e => e.q == 0 && e.key == 3)).getLast? = some ⟨1, 0, 3, 9, 15, false, 0⟩) ∧
    (let s : State := { memS with mem := { allFour := some 1 } }
     s.mem.allFour = some 1) := by
  decide +kernel
theorem test_memory_add : merged (memAtomic 1 ⟨0, 0, 2, 8191, 0xFFFFFFFFFFFFFFFF, 0⟩
      { memS with mem := { banks := [(8191, 1)] } }) 0 8191 = 0 ∧
    merged (memWrite 1 ⟨0, 0, 1, 8191, 0xFF, 0xF⟩ { memS with mem := { banks := [(8191, 0x30)] } }) 0 8191 = 0x3F := by decide +kernel

/-- An outstanding read of context 7 of cluster 0, and a committed entry of a queue. -/
def readS (st : ReadStage) : State :=
  { memS with mem := { reads := [{ cluster := 0, ctx := 7, cyc := 1, stage := st, value := 5, addr := 0, key := some 0, hbm := true }]
                       queue := [⟨1, 0, 3, 9, 15, true, 0⟩, ⟨1, 512, 0, 9, 15, true, 0⟩] } }

theorem witness_WordsReturnAndEntriesApply :
    ((readS (.arriving 0)).mem.reads.any (fun r => r.cluster == 0 && r.ctx == 7) = true ∧ 1 ≤ 256 ∧
      (clockTick^[1] (readS (.arriving 0))).mem.reads.any (fun r => r.cluster == 0 && r.ctx == 7) = false) ∧
    ((readS .hbmMissed).mem.reads.find? (fun r => r.cluster == 0 && r.ctx == 7 && r.stage == .hbmMissed)).isSome = true ∧
    mget (readS .hbmMissed).mem.pcBusy 0 (pcOf 0) ≤ (readS .hbmMissed).clock ∧
    (let s : State := { readS .hbmMissed with mem := { (readS .hbmMissed).mem with pcBusy := [(pcOf 0, 1)] } }
     s.clock < mget s.mem.pcBusy 0 (pcOf 0)) ∧
    (readS .hbmMissed).sch.fatal = false ∧ eccOf (readS .hbmMissed) 0 = 0 ∧
    eccOf { readS .hbmMissed with mem := { hbmErr := [(0, 2)] } } 0 = 2 ∧
    (oldestEntry (readS .call) 0).isSome = true ∧ portBTaken (readS .call) 0 = false ∧ readNow (readS .call) 3 = false ∧
    portBTaken { readS .call with mem := { bWindows := [(3, 0)] } } 0 = true ∧
    readNow { memS with mem := { reads := [{ cluster := 0, ctx := 0, cyc := 1, stage := .bankWait 0, value := 5, addr := 0, key := some 3,
                                             hbm := false }] } } 3 = true ∧
    (oldestEntry (readS .call) 512).isSome = true ∧ scheduledPc (readS .call) (pcOf 0) = false ∧
    (readS .call).mem.pcReqs.contains (pcOf 0, 1) = false ∧
    mget (readS .call).mem.pcBusy 0 (pcOf 0) ≤ (readS .call).clock ∧ scheduledPc (readS .hbmMissed) (pcOf 0) = true ∧
    scheduledPc (readS (.hbmSlot 0)) (pcOf 0) = true ∧ oldestEntry memS 1023 = none := by decide +kernel
theorem test_entry_applies : mget (after (.pendingWriteApply 0) (readS .call)).mem.banks 0 3 = 9 ∧
    mget (after (.pendingWriteApply 512) (readS .call)).mem.hbm none 0 ≠ none := by decide +kernel
theorem witness_RefreshOverrun : (31 : BitVec 6).toNat < 32 * upS.stacks ∧ (63 : BitVec 6).toNat < 32 * upS.stacks ∧
    insideWindow issS = false ∧ insideWindow upS = true ∧
    32 * ({ upS with ident := { half := true } } : State).stacks ≤ (63 : BitVec 6).toNat := by decide +kernel

/-- A BAR2 grant over the first 4 KiB. -/
def bar2S : State := { upS with bnt := { grants := [(15, some { nonce := 0, kind := 0, masked := false, write := true, pf1 := false,
                                                                cores := 0, base := 0, units := 1 })] } }

theorem witness_Bar2Accesses : (bar2Grant bar2S .pf0 (bar2Off 4088 true) false).isSome = true ∧
    bar2Place bar2S (bar2Off 4088 true) = some (0, 511) ∧ bar2Grant bar2S .pf0 (bar2Off 4096 true) false = none ∧
    bar2Grant bar2S .pf1 (bar2Off 0 true) false = none ∧ bankParityBad bar2S 511 = false ∧ bar2S.mem.bar2 = [] ∧
    portATaken bar2S 0 = false ∧ inBWindow bar2S 511 bar2S.clock = false ∧
    (let s : State := { bar2S with clock := 1, mem := { bWindows := [(511, 0)] } }
     inBWindow s 511 s.clock = true) ∧
    (let s : State := { bar2S with mem := { reads := [{ cluster := 0, ctx := 0, cyc := 1, stage := .bankWait 0, value := 5, addr := 0,
                                                        key := some 3, hbm := false }] } }
     portATaken s 0 = true) ∧
    (bar2Grant bar2S .pf0 (bar2Off 4088 true) true).isSome = true ∧ bar2WriteOk bar2S .pf0 = true ∧
    bar2WriteOk { bar2S with sch := { st := .running } } .pf0 = false := by decide +kernel
theorem test_bar2_write : (after (.bar2Write .pf0 4088 true 7) bar2S).mem.banks = [(511, 7)] ∧
    (after (.bar2Write .pf0 4092 false 7) bar2S).mem.banks = [(511, 7 * 2 ^ 32)] ∧
    (after (.bar2Write .pf1 0 true 7) bar2S).mem.banks = [] := by decide +kernel
theorem witness_BankPower : accepts .pf0 (Reg.MEM_BANK_PWR + 4 * 31) 0xFFFFFFFF upS ∧
    accepts .pf0 Reg.MEM_BANK_PWR 1 memS ∧ memS.bankUsed 0 = true ∧ bankAsked memS 0 = 0 ∧
    (let s := upS.setReg (Reg.MEM_BANK_PWR + 4 * 31) 0x80000000
     bankMoves s = true ∧ s.pwr.mode ≠ .nap ∧ bankQuiet s 511 = true) ∧ bankMoves upS = false := by
  and_intros <;> first | exact accepts_of (by decide +kernel) | decide +kernel
theorem witness_MarchRequests : accepts .pf0 Reg.MEM_MARCH_CTRL (BitVec.ofNat 32 (1024 + 511)) upS ∧
    accepts .pf0 Reg.MEM_MARCH_CTRL (BitVec.ofNat 32 (1536 + 511)) upS ∧ marching upS = false ∧ upS.pwr.mode = .on ∧
    bankPower upS 511 = 0 ∧ 511 < upS.bankCount ∧ (freeSpare upS 511).isSome = true ∧
    (upS.img.valid && upS.bankUsed 511) = false ∧ (true && memS.img.valid && memS.bankUsed 0) = true ∧
    marching { upS with mem := { marchPhase := .copy } } = true ∧
    ({ upS with mem := { marchPhase := .restore } } : State).mem.marchSelfTest = false ∧
    ({ upS with mem := { marchPhase := .restore, marchSelfTest := true } } : State).mem.marchSelfTest = true ∧
    (freeSpare { upS with mem := { spares := (List.range 512).map (fun i => (i, i)) } } 511).isNone = true ∧
    ({ upS with ident := { half := true } } : State).bankCount ≤ 511 := by
  and_intros <;> first | exact accepts_of (by decide +kernel) | decide +kernel
theorem test_march_request : (after (.marchPreserving .pf0 511 true) upS).mem.marchPhase = .copy ∧
    (after (.marchPreserving .pf0 511 true) upS).mem.marchSpare = 12 ∧
    (after (.marchDestructive .pf0 0 true) memS).fld Reg.MEM_MARCH_STATUS 8 8 = 4 := by decide +kernel

/-! ### Hatband, lanes and shared time -/

/-- The first cycle runs; cluster 0 has a flit to cluster 1 in flight, and port 0 (NI 288) may deliver late to cluster 2. -/
def hbdS : State :=
  { issS with
    clock := 10
    sch := { issS.sch with slot := 20 }
    img := { issS.img with
      route := [BitVec.ofNat 64 (288 + 2 ^ 24 * 2 + 2 ^ 35 * 6)]
      slotHbd := [BitVec.ofNat 64 (288 + 2 ^ 12 * 5 + 2 ^ 24 * 40)]
      slotLane := [BitVec.ofNat 64 (2 ^ 4 + 2 ^ 8 * 40 + 2 ^ 32 * 3 + 2 ^ 48 * 5)] }
    lnk := { recs := [{ port := 0, cyc := 1, txpos := 3, slot := 40, val := true, gen := 0 }] }
    hbd := { issS.hbd with
      flits := [{ src := 0, dst := 1, dir := false, ring := false, hops := 1, pos := 0, inBase := 7, lenM1 := 0, values := 1,
                  cyc := 1, injected := 7 }]
      unaccepted := mset [(linkKey (.segment 0 1), (3, 2))] (16, 0) (linkKey (.segment 1 2)) (3, 5) } }
/-- An upset of a word, and one of the sideband, on the last link of `hbdF`. -/
def wordUpset : FlitUpset := { link := 2, words := 1, dp := 0, side := 0, seq := 0, map := false }
def sideUpset : FlitUpset := { link := 2, words := 0, dp := 0, side := 1, seq := 0, map := false }

/-- The flit of `hbdS`. -/
def hbdF : Flit := { src := 0, dst := 1, dir := false, ring := false, hops := 1, pos := 0, inBase := 7, lenM1 := 0, values := 1,
                     cyc := 1, injected := 7 }

theorem witness_HatbandDeliveries : hbdS.up = true ∧ hbdS.hbd.flits.find? (fun f => f.src == 0 && f.pos == 0) = some hbdF ∧
    (∀ i, i < 3 → (clockTick^[i] hbdS).hbd.flits.contains hbdF = true) ∧ (clockTick^[3] hbdS).hbd.flits.contains hbdF = false ∧
    hbdS.sch.exec ≠ none ∧ hbdS.hbd.flits.find? (fun f => f.src == 1 && f.pos == 0) = none ∧ hbdS.curCycle = some 1 ∧
    (∀ j, j ≤ 1 → mget hbdS.clu.inValid false (4096 + (4095 + j) % 4096) = false ∧
      hbdS.clu.inArriving.contains (4096 + (4095 + j) % 4096) = false) ∧ (reopen hbdS).curCycle = some 1 ∧
    (match (reopen hbdS).hbdEntries[0]? with
     | some e => (findRoute (reopen hbdS).routes e).isSome = true ∧ isHubNi e.src = true ∧ lateAllowed (reopen hbdS) e.pos = true ∧
         redelivNext (reopen hbdS) e.src 0 0 0 1 = true ∧ ((entryRecs (reopen hbdS) e 1).take 1).all
          (fun y => match y with | some y => !y.stale && !y.delivNow | none => false) = true ∧ lateAllowed (reopen hbdS) 20 = false
     | none => False) ∧
    sentTimes hbdS ⟨.segment 0 1, 0, true⟩ 3 = 2 ∧ sentTimes hbdS ⟨.segment 1 2, 0, true⟩ 3 = 5 ∧
    sentTimes hbdS ⟨.segment 1 2, 0, false⟩ 3 = 1 ∧ onLink hbdS (.ingress 1) = [(hbdF, 3)] ∧
    hbdS.sch.st ≠ .faultStop := by
  and_intros <;> decide +kernel
theorem witness_FlitUpsets : wordUpset.link < flitLinks hbdF ∧ hbdS.clock ≤ checkClk hbdF wordUpset.link ∧
    (clocksUntil 64 (fun t => !t.hbd.flits.contains hbdF || checkClk hbdF wordUpset.link ≤ t.clock) hbdS).isSome = true ∧
    flitLinks hbdF ≤ ({ wordUpset with link := 3 } : FlitUpset).link ∧ vc0Check hbdS hbdF wordUpset = some .vc0Par ∧
    vc0Check hbdS hbdF sideUpset = some .sideband ∧
    checkClk hbdF ({ wordUpset with link := 0 } : FlitUpset).link < hbdS.clock := by
  and_intros <;> decide +kernel
theorem test_upset_cuts : (after (.inboundValueArrival 0 0 (some wordUpset)) hbdS).bit Reg.HBD_CAUSE 0 = true ∧
    (after (.inboundValueArrival 0 0 (some wordUpset)) hbdS).sch.exec.all (fun e => e.vc0 && e.aborted) = true := by decide +kernel
theorem test_flit_arrives : mget (after (.inboundValueArrival 0 0 none) hbdS).clu.inVal false (4096 + 7) = true ∧
    (after (.inboundValueArrival 0 0 none) hbdS).clock = 13 := by decide +kernel
/-- The packet of the late delivery that `hbdS` may send, and `hbdS` with a flit of VC1. -/
def lateV : VcFlit :=
  { vc := 1, pri := 3, opc := 0x1E, due := 10
    flit := { src := 288, dst := 2, dir := false, ring := false, hops := 6, pos := 5, inBase := 0, lenM1 := 0, values := 1, cyc := 1,
              injected := 10 } }
def vcS (v : VcFlit) : State := { hbdS with hbd := { hbdS.hbd with vcs := [v] } }
/-- A flipped bit of a value on the egress link. -/
def vcUpset0 : FlitUpset := { link := 0, words := 2 ^ 64, dp := 0, side := 0, seq := 0, map := false }
/-- One clock of VC1 to VC3 without other packets. -/
def vcNext (s : State) : State := let t := vcClock (fun _ => false) s; { t with clock := t.clock + 1 }

theorem test_late_delivery : (after (.lateDelivery 0 0 0 none false) hbdS).hbd.vcs = [lateV] ∧
    vcHeld hbdS { lateV with held := true } = true ∧ vcHeld { hbdS with sch := { hbdS.sch with exec := hbdS.sch.exec.map (fun e => { e with num := 2 }) } } { lateV with held := true } = false ∧
    (vcNext^[10] (vcS lateV)).clu.inVal = [] ∧ mget (vcNext^[11] (vcS lateV)).clu.inVal false (2 * 4096) = true := by
  decide +kernel
theorem test_vc_retransmission : ((vcNext^[1] (vcS { lateV with upset := some vcUpset0 })).hbd.vcs.all (fun v => v.lost && v.hop == 0)) = true ∧
    (vcNext^[5] (vcS { lateV with upset := some vcUpset0 })).reg (Reg.HBD_CNT + 16) = 1 ∧
    mget (vcNext^[15] (vcS { lateV with upset := some vcUpset0 })).clu.inVal false (2 * 4096) = true := by decide +kernel
/-- Two flits that meet at one link: PRI decides, then the channel, then the port after the one served last. -/
theorem test_vc_choice : vcPick {} [{ lateV with pri := 1 }, lateV] = some lateV ∧
    vcPick {} [{ lateV with vc := 2 }, lateV] = some lateV ∧
    vcPick {} [{ lateV with pri := 1, aged := true }, { lateV with vc := 2 }] = some { lateV with pri := 1, aged := true } ∧
    vcPick { last := 4096 + 288 } [lateV, { lateV with flit := { lateV.flit with src := 289 } }] =
      some { lateV with flit := { lateV.flit with src := 289 } } ∧
    vcCredit (List.replicate 4 { lateV with hop := 1 }) lateV = false ∧ vcCredit (List.replicate 3 { lateV with hop := 1 }) lateV = true ∧
    pastDateline { lateV.flit with dir := true } 5 = false ∧ pastDateline { lateV.flit with dir := true } 6 = true := by decide +kernel
theorem witness_LateTransport : (vcS lateV).hbd.vcs = [lateV] ∧ lateV.due ≤ (vcS lateV).clock ∧ lateV.lost = false ∧
    vcHeld (vcS lateV) lateV = false ∧ vc0On (vcS lateV) (vcKey lateV) = false ∧ (vcS lateV).curCycle = some lateV.flit.cyc ∧ (mget (vcS lateV).hbd.links {} (vcKey lateV)).nak = none ∧
    vc0On { hbdS with clock := 8 } (linkKey (.segment 0 0)) = true ∧
    [lateV].filter (fun v => vcKey v == vcKey lateV && vcCredit [lateV] v) ≠ [] ∧
    ({ lateV with hop := 8 } : VcFlit).hop = flitLinks lateV.flit ∧ hbdS.fld Reg.HBD_AGE 0 16 = 0x400 ∧
    (0x400 : Nat) ≤ ({ lateV with wait := 0x3FF } : VcFlit).wait + 1 ∧ vcCheck { lateV with upset := some vcUpset0 } vcUpset0 = some .vc0Par ∧
    ({ lateV with sent := 5 } : VcFlit).sent = 5 ∧
    nakFlit (vcS { lateV with hop := 1, seq := 3, sent := 1 }) (.egress 288) 3 = some { lateV with hop := 1, seq := 3, sent := 1 } ∧
    nakFlit (vcS { lateV with hop := 1, seq := 3, sent := 5 }) (.egress 288) 3 = some { lateV with hop := 1, seq := 3, sent := 5 } ∧
    nakFlit hbdS (.segment 0 1) 3 = none := by and_intros <;> decide +kernel
theorem test_hbd_nak : (after (.hbdNak ⟨.segment 1 2, 0, true⟩ 3 false) hbdS).sch.st = .faultStop ∧
    (after (.hbdNak ⟨.segment 0 1, 0, true⟩ 3 false) hbdS).sch.st = .running := by decide +kernel
/-- A TRAIN block of lane `n`, as it is and with its lane inverted. -/
def trainL (n : Nat) : AlignLane := ⟨2, BitVec.ofNat 64 (5 * 2 ^ 56 + n * 2 ^ 54 + 0x5A5A5A5A)⟩
def trainInv (n : Nat) : AlignLane := ⟨1, ~~~(trainL n).payload⟩

/-- Lane port 0 in a state. -/
def laneS (st : LaneState) : State := { runS with lnk := { ports := [(0, { st := st })] }, plat := { runS.plat with fwClass := 1 } }

/-- A pedigree word of FW_CLASS `c`, and the CAPS of module 3, port 2, with such a word. -/
def pedW (c : Nat) : BitVec 128 := BitVec.ofNat 128 (2 ^ 40 * c)
def capsW (c : Nat) (done : Bool) : Caps := ⟨BitVec.ofNat 64 (2 ^ 58 * 3 + 2 ^ 54 * 2 + if done then 2 ^ 35 else 0), pedW c, 0⟩

theorem witness_LaneTraining : (laneS .active).up = true ∧ bitsOf 0x10 2 2 = 0 ∧
    accepts .pf0 (lnkReg (0 : BitVec 4).toNat 0) 0x10 (laneS .active) ∧ ((laneS .active).lane 0).parked = false ∧
    disruptive (laneS .active).host.jtag = false ∧ 0 < (laneS .active).lanePorts ∧ ((laneS .detect).lane 0).st = .detect ∧
    ((laneS .pattern).lane 0).st = .pattern ∧ ((laneS .recovery).lane 0).st = .recovery ∧
    ((laneS .recovery).lane 0).sub = .pattern ∧ trainState (laneS .align) 0 ≠ .pattern ∧ ctrlRole (laneS .align) 0 ≠ 2 ∧
    ([trainL 0, trainInv 1, trainL 2, trainL 3].all trainBlock = true ∧
      [trainL 0, trainInv 1, trainL 2, trainL 3].map trainLane = [0, 1, 2, 3]) ∧
    [trainL 0, trainL 2, trainL 1, trainL 3].all trainBlock = true ∧ trainBlock ⟨2, 0⟩ = false ∧
    trainState (laneS .deskew) 0 = .deskew ∧ trainState (laneS .exchange) 0 = .exchange ∧
    (capsW 1 false).word.getLsbD 35 = false ∧ (capsW 1 true).word.getLsbD 35 = true ∧
    pedClass (capsW 1 true).pedigree = (laneS .exchange).plat.fwClass.toNat ∧
    pedClass (capsW 2 true).pedigree ≠ (laneS .exchange).plat.fwClass.toNat ∧
    (let s : State := { laneS .recovery with lnk := { ports := [(0, { st := .recovery, sub := .exchange })] } }
     trainState s 0 = .exchange ∧ (s.lane 0).st = .recovery ∧ samePeer s 0 (capsW 1 true) = false ∧
       samePeer s 0 ⟨BitVec.ofNat 64 (2 ^ 35), 0, 0⟩ = true) ∧
    ({ laneS .active with ident := { half := true } } : State).lanePorts ≤ (15 : BitVec 4).toNat ∧
    ({ laneS .active with ident := { half := true } } : State).up = true := by
  and_intros <;> first | exact accepts_of (by decide +kernel) | decide +kernel
theorem test_training : ((after (.laneAlignDone 0 (trainL 3) (trainInv 2) (trainL 1) (trainL 0)) (laneS .align)).lane 0).reversed = true ∧
    ((after (.laneAlignDone 0 (trainL 3) (trainInv 2) (trainL 1) (trainL 0)) (laneS .align)).lane 0).pol = 2 ∧
    ((after (.laneAlignDone 0 (trainL 0) (trainInv 2) (trainL 1) (trainL 3)) (laneS .align)).lane 0).st = .detect ∧
    ((after (.laneDeskewDone 0 4) (laneS .deskew)).lane 0).st = .exchange ∧
    ((after (.laneDeskewDone 0 5) (laneS .deskew)).lane 0).st = .detect ∧
    ((after (.laneExchangeDone 0 (capsW 1 true)) (laneS .exchange)).lane 0).peerPort = 2 ∧
    ((after (.laneExchangeDone 0 (capsW 2 true)) (laneS .exchange)).lane 0).st = .halt := by decide +kernel
theorem test_training_timeouts : ((after (.laneTrainingTimeout 0) (laneS .pattern)).lane 0).st = .detect ∧
    ((after (.laneRecoveryTimeout 0) (laneS .recovery)).lane 0).st = .detect ∧
    ((after (.laneRestart .pf0 0 0x10) (laneS .active)).lane 0).st = .detect ∧
    ((after (.lanePatternLocked 0) (laneS .recovery)).lane 0).sub = .align := by decide +kernel

/-- An ACTIVE port 0 with one group that is outstanding, sent `n` times, one value to send, one slot to receive into, and the
parts `l` brought by accepted groups. -/
def wireS (n : Nat) (l : List LanePart) : State :=
  { laneS .active with
    img := { runS.img with
      slotLane := [BitVec.ofNat 64 (2 ^ 8 * 7 + 2 ^ 32 * 9), BitVec.ofNat 64 (2 ^ 4 + 2 ^ 8 * 40 + 2 ^ 32 * 3 + 2 ^ 48 * 5)] }
    lnk := { ports := [(0, { st := .active, txSeq := 6, outstanding := [⟨5, n, []⟩], nakRx := some 5, inbox := l })]
             tx := [⟨0, 7, 9, 1, true⟩] } }

/-- The header of a received stripe: cycle, generation, TXPOS 3, slot 40, one value. -/
def rxH (cyc gen : Nat) : Word64 := BitVec.ofNat 64 (2 ^ 56 * cyc + 2 ^ 40 * gen + 2 ^ 28 * 3 + 2 ^ 16 * 40)

theorem witness_LaneGroups : groupSound (wireS 1 []) 0 (goodGroup 0) = true ∧ groupSound (wireS 1 []) 0 (goodGroup 1) = false ∧
    groupSound (wireS 1 []) 0 [] = false ∧ laneRoom (wireS 1 []) 0 = true ∧ ((wireS 1 []).lane 0).st = .active ∧
    ((laneS .align).lane 0).st ≠ .active := by
  have h : ((wireS 1 []).lane 0).rxSeq = 0 := by decide +kernel
  refine ⟨?_, ?_, by decide +kernel, by decide +kernel, by decide +kernel, by decide +kernel⟩ <;> unfold groupSound <;>
    rw [goodGroup_ok, h, Bool.true_and]
  · exact goodGroup_gseq.1
  · exact goodGroup_gseq.2
theorem witness_LaneResends : (wireS 1 []).up = true ∧ ((wireS 1 []).lane 0).st = .active ∧ ((wireS 1 []).lane 0).nakRx = some 5 ∧
    ((takeAck 5 0 (wireS 1 [])).lane 0).outstanding = [] ∧ ((takeAck 4 0 (wireS 1 [])).lane 0).outstanding = [⟨5, 1, []⟩] ∧
    ((wireS 1 []).lane 0).outstanding.any (fun g => 5 ≤ g.sent) = false ∧
    ((wireS 5 []).lane 0).outstanding.any (fun g => 5 ≤ g.sent) = true ∧ ((laneS .align).lane 0).st ≠ .active ∧
    16 ≤ invalidHeads 0xAAAAAAAA ∧ invalidHeads 0xAAAAAAAAAAAAAAAAAAAAAAAA00000000 = 16 ∧ invalidHeads 0xAAAAAAAAAAAAAAAAAAAAAAAA80000000 = 15 := by decide +kernel
theorem witness_LaneStripesSent : (wireS 1 []).lnk.tx.find? (fun t => t.port == 0 && t.pos == 9 && t.cyc.toNat % 256 == 1) =
      some ⟨0, 7, 9, 1, true⟩ ∧ ((txEntry (wireS 1 []) 0 9).bind (fun e => heldValues (wireS 1 []) e 1)) = some [true] ∧
    (carriesDesign (wireS 1 []) 0 && mayTransmit (wireS 1 []) 1 && !earlierWaits (wireS 1 []) 0 1 9 && itemRoom (wireS 1 []) 0) = true ∧
    (let s := { wireS 1 [] with sch := { (wireS 1 []).sch with committed := 1 } }
     (carriesDesign s 0 && mayTransmit s 1 && !earlierWaits s 0 1 9 && itemRoom s 0) = false) := by
  decide +kernel
theorem witness_LaneStripesReceived : (let s := wireS 1 [.value (rxH 1 0) 1, .pedigree (pedW 1)]
    laneHas s 0 (.value (rxH 1 0) 1) = true ∧
    (carriesDesign (laneTake 0 (.value (rxH 1 0) 1) s) 0 && (laneTake 0 (.value (rxH 1 0) 1) s).img.valid && s.sch.st != .faultStop) =
      true ∧
    rxMatched s 0 (ebits (rxH 1 0) 28 12) (ebits (rxH 1 0) 16 12) (ebits (rxH 1 0) 8 8) = true ∧
    rxMatched s 0 4 40 0 = false ∧ (ebits (rxH 5 0) 56 8 + 512 - (s.sch.committed.toNat + 1) % 256) % 256 = 4 ∧
    (ebits (rxH 4 0) 56 8 + 512 - (s.sch.committed.toNat + 1) % 256) % 256 = 3 ∧
    staleValue s 0 4 0 = false ∧ newer 1 s.wave.gen = true ∧ newer 0 s.wave.gen = false ∧
    findRec s.lnk.recs 0 4 3 40 = none ∧
    staleValue { s with plat := { s.plat with peers := [(0, some (3, 2))] }
                        wave := { s.wave with relays := [⟨3, 3, 1⟩] } } 0 4 0 = true ∧
    laneHas s 0 (.value (rxH 1 0) 0) = false ∧ laneHas s 0 (.pedigree (pedW 1)) = true) := by decide +kernel
theorem witness_LanePedigree : pedClass (pedW 1) = (wireS 1 []).plat.fwClass.toNat ∧ ((wireS 1 []).lane 0).st = .active ∧
    ((wireS 1 []).lane 0).role = 0 ∧ pedClass (pedW 2) ≠ (wireS 1 []).plat.fwClass.toNat ∧ ((laneS .exchange).lane 0).st ≠ .active := by
  decide +kernel
theorem test_stripes : (after (.valueStripeSend 0 1 9) (wireS 1 [])).lnk.tx = [] ∧
    (after (.valueStripeReceive 0 (rxH 1 0) 1) (wireS 1 [.value (rxH 1 0) 1])).lnk.recs.length = 1 ∧
    (after (.valueStripeReceive 0 (rxH 1 1) 1) (wireS 1 [.value (rxH 1 1) 1])).lnk.waiting.length = 1 ∧
    (after (.valueStripeReceive 0 (rxH 5 0) 1) (wireS 1 [.value (rxH 5 0) 1])).sch.st = .faultStop ∧
    (after (.valueStripeReceive 0 (rxH 1 0) 1) (wireS 1 [])).lnk.recs = [] := by decide +kernel
theorem test_groups : ((after (.laneGroupReceive 0 []) (wireS 1 [])).lane 0).nakDue = true ∧
    ((after (.laneNakReceive 0 5) (wireS 1 [])).lane 0).outstanding = [] ∧
    ((after (.laneResendTimeout 0) (wireS 5 [])).lane 0).st = .recovery := by decide +kernel

/-- Shared time enabled, port 0 ACTIVE to port 2 of module 3, with the parts `l` brought by accepted groups; the open
measurement and the Sync have SEQID 0. -/
def timS (st : TimState) (n : Nat) (l : List LanePart) : State :=
  ({ laneS .active with
      lnk := { ports := [(0, { st := .active, peerModule := 3, peerPort := 2, inbox := l })] }
      tim := { st := st
               ports := [(0, { meas := List.replicate n 2000000, sync := some ⟨0, 1000000, 0⟩
                               pdelay := some { seq := 0, t1 := 0, t2 := some 0, t4 := some 100 } })] } }).setReg
    Reg.TIM_CTRL 1

/-- A TIME block from module 3, port 2, SEQID 0, at 0 s. -/
def tblk (type : Nat) : TimeBlock := ⟨BitVec.ofNat 64 (2 ^ 60 * type + 2 ^ 57 + 2 ^ 50 * 3 + 2 ^ 46 * 2), 0, 0⟩

theorem witness_SharedTimeMessages : (let s := timS .locked 4 [.time (tblk 0)]; (timS .master 4 []).up = true ∧
    timeMaySend (timS .master 4 []) 0 = true ∧ timeMaySend (timS .master 4 []) 1 = false ∧
    laneHas s 0 (.time (tblk 0)) = true ∧ laneHas s 0 (.time (tblk 2)) = false ∧
    (upS.setReg Reg.TIM_CTRL 0).bit Reg.TIM_CTRL 0 = false ∧
    s.bit Reg.TIM_CTRL 0 = true ∧ activeDesign s 0 = true ∧ activeDesign s 1 = false ∧
    (s.bit Reg.TIM_CTRL 0 && activeDesign (laneTake 0 (.time (tblk 0)) s) 0) = true ∧
    timeBlockOk s 0 (tblk 0) = true ∧ timeBlockOk s 0 (tblk 2) = true ∧
    timeBlockOk s 0 (tblk 3) = true ∧ timeBlockOk s 0 (tblk 8) = true ∧
    timeBlockOk s 0 (tblk 10) = true ∧ timeBlockOk s 0 (tblk 1) = false ∧
    tbType (tblk 0) = 0 ∧ tbType (tblk 2) = 2 ∧ tbType (tblk 3) = 3 ∧ tbType (tblk 8) = 8 ∧ tbType (tblk 10) = 10 ∧
    tbSeq (tblk 10) = 0 ∧ (0 : Int) ≤ (100 - 0) - (tbStamp (tblk 10) - 0) ∧ (100 - 0) - (tbStamp (tblk 10) - 0) ≤ (10000 * 2 ^ 17 : Int) ∧
    (10 - 0) - (tbStamp { tblk 10 with l3 := 11 } - 0) < (0 : Int) ∧ s.clock ≤ 0 + syncClks s ∧
    s.plat.upstream ≠ some 0 ∧ ((timS .locked 3 []).timPort 0).meas.length < 4 ∧
    4 ≤ (s.timPort 0).meas.length) := by decide +kernel
theorem test_sync_sent : ((after (.syncInterval []) (timS .master 4 [])).timPort 0).syncSeq = 1 ∧
    (after (.syncInterval []) (timS .master 4 [])).out.length = 1 ∧ (after (.syncInterval []) (upS.setReg Reg.TIM_CTRL 0)).out = [] := by
  decide +kernel
theorem test_measurement : ((after (.pdelayRespFollowUpReceive 0 (tblk 10)) (timS .locked 3 [.time (tblk 10)])).timPort 0).meas =
      [100, 2000000, 2000000, 2000000] ∧
    (after (.syncReceive 0 (tblk 1) 0) (timS .locked 3 [.time (tblk 1)])).reg Reg.TIM_CNT_BAD = 1 := by decide +kernel

theorem witness_SharedTimeServo : (timS .unsynced 4 []).tim.st = .unsynced ∧ (timS .unsynced 4 []).tim.stepped = false ∧
    ({ timS .unsynced 4 [] with tim := { (timS .unsynced 4 []).tim with stepped := true, lockRun := 15 } } : State).tim.stepped = true ∧
    (timS .locked 4 []).tim.st = .locked ∧ (timS .holdover 4 []).tim.st ≠ .locked ∧
    ¬ ((timS .holdover 4 []).tim.st = .unsynced ∧ (timS .holdover 4 []).tim.stepped = true) ∧
    accepts .pf0 Reg.TIM_SET_GO 1 (timS .master 4 []) ∧ ((timS .master 4 []).reg (Reg.TIM_SET + 8)).toNat < 10 ^ 9 ∧
    10 ^ 9 ≤ (((timS .master 4 []).setReg (Reg.TIM_SET + 8) 1000000000).reg (Reg.TIM_SET + 8)).toNat ∧
    accepts .pf0 Reg.TIM_SET_GO 1 ((timS .master 4 []).setReg (Reg.TIM_SET + 8) 1000000000) ∧
    accepts .pf0 Reg.TIM_SET_GO 1 (timS .locked 4 []) ∧ accepts .pf0 Reg.TIM_CTRL 3 (timS .locked 4 []) ∧
    accepts .pf0 Reg.TIM_CTRL 3 (timS .master 4 []) ∧ accepts .pf0 Reg.TIM_CAPT_CTRL 0x45 (timS .master 4 []) ∧
    (0x45 : Word32).getLsbD 6 = true ∧ (0x05 : Word32).getLsbD 6 = false ∧ (1 : Word32).getLsbD 1 = false := by
  and_intros <;> first | exact accepts_of (by decide +kernel) | decide +kernel
theorem test_time_set : (after (.timSet .pf0 1) ((timS .master 4 []).setReg (Reg.TIM_SET + 8) 5)).tim.count = 5 * 2 ^ 56 ∧
    (after (.timSet .pf0 1) (timS .locked 4 [])).tim.epoch = 0 ∧ (after (.timRestart .pf0 3) (timS .locked 4 [])).tim.st = .unsynced ∧
    (after .syncLossTimeout (timS .locked 4 [])).tim.st = .holdover := by decide +kernel

/-! ### Glove and Aster -/

/-- A Glove load in a phase, of the regions in a mask. -/
def glvS (ph : GlvPhase) (src : GloveSource) (regs : BitVec 4) (h : List Byte) : State :=
  { upS with glv := { regions := [(0, { st := .running }), (1, { st := .running })]
                      load := some { phase := ph, source := src, regions := regs, length := 648, header := h } } }

theorem witness_GloveLoads_header : (glvS .header .host 1 []).up = true ∧
    (∃ l, (glvS .header .host 1 []).glv.load = some l ∧ l.phase = .header ∧ l.source = .host ∧ l.regions = 1 ∧ l.length = 648) ∧
    BitVec.ofNat 4 (leAt gloveHdr 10 1) = 1 ∧
    lockedRegions (glvS .header .host 1 []) (1 ||| 1) = false ∧
    fullBusy (glvS .header .host 1 []) .host gloveHdr = false ∧
    lowestFail (headerFails (glvS .header .host 1 []) gloveHdr 648 ++
      failIf (GloveSource.host == .host && decide ((1 : BitVec 4) ≠ 1)) 12 1 10) = none ∧
    fullBusy { glvS .header .host 1 [] with sch := { st := .running } } .host gloveHdr = true ∧
    lowestFail (headerFails (glvS .header .host 1 []) [] 0) = some ⟨5, 1, 8⟩ ∧
    lockedRegions ((glvS .header .host 1 []).setReg Reg.GLV_CTRL 1) 1 = true := by
  refine ⟨by decide +kernel, ⟨_, rfl, rfl, rfl, rfl, rfl⟩, ?_, by decide +kernel, ?_, ?_, ?_, by decide +kernel, by decide +kernel⟩
  · rw [leAt_gloveHdr 10 1 (by omega)]
    decide +kernel
  · rw [show fullBusy (glvS .header .host 1 []) .host gloveHdr = (GloveSource.host == GloveSource.host && leAt gloveHdr 6 2 % 2 == 0 &&
        !(SchState.idle == .idle || SchState.idle == .paused || SchState.idle == .faultStop)) from rfl]
    simp
  · rw [headerFails_congr (s := glvS .header .host 1 []) (t := upS) rfl rfl gloveHdr 648, gloveHdr_fails]
    decide +kernel
  · unfold fullBusy
    rw [leAt_gloveHdr 6 2 (by omega)]
    decide +kernel
theorem witness_GloveLoads_list : (glvS .list .host 1 (List.replicate 12 0 ++ [1, 0, 0, 0])).glv.load ≠ none ∧
    lowestFail (listFails 1 [5] ++ failIf ([(5 : Word32)].length ≠ leAt (List.replicate 12 0 ++ [1, 0, 0, 0]) 12 4) 12 2 1) = none ∧
    lowestFail (listFails 1 [0x40000000] ++ failIf false 12 2 1) = some ⟨8, 2, 0⟩ ∧
    lowestFail (dataFails (writeFrames { phase := .data, source := .host, regions := 0, length := 0 } [] upS)
      { phase := .data, source := .host, regions := 0, length := 0 } [] (crc32 [])) = none ∧
    lowestFail (dataFails (writeFrames { phase := .data, source := .host, regions := 0, length := 0 } [] upS)
      { phase := .data, source := .host, regions := 0, length := 0 } [] 1) = some ⟨7, 4, 0⟩ ∧ upS.glv.load = none := by decide +kernel
theorem test_glove_list : ((after (.gloveLoadListDone [5] false) (glvS .list .host 2 (List.replicate 12 0 ++ [1, 0, 0, 0]))).fld
      Reg.GLV_LOAD_STATUS 8 8) = 8 ∧
    ((after (.gloveLoadHeaderDone [] 0 true) (glvS .header .host 1 [])).fld Reg.GLV_LOAD_STATUS 8 8) = 15 := by decide +kernel

/-- A DO update that is due in clock 12, at clock 10. -/
def doS : State := { upS with clock := 10, glv := { doQueue := [⟨1, 12, [(0, true)]⟩, ⟨2, 20, []⟩] } }

/-- TDC input 3 enabled on rising edges, Aster armed. -/
def tdcS : State :=
  { upS with clock := 10, glv := { residentDone := true }, ast := { upS.ast with armed := true } }.setReg Reg.GLV_TDC_EN 8

theorem witness_GloveEvents : doS.up = true ∧ 3 ≤ 12 - doS.clock + 2 ∧
    (∀ i, i < 3 → (clockTick^[i] doS).glv.doQueue.head? = some ⟨1, 12, [(0, true)]⟩) ∧
    (clockTick^[3] doS).glv.doQueue.head? ≠ some ⟨1, 12, [(0, true)]⟩ ∧ upS.glv.doQueue = [] ∧
    ((glvS .data .host 0 []).region 0).st = .running ∧ ((glvS .data .host 0 []).region 2).st ≠ .running ∧
    (tdcS.glv.residentDone && pairBit tdcS Reg.GLV_TDC_EN 3 && (pairBit tdcS (Reg.GLV_TDC_EN + 8) 3 == false) && (49 : BitVec 6).toNat < 50) = true ∧
    (tdcS.glv.residentDone && pairBit tdcS Reg.GLV_TDC_EN 3 && (pairBit tdcS (Reg.GLV_TDC_EN + 8) 3 == false) && (50 : BitVec 6).toNat < 50) = false ∧
    mget tdcS.glv.tdcLast 0 3 ≠ tdcS.clock + 1 ∧ mget tdcS.pwr.tdcOut 0 3 ≤ tdcS.clock ∧
    mget ({ tdcS.glv with tdcLast := [(3, 11)] } : GlvSt).tdcLast 0 3 = tdcS.clock + 1 ∧ (383 : BitVec 9).toNat < 384 ∧
    384 ≤ (384 : BitVec 9).toNat ∧ ({ boot := { stage := .off } } : State).up = false ∧ ({ tdcS with ast := { tdcS.ast with tdc := List.replicate 256 ⟨0, 0, 0, 0, none⟩ } } : State).ast.tdc.length = 256 ∧
    ({ tdcS with pwr := { tdcS.pwr with tdcOut := [(3, 170)] } } : State).clock < 170 := by
  and_intros <;> decide +kernel
theorem witness_ContentionTrip (h : Config.segmented [] = true) : (glvS .data .host 0 []).up = true ∧
    ((glvS .data .host 0 []).region 0).st = .running ∧ Config.segmented ((glvS .data .host 0 []).region 0).frames = true ∧
    (6143 : BitVec 13).toNat < 6144 ∧ 6144 ≤ (6144 : BitVec 13).toNat :=
  ⟨by decide +kernel, by decide +kernel, h, by decide, by decide⟩
/-- Region 0 runs with signatures on, with a reference. -/
def sigS (x : Word32) : State :=
  (({ upS with glv := { regions := [(0, { st := .running })] } } : State).setReg Reg.GLV_CTRL 0x100).setReg Reg.GLV_GOLD x
theorem witness_SignatureDone (x : Word32) : (sigS x).up = true ∧ ((sigS x).region 0).st = .running ∧
    (sigS x).bit Reg.GLV_CTRL 8 = true ∧ (sigS x).glv.load = none ∧ (sigS x).reg (Reg.GLV_GOLD + 4 * 0) = x ∧
    (sigS x).region 0 = { st := .running } ∧ ∃ y : Word32, y ≠ x :=
  ⟨rfl, rfl, by unfold sigS State.bit State.fld; rw [Laws.reg_setReg_other _ _ (by decide), Laws.reg_setReg_same]; decide, rfl,
    Laws.reg_setReg_same _ _ _, rfl, x + 1, by bv_omega⟩
theorem test_do_update : (after .doUpdate doS).glv.doLine = [(0, true)] ∧ (after .doUpdate doS).clock = 13 := by decide +kernel
theorem test_tdc_edge : (after (.tdcEdge 3 false 7) tdcS).ast.tdc.length = 1 ∧ (after (.tdcEdge 3 false 50) tdcS).ast.tdc = [] ∧
    (after (.tdcEdge 3 false 7) { tdcS with glv := { tdcS.glv with tdcLast := [(3, 11)] } }).pendBit 0x365 = true := by decide +kernel
theorem test_pin : (after (.pinInputChange 383 (some true)) upS).glv.pinIn = [(383, some true)] ∧
    (after (.pinInputChange 384 (some true)) upS).glv.pinIn = [] ∧ (after (.pinInputChange 7 none) { boot := { stage := .off } }).glv.pinIn = [] ∧
    (after (.pinInputChange 0 (some false)) { boot := { stage := .off } }).glv.pinIn = [(0, some false)] := by decide +kernel

/-- Aster armed, with one cycle that waits; a mask trigger of four records is active where `mt` says so. -/
def astS (mt : Bool) : State :=
  { upS with ast := { upS.ast with armed := true, queue := [⟨1, 5, 0, 3, 0⟩]
                                   applied := [(Reg.AST_MT_START, 2), (Reg.AST_MT_COUNT, 4)] } }.setReg
    Reg.AST_MT_STATUS (if mt then 1 else 0)

/-- The same with a mask trigger and cycle `n` committed. -/
def astAt (n : Word64) : State := { astS true with sch := { (astS true).sch with committed := n } }

theorem witness_AsterOperation : (astS false).up = true ∧ astReady (astS false) = true ∧
    astReady { astS false with ast := { (astS false).ast with armed := false } } = false ∧
    mtActive (astS true) = true ∧ (astS true).ast.goldenNext < mtCount (astS true) ∧
    (mtStart (astS true) + BitVec.ofNat 64 (astS true).ast.goldenNext - (astS true).sch.committed).toNat ≤ 64 ∧
    mtActive (astS false) = false ∧ accepts .pf0 Reg.AST_SHADOW 1 upS ∧ upS.sch.applyT = none ∧
    shadowBad (storeReg Reg.AST_SHADOW 1 upS) = false ∧
    accepts .pf0 Reg.AST_SHADOW 1 (upS.setReg Reg.AST_AVG_CTRL 1) ∧
    shadowBad (storeReg Reg.AST_SHADOW 1 (upS.setReg Reg.AST_AVG_CTRL 1)) = true ∧
    accepts .pf0 Reg.AST_SHADOW 1 { upS with sch := { upS.sch with applyT := some 5 } } ∧
    accepts .pf0 Reg.AST_CTRL 8 (astS false) ∧ accepts .pf0 Reg.AST_CTRL 0x10 (astS false) ∧ accepts .pf0 Reg.AST_CTRL 0x18 (astS false) ∧
    2 ^ 63 ≤ (mtStart (astAt 9) + BitVec.ofNat 64 (astAt 9).ast.goldenNext - (astAt 9).sch.committed).toNat ∧
    (64 < (mtStart (astAt (2 - 65)) + BitVec.ofNat 64 (astAt (2 - 65)).ast.goldenNext - (astAt (2 - 65)).sch.committed).toNat ∧
      (mtStart (astAt (2 - 65)) + BitVec.ofNat 64 (astAt (2 - 65)).ast.goldenNext - (astAt (2 - 65)).sch.committed).toNat < 2 ^ 63) ∧
    mtCount (astS true) ≤ ({ astS true with ast := { (astS true).ast with goldenNext := 4 } } : State).ast.goldenNext := by
  and_intros <;> first | exact accepts_of (by decide +kernel) | decide +kernel
theorem test_aster_evaluate : (after .asterEvaluate (astS false)).ast.queue = [] ∧
    (after .asterEvaluate (astS false)).ast.lastEval = 1 ∧
    (after .goldenRecordRead (astS true)).ast.golden.length = 1 := by decide +kernel
theorem test_aster_commands : (after (.asterDisarm .pf0 8) (astS false)).ast.armed = false ∧
    (after (.asterStage ⟨.pf0, true⟩ 1) upS).ast.staged = true ∧ (after (.asterStage ⟨.pf0, false⟩ 1) upS).fld Reg.AST_SHADOW 8 8 = 3 ∧
    (after (.asterStage ⟨.pf0, true⟩ 1) (upS.setReg Reg.AST_AVG_CTRL 1)).fld Reg.AST_SHADOW 8 8 = 12 ∧
    (after (.asterRelease .pf0 0x10) { upS with ast := { upS.ast with stopped := some 3 } }).ast.stopped = none := by decide +kernel

/-! ### Larkspur and the dispatcher -/

/-- A trace grant, Larkspur armed or not, LKS_CTRL at `ctl`, PRIMARY and FALLBACK at `sinks`, a ring of 1 MiB and a host ring of
2 slots. -/
def lksS (armed : Bool) (ctl sinks : Word32) : State :=
  ((((({ upS with
    lks := { armed := armed, capturing := true, cycs := [{ cyc := 1, probes := 5, memw := [], evaluated := true }]
             cur := [1, 2], packets := 1, blocks := [⟨0, List.replicate 16 0, 1⟩] }
    bnt := { grants := [(0, some { nonce := 1, kind := 2, masked := false, write := false, pf1 := false, cores := 0, base := 0,
                                   units := 0 })] } } : State).setReg Reg.LKS_CTRL ctl).setReg Reg.LKS_SINK sinks).setReg
    Reg.LKS_RING_SIZE 1).setReg Reg.LKS_HOST_SLOTS 2).setReg Reg.LKS_FLUSH_US 10

/-- Larkspur before arming, where PCIe does not master the bus. -/
def lksOff (sinks : Word32) : State := { lksS false 0 sinks with lks := { (lksS false 0 sinks).lks with busMasterOff := true } }
/-- Ports 14 and 15 in `LPORTS`, port 14 ACTIVE with ROLE 1 and `k` groups unacknowledged. -/
def lksLane (k : Nat) : State :=
  (lksS true 1 0x6E).setLane 14 { st := .active, role := 1, outstanding := List.replicate k ⟨0, 0, []⟩ }

theorem witness_LarkspurArming : (lksS false 0 13).up = true ∧ accepts .pf0 Reg.LKS_CTRL 1 (lksS false 0 13) ∧
    (lksS false 0 13).lks.armed = false ∧ (grantsOf (lksS false 0 13) 2).isEmpty = false ∧ armResource (lksS false 0 13) = false ∧
    armResource (lksS false 0 0xE) = true ∧ accepts .pf0 Reg.LKS_CTRL 1 (lksS false 0 0xE) ∧ (grantsOf upS 2).isEmpty = true ∧
    accepts .pf0 Reg.LKS_CTRL 1 upS ∧ accepts .pf0 Reg.LKS_CTRL 0 (lksS true 1 13) ∧ (lksS true 1 13).lks.armed = true ∧
    (lksS false 0 13).fld Reg.LKS_SINK 0 2 = 1 ∧ sinkDown (lksS false 0 13) 1 = false ∧ (lksS false 0 1).fld Reg.LKS_SINK 2 2 = 0 ∧
    armResource (lksOff 1) = false ∧ sinkDown (lksOff 1) 1 = true ∧ sinkDown (lksOff 1) 0 = false ∧ accepts .pf0 Reg.LKS_CTRL 1 (lksOff 1) ∧
    sinkDown (lksOff 13) 1 = true ∧ (lksOff 13).fld Reg.LKS_SINK 2 2 = 3 ∧
    accepts .pf0 Reg.LKS_CTRL 0x81 (lksS true 1 13) ∧ (0x81 : Word32).getLsbD 7 = true ∧ (1 : Word32).getLsbD 7 = false := by
  and_intros <;> first | exact accepts_of (by decide +kernel) | decide +kernel
theorem witness_LarkspurStream : (lksS true 9 13).lks.cycs = [{ cyc := 1, probes := 5, memw := [], evaluated := true }] ∧
    (lksS true 9 13).pwr.mode = .on ∧ (lksS false 9 13).lks.armed = false ∧
    ((lksS true 9 13).lks.armed && (lksS true 9 13).lks.capturing && (2 : BitVec 2) != 3 && (lksS true 9 13).pwr.mode == .on &&
      (lksS true 9 13).bit Reg.LKS_CTRL (3 + b2n (lksS true 9 13).boot.activeB)) = true ∧
    ((lksS true 9 13).lks.armed && (lksS true 9 13).lks.capturing && (3 : BitVec 2) != 3 && (lksS true 9 13).pwr.mode == .on &&
      (lksS true 9 13).bit Reg.LKS_CTRL (3 + b2n (lksS true 9 13).boot.activeB)) = false ∧
    (lksS true 9 13).fld Reg.LKS_FLUSH_US 0 16 ≠ 0 ∧ (lksS true 9 13).lks.cur ≠ [] ∧ upS.lks.cur = [] ∧
    (upS.lks.armed && upS.lks.capturing && upS.pwr.mode == .on) = false := by decide +kernel
theorem witness_LarkspurSinks : sinkNow (lksS true 1 12) = 0 ∧ ringBytes (lksS true 1 12) / 4096 = 256 ∧
    (lksS true 1 12).bit Reg.LKS_SINK 4 = false ∧ (lksS true 1 12).lks.losing = false ∧ sinkNow (lksS true 1 13) = 1 ∧
    ((lksS true 1 13).lks.busMasterOff || !(lksS true 1 13).host.dlActive) = false ∧ (lksS true 1 13).reg Reg.LKS_HOST_SLOTS = 2 ∧
    (((lksS true 1 13).reg Reg.LKS_HOST_WR).toNat + 1) % 2 ≠ ((lksS true 1 13).reg Reg.LKS_HOST_RD).toNat ∧
    (((lksS true 1 13).reg Reg.LKS_HOST_WR).toNat + 1) % 2 = (((lksS true 1 13).setReg Reg.LKS_HOST_RD 1).reg Reg.LKS_HOST_RD).toNat ∧
    sinkNow (lksS true 1 14) = 2 ∧ sinkNow (lksLane 45) = 2 ∧ lksPorts (lksLane 45) = [14, 15] ∧
    (lksPorts (lksLane 45)).filter (fun p => ((lksLane 45).lane p).st == .active && ((lksLane 45).lane p).role == 1) = [14] ∧
    ((lksLane 45).lane 14).outstanding.length + 19 ≤ 64 ∧ 64 < ((lksLane 46).lane 14).outstanding.length + 19 ∧
    sinkNow (lksS true 1 15) = 3 ∧ (lksS true 1 0x1C).bit Reg.LKS_SINK 4 = true ∧ (lksS true 1 15).lks.blocks ≠ [] ∧
    sinkDown { lksS true 1 12 with pwr := { parked := [(0x16, 0)] } } 0 = true ∧ ringBytes ((lksS true 1 12).setReg Reg.LKS_RING_SIZE 0) = 0 ∧
    sinkDown (lksS true 1 1) 0 = false ∧ sinkDown { lksS true 1 1 with pwr := { parked := [(0x16, 0)] } } 0 = true ∧
    ({ lksS true 1 1 with lks := { (lksS true 1 1).lks with onFallback := true } } : State).lks.onFallback = true ∧
    (lksPorts (lksS true 1 14)).filter (fun p => ((lksS true 1 14).lane p).st == .active && ((lksS true 1 14).lane p).role == 1) = [] ∧
    (lksS true 1 1).lks.onFallback = false ∧ (lksS true 1 1).fld Reg.LKS_SINK 2 2 ≠ 3 ∧ (lksS true 1 13).fld Reg.LKS_SINK 2 2 = 3 ∧
    upS.lks.blocks = [] ∧ upS.lks.armed = false ∧ accepts .pf0 Reg.LKS_HOST_RD 1 (lksS true 1 13) := by
  and_intros <;> first | exact accepts_of (by decide +kernel) | decide +kernel
theorem test_lks_arm : (after (.lksArm ⟨.pf0, true⟩ 1) (lksS false 0 13)).lks.armed = true ∧
    (after (.lksArm ⟨.pf0, true⟩ 1) (lksS false 0 0xE)).lks.status = 12 ∧ (after (.lksArm ⟨.pf0, true⟩ 1) upS).lks.status = 4 ∧
    (after (.lksArm ⟨.pf0, false⟩ 1) (lksS false 0 13)).lks.status = 3 ∧ (after (.lksArm ⟨.pf0, true⟩ 1) (lksOff 1)).lks.onFallback = true ∧
    (after (.lksArm ⟨.pf0, true⟩ 1) (lksOff 13)).lks.armed = false ∧
    (after (.lksDisarm .pf0 0) (lksS true 1 13)).lks.armed = false := by decide +kernel
theorem test_lks_stream : (after .lksCycleClose (lksS true 9 13)).lks.lastClosed = 1 ∧
    (after (.lksFlowRecord 0 64) (lksS true 9 13)).lks.fa.1 = 64 ∧ (after .lksAnchorTimer (lksS true 9 13)).lks.sinceAnchor = 0 ∧
    (after .lksFlushTimeout (lksS true 9 13)).lks.bseq = 1 := by decide +kernel
theorem test_lks_sinks : (after .lksBlockSend (lksS true 1 12)).reg Reg.LKS_RING_WR = 1 ∧
    (after .lksBlockSend (lksS true 1 13)).reg Reg.LKS_HOST_WR = 1 ∧ (after (.lksSinkLost false) (lksS true 1 1)).lks.onFallback = true ∧
    (after (.lksSinkLost false) (lksS true 1 13)).lks.armed = false := by decide +kernel

/-- A message of channel 3 in a state. -/
def msgOf (st : MsgSt) (call prov : Bool) : Msg :=
  { id := 7, slot := 9, cyc := 1, ch := 3, cluster := 0, ctx := 2, step := 1, words := [4], prio := 0, delay := 0, call := call
    provisional := prov, st := st }

/-- That message, a ring of 64 entries for core 0, and channel 4 of kind RECV with a context that waits on it where `wait` says so. -/
def dspS (m : Msg) (wait : Bool) : State :=
  ({ upS with
      mem := { reads := [{ cluster := 0, ctx := 5, cyc := 1, step := 1, stage := .call, value := 0, addr := 0, key := none, hbm := false }] }
      dsp := { msgs := [m], nextId := 8, waits := if wait then [⟨1, 4, 1, 0, 5⟩] else [] } }.setReg (Reg.DSP_CORE_ENTRIES + 0) 64).setReg
    (Reg.DSP_CH_CFG_ch + 16 * 4) 1

theorem witness_DispatcherTicks : (dspS (msgOf (.delayTick 2) false false) false).up = true ∧
    (dspS (msgOf (.delayTick 2) false false) false).pwr.mode ≠ .nap ∧
    (∀ m, m ∈ (dspS (msgOf (.delayTick 2) false false) false).dsp.msgs → m.st ≠ .delayTick 0 ∧ m.st ≠ .delayTick 1) ∧
    (dspS (msgOf .closed false false) false).dsp.msgs.find? (fun x => x.id == 7) = some (msgOf .closed false false) ∧
    (msgOf .closed false false).barrier = false := by decide +kernel
theorem witness_DispatcherDelivery : ringRoom upS 0 = false ∧ ringRoom (dspS (msgOf .released false false) false) 0 = true ∧
    withdrawHead (dspS (msgOf .released false false) false) 0 = none ∧
    nextFor (dspS (msgOf .released false false) false) 0 = some (msgOf .released false false) ∧
    withdrawHead (dspS (msgOf .withdrawPending true true) false) 0 = some (msgOf .withdrawPending true true) ∧
    nextFor (dspS (msgOf .delivered false false) false) 0 = none := by decide +kernel
theorem witness_DispatcherCommands : ((0x00030090 : Word32) &&& 0xFF00000C = 0 ∧ bitsOf 0x00030090 0 2 = 0 ∧
      bitsOf 0x00030090 4 12 = 9 ∧ bitsOf 0x00030090 16 8 = 3) ∧
    tagged (dspS (msgOf .delivered true false) false) 0 9 3 = some (msgOf .delivered true false) ∧
    tagged (dspS (msgOf .delivered true true) false) 0 9 3 = some (msgOf .delivered true true) ∧
    tagged (dspS (msgOf .delivered true true) false) 0 9 4 = none ∧ (msgOf .delivered true true).isWithdrawn = false ∧
    (msgOf .withdrawn true true).isWithdrawn = true ∧
    ((0x00040001 : Word32) &&& 0xFF00000C = 0 ∧ bitsOf 0x00040001 0 2 = 1 ∧ bitsOf 0x00040001 16 8 = 4) ∧
    chKind (dspS (msgOf .closed false false) false) 4 = 1 ∧ chKind (dspS (msgOf .closed false false) false) 3 ≠ 1 ∧
    postedOf (dspS (msgOf .closed false false) false) 4 = 0 ∧
    (dspS (msgOf .closed false false) false).dsp.waits.find? (fun w => w.ch == 4) = none ∧
    (dspS (msgOf .closed false false) true).dsp.waits.find? (fun w => w.ch == 4) = some ⟨1, 4, 1, 0, 5⟩ ∧
    ((0x00030092 : Word32) &&& 0xFF00000C = 0 ∧ bitsOf 0x00030092 0 2 = 2) ∧
    tagged (dspS (msgOf .delivered false false) false) 0 9 3 = some (msgOf .delivered false false) ∧ bitsOf 3 0 2 = 3 := by
  decide +kernel
theorem witness_DispatcherConfiguration : accepts .pf0 (Reg.DSP_CORE_RD + 32 * (15 : BitVec 4).toNat) 5 upS ∧
    accepts .pf0 (Reg.DSP_CORE_ENTRIES + 32 * (15 : BitVec 4).toNat) 65536 upS ∧
    accepts .pf0 (Reg.DSP_CH_CFG_ch + 16 * (255 : BitVec 8).toNat) 0x2FFFFF upS ∧
    accepts .pf0 (Reg.DSP_CH_CFG_ch + 16 * (3 : BitVec 8).toNat) 1 (dspS (msgOf .closed false false) false) ∧
    chHolds upS 255 = 0 ∧ postedOf upS 255 = 0 ∧ 0 < chHolds (dspS (msgOf .closed false false) false) 3 := by
  and_intros <;> first | exact accepts_of (by decide +kernel) | decide +kernel
theorem test_dsp_tick : (after .dspTick (dspS (msgOf (.delayTick 2) false false) false)).dsp.msgs.map (fun m => m.st) = [.delayTick 1] ∧
    (after .dspTick (dspS (msgOf (.delayTick 1) false false) false)).dsp.msgs.map (fun m => m.st) = [.released] := by decide +kernel
theorem test_dsp_delivery :
    (after (.messageDelivery 0) (dspS (msgOf .released false false) false)).reg Reg.DSP_CORE_WR = 1 ∧
    (after (.messageDelivery 0) (dspS (msgOf .withdrawPending true true) false)).dsp.msgs.map (fun m => m.st) = [.withdrawn] := by
  decide +kernel
theorem test_dsp_commands : (after (.dspRespond 0 0x00030090 5) (dspS (msgOf .delivered true false) false)).dsp.msgs = [] ∧
    (after (.dspRespond 0 0x00030090 5) (dspS (msgOf .delivered true true) false)).dsp.msgs.map (fun m => m.resp) = [some 5] ∧
    (after (.dspPost 0 0x00040001 5) (dspS (msgOf .closed false false) false)).dsp.posted.length = 1 ∧
    (after (.dspPost 0 0x00040001 5) (dspS (msgOf .closed false false) true)).mem.reads.map (fun r => r.value) = [0x8000000000000005] ∧
    (after (.dspComplete 0 0x00030092 0) (dspS (msgOf .delivered false false) false)).dsp.msgs = [] := by decide +kernel
theorem test_dsp_configuration : coreEntries (after (.dspCoreEntriesWrite .pf0 1 96) upS) 1 = 0 ∧
    coreEntries (after (.dspCoreEntriesWrite .pf0 1 65536) upS) 1 = 65536 ∧
    chKind (after (.dspChCfgWrite .pf0 3 1) (dspS (msgOf .closed false false) false)) 3 = 3 := by decide +kernel

/-! ### Bonnet -/

/-- A request with a right tag at the front, with changes to the state beside. -/
def keyP (k : Byte) : List Byte := k :: List.replicate 151 0
def byteP (k : Byte) (n : Nat) : List Byte := k :: List.replicate n 0
def fwP (mode : Byte) : List Byte := mode :: List.replicate 55 0

theorem witness_BonnetRequestsJudged : hasBox .pf1 = false ∧ hasBox .pf0 = true ∧ ((bntS (plainReq 0x13 (byteP 0 7))).bntBox .pf0).busy = true ∧
    (upS.bntBox .pf0).busy = false ∧ upS.bnt.reqs = [] ∧ keyPhase upS = false ∧ keyPhase keyS = true ∧
    pathTaken .pf0 (keyPhase (bntS (plainReq 0x13 []))) (bntS (plainReq 0x13 [])).bnt.reqs = true ∧
    pathTaken .smb (keyPhase upS) upS.bnt.reqs = false ∧ bntOps.contains (leAt (reqHead 9 0 0 0) 0 2) = false ∧
    (let r := Request.mk .pf0 (reqHead 0x13 0xFF 8 0 ++ byteP 0 7)
     (upS.bnt.reqs ++ [r]).head? = some r ∧ bntOps.contains (reqOp r) = true ∧ (reqOp r = 3 → reqMode r ≤ 3)) ∧
    (let r := Request.mk .pf0 (reqHead 3 0 56 0 ++ fwP 4)
     reqOp r = 3 ∧ 3 < reqMode r) ∧
    judge { lens := [8], authed := false } true (plainReq 0x13 (byteP 0 7)) upS = 0 ∧
    formatOk { lens := [8] } (plainReq 0x13 (byteP 0 7)) = false ∧ formatOk { lens := [8] } (authReq 6 0 (byteP 0 7)) = true ∧
    slotKey upS (reqSlot (authReq 6 0 (byteP 0 7))) = none ∧
    slotKey (bntS (authReq 6 0 (byteP 0 7))) (reqSlot (authReq 6 0 (byteP 0 7))) = some 5 ∧
    slotCtr ((upS.setReg Reg.BNT_CTR 0xFFFFFFFF).setReg (Reg.BNT_CTR + 4) 0xFFFFFFFF) 0 = 2 ^ 64 - 1 ∧
    slotCtr upS 0 ≠ 2 ^ 64 - 1 ∧ reqCounter (authReq 6 0 (byteP 0 7)) ≤ slotCtr (upS.setReg Reg.BNT_CTR 1) 0 := by
  and_intros <;> decide +kernel
theorem witness_BonnetRequestsJudged_front : bntCmd .debugLock ≠ none ∧
    reqOp (plainReq 0x13 (byteP 0 7)) = 0x13 ∧ reqOp (plainReq 0x11 (byteP 0 7)) ≠ 0x13 ∧
    judge { lens := [8], zeros := [(0, 8)], authed := false } true (plainReq 0x13 (byteP 1 7)) upS ≠ 0 := by
  refine ⟨by simp [bntCmd], ?_⟩
  decide +kernel
/-- A request waits behind one of another path: its area may still be written (R405). -/
theorem test_bonnet_area : (let s := { bntS { path := .smb, bytes := [] } with bnt := { (bntS { path := .smb, bytes := [] }).bnt with
      reqs := [{ path := .smb, bytes := [0x13] }, { path := .pf0, bytes := [1] }] } }
    (after (.bntMailboxSubmit .pf0 [2]) s).bnt.reqs = [{ path := .smb, bytes := [0x13] }, { path := .pf0, bytes := [2] }] ∧
    (after (.bntMailboxSubmit .pf0 [2]) (bntS (plainReq 0x13 []))) = bntS (plainReq 0x13 [])) := by decide +kernel
theorem test_bonnet_submit : (after (.bntMailboxSubmit .pf0 (reqHead 9 0 0 0)) upS).bnt.box0.code = 12 ∧
    (after (.bntMailboxSubmit .pf0 (reqHead 0x13 0xFF 8 0 ++ byteP 0 7)) upS).bnt.reqs.length = 1 ∧
    (after (.bntMailboxSubmit .pf1 (reqHead 9 0 0 0)) upS).bnt.box0.done = false := by decide +kernel

theorem ready_handover : bntReady .handover (authReq 1 0 (byteP 2 7)) (bntS (authReq 1 0 (byteP 2 7))) :=
  ready_of _ _ _ _ _ _ rfl rfl ⟨by decide +kernel, by decide +kernel⟩ (by decide +kernel) (by decide +kernel) (by decide +kernel)
    (by decide +kernel) (by decide +kernel) (by decide +kernel) (by decide +kernel)
theorem witness_BonnetHandover : masterOf (leAt (payload (authReq 1 0 (byteP 2 7))) 0 1) ∈ ranking upS ∧
    pathPresent upS (masterOf (leAt (payload (authReq 1 0 (byteP 2 7))) 0 1)) = true ∧
    masterOf (leAt (payload (authReq 1 0 (byteP 3 7))) 0 1) ∉ ranking upS := by decide +kernel
theorem ready_handover_absent : bntReady .handover (authReq 1 0 (byteP 3 7)) (bntS (authReq 1 0 (byteP 3 7))) :=
  ready_of _ _ _ _ _ _ rfl rfl ⟨by decide +kernel, by decide +kernel⟩ (by decide +kernel) (by decide +kernel) (by decide +kernel)
    (by decide +kernel) (by decide +kernel) (by decide +kernel) (by decide +kernel)
theorem ready_keyLoad (k : Byte) (h : k = 2 ∨ k = 3) : bntReady .keyLoad (authReq 2 0 (keyP k)) (bntS (authReq 2 0 (keyP k))) := by
  rcases h with rfl | rfl <;>
    exact ready_of _ _ _ _ _ _ rfl rfl ⟨by decide +kernel, by decide +kernel⟩ (by decide +kernel) (by decide +kernel) (by decide +kernel)
      (by decide +kernel) (by decide +kernel) (by decide +kernel) (by decide +kernel)
theorem witness_BonnetKeyLoad : leAt (payload (authReq 2 0 (keyP 2))) 0 1 < 3 ∧ 3 ≤ leAt (payload (authReq 2 0 (keyP 3))) 0 1 := by
  decide +kernel
theorem ready_fwNextStart : bntReady .fwActivateNextStart (authReq 3 0 (fwP 0)) (bntS (authReq 3 0 (fwP 0))) :=
  ready_of _ _ _ _ _ _ rfl rfl ⟨by decide +kernel, by decide +kernel⟩ (by decide +kernel) (by decide +kernel) (by decide +kernel)
    (by decide +kernel) (by decide +kernel) (by decide +kernel) (by decide +kernel)
theorem ready_fwLive : bntReady .fwActivateLive (authReq 3 0 (fwP 1)) (bntS (authReq 3 0 (fwP 1))) :=
  ready_of _ _ _ _ _ _ rfl rfl ⟨by decide +kernel, by decide +kernel⟩ (by decide +kernel) (by decide +kernel) (by decide +kernel)
    (by decide +kernel) (by decide +kernel) (by decide +kernel) (by decide +kernel)
/-- With a trial that runs, and with one that is pending. -/
def trialS (r : Request) (runs : Bool) : State :=
  { bntS r with boot := { (bntS r).boot with fwTrial := runs, mram := { (bntS r).boot.mram with trial := if runs then .none else .staging } } }
theorem ready_fwConfirm : bntReady .fwActivateConfirm (authReq 3 0 (fwP 2)) (trialS (authReq 3 0 (fwP 2)) true) ∧
    (trialS (authReq 3 0 (fwP 2)) true).boot.fwTrial = true :=
  ⟨ready_of _ _ _ _ _ _ rfl rfl ⟨by decide +kernel, by decide +kernel⟩ (by decide +kernel) (by decide +kernel) (by decide +kernel)
    (by decide +kernel) (by decide +kernel) (by decide +kernel) (by decide +kernel), rfl⟩
theorem ready_fwConfirm_busy : bntReady .fwActivateConfirm (authReq 3 0 (fwP 2)) (bntS (authReq 3 0 (fwP 2))) ∧
    (bntS (authReq 3 0 (fwP 2))).boot.fwTrial = false :=
  ⟨ready_of _ _ _ _ _ _ rfl rfl ⟨by decide +kernel, by decide +kernel⟩ (by decide +kernel) (by decide +kernel) (by decide +kernel)
    (by decide +kernel) (by decide +kernel) (by decide +kernel) (by decide +kernel), rfl⟩
theorem ready_fwCancel : bntReady .fwActivateCancel (authReq 3 0 (fwP 3)) (trialS (authReq 3 0 (fwP 3)) false) ∧
    (trialS (authReq 3 0 (fwP 3)) false).boot.mram.trial ≠ .none ∧ (trialS (authReq 3 0 (fwP 3)) false).boot.fwTrial = false ∧
    (trialS (authReq 3 0 (fwP 3)) false).boot.handover = false :=
  ⟨ready_of _ _ _ _ _ _ rfl rfl ⟨by decide +kernel, by decide +kernel⟩ (by decide +kernel) (by decide +kernel) (by decide +kernel)
    (by decide +kernel) (by decide +kernel) (by decide +kernel) (by decide +kernel), by decide +kernel, rfl, rfl⟩
theorem ready_fwCancel_busy : bntReady .fwActivateCancel (authReq 3 0 (fwP 3)) (bntS (authReq 3 0 (fwP 3))) ∧
    (bntS (authReq 3 0 (fwP 3))).boot.mram.trial = .none :=
  ⟨ready_of _ _ _ _ _ _ rfl rfl ⟨by decide +kernel, by decide +kernel⟩ (by decide +kernel) (by decide +kernel) (by decide +kernel)
    (by decide +kernel) (by decide +kernel) (by decide +kernel) (by decide +kernel), rfl⟩

/-- A grant record: nonce, KIND, and one unit. -/
def grantP (nonce kind : Byte) : List Byte :=
  nonce :: List.replicate 15 0 ++ [kind, 0, 0, 0] ++ List.replicate 4 0 ++ [1, 0, 0, 0] ++ List.replicate 4 0
theorem ready_obsGrant (n k : Byte) (h : (n, k) = (7, 0) ∨ (n, k) = (1, 0) ∨ (n, k) = (7, 4)) :
    bntReady .obsGrant (authReq 4 3 (grantP n k)) (bntS (authReq 4 3 (grantP n k))) := by
  simp only [Prod.mk.injEq] at h
  rcases h with ⟨rfl, rfl⟩ | ⟨rfl, rfl⟩ | ⟨rfl, rfl⟩ <;>
    exact ready_of _ _ _ _ _ _ rfl rfl ⟨by decide +kernel, by decide +kernel⟩ (by decide +kernel) (by decide +kernel) (by decide +kernel)
      (by decide +kernel) (by decide +kernel) (by decide +kernel) (by decide +kernel)
theorem witness_BonnetGrants : (let p := payload (authReq 4 3 (grantP 7 0))
      let s := bntS (authReq 4 3 (grantP 7 0))
      freeGrant s = some 0 ∧ grantBad p = false ∧ nonceUsed s (grantOf p).nonce = false) ∧
    nonceUsed (bntS (authReq 4 3 (grantP 1 0))) (grantOf (payload (authReq 4 3 (grantP 1 0)))).nonce = true ∧
    grantBad (payload (authReq 4 3 (grantP 7 4))) = true ∧
    (mget (bntS (authReq 5 3 (byteP 1 7))).bnt.grants none (leAt (payload (authReq 5 3 (byteP 1 7))) 0 1)).isSome = true ∧
    mget (bntS (authReq 5 3 (byteP 2 7))).bnt.grants none (leAt (payload (authReq 5 3 (byteP 2 7))) 0 1) = none := by decide +kernel
theorem ready_obsRevoke (k : Byte) (h : k = 1 ∨ k = 2) : bntReady .obsRevoke (authReq 5 3 (byteP k 7)) (bntS (authReq 5 3 (byteP k 7))) := by
  rcases h with rfl | rfl <;>
    exact ready_of _ _ _ _ _ _ rfl rfl ⟨by decide +kernel, by decide +kernel⟩ (by decide +kernel) (by decide +kernel) (by decide +kernel)
      (by decide +kernel) (by decide +kernel) (by decide +kernel) (by decide +kernel)
theorem ready_debugUnlock : bntReady .debugUnlock (authReq 6 0 (byteP 0 7)) (bntS (authReq 6 0 (byteP 0 7))) :=
  ready_of _ _ _ _ _ _ rfl rfl ⟨by decide +kernel, by decide +kernel⟩ (by decide +kernel) (by decide +kernel) (by decide +kernel)
    (by decide +kernel) (by decide +kernel) (by decide +kernel) (by decide +kernel)
/-- A REGION_RECONFIG payload with a region mask. -/
def reconfP (m : Byte) : List Byte := List.replicate 12 0 ++ [m, 0, 0, 0]
theorem ready_regionReconfig (m : Byte) (h : m = 15 ∨ m = 16) :
    bntReady .regionReconfig (authReq 7 0 (reconfP m)) (bntS (authReq 7 0 (reconfP m))) := by
  rcases h with rfl | rfl <;>
    exact ready_of _ _ _ _ _ _ rfl rfl ⟨by decide +kernel, by decide +kernel⟩ (by decide +kernel) (by decide +kernel) (by decide +kernel)
      (by decide +kernel) (by decide +kernel) (by decide +kernel) (by decide +kernel)
theorem ready_regionReconfig_busy : bntReady .regionReconfig (authReq 7 0 (reconfP 1))
    { bntS (authReq 7 0 (reconfP 1)) with glv := { load := some { phase := .header, source := .host, regions := 1, length := 0 } } } :=
  ready_of _ _ _ _ _ _ rfl rfl ⟨by decide +kernel, by decide +kernel⟩ (by decide +kernel) (by decide +kernel) (by decide +kernel)
    (by decide +kernel) (by decide +kernel) (by decide +kernel) (by decide +kernel)
theorem witness_BonnetReconfig : upS.glv.load = none ∧ leAt (payload (authReq 7 0 (reconfP 15))) 12 1 < 16 ∧
    16 ≤ leAt (payload (authReq 7 0 (reconfP 16))) 12 1 := by decide +kernel
theorem ready_regWrite : bntReady .regWrite (authReq 8 0 (byteP 0 11)) (bntS (authReq 8 0 (byteP 0 11))) :=
  ready_of _ _ _ _ _ _ rfl rfl ⟨by decide +kernel, by decide +kernel⟩ (by decide +kernel) (by decide +kernel) (by decide +kernel)
    (by decide +kernel) (by decide +kernel) (by decide +kernel) (by decide +kernel)
/-- A READBACK payload under grant 1. -/
def readP (what : Byte) : List Byte := [1, what] ++ List.replicate 18 0
theorem ready_plain : bntReady .attest (plainReq 0x10 (List.replicate 32 7)) (bntS (plainReq 0x10 (List.replicate 32 7))) ∧ bntReady .getCert (plainReq 0x11 (byteP 2 7)) (bntS (plainReq 0x11 (byteP 2 7))) ∧
    bntReady .getCert (plainReq 0x11 (byteP 3 7)) (bntS (plainReq 0x11 (byteP 3 7))) ∧ bntReady .readback (plainReq 0x12 (readP 0)) (bntS (plainReq 0x12 (readP 0))) ∧
    bntReady .readback (plainReq 0x12 (readP 3)) (bntS (plainReq 0x12 (readP 3))) ∧ bntReady .debugLock (plainReq 0x13 (byteP 0 7)) (bntS (plainReq 0x13 (byteP 0 7))) :=
  ⟨⟨by decide +kernel, _, rfl, ⟨by decide +kernel, by decide +kernel⟩, by decide +kernel⟩, ⟨by decide +kernel, _, rfl, ⟨by decide +kernel, by decide +kernel⟩, by decide +kernel⟩,
   ⟨by decide +kernel, _, rfl, ⟨by decide +kernel, by decide +kernel⟩, by decide +kernel⟩, ⟨by decide +kernel, _, rfl, ⟨by decide +kernel, by decide +kernel⟩, by decide +kernel⟩,
   ⟨by decide +kernel, _, rfl, ⟨by decide +kernel, by decide +kernel⟩, by decide +kernel⟩, ⟨by decide +kernel, _, rfl, ⟨by decide +kernel, by decide +kernel⟩, by decide +kernel⟩⟩
theorem witness_BonnetReports : leAt (payload (plainReq 0x11 (byteP 2 7))) 0 1 ≤ 2 ∧ 2 < leAt (payload (plainReq 0x11 (byteP 3 7))) 0 1 ∧
    readbackStatus (payload (plainReq 0x12 (readP 0))) { bntS (plainReq 0x12 (readP 0)) with sch := { st := .paused } } = 0 ∧
    readbackStatus (payload (plainReq 0x12 (readP 3))) { bntS (plainReq 0x12 (readP 3)) with sch := { st := .paused } } ≠ 0 := by
  decide +kernel
theorem test_debug_lock : (after .debugLock { bntS (plainReq 0x13 (byteP 0 7)) with
    bnt := { (bntS (plainReq 0x13 (byteP 0 7))).bnt with debugUnlock := true } }).bnt.debugUnlock = false := by decide +kernel

/-! ### Resets, start-up, Cloche, power, test and repair -/

/-- A module in a stage of start-up. -/
def stageS (st : BootStage) : State := { boot := { stage := st } }

theorem witness_ResetsLeaveTheKeep : (stageS .off).boot.stage = .off ∧ (stageS .up).boot.stage ≠ .off ∧ (stageS .up).boot.stage ≠ .porHeld ∧
    (stageS .up).boot.stage ∉ [BootStage.off, .porHeld, .halted, .fuse, .analog] ∧ accepts .pf0 Reg.GBL_RESET 1 upS ∧ upS.up = true := by
  and_intros <;> first | exact accepts_of (by decide +kernel) | decide +kernel
theorem test_resets : (after (.coldReset .powerOn) upS).boot.stage = .porHeld ∧ (after (.coldReset (.porLow 1999)) upS).boot.stage = .up ∧
    (after (.coldReset (.porLow 10000)) upS).fld Reg.GBL_BOOT 22 2 = 1 ∧ (after (.porNRelease 5 1) (stageS .porHeld)).boot.stage = .fuse ∧
    (after (.resetNAssert 10000) upS).fld Reg.GBL_BOOT 22 2 = 2 ∧ (after (.resetNAssert 1999) upS).boot.stage = .up ∧
    (after .powerRemoved upS).boot.stage = .off := by decide +kernel
theorem test_warm_reset : (after (.gblWarmReset .pf0 1 false) upS).boot.stage = .resident ∧
    (after (.gblWarmReset .pf0 1 false) upS).ldg.recs.length = 1 ∧ (after (.gblWarmReset .pf0 1 true) upS).ldg.recs = [] ∧
    (after .rootPllLockLoss upS).boot.stage = .halted := by decide +kernel

/-- A fabric reset is under way; a frozen apply was writing image content where `cut` says so. -/
def fabS (cut : Bool) : State :=
  { runS with
    sch := { runS.sch with applyFrozen := cut, committed := 9 }, boot := { runS.boot with fabricBusy := true }
    staged := { runS.staged with patch := mset [] none 0 (some 0) } }
/-- The same with no image held. -/
def fabNone (cut : Bool) : State := { fabS cut with img := {} }

theorem witness_FabricAndBlockResets : accepts .pf0 Reg.GBL_RESET 2 upS ∧ (2 : Word32).getLsbD 1 = true ∧ (2 : Word32).getLsbD 0 = false ∧
    (fabS false).boot.fabricBusy = true ∧ fabricWaits (fabS false) = false ∧ ((fabS false).load.invalidFlag || applyWritesImage (fabS false)) = false ∧
    (fabS false).img.valid = true ∧ (fabNone false).img.valid = false ∧ fabricWaits (fabNone false) = false ∧
    ((fabNone false).load.invalidFlag || applyWritesImage (fabNone false)) = false ∧
    ((fabS true).load.invalidFlag || applyWritesImage (fabS true)) = true ∧ fabricWaits (fabS true) = false ∧
    fabricWaits { fabS true with mem := { marchPhase := .copy } } = true ∧
    accepts .pf0 Reg.GBL_BLOCK_RESET 0x105 upS ∧ accepts .pf0 Reg.GBL_BLOCK_RESET 0x11B upS ∧ accepts .pf0 Reg.GBL_BLOCK_RESET 0x11A upS ∧
    accepts .pf0 Reg.GBL_BLOCK_RESET 0x114 upS ∧ accepts .pf0 Reg.GBL_BLOCK_RESET 0x11C upS ∧ accepts .pf0 Reg.GBL_BLOCK_RESET 0x118 upS ∧
    accepts .pf0 Reg.GBL_BLOCK_RESET 0x118 runS ∧ upS.sch.st = .idle ∧ runS.sch.st = .running ∧ bitsOf 0x105 0 5 = 5 ∧ upS.ast.armed = false ∧
    accepts .pf0 Reg.GBL_BLOCK_RESET 0x11A { upS with ast := { armed := true } } := by
  and_intros <;> first | exact accepts_of (by decide +kernel) | decide +kernel
theorem test_fabric_reset : (fabricKept (atFabricReset (fabS false))).sch.st = .paused ∧
    (fabricKept (atFabricReset (fabS false))).sch.committed = 9 ∧ (atFabricReset (fabS false)).staged = {} ∧
    (fabricReport true (fabS false)).fld Reg.SCH_APPLY 8 8 = 15 := by decide +kernel
theorem test_fabric_lost : (after .fabricResetDone (fabS true)).sch.st = .idle ∧ (after .fabricResetDone (fabS true)).img.valid = false ∧
    (after .fabricResetDone (fabS true)).pendBit 0x0A1 = true ∧ (after (.fabricReset .pf0 2) upS).boot.fabricBusy = true := by decide +kernel
theorem test_block_reset : (after (.blockReset ⟨.pf0, true⟩ 0x105) upS).fld Reg.GBL_BLOCK_RESET 16 8 = 12 ∧
    (after (.blockReset ⟨.pf0, false⟩ 0x105) upS).fld Reg.GBL_BLOCK_RESET 16 8 = 3 ∧
    (after (.blockReset ⟨.pf0, true⟩ 0x118) runS).fld Reg.GBL_BLOCK_RESET 16 8 = 9 ∧
    (after (.blockReset ⟨.pf0, true⟩ 0x11B) { upS with lks := { armed := true } }).lks.armed = false := by decide +kernel

/-- HEADER of slot A, with another slot to try or none. -/
def headS (rest : List FlashSlot) : State := { boot := { stage := .header, tries := .a :: rest, wanted := some .a } }
theorem witness_StartUp_header : (headS [.b]).boot.stage = .header ∧
    headerStatus (headS [.b]) (pkgBytes (headS [.b]) (some .a) 0 1280) ≠ 0 := by
  refine ⟨rfl, ?_⟩
  unfold headerStatus
  rw [show (leAt (pkgBytes (headS [.b]) (some .a) 0 1280) 0 4 != 0x594E5248) = true by decide +kernel, Bool.true_or]
  exact lowestStatus_ne _ _ (by decide) (by simp)
theorem witness_StartUpStages : (stageS .fuse).boot.stage ≠ .up ∧ (stageS .resident).boot.mram.resident = [] ∧
    ({ stageS .resident with boot := { stage := .resident, mram := { residentA := [1] } } } : State).boot.mram.resident ≠ [] ∧
    (stageS .journal).boot.stage = .journal ∧ (stageS .copy).boot.mram.trial ≠ .staging ∧ (stageS .journal).boot.mram.active = none ∧
    ({ stageS .journal with boot := { stage := .journal, mram := { active := some .b } } } : State).boot.mram.active ≠ none ∧
    (headS []).fld Reg.GBL_BOOT 24 8 = 0 ∧ ((headS []).setReg Reg.GBL_BOOT 0x05000000).fld Reg.GBL_BOOT 24 8 ≠ 0 ∧
    (stageS .header).boot.tries = [] ∧ (stageS .items).boot.stage = .items ∧
    ({ stageS .copy with boot := { stage := .copy, mram := { trial := .staging } } } : State).boot.mram.trial = .staging ∧
    (headS []).boot.tries = [.a] ∧ (stageS .controllers).boot.booted = none ∧ (stageS .claim).boot.stage = .claim := by decide +kernel
theorem test_start_up : (after (.bootFuseDone true) (stageS .fuse)).boot.stage = .analog ∧
    (after (.bootFuseDone false) (stageS .fuse)).boot.stage = .halted ∧
    (after (.bootAnalogDone none) (stageS .analog)).boot.stage = .resident ∧
    (after (.bootAnalogDone (some (3, 4))) (stageS .analog)).boot.mram.failure = some (3, 4) ∧
    (after .bootResidentDone (stageS .resident)).boot.stage = .journal ∧ (after (.bootCopyDone true) (stageS .copy)).boot.stage = .header ∧
    (after (.bootCopyDone false) { stageS .copy with boot := { stage := .copy, mram := { trial := .staging } } }).boot.onTrial = false ∧
    (after .bootHeaderDone (stageS .header)).pendBit 0x00C = true := by
  decide +kernel
theorem test_start_up_end : (after (.bootControllersDone true) (stageS .controllers)).boot.stage = .claim ∧
    (after .bootUp (stageS .claim)).pendBit 0x00A = true := by decide +kernel

/-- One request of the Cloche mailbox at the front; slot A is the active one. -/
def cloS (r : Request) : State :=
  { upS with boot := { upS.boot with reqs := [r], box0 := { busy := true }, mram := { upS.boot.mram with active := some .a } } }
/-- Payloads: an offset and a byte; a slot, an offset and a byte; a slot, an offset and a length. -/
def stageP (o : Byte) : List Byte := [o, 0, 0, 0, 9]
def flashP (slot top : Byte) : List Byte := [slot, 0, 0, 0, 0, 0, 0, top, 9]
def flashR (slot top : Byte) : List Byte := [slot, 0, 0, 0, 0, 0, 0, top, 4, 0, 0, 0]

theorem witness_ClocheMailbox : hasBox .bonnet = false ∧ hasBox .smb = true ∧ (upS.clocheBox .smb).busy = false ∧ upS.boot.reqs = [] ∧
    clocheOps.contains (leAt (reqHead 9 0 0 0) 0 2) = false ∧
    clocheOps.contains (reqOp (Request.mk .smb (reqHead 0x101 0xFF 5 0 ++ stageP 0))) = true ∧
    upS.ownsPath .pf0 = true ∧ upS.ownsPath .smb = false ∧ clocheForm (plainReq 0x101 (stageP 0)) 5 1540 = true ∧
    clocheForm (plainReq 0x101 [1]) 5 1540 = false ∧ clocheForm (plainReq 0x102 []) 0 0 = true ∧
    clocheForm (plainReq 0x103 (flashP 1 0)) 9 1544 = true ∧ clocheForm (plainReq 0x104 (flashR 1 0)) 12 12 = true := by decide +kernel
theorem witness_ClocheOperations : (let p := payload (plainReq 0x101 (stageP 3))
      leAt p 0 4 + (p.drop 4).length ≤ 0x800000 ∧ (cloS (plainReq 0x101 (stageP 3))).boot.mram.trial ≠ .staging) ∧
    (let p := payload (plainReq 0x101 [0, 0, 0x80, 0, 1])
     0x800000 < leAt p 0 4 + (p.drop 4).length) ∧
    (let p := payload (plainReq 0x103 (flashP 1 0))
     slotOf (leAt p 0 1) = some .b ∧ allZero p 1 3 = true ∧ leAt p 4 4 + (p.drop 8).length ≤ 2 ^ 24 ∧
       (cloS (plainReq 0x103 (flashP 1 0))).boot.mram.active ≠ some .b ∧ slotOnTrial (cloS (plainReq 0x103 (flashP 1 0))) .b = false) ∧
    (cloS (plainReq 0x103 (flashP 0 0))).boot.mram.active = some .a ∧ slotOf (leAt (payload (plainReq 0x103 (flashP 0 0))) 0 1) = some .a ∧
    slotOf (leAt (payload (plainReq 0x103 (flashP 2 0))) 0 1) = none ∧
    (let p := payload (plainReq 0x103 (flashP 1 1))
     2 ^ 24 < leAt p 4 4 + (p.drop 8).length) ∧
    (let p := payload (plainReq 0x104 (flashR 1 0))
     slotOf (leAt p 0 1) = some .b ∧ allZero p 1 3 = true ∧ leAt p 8 4 ≤ 2048 ∧ leAt p 4 4 + leAt p 8 4 ≤ 2 ^ 24) ∧
    (let p := payload (plainReq 0x104 (flashR 1 1))
     2 ^ 24 < leAt p 4 4 + leAt p 8 4) ∧ upS.boot.handover = false := by decide +kernel
theorem test_cloche : mget (after .stageWrite (cloS (plainReq 0x101 (stageP 3)))).boot.mram.staging 0xFF 3 = 9 ∧
    (after .flashWrite (cloS (plainReq 0x103 (flashP 0 0)))).boot.box0.code = 4 ∧
    mget (after .flashWrite (cloS (plainReq 0x103 (flashP 1 0)))).boot.flash 0xFF (slotBase .b) = 9 ∧
    (after .flashRead (cloS (plainReq 0x104 (flashR 1 0)))).boot.box0.resp = [0xFF, 0xFF, 0xFF, 0xFF] ∧
    (after .stageStatus (cloS (plainReq 0x102 []))).boot.box0.resp = [0, 0, 0, 0] := by decide +kernel
/-- A live handover to firmware of 3 bytes in slot B, signed with the vendor key's private half. -/
def fwB : List Byte := [1, 2, 3] ++ beBytes 96 0x11de24a2c251c777573cac5ea025e467f208e51dbff98fc54f6661cbe56583b037882f4a1ca297e60abcdbc3836d84bceb335a151ddd1ad3f55906866429aa7bb3f50eaa2ece42b594ea158e196d9dfd4a6d594bd09a378d835cc5c82ff316e6
def liveS : State := { upS with boot := { upS.boot with
  handover := true
  mram := { upS.boot.mram with active := some .a }
  flash := (List.range 99).zipWith (fun i b => (slotBase .b + 0x500 + i, b)) fwB
  liveHeader := List.replicate 20 0 ++ leBytes 2 1 ++ List.replicate 106 0 ++ leBytes 2 1 ++ leBytes 2 0 ++ leBytes 4 99 ++ leBytes 8 0x500 ++
    beBytes 48 0xb771286d145c5e8153aea5eb98434366137b3c817b02bdd32dbebed1c1e370bfd7204fd15ad94d76b1f5ae0053b36ab1 } }
theorem witness_LiveHandover : liveS.boot.handover = true ∧ standbyCheck liveS = true ∧
    standbyCheck { upS with boot := { upS.boot with handover := true } } = false := by decide +kernel
theorem test_handover : (after .handoverStandbyReady liveS).boot.activeB = true ∧
    (after .handoverTimeout { upS with boot := { upS.boot with handover := true } }).pendBit 0x00F = true := by decide +kernel

/-- HOLD with nothing under way, and Doze. -/
def holdS : State := { upS with sch := { st := .idle } }
def dozeS : State := ({ upS with pwr := { upS.pwr with mode := .doze } }).setReg Reg.PWR_CTRL 1

theorem witness_PowerRequests : accepts .pf0 Reg.PWR_CTRL 1 holdS ∧ accepts .pf0 Reg.PWR_CTRL 2 holdS ∧ holdS.fld Reg.PWR_CTRL 0 2 ≠ 1 ∧
    powTo holdS = .on ∧ dozeOpen holdS = true ∧ holdS.pwr.trans = [] ∧ accepts .pf0 Reg.PWR_CTRL 2 dozeS ∧ powTo dozeS ≠ .on ∧
    dozeS.fld Reg.PWR_CTRL 0 2 = 1 ∧ accepts .pf0 Reg.PWR_CTRL 1 dozeS ∧ accepts .pf0 Reg.PWR_CTRL 0 dozeS ∧
    accepts .pf0 Reg.PWR_CTRL 0 holdS ∧ dozeOpen runS = false ∧ accepts .pf0 Reg.PWR_CTRL 1 runS ∧ powTo runS = .on ∧ runS.pwr.trans = [] ∧
    accepts .pf0 Reg.PWR_CTRL 8 holdS ∧ accepts .pf0 Reg.PWR_CTRL 4 holdS ∧
    ({ holdS with pwr := { holdS.pwr with trans := [.on, .nap] } } : State).pwr.trans = [.on, .nap] := by
  and_intros <;> first | exact accepts_of (by decide +kernel) | decide +kernel
theorem witness_PowerReadings : (List.replicate 24 (100 : Byte)).length = 24 ∧ validTemps upS (List.replicate 24 100) ≠ [] ∧
    hottest (validTemps upS (List.replicate 24 100)) = (0, 100) ∧
    validTemps (upS.setReg Reg.PWR_TS_EXCL 0xFFFFFF) (List.replicate 24 100) = [] ∧ upS.pwr.rampT = none ∧
    ({ upS with pwr := { upS.pwr with rampT := some 3 } } : State).pwr.rampT = some 3 ∧ upS.plat.lfcEn = false := by decide +kernel
theorem test_power : (after (.pwrTargetDoze .pf0 1) holdS).pwr.trans = [.doze] ∧ (after (.pwrTargetDoze .pf0 1) runS).pendBit 0x543 = true ∧
    (after (.pwrWake .pf0 0) dozeS).pwr.trans = [.on] ∧ (after (.pwrTargetNap .pf0 2) dozeS).pwr.trans = [.on, .nap] := by decide +kernel
theorem test_ledger : (after (.ledgerPeriodicWrite false) upS).ldg.recs.length = 1 ∧ (after (.ledgerPeriodicWrite true) upS).ldg.recs = [] ∧
    (after (.shutdown .pf0 4 false) holdS).pendBit 0x540 = true ∧ (after (.ldgFlush .pf0 8 false) holdS).ldg.recs.length = 1 := by decide +kernel
theorem test_thermal : (after (.thermalReading (List.replicate 24 255)) upS).pwr.trip = true ∧
    (after (.thermalReading (List.replicate 24 100)) upS).fld Reg.PWR_TEMP 0 8 = 100 ∧
    (after (.thermalSensorCheck (200 :: List.replicate 23 100)) upS).bit Reg.PWR_TS_EXCL 0 = true := by decide +kernel

/-- A self-test runs. -/
def stS (code : Byte) (unit : BitVec 16) (loop : Bool) : State := { upS with pwr := { upS.pwr with test := some (code, unit, loop) } }

theorem witness_SelfTestRequests : accepts .pf0 Reg.PWR_ST_CTRL 0x04003F06 upS ∧ (0x04003F06 : Word32).getLsbD 26 = true ∧
    testStatus upS true 6 63 = 0 ∧ testStatus upS true 6 64 = 12 ∧ testStatus runS true 0x12 0 = 4 ∧ testStatus upS false 6 63 = 3 ∧
    testStatus (stS 6 63 false) true 5 1 = 9 ∧ upS.pwr.test = none ∧
    accepts .pf0 Reg.PWR_ST_CTRL 0x08000000 (stS 5 1 true) ∧ (stS 5 1 true).pwr.test = some (5, 1, true) ∧
    (stS 6 63 false).pwr.test = some (6, 63, false) ∧
    ({ stS 0x12 0 false with mem := { marchPhase := .restore, marchSelfTest := true } } : State).mem.marchPhase ≠ .march := by
  and_intros <;> first | exact accepts_of (by decide +kernel) | decide +kernel
theorem test_self_test : (after (.selfTestGo ⟨.pf0, true⟩ 0x04003F06) upS).pwr.test = some (6, 63, false) ∧
    (after (.selfTestGo ⟨.pf0, true⟩ 0x04004006) upS).fld Reg.PWR_ST_STATUS 8 8 = 12 ∧
    (after (.selfTestDone false) (stS 6 63 false)).bit (Reg.PWR_TDC_FAIL + 4) 31 = true ∧
    (after (.selfTestStop .pf0 0x08000000) (stS 5 1 true)).pwr.test = none := by decide +kernel

/-- A preserving march of bank 3, in its first or second march. -/
def marchS (second : Bool) : State :=
  { upS with mem := { marchPhase := .march, marchBank := 3, marchSecond := second }, pwr := { upS.pwr with repaired := if second then [3] else [] } }

/-- Failing cells that no spares cover. -/
def badCells : List FailCell :=
  (List.range 7).flatMap (fun i => (List.range 7).map (fun j => ⟨3, BitVec.ofNat 13 (16 * i), BitVec.ofNat 7 j⟩))

theorem witness_MarchRepair : (marchS false).mem.marchPhase = .march ∧ (marchS false).mem.marchSecond = false ∧
    failUnits (marchS false) [⟨4, 5, 6⟩] = [] ∧ failUnits (marchS false) [⟨3, 5, 6⟩] = [3] ∧
    allocate (unitCells (marchS false) [⟨3, 5, 6⟩] 3) (freeSpares (marchS false) (marchTarget (marchS false)) 3 0).length
      (freeSpares (marchS false) (marchTarget (marchS false)) 3 1).length = some ([], [0]) ∧
    (marchS false).boot.mram.repairs.length + 0 + 1 ≤ 4096 ∧
    allocate ((List.range 5).flatMap (fun i => (List.range 3).map (fun j => ⟨3, BitVec.ofNat 13 (16 * i), BitVec.ofNat 7 j⟩))) 4 2 = none ∧
    allocate (unitCells (marchS false) badCells 3) (freeSpares (marchS false) (marchTarget (marchS false)) 3 0).length
      (freeSpares (marchS false) (marchTarget (marchS false)) 3 1).length = none ∧ failUnits (marchS false) badCells = [3] ∧
    (marchS false).mem.marchSelfTest = false ∧ (marchS false).mem.marchDestr = false ∧ (marchS false).boot.mram.repairs.length < 4096 ∧
    allocate [⟨3, 5, 6⟩, ⟨3, 21, 6⟩] 4 2 ≠ none ∧ (marchS true).mem.marchSecond = true := by decide +kernel
/-- The same with the repair record full, and while a self-test runs the march. -/
def marchFull : State := { marchS false with boot := { (marchS false).boot with mram := { repairs := List.replicate 4096 1 } } }
def marchTest : State := { marchS false with mem := { (marchS false).mem with marchSelfTest := true } }
theorem witness_MarchRepair_full : marchFull.up = true ∧ marchFull.mem.marchPhase = .march ∧ marchFull.mem.marchSecond = false ∧
    failUnits marchFull badCells = [3] ∧ 4096 ≤ marchFull.boot.mram.repairs.length ∧ marchTest.up = true ∧
    marchTest.mem.marchPhase = .march ∧ marchTest.mem.marchSecond = false ∧ failUnits marchTest badCells = [3] ∧
    marchTest.mem.marchSelfTest = true := by
  refine ⟨rfl, rfl, rfl, by decide +kernel, ?_, rfl, rfl, rfl, by decide +kernel, rfl⟩
  show 4096 ≤ (List.replicate 4096 _).length
  rw [List.length_replicate]
theorem witness_ChecksInService : upS.up = true ∧ (15 : BitVec 4).toNat < upS.lanePorts ∧
    ({ upS with ident := { half := true } } : State).lanePorts ≤ (15 : BitVec 4).toNat ∧ (1 : BitVec 1).toNat < upS.stacks ∧
    ({ upS with ident := { half := true } } : State).stacks ≤ (1 : BitVec 1).toNat ∧ (upS.setReg Reg.PWR_VCCIO 4).bit Reg.PWR_VCCIO 2 = true ∧
    (upS.setReg Reg.PWR_VCCIO 0).bit Reg.PWR_VCCIO 2 = false ∧ (stageS .off).boot.stage = .off ∧ (stageS .resident).boot.stage ≠ .off ∧
    (stageS .porHeld).up = false ∧ ((stageS .porHeld).setReg Reg.PWR_VCCIO 4).bit Reg.PWR_VCCIO 2 = true ∧
    12 ≤ (validTemps upS (List.replicate 24 100)).length ∧ upS.plat.avsEn = false ∧
    ({ upS with plat := { upS.plat with avsEn := true } } : State).plat.avsEn = true ∧ median2 ((validTemps upS (List.replicate 24 100)).map (fun p => p.2)) = 200 := by
  decide +kernel
theorem test_march : (after (.marchPhaseDone [⟨3, 5, 6⟩]) (marchS false)).boot.mram.repairs.length = 1 ∧
    (after (.marchPhaseDone [⟨3, 5, 6⟩]) (marchS false)).mem.marchSecond = true ∧
    (after (.marchPhaseDone []) (marchS false)).mem.marchPhase = .restore ∧
    (after (.repairRemarchDone [⟨3, 5, 6⟩]) (marchS true)).pwr.failed = [3] := by decide +kernel
theorem test_checks : (after (.vmonCheck 800 16 0) upS).pwr.vmonBad = true ∧ (after (.vmonCheck 800 15 15) upS).reg Reg.PWR_VCORE = 800 ∧
    (after (.lanePllLockLoss 1) upS).pwr.parked = [(0x12, 1)] ∧ (after (.hbmPllLockLoss 1) upS).pwr.parked = [(0x16, 1)] ∧
    (after (.vccioMonitorTrip 2) (upS.setReg Reg.PWR_VCCIO 4)).bit Reg.PWR_VCCIO 10 = true ∧
    (after (.vccioMonitorClear 2) (stageS .resident)).bit Reg.PWR_VCCIO 2 = true ∧
    (after (.marchPhaseDone badCells) (marchS false)).boot.mram.repairs.length = 1 := by decide +kernel
theorem witness_UnmappedBar4 : bar4Mapped .pf0 0xFFFFFC = false ∧ bar4Mapped .pf1 0x3FFFFC = false ∧ bar4Mapped .pf0 0 = true := by
  decide +kernel
/-- An issue of READ by the BPs 3 and 7 of cluster 0 in context 2, with results 0 and 1. -/
def issE (bp : Nat) (r : Bool) : Effect := { cluster := 0, bp := bp, slot := 9, dest := 0, kind := .issue 2 0 r }
theorem witness_ResultsTakeEffect_issue :
    (issueAccesses [issE 3 true, issE 7 true, issE 8 false] issS).map (fun a => (a.ctx, a.op)) = [(2, 0)] ∧
    (let s : State := { issS with sch := { issS.sch with infl := [issE 7 true, { issE 7 true with slot := 8 }] } }
     s.sch.infl.filter (fun o => o.slot == 9) = [issE 7 true]) ∧ 0x10 ∉ [0, 2, 3, 0x11] := by decide +kernel
theorem test_issue_clears_wen : ((takeEffects 9 1 { memS with
    sch := { memS.sch with infl := [{ issE 7 true with kind := .issue 2 1 true }], exec := issS.sch.exec }
    clu := { memS.clu with ports := [(2, { addr := 5, wdata := 9, wen := 0xF })] } }).port 0 2).wen = 0 := by decide +kernel
/-- Two written shadow bits and one that class 01 left unwritten. -/
def mergeS : State := { cpS with clu := { cpS.clu with shadow := [(5, some true), (7, none)], copies := [(2 ^ 24 + 7, true)] }
                                 sch := { cpS.sch with comCopy := 1 } }
theorem witness_BoundarySteps_merge : 2 ≠ mergeS.baseCopy ∧ mergeS.clu.shadow.filter (fun p => p.1 == 5) = [(5, some true)] ∧
    (∀ p, p ∈ mergeS.clu.shadow → p.1 = 7 → p.2 = none) ∧ (∀ p, p ∈ mergeS.clu.shadow → p.1 < 2 ^ 24) := by decide +kernel
theorem test_merge : mget (mergeCopy 2 mergeS).clu.copies false (2 ^ 25 + 5) = true ∧ mget (mergeCopy 2 mergeS).clu.copies false (2 ^ 25 + 7) = true := by
  decide +kernel
theorem witness_BankPower_request : bankMoves { upS with regs := [(0xB00104, 1)] } = true ∧ upS.pwr.mode = .on := by decide +kernel
theorem witness_MarchRequests_begin : marching upS = false ∧ upS.pwr.mode = .on ∧ (511 : BitVec 9).toNat < upS.bankCount ∧
    bankPower upS 511 = 0 ∧ (freeSpare upS 511).isSome = true ∧ accepts .pf0 Reg.MEM_MARCH_CTRL (BitVec.ofNat 32 (1024 + 511)) upS ∧
    (upS.img.valid && upS.bankUsed 511) = false ∧ accepts .pf0 Reg.MEM_MARCH_CTRL (BitVec.ofNat 32 (1536 + 511)) upS ∧
    (memS.img.valid && memS.bankUsed 0) = true ∧ marching { upS with mem := { marchPhase := .march } } = true := by
  and_intros <;> first | exact accepts_of (by decide +kernel) | decide +kernel
/-- A far-end test of port 1 reflects. -/
theorem witness_LaneReflection : reflects { upS with pwr := { upS.pwr with test := some (5, 1, true) } } 1 = true ∧
    reflects upS 1 = false ∧ ((laneS .align).lane 0).st ≠ .active := by decide +kernel
theorem test_training_blocks : (after (.laneDetectDone 0) (laneS .detect)).out.length = 16 ∧
    (after (.laneBlockLockLoss 0 ⟨1, 0⟩) (laneS .align)).out = [] := by decide +kernel
/-- A message of channel 3 that is open, and an execution under R370 or not. -/
def openS (sole : Bool) (m : Msg) : State :=
  { dspS m false with sch := { issS.sch with exec := some { num := 1, ns := false, copy := 1, sole := sole } } }
theorem witness_DispatcherCapture : chKind upS 3 = 3 ∧ chKind (upS.setReg (Reg.DSP_CH_CFG_ch + 16 * 3) 0) 3 = 0 ∧
    chKind (upS.setReg (Reg.DSP_CH_CFG_ch + 16 * 3) 1) 3 = 1 ∧ chKind (upS.setReg (Reg.DSP_CH_CFG_ch + 16 * 3) 2) 3 = 2 ∧
    upS.dsp.msgs.find? (fun x => x.st == .open' && x.cyc == 1 && x.cluster == 0 && x.ch == 3) = none ∧
    (∀ x, x ∈ (openS false (msgOf .open' false false)).dsp.msgs → x.id ≠ (openS false (msgOf .open' false false)).dsp.nextId) ∧
    (openS false (msgOf .open' false false)).sch.exec.any (fun e => e.sole) = false ∧
    (openS true (msgOf .open' false false)).sch.exec.any (fun e => e.sole) = true ∧ (placedMsgs upS).length < 4096 ∧ chHolds upS 3 < 255 ∧
    matchCall upS 1 3 1 0 2 [4] = none ∧ isNext upS 7 = false ∧ isNext upS 1 = true ∧
    (matchCall (openS false { msgOf .delivered true true with attached := true }) 1 3 1 0 2 [4]).isSome = true := by decide +kernel
/-- 255 messages of a channel, of which the last is an attached call where `call` says so. -/
def fullCh (call sole : Bool) : State :=
  { openS sole (msgOf .closed false false) with dsp := { msgs := (List.range 255).map (fun i =>
      { msgOf .closed (call && i == 254) false with id := i, attached := call && i == 254 }), nextId := 300 } }
theorem witness_DispatcherExhaustion : 255 ≤ chHolds (fullCh false false) 3 ∧
    (∀ a, a ∈ (fullCh false true).dsp.msgs → a.matchable 1 = false) ∧
    ((fullCh true true).dsp.msgs.any (fun a => a.matchable 1 && a.ch == 3 && a.cluster == 0 && a.words.head? == some 4)) = true := by
  decide +kernel
theorem witness_DispatcherWords : (openS false (msgOf .open' false false)).dsp.msgs.find?
      (fun x => x.st == .open' && x.cyc == 1 && x.cluster == 0 && x.ch == 3) = some (msgOf .open' false false) ∧
    (openS false (msgOf .open' false false)).dsp.msgs.filter (fun x => x.st == .open' && x.cyc == 1) = [msgOf .open' false false] ∧
    (let m := { msgOf .delivered true true with attached := true }
     (openS false m).dsp.msgs.filter (fun x => x.call && x.attached && !x.matched && x.cyc == 1 &&
       (x.st == .closed || x.st == .released || x.st == .delivered)) = [m] ∧ m.resp = none) ∧
    upS.dsp.binds.find? (fun b => b.cyc == 1 && b.ch == 4 && b.step == 1 && b.cluster == 0 && b.ctx == 5) = none ∧
    upS.dsp.posted.find? (fun p => p.ch == 4) = none ∧ chNowait upS 4 = false ∧
    chNowait (upS.setReg (Reg.DSP_CH_CFG_ch + 16 * 4) 0x200001) 4 = true := by decide +kernel
theorem test_capture : (msgWord 1 0 2 3 0 0 1 true false false 8 (openS false (msgOf .open' false false))).dsp.msgs.map
      (fun m => (m.words, m.st)) = [([4, 8], .open')] ∧
    (msgWord 1 0 2 3 0 0 1 false true false 8 (openS false (msgOf .released false false))).mem.reads.length = 2 ∧
    (recvTake 1 0 5 4 1 (dspS (msgOf .closed false false) false)).dsp.waits.length = 1 ∧
    (exhaustion 1 3 (openS true (msgOf .closed false false))).sch.fatal = true := by decide +kernel
theorem witness_RunControl_doze : (let s : State := { dozeS with sch := { st := .faultStop } }
      faultHeld s = true ∧ powTo s ≠ .on) ∧ accepts .pf0 Reg.SCH_CTRL (withBits (dozeS.reg Reg.SCH_CTRL) 0 1 0) dozeS ∧
    readable dozeS = false ∧ accepts .pf0 Reg.SCH_REWIND 0x100 dozeS := by
  and_intros <;> first | exact accepts_of (by decide +kernel) | decide +kernel
/-- Two READYs of the clock have come before a SQUASH_REQ. -/
theorem test_squash_counts_readys : (applyWave (waveMsg 3 0 0 0 1)
      { condS (waveMsg 3 0 0 0 1) with wave := { (condS (waveMsg 3 0 0 0 1)).wave with
        readyNow := ((condS (waveMsg 3 0 0 0 1)).clock, 2), readys := [(1, 1), (1, 2)] } }).reg (Reg.SCH_SPC + 112) = 2 := by decide +kernel
theorem witness_DebugNoImage : ({ loadS .write false with bnt := { debugUnlock := true, debugNoImage := true } } : State).bnt.debugNoImage = true ∧
    (loadS .write false).bnt.debugNoImage = false := by decide +kernel
/-- Port 0 carries the design and has its replay buffer full, or 16 WAVE messages waiting, or neither. -/
theorem witness_TimeRoom : (let s := (laneS .active).setBit Reg.TIM_CTRL 0 true
      timeMaySend s 0 = true ∧ itemRoom s 0 = true ∧
      itemRoom { s with lnk := { ports := [(0, { s.lane 0 with outstanding := List.replicate 64 { gseq := 0, parts := [], sent := 1 } })] } } 0 = false) := by
  decide +kernel
theorem witness_Forecast : (let s : State := { upS with plat := { upS.plat with lfcEn := true }, pwr := { upS.pwr with rampT := some 3 } }
      s.plat.lfcEn = true ∧ 3 + 5 ≤ s.fld Reg.PWR_RAMP 0 7) ∧
    resumeMayCome { upS with pwr := { upS.pwr with longHold := false } } = false ∧
    recordOk [] = false := by
  and_intros <;> decide +kernel
/-- COPY has programmed two units; a ledger record, a staging write and a request are in progress. -/
def busyResetS : State :=
  { stageS .copy with
    ldg := { wrote := some 0 }
    boot := { stage := .copy, mram := { trial := .staging, copied := 8192, staging := [(8192, 7)] }
              reqs := [{ path := .pf0, bytes := reqHead 0x101 0xFF 5 0 ++ [0, 0, 0, 0, 9] }] } }
theorem witness_Interrupted : ledgerOpen busyResetS = true ∧ ledgerOpen (stageS .up) = false ∧ stageWriting (stageS .up) = false ∧
    stageWriting (cloS (plainReq 0x101 (stageP 3))) = true ∧ upS.bnt.reqs = [] ∧ (stageS .up).boot.stage ≠ .copy ∧
    busyResetS.boot.stage = .copy ∧ mwf busyResetS.boot.mram.staging (fun _ => 0xFF) = true ∧ 8192 ≤ 8192 ∧
    pathTaken .pf0 false (cloS (plainReq 0x102 [])).boot.reqs = true ∧
    pathTaken .smb false (cloS (plainReq 0x102 [])).boot.reqs = false := by decide +kernel
theorem test_interrupted : (stageTorn (cloS (plainReq 0x101 (stageP 3)))).boot.mram.stageTorn = true ∧
    interrupted (stageS .up) = stageS .up := by decide +kernel

end Sys2Proof.Tests
end

section
/-!
Proofs of the family 00_scope: what a reset leaves (O2), KEEP bits against the capture of a cause (O9), writes by a path that
does not own (O15), and the event masks, pending bits and MSI-X vectors (O16).
-/
namespace Sys2Proof.Proofs
open Sys2Proof.Machine Sys2Proof.Laws

/-! ### Reset values -/

theorem routeReg_eq (e : Nat) : routeReg e = 0x4000 + 4 * e := rfl

theorem maskReg_eq (e : Nat) : maskReg e = 0x1100 + 4 * (e / 32) := rfl

theorem pendReg_eq (e : Nat) : pendReg e = 0x1000 + 4 * (e / 32) := rfl

theorem reset_reg (o : Nat) : State.reset.reg o = resetVal o := rfl

/-- A route word right after reset maps the event to the vector of its own number, in PF0 alone (R35). -/
theorem resetVal_routeReg {e : Nat} (he : e < 1536) : resetVal (routeReg e) = BitVec.ofNat 32 e := by
  have hr : 0x4000 ≤ routeReg e ∧ routeReg e < 0x5800 := by rw [routeReg_eq]; omega
  have hn : (routeReg e - 0x4000) / 4 = e := by rw [routeReg_eq]; omega
  rw [resetVal, if_pos hr, hn]

theorem resetVal_maskReg {e : Nat} (he : e < 1536) : resetVal (maskReg e) = 0xFFFFFFFF := by
  have hm : 0x1100 ≤ maskReg e ∧ maskReg e < 0x11C0 := by rw [maskReg_eq]; omega
  rw [resetVal, if_neg (by omega), if_pos hm]

theorem resetVal_pendReg {e : Nat} (he : e < 1536) : resetVal (pendReg e) = 0 := by
  have hp : 0x1000 ≤ pendReg e ∧ pendReg e < 0x10C0 := by rw [pendReg_eq]; omega
  have hnone : resetTable.find? (fun p => p.1 == pendReg e) = none := by
    simp only [resetTable, List.find?_eq_none, List.mem_cons, List.not_mem_nil, or_false, forall_eq_or_imp, forall_eq, beq_iff_eq]
    omega
  rw [resetVal, if_neg (by omega), if_neg (by omega), if_neg (by omega), hnone]

/-- The VEC field of a route word that holds a vector's number. -/
theorem bitsOf_ofNat_vec {e : Nat} (he : e < 1536) : bitsOf (BitVec.ofNat 32 e) 0 11 = e := by
  simp only [bitsOf, BitVec.toNat_ofNat, Nat.shiftRight_zero]
  omega

/-- The PF1_EN field of such a word. -/
theorem bitsOf_ofNat_pf1 {e : Nat} (he : e < 1536) : bitsOf (BitVec.ofNat 32 e) 16 1 = 0 := by
  simp only [bitsOf, BitVec.toNat_ofNat, Nat.shiftRight_eq_div_pow]
  omega

theorem reset_maskBit {e : Nat} (he : e < 1536) : State.reset.maskBit e = true := by
  have hlt : e % 32 < 32 := Nat.mod_lt _ (by decide)
  rw [State.maskBit, bit_eq, reset_reg, resetVal_maskReg he, show (0xFFFFFFFF : Word32) = BitVec.allOnes 32 from rfl,
    BitVec.getLsbD_allOnes, decide_eq_true hlt]

theorem reset_pendBit {e : Nat} (he : e < 1536) : State.reset.pendBit e = false := by
  rw [State.pendBit, bit_eq, reset_reg, resetVal_pendReg he]
  exact BitVec.getLsbD_zero

/-- Settles O2: the register words from the table of reset values, the rest from the fields of the state. -/
theorem resetState : Obligations.ResetState := by
  refine ⟨reset_reg, fun e he => ?_, rfl, rfl, rfl, rfl, rfl, rfl, rfl, rfl, rfl⟩
  rw [reset_reg, resetVal_routeReg he]
  exact ⟨bitsOf_ofNat_vec he, bitsOf_ofNat_pf1 he, reset_maskBit he, reset_pendBit he⟩

/-! ### One BAR0 write -/

theorem exec_registerWrite {s : State} (path : Path) (off : BitVec 24) (val : Word32) (h : s.up = true) :
    exec (.registerWrite path off val) s = .next (barWrite path off.toNat val s) := run_up _ h

theorem barWrite_occupied {path : Path} {off : Nat} {val : Word32} {s : State} (h : (rowAt off).isSome = true) :
    barWrite path off val s = regAccess path off val (effectOf path off) s := by
  obtain ⟨r, hr⟩ := Option.isSome_iff_exists.mp h
  rw [barWrite, hr]

/-- The report of a write changes no register but the status, its captures and the pending bits of its event. -/
theorem gblErr_regsBut (kind ev off pc : Nat) (lanes : Bool) (s : State) :
    RegsBut [Reg.GBL_ERR_STATUS, Reg.GBL_ERR_ADDR, Reg.GBL_ERR_INFO, pendReg ev] s (gblErr kind ev off pc lanes s) := by
  intro o ho
  simp only [List.mem_cons, List.not_mem_nil, or_false, not_or] at ho
  obtain ⟨hstatus, haddr, hinfo, hpend⟩ := ho
  exact gblErr_reg s hstatus haddr hinfo hpend

/-- Settles O15: such a write is `observerWrite`, whose one effect is the report of the cause OBSERVER; where the grade lacks
the resource the write ends before that. -/
theorem observerWriteDropped : Obligations.ObserverWriteDropped := by
  refine ⟨fun path off val s hup hrow ha hown hnon => ?_, fun path off val s hup hrow ha => ?_⟩
  · have hdrop : exec (.registerWrite path off val) s = .next (observerWrite path off.toNat s) := by
      rw [exec_registerWrite path off val hup, barWrite_occupied hrow, regAccess_observer _ ha (by rw [hown, hnon]; rfl)]
    obtain ⟨hcause, hpend⟩ := gblErr_bit (kind := 2) (ev := 0x003) (off := off.toNat) (pc := pathCode path) (lanes := false)
      (s := s) (by decide) (by decide)
    exact ⟨_, hdrop, hcause, hpend, gblErr_regsBut _ _ _ _ _ _, (gblErr_chg ..).changes⟩
  · rw [exec_registerWrite path off val hup, barWrite_occupied hrow, regAccess_absent _ ha]


/-! ### KEEP bits and the capture of a cause -/

/-- The state after a list of commands. -/
def runAll (l : List Instr) (s : State) : State :=
  l.foldl (fun s c => match exec c s with
    | .next t => t
    | .fault _ | .refused _ => s) s

/-- In service with the host as owner, under a debug unlock; the host's request for DEBUG_LOCK waits. -/
def unlockedS : State :=
  { boot := { stage := .up }
    own := { st := .owned, owner := .host }
    bnt := { debugUnlock := true, box0 := { busy := true }
             reqs := [{ path := .pf0, bytes := [0x13, 0, 0xFF, 0, 8, 0, 0, 0] ++ List.replicate 16 0 }] } }

/-- Under the unlock the host sets KEEP bit 7 of GBL_ERR_INFO (R414) and clears the cause that this sets; then the unlock
ends. -/
def keepBitS : State :=
  runAll [.registerWrite .pf0 (BitVec.ofNat 24 Reg.GBL_ERR_INFO) 0x80,
    .registerWrite .pf0 (BitVec.ofNat 24 Reg.GBL_ERR_STATUS) 0x8, .debugLock] unlockedS

/-- The row of GBL_ERR_INFO: bits 31 to 7 are KEEP. -/
def errInfoRow : RegRow := ⟨"GBL_ERR_INFO", 0x28, 0x4, 1, 0, 0, 0, 0, 0, 0x7F⟩

theorem keepBitS_errInfo : keepBitS.reg Reg.GBL_ERR_INFO = 0x83 := by decide +kernel

/-- No cause stands, so that a write of 0 captures its own report: the whole word becomes KIND 3 and PATH 0. -/
theorem keepBitS_write : (barWrite .pf0 Reg.GBL_ERR_INFO 0 keepBitS).reg Reg.GBL_ERR_INFO = 3 := by decide +kernel

/-- Refutes O9: with KEEP bit 7 of GBL_ERR_INFO set under a debug unlock that has ended, a write of 0 there is reported, and the
capture of that report clears the bit. -/
theorem not_keepAndLockedFields : ¬ Obligations.KeepAndLockedFields := by
  rintro ⟨hkeep, -⟩
  have hup : keepBitS.up = true := by decide +kernel
  obtain ⟨t, ht, hbit, -⟩ := hkeep .pf0 (BitVec.ofNat 24 Reg.GBL_ERR_INFO) 0 keepBitS errInfoRow hup (by decide +kernel)
    (by decide +kernel) (by decide +kernel) (by decide +kernel) (by decide +kernel) (by decide +kernel)
  rw [exec_registerWrite _ _ _ hup] at ht
  cases ht
  rw [show (BitVec.ofNat 24 Reg.GBL_ERR_INFO).toNat = Reg.GBL_ERR_INFO from rfl, keepBitS_write, keepBitS_errInfo] at hbit
  exact absurd hbit (by decide)


/-! ### The event registers -/

theorem pendReg_event (k : Nat) {i : Nat} (hi : i < 32) : pendReg (32 * k + i) = Reg.GBL_EVT_PEND + 4 * k := by
  rw [pendReg_eq, show (32 * k + i) / 32 = k by omega]

/-- The pending bit of an event is a bit of the register that holds it. -/
theorem pendBit_event (s : State) (k : Nat) {i : Nat} (hi : i < 32) :
    s.pendBit (32 * k + i) = (s.reg (Reg.GBL_EVT_PEND + 4 * k)).getLsbD i := by
  rw [State.pendBit, bit_eq, pendReg_event k hi, show (32 * k + i) % 32 = i by omega]

theorem evtMask_ne_evtPend {k j : Nat} (hj : j < 48) : Reg.GBL_EVT_PEND + 4 * j ≠ Reg.GBL_EVT_MASK + 4 * k := by
  simp only [Reg.GBL_EVT_PEND, Reg.GBL_EVT_MASK]; omega

theorem rowAt_evtMask {k : Nat} (hk : k < 48) :
    rowAt (Reg.GBL_EVT_MASK + 4 * k) = some ⟨"GBL_EVT_MASK_k", 0x1100, 0x4, 48, BitVec.allOnes 32, 0, 0, 0, 0, 0⟩ := by
  have h : ∀ k : Fin 48, rowAt (Reg.GBL_EVT_MASK + 4 * k.val) =
      some ⟨"GBL_EVT_MASK_k", 0x1100, 0x4, 48, BitVec.allOnes 32, 0, 0, 0, 0, 0⟩ := by decide +kernel
  exact h ⟨k, hk⟩

theorem rowAt_evtPend {k : Nat} (hk : k < 48) :
    rowAt (Reg.GBL_EVT_PEND + 4 * k) = some ⟨"GBL_EVT_PEND_k", 0x1000, 0x4, 48, 0, 0, BitVec.allOnes 32, 0, 0, 0⟩ := by
  have h : ∀ k : Fin 48, rowAt (Reg.GBL_EVT_PEND + 4 * k.val) =
      some ⟨"GBL_EVT_PEND_k", 0x1000, 0x4, 48, 0, 0, BitVec.allOnes 32, 0, 0, 0⟩ := by decide +kernel
  exact h ⟨k, hk⟩

/-- A write that concerns no covered field leaves the mark of the sweep as it is (R389). -/
theorem markDirty_uncovered {off : Nat} {s : State} (hc : coveredMask s off = 0) (href : off ≠ Reg.GBL_CFGCRC_REF) :
    markDirty off s = s := by
  rw [markDirty, if_neg (by simp [hc, href])]

/-- The configuration CRC excludes the event masks (R387). -/
theorem markDirty_evtMask {k : Nat} (s : State) (hk : k < 48) : markDirty (Reg.GBL_EVT_MASK + 4 * k) s = s := by
  have hex : excludedMask (Reg.GBL_EVT_MASK + 4 * k) = 0xFFFFFFFF :=
    if_pos (by simp only [Reg.GBL_EVT_MASK]; omega)
  refine markDirty_uncovered ?_ (by simp only [Reg.GBL_EVT_MASK, Reg.GBL_CFGCRC_REF]; omega)
  rw [coveredMask, rowAt_evtMask hk, hex]
  split <;> rfl

/-- The configuration CRC covers RW and RWL bits, and the pending bits are W1C (R387). -/
theorem markDirty_evtPend {k : Nat} (s : State) (hk : k < 48) : markDirty (Reg.GBL_EVT_PEND + 4 * k) s = s := by
  refine markDirty_uncovered ?_ (by simp only [Reg.GBL_EVT_PEND, Reg.GBL_CFGCRC_REF]; omega)
  rw [coveredMask, rowAt_evtPend hk]
  split
  · rfl
  · exact BitVec.zero_and

theorem storeReg_evtMask {k : Nat} (val : Word32) (s : State) (hk : k < 48) :
    storeReg (Reg.GBL_EVT_MASK + 4 * k) val s = s.setReg (Reg.GBL_EVT_MASK + 4 * k) val := by
  simp [storeReg, rowAt_evtMask hk, -BitVec.reduceAllOnes]

theorem storeReg_evtPend {k : Nat} (val : Word32) (s : State) (hk : k < 48) :
    storeReg (Reg.GBL_EVT_PEND + 4 * k) val s =
      s.setReg (Reg.GBL_EVT_PEND + 4 * k) (s.reg (Reg.GBL_EVT_PEND + 4 * k) &&& ~~~val) := by
  simp [storeReg, rowAt_evtPend hk, -BitVec.reduceAllOnes]

/-! ### A mask write -/

theorem deliver_pendBit (e d : Nat) (s : State) : (deliver e s).pendBit d = s.pendBit d := by
  rw [State.pendBit, State.pendBit, bit_eq, bit_eq, deliver_reg]

theorem foldl_deliver_reg (l : List Nat) (s : State) (o : Nat) : (l.foldl (fun u e => deliver e u) s).reg o = s.reg o := by
  induction l generalizing s with
  | nil => rfl
  | cons e l ih => rw [List.foldl_cons, ih, deliver_reg]

/-- Deliveries change no pending bit, so that which events are delivered may be asked of the state before the first. -/
theorem foldl_deliver_pending {c p : Nat → Bool} {k : Nat} (l : List Nat) (s : State)
    (hp : ∀ i ∈ l, s.pendBit (32 * k + i) = p i) :
    l.foldl (fun s i => if c i && s.pendBit (32 * k + i) then deliver (32 * k + i) s else s) s =
      ((l.filter (fun i => c i && p i)).map (fun i => 32 * k + i)).foldl (fun u e => deliver e u) s := by
  induction l generalizing s with
  | nil => rfl
  | cons i l ih =>
    have hl : ∀ j ∈ l, s.pendBit (32 * k + j) = p j := fun j hj => hp j (List.mem_cons_of_mem _ hj)
    rw [List.foldl_cons, hp i List.mem_cons_self, List.filter_cons]
    split
    · rw [List.map_cons, List.foldl_cons]
      exact ih _ fun j hj => (deliver_pendBit ..).trans (hl j hj)
    · exact ih _ hl

/-- A mask write stores the mask, then delivers what it unmasks, the lowest first (R379; the order is log 35). -/
theorem maskWrite_eq {k : Nat} (val : Word32) (s : State) (hk : k < 48) :
    maskWrite k val s = (((List.range 32).filter (fun i => (s.reg (Reg.GBL_EVT_MASK + 4 * k)).getLsbD i && !val.getLsbD i &&
      s.pendBit (32 * k + i))).map (fun i => 32 * k + i)).foldl (fun u e => deliver e u)
      (s.setReg (Reg.GBL_EVT_MASK + 4 * k) val) := by
  rw [maskWrite, storeReg_evtMask val s hk]
  refine foldl_deliver_pending _ _ fun i hi => ?_
  have hi : i < 32 := List.mem_range.mp hi
  rw [pendBit_event _ k hi, pendBit_event _ k hi, reg_setReg_other _ _ (evtMask_ne_evtPend hk)]

theorem maskWrite_reg {k : Nat} (val : Word32) (s : State) (hk : k < 48) (o : Nat) :
    (maskWrite k val s).reg o = if o = Reg.GBL_EVT_MASK + 4 * k then val else s.reg o := by
  rw [maskWrite_eq val s hk, foldl_deliver_reg, reg_setReg]

theorem exec_eventMaskWrite {path : Path} {k : BitVec 6} {val : Word32} {s : State} (hup : s.up = true) (hk : k.toNat < 48)
    (h : accepts path (Reg.GBL_EVT_MASK + 4 * k.toNat) val s) :
    exec (.eventMaskWrite path k val) s = .next (maskWrite k.toNat val s) := by
  refine (run_up _ hup).trans ?_
  rw [if_pos hk, regAccess_accepted _ h, markDirty_evtMask s hk]

/-! ### A write of pending bits -/

theorem raise_ident (e : Nat) (s : State) : (raise e s).ident = s.ident := (raise_chg e s).same .ident (by decide)

theorem raise_eventAbsent (e d : Nat) (s : State) : eventAbsent (raise e s) d = eventAbsent s d := by
  rw [eventAbsent, raise_ident, eventAbsent]

/-- Raising an event leaves the pending bits of the others. -/
theorem raise_pendBit_other {e d : Nat} (s : State) (h : d ≠ e) : (raise e s).pendBit d = s.pendBit d := by
  have hs : (s.setBit (pendReg e) (e % 32) true).pendBit d = s.pendBit d := by
    refine bit_setBit_other s true ?_
    rw [pendReg_eq, pendReg_eq]
    omega
  unfold raise
  split
  · rfl
  · dsimp only
    split
    · split
      · exact hs
      · exact (deliver_pendBit ..).trans hs
    · split
      · exact hs
      · exact (deliver_pendBit ..).trans hs

/-- After an event is raised those are pending that were, and the event itself unless the grade lacks it (R2, R33). -/
theorem raise_pendBit_eq (e d : Nat) (s : State) :
    (raise e s).pendBit d = (s.pendBit d || (decide (d = e) && !eventAbsent s d)) := by
  by_cases hd : d = e
  · subst hd
    cases ha : eventAbsent s d with
    | false => simp [raise_pendBit ha]
    | true => simp [raise_again (.inl ha)]
  · simp [raise_pendBit_other s hd, hd]

theorem foldl_raise_pendBit (l : List Nat) (s : State) (d : Nat) :
    (l.foldl (fun u e => raise e u) s).pendBit d = (s.pendBit d || (decide (d ∈ l) && !eventAbsent s d)) := by
  induction l generalizing s with
  | nil => simp
  | cons e l ih =>
    rw [List.foldl_cons, ih, raise_pendBit_eq, raise_eventAbsent, Bool.or_assoc, ← Bool.and_or_distrib_right]
    simp only [List.mem_cons, Bool.decide_or]

theorem foldl_raise_reg {l : List Nat} (s : State) {o : Nat} (h : ∀ e ∈ l, o ≠ pendReg e) :
    (l.foldl (fun u e => raise e u) s).reg o = s.reg o := by
  induction l generalizing s with
  | nil => rfl
  | cons e l ih =>
    rw [List.foldl_cons, ih _ fun d hd => h d (List.mem_cons_of_mem _ hd), raise_reg _ (h e List.mem_cons_self)]

/-- The events of pending register `k` that a word names, the lowest first. -/
def eventsOf (k : Nat) (w : Word32) : List Nat :=
  ((List.range 32).filter (fun i => w.getLsbD i)).map (fun i => 32 * k + i)

theorem mem_eventsOf {k i : Nat} {w : Word32} (hi : i < 32) : 32 * k + i ∈ eventsOf k w ↔ w.getLsbD i = true := by
  simp [eventsOf, hi]

theorem pendReg_of_mem_eventsOf {k e : Nat} {w : Word32} (h : e ∈ eventsOf k w) : pendReg e = Reg.GBL_EVT_PEND + 4 * k := by
  obtain ⟨i, hi, rfl⟩ := List.mem_map.mp h
  exact pendReg_event k (List.mem_range.mp (List.mem_filter.mp hi).1)

theorem raiseInEdge_eq (k : Nat) (raised : Word32) (s : State) :
    raiseInEdge k raised s = (eventsOf k raised).foldl (fun u e => raise e u) s := by
  rw [raiseInEdge, eventsOf, List.foldl_map, List.foldl_filter]

theorem raiseInEdge_reg {k : Nat} (raised : Word32) (s : State) {o : Nat} (h : o ≠ Reg.GBL_EVT_PEND + 4 * k) :
    (raiseInEdge k raised s).reg o = s.reg o := by
  rw [raiseInEdge_eq, foldl_raise_reg s fun e he => by rwa [pendReg_of_mem_eventsOf he]]

/-- The raised events of the grade are set, whatever the register held. -/
theorem raiseInEdge_getLsbD {k i : Nat} (raised : Word32) (s : State) (hi : i < 32) :
    ((raiseInEdge k raised s).reg (Reg.GBL_EVT_PEND + 4 * k)).getLsbD i =
      ((s.reg (Reg.GBL_EVT_PEND + 4 * k)).getLsbD i || (raised.getLsbD i && !eventAbsent s (32 * k + i))) := by
  rw [← pendBit_event _ k hi, ← pendBit_event _ k hi, raiseInEdge_eq, foldl_raise_pendBit]
  simp only [mem_eventsOf hi, Bool.decide_eq_true]

/-- Pending register `k` with the bits cleared that a word names. -/
def clearPend (k : Nat) (val : Word32) (s : State) : State :=
  s.setReg (Reg.GBL_EVT_PEND + 4 * k) (s.reg (Reg.GBL_EVT_PEND + 4 * k) &&& ~~~val)

theorem clearPend_getLsbD (k : Nat) (val : Word32) (s : State) {i : Nat} (hi : i < 32) :
    ((clearPend k val s).reg (Reg.GBL_EVT_PEND + 4 * k)).getLsbD i =
      ((s.reg (Reg.GBL_EVT_PEND + 4 * k)).getLsbD i && !val.getLsbD i) := by
  simp [clearPend, hi]

theorem exec_eventPendClear {path : Path} {k : BitVec 6} {val raised : Word32} {s : State} (hup : s.up = true)
    (hk : k.toNat < 48) (h : accepts path (Reg.GBL_EVT_PEND + 4 * k.toNat) val s) :
    exec (.eventPendClear path k val raised) s = .next (raiseInEdge k.toNat raised (clearPend k.toNat val s)) := by
  refine (run_up _ hup).trans ?_
  rw [if_pos hk, pendClear, regAccess_accepted _ h, markDirty_evtPend s hk, storeReg_evtPend val s hk, clearPend]

/-! ### Above the event registers -/

/-- No resource of the larger grade alone stands in the gaps above the pending and the mask registers (R2). -/
theorem absentAt_eventGap {s : State} {off : Nat} (h : 0x10C0 ≤ off ∧ off < 0x1100 ∨ 0x11C0 ≤ off ∧ off < 0x1200) :
    absentAt s off = false := by
  simp only [absentAt, Bool.and_eq_false_iff, Bool.or_eq_false_iff, decide_eq_false_iff_not]
  omega

theorem unmapped_eventGap (path : Path) {off : Nat} (s : State)
    (h : 0x10C0 ≤ off ∧ off < 0x1100 ∨ 0x11C0 ≤ off ∧ off < 0x1200) :
    unmapped path off s = gblErr 0 0x000 off (pathCode path) false s := by
  rw [unmapped, absentAt_eventGap h]
  exact if_neg Bool.false_ne_true

theorem exec_eventMaskWrite_above {path : Path} {k : BitVec 6} {val : Word32} {s : State} (hup : s.up = true)
    (hk : 48 ≤ k.toNat) : exec (.eventMaskWrite path k val) s =
      .next (gblErr 0 0x000 (Reg.GBL_EVT_MASK + 4 * k.toNat) (pathCode path) false s) := by
  refine (run_up _ hup).trans ?_
  rw [if_neg (by omega), unmapped_eventGap path s (by have := k.isLt; simp only [Reg.GBL_EVT_MASK]; omega)]

theorem exec_eventPendClear_above {path : Path} {k : BitVec 6} {val raised : Word32} {s : State} (hup : s.up = true)
    (hk : 48 ≤ k.toNat) : exec (.eventPendClear path k val raised) s =
      .next (gblErr 0 0x000 (Reg.GBL_EVT_PEND + 4 * k.toNat) (pathCode path) false s) := by
  refine (run_up _ hup).trans ?_
  rw [if_neg (by omega), unmapped_eventGap path s (by have := k.isLt; simp only [Reg.GBL_EVT_PEND]; omega)]

/-! ### What an MSI-X vector holds back -/

theorem msix_setMsix (s : State) (fn : PcieFn) (m : Msix) : (s.setMsix fn m).msix fn = m := by cases fn <;> rfl

theorem msix_emit (s : State) (fn : PcieFn) (o : Output) : (s.emit o).msix fn = s.msix fn := by cases fn <;> rfl

/-- Sends a vector's message and clears its PBA bit. -/
def sendHeld (fn : PcieFn) (v : Nat) (s : State) : State :=
  (s.setMsix fn { s.msix fn with pba := mset (s.msix fn).pba false v false }).emit
    (.msix fn v (mget (s.msix fn).table {} v).addr (mget (s.msix fn).table {} v).data)

theorem sendHeld_msix (fn : PcieFn) (v : Nat) (s : State) :
    (sendHeld fn v s).msix fn = { s.msix fn with pba := mset (s.msix fn).pba false v false } :=
  (msix_emit ..).trans (msix_setMsix ..)

theorem sendHeld_out (fn : PcieFn) (v : Nat) (s : State) : (sendHeld fn v s).out =
    .msix fn v (mget (s.msix fn).table {} v).addr (mget (s.msix fn).table {} v).data :: s.out := by
  rw [sendHeld, emit_out, setMsix_out]

/-- Sends what the PBA holds back of one vector, when that vector may send. -/
def flushVec (fn : PcieFn) (s : State) (v : Nat) : State :=
  if (s.msix fn).enabled && !(mget (s.msix fn).table {} v).masked && mget (s.msix fn).pba false v then sendHeld fn v s
  else s

theorem msixFlush_eq (fn : PcieFn) (s : State) :
    msixFlush fn s = ((s.msix fn).pba.map (fun p => p.1)).foldl (flushVec fn) s := rfl

theorem flushVec_cases (fn : PcieFn) (s : State) (v : Nat) : flushVec fn s v = s ∨ flushVec fn s v = sendHeld fn v s := by
  unfold flushVec
  split
  · exact .inr rfl
  · exact .inl rfl

theorem flushVec_disabled {fn : PcieFn} {s : State} (v : Nat) (h : (s.msix fn).enabled = false) : flushVec fn s v = s := by
  rw [flushVec, h]
  rfl

theorem flushVec_table (fn : PcieFn) (s : State) (v : Nat) : ((flushVec fn s v).msix fn).table = (s.msix fn).table := by
  rcases flushVec_cases fn s v with h | h <;> rw [h]
  rw [sendHeld_msix]

theorem flushVec_enabled (fn : PcieFn) (s : State) (v : Nat) :
    ((flushVec fn s v).msix fn).enabled = (s.msix fn).enabled := by
  rcases flushVec_cases fn s v with h | h <;> rw [h]
  rw [sendHeld_msix]

theorem flushVec_pba_other {fn : PcieFn} {v w : Nat} (s : State) (hw : w ≠ v) :
    mget ((flushVec fn s v).msix fn).pba false w = mget (s.msix fn).pba false w := by
  rcases flushVec_cases fn s v with h | h <;> rw [h]
  rw [sendHeld_msix, mget_mset_other _ _ _ _ hw]

/-- A flush sets no PBA bit. -/
theorem flushVec_pba_clear {fn : PcieFn} {s : State} {w : Nat} (v : Nat) (hw : mget (s.msix fn).pba false w = false) :
    mget ((flushVec fn s v).msix fn).pba false w = false := by
  by_cases hwv : w = v
  · subst hwv
    rcases flushVec_cases fn s w with h | h <;> rw [h]
    · exact hw
    · rw [sendHeld_msix, mget_mset_same]
  · rwa [flushVec_pba_other s hwv]

/-- A flush takes back no output. -/
theorem flushVec_out {fn : PcieFn} {s : State} {o : Output} (v : Nat) (ho : o ∈ s.out) : o ∈ (flushVec fn s v).out := by
  rcases flushVec_cases fn s v with h | h <;> rw [h]
  · exact ho
  · rw [sendHeld_out]
    exact List.mem_cons_of_mem _ ho

theorem foldl_flushVec_table (fn : PcieFn) (l : List Nat) (s : State) :
    ((l.foldl (flushVec fn) s).msix fn).table = (s.msix fn).table := by
  induction l generalizing s with
  | nil => rfl
  | cons v l ih => rw [List.foldl_cons, ih, flushVec_table]

theorem foldl_flushVec_enabled (fn : PcieFn) (l : List Nat) (s : State) :
    ((l.foldl (flushVec fn) s).msix fn).enabled = (s.msix fn).enabled := by
  induction l generalizing s with
  | nil => rfl
  | cons v l ih => rw [List.foldl_cons, ih, flushVec_enabled]

theorem foldl_flushVec_disabled {fn : PcieFn} {s : State} (l : List Nat) (h : (s.msix fn).enabled = false) :
    l.foldl (flushVec fn) s = s := by
  induction l with
  | nil => rfl
  | cons v l ih => rw [List.foldl_cons, flushVec_disabled v h, ih]

/-- What was sent stays sent, and its PBA bit clear, over the rest of a flush. -/
theorem foldl_flushVec_sent {fn : PcieFn} {w : Nat} {o : Output} (l : List Nat) {s : State} (ho : o ∈ s.out)
    (hw : mget (s.msix fn).pba false w = false) :
    o ∈ (l.foldl (flushVec fn) s).out ∧ mget ((l.foldl (flushVec fn) s).msix fn).pba false w = false := by
  induction l generalizing s with
  | nil => exact ⟨ho, hw⟩
  | cons v l ih => exact ih (flushVec_out v ho) (flushVec_pba_clear v hw)

/-- A flush sends what an unmasked vector among those it passes holds back. -/
theorem foldl_flushVec_sends {fn : PcieFn} {w : Nat} {e : MsixEntry} {l : List Nat} {s : State} (hl : w ∈ l)
    (hen : (s.msix fn).enabled = true) (he : mget (s.msix fn).table {} w = e) (hm : e.masked = false)
    (hw : mget (s.msix fn).pba false w = true) :
    Output.msix fn w e.addr e.data ∈ (l.foldl (flushVec fn) s).out ∧
      mget ((l.foldl (flushVec fn) s).msix fn).pba false w = false := by
  induction l generalizing s with
  | nil => cases hl
  | cons v l ih =>
    rw [List.foldl_cons]
    by_cases hv : w = v
    · subst hv
      have hsend : flushVec fn s w = sendHeld fn w s := if_pos (by rw [hen, he, hm, hw]; rfl)
      rw [hsend]
      refine foldl_flushVec_sent l ?_ ?_
      · rw [sendHeld_out, he]
        exact List.mem_cons_self
      · rw [sendHeld_msix, mget_mset_same]
    · have hl : w ∈ l := (List.mem_cons.mp hl).resolve_left hv
      exact ih hl (by rw [flushVec_enabled, hen]) (by rw [flushVec_table, he]) (by rw [flushVec_pba_other s hv, hw])

/-- A bit that reads 1 has an entry in the store. -/
theorem mem_keys_of_mget {m : SMap Bool} {k : Nat} (h : mget m false k = true) : k ∈ m.map (fun p => p.1) := by
  induction m with
  | nil => cases h
  | cons p t ih =>
    obtain ⟨j, v⟩ := p
    rw [List.map_cons, List.mem_cons]
    by_cases hj : j = k
    · exact .inl hj.symm
    · rw [mget, if_neg hj] at h
      exact .inr (ih h)

/-! ### Unmasking a vector -/

/-- The vector stored unmasked, and MSI-X enabled or disabled, before anything is sent. -/
def unmaskStore (fn : PcieFn) (vec : Nat) (addr : Word64) (data : Word32) (enable : Bool) (s : State) : State :=
  s.setMsix fn { s.msix fn with
    enabled := enable
    table := mset (s.msix fn).table {} vec { addr := addr, data := data, masked := false } }

theorem unmaskStore_msix (fn : PcieFn) (vec : Nat) (addr : Word64) (data : Word32) (enable : Bool) (s : State) :
    (unmaskStore fn vec addr data enable s).msix fn = { s.msix fn with
      enabled := enable
      table := mset (s.msix fn).table {} vec { addr := addr, data := data, masked := false } } := msix_setMsix ..

theorem msixUnmask_eq {fn : PcieFn} {vec : Nat} {addr : Word64} {data : Word32} {enable : Bool} {s : State}
    (hv : vec < msixVectors fn) (hf : s.inFlr fn = false) :
    msixUnmask fn vec addr data enable s = ((s.msix fn).pba.map (fun p => p.1)).foldl (flushVec fn)
      (unmaskStore fn vec addr data enable s) := by
  have hact : ¬ (msixVectors fn ≤ vec ∨ s.inFlr fn = true) := by simp [hf, hv]
  rw [msixUnmask, if_neg hact]
  refine (msixFlush_eq ..).trans ?_
  rw [msix_setMsix]
  rfl

theorem msixUnmask_table {fn : PcieFn} {vec : Nat} {addr : Word64} {data : Word32} {enable : Bool} {s : State}
    (hv : vec < msixVectors fn) (hf : s.inFlr fn = false) :
    ((msixUnmask fn vec addr data enable s).msix fn).table =
      mset (s.msix fn).table {} vec { addr := addr, data := data, masked := false } := by
  rw [msixUnmask_eq hv hf, foldl_flushVec_table, unmaskStore_msix]

theorem msixUnmask_enabled {fn : PcieFn} {vec : Nat} {addr : Word64} {data : Word32} {enable : Bool} {s : State}
    (hv : vec < msixVectors fn) (hf : s.inFlr fn = false) :
    ((msixUnmask fn vec addr data enable s).msix fn).enabled = enable := by
  rw [msixUnmask_eq hv hf, foldl_flushVec_enabled, unmaskStore_msix]

theorem msixUnmask_disabled {fn : PcieFn} {vec : Nat} {addr : Word64} {data : Word32} {s : State}
    (hv : vec < msixVectors fn) (hf : s.inFlr fn = false) :
    msixUnmask fn vec addr data false s = unmaskStore fn vec addr data false s := by
  rw [msixUnmask_eq hv hf]
  exact foldl_flushVec_disabled _ (by rw [unmaskStore_msix])

/-- With MSI-X enabled the vector sends what its PBA bit holds back (R379). -/
theorem msixUnmask_sends {fn : PcieFn} {vec : Nat} {addr : Word64} {data : Word32} {s : State}
    (hv : vec < msixVectors fn) (hf : s.inFlr fn = false) (hp : mget (s.msix fn).pba false vec = true) :
    Output.msix fn vec addr data ∈ (msixUnmask fn vec addr data true s).out ∧
      mget ((msixUnmask fn vec addr data true s).msix fn).pba false vec = false := by
  rw [msixUnmask_eq hv hf]
  refine foldl_flushVec_sends (e := { addr := addr, data := data, masked := false }) (mem_keys_of_mget hp) ?_ ?_ rfl ?_ <;>
    rw [unmaskStore_msix]
  · exact mget_mset_same ..
  · exact hp

theorem exec_msixVectorUnmask {s : State} (fn : PcieFn) (vec : BitVec 11) (addr : Word64) (data : Word32) (enable : Bool)
    (hup : s.up = true) :
    exec (.msixVectorUnmask fn vec addr data enable) s = .next (msixUnmask fn vec.toNat addr data enable s) := run_up _ hup

/-- Settles O16, part by part: the mask write, the write of pending bits, the offsets above, and the vector that is unmasked
or is not there. -/
theorem eventMaskAndPendingWrites : Obligations.EventMaskAndPendingWrites := by
  refine ⟨fun path k val s hup hk hacc => ?mask, fun path k val raised s hup hk hacc => ?pend,
    fun path k val raised s hup hk => ⟨exec_eventMaskWrite_above hup hk, exec_eventPendClear_above hup hk⟩,
    fun fn vec addr data enable s hup hv hf => ?unmask, fun fn vec addr data enable s hup h => ?none⟩
  case mask =>
    refine ⟨_, _, exec_eventMaskWrite hup hk hacc, rfl, maskWrite_eq val s hk, ?_, fun hevs => ?_, fun o ho => ?_,
      (maskWrite_chg ..).changes⟩
    · rw [maskWrite_reg val s hk, if_pos rfl]
    · rw [maskWrite_eq val s hk, hevs]
      rfl
    · rw [maskWrite_reg val s hk, if_neg (by simpa using ho)]
  case pend =>
    have hclear : Chg 2 s (clearPend k.toNat val s) := State_setReg_chg ..
    refine ⟨_, exec_eventPendClear hup hk hacc, raiseInEdge_eq .., fun i hi => ?_, fun o ho => ?_,
      (Chg.after (m := 146) (raiseInEdge_chg ..) (.after hclear (.refl _ _))).changes⟩
    · rw [raiseInEdge_getLsbD raised _ hi, clearPend_getLsbD _ val s hi]
      rfl
    · have ho : o ≠ Reg.GBL_EVT_PEND + 4 * k.toNat := by simpa using ho
      rw [raiseInEdge_reg raised _ ho]
      exact reg_setReg_other s _ ho
  case unmask =>
    refine ⟨_, exec_msixVectorUnmask fn vec addr data enable hup, ?_, fun v hne => ?_, msixUnmask_enabled hv hf,
      fun he => ?_, fun he hp => ?_, (msixUnmask_chg ..).changes⟩
    · rw [msixUnmask_table hv hf]
      exact mget_mset_same ..
    · rw [msixUnmask_table hv hf]
      exact mget_mset_other _ _ _ _ hne
    · subst he
      rw [msixUnmask_disabled hv hf, unmaskStore_msix]
      exact ⟨setMsix_out .., rfl⟩
    · subst he
      exact msixUnmask_sends hv hf hp
  case none =>
    rw [exec_msixVectorUnmask fn vec addr data enable hup, msixUnmask, if_pos h]

end Sys2Proof.Proofs
end

section
/-!
Proofs of the family 01_architecture: accesses at offsets without a register (O14), the fault stop and the parity aborts of a
cycle (O29), and the resets (O54).
-/
namespace Sys2Proof.Proofs
open Sys2Proof.Machine Sys2Proof.Laws

/-! ### Accesses at offsets without a register -/

theorem exec_unmappedBar0 {s : State} (path : Path) (off : BitVec 24) (isWrite : Bool) (val : Word32) (hup : s.up = true) :
    exec (.unmappedAccess (.bar0 path) off isWrite val) s = .next (unmappedAccess path off.toNat isWrite s) := run_up _ hup

theorem exec_unmappedBar4 {s : State} (fn : PcieFn) (off : BitVec 24) (isWrite : Bool) (val : Word32) (hup : s.up = true) :
    exec (.unmappedAccess (.bar4 fn) off isWrite val) s = .next (bar4Access fn off.toNat isWrite s) := run_up _ hup

theorem unmappedAccess_write {path : Path} {off : Nat} {s : State} (h : rowAt off = none) :
    unmappedAccess path off true s = unmapped path off s := by
  rw [unmappedAccess, h]
  rfl

theorem unmappedAccess_read {path : Path} {off : Nat} {s : State} (h : rowAt off = none) :
    unmappedAccess path off false s = (unmapped path off s).emit (.bar0Data path 0) := by
  rw [unmappedAccess, h]
  rfl

theorem unmappedAccess_occupied {path : Path} {off : Nat} {isWrite : Bool} {s : State} (h : (rowAt off).isSome = true) :
    unmappedAccess path off isWrite s = s := by
  obtain ⟨r, hr⟩ := Option.isSome_iff_exists.mp h
  rw [unmappedAccess, hr]

theorem unmapped_absent {path : Path} {off : Nat} {s : State} (h : absentAt s off = true) : unmapped path off s = s :=
  if_pos h

theorem unmapped_present {path : Path} {off : Nat} {s : State} (h : absentAt s off = false) :
    unmapped path off s = gblErr 0 0x000 off (pathCode path) false s := if_neg (by simp [h])

theorem unmappedAccess_reg {path : Path} {off : Nat} {isWrite : Bool} {s : State} (h : rowAt off = none) (o : Nat) :
    (unmappedAccess path off isWrite s).reg o = (unmapped path off s).reg o := by
  cases isWrite with
  | false => rw [unmappedAccess_read h, emit_reg]
  | true => rw [unmappedAccess_write h]

/-- The first cause captures the offset, and its kind and path (R77, R392). -/
theorem gblErr_captures {kind ev off pc : Nat} {lanes : Bool} {s : State} (h0 : s.reg Reg.GBL_ERR_STATUS = 0) :
    (gblErr kind ev off pc lanes s).reg Reg.GBL_ERR_ADDR = BitVec.ofNat 32 off ∧
      (gblErr kind ev off pc lanes s).reg Reg.GBL_ERR_INFO = BitVec.ofNat 32 (kind + 16 * pc + 64 * b2n lanes) := by
  have haddr : Reg.GBL_ERR_ADDR ≠ pendReg ev := by rw [pendReg_eq, Reg.GBL_ERR_ADDR]; omega
  have hinfo : Reg.GBL_ERR_INFO ≠ pendReg ev := by rw [pendReg_eq, Reg.GBL_ERR_INFO]; omega
  unfold gblErr
  rw [raise_reg _ haddr, raise_reg _ hinfo]
  simp [causeSet, h0, forEach, reg_setBit_other, reg_setReg]

/-- Settles O14: at an offset without a register the access is the report of the cause UNMAPPED, and a read returns 0 beside it
(R31); within an absent resource the report is left out (log 117), and BAR4 makes none (R378, log 184). -/
theorem unmappedAccessReported : Obligations.UnmappedAccessReported := by
  refine ⟨fun path off isWrite val s hup hrow ha => ?report, fun path off val s hup hrow ha => ?absent,
    fun path off isWrite val s hup hrow => ?occupied,
    fun fn off isWrite val s hup => ⟨fun hmap hread => ?bar4Read, fun h => ?bar4Write⟩⟩
  case report =>
    have hreg : ∀ o, (unmappedAccess path off.toNat isWrite s).reg o =
        (gblErr 0 0x000 off.toNat (pathCode path) false s).reg o := fun o => by
      rw [unmappedAccess_reg hrow, unmapped_present ha]
    obtain ⟨hcause, hpend⟩ := gblErr_bit (kind := 0) (ev := 0x000) (off := off.toNat) (pc := pathCode path) (lanes := false)
      (s := s) (by decide) (by decide)
    refine ⟨_, exec_unmappedBar0 path off isWrite val hup, ?_, ?_, fun h0 => ?_, fun hread => ?_, fun o ho => ?_,
      (unmappedAccess_chg ..).changes⟩
    · rwa [bit_eq, hreg, ← bit_eq]
    · rwa [State.pendBit, bit_eq, hreg, ← bit_eq]
    · rw [hreg, hreg]
      simpa [b2n] using gblErr_captures (kind := 0) (off := off.toNat) (pc := pathCode path) (lanes := false) h0
    · rw [hread, unmappedAccess_read hrow]
      rfl
    · rw [hreg]
      exact gblErr_regsBut _ _ _ _ _ _ o ho
  case absent =>
    rw [exec_unmappedBar0 path off true val hup, exec_unmappedBar0 path off false val hup, unmappedAccess_write hrow,
      unmappedAccess_read hrow, unmapped_absent ha]
    exact ⟨rfl, rfl⟩
  case occupied => rw [exec_unmappedBar0 path off isWrite val hup, unmappedAccess_occupied hrow]
  case bar4Read =>
    rw [exec_unmappedBar4 fn off isWrite val hup, bar4Access, if_neg (by simp [hmap, hread])]
  case bar4Write => rw [exec_unmappedBar4 fn off isWrite val hup, bar4Access, if_pos h]

/-! ### 64-bit registers -/

theorem cat64_halves (v : Word64) : cat64 (hi32 v) (lo32 v) = v := by
  refine BitVec.eq_of_getLsbD_eq fun i hi => ?_
  rw [cat64, hi32, lo32, BitVec.getLsbD_append]
  split
  · simp [*]
  · simp only [BitVec.getLsbD_setWidth, BitVec.getLsbD_ushiftRight]
    rw [show 32 + (i - 32) = i by omega]
    simp
    omega

theorem reg64_setReg64 (s : State) (o : Nat) (v : Word64) : (s.setReg64 o v).reg64 o = v := by
  rw [State.reg64, State.setReg64, reg_setReg_same, reg_setReg_other _ _ (by omega), reg_setReg_same, cat64_halves]

theorem reg_of_regs {s t : State} (h : t.regs = s.regs) (o : Nat) : t.reg o = s.reg o := by rw [State.reg, h, State.reg]

/-! ### What later steps leave of a report -/

/-- The registers that report a replay. -/
def replayRegs : List Nat := [Reg.SCH_REPLAY, Reg.SCH_REPLAY_CYC, Reg.SCH_REPLAY_CYC + 4]

/-- From `s` to `t` no register of the replay report changes and no pending bit clears. -/
structure ReportKept (s t : State) : Prop where
  replay : ∀ o ∈ replayRegs, t.reg o = s.reg o
  pending : ∀ e < 1536, s.pendBit e = true → t.pendBit e = true

namespace ReportKept

theorem refl (s : State) : ReportKept s s := ⟨fun _ _ => rfl, fun _ _ h => h⟩

theorem trans {s r t : State} (h : ReportKept s r) (k : ReportKept r t) : ReportKept s t :=
  ⟨fun o ho => (k.replay o ho).trans (h.replay o ho), fun e he hp => k.pending e he (h.pending e he hp)⟩

theorem of_regs {s t : State} (h : t.regs = s.regs) : ReportKept s t :=
  ⟨fun o _ => reg_of_regs h o, fun e _ hp => by
    rw [State.pendBit, bit_eq] at hp ⊢
    rwa [reg_of_regs h]⟩

theorem same_regs {s r t : State} (h : ReportKept s r) (e : t.regs = r.regs) : ReportKept s t := h.trans (of_regs e)

theorem fld {s t : State} (h : ReportKept s t) (lo w : Nat) : t.fld Reg.SCH_REPLAY lo w = s.fld Reg.SCH_REPLAY lo w := by
  rw [State.fld, h.replay _ (by simp [replayRegs]), State.fld]

theorem bit {s t : State} (h : ReportKept s t) (i : Nat) : t.bit Reg.SCH_REPLAY i = s.bit Reg.SCH_REPLAY i := by
  rw [State.bit, h.fld, State.bit]

theorem reg64 {s t : State} (h : ReportKept s t) : t.reg64 Reg.SCH_REPLAY_CYC = s.reg64 Reg.SCH_REPLAY_CYC := by
  rw [State.reg64, h.replay _ (by simp [replayRegs]), h.replay _ (by simp [replayRegs]), State.reg64]

end ReportKept

/-- A register above the pending bits holds none of them. -/
theorem setReg_reportKept (s : State) {o : Nat} (v : Word32) (hp : 0x10C0 ≤ o) (h : o ∉ replayRegs) :
    ReportKept s (s.setReg o v) := by
  refine ⟨fun q hq => reg_setReg_other s v fun e => h (e ▸ hq), fun e he hpend => ?_⟩
  have hne : pendReg e ≠ o := by rw [pendReg_eq]; omega
  rw [State.pendBit, bit_eq] at hpend ⊢
  rwa [reg_setReg_other s v hne]

theorem raise_reportKept {e : Nat} (s : State) (he : e < 1536) : ReportKept s (raise e s) := by
  refine ⟨fun o ho => raise_reg s fun h => ?_, fun d hd hp => ?_⟩
  · rw [pendReg_eq] at h
    simp only [replayRegs, List.mem_cons, List.not_mem_nil, or_false, Reg.SCH_REPLAY, Reg.SCH_REPLAY_CYC] at ho
    omega
  · rw [State.pendBit, bit_eq] at hp ⊢
    exact raise_keeps (Nat.mod_lt _ (by decide)) hp

/-- From SCH_SPC on there are neither replay registers nor pending bits. -/
theorem notReplay_above {o : Nat} (h : Reg.SCH_SPC ≤ o) : 0x10C0 ≤ o ∧ o ∉ replayRegs := by
  simp only [replayRegs, List.mem_cons, List.not_mem_nil, or_false, Reg.SCH_REPLAY, Reg.SCH_REPLAY_CYC, Reg.SCH_SPC] at h ⊢
  omega

theorem setAbove_reportKept (s : State) {o : Nat} (v : Word32) (h : Reg.SCH_SPC ≤ o) : ReportKept s (s.setReg o v) :=
  setReg_reportKept s v (notReplay_above h).1 (notReplay_above h).2

theorem setAbove64_reportKept (s : State) {o : Nat} (v : Word64) (h : Reg.SCH_SPC ≤ o) : ReportKept s (s.setReg64 o v) :=
  (setAbove_reportKept s _ h).trans (setAbove_reportKept _ _ (by omega))

theorem spcAdd_reportKept (k n : Nat) (s : State) : ReportKept s (spcAdd k n s) := by
  have hk : Reg.SCH_SPC ≤ Reg.SCH_SPC + 8 * k := Nat.le_add_right ..
  unfold spcAdd satAdd64
  dsimp only
  split
  · exact .refl s
  · split
    · exact setAbove64_reportKept s _ hk
    · exact ((setAbove64_reportKept s _ hk).trans (setAbove_reportKept _ _ (by decide))).trans (raise_reportKept _ (by decide))

theorem ledAdd_cases (i n : Nat) (s : State) : ∃ l, ledAdd i n s = { s with ldg := l } ∨
    ledAdd i n s = raise 0x545 (causeSet Reg.PWR_CAUSE 4 [] { s with ldg := l }) := by
  unfold ledAdd
  dsimp only
  split
  · exact ⟨s.ldg, .inl rfl⟩
  · split
    · exact ⟨_, .inl rfl⟩
    · split
      · exact ⟨_, .inr rfl⟩
      · exact ⟨_, .inl rfl⟩

theorem causeSet_pwr (b : Nat) (s : State) : causeSet Reg.PWR_CAUSE b [] s = s.setBit Reg.PWR_CAUSE b true := by
  unfold causeSet
  split <;> rfl

theorem ledAdd_reportKept (i n : Nat) (s : State) : ReportKept s (ledAdd i n s) := by
  obtain ⟨l, h | h⟩ := ledAdd_cases i n s <;> rw [h]
  · exact .of_regs rfl
  · rw [causeSet_pwr]
    have hl : ReportKept s { s with ldg := l } := .of_regs rfl
    exact (hl.trans (setAbove_reportKept _ _ (by decide))).trans (raise_reportKept _ (by decide))

/-- A ledger counter's saturation shows in PWR_CAUSE and in its event alone. -/
theorem ledAdd_reg {i n o : Nat} (s : State) (hc : o ≠ Reg.PWR_CAUSE) (hp : o ≠ pendReg 0x545) :
    (ledAdd i n s).reg o = s.reg o := by
  obtain ⟨l, h | h⟩ := ledAdd_cases i n s <;> rw [h]
  · rfl
  · rw [raise_reg _ hp, causeSet_pwr, reg_setBit_other _ _ _ hc]
    rfl

/-! ### Discards -/

theorem discardCycles_sch (keep : Word64 → Bool) (s : State) : (discardCycles keep s).sch =
    { s.sch with cycles := s.sch.cycles.filter (fun c => keep c.num), opened := none } := by
  unfold discardCycles
  dsimp only
  rw [(dspDiscard_chg ..).same .sch (by decide), (dropMem_chg ..).same .sch (by decide)]
  dsimp only
  rw [(spcAdd_chg ..).same .sch (by decide), (spcAdd_chg ..).same .sch (by decide)]

theorem discardCycles_reportKept (keep : Word64 → Bool) (s : State) : ReportKept s (discardCycles keep s) := by
  unfold discardCycles
  dsimp only
  refine .same_regs ?_ ((dspDiscard_chg ..).same .regs (by decide))
  refine .same_regs ?_ ((dropMem_chg ..).same .regs (by decide))
  exact .same_regs ((spcAdd_reportKept 4 _ s).trans (spcAdd_reportKept 5 _ _)) rfl

theorem endDiscarded_sch (e : Exec) (clks : Nat) (s : State) : (endDiscarded e clks s).sch =
    { s.sch with cycles := s.sch.cycles.filter (fun c => cycLt c.num e.num), opened := none, exec := none } := by
  unfold endDiscarded
  dsimp only
  rw [discardCycles_sch, (spcAdd_chg ..).same .sch (by decide), (spcAdd_chg ..).same .sch (by decide)]

theorem endDiscarded_reportKept (e : Exec) (clks : Nat) (s : State) : ReportKept s (endDiscarded e clks s) := by
  unfold endDiscarded
  dsimp only
  refine .same_regs (r := discardCycles (fun c => cycLt c e.num) (spcAdd 5 clks (spcAdd 4 1 s))) ?_ rfl
  exact ((spcAdd_reportKept 4 1 s).trans (spcAdd_reportKept 5 clks _)).trans (discardCycles_reportKept ..)

theorem cutExec_regs (s : State) : (cutExec s).regs = s.regs := (cutExec_chg s).same .regs (by decide)

theorem cutExec_parityCnt (s : State) : (cutExec s).sch.parityCnt = s.sch.parityCnt := by
  unfold cutExec
  split <;> rfl

/-- A squash before it notes its cycle: the executions from `n` on are discarded, and a later executing one is cut. -/
def squashDropped (n : Word64) (s : State) : State :=
  let t := discardCycles (fun c => cycLt c n || s.sch.exec.any (fun e => e.num == c)) s
  if t.sch.exec.any (fun e => cycLt n e.num) then cutExec t else t

/-- The cycle that SQUASH_REQ names, the lowest of those of one clock. -/
def squashNoted (n : Word64) (cause : Nat) (s : State) : State :=
  { s with wave := { s.wave with sqPend := match s.wave.sqPend with
      | some p => if cycLt n p.1 then some (n, cause) else some p
      | none => some (n, cause) } }

theorem squash_eq (n : Word64) (cause : Nat) (s : State) : squash n cause s = squashNoted n cause (squashDropped n s) := rfl

theorem squash_parityCnt (n : Word64) (cause : Nat) (s : State) : (squash n cause s).sch.parityCnt = s.sch.parityCnt := by
  have hdrop : (squashDropped n s).sch.parityCnt = s.sch.parityCnt := by
    unfold squashDropped
    dsimp only
    split
    · rw [cutExec_parityCnt, discardCycles_sch]
    · rw [discardCycles_sch]
  rw [squash_eq]
  exact hdrop

theorem squash_reportKept (n : Word64) (cause : Nat) (s : State) : ReportKept s (squash n cause s) := by
  rw [squash_eq]
  refine .same_regs (r := squashDropped n s) ?_ rfl
  unfold squashDropped
  dsimp only
  split
  · exact .same_regs (discardCycles_reportKept ..) (cutExec_regs _)
  · exact discardCycles_reportKept ..

/-! ### The fault stop -/

/-- The execution ends without a result. -/
def execEnded (s : State) : State :=
  match s.sch.exec with
  | some e => endDiscarded e (s.clock - e.startClk) s
  | none => s

/-- Every uncommitted cycle is discarded, and the working state of the clusters clears. -/
def uncommittedDropped (s : State) : State :=
  clearWork (discardCycles (fun c => cycLe c (execEnded s).sch.committed) (execEnded s))

/-- The cycle controller stands in FAULT_STOP. -/
def inFaultStop (s : State) : State :=
  { s with
    sch := { s.sch with st := .faultStop, rewindFrom := .faultStop, phase := .start, slot := 0, fatal := false, commitQ := [] }
    wave := { s.wave with lateHeld := false, sqPend := none }
    pwr := { s.pwr with longHold := true } }

theorem faultStop_eq {s : State} (h : s.sch.st ≠ .faultStop) :
    faultStop s = ledAdd 7 1 (raise 0x080 (setPause (inFaultStop (uncommittedDropped s)))) := if_neg h

/-- In FAULT_STOP a fault stop only forgets that it was asked for. -/
theorem faultStop_again {s : State} (h : s.sch.st = .faultStop) :
    faultStop s = { s with sch := { s.sch with fatal := false } } := if_pos h

theorem execEnded_sch (s : State) : (execEnded s).sch.exec = none ∧ (execEnded s).sch.committed = s.sch.committed := by
  unfold execEnded
  split
  · rw [endDiscarded_sch]
    exact ⟨rfl, rfl⟩
  · next h => exact ⟨h, rfl⟩

theorem execEnded_reportKept (s : State) : ReportKept s (execEnded s) := by
  unfold execEnded
  split
  · exact endDiscarded_reportKept ..
  · exact .refl s

theorem uncommittedDropped_sch (s : State) :
    (uncommittedDropped s).sch.exec = none ∧ (uncommittedDropped s).sch.committed = s.sch.committed := by
  unfold uncommittedDropped clearWork
  dsimp only
  rw [discardCycles_sch]
  exact execEnded_sch s

theorem uncommittedDropped_reportKept (s : State) : ReportKept s (uncommittedDropped s) :=
  .same_regs (r := discardCycles (fun c => cycLe c (execEnded s).sch.committed) (execEnded s))
    ((execEnded_reportKept s).trans (discardCycles_reportKept ..)) rfl

theorem faultStop_sch {s : State} (h : s.sch.st ≠ .faultStop) : (faultStop s).sch = (inFaultStop (uncommittedDropped s)).sch := by
  rw [faultStop_eq h, (ledAdd_chg ..).same .sch (by decide), (raise_chg ..).same .sch (by decide)]
  rfl

theorem faultStop_paused {s : State} (h : s.sch.st ≠ .faultStop) : (faultStop s).paused = true := by
  rw [faultStop_eq h, State.paused, bit_eq, ledAdd_reg _ (by decide) (by decide), raise_reg _ (by decide), ← bit_eq]
  exact bit_setBit_same _ true (by decide)

/-- A fault stop raises its event (R22). -/
theorem faultStop_pendBit {s : State} (h : s.sch.st ≠ .faultStop) : (faultStop s).pendBit 0x080 = true := by
  rw [faultStop_eq h]
  exact (ledAdd_reportKept ..).pending _ (by decide) (raise_pendBit (by simp [eventAbsent]))

theorem setPause_reportKept (s : State) : ReportKept s (setPause s) := setReg_reportKept s _ (by decide) (by decide)

theorem faultStop_reportKept {s : State} (h : s.sch.st ≠ .faultStop) : ReportKept s (faultStop s) := by
  have hstop : ReportKept s (inFaultStop (uncommittedDropped s)) := (uncommittedDropped_reportKept s).same_regs rfl
  rw [faultStop_eq h]
  exact ((hstop.trans (setPause_reportKept _)).trans (raise_reportKept _ (by decide))).trans (ledAdd_reportKept ..)

/-! ### A parity abort -/

/-- The ledger counts the cluster that saw the parity fault first (R451). -/
def parityLogged (s : State) : State :=
  match s.clu.firstPar with
  | some c => ledAdd (64 + c) 1 s
  | none => s

/-- SCH_REPLAY and SCH_REPLAY_CYC take the parity abort of cycle `n` that follows `k` others of it. -/
def replayNoted (n : Word64) (k : Nat) (s : State) : State :=
  ((parityLogged s).setReg64 Reg.SCH_REPLAY_CYC n).setFld Reg.SCH_REPLAY 0 3 (min 4 (k + 1))

/-- The cycle is counted for the replay to come. -/
def replayCounted (n : Word64) (k : Nat) (s : State) : State :=
  { s with sch := { s.sch with parityCnt := s.sch.parityCnt.filter (fun p => p.1 != n) ++ [(n, k + 1)] } }

/-- How many parity aborts of cycle `n` are counted. -/
def parityAborts (n : Word64) (s : State) : Nat := ((s.sch.parityCnt.find? (fun p => p.1 == n)).map (fun p => p.2)).getD 0

theorem parityAborts_found {n : Word64} {k : Nat} {s : State}
    (h : s.sch.parityCnt.find? (fun p => p.1 == n) = some (n, k)) : parityAborts n s = k := by
  rw [parityAborts, h]
  rfl

theorem parityAborts_notFound {n : Word64} {s : State} (h : s.sch.parityCnt.find? (fun p => p.1 == n) = none) :
    parityAborts n s = 0 := by
  rw [parityAborts, h]
  rfl

theorem parityAbort_stops {n : Word64} {s : State} (h : 3 ≤ parityAborts n s) : parityAbort n s =
    faultStop (raise 0x091 ((spcAdd 8 1 (replayNoted n (parityAborts n s) s)).setBit Reg.SCH_REPLAY 3 true)) := if_pos h

theorem parityAbort_replays {n : Word64} {s : State} (h : parityAborts n s < 3) : parityAbort n s =
    squash ((replayNoted n (parityAborts n s) s).sch.committed + 1) 2
      (raise 0x090 (replayCounted n (parityAborts n s) (replayNoted n (parityAborts n s) s))) := if_neg (Nat.not_le.mpr h)

theorem replayNoted_chg (n : Word64) (k : Nat) (s : State) : Chg 67109010 s (replayNoted n k s) := by
  have hlog : Chg 67109010 s (parityLogged s) := by
    unfold parityLogged
    split
    · exact ledAdd_chg ..
    · exact .refl ..
  exact .after (State_setFld_chg ..) (.after (State_setReg64_chg ..) hlog)

theorem replayCounted_chg (n : Word64) (k : Nat) (s : State) : Chg 1024 s (replayCounted n k s) := .upd (.refl _ _)

theorem replayCounted_reportKept (n : Word64) (k : Nat) (s : State) : ReportKept s (replayCounted n k s) := .of_regs rfl

theorem replayNoted_fld (n : Word64) (k : Nat) (s : State) :
    (replayNoted n k s).fld Reg.SCH_REPLAY 0 3 = min 4 (k + 1) := by
  rw [replayNoted, State.fld, reg_setFld, bitsOf_withBits_same _ _ (by decide)]
  omega

theorem replayNoted_reg64 (n : Word64) (k : Nat) (s : State) : (replayNoted n k s).reg64 Reg.SCH_REPLAY_CYC = n := by
  rw [replayNoted, State.reg64, reg_setFld_other _ _ _ _ (by decide), reg_setFld_other _ _ _ _ (by decide)]
  exact reg64_setReg64 ..

/-- The fourth parity abort of a cycle stops the module, and the report of it stands (R147). -/
theorem parityAbort_exhausted {n : Word64} {s : State} (hk : 3 ≤ parityAborts n s) (hst : s.sch.st ≠ .faultStop) :
    (parityAbort n s).sch.st = .faultStop ∧ (parityAbort n s).pendBit 0x080 = true ∧ (parityAbort n s).pendBit 0x091 = true ∧
      (parityAbort n s).bit Reg.SCH_REPLAY 3 = true ∧ (parityAbort n s).fld Reg.SCH_REPLAY 0 3 = 4 ∧
      (parityAbort n s).reg64 Reg.SCH_REPLAY_CYC = n := by
  rw [parityAbort_stops hk]
  generalize parityAborts n s = k at hk
  have hspc : ReportKept (replayNoted n k s) (spcAdd 8 1 (replayNoted n k s)) := spcAdd_reportKept ..
  generalize hu : (spcAdd 8 1 (replayNoted n k s)).setBit Reg.SCH_REPLAY 3 true = u
  have hust : (raise 0x091 u).sch.st ≠ .faultStop := by
    rwa [(raise_chg ..).same .sch (by decide), ← hu, setBit_sch, (spcAdd_chg ..).same .sch (by decide),
      (replayNoted_chg ..).same .sch (by decide)]
  have hkept : ReportKept u (faultStop (raise 0x091 u)) := (raise_reportKept u (by decide)).trans (faultStop_reportKept hust)
  refine ⟨?_, faultStop_pendBit hust, ?_, ?_, ?_, ?_⟩
  · rw [faultStop_sch hust]
    rfl
  · exact (faultStop_reportKept hust).pending _ (by decide) (raise_pendBit (by simp [eventAbsent]))
  · rw [hkept.bit, ← hu]
    exact bit_setBit_same _ true (by decide)
  · rw [hkept.fld, ← hu, State.fld, State.setBit, reg_setFld, bitsOf_withBits_other _ _ (by decide) (by decide), ← State.fld,
      hspc.fld, replayNoted_fld]
    omega
  · rw [hkept.reg64, ← hu, State.reg64, reg_setBit_other _ _ _ (by decide), reg_setBit_other _ _ _ (by decide), ← State.reg64,
      hspc.reg64, replayNoted_reg64]

/-- An earlier one is counted, and the cycle is replayed (R146). -/
theorem parityAbort_counted {n : Word64} {s : State} (hk : parityAborts n s < 3) :
    (parityAbort n s).sch.parityCnt = s.sch.parityCnt.filter (fun p => p.1 != n) ++ [(n, parityAborts n s + 1)] ∧
      (parityAbort n s).fld Reg.SCH_REPLAY 0 3 = parityAborts n s + 1 ∧ (parityAbort n s).pendBit 0x090 = true ∧
      (parityAbort n s).reg64 Reg.SCH_REPLAY_CYC = n ∧
      Changes [.regs, .out, .host, .sch, .wave, .mem, .lnk, .dsp, .ldg] s (parityAbort n s) := by
  rw [parityAbort_replays hk]
  generalize parityAborts n s = k at hk
  have hcount : Chg 67110034 s (replayCounted n k (replayNoted n k s)) :=
    .after (replayCounted_chg ..) (.after (replayNoted_chg ..) (.refl _ _))
  have hraise : ReportKept (replayNoted n k s) (raise 0x090 (replayCounted n k (replayNoted n k s))) :=
    (replayCounted_reportKept ..).trans (raise_reportKept _ (by decide))
  have hkept := hraise.trans (squash_reportKept ((replayNoted n k s).sch.committed + 1) 2 _)
  have hframe : Chg 67538066 s (squash ((replayNoted n k s).sch.committed + 1) 2
      (raise 0x090 (replayCounted n k (replayNoted n k s)))) :=
    .after (squash_chg ..) (.after (raise_chg ..) (.after hcount (.refl _ _)))
  refine ⟨?_, ?_, ?_, ?_, hframe.changes⟩
  · rw [squash_parityCnt, (raise_chg ..).same .sch (by decide), replayCounted, (replayNoted_chg ..).same .sch (by decide)]
  · rw [hkept.fld, replayNoted_fld]
    omega
  · exact (squash_reportKept ..).pending _ (by decide) (raise_pendBit (by simp [eventAbsent]))
  · rw [hkept.reg64, replayNoted_reg64]

/-- Settles O29: a fault stop sets what it names last, so that nothing takes it back; a parity abort reports the count before it
squashes or stops, and neither changes that report. -/
theorem faultStopAndReplay : Obligations.FaultStopAndReplay := by
  refine ⟨fun s h => ?stop, fun s h => faultStop_again h, fun n k s hfind => ⟨fun hk hst => ?exhausted, fun hk => ?again⟩,
    fun n s hfind => ?first⟩
  case stop =>
    obtain ⟨hexec, hcommitted⟩ := uncommittedDropped_sch s
    refine ⟨_, rfl, ?_, ?_, ?_, ?_, ?_, faultStop_pendBit h, faultStop_paused h, (faultStop_chg s).changes⟩ <;>
      rw [faultStop_sch h]
    · rfl
    · exact hexec
    · rfl
    · exact hcommitted
    · rfl
  case exhausted =>
    obtain ⟨hfs, hstop, hev, hbit, hcnt, hcyc⟩ := parityAbort_exhausted (by rwa [parityAborts_found hfind]) hst
    exact ⟨_, rfl, hfs, hstop, hev, hbit, hcnt, hcyc, (parityAbort_chg ..).changes⟩
  case again =>
    have h := parityAbort_counted (n := n) (s := s) (by rwa [parityAborts_found hfind])
    rw [parityAborts_found hfind] at h
    exact ⟨_, rfl, h⟩
  case first =>
    have h := parityAbort_counted (n := n) (s := s) (by rw [parityAborts_notFound hfind]; decide)
    rw [parityAborts_notFound hfind] at h
    exact ⟨_, rfl, h⟩

/-! ### The core die after a reset -/

theorem mget_filter_key {α : Type} (m : SMap α) (d : α) (f : Nat → Bool) (k : Nat) :
    mget (m.filter (fun p => f p.1)) d k = if f k then mget m d k else d := by
  induction m with
  | nil => simp [mget]
  | cons p t ih =>
    obtain ⟨j, v⟩ := p
    by_cases hj : j = k
    · subst hj
      cases hf : f j with
      | true => simp [hf, mget]
      | false => simpa [hf] using ih
    · cases hf : f j with
      | true => simp [hf, mget, hj, ih]
      | false => simp [hf, mget, hj, ih]

theorem wipeDie_reg {s : State} {o : Nat} (h : o ≠ Reg.PWR_VCCIO) :
    (wipeDie s).reg o = if keptReg o then s.reg o else resetVal o :=
  (reg_setReg_other _ _ h).trans (mget_filter_key ..)

theorem wipeDie_vccio (s : State) : (wipeDie s).reg Reg.PWR_VCCIO = s.reg Reg.PWR_VCCIO &&& 0xFF := by
  refine (reg_setReg_same ..).trans (congrArg (· &&& 0xFF) ?_)
  exact (mget_filter_key ..).trans (if_pos (by decide))

theorem wipeDie_dieReset (s : State) : DieReset s (wipeDie s) :=
  ⟨⟨rfl, rfl, rfl, rfl, rfl, rfl, rfl, rfl, rfl, rfl, rfl, rfl, rfl, rfl, rfl, rfl⟩, rfl, rfl, ⟨rfl, rfl, rfl⟩, ⟨rfl, rfl, rfl⟩,
    ⟨rfl, rfl, rfl⟩, fun _ _ _ hv => wipeDie_reg hv⟩

theorem dieReset_setStage {s t : State} (st : BootStage) (h : DieReset s t) : DieReset s (setStage st t) := by
  obtain ⟨hblocks, hmem, hkeys, hpins, hkeep, hout, hregs⟩ := h
  exact ⟨hblocks, hmem, hkeys, hpins, hkeep, hout, hregs⟩

/-- The words that each reset sets in its own way. -/
theorem dieReset_setReg {s t : State} {o : Nat} (v : Word32)
    (ho : o = Reg.GBL_BOOT ∨ o = Reg.BNT_AUTHFAIL ∨ o = Reg.PWR_VCCIO) (h : DieReset s t) : DieReset s (t.setReg o v) := by
  obtain ⟨hblocks, hmem, hkeys, hpins, hkeep, hout, hregs⟩ := h
  refine ⟨hblocks, hmem, hkeys, hpins, hkeep, hout, fun q hb ha hv => ?_⟩
  rw [reg_setReg_other t v (by rcases ho with rfl | rfl | rfl <;> assumption), hregs q hb ha hv]

/-! ### What an interrupted operation changes -/

theorem ledgerTorn_boot (s : State) : (ledgerTorn s).boot = s.boot := (ledgerTorn_chg s).same .boot (by decide)

theorem ledgerTorn_closed {s : State} (h : ledgerOpen s = false) : ledgerTorn s = s := by simp [ledgerTorn, h]

/-- A torn record is the newest one (R452, log 186). -/
theorem ledgerTorn_recs {s : State} {j : Nat} (h : j ≠ s.ldg.seq.toNat % 256) :
    mget (ledgerTorn s).ldg.recs [] j = mget s.ldg.recs [] j := by
  unfold ledgerTorn
  split
  · rfl
  · split
    · exact mget_mset_other _ _ _ _ h
    · rfl

theorem stageTorn_idle {s : State} (h : stageWriting s = false) : stageTorn s = s := by simp [stageTorn, h]

theorem stageWrite_boot (p : List Byte) (s : State) : (stageWrite p s).2.2.boot.stage = s.boot.stage ∧
    (stageWrite p s).2.2.boot.flash = s.boot.flash := by
  unfold stageWrite answer
  split <;> exact ⟨rfl, rfl⟩

/-- The staging area is marked as torn. -/
def stageMarked (s : State) : State :=
  { s with boot := { s.boot with mram := { s.boot.mram with stageTorn := true } } }.tick1

/-- What a staging write that a reset ends may have left: nothing, its mark, or also a part of its bytes (R438). -/
theorem stageTorn_cases (s : State) : stageTorn s = s ∨ stageTorn s = stageMarked s ∨
    ∃ p, stageTorn s = stageMarked (stageWrite p s).2.2 := by
  unfold stageTorn
  split
  · exact .inl rfl
  · dsimp only
    split
    · exact .inr (.inl rfl)
    · exact .inr (.inr ⟨_, rfl⟩)

theorem stageMarked_boot (s : State) : (stageMarked s).boot.stage = s.boot.stage ∧ (stageMarked s).boot.flash = s.boot.flash :=
  ⟨rfl, rfl⟩

/-- A staging write goes to MRAM. -/
theorem stageTorn_boot (s : State) : (stageTorn s).boot.stage = s.boot.stage ∧ (stageTorn s).boot.flash = s.boot.flash := by
  rcases stageTorn_cases s with h | h | ⟨p, h⟩ <;> rw [h]
  · exact ⟨rfl, rfl⟩
  · exact stageMarked_boot s
  · rw [(stageMarked_boot _).1, (stageMarked_boot _).2]
    exact stageWrite_boot p s

theorem copyTorn_stage (s : State) : (copyTorn s).boot.stage = s.boot.stage := by
  unfold copyTorn
  split <;> rfl

/-- Outside the COPY stage no flash is programmed. -/
theorem copyTorn_other {s : State} (h : s.boot.stage ≠ .copy) : copyTorn s = s := if_neg fun hc => h hc.1

theorem keyLoad_boot (p : List Byte) (s : State) : (keyLoad p s).2.2.boot = s.boot := (keyLoad_chg ..).same .boot (by decide)

theorem confirmRecord_boot (s : State) : (confirmRecord s).boot.stage = s.boot.stage ∧
    (confirmRecord s).boot.flash = s.boot.flash := by
  unfold confirmRecord
  split <;> exact ⟨rfl, rfl⟩

theorem lastWrite_boot (r : Request) (s : State) : (lastWrite r s).boot.stage = s.boot.stage ∧
    (lastWrite r s).boot.flash = s.boot.flash := by
  unfold lastWrite
  split
  · rw [keyLoad_boot]
    exact ⟨rfl, rfl⟩
  · split
    · exact confirmRecord_boot s
    · exact ⟨rfl, rfl⟩

theorem lastWrite_reg (r : Request) (s : State) (o : Nat) : (lastWrite r s).reg o = s.reg o :=
  reg_of_regs ((lastWrite_chg r s).same .regs (by decide)) o

theorem setCtr_boot (k v : Nat) (s : State) : (setCtr k v s).boot = s.boot := rfl

/-- The words of Bonnet's counters. -/
def ctrRegs : List Nat := (List.range 8).map (fun i => Reg.BNT_CTR + 4 * i)

theorem setCtr_reg {k v o : Nat} {s : State} (hk : k ≤ 3) (ho : o ∉ ctrRegs) : (setCtr k v s).reg o = s.reg o := by
  have hmem : ∀ i < 8, o ≠ Reg.BNT_CTR + 4 * i := fun i hi e => ho (List.mem_map.mpr ⟨i, List.mem_range.mpr hi, e.symm⟩)
  rw [setCtr, reg_setReg_other, reg_setReg_other]
  · have := hmem (2 * k) (by omega)
    omega
  · have := hmem (2 * k + 1) (by omega)
    omega

/-- The operations that are authenticated (R409). -/
theorem opForm_authed {op : Nat} (h0 : op ≠ 0) (h8 : op ≤ 8) : (opForm op).authed = true := by
  have h : ∀ op : Fin 9, op.val ≠ 0 → (opForm op.val).authed = true := by decide
  exact h ⟨op, by omega⟩ h0

/-- A request that passes the checks names a slot. -/
theorem judge_slot {f : OpForm} {a : Bool} {r : Request} {s : State} (hf : f.authed = true) (h : judge f a r s = 0) :
    reqSlot r ≤ 3 := by
  have hform : formatOk f r = true := by
    by_contra hno
    rw [judge, if_pos (by simpa using hno)] at h
    cases h
  rw [formatOk, hf, if_pos rfl] at hform
  simpa using (Bool.and_eq_true_iff.mp hform).2

/-- What a request that a reset ends may have left: nothing, its counter, or also what it writes first (R408, log 188). -/
theorem requestTorn_cases (s : State) : requestTorn s = s ∨ requestTorn s = s.tick1 ∨ ∃ r, reqSlot r ≤ 3 ∧
    (requestTorn s = setCtr (reqSlot r) (reqCounter r) s.tick1 ∨
      requestTorn s = lastWrite r (setCtr (reqSlot r) (reqCounter r) s.tick1)) := by
  unfold requestTorn
  split
  · exact .inl rfl
  · next r _ _ =>
    split
    · exact .inl rfl
    · next hpass =>
      simp only [not_or, Nat.not_lt, ne_eq, not_not] at hpass
      obtain ⟨-, h8, h0, hjudge⟩ := hpass
      have hslot := judge_slot (opForm_authed h0 h8) hjudge
      dsimp only
      split
      · exact .inr (.inl rfl)
      · split
        · exact .inr (.inr ⟨r, hslot, .inr rfl⟩)
        · exact .inr (.inr ⟨r, hslot, .inl rfl⟩)

theorem requestTorn_none {s : State} (h : s.bnt.reqs = []) : requestTorn s = s := by rw [requestTorn, h]

theorem requestTorn_boot (s : State) : (requestTorn s).boot.stage = s.boot.stage ∧
    (requestTorn s).boot.flash = s.boot.flash := by
  rcases requestTorn_cases s with h | h | ⟨r, -, h | h⟩ <;> rw [h]
  · exact ⟨rfl, rfl⟩
  · exact ⟨rfl, rfl⟩
  · rw [setCtr_boot]
    exact ⟨rfl, rfl⟩
  · rw [(lastWrite_boot ..).1, (lastWrite_boot ..).2, setCtr_boot]
    exact ⟨rfl, rfl⟩

theorem requestTorn_reg {s : State} {o : Nat} (ho : o ∉ ctrRegs) : (requestTorn s).reg o = s.reg o := by
  rcases requestTorn_cases s with h | h | ⟨r, hr, h | h⟩ <;> rw [h]
  · rfl
  · exact setCtr_reg hr ho
  · rw [lastWrite_reg]
    exact setCtr_reg hr ho

/-! ### What a reset interrupts -/

/-- The only registers that an interrupted operation writes are Bonnet's counters. -/
theorem interrupted_reg {s : State} {o : Nat} (ho : o ∉ ctrRegs) : (interrupted s).reg o = s.reg o := by
  have hstage : (stageTorn (ledgerTorn s)).reg o = s.reg o :=
    (reg_of_regs ((stageTorn_chg ..).same .regs (by decide)) o).trans
      (reg_of_regs ((ledgerTorn_chg s).same .regs (by decide)) o)
  exact (reg_of_regs ((copyTorn_chg ..).same .regs (by decide)) o).trans ((requestTorn_reg ho).trans hstage)

theorem beforeCopy_boot (s : State) : (requestTorn (stageTorn (ledgerTorn s))).boot.stage = s.boot.stage ∧
    (requestTorn (stageTorn (ledgerTorn s))).boot.flash = s.boot.flash := by
  rw [(requestTorn_boot _).1, (requestTorn_boot _).2, (stageTorn_boot _).1, (stageTorn_boot _).2, ledgerTorn_boot]
  exact ⟨rfl, rfl⟩

theorem interrupted_stage (s : State) : (interrupted s).boot.stage = s.boot.stage :=
  (copyTorn_stage _).trans (beforeCopy_boot s).1

theorem interrupted_flash {s : State} (h : s.boot.stage ≠ .copy) : (interrupted s).boot.flash = s.boot.flash := by
  rw [interrupted, copyTorn_other (by rwa [(beforeCopy_boot s).1]), (beforeCopy_boot s).2]

theorem interrupted_ldg (s : State) : (interrupted s).ldg = (ledgerTorn s).ldg := by
  rw [interrupted, (copyTorn_chg ..).same .ldg (by decide), (requestTorn_chg ..).same .ldg (by decide),
    (stageTorn_chg ..).same .ldg (by decide)]

theorem interrupted_none {s : State} (hl : ledgerOpen s = false) (hw : stageWriting s = false) (hr : s.bnt.reqs = [])
    (hc : s.boot.stage ≠ .copy) : interrupted s = s := by
  rw [interrupted, ledgerTorn_closed hl, stageTorn_idle hw, requestTorn_none hr, copyTorn_other hc]

/-! ### The resets -/

/-- A reset of the core die, up to the stage with which start-up begins. -/
def resetTo (st : BootStage) (s : State) : State := setStage st (resetDie s)

theorem resetTo_dieReset (st : BootStage) (s : State) : DieReset (interrupted s) (resetTo st s) :=
  dieReset_setStage st (wipeDie_dieReset _)

theorem resetTo_vccio (st : BootStage) (s : State) : (resetTo st s).reg Reg.PWR_VCCIO = s.reg Reg.PWR_VCCIO &&& 0xFF := by
  rw [resetTo, setStage_reg, resetDie, wipeDie_vccio, interrupted_reg (by decide)]

/-- GBL_BOOT and BNT_AUTHFAIL are among the words that the wipe resets. -/
theorem resetTo_wiped (st : BootStage) (s : State) {o : Nat} (hv : o ≠ Reg.PWR_VCCIO) (hk : keptReg o = false) :
    (resetTo st s).reg o = resetVal o := by
  rw [resetTo, setStage_reg, resetDie, wipeDie_reg hv, if_neg (by simp [hk])]

theorem dieReset_lastReset {s t : State} (c : Nat) (h : DieReset s t) : DieReset s (lastReset c t) :=
  dieReset_setReg _ (.inl rfl) h

/-- The reset of a pin: the die is reset, its stage is named, and LAST_RESET says which it was. -/
def pinReset (c : Nat) (st : BootStage) (s : State) : State := lastReset c (resetTo st s)

theorem pinReset_spec (c : Nat) (st : BootStage) (s : State) : DieReset (interrupted s) (pinReset c st s) ∧
    (pinReset c st s).boot.stage = st ∧ (pinReset c st s).reg Reg.PWR_VCCIO = s.reg Reg.PWR_VCCIO &&& 0xFF ∧
    (pinReset c st s).reg Reg.GBL_BOOT = withBits (resetVal Reg.GBL_BOOT) 22 2 c ∧
    (pinReset c st s).reg Reg.BNT_AUTHFAIL = resetVal Reg.BNT_AUTHFAIL := by
  refine ⟨dieReset_lastReset c (resetTo_dieReset st s), rfl, ?_, ?_, ?_⟩
  · rw [pinReset, lastReset, reg_setFld_other _ _ _ _ (by decide), resetTo_vccio]
  · rw [pinReset, lastReset, reg_setFld, resetTo_wiped st s (by decide) (by decide)]
  · rw [pinReset, lastReset, reg_setFld_other _ _ _ _ (by decide), resetTo_wiped st s (by decide) (by decide)]

/-- Power-on, with the supplies reported as absent. -/
theorem powerOn_spec (s : State) : DieReset (interrupted s) (coldReset .powerOn s) ∧
    (coldReset .powerOn s).boot.stage = .porHeld ∧ (coldReset .powerOn s).reg Reg.PWR_VCCIO = 0 ∧
    (coldReset .powerOn s).reg Reg.GBL_BOOT = withBits (resetVal Reg.GBL_BOOT) 22 2 0 ∧
    (coldReset .powerOn s).reg Reg.BNT_AUTHFAIL = resetVal Reg.BNT_AUTHFAIL := by
  have heq : coldReset .powerOn s = lastReset 0 ((resetTo .porHeld s).setReg Reg.PWR_VCCIO 0) := rfl
  rw [heq]
  refine ⟨dieReset_lastReset 0 (dieReset_setReg 0 (.inr (.inr rfl)) (resetTo_dieReset ..)), rfl, ?_, ?_, ?_⟩
  · rw [lastReset, reg_setFld_other _ _ _ _ (by decide), reg_setReg_same]
  · rw [lastReset, reg_setFld, reg_setReg_other _ _ (by decide), resetTo_wiped _ s (by decide) (by decide)]
  · rw [lastReset, reg_setFld_other _ _ _ _ (by decide), reg_setReg_other _ _ (by decide),
      resetTo_wiped _ s (by decide) (by decide)]

theorem powerRemoved_spec (s : State) : DieReset (interrupted s) (powerRemoved s) ∧ (powerRemoved s).boot.stage = .off ∧
    (powerRemoved s).reg Reg.PWR_VCCIO = 0 :=
  ⟨dieReset_setReg 0 (.inr (.inr rfl)) (resetTo_dieReset .off s), rfl, reg_setReg_same ..⟩

theorem warmReset_spec (s : State) : DieReset (interrupted s) (warmReset s) ∧ (warmReset s).boot.stage = .resident ∧
    (warmReset s).reg Reg.PWR_VCCIO = s.reg Reg.PWR_VCCIO &&& 0xFF ∧
    (warmReset s).reg Reg.GBL_BOOT = withBits (resetVal Reg.GBL_BOOT) 22 2 2 ∧
    (warmReset s).reg Reg.BNT_AUTHFAIL = s.reg Reg.BNT_AUTHFAIL := by
  have heq : warmReset s = lastReset 2 ((resetTo .resident s).setReg Reg.BNT_AUTHFAIL (s.reg Reg.BNT_AUTHFAIL)) := rfl
  rw [heq]
  refine ⟨dieReset_lastReset 2 (dieReset_setReg _ (.inr (.inl rfl)) (resetTo_dieReset ..)), rfl, ?_, ?_, ?_⟩
  · rw [lastReset, reg_setFld_other _ _ _ _ (by decide), reg_setReg_other _ _ (by decide), resetTo_vccio]
  · rw [lastReset, reg_setFld, reg_setReg_other _ _ (by decide), resetTo_wiped _ s (by decide) (by decide)]
  · rw [lastReset, reg_setFld_other _ _ _ _ (by decide), reg_setReg_same]

/-- HALTED keeps GBL_BOOT (R424). -/
theorem halt_spec (s : State) : (halt s).boot.stage = .halted ∧ (halt s).up = false ∧
    (halt s).reg Reg.GBL_BOOT = s.reg Reg.GBL_BOOT ∧ DieReset (interrupted s) (halt s) :=
  ⟨rfl, rfl, reg_setReg_same .., dieReset_setReg _ (.inl rfl) (resetTo_dieReset .halted s)⟩

/-! ### Pulses on the reset pins -/

theorem pulsed_short {ns : Nat} {f : State → State} {s : State} (h : ns < 2000) : pulsed ns f s = s := if_pos h

theorem pulsed_long {ns : Nat} {f : State → State} {s : State} (h : 10000 ≤ ns) : pulsed ns f s = f s := by
  rw [pulsed, if_neg (by omega), if_pos h]

/-- Between 2 us and 10 us a pulse has no effect or that of a long one (R475). -/
theorem pulsed_between {ns : Nat} {f : State → State} {s : State} (h : 2000 ≤ ns) (h' : ns < 10000) :
    pulsed ns f s = s.tick1 ∨ pulsed ns f s = pulsed 10000 f s.tick1 := by
  rw [pulsed_long (Nat.le_refl _), pulsed, if_neg (by omega), if_neg (by omega)]
  split
  · exact .inr rfl
  · exact .inl rfl

theorem porPin_unpowered {s : State} (h : s.boot.stage = .off ∨ s.boot.stage = .porHeld) : porPin s = s := if_pos h

theorem porPin_powered {s : State} (hoff : s.boot.stage ≠ .off) (hpor : s.boot.stage ≠ .porHeld) :
    porPin s = pinReset 1 .porHeld s := if_neg (by simp [hoff, hpor])

theorem resetPin_idle {s : State} (h : s.boot.stage = .off ∨ s.boot.stage = .porHeld ∨ s.boot.stage = .halted) :
    resetPin s = s := by
  rcases h with h | h | h <;> rw [resetPin, h]

/-- Before ANALOG has ended RESET_N is a cold reset (R475). -/
theorem resetPin_early {s : State} (h : s.boot.stage = .fuse ∨ s.boot.stage = .analog) :
    resetPin s = pinReset (s.fld Reg.GBL_BOOT 22 2) .fuse s := by
  rcases h with h | h <;> rw [resetPin, h] <;> rfl

theorem resetPin_warm {s : State} (h : s.boot.stage ∉ [BootStage.off, .porHeld, .halted, .fuse, .analog]) :
    resetPin s = warmReset s := by
  simp only [List.mem_cons, List.not_mem_nil, or_false, not_or] at h
  obtain ⟨hoff, hpor, hhalted, hfuse, hanalog⟩ := h
  unfold resetPin
  split
  · contradiction
  · contradiction
  · contradiction
  · contradiction
  · contradiction
  · rfl

/-! ### The record before a warm reset -/

theorem recordDone_closed (s : State) : ledgerOpen (recordDone s) = false := rfl

/-- No record is in the writing any more when the warm reset comes: none is torn. -/
theorem warmReset_recordDone_recs (s : State) : (warmReset (recordDone s)).ldg.recs = s.ldg.recs := by
  obtain ⟨-, -, hldg⟩ := (warmReset_spec (recordDone s)).1.keep
  rw [hldg, interrupted_ldg, ledgerTorn_closed (recordDone_closed s)]
  rfl

theorem writeLedger_fail_ldg (reason : Nat) (s : State) : (writeLedger reason true s).ldg = s.ldg :=
  ((raise_chg ..).same .ldg (by decide)).trans ((causeSet_chg ..).same .ldg (by decide))

theorem writeLedger_record (reason : Nat) (s : State) :
    mget (writeLedger reason false s).ldg.recs [] ((s.ldg.seq + 1).toNat % 256) = ledgerRecord (s.ldg.seq + 1) reason s := by
  rw [writeLedger, if_neg Bool.false_ne_true]
  dsimp only
  rw [mget_mset_same]

theorem writeLedger_reg {reason o : Nat} {fail : Bool} (s : State) (hc : o ≠ Reg.PWR_CAUSE) (hp : o ≠ pendReg 0x544) :
    (writeLedger reason fail s).reg o = s.reg o := by
  cases fail with
  | false => rfl
  | true => exact (raise_reg _ hp).trans (causeSet_reg s hc (List.not_mem_nil))

theorem markDirty_ledgerRecord (off reason : Nat) (seq : Word64) (s : State) :
    ledgerRecord seq reason (markDirty off s) = ledgerRecord seq reason s := by
  unfold markDirty
  split <;> rfl

/-- A write of GBL_RESET that is accepted and asks for a warm reset makes one, after the ledger record (R419, R452). -/
def warmWrite (path : Path) (val : Word32) (fail : Bool) (s : State) : State :=
  if val.getLsbD 0 then
    regAccess path Reg.GBL_RESET val (fun _ s => warmReset (recordDone (writeLedger 3 fail s))) s
  else s

theorem exec_gblWarmReset {s : State} (path : Path) (val : Word32) (fail : Bool) (hup : s.up = true) :
    exec (.gblWarmReset path val fail) s = .next (warmWrite path val fail s) :=
  run_up (warmWrite path val fail) hup

theorem warmWrite_accepted {path : Path} {val : Word32} {s : State} (fail : Bool) (hbit : val.getLsbD 0 = true)
    (h : accepts path Reg.GBL_RESET val s) :
    warmWrite path val fail s = warmReset (recordDone (writeLedger 3 fail (markDirty Reg.GBL_RESET s))) := by
  rw [warmWrite, if_pos hbit, regAccess_accepted _ h]

theorem warmWrite_other {path : Path} {val : Word32} {fail : Bool} {s : State} (hbit : val.getLsbD 0 = false) :
    warmWrite path val fail s = s := by
  rw [warmWrite, hbit]
  rfl

theorem exec_rootPllLockLoss {s : State} (hup : s.up = true) : exec .rootPllLockLoss s = .next (halt (raise 0x547 s)) :=
  run_up (fun s => halt (raise 0x547 s)) hup

theorem exec_coldReset (cause : ColdCause) (s : State) : exec (.coldReset cause) s = .next (coldReset cause s) := rfl

theorem exec_porLow (ns : Nat) (s : State) : exec (.coldReset (.porLow ns)) s = .next (pulsed ns porPin s) := rfl

theorem exec_resetNAssert (ns : Nat) (s : State) : exec (.resetNAssert ns) s = .next (pulsed ns resetPin s) := rfl

theorem exec_powerRemoved (s : State) : exec .powerRemoved s = .next (powerRemoved s) := rfl

theorem exec_porNRelease (modid : BitVec 6) (addr : BitVec 2) (s : State) :
    exec (.porNRelease modid addr) s = .next (porRelease modid addr s) := rfl

/-- What a warm reset by GBL_RESET leaves beside that of every warm reset: the ledger with its new record, and
BNT_AUTHFAIL. -/
theorem warmWrite_spec {path : Path} {val : Word32} {s : State} (fail : Bool) (hbit : val.getLsbD 0 = true)
    (h : accepts path Reg.GBL_RESET val s) :
    (warmWrite path val fail s).reg Reg.BNT_AUTHFAIL = s.reg Reg.BNT_AUTHFAIL ∧
      (fail = true → (warmWrite path val fail s).ldg.recs = s.ldg.recs) ∧
      (fail = false → mget (warmWrite path val fail s).ldg.recs [] ((s.ldg.seq + 1).toNat % 256) =
        ledgerRecord (s.ldg.seq + 1) 3 s) := by
  have hldg : (markDirty Reg.GBL_RESET s).ldg = s.ldg := (markDirty_chg ..).same .ldg (by decide)
  rw [warmWrite_accepted fail hbit h]
  refine ⟨?_, fun hf => ?_, fun hf => ?_⟩
  · obtain ⟨-, -, -, -, hauth⟩ := warmReset_spec (recordDone (writeLedger 3 fail (markDirty Reg.GBL_RESET s)))
    exact hauth.trans ((writeLedger_reg _ (by decide) (by decide)).trans (markDirty_reg ..))
  · rw [hf, warmReset_recordDone_recs, writeLedger_fail_ldg, hldg]
  · rw [hf, warmReset_recordDone_recs, ← hldg, writeLedger_record, hldg, markDirty_ledgerRecord]

/-- Settles O54, pin by pin: each reset is `resetTo` of its stage with the words that it sets itself, and what it interrupts has
changed before the wipe. The HBM key of `DieReset` is log 11, the torn operations logs 186 to 189, the stages logs 49 and 52. -/
theorem resetsLeaveTheKeep : Obligations.ResetsLeaveTheKeep := by
  refine ⟨fun s => ⟨?powerOn, fun ns h => ?porShort, fun ns h h' => ?porBetween,
      fun ns h => ⟨fun hst => ?porIdle, fun hoff hpor => ?por⟩, ?removed⟩,
    fun modid addr s => ⟨fun hst => ?release, fun hst => ?held⟩,
    fun ns s => ⟨fun h => ?short, fun h h' => ?between, fun h => ⟨fun hst => ?idle, fun hst => ?early, fun hst => ?warm⟩⟩,
    fun path val fail s hup => ⟨fun hbit => ?other, fun hbit hacc => ?written⟩, fun s => ?interrupted, fun s hup => ?rootClock⟩
  case powerOn => exact ⟨_, exec_coldReset .powerOn s, powerOn_spec s⟩
  case porShort => rw [exec_porLow, pulsed_short h]
  case porBetween =>
    rw [exec_porLow, exec_porLow]
    exact (pulsed_between h h').imp (congrArg _) (congrArg _)
  case porIdle => rw [exec_porLow, pulsed_long h, porPin_unpowered hst]
  case por =>
    rw [exec_porLow, pulsed_long h, porPin_powered hoff hpor]
    exact ⟨_, rfl, pinReset_spec 1 .porHeld s⟩
  case removed => exact ⟨_, exec_powerRemoved s, powerRemoved_spec s⟩
  case release => rw [exec_porNRelease, porRelease, if_neg (by simp [hst])]
  case held => rw [exec_porNRelease, porRelease, if_pos hst]
  case short => rw [exec_resetNAssert, pulsed_short h]
  case between =>
    rw [exec_resetNAssert, exec_resetNAssert]
    exact (pulsed_between h h').imp (congrArg _) (congrArg _)
  case idle => rw [exec_resetNAssert, pulsed_long h, resetPin_idle hst]
  case early =>
    obtain ⟨hdie, hstage, hvccio, hboot, -⟩ := pinReset_spec (s.fld Reg.GBL_BOOT 22 2) .fuse s
    rw [exec_resetNAssert, pulsed_long h, resetPin_early hst]
    exact ⟨_, rfl, hdie, hstage, hvccio, hboot⟩
  case warm =>
    rw [exec_resetNAssert, pulsed_long h, resetPin_warm hst]
    exact ⟨_, rfl, warmReset_spec s⟩
  case other => rw [exec_gblWarmReset path val fail hup, warmWrite_other hbit]
  case written =>
    have heq := warmWrite_accepted fail hbit hacc
    obtain ⟨hdie, hstage, -, hboot, -⟩ := warmReset_spec (recordDone (writeLedger 3 fail (markDirty Reg.GBL_RESET s)))
    rw [← heq] at hdie hstage hboot
    exact ⟨_, exec_gblWarmReset path val fail hup, hdie, hstage, hboot, warmWrite_spec fail hbit hacc⟩
  case interrupted =>
    exact ⟨(interrupted_chg s).changes, fun o ho => interrupted_reg ho, interrupted_stage s, interrupted_flash,
      fun j hj => by rw [interrupted_ldg, ledgerTorn_recs hj], interrupted_none⟩
  case rootClock =>
    obtain ⟨hstage, hdown, hboot, hdie⟩ := halt_spec (raise 0x547 s)
    exact ⟨_, exec_rootPllLockLoss hup, hstage, hdown, hboot.trans (raise_reg s (by decide)), hdie⟩

end Sys2Proof.Proofs
end

section
/-!
Proofs of the family 02_boolean_processor: truth tables (O10), the parity of instruction words (O11) and the shadow bits that
they write (O12).
-/
namespace Sys2Proof.Proofs
open Sys2Proof.Machine Sys2Proof.Laws

theorem b2n_le (b : Bool) : b2n b ≤ 1 := by cases b <;> decide

/-- A bit of a number, as the number that the model counts with. -/
theorem b2n_testBit (x i : Nat) : b2n (x.testBit i) = x / 2 ^ i % 2 := by
  rw [b2n, Nat.testBit_eq_decide_div_mod_eq]
  rcases Nat.mod_two_eq_zero_or_one (x / 2 ^ i) with h | h <;> rw [h] <;> rfl

theorem wbits_testBit (w : InstrWord) (lo n i : Nat) :
    (wbits w lo n).testBit i = (decide (i < n) && w.getLsbD (lo + i)) := by
  rw [wbits, Nat.testBit_mod_two_pow, Nat.testBit_shiftRight, BitVec.testBit_toNat]

theorem evalTT_four (tt : Nat) (v0 v1 v2 v3 : Bool) :
    evalTT tt [v0, v1, v2, v3] = tt.testBit (8 * b2n v3 + 4 * b2n v2 + 2 * b2n v1 + b2n v0) := by
  have hi : b2n v0 + 2 * b2n v1 + 4 * b2n v2 + 8 * b2n v3 = 8 * b2n v3 + 4 * b2n v2 + 2 * b2n v1 + b2n v0 := by omega
  rw [evalTT, Nat.testBit_eq_decide_div_mod_eq, Nat.shiftRight_eq_div_pow, ← hi]
  rfl

/-- Settles O10: the truth table stands at bit 72 of the word, and four operand values name one of its 16 bits. -/
theorem truthTableResult : Obligations.TruthTableResult := by
  intro w v0 v1 v2 v3
  have hi : 8 * b2n v3 + 4 * b2n v2 + 2 * b2n v1 + b2n v0 < 16 := by
    linarith [b2n_le v0, b2n_le v1, b2n_le v2, b2n_le v3]
  rw [evalTT_four, ttOf, wbits_testBit, decide_eq_true hi, Bool.true_and]

theorem ones_eq_sum (x n : Nat) : ones x n = ((List.range n).map (fun i => b2n (x.testBit i))).sum := by
  induction n with
  | zero => rfl
  | succ n ih => simp [ones, ih, List.range_succ, b2n_testBit, Nat.shiftRight_eq_div_pow]

theorem ones_group (w : InstrWord) (lo n : Nat) :
    ones (w.toNat >>> lo) n = ((List.range n).map (fun i => b2n (w.getLsbD (lo + i)))).sum := by
  simp only [ones_eq_sum, Nat.testBit_shiftRight, BitVec.testBit_toNat]

/-- Settles O11: the count of ones of a group is the sum of its bits. -/
theorem instructionWordParity : Obligations.InstructionWordParity := by
  intro w
  have hparity : ∀ i, w.toNat >>> i % 2 = b2n (w.getLsbD i) := fun i => by
    rw [← BitVec.testBit_toNat, b2n_testBit, Nat.shiftRight_eq_div_pow]
  simp only [wordParityOk, ones_group, hparity, List.all_eq_true, List.mem_range, beq_iff_eq]

/-- Settles O12: of the decoder's branches the one for W = 1, N = 0, X = 0 and class 01 alone gives a shadow write. -/
theorem shadowDestination : Obligations.ShadowDestination := by
  refine fun w p b _ => ⟨fun h => ?_, fun ⟨hw, hn, hx, hclass, hlegal, hb⟩ => ?_⟩
  · unfold kindOf at h
    dsimp only at h
    split_ifs at h with _ _ _ hflags hlegal
    cases h
    obtain ⟨hw, hn, hx, hclass⟩ := hflags
    exact ⟨hw, hn, hx, hclass, hlegal, rfl⟩
  · simp [kindOf, hw, hn, hx, hclass, hlegal, hb]

end Sys2Proof.Proofs
end

section
/-!
Proofs of the family 02_boolean_processor: the results that take effect (O26).
-/
namespace Sys2Proof.Proofs
open Sys2Proof.Machine Sys2Proof.Laws

/-! ### Counters -/

/-- A counter changes its own register, the saturation bits and the pending bits of its event. -/
theorem satAdd_reg {o so b n q : Nat} {ev : Option Nat} (s : State) (ho : q ≠ o) (hso : q ≠ so)
    (hev : ∀ e, ev = some e → q ≠ pendReg e) : (satAdd o so b ev n s).reg q = s.reg q := by
  have hsat : ((s.setReg o 0xFFFFFFFF).setBit so b true).reg q = s.reg q := by
    rw [reg_setBit_other _ _ _ hso, reg_setReg_other _ _ ho]
  unfold satAdd
  dsimp only
  split
  · rfl
  · split
    · exact reg_setReg_other s _ ho
    · split
      · next e => rw [raise_reg _ (hev e rfl), hsat]
      · exact hsat

/-- A counter without an event changes registers alone. -/
theorem satAdd_silent_chg (o so b n : Nat) (s : State) : Chg 2 s (satAdd o so b none n s) := by
  unfold satAdd
  exact .ite (.refl _ _) (.ite (State_setReg_chg ..) (.after (State_setBit_chg ..) (State_setReg_chg ..)))

theorem cluCnt_silent_chg (c k n : Nat) (s : State) : Chg 2 s (cluCnt c k n s) := satAdd_silent_chg ..

theorem cluCnt_regsBut (c k n : Nat) (s : State) :
    RegsBut [cluReg c (0x40 + 4 * k), cluReg c 0x60] s (cluCnt c k n s) := by
  intro q hq
  simp only [List.mem_cons, List.not_mem_nil, or_false, not_or] at hq
  exact satAdd_reg s hq.1 hq.2 (by simp)

/-! ### One place of the clusters -/

theorem changes_clu (s : State) (c : CluSt) : Changes [.clu] s { s with clu := c } :=
  (Chg.upd (m := 512) (.refl _ _)).changes

theorem port_setPort (s : State) (c k : Nat) (p : PortCtx) : (s.setPort c k p).port c k = p := mget_mset_same ..

theorem setPort_other (s : State) {c k j : Nat} (p : PortCtx) (h : j ≠ 8 * c + k) :
    mget (s.setPort c k p).clu.ports {} j = mget s.clu.ports {} j := mget_mset_other _ _ _ _ h

theorem getLsbD_two_pow {w a : Nat} (ha : a < w) (j : Nat) : (BitVec.ofNat w (2 ^ a)).getLsbD j = decide (j = a) := by
  rw [BitVec.getLsbD_ofNat, Nat.testBit_two_pow]
  by_cases h : j = a
  · simp [h, ha]
  · simp [h, Ne.symm h]

theorem getLsbD_set {w a : Nat} (x : BitVec w) (ha : a < w) (j : Nat) :
    (x ||| BitVec.ofNat w (2 ^ a)).getLsbD j = (x.getLsbD j || decide (j = a)) := by
  rw [BitVec.getLsbD_or, getLsbD_two_pow ha]

/-- Bit `a` of a word is replaced, and every other bit stays. -/
theorem getLsbD_replace {w a : Nat} (x : BitVec w) (v : Bool) (ha : a < w) (j : Nat) :
    (if v then x ||| BitVec.ofNat w (2 ^ a) else x &&& ~~~(BitVec.ofNat w (2 ^ a))).getLsbD j =
      if j = a then v else x.getLsbD j := by
  cases v with
  | true =>
    rw [if_pos rfl, getLsbD_set x ha]
    by_cases hj : j = a <;> simp [hj]
  | false =>
    rw [if_neg Bool.false_ne_true, BitVec.getLsbD_and, BitVec.getLsbD_not, getLsbD_two_pow ha]
    by_cases hj : j = a
    · simp [hj]
    · by_cases hw : j < w
      · simp [hj, hw]
      · simp [hj, hw, BitVec.getLsbD_of_ge x j (by omega)]

theorem markMismatch_exec {s : State} {e : Exec} (h : s.sch.exec = some e) :
    (markMismatch s).sch.exec = some { e with mismatch := true, reverify := false } := by
  rw [markMismatch, h]

/-! ### The ISSUEs of a step -/

theorem mem_insBy {α : Type} {le : α → α → Bool} {a b : α} {l : List α} : a ∈ insBy le b l ↔ a = b ∨ a ∈ l := by
  induction l with
  | nil => rw [insBy, List.mem_cons]
  | cons c l ih =>
    unfold insBy
    split
    · rw [List.mem_cons]
    · rw [List.mem_cons, ih, List.mem_cons]
      tauto

theorem mem_sortBy {α : Type} {le : α → α → Bool} {a : α} {l : List α} : a ∈ sortBy le l ↔ a ∈ l := by
  induction l with
  | nil => exact Iff.rfl
  | cons b l ih =>
    rw [List.mem_cons, ← ih]
    exact mem_insBy

theorem sameTarget_issue {a b : Effect} {k op : Nat} (ha : a.kind = .issue k op true) :
    sameTarget a b = true ↔ a.cluster = b.cluster ∧ ∃ op', b.kind = .issue k op' true := by
  unfold sameTarget
  rw [ha]
  cases hb : b.kind with
  | issue c op' r => simp only [Bool.and_eq_true, beq_iff_eq, EffKind.issue.injEq]; grind
  | _ => simp

/-- What an ISSUE of context `k` captures in the state `s` (R71). -/
def captured (e : Effect) (k op : Nat) (s : State) : Access :=
  { cluster := e.cluster, ctx := k, op := op, addr := (s.port e.cluster k).addr, wdata := (s.port e.cluster k).wdata,
    wen := (s.port e.cluster k).wen }

/-- The ISSUEs that proceed are those with result 1 that no higher BP's ISSUE of the same context meets (R76). -/
theorem mem_issueAccesses {a : Access} {l : List Effect} {s : State} : a ∈ issueAccesses l s ↔
    ∃ e k op, e ∈ l ∧ e.kind = .issue k op true ∧ a = captured e k op s ∧
      ∀ o op', o ∈ l → o.cluster = e.cluster → o.kind = .issue k op' true → o.bp ≤ e.bp := by
  have htop : ∀ {e : Effect} {k op : Nat}, e.kind = .issue k op true →
      ((l.all (fun b => !sameTarget e b || b.bp ≤ e.bp)) = true ↔
        ∀ o op', o ∈ l → o.cluster = e.cluster → o.kind = .issue k op' true → o.bp ≤ e.bp) := by
    intro e k op he
    simp only [List.all_eq_true, Bool.or_eq_true, Bool.not_eq_true', decide_eq_true_eq, ← Bool.not_eq_true,
      sameTarget_issue he]
    constructor
    · intro h o op' ho hc hk
      exact (h o ho).resolve_left fun hn => hn ⟨hc.symm, op', hk⟩
    · intro h o ho
      by_cases hs : e.cluster = o.cluster ∧ ∃ op', o.kind = .issue k op' true
      · obtain ⟨hc, op', hk⟩ := hs
        exact .inr (h o op' ho hc.symm hk)
      · exact .inl hs
  simp only [issueAccesses, mem_sortBy, List.mem_filterMap, List.mem_filter]
  constructor
  · rintro ⟨e, ⟨⟨hl, hiss⟩, hall⟩, hacc⟩
    split at hacc
    · next k op r hk =>
      rw [hk] at hiss
      obtain rfl : r = true := hiss
      exact ⟨e, k, op, hl, hk, (Option.some.inj hacc).symm, (htop hk).mp hall⟩
    · cases hacc
  · rintro ⟨e, k, op, hl, hk, ha, hall⟩
    refine ⟨e, ⟨⟨hl, ?_⟩, (htop hk).mpr hall⟩, ?_⟩
    · rw [hk]
    · rw [hk, ha]
      rfl

/-! ### What an ISSUE leaves of its context -/

theorem afterIssue_eq (a : Access) (s : State) : ∃ p, afterIssue a s = cluCnt a.cluster 4 1 (s.setPort a.cluster a.ctx p) ∧
    p.addr = (s.port a.cluster a.ctx).addr ∧ p.wdata = (s.port a.cluster a.ctx).wdata ∧
    p.rdata = (s.port a.cluster a.ctx).rdata ∧ p.wen = (if a.op = 0 then (s.port a.cluster a.ctx).wen else 0) ∧
    p.valid = (!returning a.op && (s.port a.cluster a.ctx).valid) ∧
    p.outst = (returning a.op || (s.port a.cluster a.ctx).outst) := by
  refine ⟨_, rfl, ?_⟩
  cases returning a.op <;> by_cases h : a.op = 0 <;> simp [h]

theorem returning_iff (op : Nat) : returning op = true ↔ op ∈ [0, 2, 3, 0x11] := by
  simp [returning, or_assoc]

theorem cluCnt_port (c k n d i : Nat) (s : State) : (cluCnt c k n s).port d i = s.port d i := by
  rw [State.port, (cluCnt_chg ..).same .clu (by decide), State.port]

/-! ### The results of a step that holds one ISSUE -/

/-- The memory accesses of a clock with one access: it races with none. -/
theorem racePlaces_single (s : State) (a : Access) : racePlaces s [a] = [] := by
  unfold racePlaces
  simp only [List.filter_eq_nil_iff]
  intro b _
  have hlen : ∀ (p q : Access → Bool), (([a].filter p).filter q).length ≤ 1 := fun p q =>
    (List.length_filter_le ..).trans (List.length_filter_le ..)
  have := hlen (fun a => a.changes && (memPlace s a.addr).isSome) (fun c => memPlace s c.addr = memPlace s b.addr)
  simp only [Bool.and_eq_true, decide_eq_true_eq, not_and]
  omega

theorem memGroup_nil (n : Word64) (s : State) : memGroup n [] s = s := rfl

theorem memGroup_read (n : Word64) {a : Access} {s : State} (h : a.op = 0) : memGroup n [a] s = memRead n a s := by
  simp [memGroup, racePlaces_single, forEach, h]

theorem memGroup_write (n : Word64) {a : Access} {s : State} (h : a.op = 1) : memGroup n [a] s = memWrite n a s := by
  simp [memGroup, racePlaces_single, forEach, h]

theorem memGroup_atomic (n : Word64) {a : Access} {s : State} (h : a.op = 2 ∨ a.op = 3) :
    memGroup n [a] s = memAtomic n a s := by
  rcases h with h | h <;> simp [memGroup, racePlaces_single, forEach, h]

/-- The state without the results of slot `slot`, which take effect. -/
def slotTaken (slot : Nat) (s : State) : State :=
  { s with sch := { s.sch with infl := s.sch.infl.filter (fun o => o.slot != slot) } }

theorem issueAccesses_single (e : Effect) {k op : Nat} {r : Bool} (s : State) (hk : e.kind = .issue k op r) :
    issueAccesses [e] s = if r then [captured e k op s] else [] := by
  cases r with
  | true =>
    simp only [issueAccesses, List.filter_cons, hk]
    simp [hk, captured, sortBy, insBy]
  | false => simp [issueAccesses, hk, sortBy]

theorem takeEffects_single {slot k op : Nat} {n : Word64} {e : Effect} {r : Bool} {s : State}
    (hl : s.sch.infl.filter (fun o => o.slot == slot) = [e]) (hk : e.kind = .issue k op r) :
    takeEffects slot n s = forEach ((issueAccesses [e] (slotTaken slot s)).filter (fun a => 4 ≤ a.op))
      (fun a s => dspIssue n a.cluster a.ctx a.op a.addr a.wdata slot s)
      (memGroup n ((issueAccesses [e] (slotTaken slot s)).filter (fun a => a.op < 4))
        (forEach (issueAccesses [e] (slotTaken slot s)) afterIssue (slotTaken slot s))) := by
  have hrace : raceEffects [e] = [] := by simp [raceEffects]
  have hwrite : writeEffect e (slotTaken slot s) = slotTaken slot s := by rw [writeEffect, hk]
  have hsort : sortBy effBefore [e] = [e] := rfl
  unfold takeEffects
  dsimp only
  rw [hl, hsort, hrace]
  show forEach ((issueAccesses [e] (writeEffect e (slotTaken slot s))).filter _) _ (memGroup n
    ((issueAccesses [e] (writeEffect e (slotTaken slot s))).filter _) (forEach (issueAccesses [e]
      (writeEffect e (slotTaken slot s))) afterIssue (writeEffect e (slotTaken slot s)))) = _
  rw [hwrite]

theorem takeEffects_no_issue {slot k op : Nat} {n : Word64} {e : Effect} {s : State}
    (hl : s.sch.infl.filter (fun o => o.slot == slot) = [e]) (hk : e.kind = .issue k op false) :
    takeEffects slot n s = slotTaken slot s := by
  rw [takeEffects_single hl hk, issueAccesses_single e _ hk]
  rfl

theorem takeEffects_issue {slot k op : Nat} {n : Word64} {e : Effect} {s : State}
    (hl : s.sch.infl.filter (fun o => o.slot == slot) = [e]) (hk : e.kind = .issue k op true) :
    takeEffects slot n s =
      if op < 4 then memGroup n [captured e k op s] (afterIssue (captured e k op s) (slotTaken slot s))
      else dspIssue n e.cluster k op (captured e k op s).addr (captured e k op s).wdata slot
        (afterIssue (captured e k op s) (slotTaken slot s)) := by
  have hcap : captured e k op (slotTaken slot s) = captured e k op s := rfl
  rw [takeEffects_single hl hk, issueAccesses_single e _ hk, if_pos rfl, hcap]
  have hop : (captured e k op s).op = op := rfl
  by_cases h : op < 4
  · have h4 : ¬ 4 ≤ op := Nat.not_le.mpr h
    simp [hop, h, h4, forEach]
  · have h4 : 4 ≤ op := Nat.not_lt.mp h
    simp [hop, h, h4, forEach, memGroup_nil]
    rfl

/-- Settles O26: each kind of result by its own write, the ISSUEs by the accesses that a step makes of them. -/
theorem resultsTakeEffect : Obligations.ResultsTakeEffect := by
  refine ⟨fun c bp slot dest n v s => ?cns, fun c bp slot dest b v s => ?shadow, fun c bp slot dest i v s => ?send,
    fun c bp slot dest k a v s ha => ?addrBit, fun c bp slot dest k a v s ha => ?wdataBit,
    fun c bp slot dest i e s he => ?mismatch, fun _ _ _ _ _ _ _ _ => rfl, fun a l s => mem_issueAccesses,
    fun a s => ?context, fun n slot k op e r a s u hl hk hu ha => ?single⟩
  case cns =>
    refine ⟨_, rfl, ?_, ?_, fun j hj => ?_, changes_clu s _⟩ <;> simp only [writeEffect]
    · exact mget_mset_same ..
    · exact mget_mset_same ..
    · exact ⟨mget_mset_other _ _ _ _ hj, mget_mset_other _ _ _ _ hj⟩
  case shadow =>
    refine ⟨_, rfl, ?_, fun j hj => ?_, changes_clu s _⟩ <;> simp only [writeEffect]
    · exact mget_mset_same ..
    · exact mget_mset_other _ _ _ _ hj
  case send =>
    refine ⟨_, rfl, ?_, fun j hj => ?_, changes_clu s _⟩ <;> simp only [writeEffect]
    · exact mget_mset_same ..
    · exact mget_mset_other _ _ _ _ hj
  case addrBit =>
    refine ⟨_, rfl, ?_, fun j hj => ?_, ?_, changes_clu s _⟩ <;> simp only [writeEffect, port_setPort]
    · rw [getLsbD_replace _ _ ha, if_pos rfl]
    · rw [getLsbD_replace _ _ ha, if_neg hj]
  case wdataBit =>
    refine ⟨_, rfl, ?_, ?_, fun j hj => ?_, changes_clu s _⟩ <;> simp only [writeEffect, port_setPort]
    · rw [getLsbD_replace _ _ ha, if_pos rfl]
    · rw [getLsbD_set _ ha, decide_eq_true rfl, Bool.or_true]
    · rw [getLsbD_replace _ _ ha, if_neg hj, getLsbD_set _ ha, decide_eq_false hj, Bool.or_false]
      exact ⟨rfl, rfl⟩
  case mismatch =>
    refine ⟨_, rfl, ?_⟩
    have hexec : (cluCnt c 2 1 s).sch.exec = some e := by rw [(cluCnt_chg ..).same .sch (by decide), he]
    rw [writeEffect, markMismatch_exec hexec]
    rfl
  case context =>
    obtain ⟨p, heq, haddr, hwdata, hrdata, hwen, hvalid, houtst⟩ := afterIssue_eq a s
    have hport : (afterIssue a s).port a.cluster a.ctx = p := by rw [heq, cluCnt_port, port_setPort]
    refine ⟨_, rfl, by rw [hport, haddr], by rw [hport, hwdata], by rw [hport, hrdata], by rw [hport, hwen],
      fun hop => ?_, fun hop => ?_, fun j hj => ?_, ?_, ?_⟩
    · rw [← returning_iff] at hop
      rw [hport, hvalid, houtst, hop]
      exact ⟨rfl, rfl⟩
    · rw [← returning_iff, Bool.not_eq_true] at hop
      rw [hport, hvalid, houtst, hop]
      exact ⟨rfl, rfl⟩
    · rw [heq, (cluCnt_chg ..).same .clu (by decide), setPort_other _ _ hj]
    · rw [heq]
      exact cluCnt_regsBut a.cluster 4 1 (s.setPort a.cluster a.ctx p)
    · rw [heq]
      exact (Chg.after (m := 514) (cluCnt_silent_chg ..) (.upd (.refl _ _))).changes
  case single =>
    subst hu ha
    refine ⟨fun hr => ?_, fun hr hop => ?_, fun hr hop => ?_, fun hr hop => ?_, fun hr hop => ?_⟩ <;> subst hr
    · exact takeEffects_no_issue hl hk
    all_goals rw [takeEffects_issue hl hk]
    · rw [if_pos (by omega), memGroup_read n (by exact hop)]
      rfl
    · rw [if_pos (by omega), memGroup_write n (by exact hop)]
      rfl
    · rw [if_pos (by omega), memGroup_atomic n (by exact hop)]
      rfl
    · rw [if_neg (by omega)]
      rfl

end Sys2Proof.Proofs
end

section
/-!
Proofs of the family 02_boolean_processor: the words of the BPs in their slots (O25).
-/
namespace Sys2Proof.Proofs
open Sys2Proof.Machine Sys2Proof.Laws

/-! ### A cause of a cluster -/

/-- The cause that a cluster reports is set (R77). -/
theorem cluCause_bit (c : Nat) {b : Nat} (kind step index : Nat) (cyc : Word64) (s : State) (hb : b < 32) :
    (cluCause c b kind step index cyc s).bit (cluReg c 4) b = true := by
  unfold cluCause
  dsimp only
  generalize hu : causeSet (cluReg c 4) b _ _ = u
  have hset : u.bit (cluReg c 4) b = true := by rw [← hu]; exact causeSet_bit _ _ hb
  rw [bit_eq] at hset ⊢
  split
  · exact hset
  · exact raise_keeps (s := u) hb hset

/-- Of the stores of the clusters a report changes the notes of causes and captures alone. -/
theorem cluCause_clu (c b kind step index : Nat) (cyc : Word64) (s : State) : ∃ x y z,
    (cluCause c b kind step index cyc s).clu = { s.clu with cause := x, orphan := y, firstPar := z } := by
  have hreport : ∀ (p : Prop) [Decidable p] (u : State), (if p then u else raise (0x100 + c) u).clu = u.clu := fun p _ u => by
    split
    · rfl
    · exact (raise_chg ..).same .clu (by decide)
  unfold cluCause
  dsimp only
  rw [hreport, (causeSet_chg ..).same .clu (by decide)]
  split <;> exact ⟨_, _, _, rfl⟩

theorem cluCause_sch (c b kind step index : Nat) (cyc : Word64) (s : State) :
    (cluCause c b kind step index cyc s).sch = s.sch := (cluCause_chg ..).same .sch (by decide)

/-! ### What a word does when it issues -/

/-- The result of a word that makes one: its effect, but for the truth table's bit. -/
def resultOf (k : WordKind) : Option (Bool → EffKind) :=
  match k with
  | .cnsWrite n => some (.cns n)
  | .shadowWrite b => some (.shadow b)
  | .sendWrite i => some (.send i)
  | .addrBit c a => some (.addrBit c a)
  | .wdataBit c a => some (.wdataBit c a)
  | .issue c op => some (.issue c op)
  | .nop | .verify _ | .illegal => none

section
variable {e : Exec} {c bp slot : Nat} {w : InstrWord} {s : State}

theorem issueWord_badParity (h : wordParityOk w = false) : issueWord e c bp slot w s = cluCause c 0 1 slot bp e.num s := by
  rw [issueWord, h]
  rfl

theorem issueWord_nop (hp : wordParityOk w = true) (hk : kindOf bp w = .nop) : issueWord e c bp slot w s = s := by
  rw [issueWord, hp, hk]
  rfl

theorem issueWord_illegal (hp : wordParityOk w = true) (hk : kindOf bp w = .illegal) :
    issueWord e c bp slot w s = cluCause c 4 5 slot bp e.num s := by
  rw [issueWord, hp, hk]
  rfl

theorem issueWord_verify {i : Nat} (hp : wordParityOk w = true) (hk : kindOf bp w = .verify i) :
    issueWord e c bp slot w s = issueVerify e c bp slot i s := by
  rw [issueWord, hp, hk]
  rfl

theorem issueWord_result {k : Bool → EffKind} (hp : wordParityOk w = true) (hk : resultOf (kindOf bp w) = some k) :
    issueWord e c bp slot w s = pushEffect c bp slot (destOf w)
      (k (evalTT (ttOf w) (readAll e c bp slot (selsOf w) s).1)) (readAll e c bp slot (selsOf w) s).2 := by
  rw [issueWord, hp]
  revert hk
  cases kindOf bp w <;> intro hk <;> cases hk <;> rfl

theorem issueWord_result_infl {k : Bool → EffKind} (hp : wordParityOk w = true) (hk : resultOf (kindOf bp w) = some k) :
    (issueWord e c bp slot w s).sch.infl = s.sch.infl ++ [{
      cluster := c, bp := bp, slot := slot, dest := destOf w
      kind := k (evalTT (ttOf w) (readAll e c bp slot (selsOf w) s).1) }] := by
  rw [issueWord_result hp hk, pushEffect, (readAll_chg ..).same .sch (by decide)]

/-! ### A verify -/

/-- A verify up to its check: it counts, sets VERIFIED, and reports that the slot is verified already (R68). -/
def verifyNoted (e : Exec) (c bp slot i : Nat) (s : State) : State :=
  let k := 4096 * c + i
  let r := (readSel e c bp slot 0 (.inbound i false) s).2
  let cnt := mget r.clu.verifies 0 c + 1
  let t := { r with clu := { r.clu with
    verifies := mset r.clu.verifies 0 c cnt, inVerified := mset r.clu.inVerified false k true } }
  if mget r.clu.inVerified false k && e.cutAt.isNone then cluCause c 7 8 slot cnt e.num t else t

theorem readReal_clu (e : Exec) (c bp slot i : Nat) (s : State) : ∃ x y z,
    (readSel e c bp slot 0 (.inbound i false) s).2.clu = { s.clu with cause := x, orphan := y, firstPar := z } := by
  have heq : (readSel e c bp slot 0 (.inbound i false) s).2 =
      if mget s.clu.inBad false (128 * c + i / 32) then cluCause c 3 4 slot (32 * (i / 32)) e.num s else s := by
    simp [readSel]
  rw [heq]
  split
  · exact cluCause_clu ..
  · exact ⟨_, _, _, rfl⟩

theorem verifyNoted_clu (e : Exec) (c bp slot i : Nat) (s : State) : ∃ x y z,
    (verifyNoted e c bp slot i s).clu = { s.clu with
      verifies := mset s.clu.verifies 0 c (mget s.clu.verifies 0 c + 1)
      inVerified := mset s.clu.inVerified false (4096 * c + i) true
      cause := x, orphan := y, firstPar := z } := by
  obtain ⟨x, y, z, hread⟩ := readReal_clu e c bp slot i s
  unfold verifyNoted
  dsimp only
  split
  · obtain ⟨x', y', z', hcause⟩ := cluCause_clu c 7 8 slot
      (mget (readSel e c bp slot 0 (.inbound i false) s).2.clu.verifies 0 c + 1) e.num
      { (readSel e c bp slot 0 (.inbound i false) s).2 with clu :=
        { (readSel e c bp slot 0 (.inbound i false) s).2.clu with
          verifies := mset (readSel e c bp slot 0 (.inbound i false) s).2.clu.verifies 0 c
            (mget (readSel e c bp slot 0 (.inbound i false) s).2.clu.verifies 0 c + 1)
          inVerified := mset (readSel e c bp slot 0 (.inbound i false) s).2.clu.inVerified false (4096 * c + i) true } }
    rw [hcause, hread]
    exact ⟨_, _, _, rfl⟩
  · rw [hread]
    exact ⟨_, _, _, rfl⟩

theorem verifyNoted_sch (e : Exec) (c bp slot i : Nat) (s : State) : (verifyNoted e c bp slot i s).sch = s.sch := by
  have hread : (readSel e c bp slot 0 (.inbound i false) s).2.sch = s.sch := (readSel_chg ..).same .sch (by decide)
  unfold verifyNoted
  dsimp only
  split
  · rw [cluCause_sch]
    exact hread
  · exact hread

/-- A second verify of a slot is reported, unless the execution is cut (R68, R136). -/
theorem verifyNoted_again {i : Nat} (h : mget s.clu.inVerified false (4096 * c + i) = true) (hcut : e.cutAt = none) :
    (verifyNoted e c bp slot i s).bit (cluReg c 4) 7 = true := by
  obtain ⟨x, y, z, hread⟩ := readReal_clu e c bp slot i s
  unfold verifyNoted
  dsimp only
  rw [if_pos (by rw [hread, hcut]; simpa using h)]
  exact cluCause_bit _ _ _ _ _ _ (by decide)

theorem issueVerify_eq (e : Exec) (c bp slot i : Nat) (s : State) : issueVerify e c bp slot i s =
    if mget s.clu.inUsed false (4096 * c + i) = true ∧
      (readSel e c bp slot 0 (.inbound i false) s).1 ≠ mget s.clu.predVal false (4096 * c + i)
    then pushEffect c bp slot 0xD800 (.mismatch i) (verifyNoted e c bp slot i s) else verifyNoted e c bp slot i s := by
  obtain ⟨x, y, z, hnoted⟩ := verifyNoted_clu e c bp slot i s
  have heq : issueVerify e c bp slot i s =
      if mget (verifyNoted e c bp slot i s).clu.inUsed false (4096 * c + i) = true ∧
        (readSel e c bp slot 0 (.inbound i false) s).1 ≠ mget (verifyNoted e c bp slot i s).clu.predVal false (4096 * c + i)
      then pushEffect c bp slot 0xD800 (.mismatch i) (verifyNoted e c bp slot i s)
      else verifyNoted e c bp slot i s := rfl
  rw [heq, hnoted]

/-- The check of a verify adds a result, and changes nothing else. -/
theorem issueVerify_noted (e : Exec) (c bp slot i : Nat) (s : State) :
    (issueVerify e c bp slot i s).clu = (verifyNoted e c bp slot i s).clu ∧
      (issueVerify e c bp slot i s).regs = (verifyNoted e c bp slot i s).regs := by
  rw [issueVerify_eq]
  split <;> exact ⟨rfl, rfl⟩

theorem issueVerify_infl (e : Exec) (c bp slot i : Nat) (s : State) : (issueVerify e c bp slot i s).sch.infl =
    s.sch.infl ++ if mget s.clu.inUsed false (4096 * c + i) = true ∧
      (readSel e c bp slot 0 (.inbound i false) s).1 ≠ mget s.clu.predVal false (4096 * c + i)
    then [{ cluster := c, bp := bp, slot := slot, dest := 0xD800, kind := .mismatch i }] else [] := by
  rw [issueVerify_eq]
  split
  · rw [pushEffect, verifyNoted_sch]
  · rw [verifyNoted_sch, List.append_nil]

theorem issueVerify_verifies (e : Exec) (c bp slot i : Nat) (s : State) :
    mget (issueVerify e c bp slot i s).clu.verifies 0 c = mget s.clu.verifies 0 c + 1 := by
  obtain ⟨x, y, z, hnoted⟩ := verifyNoted_clu e c bp slot i s
  rw [(issueVerify_noted e c bp slot i s).1, hnoted]
  exact mget_mset_same s.clu.verifies 0 c (mget s.clu.verifies 0 c + 1)

theorem issueVerify_inVerified (e : Exec) (c bp slot i : Nat) (s : State) :
    mget (issueVerify e c bp slot i s).clu.inVerified false (4096 * c + i) = true := by
  obtain ⟨x, y, z, hnoted⟩ := verifyNoted_clu e c bp slot i s
  rw [(issueVerify_noted e c bp slot i s).1, hnoted]
  exact mget_mset_same s.clu.inVerified false _ true

theorem issueVerify_again {i : Nat} (h : mget s.clu.inVerified false (4096 * c + i) = true) (hcut : e.cutAt = none) :
    (issueVerify e c bp slot i s).bit (cluReg c 4) 7 = true := by
  rw [bit_eq, reg_of_regs (issueVerify_noted e c bp slot i s).2, ← bit_eq]
  exact verifyNoted_again h hcut

end

/-! ### The command of a word -/

/-- The BP's word has issued: it issues once in its slot. -/
def wordIssued (c bp : Nat) (s : State) : State :=
  { s with sch := { s.sch with issued := (256 * c + bp) :: s.sch.issued } }

theorem wordIssued_clu (c bp : Nat) (s : State) : (wordIssued c bp s).clu = s.clu := rfl

theorem wordIssued_infl (c bp : Nat) (s : State) : (wordIssued c bp s).sch.infl = s.sch.infl := rfl

theorem wordIssued_bit (c bp : Nat) (s : State) (o i : Nat) : (wordIssued c bp s).bit o i = s.bit o i := rfl

theorem issueWord_issued (e : Exec) (c bp slot : Nat) (w : InstrWord) (s : State) :
    (issueWord e c bp slot w s).sch.issued = s.sch.issued := by
  by_cases hp : wordParityOk w = true
  · cases hk : kindOf bp w with
    | nop => rw [issueWord_nop hp hk]
    | illegal => rw [issueWord_illegal hp hk, cluCause_sch]
    | verify i =>
      rw [issueWord_verify hp hk, issueVerify_eq]
      split
      · rw [pushEffect, verifyNoted_sch]
      · rw [verifyNoted_sch]
    | _ =>
      rw [issueWord_result hp (by rw [hk]; rfl), pushEffect, (readAll_chg ..).same .sch (by decide)]
  · rw [issueWord_badParity (by simpa using hp), cluCause_sch]

theorem issueBp_again {e : Exec} {c bp : Nat} {s : State} (h : s.sch.issued.contains (256 * c + bp) = true) :
    issueBp e c bp s = s := if_pos h

theorem issueBp_first {e : Exec} {c bp : Nat} {s : State} (h : s.sch.issued.contains (256 * c + bp) = false) :
    issueBp e c bp s = wordIssued c bp (issueWord e c bp s.sch.slot (tierWord s c bp s.sch.slot) s) :=
  if_neg (by simp only [h, Bool.false_eq_true, not_false_iff])

/-- The commands by which BPs issue their words, with the kinds of their rows. -/
def wordRows (p : Place) : List (Instr × (WordKind → Bool)) :=
  [(.instrNop p, isNop), (.instrCnsWrite p, isCnsWrite), (.instrShadowWrite p, isShadowWrite),
    (.instrSendSlotWrite p, isSendWrite), (.portAddrbit p, isAddrBit), (.portWdatabit p, isWdataBit),
    (.issueRead p, isIssueOf 0), (.issueWrite p, isIssueOf 1), (.issueAtomicAdd p, isIssueOf 2),
    (.issueAtomicSwap p, isIssueOf 3), (.issueSend p, isIssueOf 0x10), (.issueSendBlocking p, isIssueOf 0x11),
    (.verify p, isVerify)]

theorem exec_word {p : Place} {c : Instr} {kind : WordKind → Bool} {s : State} (h : (c, kind) ∈ wordRows p)
    (hup : s.up = true) : exec c s = .next (issueAt kind p s) := by
  have hrun : exec c s = run (issueAt kind p) s := by
    simp only [wordRows, List.mem_cons, List.not_mem_nil, or_false, Prod.mk.injEq] at h
    rcases h with h | h | h | h | h | h | h | h | h | h | h | h | h <;> obtain ⟨rfl, rfl⟩ := h <;> rfl
  rw [hrun, run_up _ hup]

/-- The place stands in the slots of the image, and the execution issues. -/
def placeOpen (p : Place) (s : State) : Prop :=
  p.cluster.toNat < s.clusters ∧ p.slot.toNat < s.N ∧ s.sch.exec.isSome = true ∧ s.sch.phase = .issue

theorem issueAt_closed {kind : WordKind → Bool} {p : Place} {s : State} (h : ¬ placeOpen p s ∨ p.slot.toNat < s.sch.slot ∨
    fits kind p.bp.toNat (tierWord s p.cluster.toNat p.bp.toNat p.slot.toNat) = false) : issueAt kind p s = s := by
  unfold issueAt
  refine if_pos ?_
  rcases h with h | h | h
  · simp only [placeOpen, not_and_or, Nat.not_lt, Bool.not_eq_true, Option.isSome_eq_false_iff] at h
    rcases h with h | h | h | h
    · exact .inl h
    · exact .inr (.inl h)
    · exact .inr (.inr (.inl h))
    · exact .inr (.inr (.inr (.inl h)))
  · exact .inr (.inr (.inr (.inr (.inl h))))
  · exact .inr (.inr (.inr (.inr (.inr (by simp [h])))))

theorem issueAt_open {kind : WordKind → Bool} {p : Place} {s : State} (h : placeOpen p s) (hslot : s.sch.slot ≤ p.slot.toNat)
    (hfits : fits kind p.bp.toNat (tierWord s p.cluster.toNat p.bp.toNat p.slot.toNat) = true) : issueAt kind p s =
      match slotIssues p.slot.toNat s with
      | some (e, u) => issueBp e p.cluster.toNat p.bp.toNat u
      | none => s := by
  obtain ⟨hc, hn, hexec, hphase⟩ := h
  unfold issueAt
  refine if_neg ?_
  simp only [hphase, hfits, Option.isNone_eq_false_iff.mpr hexec]
  simp
  omega

/-! ### Clocks until a condition -/

theorem clocksUntil_now {fuel : Nat} {stop : State → Bool} {s : State} (h : stop s = true) :
    clocksUntil fuel stop s = some s := by
  unfold clocksUntil
  exact if_pos h

theorem slotIssues_now {k : Nat} {e : Exec} {s : State} (he : s.sch.exec = some e) (hk : s.sch.slot = k)
    (hover : issueOver s e = false) (htree : treeOut s = 0) (hhead : headBlocked s e.ns = false) :
    slotIssues k s = some (e, s) := by
  have hreached : slotReached k s = true := by simp [slotReached, hk]
  have hfree : slotFree s = true := by simp [slotFree, he, htree, hhead]
  rw [slotIssues, clocksUntil_now hreached]
  simp [clocksUntil_now hfree, he, hover]

/-- Settles O25: the command of a row is `issueAt`, which issues the word by the lemma of its kind. -/
theorem wordsOfBooleanProcessorsIssue : Obligations.WordsOfBooleanProcessorsIssue := by
  refine ⟨fun p c kind w e s u hrow hup hc hn hexec hphase hw =>
      ⟨fun hslot hfits hissues hus huw => ⟨fun hagain => ?again, fun hfirst => ?first⟩, fun hnot => ?passed⟩,
    fun p c s hrow hup hclosed => ?closed, fun k e s he hk hover htree hhead => slotIssues_now he hk hover htree hhead⟩
  case again =>
    rw [exec_word hrow hup, issueAt_open ⟨hc, hn, hexec, hphase⟩ hslot (hw ▸ hfits), hissues]
    exact congrArg _ (issueBp_again hagain)
  case first =>
    have hstep : exec c s = .next (wordIssued p.cluster.toNat p.bp.toNat
        (issueWord e p.cluster.toNat p.bp.toNat p.slot.toNat w u)) := by
      rw [exec_word hrow hup, issueAt_open ⟨hc, hn, hexec, hphase⟩ hslot (hw ▸ hfits), hissues]
      exact congrArg _ ((issueBp_first hfirst).trans (by rw [hus, huw]))
    refine ⟨_, hstep, ?_, ?_, fun hp _ => ⟨_, rfl, ?_, fun i hk => ?_, fun hk => ?_⟩, fun hp => ?_, fun hp hk => ?_⟩
    · exact congrArg _ (issueWord_issued ..)
    · exact (Chg.upd (m := 1682) (issueWord_chg ..)).changes
    · rw [wordIssued_infl]
      cases hk : kindOf p.bp.toNat w with
      | nop => rw [issueWord_nop hp hk]; simp
      | illegal => rw [issueWord_illegal hp hk, cluCause_sch]; simp
      | verify i =>
        rw [issueWord_verify hp hk, issueVerify_infl]
        dsimp only
        split <;> rfl
      | _ =>
        have hr := congrArg resultOf hk
        rw [issueWord_result_infl hp hr]
        rfl
    · rw [wordIssued_clu, wordIssued_bit, issueWord_verify hp hk]
      exact ⟨issueVerify_verifies .., issueVerify_inVerified .., issueVerify_again⟩
    · rw [issueWord_nop hp hk]
      rfl
    · rw [wordIssued_infl, wordIssued_bit, issueWord_badParity hp, cluCause_sch]
      exact ⟨rfl, cluCause_bit _ _ _ _ _ _ (by decide)⟩
    · rw [wordIssued_infl, wordIssued_bit, issueWord_illegal hp hk, cluCause_sch]
      exact ⟨rfl, cluCause_bit _ _ _ _ _ _ (by decide)⟩
  case passed =>
    rw [exec_word hrow hup]
    by_cases hshut : p.slot.toNat < s.sch.slot ∨ fits kind p.bp.toNat w = false
    · rw [issueAt_closed (.inr (hw ▸ hshut))]
    · simp only [not_or, Nat.not_lt, Bool.not_eq_false] at hshut
      rw [issueAt_open ⟨hc, hn, hexec, hphase⟩ hshut.1 (hw ▸ hshut.2)]
      rcases hnot with h | h | h
      · omega
      · simp [hshut.2] at h
      · rw [h]
  case closed =>
    obtain ⟨⟨c, kind⟩, hmem, rfl⟩ := List.mem_map.mp (show c ∈ (wordRows p).map (fun r => r.1) from hrow)
    have hshut : ¬ placeOpen p s := by
      rintro ⟨hc, hn, hexec, hphase⟩
      rcases hclosed with h | h | h | h
      · omega
      · omega
      · simp [h] at hexec
      · exact h hphase
    rw [exec_word hmem hup, issueAt_closed (.inl hshut)]

end Sys2Proof.Proofs
end

section
/-!
Proofs of the family 02_boolean_processor: the start of a cycle (O24).
-/
namespace Sys2Proof.Proofs
open Sys2Proof.Machine Sys2Proof.Laws

/-! ### Which registers a state transformer changes -/

theorem regsBut_refl (l : List Nat) (s : State) : RegsBut l s s := fun _ _ => rfl

theorem regsBut_trans {l : List Nat} {s r t : State} (h : RegsBut l s r) (k : RegsBut l r t) : RegsBut l s t :=
  fun o ho => (k o ho).trans (h o ho)

theorem regsBut_mono {l m : List Nat} {s t : State} (h : RegsBut l s t) (hl : l ⊆ m) : RegsBut m s t :=
  fun o ho => h o fun hm => ho (hl hm)

theorem regsBut_of_regs (l : List Nat) {s t : State} (h : t.regs = s.regs) : RegsBut l s t := fun o _ => reg_of_regs h o

theorem regsBut_setReg (s : State) (o : Nat) (v : Word32) : RegsBut [o] s (s.setReg o v) :=
  fun q hq => reg_setReg_other s v (by simpa using hq)

theorem regsBut_setReg64 (s : State) (o : Nat) (v : Word64) : RegsBut [o, o + 4] s (s.setReg64 o v) :=
  regsBut_trans (regsBut_mono (regsBut_setReg s o _) (by simp)) (regsBut_mono (regsBut_setReg _ (o + 4) _) (by simp))

theorem regsBut_raise (e : Nat) (s : State) : RegsBut [pendReg e] s (raise e s) :=
  fun q hq => raise_reg s (by simpa using hq)

/-- SCH_SPC_k counts in its two registers, and at its maximum in SCH_SPC_SAT and its event (R150). -/
theorem spcAdd_regsBut (k n : Nat) (s : State) :
    RegsBut [Reg.SCH_SPC + 8 * k, Reg.SCH_SPC + 8 * k + 4, Reg.SCH_SPC_SAT, pendReg 0x096] s (spcAdd k n s) := by
  have hcount : ∀ v, RegsBut [Reg.SCH_SPC + 8 * k, Reg.SCH_SPC + 8 * k + 4, Reg.SCH_SPC_SAT, pendReg 0x096] s
      (s.setReg64 (Reg.SCH_SPC + 8 * k) v) := fun v => regsBut_mono (regsBut_setReg64 s _ v) (by simp)
  unfold spcAdd satAdd64
  dsimp only
  split
  · exact regsBut_refl _ _
  · split
    · exact hcount _
    · exact regsBut_trans (regsBut_trans (hcount _) (regsBut_mono (regsBut_setReg _ Reg.SCH_SPC_SAT _) (by simp)))
        (regsBut_mono (regsBut_raise 0x096 _) (by simp))

/-! ### STATE while an execution runs -/

/-- While an execution runs only STATE is settled; RUNNING unless an apply or a checkpoint copy says otherwise (R102). -/
theorem schSettle_busy {s : State} (h : s.sch.exec.isSome = true) :
    ∃ x, schSettle s = { s with sch := { s.sch with st := x } } ∧
      (s.sch.st ≠ .idle → s.sch.st ≠ .faultStop → s.sch.st ≠ .rewind → s.sch.applyFrozen = false →
        s.sch.ckptCopy.isNone = true → x = .running) := by
  have hrun : (s.paused && s.sch.exec.isNone) = false := by
    rw [Option.isNone_eq_false_iff.mpr h, Bool.and_false]
  unfold schSettle
  dsimp only
  rw [hrun]
  split
  · next hst => exact ⟨s.sch.st, rfl, fun h _ => absurd hst h⟩
  · next hst => exact ⟨s.sch.st, rfl, fun _ h => absurd hst h⟩
  · next hst => exact ⟨s.sch.st, rfl, fun _ _ h => absurd hst h⟩
  · split
    · next hf => exact ⟨.frozen, rfl, fun _ _ _ hn => by simp [hn] at hf⟩
    · split
      · next hc => exact ⟨.ckpt, rfl, fun _ _ _ _ hn => by simp [Option.isNone_iff_eq_none.mp hn] at hc⟩
      · exact ⟨.running, rfl, fun _ _ _ _ _ => rfl⟩

/-! ### SCH_RUN_COUNT -/

theorem countRun_zero {s : State} (h : s.reg Reg.SCH_RUN_COUNT = 0) : countRun s = s := by
  simp [countRun, h]

theorem countRun_counts {s : State} (h : s.reg Reg.SCH_RUN_COUNT ≠ 0) : countRun s =
    if s.reg Reg.SCH_RUN_COUNT = 1 then setPause (s.setReg Reg.SCH_RUN_COUNT (s.reg Reg.SCH_RUN_COUNT - 1))
    else s.setReg Reg.SCH_RUN_COUNT (s.reg Reg.SCH_RUN_COUNT - 1) := by
  unfold countRun
  generalize s.reg Reg.SCH_RUN_COUNT = x at h
  have h0 : x.toNat ≠ 0 := fun hx => h (BitVec.eq_of_toNat_eq hx)
  have hsub : BitVec.ofNat 32 (x.toNat - 1) = x - 1 := by bv_omega
  have hone : x.toNat = 1 ↔ x = 1 := ⟨fun hx => BitVec.eq_of_toNat_eq hx, fun hx => by rw [hx]; rfl⟩
  dsimp only
  rw [if_neg h0, hsub]
  simp only [hone]

theorem setPause_reg (s : State) {o : Nat} (h : o ≠ Reg.SCH_CTRL) : (setPause s).reg o = s.reg o :=
  reg_setBit_other s _ _ h

theorem setPause_paused (s : State) : (setPause s).paused = true := bit_setBit_same s true (by decide)

theorem countRun_reg (s : State) : (countRun s).reg Reg.SCH_RUN_COUNT =
    if s.reg Reg.SCH_RUN_COUNT = 0 then 0 else s.reg Reg.SCH_RUN_COUNT - 1 := by
  by_cases h : s.reg Reg.SCH_RUN_COUNT = 0
  · rw [countRun_zero h, if_pos h, h]
  · rw [countRun_counts h, if_neg h]
    split
    · rw [setPause_reg _ (by decide), reg_setReg_same]
    · exact reg_setReg_same ..

theorem countRun_paused {s : State} (h : s.reg Reg.SCH_RUN_COUNT = 1) : (countRun s).paused = true := by
  rw [countRun_counts (by rw [h]; decide), if_pos h]
  exact setPause_paused _

theorem countRun_regsBut (s : State) : RegsBut [Reg.SCH_RUN_COUNT, Reg.SCH_CTRL] s (countRun s) := by
  have hset : RegsBut [Reg.SCH_RUN_COUNT, Reg.SCH_CTRL] s
      (s.setReg Reg.SCH_RUN_COUNT (s.reg Reg.SCH_RUN_COUNT - 1)) := regsBut_mono (regsBut_setReg _ _ _) (by simp)
  by_cases h : s.reg Reg.SCH_RUN_COUNT = 0
  · rw [countRun_zero h]
    exact regsBut_refl _ _
  · rw [countRun_counts h]
    split
    · exact regsBut_trans hset fun o ho => setPause_reg _ fun he => ho (by simp [he])
    · exact hset

/-! ### Step 0 -/

/-- The next number counts, if it is new. -/
def numbered (s : State) : State :=
  if isReexec s then s else countRun { s with sch := { s.sch with highest := nextNum s } }

/-- The execution that begins. -/
def firstExec (s : State) : Exec :=
  { num := nextNum s, ns := nextNs s, copy := freeCopy s, sole := s.dsp.exhaust.isSome, serial := s.sch.execNo + 1,
    startClk := s.clock }

/-- SCH_CYCLE reads the number, and the ramp of a long hold has begun. -/
def cycleNamed (s : State) : State := rampStart ((numbered s).setReg64 Reg.SCH_CYCLE (nextNum s))

/-- The execution stands in front of slot 0. -/
def begun (s : State) : State :=
  let r := cycleNamed s
  { r with
    clu := { r.clu with predVal := fixPredictors r }
    mem := { r.mem with allFour := if r.mem.overflow.isSome then some (nextNum s) else r.mem.allFour }
    sch := { r.sch with
      exec := some { num := nextNum s, ns := nextNs s, copy := freeCopy r, sole := r.dsp.exhaust.isSome,
                     serial := r.sch.execNo + 1, startClk := r.clock }
      execNo := r.sch.execNo + 1, phase := .issue, slot := 0, issued := [], opened := none, holdRun := 0
      holdRaised := false } }

/-- The execution has begun and counts (R150). -/
def begunCounted (s : State) : State :=
  if nextNs s then spcAdd 13 1 (spcAdd 3 1 (begun s)) else spcAdd 3 1 (begun s)

theorem beginCycle_eq (s : State) : beginCycle s = schSettle (begunCounted s) := rfl

theorem numbered_same (s : State) (p : Part) (hp : p ∉ [Part.regs, .sch] := by decide) : p.same s (numbered s) := by
  have hchg : Changes [.regs, .sch] s (numbered s) := by
    unfold numbered
    split
    · exact (Chg.refl 1026 s).changes
    · exact (Chg.after (m := 1026) (countRun_chg _) (.upd (.refl _ _))).changes
  exact hchg p hp

theorem numbered_sch (s : State) :
    (numbered s).sch = { s.sch with highest := if isReexec s then s.sch.highest else nextNum s } := by
  unfold numbered
  split
  · rfl
  · rw [(countRun_chg _).same .sch (by decide)]

theorem rampStart_sch (s : State) : ∃ a l, (rampStart s).sch = { s.sch with thrAcc := a, thrLevel := l } := by
  unfold rampStart rampZero throttleSeen
  split
  · split
    · exact ⟨_, _, rfl⟩
    · exact ⟨_, _, rfl⟩
  · exact ⟨_, _, rfl⟩

theorem rampStart_longHold (s : State) : (rampStart s).pwr.longHold = false := by
  unfold rampStart rampZero throttleSeen
  split
  · split <;> rfl
  · next h => simpa using h

theorem cycleNamed_same (s : State) (p : Part) (hp : p ∉ [Part.regs, .sch, .pwr] := by decide) :
    p.same s (cycleNamed s) := by
  have hramp : Changes [.regs, .sch, .pwr] (numbered s) (cycleNamed s) :=
    (Chg.after (m := 33555458) (rampStart_chg _) (.after (State_setReg64_chg ..) (.refl _ _))).changes
  have h1 := hramp p hp
  have h2 := numbered_same s p (by revert hp; cases p <;> decide)
  cases p <;> exact Eq.trans h1 h2

theorem cycleNamed_sch (s : State) : ∃ a l, (cycleNamed s).sch =
    { s.sch with highest := if isReexec s then s.sch.highest else nextNum s, thrAcc := a, thrLevel := l } := by
  obtain ⟨a, l, h⟩ := rampStart_sch ((numbered s).setReg64 Reg.SCH_CYCLE (nextNum s))
  refine ⟨a, l, ?_⟩
  rw [cycleNamed, h, setReg64_sch, numbered_sch]

theorem cycleNamed_regs (s : State) :
    (cycleNamed s).regs = ((numbered s).setReg64 Reg.SCH_CYCLE (nextNum s)).regs := (rampStart_chg _).same .regs (by decide)

theorem freeCopy_congr {s t : State} (hcom : t.sch.comCopy = s.sch.comCopy) (hcyc : t.sch.cycles = s.sch.cycles) :
    freeCopy t = freeCopy s := by rw [freeCopy, hcom, hcyc, freeCopy]

theorem fixPredictors_congr {s t : State} (h : t.clu = s.clu) : fixPredictors t = fixPredictors s := by
  rw [fixPredictors, h, fixPredictors]

theorem begun_predVal (s : State) : (begun s).clu.predVal = fixPredictors s :=
  fixPredictors_congr (cycleNamed_same s .clu)

theorem begun_sch (s : State) : ∃ a l, (begun s).sch = { s.sch with
    highest := if isReexec s then s.sch.highest else nextNum s, thrAcc := a, thrLevel := l
    exec := some (firstExec s), execNo := s.sch.execNo + 1, phase := .issue, slot := 0, issued := [], opened := none
    holdRun := 0, holdRaised := false } := by
  obtain ⟨a, l, h⟩ := cycleNamed_sch s
  have hcopy : freeCopy (cycleNamed s) = freeCopy s := freeCopy_congr (by rw [h]) (by rw [h])
  have hdsp : (cycleNamed s).dsp = s.dsp := cycleNamed_same s .dsp
  have hclock : (cycleNamed s).clock = s.clock := cycleNamed_same s .clock
  refine ⟨a, l, ?_⟩
  unfold begun
  dsimp only
  rw [hcopy, hdsp, hclock, h]
  rfl

theorem begunCounted_same (s : State) (p : Part) (hp : p ∉ [Part.regs, .out, .host] := by decide) :
    p.same (begun s) (begunCounted s) := by
  have hchg : Chg 146 (begun s) (begunCounted s) :=
    .ite (.after (spcAdd_chg ..) (spcAdd_chg ..)) (spcAdd_chg ..)
  exact hchg.changes (l := [.regs, .out, .host]) (by decide) p hp

/-- The registers that the counts of an execution that begins may change. -/
def beginSpcRegs : List Nat :=
  [Reg.SCH_SPC + 24, Reg.SCH_SPC + 28, Reg.SCH_SPC + 104, Reg.SCH_SPC + 108, Reg.SCH_SPC_SAT, pendReg 0x096]

theorem begunCounted_regsBut (s : State) : RegsBut beginSpcRegs (begun s) (begunCounted s) := by
  have hthree : RegsBut beginSpcRegs (begun s) (spcAdd 3 1 (begun s)) :=
    regsBut_mono (spcAdd_regsBut 3 1 _) (by decide)
  unfold begunCounted
  split
  · exact regsBut_trans hthree (regsBut_mono (spcAdd_regsBut 13 1 _) (by decide))
  · exact hthree

/-- Between the number's count and the start only SCH_CYCLE and the counts of R150 change registers. -/
theorem begunCounted_reg (s : State) {o : Nat} (hc : o ≠ Reg.SCH_CYCLE) (hc' : o ≠ Reg.SCH_CYCLE + 4)
    (ho : o ∉ beginSpcRegs) : (begunCounted s).reg o = (numbered s).reg o := by
  have hset := regsBut_setReg64 (numbered s) Reg.SCH_CYCLE (nextNum s) o (by simp [hc, hc'])
  rw [begunCounted_regsBut s o ho, ← hset]
  exact reg_of_regs (cycleNamed_regs s) o

theorem begunCounted_cycle (s : State) : (begunCounted s).reg64 Reg.SCH_CYCLE = nextNum s := by
  have hregs : ∀ o, (begun s).reg o = ((numbered s).setReg64 Reg.SCH_CYCLE (nextNum s)).reg o :=
    reg_of_regs (cycleNamed_regs s)
  rw [State.reg64, begunCounted_regsBut s _ (by decide), begunCounted_regsBut s _ (by decide), hregs, hregs, ← State.reg64,
    reg64_setReg64]

theorem numbered_regsBut (s : State) : RegsBut [Reg.SCH_RUN_COUNT, Reg.SCH_CTRL] s (numbered s) := by
  unfold numbered
  split
  · exact regsBut_refl _ _
  · exact countRun_regsBut _

/-- What begins is in the state with STATE settled. -/
theorem beginCycle_settled (s : State) : ∃ x, beginCycle s =
    { begunCounted s with sch := { (begunCounted s).sch with st := x } } ∧
      (startOpen s = true → s.sch.applyFrozen = false → x = .running) := by
  obtain ⟨a, l, hsch⟩ := begun_sch s
  have hcount : (begunCounted s).sch = (begun s).sch := begunCounted_same s .sch
  obtain ⟨x, hx, hrun⟩ := schSettle_busy (s := begunCounted s) (by rw [hcount, hsch]; rfl)
  refine ⟨x, (beginCycle_eq s).trans hx, fun hopen hfrozen => ?_⟩
  simp only [startOpen, controlOpen, Bool.and_eq_true, bne_iff_ne, Bool.not_eq_true', beq_eq_false_iff_ne] at hopen
  rw [hcount, hsch] at hrun
  apply hrun <;> tauto

theorem beginCycle_sch (s : State) : ∃ a l x, (beginCycle s).sch = { s.sch with
      highest := if isReexec s then s.sch.highest else nextNum s, thrAcc := a, thrLevel := l
      exec := some (firstExec s), execNo := s.sch.execNo + 1, phase := .issue, slot := 0, issued := [], opened := none
      holdRun := 0, holdRaised := false, st := x } ∧
    (startOpen s = true → s.sch.applyFrozen = false → x = .running) := by
  obtain ⟨a, l, hsch⟩ := begun_sch s
  obtain ⟨x, hx, hrun⟩ := beginCycle_settled s
  have hcount : (begunCounted s).sch = (begun s).sch := begunCounted_same s .sch
  exact ⟨a, l, x, by rw [hx, hcount, hsch], hrun⟩

theorem beginCycle_regs (s : State) : (beginCycle s).regs = (begunCounted s).regs := by
  obtain ⟨x, hx, -⟩ := beginCycle_settled s
  rw [hx]

theorem beginCycle_reg64 (s : State) : (beginCycle s).reg64 Reg.SCH_CYCLE = nextNum s := by
  rw [State.reg64, reg_of_regs (beginCycle_regs s), reg_of_regs (beginCycle_regs s), ← State.reg64, begunCounted_cycle]

theorem beginCycle_reg (s : State) {o : Nat} (hc : o ≠ Reg.SCH_CYCLE) (hc' : o ≠ Reg.SCH_CYCLE + 4)
    (ho : o ∉ beginSpcRegs) : (beginCycle s).reg o = (numbered s).reg o := by
  rw [reg_of_regs (beginCycle_regs s), begunCounted_reg s hc hc' ho]

theorem beginCycle_longHold (s : State) : (beginCycle s).pwr.longHold = false := by
  obtain ⟨x, hx, -⟩ := beginCycle_settled s
  have hpwr : (begunCounted s).pwr = (begun s).pwr := begunCounted_same s .pwr
  rw [hx]
  show (begunCounted s).pwr.longHold = false
  rw [hpwr]
  exact rampStart_longHold _

theorem beginCycle_predVal (s : State) : (beginCycle s).clu.predVal = fixPredictors s := by
  obtain ⟨x, hx, -⟩ := beginCycle_settled s
  have hclu : (begunCounted s).clu = (begun s).clu := begunCounted_same s .clu
  rw [hx, ← begun_predVal]
  exact congrArg CluSt.predVal hclu

/-! ### The waits of the start point -/

theorem startCycle_begins {s u : State} (hopen : startOpen (reopen s) = true)
    (hwait : (throttleEnd (reopen s)).bind lfcWait = some u) (hv : startOpen (reopen u) = true)
    (htree : treeOut (reopen u) = 0) : startCycle s = beginCycle (reopen u) := by
  simp [startCycle, hopen, hwait, hv, htree]

theorem startCycle_shut {s u : State} (hwait : (throttleEnd (reopen s)).bind lfcWait = some u)
    (h : startOpen (reopen u) = false ∨ treeOut (reopen u) ≠ 0) : startCycle s = s := by
  unfold startCycle
  dsimp only
  rw [hwait]
  split
  · rfl
  · refine if_neg ?_
    rcases h with h | h
    · simp [h]
    · simpa using fun _ => h

theorem startCycle_waits {s : State} (h : startOpen (reopen s) = false ∨ (throttleEnd (reopen s)).bind lfcWait = none) :
    startCycle s = s := by
  unfold startCycle
  dsimp only
  rcases h with h | h
  · simp [h]
  · rw [h]
    split <;> rfl

theorem reopen_opened {s : State} (h : s.sch.opened = some (nextNum s)) : reopen s = s := by
  simp [reopen, h]

theorem throttleEnd_free {s : State} (h : startFree s = true) : throttleEnd s = some s := by
  have hleft : throttleLeft s = 0 := by
    simp only [startFree, Bool.and_eq_true, beq_iff_eq] at h
    exact h.1
  rw [throttleEnd, clocksUntil_now (by simp [h])]
  simp [hleft]

theorem exec_cycleStart {s : State} (hup : s.up = true) : exec .cycleStart s = .next (startCycle s) := run_up _ hup

/-- Settles O24: past its waits the command is `beginCycle`, whose last change of STATE leaves what step 0 has set. -/
theorem cycleBegins : Obligations.CycleBegins := by
  refine ⟨fun s u v hup hopen hwait hv => ?_, fun s hopened hfree hlfc => ?_, fun s hup h => ?_⟩
  · subst hv
    refine ⟨fun hstart htree => ?begins, fun h => ?shut⟩
    case shut => rw [exec_cycleStart hup, startCycle_shut hwait h]
    generalize hv : reopen u = v at *
    obtain ⟨a, l, x, hsch, hrun⟩ := beginCycle_sch v
    have hcount : (beginCycle v).reg Reg.SCH_RUN_COUNT = (numbered v).reg Reg.SCH_RUN_COUNT :=
      beginCycle_reg v (by decide) (by decide) (by decide)
    have hctrl : (beginCycle v).reg Reg.SCH_CTRL = (numbered v).reg Reg.SCH_CTRL :=
      beginCycle_reg v (by decide) (by decide) (by decide)
    refine ⟨beginCycle v, ?_, ?_, ?_, ?_, ⟨firstExec v, ?_⟩, ?_, beginCycle_reg64 v, beginCycle_predVal v,
      beginCycle_longHold v, fun hfrozen => ?_, fun hre => ?_, fun hre hpos => ⟨?_, fun hone => ?_⟩, fun hre hzero => ?_,
      ?_, (beginCycle_chg v).changes⟩
    · rw [exec_cycleStart hup, startCycle_begins (u := u) hopen hwait (by rw [hv, hstart]) (by rw [hv, htree]), hv]
    · rw [hsch]
    · rw [hsch]
    · rw [hsch]
    · rw [hsch]
      exact ⟨rfl, rfl, rfl, rfl, rfl, rfl, rfl, rfl, rfl, rfl, rfl⟩
    · rw [hsch]
    · rw [hsch]
      exact hrun hstart hfrozen
    · rw [hcount, numbered, if_pos hre]
    · rw [hcount, numbered, if_neg (by simp [hre]), countRun_reg]
      exact if_neg hpos
    · rw [State.paused, bit_eq, hctrl, numbered, if_neg (by simp [hre]), ← bit_eq]
      exact countRun_paused hone
    · rw [hcount, numbered, if_neg (by simp [hre]), countRun_reg]
      exact if_pos hzero
    · intro o ho
      simp only [List.mem_cons, List.not_mem_nil, or_false, not_or] at ho
      obtain ⟨hc, hc', hrc, hct, hspc⟩ := ho
      rw [beginCycle_reg v hc hc' (by simpa [beginSpcRegs] using hspc), numbered_regsBut v o (by simp [hrc, hct])]
  · rw [reopen_opened hopened, throttleEnd_free hfree]
    exact ⟨rfl, by simp [lfcWait, hlfc]⟩
  · rw [exec_cycleStart hup, startCycle_waits h]

end Sys2Proof.Proofs
end

section
/-!
Proofs of the family 02_boolean_processor: the boundary of a cycle (O27).
-/
namespace Sys2Proof.Proofs
open Sys2Proof.Machine Sys2Proof.Laws

/-! ### Stores -/

section
variable {α : Type}

theorem mget_absent {m : SMap α} {k : Nat} (d : α) (h : ∀ p ∈ m, p.1 ≠ k) : mget m d k = d := by
  induction m with
  | nil => rfl
  | cons p t ih =>
    rw [mget, if_neg (h p List.mem_cons_self), ih fun q hq => h q (List.mem_cons_of_mem _ hq)]

theorem mget_append_left {a : SMap α} (b : SMap α) (d : α) {k : Nat} (h : ∀ p ∈ a, p.1 ≠ k) :
    mget (a ++ b) d k = mget b d k := by
  induction a with
  | nil => rfl
  | cons p t ih =>
    rw [List.cons_append, mget, if_neg (h p List.mem_cons_self), ih fun q hq => h q (List.mem_cons_of_mem _ hq)]

theorem mget_append_right (a : SMap α) {b : SMap α} (d : α) {k : Nat} (h : ∀ p ∈ b, p.1 ≠ k) :
    mget (a ++ b) d k = mget a d k := by
  induction a with
  | nil => exact mget_absent d h
  | cons p t ih => rw [List.cons_append, mget, ih, mget]

/-- A store whose keys are moved by `f`, of which only `j` comes to `k`. -/
theorem mget_map_key {m : SMap α} {f : Nat → Nat} (d : α) {j k : Nat} (h : ∀ p ∈ m, f p.1 = k ↔ p.1 = j) :
    mget (m.map (fun p => (f p.1, p.2))) d k = mget m d j := by
  induction m with
  | nil => rfl
  | cons p t ih =>
    rw [List.map_cons, mget, mget, ih fun q hq => h q (List.mem_cons_of_mem _ hq)]
    simp only [h p List.mem_cons_self]

variable [DecidableEq α]

/-- A store written from a function of its keys. -/
theorem mget_msetAll_map (ks : List Nat) (g : Nat → α) (m : SMap α) (d : α) (k : Nat) :
    mget (msetAll m d (ks.map (fun k => (k, g k)))) d k = if k ∈ ks then g k else mget m d k := by
  unfold msetAll
  induction ks generalizing m with
  | nil => rfl
  | cons j ks ih =>
    rw [List.map_cons, List.foldl_cons, ih]
    by_cases hk : k ∈ ks
    · simp [hk]
    · by_cases hj : k = j
      · simp [hj]
      · simp [hk, hj, mget_mset_other m d d (g j) hj]

end

theorem mget_of_not_mem {m : SMap Bool} {k : Nat} (h : k ∉ m.map (fun p => p.1)) : mget m false k = false := by
  by_contra hne
  exact h (mem_keys_of_mget (by simpa using hne))

/-! ### LAST -/

/-- What LAST of a slot takes (R64). -/
def lastValue (s : State) (k : Nat) : Bool :=
  if mget s.clu.inValid false k then mget s.clu.inVal false k else mget s.clu.predVal false k

theorem updateLast_predLast (s : State) (k : Nat) : mget (updateLast s).clu.predLast false k = lastValue s k := by
  refine (mget_msetAll_map _ (lastValue s) [] false k).trans ?_
  split
  · rfl
  · next h =>
    simp only [List.mem_append, not_or] at h
    obtain ⟨⟨hvalid, hpred⟩, -⟩ := h
    rw [lastValue, mget_of_not_mem hvalid, mget_of_not_mem hpred]
    rfl

/-! ### The target copy -/

/-- Copy `tgt` reads as copy `src` did. -/
theorem mget_copyInto_target {w src tgt i : Nat} (m : SMap Bool) (hi : i < w) :
    mget (copyInto w src tgt m) false (w * tgt + i) = mget m false (w * src + i) := by
  have hw : 0 < w := by omega
  have hbelow : ∀ p ∈ m.filter (fun p => p.1 < w * tgt), p.1 ≠ w * tgt + i := fun p hp => by
    have := (List.mem_filter.mp hp).2
    simp only [decide_eq_true_eq] at this
    omega
  have habove : ∀ p ∈ m.filter (fun p => w * (tgt + 1) ≤ p.1), p.1 ≠ w * tgt + i := fun p hp => by
    have := (List.mem_filter.mp hp).2
    simp only [decide_eq_true_eq, Nat.mul_succ] at this
    omega
  have hmoved : ∀ p ∈ m.filter (fun p => p.1 / w == src), p.1 % w + w * tgt = w * tgt + i ↔ p.1 = w * src + i :=
    fun p hp => by
      have hsrc : p.1 / w = src := by simpa using (List.mem_filter.mp hp).2
      have hdiv := Nat.div_add_mod p.1 w
      rw [hsrc] at hdiv
      omega
  rw [copyInto, mget_append_right _ _ habove, mget_append_left _ _ hbelow,
    mget_map_key (f := fun k => k % w + w * tgt) _ hmoved]
  refine (mget_filter_key m false (fun k => k / w == src) _).trans (if_pos ?_)
  rw [Nat.mul_add_div hw, Nat.div_eq_of_lt hi]
  simp

/-- The other copies stay. -/
theorem mget_copyInto_other {w src tgt j : Nat} (m : SMap Bool) (hw : 0 < w) (hj : j / w ≠ tgt) :
    mget (copyInto w src tgt m) false j = mget m false j := by
  have hmoved : ∀ p ∈ (m.filter (fun p => p.1 / w == src)).map (fun p => (p.1 % w + w * tgt, p.2)), p.1 ≠ j :=
    fun p hp he => by
      obtain ⟨q, -, rfl⟩ := List.mem_map.mp hp
      apply hj
      rw [← he, Nat.add_mul_div_left _ _ hw, Nat.div_eq_of_lt (Nat.mod_lt _ hw), Nat.zero_add]
  have hbelow := mget_filter_key m false (fun k => decide (k < w * tgt)) j
  have habove := mget_filter_key m false (fun k => decide (w * (tgt + 1) ≤ k)) j
  rcases Nat.lt_or_gt_of_ne hj with h | h
  · have hlt : j < w * tgt := by rw [Nat.mul_comm]; exact (Nat.div_lt_iff_lt_mul hw).mp h
    rw [copyInto, mget_append_right, mget_append_right _ _ hmoved]
    · exact hbelow.trans (if_pos (by simpa using hlt))
    · intro p hp
      have := (List.mem_filter.mp hp).2
      simp only [decide_eq_true_eq, Nat.mul_succ] at this
      omega
  · have hle : w * (tgt + 1) ≤ j := by rw [Nat.mul_comm]; exact (Nat.le_div_iff_mul_le hw).mp h
    rw [copyInto, mget_append_left]
    · exact habove.trans (if_pos (by simpa using hle))
    · intro p hp
      rcases List.mem_append.mp hp with h | h
      · have := (List.mem_filter.mp h).2
        simp only [decide_eq_true_eq] at this
        rw [Nat.mul_succ] at hle
        omega
      · exact hmoved p h

/-- A shadow bit that is written goes into the target copy (R58). -/
def writeShadow (tgt : Nat) (m : SMap Bool) (p : Nat × Option Bool) : SMap Bool :=
  match p.2 with
  | some v => mset m false (2 ^ 24 * tgt + p.1) v
  | none => m

theorem mergeCopy_copies (tgt : Nat) (s : State) : (mergeCopy tgt s).clu.copies =
    s.clu.shadow.foldl (writeShadow tgt) (copyInto (2 ^ 24) s.baseCopy tgt s.clu.copies) := rfl

/-- Written bits elsewhere, and bits that are not written, leave a bit of the copy. -/
theorem foldl_writeShadow_other {tgt k : Nat} (l : SMap (Option Bool)) (m : SMap Bool)
    (h : ∀ p ∈ l, 2 ^ 24 * tgt + p.1 = k → p.2 = none) :
    mget (l.foldl (writeShadow tgt) m) false k = mget m false k := by
  induction l generalizing m with
  | nil => rfl
  | cons p l ih =>
    rw [List.foldl_cons, ih _ fun q hq => h q (List.mem_cons_of_mem _ hq), writeShadow]
    split
    · next v hv =>
      refine mget_mset_other _ _ _ _ fun he => ?_
      rw [h p List.mem_cons_self he.symm] at hv
      cases hv
    · rfl

/-- The one bit written at a place is what the copy reads there. -/
theorem foldl_writeShadow_written {tgt i : Nat} {v : Bool} (l : SMap (Option Bool)) (m : SMap Bool)
    (h : l.filter (fun p => p.1 == i) = [(i, some v)]) :
    mget (l.foldl (writeShadow tgt) m) false (2 ^ 24 * tgt + i) = v := by
  induction l generalizing m with
  | nil => cases h
  | cons p l ih =>
    rw [List.foldl_cons]
    by_cases hp : p.1 = i
    · rw [List.filter_cons_of_pos (by simpa using hp), List.cons.injEq] at h
      obtain ⟨rfl, hrest⟩ := h
      rw [foldl_writeShadow_other]
      · exact mget_mset_same m false _ v
      · intro q hq he
        have hmem : q ∈ l.filter (fun p => p.1 == i) := List.mem_filter.mpr ⟨hq, by simpa using Nat.add_left_cancel he⟩
        rw [hrest] at hmem
        cases hmem
    · rw [List.filter_cons_of_neg (by simpa using hp)] at h
      exact ih _ h

/-! ### B0 to B3 -/

theorem exec_boundaryDrain {s : State} (hup : s.up = true) : exec .boundaryDrain s = .next (drain s) := run_up _ hup

/-- The boundary steps B0 to B3 after the issue steps. -/
def drained (w : State) : State :=
  bndClock (fun e u => dspCloseOpen e.num (injectAt (u.N + 3) u)) (bndClock (fun e u => verifyCheck e
    (injectAt (u.N + 2) u))
    (bndClock (fun _ u => injectAt (u.N + 1) u) (bndClock (fun e u =>
      (if u.sch.slot = 0 then (fun x => x) else takeEffects (u.sch.slot - 1) e.num) (injectAt u.N u)) w)))

/-- An execution that is still there stands at the commit point. -/
def atCommitPoint (t : State) : State :=
  match t.sch.exec with
  | some _ => { t with sch := { t.sch with phase := .commitPoint, holdRun := 0, holdRaised := false } }
  | none => t

theorem atCommitPoint_running {t : State} (h : t.sch.exec.isSome = true) : atCommitPoint t =
    { t with sch := { t.sch with phase := .commitPoint, holdRun := 0, holdRaised := false } } := by
  obtain ⟨e, he⟩ := Option.isSome_iff_exists.mp h
  rw [atCommitPoint, he]

theorem atCommitPoint_ended {t : State} (h : t.sch.exec = none) : atCommitPoint t = t := by rw [atCommitPoint, h]

theorem drain_issuing {s w : State} (hexec : s.sch.exec.isSome = true) (hphase : s.sch.phase = .issue)
    (hw : clocksUntil 8192 stepsOver s = some w) : drain s = atCommitPoint (drained w) := by
  obtain ⟨e, he⟩ := Option.isSome_iff_exists.mp hexec
  unfold drain
  rw [he]
  refine (if_neg (by simp [hphase])).trans ?_
  rw [hw]
  rfl

theorem drain_closed {s : State}
    (h : s.sch.exec = none ∨ s.sch.phase ≠ .issue ∨ clocksUntil 8192 stepsOver s = none) : drain s = s := by
  unfold drain
  split
  · rfl
  · next e he =>
    rcases h with h | h | h
    · simp [h] at he
    · exact if_pos h
    · rw [h]
      split <;> rfl

/-! ### B4 to B7 -/

theorem exec_commitPointPass {s : State} (hup : s.up = true) : exec .commitPointPass s = .next (commitPoint s) :=
  run_up _ hup

theorem commitPoint_open {s : State} (hexec : s.sch.exec.isSome = true) (hphase : s.sch.phase = .commitPoint)
    (hopen : commitOpen s = true) : ∃ t, t = lastMerge (bndClock (mergeParity 2)
      (bndClock (mergeParity 1) (bndClock (fun e u => mergeParity 0 e (updateLast u)) s))) ∧
      commitPoint s = swap { t with sch := { t.sch with holdRun := 0, holdRaised := false } } := by
  obtain ⟨e, he⟩ := Option.isSome_iff_exists.mp hexec
  refine ⟨_, rfl, ?_⟩
  unfold commitPoint
  rw [he]
  exact if_neg (by simp [hphase, hopen])

theorem commitPoint_closed {s : State} (h : s.sch.exec = none ∨ s.sch.phase ≠ .commitPoint ∨ commitOpen s = false) :
    commitPoint s = s := by
  unfold commitPoint
  split
  · rfl
  · next e he =>
    rcases h with h | h | h
    · simp [h] at he
    · exact if_pos (.inl h)
    · exact if_pos (.inr (by simp [h]))

theorem lastMerge_eq {e f : Exec} {s u : State} (he : s.sch.exec = some e)
    (hu : u = clockArrive (mergeCopy e.copy (mergeParity 3 e s))) (hf : u.sch.exec = some f) :
    lastMerge s = clockClose (treeSources u false) (if u.sch.fatal then u else decide' f u) := by
  unfold lastMerge
  simp only [he, ← hu, hf]
  cases u.sch.fatal <;> rfl

/-- Settles O27: the two commands by their boundary clocks, and what LAST, the target copy and B8 read as by the stores that
they write. -/
theorem boundarySteps : Obligations.BoundarySteps := by
  refine ⟨fun s w hup hexec hphase hw => ?drain, fun s h => clocksUntil_now h, fun s hup h => ?drainClosed,
    fun s hup hexec hphase hopen => ?commit, fun e f s u he hu hf => ?merge,
    fun s => ⟨_, rfl, updateLast_predLast s, changes_clu s _⟩, fun tgt i s hi _ => ?copy, fun s => ?opened,
    fun _ => rfl, fun s hup h => ?commitClosed⟩
  case drain =>
    refine ⟨drained w, rfl, fun h => ?_, fun h => ?_⟩ <;> rw [exec_boundaryDrain hup, drain_issuing hexec hphase hw]
    · rw [atCommitPoint_running h]
    · rw [atCommitPoint_ended h]
  case drainClosed => rw [exec_boundaryDrain hup, drain_closed h]
  case commit =>
    obtain ⟨t, ht, hstep⟩ := commitPoint_open hexec hphase hopen
    exact ⟨t, ht, by rw [exec_commitPointPass hup, hstep]⟩
  case merge =>
    rw [lastMerge_eq he hu hf]
    exact ⟨fun h => by rw [h]; rfl, fun h => by rw [h]; rfl⟩
  case copy =>
    refine ⟨_, rfl, fun v hv => ?_, fun hnone => ?_, fun hsmall j hj => ?_, rfl, changes_clu s _⟩ <;>
      rw [mergeCopy_copies]
    · exact foldl_writeShadow_written _ _ hv
    · rw [foldl_writeShadow_other _ _ fun p hp he => hnone p hp (Nat.add_left_cancel he)]
      exact mget_copyInto_target _ hi
    · rw [foldl_writeShadow_other _ _ fun p hp he => ?_]
      · exact mget_copyInto_other _ (by decide) hj
      · have := hsmall p hp
        omega
  case opened =>
    refine ⟨_, rfl, rfl, fun j => ⟨rfl, rfl, rfl, rfl, rfl, rfl, rfl⟩, rfl, rfl, rfl, (openCycle_chg s).changes⟩
  case commitClosed => rw [exec_commitPointPass hup, commitPoint_closed h]

end Sys2Proof.Proofs
end

section
/-!
Proofs of the family 02_boolean_processor: words that return, and committed entries that are applied (O37).
-/
namespace Sys2Proof.Proofs
open Sys2Proof.Machine Sys2Proof.Laws

/-! ### Clocks up to a condition -/

theorem clocksUntil_iterate {stop : State → Bool} {n fuel : Nat} {s : State} (hn : n ≤ fuel)
    (hrun : ∀ i, i < n → stop (clockTick^[i] s) = false) (hstop : stop (clockTick^[n] s) = true) :
    clocksUntil fuel stop s = some (clockTick^[n] s) := by
  induction n generalizing s fuel with
  | zero => exact clocksUntil_now hstop
  | succ n ih =>
    obtain ⟨fuel, rfl⟩ : ∃ f, fuel = f + 1 := ⟨fuel - 1, by omega⟩
    have hgo : stop s = false := hrun 0 n.succ_pos
    rw [clocksUntil, if_neg (by simp [hgo])]
    exact ih (by omega) (fun i hi => hrun (i + 1) (by omega)) hstop

theorem clocksUntil_never {stop : State → Bool} {fuel : Nat} {s : State}
    (hrun : ∀ i, i ≤ fuel → stop (clockTick^[i] s) = false) : clocksUntil fuel stop s = none := by
  have hgo : stop s = false := hrun 0 (Nat.zero_le _)
  induction fuel generalizing s with
  | zero => rw [clocksUntil, if_neg (by simp [hgo])]
  | succ fuel ih =>
    rw [clocksUntil, if_neg (by simp [hgo])]
    exact ih (fun i hi => hrun (i + 1) (by omega)) (hrun 1 (by omega))

/-! ### Words that return -/

/-- The context's access is outstanding. -/
def readOutstanding (c k : Nat) (s : State) : Bool := s.mem.reads.any (fun r => r.cluster == c && r.ctx == k)

theorem exec_rdataReturn {cluster : BitVec 8} {ctx : BitVec 3} {s : State} (hup : s.up = true) :
    exec (.rdataReturn cluster ctx) s = .next (rdataReturn cluster.toNat ctx.toNat s) := run_up _ hup

theorem rdataReturn_eq (c k : Nat) (s : State) : rdataReturn c k s =
    if readOutstanding c k s then (clocksUntil 256 (fun t => !readOutstanding c k t) s).getD s else s := rfl

theorem rdataReturn_returns {c k n : Nat} {s : State} (hn : n ≤ 256)
    (hrun : ∀ i, i < n → readOutstanding c k (clockTick^[i] s) = true)
    (hstop : readOutstanding c k (clockTick^[n] s) = false) : rdataReturn c k s = clockTick^[n] s := by
  rw [rdataReturn_eq, clocksUntil_iterate hn (fun i hi => by simp [hrun i hi]) (by simp [hstop])]
  cases n with
  | zero => exact if_neg (by simpa using hstop)
  | succ n => exact if_pos (hrun 0 n.succ_pos)

theorem rdataReturn_never {c k : Nat} {s : State}
    (hrun : ∀ i, i ≤ 256 → readOutstanding c k (clockTick^[i] s) = true) : rdataReturn c k s = s := by
  rw [rdataReturn_eq, clocksUntil_never (fun i hi => by simp [hrun i hi])]
  exact ite_self _

theorem readArrivals_changes (k : Nat) (s : State) : Changes [.clu, .mem] s (readArrivals k s) :=
  (Chg.upd (m := 33280) (.refl _ _)).changes

/-! ### Registers that a fault stop keeps -/

/-- The registers that a fault stop may change: SCH_SPC_4 and SCH_SPC_5, PAUSE, and what the ledger and the events set. -/
def faultStopRegs : List Nat :=
  [Reg.SCH_SPC + 8 * 4, Reg.SCH_SPC + 8 * 4 + 4, Reg.SCH_SPC + 8 * 5, Reg.SCH_SPC + 8 * 5 + 4, Reg.SCH_SPC_SAT, Reg.SCH_CTRL,
   Reg.PWR_CAUSE, pendReg 0x096, pendReg 0x080, pendReg 0x545]

/-- The cycles that do not stay count as discarded, with their clocks. -/
def discardsCounted (keep : Word64 → Bool) (s : State) : State :=
  spcAdd 5 (((s.sch.cycles.filter (fun c => !keep c.num)).map (fun c => c.clks)).sum)
    (spcAdd 4 (s.sch.cycles.filter (fun c => !keep c.num)).length s)

/-- The cycles leave, with what the lane ports hold of them. -/
def cyclesLeft (keep : Word64 → Bool) (s : State) : State :=
  { s with
    sch := { s.sch with cycles := s.sch.cycles.filter (fun c => keep c.num), opened := none }
    lnk := { s.lnk with tx := s.lnk.tx.filter (fun t => keep t.cyc),
                        recs := s.lnk.recs.map (fun r => if keep r.cyc then r else { r with delivNow := false }) } }

theorem discardCycles_eq (keep : Word64 → Bool) (s : State) :
    discardCycles keep s = dspDiscard keep (dropMem keep (cyclesLeft keep (discardsCounted keep s))) := rfl

theorem twoCounts_regsBut (m n : Nat) (s : State) : RegsBut faultStopRegs s (spcAdd 5 n (spcAdd 4 m s)) :=
  regsBut_trans (regsBut_mono (spcAdd_regsBut 4 m s) (by decide)) (regsBut_mono (spcAdd_regsBut 5 n _) (by decide))

theorem discardCycles_regs (keep : Word64 → Bool) (s : State) :
    (discardCycles keep s).regs = (discardsCounted keep s).regs := by
  rw [discardCycles_eq, (dspDiscard_chg ..).same .regs (by decide), (dropMem_chg ..).same .regs (by decide)]
  rfl

theorem discardCycles_regsBut (keep : Word64 → Bool) (s : State) : RegsBut faultStopRegs s (discardCycles keep s) :=
  regsBut_trans (twoCounts_regsBut _ _ s) (regsBut_of_regs _ (discardCycles_regs keep s))

/-- The execution's clocks count as discarded. -/
def execCounted (e : Exec) (s : State) : State := spcAdd 5 (s.clock - e.startClk) (spcAdd 4 1 s)

theorem execEnded_some {e : Exec} {s : State} (h : s.sch.exec = some e) :
    (execEnded s).regs = (discardCycles (fun c => cycLt c e.num) (execCounted e s)).regs ∧
      (execEnded s).mem = (discardCycles (fun c => cycLt c e.num) (execCounted e s)).mem := by
  rw [execEnded, h]
  exact ⟨rfl, rfl⟩

theorem execEnded_none {s : State} (h : s.sch.exec = none) : execEnded s = s := by
  rw [execEnded, h]

theorem execEnded_regsBut (s : State) : RegsBut faultStopRegs s (execEnded s) := by
  cases h : s.sch.exec with
  | none =>
    rw [execEnded_none h]
    exact regsBut_refl _ _
  | some e =>
    have hcounted : RegsBut faultStopRegs s (execCounted e s) := twoCounts_regsBut _ _ s
    exact regsBut_trans (regsBut_trans hcounted (discardCycles_regsBut _ _)) (regsBut_of_regs _ (execEnded_some h).1)

theorem stopped_regs (s : State) : (inFaultStop (uncommittedDropped s)).regs =
    (discardCycles (fun c => cycLe c (execEnded s).sch.committed) (execEnded s)).regs := rfl

theorem faultStop_regsBut (s : State) : RegsBut faultStopRegs s (faultStop s) := by
  by_cases h : s.sch.st = .faultStop
  · rw [faultStop_again h]
    exact regsBut_of_regs _ rfl
  · rw [faultStop_eq h]
    have hdropped : RegsBut faultStopRegs s (inFaultStop (uncommittedDropped s)) :=
      regsBut_trans (regsBut_trans (execEnded_regsBut s) (discardCycles_regsBut _ _)) (regsBut_of_regs _ (stopped_regs s))
    have hpause : RegsBut faultStopRegs s (setPause (inFaultStop (uncommittedDropped s))) :=
      regsBut_trans hdropped fun o ho => setPause_reg _ fun he => ho (he ▸ by decide)
    refine regsBut_trans (regsBut_trans hpause (regsBut_mono (regsBut_raise 0x080 _) (by decide))) ?_
    exact fun o ho => ledAdd_reg _ (fun he => ho (he ▸ by decide)) fun he => ho (he ▸ by decide)

/-! ### What a fault stop leaves pending, and what it leaves in HBM -/

theorem faultStop_st (s : State) : (faultStop s).sch.st = .faultStop := by
  by_cases h : s.sch.st = .faultStop
  · rw [faultStop_again h]
    exact h
  · rw [faultStop_sch h]
    rfl

theorem faultStop_keepsPending {e : Nat} {s : State} (he : e < 1536) (hp : s.pendBit e = true) :
    (faultStop s).pendBit e = true := by
  by_cases h : s.sch.st = .faultStop
  · rw [faultStop_again h]
    exact hp
  · exact (faultStop_reportKept h).pending e he hp

theorem twoCounts_mem (m n : Nat) (s : State) : (spcAdd 5 n (spcAdd 4 m s)).mem = s.mem := by
  rw [(spcAdd_chg ..).same .mem (by decide), (spcAdd_chg ..).same .mem (by decide)]

theorem discardCycles_hbm (keep : Word64 → Bool) (s : State) : (discardCycles keep s).mem.hbm = s.mem.hbm := by
  have hleft : (dropMem keep (cyclesLeft keep (discardsCounted keep s))).mem.hbm = (discardsCounted keep s).mem.hbm := rfl
  rw [discardCycles_eq, (dspDiscard_chg ..).same .mem (by decide), hleft, discardsCounted, twoCounts_mem]

theorem execEnded_hbm (s : State) : (execEnded s).mem.hbm = s.mem.hbm := by
  cases h : s.sch.exec with
  | none => rw [execEnded_none h]
  | some e =>
    rw [(execEnded_some h).2, discardCycles_hbm, execCounted, twoCounts_mem]

theorem stopped_hbm (s : State) : (setPause (inFaultStop (uncommittedDropped s))).mem.hbm =
    (discardCycles (fun c => cycLe c (execEnded s).sch.committed) (execEnded s)).mem.hbm := rfl

/-- A fault stop writes no word of HBM. -/
theorem faultStop_hbm (s : State) : (faultStop s).mem.hbm = s.mem.hbm := by
  by_cases h : s.sch.st = .faultStop
  · rw [faultStop_again h]
  · rw [faultStop_eq h, (ledAdd_chg ..).same .mem (by decide), (raise_chg ..).same .mem (by decide)]
    rw [stopped_hbm, discardCycles_hbm, execEnded_hbm]

/-! ### Errors of HBM bursts -/

theorem hbmCorrected_pendBit (key : Nat) (s : State) : (hbmCorrected key s).pendBit 0x2E6 = true :=
  raise_pendBit (by simp [eventAbsent])

theorem hbmUncorrected_pendBit (addr : Word64) (c k : Nat) (host : Bool) (s : State) :
    (hbmUncorrected addr c k host s).pendBit 0x2E5 = true := raise_pendBit (by simp [eventAbsent])

theorem hbmUncorrected_bit (addr : Word64) (c k : Nat) (host : Bool) (s : State) :
    (hbmUncorrected addr c k host s).bit Reg.MEM_CAUSE 5 = true := by
  rw [hbmUncorrected, bit_eq, raise_reg _ (by decide), ← bit_eq]
  exact causeSet_bit _ _ (by decide)

theorem faultStop_keepsMemCause {b : Nat} {s : State} (h : s.bit Reg.MEM_CAUSE b = true) :
    (faultStop s).bit Reg.MEM_CAUSE b = true := by
  rw [bit_eq] at h ⊢
  rwa [faultStop_regsBut s _ (by decide)]

/-! ### The start of an HBM access -/

/-- The access has started in clock `k`: its word arrives 64 clocks later, and it has its pseudo-channel. -/
def accessBegun (k : Nat) (r : ReadOut) (s : State) : State :=
  { s with mem := { s.mem with
      reads := s.mem.reads.map (fun o => if o = r then { o with stage := .arriving (k + 64) } else o)
      pcBusy := mset s.mem.pcBusy 0 (pcOf (r.key.getD 0)) (max (mget s.mem.pcBusy 0 (pcOf (r.key.getD 0))) (k + 1)) } }

theorem accessBegun_chg (k : Nat) (r : ReadOut) (s : State) : Chg 32768 s (accessBegun k r s) := .upd (.refl _ _)

theorem hbmStart_corrected {k : Nat} {r : ReadOut} {s : State} (h : eccOf s (r.key.getD 0) = 1) :
    hbmStart k r s = hbmCorrected (r.key.getD 0) (accessBegun k r s) := if_pos h

theorem hbmStart_uncorrected {k : Nat} {r : ReadOut} {s : State} (h : eccOf s (r.key.getD 0) = 2) : hbmStart k r s =
    markFatal (hbmUncorrected (r.addr.setWidth 64) r.cluster r.ctx false (accessBegun k r s)) :=
  (if_neg (by
    show ¬ eccOf s (r.key.getD 0) = 1
    rw [h]
    decide)).trans (if_pos h)

theorem hbmStart_clean {k : Nat} {r : ReadOut} {s : State} (h1 : eccOf s (r.key.getD 0) ≠ 1)
    (h2 : eccOf s (r.key.getD 0) ≠ 2) : hbmStart k r s = accessBegun k r s := (if_neg h1).trans (if_neg h2)

theorem hbmStart_mem (k : Nat) (r : ReadOut) (s : State) : (hbmStart k r s).mem = (accessBegun k r s).mem := by
  by_cases h1 : eccOf s (r.key.getD 0) = 1
  · rw [hbmStart_corrected h1, (hbmCorrected_chg ..).same .mem (by decide)]
  · by_cases h2 : eccOf s (r.key.getD 0) = 2
    · rw [hbmStart_uncorrected h2, ← (hbmUncorrected_chg (r.addr.setWidth 64) r.cluster r.ctx false
        (accessBegun k r s)).same .mem (by decide)]
      rfl
    · rw [hbmStart_clean h1 h2]

/-- The start asks for a fault stop where the burst has an uncorrected error (R209). -/
theorem hbmStart_sch (k : Nat) (r : ReadOut) (s : State) :
    (hbmStart k r s).sch = { s.sch with fatal := s.sch.fatal || eccOf s (r.key.getD 0) == 2 } := by
  by_cases h1 : eccOf s (r.key.getD 0) = 1
  · rw [hbmStart_corrected h1, (hbmCorrected_chg ..).same .sch (by decide), h1]
    simp [accessBegun]
  · by_cases h2 : eccOf s (r.key.getD 0) = 2
    · rw [hbmStart_uncorrected h2, markFatal, (hbmUncorrected_chg ..).same .sch (by decide), h2]
      simp [accessBegun]
    · rw [hbmStart_clean h1 h2, beq_eq_false_iff_ne.mpr h2, Bool.or_false]
      rfl

/-- The non-scheduled burst at the access's pseudo-channel has ended. -/
def burstEnded (r : ReadOut) (s : State) : State :=
  { s with mem := { s.mem with pcBurst := mset s.mem.pcBurst 0 (pcOf (r.key.getD 0)) 0 } }

theorem burstEnded_chg (r : ReadOut) (s : State) : Chg 32768 s (burstEnded r s) := .upd (.refl _ _)

/-- The access of a context that has missed its slot. -/
def missedRead (c k : Nat) (s : State) : Option ReadOut :=
  s.mem.reads.find? (fun r => r.cluster == c && r.ctx == k && r.stage == .hbmMissed)

theorem exec_hbmAccessStart {cluster : BitVec 8} {ctx : BitVec 3} {s : State} (hup : s.up = true) :
    exec (.hbmAccessStart cluster ctx) s = .next (hbmAccessStart cluster.toNat ctx.toNat s) := run_up _ hup

section
variable {c k : Nat} {r : ReadOut} {s : State}

theorem hbmAccessStart_none (h : missedRead c k s = none) : hbmAccessStart c k s = s := by
  rw [missedRead] at h
  simp only [hbmAccessStart, h]

variable (hr : missedRead c k s = some r)
include hr

theorem hbmAccessStart_waits (hbusy : s.clock < mget s.mem.pcBusy 0 (pcOf (r.key.getD 0))) : hbmAccessStart c k s = s := by
  rw [missedRead] at hr
  simp only [hbmAccessStart, hr, if_pos hbusy]

theorem hbmAccessStart_free (hfree : mget s.mem.pcBusy 0 (pcOf (r.key.getD 0)) ≤ s.clock) : hbmAccessStart c k s =
    if (hbmStart s.clock r (burstEnded r s)).sch.fatal then faultStop (hbmStart s.clock r (burstEnded r s))
    else hbmStart s.clock r (burstEnded r s) := by
  rw [missedRead] at hr
  simp only [hbmAccessStart, hr, if_neg (Nat.not_lt.mpr hfree)]
  rfl

variable (hfree : mget s.mem.pcBusy 0 (pcOf (r.key.getD 0)) ≤ s.clock)
include hfree

theorem hbmAccessStart_starts (hfatal : s.sch.fatal = false) (hecc : eccOf s (r.key.getD 0) ≠ 2) :
    hbmAccessStart c k s = hbmStart s.clock r (burstEnded r s) := by
  have hgo : (hbmStart s.clock r (burstEnded r s)).sch.fatal = false := by
    rw [hbmStart_sch]
    exact Bool.or_eq_false_iff.mpr ⟨hfatal, beq_eq_false_iff_ne.mpr hecc⟩
  rw [hbmAccessStart_free hr hfree, if_neg (by simp [hgo])]

theorem hbmAccessStart_stops (hstop : s.sch.fatal = true ∨ eccOf s (r.key.getD 0) = 2) :
    hbmAccessStart c k s = faultStop (hbmStart s.clock r (burstEnded r s)) := by
  have hgo : (hbmStart s.clock r (burstEnded r s)).sch.fatal = true := by
    rw [hbmStart_sch]
    exact (Bool.or_eq_true ..).mpr (hstop.imp_right beq_iff_eq.mpr)
  rw [hbmAccessStart_free hr hfree, if_pos hgo]

end

/-! ### The oldest committed entry of a queue -/

/-- The committed entry that stands first in its queue, with the entries before and behind it. -/
theorem oldestEntry_split {s : State} {q : Nat} {e : QEntry} (h : oldestEntry s q = some e) :
    e.q = q ∧ entryDue s e = true ∧ ∃ as bs, s.mem.queue = as ++ e :: bs ∧ s.mem.queue.erase e = as ++ bs ∧
      ∀ a ∈ as, entryDue s a = true → a.q ≠ q := by
  obtain ⟨hp, as, bs, hl, has⟩ := List.find?_eq_some_iff_append.mp h
  simp only [Bool.and_eq_true, beq_iff_eq] at hp
  refine ⟨hp.2, hp.1, as, bs, hl, ?_, fun a ha hd hq => ?_⟩
  · have hne : e ∉ as := fun hm => by simpa [hp.1, hp.2] using has e hm
    rw [hl, List.erase_append_right _ hne, List.erase_cons_head]
  · simpa [hd, hq] using has a ha

/-- Storing the oldest committed entry of a queue changes no committed word of it: the entry is merged first (R192, R195). -/
theorem committedWord_stored {s t : State} {q : Nat} {e : QEntry} (h : oldestEntry s q = some e)
    (hqueue : t.mem.queue = s.mem.queue.erase e) (hclock : t.clock = s.clock)
    (hword : storedWord t e.q e.key = maskWord (storedWord s e.q e.key) e.data e.mask)
    (hother : ∀ k, k ≠ e.key → storedWord t e.q k = storedWord s e.q k) (k : Nat) :
    committedWord t e.q k = committedWord s e.q k := by
  obtain ⟨rfl, hdue, as, bs, hl, herase, has⟩ := oldestEntry_split h
  have hdues : entryDue t = entryDue s := by
    funext a
    simp only [entryDue, hclock]
  unfold committedWord mergedWith
  rw [hdues, hqueue, herase, hl, List.filter_append, List.filter_append]
  by_cases hk : k = e.key
  · subst hk
    have hfront : as.filter (fun a => a.q == e.q && a.key == e.key && entryDue s a) = [] :=
      List.filter_eq_nil_iff.mpr fun a ha hp => by
        simp only [Bool.and_eq_true, beq_iff_eq] at hp
        exact has a ha hp.2 hp.1.1
    rw [hfront, List.filter_cons_of_pos (by simp [hdue]), hword]
    rfl
  · rw [List.filter_cons_of_neg (by simp [Ne.symm hk]), hother k hk]

/-! ### What a stored word depends on -/

/-- The two states read their stored words from the same image, checkpoint slots, grade and key. -/
def SameHbmSource (s t : State) : Prop :=
  t.ident = s.ident ∧ t.img = s.img ∧ t.sch = s.sch ∧ t.mem.hbmKey = s.mem.hbmKey

section
variable {s t : State} (h : SameHbmSource s t)
include h

theorem ckptHbmByte_congr (c : CkptSlot) (l : List (Nat × Nat)) (i : Nat) :
    ckptHbmByte t c l i = ckptHbmByte s c l i := by
  obtain ⟨_, _, _, hkey⟩ := h
  induction l generalizing i with
  | nil => rfl
  | cons m l ih => simp only [ckptHbmByte, hkey, ih]

theorem ckptByte_congr (c : CkptSlot) : ckptByte t c = ckptByte s c := by
  have hraw : ckptRaw t c = ckptRaw s c := by
    have hbyte : ckptHbmByte t c = ckptHbmByte s c := by
      funext l i
      exact ckptHbmByte_congr h c l i
    obtain ⟨hident, himg, _, _⟩ := h
    have hclusters : t.clusters = s.clusters := by rw [State.clusters, State.clusters, hident]
    have hbanks : t.bankCount = s.bankCount := by rw [State.bankCount, State.bankCount, hident]
    have hkeys : ckptKeys t = ckptKeys s := by rw [ckptKeys, ckptKeys, himg]
    funext i
    unfold ckptRaw
    rw [hclusters, hbanks, hkeys, hbyte]
  funext i
  simp only [ckptByte, hraw]

theorem ckptWord_congr (key : Nat) : ckptWord t key = ckptWord s key := by
  have hbyte := ckptByte_congr h
  obtain ⟨hident, himg, hsch, _⟩ := h
  have hstacks : t.stacks = s.stacks := by rw [State.stacks, State.stacks, hident]
  have hoff : ckptOffset t key = ckptOffset s key := by
    unfold ckptOffset
    rw [hstacks, himg]
  unfold ckptWord
  rw [hoff, hsch]
  simp only [hbyte]

theorem storedWord_hbm_congr {q key : Nat} (hq : 512 ≤ q) (hw : mget t.mem.hbm none key = mget s.mem.hbm none key) :
    storedWord t q key = storedWord s q key := by
  unfold storedWord
  rw [if_neg (Nat.not_lt.mpr hq), if_neg (Nat.not_lt.mpr hq), hw, ckptWord_congr h, h.2.2.2]

end

theorem storedWord_bank {q : Nat} (hq : q < 512) (s : State) (key : Nat) : storedWord s q key = mget s.mem.banks 0 key :=
  if_pos hq

theorem storedWord_written {q key : Nat} {w : Word64} {s : State} (hq : 512 ≤ q) (hw : mget s.mem.hbm none key = some w) :
    storedWord s q key = w := by
  unfold storedWord
  rw [if_neg (Nat.not_lt.mpr hq), hw]

/-! ### An entry is stored -/

theorem releaseAllFour_mem (s : State) : ∃ a, releaseAllFour s = { s with mem := { s.mem with allFour := a } } := by
  unfold releaseAllFour
  split
  · split
    · exact ⟨_, rfl⟩
    · split <;> exact ⟨_, rfl⟩
  · exact ⟨_, rfl⟩

theorem dropEntry_eq (e : QEntry) (s : State) :
    ∃ a, dropEntry e s = { s with mem := { s.mem with queue := s.mem.queue.erase e, allFour := a } } := releaseAllFour_mem _

theorem writeStored_bank {q key : Nat} {data mask : Word64} (hq : q < 512) (s : State) :
    ∃ bad, writeStored q key data mask s = setBank key (maskWord (mget s.mem.banks 0 key) data mask)
      { s with mem := { s.mem with bankBad := bad } } :=
  ⟨_, (if_pos hq).trans (by rw [storedWord_bank hq])⟩

theorem writeStored_hbm {q key : Nat} {data mask : Word64} (hq : 512 ≤ q) (s : State) :
    writeStored q key data mask s = setHbm key (maskWord (storedWord s q key) data mask) s := if_neg (Nat.not_lt.mpr hq)

theorem applyStored_clean {e : QEntry} {s : State} (h : e.q < 512 ∨ eccOf s e.key ≠ 1 ∧ eccOf s e.key ≠ 2) :
    applyStored e s = dropEntry e (writeStored e.q e.key e.data e.mask s) := by
  have hno : ∀ x : BitVec 2, x = 1 ∨ x = 2 → ¬ (512 ≤ e.q ∧ eccOf s e.key = x) := fun x hx ⟨hq, he⟩ => by
    rcases h with h | ⟨h1, h2⟩
    · omega
    · rcases hx with rfl | rfl
      · exact h1 he
      · exact h2 he
  rw [applyStored, if_neg (hno 2 (.inr rfl)), if_neg (hno 1 (.inl rfl))]

theorem applyStored_corrected {e : QEntry} {s : State} (hq : 512 ≤ e.q) (h : eccOf s e.key = 1) :
    applyStored e s = dropEntry e (writeStored e.q e.key e.data e.mask (hbmCorrected e.key s)) := by
  rw [applyStored, if_neg (by rw [h]; rintro ⟨_, h⟩; cases h), if_pos ⟨hq, h⟩]

theorem applyStored_uncorrected {e : QEntry} {s : State} (hq : 512 ≤ e.q) (h : eccOf s e.key = 2) :
    applyStored e s = faultStop (hbmUncorrected (hbmAddrForm s e.key) 0 0 false (dropEntry e s)) := if_pos ⟨hq, h⟩

/-! ### The apply of the oldest entry -/

theorem exec_pendingWriteApply {q : BitVec 10} {s : State} (hup : s.up = true) :
    exec (.pendingWriteApply q) s = .next (pendingApply q.toNat s) := run_up _ hup

theorem pendingApply_none {q : Nat} {s : State} (h : oldestEntry s q = none) : pendingApply q s = s := by
  simp only [pendingApply, h]

theorem pendingApply_some {q : Nat} {e : QEntry} {s : State} (h : oldestEntry s q = some e) :
    pendingApply q s = applyEntry e s := by
  simp only [pendingApply, h]

section
variable {e : QEntry} {s : State}

theorem applyEntry_bankTaken (hq : e.q < 512) (hb : portBTaken s (e.key / 8192) = true) : applyEntry e s = s := by
  rw [applyEntry, if_pos hq, if_pos hb]

theorem applyEntry_bankRead (hq : e.q < 512) (hb : portBTaken s (e.key / 8192) = false) (hr : readNow s e.key = true) :
    applyEntry e s = memCnt 1 1 s := by
  rw [applyEntry, if_pos hq, if_neg (by simp [hb]), if_pos hr]

theorem applyEntry_bank (hq : e.q < 512) (hb : portBTaken s (e.key / 8192) = false) (hr : readNow s e.key = false) :
    applyEntry e s = dropEntry e (writeStored e.q e.key e.data e.mask (openB e.key s)) := by
  rw [applyEntry, if_pos hq, if_neg (by simp [hb]), if_neg (by simp [hr]), applyStored_clean (.inl hq)]

theorem applyEntry_hbmTaken (hq : 512 ≤ e.q) (h : scheduledPc s (pcOf e.key) = true ∨
    s.clock < mget s.mem.pcBusy 0 (pcOf e.key) ∨ s.mem.pcReqs.contains (pcOf e.key, 1) = true) : applyEntry e s = s := by
  rw [applyEntry, if_neg (Nat.not_lt.mpr hq), if_pos h]

theorem applyEntry_hbm (hq : 512 ≤ e.q) (hslot : scheduledPc s (pcOf e.key) = false)
    (hfree : mget s.mem.pcBusy 0 (pcOf e.key) ≤ s.clock) (hreq : s.mem.pcReqs.contains (pcOf e.key, 1) = false) :
    applyEntry e s = applyStored e (askBurst 1 e.key s) := by
  rw [applyEntry, if_neg (Nat.not_lt.mpr hq), if_neg]
  rw [hslot, hreq]
  simpa using hfree

end

/-! ### The states in which an entry has been stored -/

theorem applyEntry_bankStored {e : QEntry} {s : State} (hq : e.q < 512) (hb : portBTaken s (e.key / 8192) = false)
    (hr : readNow s e.key = false) : ∃ bad a, applyEntry e s = { s with mem := { s.mem with
      banks := mset s.mem.banks 0 e.key (maskWord (mget s.mem.banks 0 e.key) e.data e.mask), bankBad := bad
      bWindows := s.mem.bWindows ++ [(e.key, s.clock)], queue := s.mem.queue.erase e, allFour := a } } := by
  obtain ⟨bad, hw⟩ := writeStored_bank (key := e.key) (data := e.data) (mask := e.mask) hq (openB e.key s)
  rw [applyEntry_bank hq hb hr, hw]
  obtain ⟨a, hd⟩ := dropEntry_eq e (setBank e.key (maskWord (mget (openB e.key s).mem.banks 0 e.key) e.data e.mask)
    { openB e.key s with mem := { (openB e.key s).mem with bankBad := bad } })
  exact ⟨bad, a, hd⟩

/-- What the store of an HBM entry leaves, where its burst was asked for. -/
theorem hbmEntryStored {e : QEntry} {s u : State} {q : Nat} (hold : oldestEntry s q = some e) (hq : 512 ≤ e.q)
    (hmem : u.mem = (askBurst 1 e.key s).mem) (hsrc : SameHbmSource s u) (hclock : u.clock = s.clock) :
    ∃ t, dropEntry e (writeStored e.q e.key e.data e.mask u) = t ∧
      mget t.mem.hbm none e.key = some (maskWord (storedWord s e.q e.key) e.data e.mask) ∧
      (∀ k, k ≠ e.key → mget t.mem.hbm none k = mget s.mem.hbm none k) ∧ t.mem.banks = s.mem.banks ∧
      t.mem.queue = s.mem.queue.erase e ∧ (∀ k, committedWord t e.q k = committedWord s e.q k) ∧
      t.mem.pcReqs = s.mem.pcReqs ++ [(pcOf e.key, 1)] ∧ t.regs = u.regs := by
  have hhbm : u.mem.hbm = s.mem.hbm := by rw [hmem]; rfl
  have hword : storedWord u e.q e.key = storedWord s e.q e.key := storedWord_hbm_congr hsrc hq (by rw [hhbm])
  obtain ⟨a, hd⟩ := dropEntry_eq e (setHbm e.key (maskWord (storedWord s e.q e.key) e.data e.mask) u)
  refine ⟨_, rfl, ?_⟩
  rw [writeStored_hbm hq, hword, hd]
  have hbanks : u.mem.banks = s.mem.banks := by rw [hmem]; rfl
  have hreqs : u.mem.pcReqs = s.mem.pcReqs ++ [(pcOf e.key, 1)] := by rw [hmem]; rfl
  have hnew : mget (mset u.mem.hbm none e.key (some (maskWord (storedWord s e.q e.key) e.data e.mask))) none e.key =
      some (maskWord (storedWord s e.q e.key) e.data e.mask) := mget_mset_same ..
  have hqueue : u.mem.queue.erase e = s.mem.queue.erase e := by rw [hmem]; rfl
  have hother : ∀ k, k ≠ e.key → mget (mset u.mem.hbm none e.key
      (some (maskWord (storedWord s e.q e.key) e.data e.mask))) none k = mget s.mem.hbm none k := fun k hk => by
    rw [mget_mset_other _ _ _ _ hk, hhbm]
  refine ⟨hnew, hother, hbanks, hqueue, ?_, hreqs, rfl⟩
  refine committedWord_stored hold hqueue hclock (storedWord_written hq hnew) fun k hk => ?_
  exact storedWord_hbm_congr (t := { u with mem := { u.mem with
    hbm := mset u.mem.hbm none e.key (some (maskWord (storedWord s e.q e.key) e.data e.mask))
    queue := u.mem.queue.erase e, allFour := a } }) hsrc hq (hother k hk)

/-- Settles O37: the arrivals by the clocks that run, the starts and the applies by what each leaves of the stores. -/
theorem wordsReturnAndEntriesApply : Obligations.WordsReturnAndEntriesApply := by
  refine ⟨fun cluster ctx n s hup hn hrun hstop => ?returns, fun cluster ctx s hup hrun => ?never,
    fun k s => ⟨_, rfl, fun r hr harr => ?arrived, fun r hr hlater => ?later, readArrivals_changes k s⟩,
    fun cluster ctx s hup => ⟨fun r hr => ⟨fun hbusy => ?waits, fun hfree hfatal hecc => ?starts, fun hfree hstop => ?stops⟩,
      fun hnone => ?noStart⟩,
    fun q e s hup hold => ?apply, fun q s hup hnone => ?noEntry⟩
  case returns => rw [exec_rdataReturn hup, rdataReturn_returns hn hrun hstop]
  case never => rw [exec_rdataReturn hup, rdataReturn_never hrun]
  case arrived =>
    refine ⟨?_, fun hm => ?_⟩
    · refine List.mem_append_right _ (List.mem_map_of_mem ?_)
      simp [hr, harr]
    · have hstay := (List.mem_filter.mp hm).2
      simp [harr] at hstay
  case later => exact List.mem_filter.mpr ⟨hr, by simpa using hlater⟩
  case waits => rw [exec_hbmAccessStart hup, hbmAccessStart_waits hr hbusy]
  case noStart =>
    rw [exec_hbmAccessStart hup, hbmAccessStart_none]
    rw [missedRead, List.find?_eq_none]
    exact fun r hm => by simpa using List.any_eq_false.mp hnone r hm
  case starts =>
    rw [exec_hbmAccessStart hup, hbmAccessStart_starts hr hfree hfatal hecc]
    refine ⟨_, rfl, ?_, ?_, ?_, fun h1 => ?_, fun h1 => ?_⟩
    · rw [hbmStart_mem]
      rfl
    · have hbusy : max (mget s.mem.pcBusy 0 (pcOf (r.key.getD 0))) (s.clock + 1) = s.clock + 1 := by omega
      rw [hbmStart_mem, ← hbusy]
      exact mget_mset_same ..
    · rw [hbmStart_mem]
      rfl
    · rw [hbmStart_corrected (s := burstEnded r s) h1]
      exact ⟨hbmCorrected_pendBit .., (Chg.after (m := 67141778) (hbmCorrected_chg ..)
        (.after (accessBegun_chg ..) (.after (burstEnded_chg ..) (.refl _ _)))).changes⟩
    · rw [hbmStart_clean (s := burstEnded r s) h1 hecc]
      exact (Chg.after (m := 32768) (accessBegun_chg ..) (burstEnded_chg ..)).changes
  case stops =>
    rw [exec_hbmAccessStart hup, hbmAccessStart_stops hr hfree hstop]
    refine ⟨_, rfl, faultStop_st _, fun h2 => ?_, fun hst => faultStop_pendBit ?_, (Chg.after (m := 101093010) (faultStop_chg _)
        (.after (hbmStart_chg ..) (.after (burstEnded_chg ..) (.refl _ _)))).changes⟩
    · rw [hbmStart_uncorrected (s := burstEnded r s) h2]
      exact ⟨faultStop_keepsMemCause (hbmUncorrected_bit ..),
        faultStop_keepsPending (by decide) (hbmUncorrected_pendBit ..)⟩
    · rwa [hbmStart_sch]
  case noEntry => rw [exec_pendingWriteApply hup, pendingApply_none hnone]
  case apply =>
    obtain ⟨heq, -⟩ := oldestEntry_split hold
    rw [exec_pendingWriteApply hup, pendingApply_some hold]
    refine ⟨fun hq hb hr => ?bank, fun hq hb => ?taken, fun hq hb hr => ?read, fun hq hwait => ?hbmTaken,
      fun hq hslot hfree hreq => ⟨fun hecc => ?hbm, fun hecc => ?uncorrected⟩⟩
    case taken => rw [applyEntry_bankTaken (heq ▸ hq) hb]
    case read => rw [applyEntry_bankRead (heq ▸ hq) hb hr]
    case hbmTaken => rw [applyEntry_hbmTaken (heq ▸ hq) hwait]
    case bank =>
      rw [← heq] at hq
      obtain ⟨bad, a, h⟩ := applyEntry_bankStored hq hb hr
      have hchg : Changes [.mem] s (applyEntry e s) := by
        rw [applyEntry_bank hq hb hr]
        exact (Chg.after (m := 32768) (dropEntry_chg ..) (.after (writeStored_chg ..) (openB_chg ..))).changes
      rw [h] at hchg ⊢
      have hnew := mget_mset_same s.mem.banks 0 e.key (maskWord (mget s.mem.banks 0 e.key) e.data e.mask)
      have hother := fun k (hk : k ≠ e.key) =>
        mget_mset_other s.mem.banks 0 0 (maskWord (mget s.mem.banks 0 e.key) e.data e.mask) hk
      refine ⟨_, rfl, hnew, fun k hk => hother k hk, rfl, rfl, rfl, ?_, hchg⟩
      refine committedWord_stored hold rfl rfl ?_ fun k hk => ?_
      · rw [storedWord_bank hq, storedWord_bank hq]
        exact hnew
      · rw [storedWord_bank hq, storedWord_bank hq]
        exact hother k hk
    case hbm =>
      rw [← heq] at hq
      rw [applyEntry_hbm hq hslot hfree hreq]
      by_cases h1 : eccOf s e.key = 1
      · have hcor := hbmCorrected_chg e.key (askBurst 1 e.key s)
        have hkey : (hbmCorrected e.key (askBurst 1 e.key s)).mem.hbmKey = s.mem.hbmKey := by
          rw [hcor.same .mem (by decide)]
          rfl
        obtain ⟨t, ht, hnew, hother, hbanks, hqueue, hwords, hreqs, hregs⟩ := hbmEntryStored
          (u := hbmCorrected e.key (askBurst 1 e.key s)) hold hq (hcor.same .mem (by decide))
          ⟨hcor.same .ident (by decide), hcor.same .img (by decide), hcor.same .sch (by decide),
            hkey⟩ (hcor.same .clock (by decide))
        rw [applyStored_corrected (s := askBurst 1 e.key s) hq h1, ht]
        refine ⟨t, rfl, hnew, hother, hbanks, hqueue, hwords, hreqs, fun _ => ⟨?_, ?_⟩, fun h => absurd h1 h⟩
        · rw [State.pendBit, bit_eq, reg_of_regs hregs, ← bit_eq]
          exact hbmCorrected_pendBit ..
        · rw [← ht]
          exact (Chg.after (m := 67141778) (dropEntry_chg ..) (.after (writeStored_chg ..)
            (.after (hbmCorrected_chg ..) (.after (askBurst_chg ..) (.refl _ _))))).changes
      · obtain ⟨t, ht, hnew, hother, hbanks, hqueue, hwords, hreqs, hregs⟩ := hbmEntryStored
          (u := askBurst 1 e.key s) hold hq rfl ⟨rfl, rfl, rfl, rfl⟩ rfl
        rw [applyStored_clean (s := askBurst 1 e.key s) (.inr ⟨h1, hecc⟩), ht]
        refine ⟨t, rfl, hnew, hother, hbanks, hqueue, hwords, hreqs, fun h => absurd h h1, fun _ => ?_⟩
        rw [← ht]
        exact (Chg.after (m := 32768) (dropEntry_chg ..) (.after (writeStored_chg ..) (askBurst_chg ..))).changes
    case uncorrected =>
      rw [← heq] at hq
      rw [applyEntry_hbm hq hslot hfree hreq, applyStored_uncorrected (s := askBurst 1 e.key s) hq hecc]
      refine ⟨_, rfl, faultStop_st _, faultStop_keepsPending (by decide) (hbmUncorrected_pendBit ..),
        fun hst => faultStop_pendBit ?_, ?_, (Chg.after (m := 101093010) (faultStop_chg _)
          (.after (hbmUncorrected_chg ..) (.after (dropEntry_chg ..) (.after (askBurst_chg ..) (.refl _ _))))).changes⟩
      · rw [(hbmUncorrected_chg ..).same .sch (by decide), (dropEntry_chg ..).same .sch (by decide)]
        exact hst
      · rw [faultStop_hbm, (hbmUncorrected_chg ..).same .mem (by decide)]
        obtain ⟨a, hd⟩ := dropEntry_eq e (askBurst 1 e.key s)
        rw [hd]
        rfl

end Sys2Proof.Proofs
end

section
/-!
Proofs of the family 02_boolean_processor: the flits of the Hatband, late deliveries and NAKs (O42).
-/
namespace Sys2Proof.Proofs
open Sys2Proof.Machine Sys2Proof.Laws

/-! ### Causes, events and counters of the Hatband -/

/-- From `s` to `t` no bit of HBD_CAUSE clears, and no event that is pending. -/
def HbdKept (s t : State) : Prop :=
  (∀ b, b < 32 → s.bit Reg.HBD_CAUSE b = true → t.bit Reg.HBD_CAUSE b = true) ∧
    ∀ e, e < 1536 → s.pendBit e = true → t.pendBit e = true

namespace HbdKept

theorem refl (s : State) : HbdKept s s := ⟨fun _ _ h => h, fun _ _ h => h⟩

theorem trans {s r t : State} (h : HbdKept s r) (k : HbdKept r t) : HbdKept s t :=
  ⟨fun b hb hs => k.1 b hb (h.1 b hb hs), fun e he hs => k.2 e he (h.2 e he hs)⟩

theorem of_bits {s t : State} (h : ∀ o, o = Reg.HBD_CAUSE ∨ o < 0x10C0 → ∀ i, i < 32 →
    (s.reg o).getLsbD i = true → (t.reg o).getLsbD i = true) : HbdKept s t := by
  refine ⟨fun b hb hs => ?_, fun e he hs => ?_⟩
  · rw [bit_eq] at hs ⊢
    exact h _ (.inl rfl) b hb hs
  · rw [State.pendBit, bit_eq] at hs ⊢
    exact h _ (.inr (by rw [pendReg_eq]; omega)) _ (Nat.mod_lt _ (by decide)) hs

theorem of_regs {s t : State} (h : t.regs = s.regs) : HbdKept s t :=
  of_bits fun o _ i _ hs => by rwa [reg_of_regs h]

end HbdKept

theorem raise_hbdKept (e : Nat) (s : State) : HbdKept s (raise e s) := .of_bits fun _ _ _ hi hs => raise_keeps hi hs

theorem hbdCause_regsBut (b kind : Nat) (loc : HbdLoc) (pos : Nat) (cyc : Word64) (s : State) :
    RegsBut [Reg.HBD_CAUSE, Reg.HBD_ERR_LOC, Reg.HBD_ERR_CYC, Reg.HBD_ERR_CYC + 4] s (hbdCause b kind loc pos cyc s) :=
  fun o ho => causeSet_reg s (fun h => ho (by simp [h])) fun h => ho (List.mem_cons_of_mem _ h)

theorem hbdCause_bit {b : Nat} (kind : Nat) (loc : HbdLoc) (pos : Nat) (cyc : Word64) (s : State) (hb : b < 32) :
    (hbdCause b kind loc pos cyc s).bit Reg.HBD_CAUSE b = true := causeSet_bit _ s hb

theorem hbdCause_hbdKept (b kind : Nat) (loc : HbdLoc) (pos : Nat) (cyc : Word64) (s : State) :
    HbdKept s (hbdCause b kind loc pos cyc s) := by
  refine .of_bits fun o ho i hi hs => ?_
  by_cases hc : o = Reg.HBD_CAUSE
  · subst hc
    exact causeSet_keeps hi (show Reg.HBD_CAUSE ∉ [Reg.HBD_ERR_LOC, Reg.HBD_ERR_CYC, Reg.HBD_ERR_CYC + 4] by decide) hs
  · have hlow : o < 0x10C0 := ho.resolve_left hc
    rwa [hbdCause_regsBut b kind loc pos cyc s o]
    simp only [List.mem_cons, List.not_mem_nil, or_false, Reg.HBD_CAUSE, Reg.HBD_ERR_LOC, Reg.HBD_ERR_CYC]
    omega

theorem hbdCnt_regsBut (k n : Nat) (s : State) :
    RegsBut [Reg.HBD_CNT + 4 * k, Reg.HBD_CNT_SAT, pendReg 0x204] s (hbdCnt k n s) := by
  intro o ho
  simp only [List.mem_cons, List.not_mem_nil, or_false, not_or] at ho
  obtain ⟨hcnt, hsat, hpend⟩ := ho
  exact satAdd_reg s hcnt hsat fun e he => Option.some.inj he ▸ hpend

theorem hbdCnt_hbdKept (k n : Nat) (s : State) : HbdKept s (hbdCnt k n s) := by
  refine .of_bits fun o ho i hi hs => ?_
  have hcnt : o ≠ Reg.HBD_CNT + 4 * k ∧ o ≠ Reg.HBD_CNT_SAT := by
    simp only [Reg.HBD_CAUSE, Reg.HBD_CNT, Reg.HBD_CNT_SAT] at ho ⊢
    omega
  have hset : ((s.setReg (Reg.HBD_CNT + 4 * k) 0xFFFFFFFF).setBit Reg.HBD_CNT_SAT k true).reg o = s.reg o := by
    rw [reg_setBit_other _ _ _ hcnt.2, reg_setReg_other _ _ hcnt.1]
  unfold hbdCnt satAdd
  dsimp only
  split
  · exact hs
  · split
    · rwa [reg_setReg_other _ _ hcnt.1]
    · exact raise_keeps hi (by rwa [hset])

theorem faultStop_hbdKept (s : State) : HbdKept s (faultStop s) := by
  refine ⟨fun b _ hs => ?_, fun e he hs => faultStop_keepsPending he hs⟩
  rw [bit_eq] at hs ⊢
  rwa [faultStop_regsBut s _ (by decide)]

/-! ### VC0 faults (R231) -/

theorem flitFault_bit_lt (k : FlitFault) : k.bit < 32 := by cases k <;> decide

/-- A VC0 fault is in HBD_CAUSE, its event is pending, and it counts. -/
def faultNoted (k : FlitFault) (loc : HbdLoc) (pos : Nat) (cyc : Word64) (s : State) : State :=
  hbdCnt 1 1 (raise 0x200 (hbdCause k.bit (k.bit + 1) loc pos cyc s))

/-- The execution is cut, as one that aborts for parity. -/
def vc0Cut (s : State) : State :=
  { cutExec s with sch := { (cutExec s).sch with exec := (cutExec s).sch.exec.map (fun e => { e with vc0 := true }) } }

section
variable (k : FlitFault) (loc : HbdLoc) (pos serial : Nat) (cyc : Word64) {s : State}

theorem faultNoted_sch (s : State) : (faultNoted k loc pos cyc s).sch = s.sch := by
  rw [faultNoted, (hbdCnt_chg ..).same .sch (by decide), (raise_chg ..).same .sch (by decide),
    (hbdCause_chg ..).same .sch (by decide)]

theorem faultNoted_bit (s : State) : (faultNoted k loc pos cyc s).bit Reg.HBD_CAUSE k.bit = true :=
  ((raise_hbdKept ..).trans (hbdCnt_hbdKept ..)).1 _ (flitFault_bit_lt k) (hbdCause_bit _ _ _ _ _ (flitFault_bit_lt k))

theorem faultNoted_pendBit (s : State) : (faultNoted k loc pos cyc s).pendBit 0x200 = true :=
  (hbdCnt_hbdKept ..).2 _ (by decide) (raise_pendBit (by simp [eventAbsent]))

theorem vc0Fault_eq (s : State) : vc0Fault k loc pos serial cyc s =
    if (faultNoted k loc pos cyc s).sch.exec.any (fun e => e.serial == serial) then vc0Cut (faultNoted k loc pos cyc s)
    else faultNoted k loc pos cyc s := rfl

theorem vc0Fault_regs (s : State) : (vc0Fault k loc pos serial cyc s).regs = (faultNoted k loc pos cyc s).regs := by
  rw [vc0Fault_eq]
  split
  · exact cutExec_regs _
  · rfl

theorem vc0Fault_bit (s : State) : (vc0Fault k loc pos serial cyc s).bit Reg.HBD_CAUSE k.bit = true := by
  rw [bit_eq, reg_of_regs (vc0Fault_regs ..), ← bit_eq]
  exact faultNoted_bit ..

theorem vc0Fault_pendBit (s : State) : (vc0Fault k loc pos serial cyc s).pendBit 0x200 = true := by
  rw [State.pendBit, bit_eq, reg_of_regs (vc0Fault_regs ..), ← bit_eq]
  exact faultNoted_pendBit ..

theorem vc0Cut_exec {e : Exec} (h : s.sch.exec = some e) :
    ∃ e', (vc0Cut s).sch.exec = some e' ∧ e'.vc0 = true ∧ e'.aborted = true := by
  unfold vc0Cut cutExec
  rw [h]
  exact ⟨_, rfl, rfl, rfl⟩

/-- A fault in a flit of the execution that runs cuts it. -/
theorem vc0Fault_cuts {e : Exec} (h : s.sch.exec = some e) (hs : e.serial = serial) :
    ∃ e', (vc0Fault k loc pos serial cyc s).sch.exec = some e' ∧ e'.vc0 = true ∧ e'.aborted = true := by
  have hexec : (faultNoted k loc pos cyc s).sch.exec = some e := by rw [faultNoted_sch, h]
  rw [vc0Fault_eq, if_pos (by simp [hexec, hs])]
  exact vc0Cut_exec hexec

/-- A fault in a flit of another execution cuts none. -/
theorem vc0Fault_spares {e : Exec} (h : s.sch.exec = some e) (hs : e.serial ≠ serial) :
    (vc0Fault k loc pos serial cyc s).sch.exec = some e := by
  have hexec : (faultNoted k loc pos cyc s).sch.exec = some e := by rw [faultNoted_sch, h]
  rw [vc0Fault_eq, if_neg (by simp [hexec, hs]), hexec]

/-- The capture of a first fault holds the planned position (R77). -/
theorem vc0Fault_captures (s : State) (h : s.reg Reg.HBD_CAUSE = 0) :
    bitsOf ((vc0Fault k loc pos serial cyc s).reg Reg.HBD_ERR_LOC) 0 12 = pos % 4096 := by
  rw [reg_of_regs (vc0Fault_regs ..), faultNoted, hbdCnt_regsBut _ _ _ _ (by decide), raise_reg _ (by decide), hbdCause,
    causeSet, if_pos h, reg_setBit_other _ _ _ (by decide)]
  simp only [forEach, List.foldl_cons, List.foldl_nil]
  rw [reg_setReg_other _ _ (by decide), reg_setReg_other _ _ (by decide), reg_setReg_same, bitsOf, BitVec.toNat_ofNat,
    Nat.shiftRight_zero]
  omega

end

/-! ### NAKs (R235, R236) -/

theorem hbdRetx_hbd (l : HbdLink) (src : BitVec 9) (s : State) : (hbdRetx l src s).hbd = s.hbd :=
  (hbdRetx_chg ..).same .hbd (by decide)

theorem hbdRetx_bit (l : HbdLink) (src : BitVec 9) (s : State) : (hbdRetx l src s).bit Reg.HBD_CAUSE 6 = true :=
  (hbdCnt_hbdKept ..).1 _ (by decide) (hbdCause_bit _ _ _ _ _ (by decide))

theorem hbdRetx_regsBut (l : HbdLink) (src : BitVec 9) (s : State) :
    RegsBut [Reg.HBD_CAUSE, Reg.HBD_ERR_LOC, Reg.HBD_ERR_CYC, Reg.HBD_ERR_CYC + 4, Reg.HBD_CNT + 16, Reg.HBD_CNT_SAT,
      pendReg 0x204] s (hbdRetx l src s) :=
  regsBut_trans (regsBut_mono (hbdCause_regsBut _ _ _ _ _ _) (by simp)) (regsBut_mono (hbdCnt_regsBut 4 1 _) (by decide))

theorem hbdRetx_hbdKept (l : HbdLink) (src : BitVec 9) (s : State) : HbdKept s (hbdRetx l src s) :=
  (hbdCause_hbdKept ..).trans (hbdCnt_hbdKept ..)

theorem hbdLinkFail_hbd (l : HbdLink) (s : State) : (hbdLinkFail l s).hbd = { s.hbd with linkFailed := true } := by
  rw [hbdLinkFail, (raise_chg ..).same .hbd (by decide), (hbdCause_chg ..).same .hbd (by decide)]

theorem hbdLinkFail_sch (l : HbdLink) (s : State) : (hbdLinkFail l s).sch = s.sch := (hbdLinkFail_chg ..).same .sch (by decide)

theorem hbdLinkFail_bit (l : HbdLink) (s : State) : (hbdLinkFail l s).bit Reg.HBD_CAUSE 7 = true :=
  (raise_hbdKept ..).1 _ (by decide) (hbdCause_bit _ _ _ _ _ (by decide))

theorem hbdLinkFail_pendBit (l : HbdLink) (s : State) : (hbdLinkFail l s).pendBit 0x201 = true :=
  raise_pendBit (by simp [eventAbsent])

theorem hbdLinkFail_hbdKept (l : HbdLink) (s : State) : HbdKept s (hbdLinkFail l s) := by
  have hmark : HbdKept s { s with hbd := { s.hbd with linkFailed := true } } := .of_regs rfl
  unfold hbdLinkFail
  exact (hmark.trans (hbdCause_hbdKept ..)).trans (raise_hbdKept ..)

theorem faultStop_hbd (s : State) : (faultStop s).hbd = s.hbd := (faultStop_chg s).same .hbd (by decide)

/-- A link that failed stops the module (R236). -/
theorem linkFailStop (l : HbdLink) (s : State) : (faultStop (hbdLinkFail l s)).hbd = { s.hbd with linkFailed := true } ∧
    (faultStop (hbdLinkFail l s)).sch.st = .faultStop ∧ (faultStop (hbdLinkFail l s)).bit Reg.HBD_CAUSE 7 = true ∧
    (faultStop (hbdLinkFail l s)).pendBit 0x201 = true :=
  ⟨by rw [faultStop_hbd, hbdLinkFail_hbd], faultStop_st _, (faultStop_hbdKept _).1 _ (by decide) (hbdLinkFail_bit ..),
    (faultStop_hbdKept _).2 _ (by decide) (hbdLinkFail_pendBit ..)⟩

/-- A flit that State does not hold has been named by one more NAK. -/
def nakCounted (n : LinkNak) (seq : Nat) (s : State) : State :=
  { s with hbd := { s.hbd with
    unaccepted := mset s.hbd.unaccepted (16, 0) (linkKey n.link) (seq, sentTimes s n seq + 1) } }

section
variable {n : LinkNak} {seq : Nat} {s : State}

theorem hbdNak_held {v : VcFlit} (h : nakFlit s n.link seq = some v) : hbdNak n seq s =
    if 5 ≤ v.sent then faultStop (hbdLinkFail n.link s) else hbdRetx n.link (BitVec.ofNat 9 v.flit.src) (nakBack n.link seq s) := by
  rw [hbdNak, h]

theorem hbdNak_unheld (h : nakFlit s n.link seq = none) : hbdNak n seq s =
    if 5 ≤ sentTimes s n seq then faultStop (hbdLinkFail n.link s) else hbdRetx n.link n.src (nakCounted n seq s) := by
  rw [hbdNak, h]
  rfl

theorem hbdNak_cases (n : LinkNak) (seq : Nat) (s : State) : hbdNak n seq s = faultStop (hbdLinkFail n.link s) ∨
    ∃ src u, hbdNak n seq s = hbdRetx n.link src u ∧ u.regs = s.regs ∧ u.sch = s.sch ∧ u.hbd.flits = s.hbd.flits := by
  cases h : nakFlit s n.link seq with
  | some v =>
    rw [hbdNak_held h]
    split
    · exact .inl rfl
    · exact .inr ⟨_, _, rfl, rfl, rfl, rfl⟩
  | none =>
    rw [hbdNak_unheld h]
    split
    · exact .inl rfl
    · exact .inr ⟨_, _, rfl, rfl, rfl, rfl⟩

/-- A NAK discards no VC0 flit. -/
theorem hbdNak_flits (n : LinkNak) (seq : Nat) (s : State) : (hbdNak n seq s).hbd.flits = s.hbd.flits := by
  rcases hbdNak_cases n seq s with h | ⟨src, u, h, -, -, hflits⟩ <;> rw [h]
  · rw [(linkFailStop ..).1]
  · rw [hbdRetx_hbd, hflits]

theorem hbdNak_hbdKept (n : LinkNak) (seq : Nat) (s : State) : HbdKept s (hbdNak n seq s) := by
  rcases hbdNak_cases n seq s with h | ⟨src, u, h, hregs, -, -⟩ <;> rw [h]
  · exact (hbdLinkFail_hbdKept ..).trans (faultStop_hbdKept _)
  · exact (HbdKept.of_regs hregs).trans (hbdRetx_hbdKept ..)

end

/-! ### Sideband failures (R237) -/

theorem sidebandFail_idle {n : LinkNak} {pos seq : Nat} {s : State} (h : s.sch.exec = none) :
    sidebandFail n pos seq s = hbdNak n seq s := by
  rw [sidebandFail, h]

theorem sidebandFail_running {n : LinkNak} {pos seq : Nat} {s : State} {e : Exec} (h : s.sch.exec = some e) :
    sidebandFail n pos seq s = hbdNak n seq (vc0Fault .sideband (linkEnd n.link n.src) pos e.serial e.num s) := by
  rw [sidebandFail, h]

theorem vc0Fault_hbd (k : FlitFault) (loc : HbdLoc) (pos serial : Nat) (cyc : Word64) (s : State) :
    (vc0Fault k loc pos serial cyc s).hbd = s.hbd := (vc0Fault_chg ..).same .hbd (by decide)

theorem sidebandFail_flits (n : LinkNak) (pos seq : Nat) (s : State) : (sidebandFail n pos seq s).hbd.flits = s.hbd.flits := by
  cases h : s.sch.exec with
  | none => rw [sidebandFail_idle h, hbdNak_flits]
  | some e => rw [sidebandFail_running h, hbdNak_flits, vc0Fault_hbd]

theorem sidebandFail_reports {n : LinkNak} {pos seq : Nat} {s : State} {e : Exec} (h : s.sch.exec = some e) :
    (sidebandFail n pos seq s).bit Reg.HBD_CAUSE 2 = true ∧ (sidebandFail n pos seq s).pendBit 0x200 = true := by
  rw [sidebandFail_running h]
  exact ⟨(hbdNak_hbdKept ..).1 _ (by decide) (vc0Fault_bit .sideband _ _ _ _ _),
    (hbdNak_hbdKept ..).2 _ (by decide) (vc0Fault_pendBit .sideband _ _ _ _ _)⟩

/-! ### The flits of VC0: arrivals and upsets -/

theorem exec_inboundValueArrival {src : BitVec 9} {pos : BitVec 12} {x : Option FlitUpset} {s : State} (hup : s.up = true) :
    exec (.inboundValueArrival src pos x) s = .next (valueArrives src.toNat pos.toNat x s) := run_up _ hup

section
variable {src pos : Nat} {f : Flit} {s : State}

theorem valueArrives_none {x : Option FlitUpset} (h : s.hbd.flits.find? (fun f => f.src == src && f.pos == pos) = none) :
    valueArrives src pos x s = s := by
  simp only [valueArrives, h]

theorem flitLands_after {n : Nat} (hn : n ≤ 64) (hrun : ∀ i, i < n → (clockTick^[i] s).hbd.flits.contains f = true)
    (hstop : (clockTick^[n] s).hbd.flits.contains f = false) : flitLands f s = clockTick^[n] s := by
  rw [flitLands, clocksUntil_iterate hn (fun i hi => by rw [hrun i hi]; rfl) (by rw [hstop]; rfl), Option.getD_some]

theorem flitLands_never (hrun : ∀ i, i ≤ 64 → (clockTick^[i] s).hbd.flits.contains f = true) : flitLands f s = s := by
  rw [flitLands, clocksUntil_never (fun i hi => by rw [hrun i hi]; rfl), Option.getD_none]

variable (hf : s.hbd.flits.find? (fun f => f.src == src && f.pos == pos) = some f)
include hf

theorem valueArrives_plain : valueArrives src pos none s = flitLands f s := by
  simp only [valueArrives, hf]

theorem valueArrives_missed {u : FlitUpset} (h : flitLinks f ≤ u.link ∨ checkClk f u.link < s.clock) :
    valueArrives src pos (some u) s = flitLands f s := by
  simp only [valueArrives, hf, if_pos h]

theorem valueArrives_met {u : FlitUpset} {t : State} (hlink : u.link < flitLinks f) (hclk : s.clock ≤ checkClk f u.link)
    (ht : clocksUntil 64 (fun t => !t.hbd.flits.contains f || decide (checkClk f u.link ≤ t.clock)) s = some t) :
    valueArrives src pos (some u) s = if !t.hbd.flits.contains f then t
      else flitLands { upsetFlit f u.words with changed := true } (flitMeets f u t) := by
  have hmeets : ¬ (flitLinks f ≤ u.link ∨ checkClk f u.link < s.clock) := by omega
  simp only [valueArrives, hf, if_neg hmeets, ht]

end

theorem checkClk_eq {f : Flit} {k : Nat} (h : k < flitLinks f) :
    checkClk f k = f.injected + (if k ≤ 1 then 1 else if f.hops ≠ 0 ∧ k = f.hops + 1 then f.hops + 2 else k) := by
  unfold flitLinks at h
  unfold checkClk linkDelay
  congr 1
  split <;> split <;> try split
  all_goals omega

section
variable {f : Flit} {u : FlitUpset} {s : State}

/-- The state without the flit. -/
def flitGone (f : Flit) (s : State) : State := { s with hbd := { s.hbd with flits := s.hbd.flits.erase f } }

theorem flitMeets_sideband (h : vc0Check s f u = some .sideband) : flitMeets f u s =
    sidebandFail (nakOf f u.link (upsetFlit f u.words).src) ((upsetFlit f u.words).pos + linkDelay f u.link) u.seq.toNat
      (flitGone f s) := by
  simp only [flitMeets, h]
  rfl

theorem flitMeets_fault {k : FlitFault} (h : vc0Check s f u = some k) (hk : k ≠ .sideband) : flitMeets f u s =
    vc0Fault k (linkLoc f u.link (upsetFlit f u.words).src) ((upsetFlit f u.words).pos + linkDelay f u.link) f.exec f.cyc
      (flitGone f s) := by
  cases k with
  | sideband => exact absurd rfl hk
  | _ =>
    simp only [flitMeets, h]
    rfl

theorem flitMeets_passes (h : vc0Check s f u = none) : flitMeets f u s = { s with hbd := { s.hbd with
    flits := if u.side.toNat / 128 = 0 then s.hbd.flits.erase f ++ [{ upsetFlit f u.words with changed := true }]
      else s.hbd.flits.erase f } } := by
  simp only [flitMeets, h]

theorem flitMeets_flits {k : FlitFault} (h : vc0Check s f u = some k) : (flitMeets f u s).hbd.flits = s.hbd.flits.erase f := by
  by_cases hk : k = .sideband
  · subst hk
    rw [flitMeets_sideband h, sidebandFail_flits]
    rfl
  · rw [flitMeets_fault h hk, vc0Fault_hbd]
    rfl

theorem flitMeets_reports {k : FlitFault} (h : vc0Check s f u = some k) (hrun : k ≠ .sideband ∨ s.sch.exec.isSome = true) :
    (flitMeets f u s).bit Reg.HBD_CAUSE k.bit = true ∧ (flitMeets f u s).pendBit 0x200 = true := by
  by_cases hk : k = .sideband
  · subst hk
    obtain ⟨e, he⟩ := Option.isSome_iff_exists.mp (hrun.resolve_left (fun hne => hne rfl))
    rw [flitMeets_sideband h]
    exact sidebandFail_reports (s := flitGone f s) he
  · rw [flitMeets_fault h hk]
    exact ⟨vc0Fault_bit .., vc0Fault_pendBit ..⟩

end

/-! ### Values at their slots (R61, R233) -/

/-- The slot of value `j` of a flit. -/
def slotOf (c base j : Nat) : Nat := 4096 * c + (base + j) % 4096

theorem slotOf_inj {c base i j : Nat} (hi : i < 128) (hj : j < 128) (h : slotOf c base i = slotOf c base j) : i = j := by
  unfold slotOf at h
  omega

/-- The inbound values are `x`, and the slots of `l` have been reached in this clock. -/
def slotsReached (x : SMap Bool) (l : List Nat) (s : State) : State :=
  { s with clu := { s.clu with inVal := x, inArriving := s.clu.inArriving ++ l } }

theorem deliverBit_free {c i src : Nat} {v : Bool} {s : State} (hvalid : mget s.clu.inValid false (4096 * c + i) = false)
    (harr : s.clu.inArriving.contains (4096 * c + i) = false) :
    deliverBit c i v src s = slotsReached (mset s.clu.inVal false (4096 * c + i) v) [4096 * c + i] s := by
  unfold deliverBit
  dsimp only
  rw [if_neg (by rw [hvalid, harr]; decide)]
  rfl

theorem slotsReached_twice (x y : SMap Bool) (l m : List Nat) (s : State) :
    slotsReached y m (slotsReached x l s) = slotsReached y (l ++ m) s := by
  simp only [slotsReached, List.append_assoc]

theorem forEach_range_succ (n : Nat) (f : Nat → State → State) (s : State) :
    forEach (List.range (n + 1)) f s = f n (forEach (List.range n) f s) := by
  simp only [forEach, List.range_succ, List.foldl_append, List.foldl_cons, List.foldl_nil]

/-- The first `n` values are in their slots. -/
theorem deliverBits {c base src : Nat} {values : BitVec 128} {s : State} (n : Nat) (hn : n ≤ 128)
    (hfree : ∀ j, j < n → mget s.clu.inValid false (slotOf c base j) = false ∧
      s.clu.inArriving.contains (slotOf c base j) = false) :
    ∃ x, forEach (List.range n) (fun j s => deliverBit c ((base + j) % 4096) (values.getLsbD j) src s) s =
        slotsReached x ((List.range n).map (slotOf c base)) s ∧
      ∀ j, j < n → mget x false (slotOf c base j) = values.getLsbD j := by
  induction n with
  | zero => exact ⟨s.clu.inVal, by simp [forEach, slotsReached], fun j hj => absurd hj (Nat.not_lt_zero j)⟩
  | succ n ih =>
    obtain ⟨x, hx, hvals⟩ := ih (by omega) fun j hj => hfree j (by omega)
    obtain ⟨hvalid, hold⟩ := hfree n (by omega)
    have hnew : (s.clu.inArriving ++ (List.range n).map (slotOf c base)).contains (slotOf c base n) = false := by
      simp only [List.contains_eq_mem, decide_eq_false_iff_not, List.mem_append, List.mem_map, List.mem_range, not_or,
        not_exists, not_and] at hold ⊢
      refine ⟨hold, fun j hj heq => ?_⟩
      have hsame : j = n := slotOf_inj (by omega) (by omega) heq
      omega
    refine ⟨mset x false (slotOf c base n) (values.getLsbD n), ?_, fun j hj => ?_⟩
    · rw [forEach_range_succ, hx, deliverBit_free (s := slotsReached x ((List.range n).map (slotOf c base)) s) hvalid hnew,
        slotsReached_twice, List.range_succ, List.map_append]
      rfl
    · by_cases h : j = n
      · subst h
        exact mget_mset_same ..
      · rw [mget_mset_other _ _ _ _ fun heq => h (slotOf_inj (by omega) (by omega) heq)]
        exact hvals j (by omega)

section
variable {c base lenM1 src : Nat} {values : BitVec 128} {cyc : Word64} {live : Bool} {s : State}

theorem deliverValues_mine {n : Word64} (hcur : s.curCycle = some n) (h : n.toNat % 32 = cyc.toNat % 32) :
    deliverValues c base lenM1 values cyc src true s =
      forEach (List.range (lenM1 + 1)) (fun j s => deliverBit c ((base + j) % 4096) (values.getLsbD j) src s) s := by
  simp only [deliverValues, hcur, h, Bool.true_and, beq_self_eq_true, if_true]

theorem deliverValues_late (h : live = false ∨ ∀ n, s.curCycle = some n → n.toNat % 32 ≠ cyc.toNat % 32) :
    deliverValues c base lenM1 values cyc src live s = lateDrop c src cyc s := by
  unfold deliverValues
  cases hcur : s.curCycle with
  | none => exact if_neg Bool.false_ne_true
  | some n =>
    refine if_neg fun hm => ?_
    simp only [Bool.and_eq_true, beq_iff_eq] at hm
    rcases h with h | h
    · simp [h] at hm
    · exact h n hcur hm.2

theorem lateDrop_bit (c src : Nat) (cyc : Word64) (s : State) : (lateDrop c src cyc s).bit Reg.HBD_CAUSE 4 = true :=
  ((raise_hbdKept ..).trans (hbdCnt_hbdKept ..)).1 _ (by decide) (hbdCause_bit _ _ _ _ _ (by decide))

theorem lateDrop_pendBit (c src : Nat) (cyc : Word64) (s : State) : (lateDrop c src cyc s).pendBit 0x202 = true :=
  (hbdCnt_hbdKept ..).2 _ (by decide) (raise_pendBit (by simp [eventAbsent]))

end

/-! ### The flits at the end of a link -/

theorem mem_onLink {l : HbdLink} {f : Flit} {pos : Nat} {s : State} : (f, pos) ∈ onLink s l ↔
    f ∈ s.hbd.flits ∧ ∃ k, k < flitLinks f ∧ checkClk f k = s.clock ∧ pathLink f k = l ∧ pos = f.pos + linkDelay f k := by
  simp only [onLink, List.mem_flatMap, List.mem_map, List.mem_filter, List.mem_range, Bool.and_eq_true, beq_iff_eq,
    Prod.mk.injEq]
  constructor
  · rintro ⟨f', hf, k, ⟨hk, hclk, hl⟩, rfl, rfl⟩
    exact ⟨hf, k, hk, hclk, hl, rfl⟩
  · rintro ⟨hf, k, hk, hclk, hl, rfl⟩
    exact ⟨f, hf, k, ⟨hk, hclk, hl⟩, rfl, rfl⟩

/-! ### Late deliveries (R127, R232) -/

theorem exec_lateDelivery {entry : Nat} {first lenM1 : BitVec 7} {upset : Option FlitUpset} {held : Bool} {s : State}
    (hup : s.up = true) : exec (.lateDelivery entry first lenM1 upset held) s =
      .next (lateDelivery entry first.toNat lenM1.toNat upset held s) := run_up _ hup

/-- A hub may send the values of an entry from `first` on as a late delivery. -/
def lateMay (s : State) (e : SlotHbd) (entry first lenM1 : Nat) (n : Word64) : Bool :=
  isHubNi e.src && first + lenM1 ≤ e.lenM1 && lateAllowed s e.pos && redelivNext s e.src entry first lenM1 n &&
    (((entryRecs s e n).drop first).take (lenM1 + 1)).all
      (fun x => match x with | some y => !y.stale && !y.delivNow | none => false)

section
variable {entry first lenM1 : Nat} {upset : Option FlitUpset} {held : Bool} {s0 : State}

theorem lateDelivery_eq {e : SlotHbd} {r : Route} {n : Word64} (hcur : (reopen s0).curCycle = some n)
    (he : (reopen s0).hbdEntries[entry]? = some e) (hr : findRoute (reopen s0).routes e = some r) :
    lateDelivery entry first lenM1 upset held s0 = if lateMay (reopen s0) e entry first lenM1 n then
      lateSend e r first ((((entryRecs (reopen s0) e n).drop first).take (lenM1 + 1)).filterMap id) n upset held
        { reopen s0 with lnk := { (reopen s0).lnk with redeliv := (reopen s0).lnk.redeliv.filter (fun q =>
          !(q.1 == entry && first ≤ q.2 && q.2 ≤ first + lenM1)) } } else s0 := by
  simp only [lateDelivery, hcur, he, hr]
  rfl

theorem lateDelivery_nothing (h : (reopen s0).curCycle = none ∨ (reopen s0).hbdEntries[entry]? = none ∨
    (∃ e, (reopen s0).hbdEntries[entry]? = some e ∧ findRoute (reopen s0).routes e = none)) :
    lateDelivery entry first lenM1 upset held s0 = s0 := by
  unfold lateDelivery
  dsimp only
  split
  · next e n he hcur =>
    rcases h with h | h | ⟨e', he', hr⟩
    · simp [hcur] at h
    · simp [he] at h
    · obtain rfl : e = e' := Option.some.inj (he.symm.trans he')
      rw [hr]
  · rfl

end

/-- The packet of a late delivery waits in its NI. -/
def latePacket (e : SlotHbd) (r : Route) (first : Nat) (xs : List HubRec) (n : Word64) (upset : Option FlitUpset)
    (held : Bool) (s : State) : State :=
  { markDelivered xs s with hbd := { s.hbd with vcs := s.hbd.vcs ++ [{
    vc := 1, pri := 3, opc := 0x1E, flit := { lateFlit e r first xs n with injected := s.clock }
    due := s.clock, upset := upset, held := held }] } }

section
variable (e : SlotHbd) (r : Route) (first : Nat) (xs : List HubRec) (n : Word64) (upset : Option FlitUpset) (held : Bool)
  (s : State)

theorem lateSend_eq : lateSend e r first xs n upset held s = hbdCnt 5 1 (latePacket e r first xs n upset held s) := rfl

theorem lateSend_lnk : (lateSend e r first xs n upset held s).lnk = (markDelivered xs s).lnk := by
  rw [lateSend_eq, (hbdCnt_chg ..).same .lnk (by decide)]
  rfl

theorem lateSend_hbd : (lateSend e r first xs n upset held s).hbd = { s.hbd with vcs := s.hbd.vcs ++ [{
    vc := 1, pri := 3, opc := 0x1E, flit := { lateFlit e r first xs n with injected := s.clock }
    due := s.clock, upset := upset, held := held }] } := by
  rw [lateSend_eq, (hbdCnt_chg ..).same .hbd (by decide)]
  rfl

theorem lateSend_regsBut : RegsBut [Reg.HBD_CNT + 20, Reg.HBD_CNT_SAT, pendReg 0x204] s
    (lateSend e r first xs n upset held s) := by
  have hpacket : (latePacket e r first xs n upset held s).regs = s.regs := rfl
  rw [lateSend_eq]
  exact regsBut_trans (regsBut_of_regs _ hpacket) (hbdCnt_regsBut 5 1 _)

end

/-! ### The choice of a link (R222, R223) -/

theorem vcPick_least {l : VcLink} {c : List VcFlit} (h : c ≠ []) :
    ∃ v, vcPick l c = some v ∧ v ∈ c ∧ ∀ u, u ∈ c → vcRank l v ≤ vcRank l u := by
  induction c with
  | nil => exact absurd rfl h
  | cons w c ih =>
    by_cases hc : c = []
    · subst hc
      exact ⟨w, rfl, by simp, by simp⟩
    · obtain ⟨v, hv, hmem, hleast⟩ := ih hc
      rw [vcPick, hv]
      dsimp only
      by_cases hlt : vcRank l v < vcRank l w
      · refine ⟨v, if_pos hlt, List.mem_cons_of_mem _ hmem, fun u hu => ?_⟩
        rcases List.mem_cons.mp hu with rfl | hu
        · exact hlt.le
        · exact hleast u hu
      · refine ⟨w, if_neg hlt, List.mem_cons_self .., fun u hu => ?_⟩
        rcases List.mem_cons.mp hu with rfl | hu
        · exact le_rfl
        · exact (Nat.not_lt.mp hlt).trans (hleast u hu)

section
variable {busy : Nat → Bool} {l ready : List VcFlit} {key : Nat} {s : State}

theorem vcLinkClock_taken (h : vc0On s key = true ∨ busy key = true) : vcLinkClock busy l ready key s = s :=
  if_pos ((Bool.or_eq_true ..).mpr h)

theorem vcLinkClock_free (h0 : vc0On s key = false) (hb : busy key = false) : vcLinkClock busy l ready key s =
    match vcPick (mget s.hbd.links {} key) (ready.filter (fun v => vcKey v == key && vcCredit l v)) with
    | some v => vcMove v s
    | none => s := if_neg (by rw [h0, hb]; decide)

theorem vcLinkClock_none (h0 : vc0On s key = false) (hb : busy key = false)
    (hc : ready.filter (fun v => vcKey v == key && vcCredit l v) = []) : vcLinkClock busy l ready key s = s := by
  rw [vcLinkClock_free h0 hb, hc]
  rfl

theorem vcLinkClock_moves {v : VcFlit} (h0 : vc0On s key = false) (hb : busy key = false)
    (hv : vcPick (mget s.hbd.links {} key) (ready.filter (fun v => vcKey v == key && vcCredit l v)) = some v) :
    vcLinkClock busy l ready key s = vcMove v s := by
  rw [vcLinkClock_free h0 hb, hv]

end

/-! ### The order of a link's choice -/

theorem vcRank_again {x : VcLink} {v : VcFlit} (h : v.again = true) : vcRank x v < 16 := by
  rw [vcRank, if_pos h]
  exact Nat.mod_lt _ (by decide)

/-- The port of a flit in the order after the port that was served last. -/
def portRank (x : VcLink) (v : VcFlit) : Nat := (vcPort v + 2 ^ 13 - 1 - x.last % 2 ^ 13) % 2 ^ 13

theorem portRank_lt (x : VcLink) (v : VcFlit) : portRank x v < 2 ^ 13 := Nat.mod_lt _ (by decide)

theorem vcRank_first {x : VcLink} {v : VcFlit} (h : v.again = false) :
    vcRank x v = 16 + 2 ^ 15 * (3 - (if v.aged then 3 else v.pri)) + 2 ^ 13 * v.vc + portRank x v :=
  if_neg (by rw [h]; decide)

theorem vcRank_again_lt {x : VcLink} {u v : VcFlit} (hu : u.again = false) (hv : v.again = true) :
    vcRank x v < vcRank x u := by
  have hlow := vcRank_again (x := x) hv
  rw [vcRank_first hu]
  omega

section
variable {x : VcLink} {u v : VcFlit} {p q : Nat} (hu : u.again = false) (hv : v.again = false) (hvc : v.vc ≤ 3)
  (hp : p = if u.aged then 3 else u.pri) (hq : q = if v.aged then 3 else v.pri)
include hu hv hp hq

theorem vcRank_channel (hpq : p = q) (hlt : v.vc < u.vc) : vcRank x v < vcRank x u := by
  have hport := portRank_lt x v
  rw [vcRank_first hu, vcRank_first hv, ← hp, ← hq, hpq]
  omega

include hvc in
theorem vcRank_priority (hq3 : q ≤ 3) (hlt : p < q) : vcRank x v < vcRank x u := by
  have hport := portRank_lt x v
  rw [vcRank_first hu, vcRank_first hv, ← hp, ← hq]
  omega

end

theorem vcCredit_iff {l : List VcFlit} {v : VcFlit} (hv : v.again = false) (hhop : v.hop ≤ v.flit.hops) :
    vcCredit l v = true ↔ (l.filter (takesRoom (vcKey v) v.vc (pastDateline v.flit (v.hop + 1)))).length < 4 := by
  have hhere : v.hop ≠ v.flit.hops + 1 := by omega
  simp [vcCredit, hv, hhere]

/-- A flit alone finds a credit. -/
theorem vcCredit_alone (v : VcFlit) : vcCredit [v] v = true := by
  have hroom : ([v].filter (takesRoom (vcKey v) v.vc (pastDateline v.flit (v.hop + 1)))).length < 4 :=
    (List.length_filter_le ..).trans_lt (by simp)
  simp [vcCredit, hroom]

/-! ### A head that waits (R223) -/

/-- The head is promoted in this clock. -/
def vcPromoted (v : VcFlit) (s : State) : Bool :=
  s.fld Reg.HBD_AGE 0 16 != 0 && s.fld Reg.HBD_AGE 0 16 ≤ v.wait + 1 && !v.aged

/-- The head has waited one more clock. -/
def vcWaited (v : VcFlit) (s : State) : State :=
  { s with hbd := { s.hbd with vcs := s.hbd.vcs.map (fun u =>
    if u = v then { v with wait := v.wait + 1, aged := v.aged || vcPromoted v s } else u) } }

theorem vcWait_eq (v : VcFlit) (s : State) :
    vcWait v s = if vcPromoted v s then hbdCnt 6 1 (vcWaited v s) else vcWaited v s := rfl

theorem vcWait_vcs {v : VcFlit} {s : State} (h : s.hbd.vcs = [v]) : (vcWait v s).hbd.vcs = [{ v with
    wait := v.wait + 1
    aged := v.aged || (decide (s.fld Reg.HBD_AGE 0 16 ≠ 0) && decide (s.fld Reg.HBD_AGE 0 16 ≤ v.wait + 1)) }] := by
  have hwaited : (vcWait v s).hbd = (vcWaited v s).hbd := by
    rw [vcWait_eq]
    split
    · exact (hbdCnt_chg ..).same .hbd (by decide)
    · rfl
  have haged : (v.aged || vcPromoted v s) =
      (v.aged || (decide (s.fld Reg.HBD_AGE 0 16 ≠ 0) && decide (s.fld Reg.HBD_AGE 0 16 ≤ v.wait + 1))) := by
    cases hv : v.aged <;> simp [vcPromoted, hv, bne, beq_eq_decide]
  rw [hwaited, vcWaited, h, ← haged]
  simp

theorem vcWait_uncounted {v : VcFlit} {s : State} (h : vcPromoted v s = false) :
    (vcWait v s).reg (Reg.HBD_CNT + 24) = s.reg (Reg.HBD_CNT + 24) := by
  rw [vcWait_eq, if_neg (by simp [h])]
  rfl

/-- A counter of the Hatband counts one below its maximum. -/
theorem hbdCnt_counts {k : Nat} {s : State} (hk : k < 8) (h : (s.reg (Reg.HBD_CNT + 4 * k)).toNat < 0xFFFFFFFF) :
    (hbdCnt k 1 s).reg (Reg.HBD_CNT + 4 * k) = s.reg (Reg.HBD_CNT + 4 * k) + 1 := by
  have hsat : Reg.HBD_CNT + 4 * k ≠ Reg.HBD_CNT_SAT := by
    simp only [Reg.HBD_CNT, Reg.HBD_CNT_SAT]
    omega
  have hpend : Reg.HBD_CNT + 4 * k ≠ pendReg 0x204 := by
    simp only [Reg.HBD_CNT, pendReg_eq]
    omega
  have hnext : s.reg (Reg.HBD_CNT + 4 * k) + 1 = BitVec.ofNat 32 ((s.reg (Reg.HBD_CNT + 4 * k)).toNat + 1) := by
    simp [BitVec.ofNat_add]
  unfold hbdCnt satAdd
  dsimp only
  rw [if_neg (by omega)]
  split
  · rw [reg_setReg_same, hnext]
  · next hmax =>
    rw [raise_reg _ hpend, reg_setBit_other _ _ _ hsat, reg_setReg_same, hnext,
      show (s.reg (Reg.HBD_CNT + 4 * k)).toNat + 1 = 0xFFFFFFFF by omega]
    rfl

theorem vcWait_counted {v : VcFlit} {s : State} (h : vcPromoted v s = true)
    (hmax : (s.reg (Reg.HBD_CNT + 24)).toNat < 0xFFFFFFFF) :
    (vcWait v s).reg (Reg.HBD_CNT + 24) = s.reg (Reg.HBD_CNT + 24) + 1 := by
  rw [vcWait_eq, if_pos h]
  exact hbdCnt_counts (k := 6) (s := vcWaited v s) (by decide) hmax

/-! ### A flit alone (R222, R224, R235) -/

section
variable {busy : Nat → Bool} {v : VcFlit} {s : State}

theorem lateArrives_hbd (f : Flit) (s : State) : (lateArrives f s).hbd = s.hbd := (lateArrives_chg ..).same .hbd (by decide)

/-- A flit alone that has reached its NI is taken by it. -/
theorem vcClock_arrives (hv : s.hbd.vcs = [v]) (hdue : v.due ≤ s.clock) (hhop : v.hop = flitLinks v.flit)
    (hopc : v.opc = 0x1E) : vcClock busy s = lateArrives v.flit { s with hbd := { s.hbd with vcs := [] } } := by
  have htaken : vcArrives v s = lateArrives v.flit { s with hbd := { s.hbd with vcs := [] } } := by
    simp only [vcArrives, hv, if_pos hopc, List.erase_cons_head]
  have hnone : (lateArrives v.flit { s with hbd := { s.hbd with vcs := [] } }).hbd.vcs = [] := by
    rw [lateArrives_hbd]
  unfold vcClock
  simp only [hv, hhop, hdue, beq_self_eq_true, decide_true, Bool.and_true, List.filter_cons_of_pos, List.filter_nil, forEach,
    List.foldl_cons, List.foldl_nil, htaken, hnone, List.map_nil, List.eraseDups_nil]

/-- A flit alone that has not reached its NI, and waits for no NAK: its links, then the wait. -/
theorem vcClock_standing (hv : s.hbd.vcs = [v]) (hhop : v.hop ≠ flitLinks v.flit) (hlost : v.lost = false) :
    vcClock busy s = forEach (([v].filter (vcReady s [v])).filter (fun v => !v.again))
      (fun v s => if s.hbd.vcs.contains v then vcWait v s else s)
      (forEach (([v].filter (vcReady s [v])).map vcKey).eraseDups (vcLinkClock busy [v] ([v].filter (vcReady s [v]))) s) := by
  have harr : [v].filter (fun v => v.hop == flitLinks v.flit && decide (v.due ≤ s.clock)) = [] := by simp [hhop]
  have hnak : [v].filter (nakComes s) = [] := by simp [nakComes, hlost]
  have hquiet : ∀ f : VcFlit → State → State, forEach [] f s = s := fun _ => rfl
  unfold vcClock
  dsimp only
  rw [hv, harr, hquiet, hv, hnak, hquiet, hv]

theorem vcReady_held (hheld : vcHeld s v = true) : [v].filter (vcReady s [v]) = [] := by
  simp [vcReady, hheld]

theorem vcReady_alone (hdue : v.due ≤ s.clock) (hhop : v.hop < flitLinks v.flit) (hlost : v.lost = false)
    (hheld : vcHeld s v = false) : [v].filter (vcReady s [v]) = [v] := by
  have hfront : vcFront [v] v = true := by
    cases ha : v.again <;> simp [vcFront, sameBuffer, ha]
  simp [vcReady, hdue, hhop, hlost, hheld, hfront]

theorem vcClock_held (hv : s.hbd.vcs = [v]) (hhop : v.hop ≠ flitLinks v.flit) (hlost : v.lost = false)
    (hheld : vcHeld s v = true) : vcClock busy s = s := by
  rw [vcClock_standing hv hhop hlost, vcReady_held hheld]
  rfl

/-- A flit alone that may cross its link: the clock of the link, and then it waits if it still stands there. -/
theorem vcClock_ready (hv : s.hbd.vcs = [v]) (hdue : v.due ≤ s.clock) (hhop : v.hop < flitLinks v.flit)
    (hlost : v.lost = false) (hheld : vcHeld s v = false) : vcClock busy s =
    if (vcLinkClock busy [v] [v] (vcKey v) s).hbd.vcs.contains v && !v.again then vcWait v (vcLinkClock busy [v] [v] (vcKey v) s)
    else vcLinkClock busy [v] [v] (vcKey v) s := by
  rw [vcClock_standing hv (by omega) hlost, vcReady_alone hdue hhop hlost hheld]
  have hlink : [vcKey v].eraseDups = [vcKey v] := by simp [List.eraseDups_cons]
  cases ha : v.again <;> simp [forEach, ha, hlink]

end

/-! ### A flit crosses its link (R235) -/

/-- The sender has kept the flit. -/
def vcKept (v w : VcFlit) (s : State) : State :=
  { s with hbd := { s.hbd with links := mset s.hbd.links {} (vcKey v) { mget s.hbd.links {} (vcKey v) with
    seq := ((mget s.hbd.links {} (vcKey v)).seq + 1) % 16
    replay := ((mget s.hbd.links {} (vcKey v)).replay ++ [((mget s.hbd.links {} (vcKey v)).seq, w)]).drop
      (((mget s.hbd.links {} (vcKey v)).replay ++ [((mget s.hbd.links {} (vcKey v)).seq, w)]).length - 16)
    last := vcPort v } } }

section
variable {v w : VcFlit} {s : State}

theorem vcKeep_hbd (v w : VcFlit) (s : State) : (vcKeep v w s).hbd = (vcKept v w s).hbd := by
  have heq : vcKeep v w s = if vcKey v = observedKey (vcKept v w s) then linkFlits v.vc 1 (vcKept v w s) else vcKept v w s := rfl
  rw [heq]
  split <;> rfl

theorem vcKeep_clock (v w : VcFlit) (s : State) : (vcKeep v w s).clock = s.clock := (vcKeep_chg ..).same .clock (by decide)

/-- The sender expects no NAK that it did not expect before. -/
theorem vcKeep_nak (v w : VcFlit) (s : State) :
    (mget (vcKeep v w s).hbd.links {} (vcKey v)).nak = (mget s.hbd.links {} (vcKey v)).nak := by
  rw [vcKeep_hbd, vcKept]
  dsimp only
  rw [mget_mset_same]

theorem vcReceive_passes (hnak : (mget s.hbd.links {} (vcKey w)).nak = none)
    (hupset : ∀ u, w.upset = some u → u.link ≠ w.hop) : vcReceive w s = vcPass w s := by
  have hnone : w.upset.filter (fun u => u.link == w.hop) = none := by
    cases h : w.upset with
    | none => rfl
    | some u => simp [hupset u h]
  unfold vcReceive
  rw [hnak, hnone]
  rfl

theorem vcMove_passes (hnak : (mget s.hbd.links {} (vcKey v)).nak = none)
    (hupset : ∀ u, v.upset = some u → u.link ≠ v.hop) : vcMove v s =
    vcPass (vcSent s v) { vcKeep v (vcSent s v) s with hbd := { (vcKeep v (vcSent s v) s).hbd with
      vcs := (vcKeep v (vcSent s v) s).hbd.vcs.erase v } } := by
  have hkept : (mget (vcKeep v (vcSent s v) s).hbd.links {} (vcKey v)).nak = none := by rw [vcKeep_nak, hnak]
  unfold vcMove
  exact vcReceive_passes (w := vcSent s v) hkept hupset

/-- A flit alone stands behind its link. -/
theorem vcMove_vcs (hv : s.hbd.vcs = [v]) (hnak : (mget s.hbd.links {} (vcKey v)).nak = none)
    (hupset : ∀ u, v.upset = some u → u.link ≠ v.hop) : (vcMove v s).hbd.vcs = [{ vcSent s v with
      hop := v.hop + 1
      due := s.clock + (if v.hop + 1 = flitLinks v.flit then 2 else linkDelay v.flit (v.hop + 1) - linkDelay v.flit v.hop)
      wait := 0
      aged := false }] := by
  have hleft : (vcKeep v (vcSent s v) s).hbd.vcs.erase v = [] := by
    rw [vcKeep_hbd, vcKept]
    dsimp only
    rw [hv, List.erase_cons_head]
  rw [vcMove_passes hnak hupset]
  unfold vcPass
  dsimp only
  rw [hleft, vcKeep_clock]
  rfl

theorem vcMove_changes (hnak : (mget s.hbd.links {} (vcKey v)).nak = none)
    (hupset : ∀ u, v.upset = some u → u.link ≠ v.hop) : Changes [.regs, .hbd] s (vcMove v s) := by
  rw [vcMove_passes hnak hupset]
  exact (Chg.after (m := 65538) (vcPass_chg ..) (.upd (vcKeep_chg ..))).changes

/-! ### What the receiver does with a failure (R235, R236) -/

theorem vcReceive_fails {u : FlitUpset} (hnak : (mget s.hbd.links {} (vcKey w)).nak = none) (hw : w.upset = some u)
    (hlink : u.link = w.hop) (hcheck : vcCheck w u = some .vc0Par) : vcReceive w s = vcNak w s := by
  have hsome : w.upset.filter (fun u => u.link == w.hop) = some u := by simp [hw, hlink]
  unfold vcReceive
  rw [hnak, hsome]
  simp only [hcheck]
  rfl

theorem vcNak_again (h : w.sent < 5) : vcNak w s = { s with hbd := { s.hbd with
    vcs := s.hbd.vcs ++ [{ w with again := true, lost := true, upset := none }]
    links := mset s.hbd.links {} (vcKey w) { mget s.hbd.links {} (vcKey w) with nak := some (w.seq, s.clock + 4) } } } :=
  if_neg (Nat.not_le.mpr h)

theorem vcNak_fails (h : 5 ≤ w.sent) : vcNak w s = markFatal (hbdLinkFail (pathLink w.flit w.hop) s) := if_pos h

/-- What a NAK that comes leaves for its link. -/
def vcRewound (v : VcFlit) (s : State) : State :=
  { s with hbd := { s.hbd with
    vcs := s.hbd.vcs.map (fun u => if u.lost && vcKey u == vcKey v then { u with lost := false } else u)
    links := mset s.hbd.links {} (vcKey v) { mget s.hbd.links {} (vcKey v) with
      seq := v.seq, nak := none, replay := (mget s.hbd.links {} (vcKey v)).replay.takeWhile (fun y => y.1 != v.seq) } } }

theorem vcResend_eq (v : VcFlit) (s : State) :
    vcResend v s = hbdRetx (pathLink v.flit v.hop) (BitVec.ofNat 9 v.flit.src) (vcRewound v s) := rfl

theorem vcResend_link (v : VcFlit) (s : State) : (mget (vcResend v s).hbd.links {} (vcKey v)).seq = v.seq ∧
    (mget (vcResend v s).hbd.links {} (vcKey v)).nak = none := by
  rw [vcResend_eq, hbdRetx_hbd, vcRewound]
  dsimp only
  rw [mget_mset_same]
  exact ⟨rfl, rfl⟩

theorem vcResend_vcs (hv : s.hbd.vcs = [v]) (hlost : v.lost = true) :
    (vcResend v s).hbd.vcs = [{ v with lost := false }] := by
  rw [vcResend_eq, hbdRetx_hbd, vcRewound]
  dsimp only
  rw [hv]
  simp [hlost]

end

/-! ### The command of a NAK (R235 to R237) -/

/-- The VC0 flits that are checked at the end of the link in the clock are gone. -/
def linkCleared (l : HbdLink) (s : State) : State :=
  { s with hbd := { s.hbd with flits := s.hbd.flits.filter (fun f => !((onLink s l).map (fun x => x.1)).contains f) } }

/-- The planned position of the first of them, 0 without one. -/
def linkPos (l : HbdLink) (s : State) : Nat := ((onLink s l).head?.map (fun x => x.2)).getD 0

/-- What a NAK does, and a sideband failure, which is one. -/
def nakStep (nak : LinkNak) (seq : BitVec 4) (sideband : Bool) (s : State) : State :=
  if sideband then sidebandFail nak (linkPos nak.link s) seq.toNat (linkCleared nak.link s) else hbdNak nak seq.toNat s

section
variable {nak : LinkNak} {seq : BitVec 4} {s : State} (hup : s.up = true)
include hup

theorem exec_hbdNak_step (sideband : Bool) : exec (.hbdNak nak seq sideband) s = .next (nakStep nak seq sideband s) :=
  run_up (nakStep nak seq sideband) hup

theorem exec_hbdNak : exec (.hbdNak nak seq false) s = .next (hbdNak nak seq.toNat s) := exec_hbdNak_step hup false

theorem exec_hbdNak_sideband : exec (.hbdNak nak seq true) s =
    .next (sidebandFail nak (linkPos nak.link s) seq.toNat (linkCleared nak.link s)) := exec_hbdNak_step hup true

/-- Where no execution runs, a sideband failure is a NAK alone. -/
theorem exec_hbdNak_sidebandIdle (h : s.sch.exec = none) :
    exec (.hbdNak nak seq true) s = exec (.hbdNak nak seq false) (linkCleared nak.link s) := by
  have hcleared : (linkCleared nak.link s).up = true := hup
  rw [exec_hbdNak_sideband hup, exec_hbdNak hcleared, sidebandFail_idle (s := linkCleared nak.link s) h]

end

/-- The execution that runs when a sideband fails is cut. -/
def sidebandCut (nak : LinkNak) (e : Exec) (s : State) : State :=
  vc0Fault .sideband (linkEnd nak.link nak.src) (linkPos nak.link s) e.serial e.num (linkCleared nak.link s)

theorem exec_hbdNak_sidebandRunning {nak : LinkNak} {seq : BitVec 4} {s : State} {e : Exec} (hup : s.up = true)
    (h : s.sch.exec = some e) :
    exec (.hbdNak nak seq true) s = exec (.hbdNak nak seq false) (sidebandCut nak e s) := by
  have hcut : (sidebandCut nak e s).up = true := by
    rw [State.up, sidebandCut, (vc0Fault_chg ..).same .boot (by decide)]
    exact hup
  rw [exec_hbdNak_sideband hup, exec_hbdNak hcut, sidebandFail_running (s := linkCleared nak.link s) h]
  rfl

theorem nakCounted_hbd (n : LinkNak) (seq : Nat) (s : State) : (nakCounted n seq s).hbd =
    { s.hbd with unaccepted := mset s.hbd.unaccepted (16, 0) (linkKey n.link) (seq, sentTimes s n seq + 1) } := rfl

theorem nakCounted_chg (n : LinkNak) (seq : Nat) (s : State) : Chg 65536 s (nakCounted n seq s) := .upd (.refl _ _)

theorem sentTimes_eq (s : State) (n : LinkNak) (seq : Nat) : sentTimes s n seq =
    if n.again = true ∧ (mget s.hbd.unaccepted (16, 0) (linkKey n.link)).1 = seq then
      (mget s.hbd.unaccepted (16, 0) (linkKey n.link)).2 else 1 := by
  simp [sentTimes]

/-- Settles O42: each clause by the lemma of the operation that it speaks of. -/
theorem hatbandDeliveries : Obligations.HatbandDeliveries := by
  refine ⟨fun src pos f s hup hf => ⟨fun n hn hrun hstop => ?lands, fun hrun => ?stays, fun u hmiss => ?missed,
      fun u t hlink hclk ht => ⟨fun hin => ?met, fun hout => ?gone⟩, fun u hclk hin => ?now⟩,
    fun f k hk => checkClk_eq hk, ?meets, fun src pos x s hup hnone => ?noFlit,
    fun c base lenM1 src values cyc n s hlen hcur hcyc hfree => ?values,
    fun c base lenM1 src values cyc live s hlate => ?late,
    fun entry first lenM1 upset held ok e r n s0 s hup hs hcur he hr hok => ?lateDelivery,
    fun entry first lenM1 upset held s0 hup h => ?noLate,
    fun e r first xs n upset held s => ⟨_, rfl, lateSend_lnk .., lateSend_hbd .., lateSend_regsBut e r first xs n upset held s,
      (lateSend_chg ..).changes⟩,
    fun busy l ready key s => ⟨vcLinkClock_taken, fun h0 hb c hc => ⟨fun hnone => ?noneReady, fun hsome => ?moves⟩⟩,
    fun x u v hu huvc => ⟨vcRank_again_lt hu, fun hv hvc p q hp hq hp3 hq3 =>
      ⟨vcRank_priority hu hv hvc hp hq hq3, vcRank_channel hu hv hp hq⟩⟩,
    fun l v => vcCredit_iff, fun v s age hage hv => ?waits, fun busy v s hv hdue hlost => ?alone,
    fun s h => if_pos (by rw [h]; rfl),
    fun w u s hnak hw hlink hcheck => ⟨fun hsent => ?again, fun hsent => ?linkFails⟩,
    fun v s hlost hv => ?resends, fun nak seq v s hup hheld => ⟨fun hsent => ?nakHeld, fun hsent => ?nakFails⟩,
    fun nak seq x n s hup hunheld hx hn => ⟨fun hn5 => ?nakCounts, fun hn5 => ?countFails, fun u l hl hu =>
      ⟨fun hidle => ?sideIdle, fun e he => ?sideRuns⟩⟩, fun l f pos s => mem_onLink⟩
  case lands => rw [exec_inboundValueArrival hup, valueArrives_plain hf, flitLands_after hn hrun hstop]
  case stays => rw [exec_inboundValueArrival hup, valueArrives_plain hf, flitLands_never hrun]
  case missed =>
    rw [exec_inboundValueArrival hup, exec_inboundValueArrival hup, valueArrives_plain hf, valueArrives_missed hf hmiss]
  case met => rw [exec_inboundValueArrival hup, valueArrives_met hf hlink hclk ht, hin]; rfl
  case gone => rw [exec_inboundValueArrival hup, valueArrives_met hf hlink hclk ht, hout]; rfl
  case now => exact clocksUntil_now (by simp [hclk])
  case meets =>
    rintro f u s t rfl
    refine ⟨fun k hk => ⟨flitMeets_flits hk, flitMeets_reports hk, fun hne e he => ?_⟩, fun hnone l hl => ?_⟩
    · rw [flitMeets_fault hk hne]
      exact ⟨vc0Fault_cuts _ _ _ _ _ (s := flitGone f s) he, vc0Fault_spares _ _ _ _ _ (s := flitGone f s) he⟩
    · rw [flitMeets_passes hnone, hl]
  case noFlit => rw [exec_inboundValueArrival hup, valueArrives_none hnone]
  case values =>
    obtain ⟨x, hx, hvals⟩ := deliverBits (src := src) (values := values) (lenM1 + 1) (by omega) fun j hj => hfree j (by omega)
    refine ⟨_, rfl, ?_⟩
    rw [deliverValues_mine hcur hcyc, hx]
    refine ⟨fun j hj => ⟨hvals j (by omega), ?_⟩, changes_clu s _⟩
    have hmem : slotOf c base j ∈ (List.range (lenM1 + 1)).map (slotOf c base) :=
      List.mem_map_of_mem (List.mem_range.mpr (by omega))
    exact List.contains_iff_mem.mpr (List.mem_append_right _ hmem)
  case late =>
    rw [deliverValues_late hlate]
    exact ⟨_, rfl, lateDrop_bit .., lateDrop_pendBit .., (lateDrop_chg ..).changes⟩
  case lateDelivery =>
    subst hs
    rw [exec_lateDelivery hup, lateDelivery_eq hcur he hr, ← show ok = lateMay _ _ _ _ _ _ from hok]
    exact ⟨fun h => by rw [h]; rfl, fun h => by rw [h]; rfl⟩
  case noLate => rw [exec_lateDelivery hup, lateDelivery_nothing h]
  case noneReady => exact vcLinkClock_none h0 hb (hc ▸ hnone)
  case moves =>
    obtain ⟨v, hpick, hmem, hleast⟩ := vcPick_least (l := mget s.hbd.links {} key) hsome
    exact ⟨v, hmem, hleast, vcLinkClock_moves h0 hb (hc ▸ hpick)⟩
  case waits =>
    subst hage
    refine ⟨_, rfl, vcWait_vcs hv, fun h => vcWait_uncounted ?_, fun hage hold hyoung hmax => vcWait_counted ?_ hmax⟩
    · rcases h with h | h | h <;> simp [vcPromoted, h]
    · simp [vcPromoted, hage, hold, hyoung]
  case alone =>
    refine ⟨fun hhop hopc => vcClock_arrives hv hdue hhop hopc, fun hhop hheld hcur => ?_,
      fun hhop hfree hnak hupset h0 hb => ?_, fun hhop hfree hagain htaken => ?_⟩
    · exact vcClock_held hv (by rw [hhop, flitLinks]; omega) hlost (by simp [vcHeld, hheld, hhop, hcur])
    · have hmove : vcLinkClock busy [v] [v] (vcKey v) s = vcMove v s :=
        vcLinkClock_moves h0 hb (by simp [vcCredit_alone, vcPick])
      have hvcs := vcMove_vcs hv hnak hupset
      have hgone : (vcMove v s).hbd.vcs.contains v = false := by
        rw [hvcs, List.contains_eq_mem, decide_eq_false_iff_not, List.mem_singleton]
        intro heq
        have hhops := congrArg VcFlit.hop heq
        simp at hhops
      rw [vcClock_ready hv hdue hhop hlost hfree, hmove, hgone]
      exact ⟨hvcs, vcMove_changes hnak hupset⟩
    · rw [vcClock_ready hv hdue hhop hlost hfree, vcLinkClock_taken htaken, hv]
      simp [hagain]
  case again => rw [vcReceive_fails hnak hw hlink hcheck, vcNak_again hsent]
  case linkFails =>
    rw [vcReceive_fails hnak hw hlink hcheck, vcNak_fails hsent]
    exact ⟨by rw [markFatal, hbdLinkFail_hbd], rfl, hbdLinkFail_bit .., hbdLinkFail_pendBit ..⟩
  case resends =>
    obtain ⟨hseq, hnak⟩ := vcResend_link v s
    exact ⟨_, rfl, vcResend_vcs hv hlost, hseq, hnak, hbdRetx_bit .., (vcResend_chg ..).changes⟩
  case nakHeld =>
    rw [exec_hbdNak hup, hbdNak_held hheld, if_neg (Nat.not_le.mpr hsent)]
    exact ⟨_, rfl, hbdRetx_hbd .., hbdRetx_bit ..,
      (Chg.after (m := 65682) (hbdRetx_chg ..) (.after (nakBack_chg ..) (.refl _ _))).changes⟩
  case nakFails =>
    rw [exec_hbdNak hup, hbdNak_held hheld, if_pos hsent]
    exact ⟨_, rfl, linkFailStop ..⟩
  case nakCounts =>
    have hsent : sentTimes s nak seq.toNat = n := by rw [sentTimes_eq, hn, hx]
    rw [exec_hbdNak hup, hbdNak_unheld hunheld, hsent, if_neg (Nat.not_le.mpr hn5)]
    refine ⟨_, rfl, ?_, hbdRetx_bit ..,
      regsBut_trans (regsBut_of_regs _ rfl) (hbdRetx_regsBut _ _ (nakCounted nak seq.toNat s)),
      (Chg.after (m := 65682) (hbdRetx_chg ..) (.after (nakCounted_chg ..) (.refl _ _))).changes⟩
    rw [hbdRetx_hbd, nakCounted_hbd, hsent]
  case countFails =>
    have hsent : sentTimes s nak seq.toNat = n := by rw [sentTimes_eq, hn, hx]
    rw [exec_hbdNak hup, hbdNak_unheld hunheld, hsent, if_pos hn5]
    obtain ⟨hhbd, hst, hbit, hpend⟩ := linkFailStop nak.link s
    exact ⟨_, rfl, hhbd, hst, hbit, hpend, fun h => faultStop_pendBit (by rwa [hbdLinkFail_sch]),
      (Chg.after (m := 101158546) (faultStop_chg _) (.after (hbdLinkFail_chg ..) (.refl _ _))).changes⟩
  case sideIdle =>
    subst hl hu
    exact exec_hbdNak_sidebandIdle hup hidle
  case sideRuns =>
    subst hl hu
    obtain ⟨e', he', hvc0, haborted⟩ := vc0Fault_cuts .sideband (linkEnd nak.link nak.src) (linkPos nak.link s) e.serial e.num
      (s := linkCleared nak.link s) he rfl
    refine ⟨sidebandCut nak e s, e', exec_hbdNak_sidebandRunning hup he, he', hvc0, haborted, vc0Fault_bit .sideband ..,
      vc0Fault_pendBit .., fun f pos hhead hzero => ?_, (vc0Fault_chg ..).changes⟩
    have hpos : linkPos nak.link s = pos := by simp [linkPos, hhead]
    rw [← hpos]
    exact vc0Fault_captures _ _ _ _ _ (linkCleared nak.link s) hzero

end Sys2Proof.Proofs
end

section
/-!
Proofs of the family 03_design_cycle: a refresh beyond its window (O38) and what becomes of an execution at B7 (O28).
-/
namespace Sys2Proof.Proofs
open Sys2Proof.Machine Sys2Proof.Laws

/-! ### A counter that counts (R450) -/

/-- One below its maximum a counter counts, whether or not it reaches its maximum by it. -/
theorem satAdd_counts {o so b : Nat} {ev : Option Nat} {s : State} (hso : o ≠ so) (hev : ∀ e, ev = some e → o ≠ pendReg e)
    (h : (s.reg o).toNat < 0xFFFFFFFF) : (satAdd o so b ev 1 s).reg o = s.reg o + 1 := by
  have hnext : s.reg o + 1 = BitVec.ofNat 32 ((s.reg o).toNat + 1) := by simp [BitVec.ofNat_add]
  have hmax : ¬ (s.reg o).toNat + 1 < 0xFFFFFFFF → s.reg o + 1 = 0xFFFFFFFF := fun hm => by
    rw [hnext, show (s.reg o).toNat + 1 = 0xFFFFFFFF by omega]
    rfl
  unfold satAdd
  dsimp only
  rw [if_neg (by omega)]
  split
  · rw [reg_setReg_same, hnext]
  · next hm =>
    have hsat : ((s.setReg o 0xFFFFFFFF).setBit so b true).reg o = s.reg o + 1 := by
      rw [reg_setBit_other _ _ _ hso, reg_setReg_same, hmax hm]
    split
    · next e => rw [raise_reg _ (hev e rfl), hsat]
    · exact hsat

theorem memCnt_counts {k : Nat} {s : State} (hk : k < 8) (h : (s.reg (Reg.MEM_CNT + 4 * k)).toNat < 0xFFFFFFFF) :
    (memCnt k 1 s).reg (Reg.MEM_CNT + 4 * k) = s.reg (Reg.MEM_CNT + 4 * k) + 1 := by
  refine satAdd_counts ?_ (fun e he => ?_) h
  · simp only [Reg.MEM_CNT, Reg.MEM_CNT_SAT, ne_eq]
    omega
  · cases he
    simp only [Reg.MEM_CNT, pendReg_eq]
    omega

theorem memCnt_regsBut (k n : Nat) (s : State) :
    RegsBut [Reg.MEM_CNT + 4 * k, Reg.MEM_CNT_SAT, pendReg 0x2EB] s (memCnt k n s) := by
  intro q hq
  simp only [List.mem_cons, List.not_mem_nil, or_false, not_or] at hq
  obtain ⟨hcnt, hsat, hpend⟩ := hq
  exact satAdd_reg s hcnt hsat fun e he => by cases he; exact hpend

theorem memCause_regsBut (b kind : Nat) (addr : Word64) (c k : Nat) (hbm host : Bool) (s : State) :
    RegsBut [Reg.MEM_CAUSE, Reg.MEM_ERR_ADDR, Reg.MEM_ERR_ADDR + 4, Reg.MEM_ERR_INFO] s (memCause b kind addr c k hbm host s) := by
  intro q hq
  simp only [List.mem_cons, List.not_mem_nil, or_false, not_or] at hq
  exact causeSet_reg s hq.1 (by simp [hq.2])

/-! ### Refreshes (R99, R211, R215) -/

theorem exec_refreshOverrun {pc : BitVec 6} {clocks : Nat} {s : State} (hup : s.up = true) :
    exec (.refreshOverrun pc clocks) s = .next (refreshOverrun pc.toNat clocks s) := run_up _ hup

/-- The pseudo-channel is occupied for the clocks of the refresh. -/
def refreshing (pc clocks : Nat) (s : State) : State :=
  { s with mem := { s.mem with pcBusy := mset s.mem.pcBusy 0 pc (max (mget s.mem.pcBusy 0 pc) (s.clock + clocks)) } }

theorem refreshing_chg (pc clocks : Nat) (s : State) : Chg 32768 s (refreshing pc clocks s) := .upd (.refl _ _)

/-- What an overrun reports. -/
def overrunNoted (s : State) : State := raise 0x2E7 (memCnt 6 1 (memCause 6 7 0 0 0 true false s))

theorem refreshOverrun_absent {pc clocks : Nat} {s : State} (h : 32 * s.stacks ≤ pc) : refreshOverrun pc clocks s = s := if_pos h

theorem refreshOverrun_inside {pc clocks : Nat} {s : State} (h : pc < 32 * s.stacks) (hw : insideWindow s = true) :
    refreshOverrun pc clocks s = refreshing pc clocks s := by
  rw [refreshOverrun, if_neg (Nat.not_le.mpr h), if_pos hw]
  rfl

theorem refreshOverrun_outside {pc clocks : Nat} {s : State} (h : pc < 32 * s.stacks) (hw : insideWindow s = false) :
    refreshOverrun pc clocks s = refreshing pc clocks (overrunNoted s) := by
  rw [refreshOverrun, if_neg (Nat.not_le.mpr h), if_neg (by simp [hw])]
  rfl

theorem overrunNoted_chg (s : State) : Chg 146 s (overrunNoted s) :=
  .after (raise_chg ..) (.after (memCnt_chg ..) (.after (memCause_chg ..) (.refl _ _)))

theorem overrunNoted_bit (s : State) : (overrunNoted s).bit Reg.MEM_CAUSE 6 = true := by
  rw [overrunNoted, bit_eq, raise_reg _ (by decide), memCnt_regsBut _ _ _ _ (by decide), ← bit_eq]
  exact causeSet_bit _ _ (by decide)

theorem overrunNoted_pendBit (s : State) : (overrunNoted s).pendBit 0x2E7 = true := raise_pendBit (by simp [eventAbsent])

theorem overrunNoted_counts {s : State} (h : (s.reg (Reg.MEM_CNT + 24)).toNat < 0xFFFFFFFF) :
    (overrunNoted s).reg (Reg.MEM_CNT + 24) = s.reg (Reg.MEM_CNT + 24) + 1 := by
  have hcause : (memCause 6 7 0 0 0 true false s).reg (Reg.MEM_CNT + 24) = s.reg (Reg.MEM_CNT + 24) :=
    memCause_regsBut _ _ _ _ _ _ _ _ _ (by decide)
  rw [overrunNoted, raise_reg _ (by decide), ← hcause]
  exact memCnt_counts (k := 6) (by decide) (by rwa [hcause])

theorem overrunNoted_regsBut (s : State) : RegsBut [Reg.MEM_CAUSE, Reg.MEM_ERR_ADDR, Reg.MEM_ERR_ADDR + 4, Reg.MEM_ERR_INFO,
    Reg.MEM_CNT + 24, Reg.MEM_CNT_SAT, pendReg 0x2E7, pendReg 0x2EB] s (overrunNoted s) :=
  regsBut_trans (regsBut_mono (memCause_regsBut _ _ _ _ _ _ _ s) (by decide))
    (regsBut_trans (regsBut_mono (memCnt_regsBut 6 1 _) (by decide)) (regsBut_mono (regsBut_raise 0x2E7 _) (by decide)))

/-- Settles O38: where the pseudo-channel exists it is occupied, and outside every window the overrun is noted before. -/
theorem refreshOverrun : Obligations.RefreshOverrun := by
  unfold Obligations.RefreshOverrun
  rintro pc clocks s m hup rfl
  refine ⟨fun hpc hw => ?_, fun hpc hw => ?_, fun hpc => ?_⟩
  · have hmem : (overrunNoted s).mem = s.mem := (overrunNoted_chg s).same .mem (by decide)
    have hclock : (overrunNoted s).clock = s.clock := (overrunNoted_chg s).same .clock (by decide)
    refine ⟨refreshing pc.toNat clocks (overrunNoted s), by rw [exec_refreshOverrun hup, refreshOverrun_outside hpc hw], ?_,
      overrunNoted_bit s, overrunNoted_pendBit s, overrunNoted_counts, overrunNoted_regsBut s,
      (Chg.after (m := 32914) (refreshing_chg ..) (.after (overrunNoted_chg s) (.refl _ _))).changes⟩
    simp only [refreshing, hmem, hclock]
  · rw [exec_refreshOverrun hup, refreshOverrun_inside hpc hw]
    rfl
  · rw [exec_refreshOverrun hup, refreshOverrun_absent hpc]

/-! ### The decision at B7 (R101) -/

/-- Some cluster has reported one of two sets of causes if it has reported one of the first or one of the second. -/
theorem reported_or (s : State) (m n : Byte) : reported s (m ||| n) = (reported s m || reported s n) := by
  have hor (x : Byte) : ((x &&& (m ||| n)) != 0) = ((x &&& m) != 0 || (x &&& n) != 0) := by
    rw [Bool.eq_iff_iff]
    have hsplit : x &&& (m ||| n) = 0 ↔ x &&& m = 0 ∧ x &&& n = 0 := by
      rw [BitVec.and_or_distrib_left]
      exact BitVec.or_eq_zero_iff
    simp only [bne_iff_ne, ne_eq, hsplit, Bool.or_eq_true]
    tauto
  simp only [reported, hor]
  induction s.clu.cause with
  | nil => rfl
  | cons p t ih => simp only [List.any_cons, ih]; ac_rfl

/-- A cluster's parity fault: one of the first four causes. -/
theorem reported_parity (s : State) : reported s 0x0F = true ↔ ∃ b, b < 4 ∧ reported s (BitVec.ofNat 8 (2 ^ b)) = true := by
  have hmask : reported s 0x0F = (reported s (BitVec.ofNat 8 (2 ^ 0)) || reported s (BitVec.ofNat 8 (2 ^ 1)) ||
      reported s (BitVec.ofNat 8 (2 ^ 2)) || reported s (BitVec.ofNat 8 (2 ^ 3))) := by
    rw [← reported_or, ← reported_or, ← reported_or]
    rfl
  rw [hmask]
  simp only [Bool.or_eq_true]
  constructor
  · rintro (((h | h) | h) | h)
    exacts [⟨0, by decide, h⟩, ⟨1, by decide, h⟩, ⟨2, by decide, h⟩, ⟨3, by decide, h⟩]
  · rintro ⟨b, hb, h⟩
    interval_cases b
    exacts [.inl (.inl (.inl h)), .inl (.inl (.inr h)), .inl (.inr h), .inr h]

section
variable {e : Exec} {s u : State}

/-- The execution ends at B7 without a result. -/
def outAtB7 (e : Exec) (u : State) : State := endDiscarded e (u.clock + 5 - e.startClk) u

/-- Row by row: an earlier row that applies hides the later ones (R101). -/
theorem decide_eq (hu : u = dspB7 e.num (settleOrphans s)) : decide' e s =
    if u.pwr.parked.any (parkFatal u) then faultStop u
    else if e.vc0 then parityAbort e.num (outAtB7 e u)
    else if e.aborted || e.cutAt.isSome then outAtB7 e u
    else if reported u 0x0F then parityAbort e.num (outAtB7 e u)
    else if reported u (BitVec.ofNat 8 (2 ^ 4)) then faultStop (raise 0x082 u)
    else if reported u (BitVec.ofNat 8 (2 ^ 5)) then faultStop (raise 0x081 u)
    else if reported u (BitVec.ofNat 8 (2 ^ 7)) then faultStop (raise 0x092 u)
    else if e.mismatch then squash e.num (b2n e.reverify) (outAtB7 e u)
    else finishCycle e u := by
  rw [hu]
  rfl

/-- No parity fault of a cluster where none of the first four causes is reported. -/
theorem reported_no_parity (h : ∀ b, b < 4 → reported s (BitVec.ofNat 8 (2 ^ b)) = false) : reported s 0x0F = false := by
  rw [← Bool.not_eq_true, reported_parity]
  rintro ⟨b, hb, hr⟩
  exact Bool.false_ne_true ((h b hb).symm.trans hr)

/-- Settles O28: each row by the rows before it, which do not apply. -/
theorem outcomeAtB7 : Obligations.OutcomeAtB7 := by
  unfold Obligations.OutcomeAtB7
  intro e s u hu
  rw [decide_eq hu]
  refine ⟨fun hpark => if_pos hpark, fun hpark => ?_⟩
  rw [if_neg (by simp [hpark])]
  refine ⟨fun hvc0 => if_pos hvc0, fun hvc0 hcut => ?_, fun hvc0 hcut b hb hr hfirst => ?_, fun hvc0 hcut hnone => ?_⟩
  case refine_1 => rw [if_neg (by simp [hvc0]), if_pos hcut]; rfl
  all_goals rw [if_neg (by simp [hvc0]), if_neg (by simp [hcut])]
  case refine_2 =>
    have hparity : 4 ≤ b → ¬ reported u 0x0F = true := fun h4 =>
      Bool.eq_false_iff.mp <| reported_no_parity fun j hj => hfirst h4 j (by omega) (by omega)
    have hbefore (j : Nat) (h4 : 4 ≤ b) (hj : j < b) (h6 : j ≠ 6) : ¬ reported u (BitVec.ofNat 8 (2 ^ j)) = true :=
      Bool.eq_false_iff.mp (hfirst h4 j hj h6)
    refine ⟨fun h4 => if_pos ((reported_parity u).mpr ⟨b, h4, hr⟩), ?_, ?_, ?_⟩
    · rintro rfl
      rw [if_neg (hparity (by decide)), if_pos hr]
    · rintro rfl
      rw [if_neg (hparity (by decide)), if_neg (hbefore 4 (by decide) (by decide) (by decide)), if_pos hr]
    · rintro rfl
      rw [if_neg (hparity (by decide)), if_neg (hbefore 4 (by decide) (by decide) (by decide)),
        if_neg (hbefore 5 (by decide) (by decide) (by decide)), if_pos hr]
  case refine_3 =>
    have hno (b : Nat) (hb : b < 8) (h6 : b ≠ 6) : ¬ reported u (BitVec.ofNat 8 (2 ^ b)) = true :=
      Bool.eq_false_iff.mp (hnone b hb h6)
    rw [if_neg (Bool.eq_false_iff.mp (reported_no_parity fun j hj => hnone j (by omega) (by omega))),
      if_neg (hno 4 (by decide) (by decide)), if_neg (hno 5 (by decide) (by decide)), if_neg (hno 7 (by decide) (by decide))]
    exact ⟨fun hm => if_pos hm, fun hm => if_neg (by simp [hm])⟩

end

end Sys2Proof.Proofs
end

section
/-!
Proofs of the family 03_design_cycle: run control and the report of a long hold (O30).
-/
namespace Sys2Proof.Proofs
open Sys2Proof.Machine Sys2Proof.Laws

/-! ### Fields of a register and marks of an accepted write -/

theorem fld_of_reg {s t : State} {o : Nat} (h : t.reg o = s.reg o) (lo w : Nat) : t.fld o lo w = s.fld o lo w := by
  rw [State.fld, h, State.fld]

theorem bit_of_reg {s t : State} {o : Nat} (h : t.reg o = s.reg o) (i : Nat) : t.bit o i = s.bit o i := by
  rw [State.bit, fld_of_reg h, State.bit]

theorem fld_setFld_same (s : State) {o lo w : Nat} (v : Nat) (h : lo + w ≤ 32) : (s.setFld o lo w v).fld o lo w = v % 2 ^ w := by
  rw [State.fld, reg_setFld, bitsOf_withBits_same _ _ h]

theorem fld_setFld_other (s : State) {o lo w l k : Nat} (v : Nat) (h : l + k ≤ 32) (hd : l + k ≤ lo ∨ lo + w ≤ l) :
    (s.setFld o lo w v).fld o l k = s.fld o l k := by
  rw [State.fld, reg_setFld, bitsOf_withBits_other _ _ h hd, State.fld]

theorem fld_setBit_other (s : State) {o i l k : Nat} (b : Bool) (h : l + k ≤ 32) (hd : l + k ≤ i ∨ i + 1 ≤ l) :
    (s.setBit o i b).fld o l k = s.fld o l k := fld_setFld_other s _ h hd

theorem bit_setFld_other (s : State) {o lo w i : Nat} (v : Nat) (hi : i < 32) (hd : i < lo ∨ lo + w ≤ i) :
    (s.setFld o lo w v).bit o i = s.bit o i := by
  rw [bit_eq, reg_setFld, withBits_getLsbD _ hi, if_neg (by omega), bit_eq]

theorem regsBut_setFld (s : State) (o lo w v : Nat) : RegsBut [o] s (s.setFld o lo w v) := regsBut_setReg s o _

theorem regsBut_setBit (s : State) (o i : Nat) (b : Bool) : RegsBut [o] s (s.setBit o i b) := regsBut_setReg s o _

theorem regsBut_markDirty (l : List Nat) (off : Nat) (s : State) : RegsBut l s (markDirty off s) :=
  fun q _ => markDirty_reg off s q

/-- What marks the sweep leaves every part but the host's as it was. -/
theorem markDirty_same (off : Nat) (s : State) (p : Part) (hp : p ≠ .host := by decide) : p.same s (markDirty off s) :=
  Chg.changes (l := [.host]) (markDirty_chg off s) (by decide) p (by simpa using hp)

/-! ### STATE after a change of what it follows (R102) -/

/-- The STATE that PAUSE, the execution, the apply and the checkpoint copy call for. -/
def settled (s : State) : SchState :=
  match s.sch.st with
  | .idle | .faultStop | .rewind => s.sch.st
  | _ =>
    if s.sch.applyFrozen then .frozen else if s.sch.ckptCopy.isSome then .ckpt
    else if s.paused && s.sch.exec.isNone then .paused else .running

theorem settled_fixed {s : State} (h : s.sch.st = .idle ∨ s.sch.st = .faultStop ∨ s.sch.st = .rewind) : settled s = s.sch.st := by
  unfold settled
  rcases h with h | h | h <;> rw [h]

theorem settled_free {s : State} (hidle : s.sch.st ≠ .idle) (hstop : s.sch.st ≠ .faultStop) (hrew : s.sch.st ≠ .rewind) :
    settled s = if s.sch.applyFrozen then .frozen else if s.sch.ckptCopy.isSome then .ckpt
      else if s.paused && s.sch.exec.isNone then .paused else .running := by
  unfold settled
  split
  · next h => exact absurd h hidle
  · next h => exact absurd h hstop
  · next h => exact absurd h hrew
  · rfl

/-- Where no apply, no copy and no start-up holds the module it is PAUSED or RUNNING. -/
theorem settled_runs {s : State} (hidle : s.sch.st ≠ .idle) (hstop : s.sch.st ≠ .faultStop) (hrew : s.sch.st ≠ .rewind)
    (hfrozen : s.sch.applyFrozen = false) (hcopy : s.sch.ckptCopy = none) :
    settled s = if s.paused && s.sch.exec.isNone then .paused else .running := by
  rw [settled_free hidle hstop hrew, if_neg (by simp [hfrozen]), if_neg (by simp [hcopy])]

/-- STATE is settled and nothing else. -/
def withState (x : SchState) (s : State) : State := { s with sch := { s.sch with st := x } }

theorem withState_chg (x : SchState) (s : State) : Chg 1024 s (withState x s) := .upd (.refl _ _)

theorem schSettle_fixed {s : State} (h : s.sch.st = .idle ∨ s.sch.st = .faultStop ∨ s.sch.st = .rewind) : schSettle s = s := by
  unfold schSettle
  rcases h with h | h | h <;> simp only [h]

/-- The module stands at a new pause: a long hold, which SCH_PAUSED reports (R102, R446). -/
def pauseNoted (s : State) : State :=
  raise 0x084 { withState .paused s with pwr := { s.pwr with longHold := true } }

/-- STATE takes what is called for; a passage to PAUSED is noted beside it. -/
theorem schSettle_cases (s : State) : (schSettle s = withState (settled s) s ∧
      (settled s = .paused → s.sch.st = .paused)) ∨
    (schSettle s = pauseNoted s ∧ settled s = .paused ∧ s.paused = true ∧ s.sch.exec = none) := by
  by_cases hfix : s.sch.st = .idle ∨ s.sch.st = .faultStop ∨ s.sch.st = .rewind
  · refine .inl ⟨?_, fun h => by rwa [settled_fixed hfix] at h⟩
    rw [settled_fixed hfix, schSettle_fixed hfix]
    rfl
  · simp only [not_or] at hfix
    obtain ⟨hidle, hstop, hrew⟩ := hfix
    rw [settled_free hidle hstop hrew]
    unfold schSettle
    split
    · next h => exact absurd h hidle
    · next h => exact absurd h hstop
    · next h => exact absurd h hrew
    · split
      · exact .inl ⟨rfl, nofun⟩
      · split
        · exact .inl ⟨rfl, nofun⟩
        · split
          · next hpause =>
            simp only [Bool.and_eq_true, Option.isNone_iff_eq_none] at hpause
            dsimp only
            split
            · next hwas => exact .inl ⟨rfl, fun _ => hwas⟩
            · exact .inr ⟨rfl, rfl, hpause.1, hpause.2⟩
          · exact .inl ⟨rfl, nofun⟩

theorem pauseNoted_sch (s : State) : (pauseNoted s).sch = { s.sch with st := .paused } :=
  (raise_chg ..).same .sch (by decide)

theorem schSettle_sch (s : State) : (schSettle s).sch = { s.sch with st := settled s } := by
  obtain ⟨h, _⟩ | ⟨h, hst, _⟩ := schSettle_cases s
  · rw [h, withState]
  · rw [h, pauseNoted_sch, hst]

theorem schSettle_regsBut (s : State) : RegsBut [pendReg 0x084] s (schSettle s) := by
  obtain ⟨h, _⟩ | ⟨h, _⟩ := schSettle_cases s
  · rw [h]
    exact regsBut_of_regs _ rfl
  · rw [h]
    exact regsBut_raise 0x084 { withState .paused s with pwr := { s.pwr with longHold := true } }

/-- Without PAUSE, or while an execution runs, only STATE is settled. -/
theorem schSettle_awake {s : State} (h : s.paused = false ∨ s.sch.exec.isSome = true) :
    schSettle s = withState (settled s) s := by
  obtain ⟨hs, _⟩ | ⟨_, _, hpause, hexec⟩ := schSettle_cases s
  · exact hs
  · rcases h with h | h
    · exact absurd hpause (by simp [h])
    · exact absurd h (by simp [hexec])

/-- A module that runs and has ended its execution enters PAUSED. -/
theorem schSettle_pauses {s : State} (hrun : s.sch.st = .running) (hexec : s.sch.exec = none) (hfrozen : s.sch.applyFrozen = false)
    (hcopy : s.sch.ckptCopy = none) (hpause : s.paused = true) : schSettle s = pauseNoted s := by
  have hst : settled s = .paused := by
    rw [settled_runs (by simp [hrun]) (by simp [hrun]) (by simp [hrun]) hfrozen hcopy, if_pos (by simp [hpause, hexec])]
  obtain ⟨_, hwas⟩ | ⟨h, _⟩ := schSettle_cases s
  · exact absurd (hwas hst) (by simp [hrun])
  · exact h

theorem pauseNoted_pendBit (s : State) : (pauseNoted s).pendBit 0x084 = true := raise_pendBit (by simp [eventAbsent])

theorem pauseNoted_longHold (s : State) : (pauseNoted s).pwr.longHold = true :=
  congrArg PwrSt.longHold ((raise_chg 0x084 { withState .paused s with pwr := { s.pwr with longHold := true } }).same .pwr (by decide))

/-! ### A wake (R440, R441) -/

theorem startWake_regsBut (s : State) : RegsBut [Reg.PWR_CTRL] s (startWake s) := by
  unfold startWake
  split
  · exact regsBut_refl _ _
  · exact regsBut_setFld { s with pwr := { s.pwr with trans := s.pwr.trans ++ [PowMode.on] } } _ _ _ _

theorem startWake_trans (s : State) :
    (startWake s).pwr.trans = if powTo s = .on then s.pwr.trans else s.pwr.trans ++ [.on] := by
  unfold startWake
  split
  · rfl
  · exact congrArg PwrSt.trans (setFld_pwr ..)

theorem startWake_sch (s : State) : (startWake s).sch = s.sch := (startWake_chg s).same .sch (by decide)

/-! ### A write of SCH_CTRL (R102 to R104, R165) -/

/-- PAUSE and DEPTH read alike in two states whose SCH_CTRL reads alike. -/
theorem ctrl_of_reg {s t : State} (h : t.reg Reg.SCH_CTRL = s.reg Reg.SCH_CTRL) : t.paused = s.paused ∧ t.depth = s.depth :=
  ⟨bit_of_reg h 0, fld_of_reg h 1 2⟩

/-- What a write of SCH_CTRL stores of DEPTH. -/
def depthStored (val : Word32) (s : State) : State :=
  if bitsOf val 1 2 = 3 then s else s.setFld Reg.SCH_CTRL 1 2 (bitsOf val 1 2)

theorem depthStored_chg (val : Word32) (s : State) : Chg 2 s (depthStored val s) :=
  .ite (.refl _ _) (State_setFld_chg ..)

theorem depthStored_regsBut (val : Word32) (s : State) : RegsBut [Reg.SCH_CTRL] s (depthStored val s) := by
  unfold depthStored
  split
  · exact regsBut_refl _ _
  · exact regsBut_setFld s _ _ _ _

theorem depthStored_paused (val : Word32) (s : State) : (depthStored val s).paused = s.paused := by
  unfold depthStored
  split
  · rfl
  · exact bit_setFld_other s _ (by decide) (by decide)

theorem depthStored_depth (val : Word32) (s : State) :
    (depthStored val s).depth = if bitsOf val 1 2 = 3 then s.depth else bitsOf val 1 2 := by
  unfold depthStored
  split
  · rfl
  · rw [State.depth, fld_setFld_same _ _ (by decide), Nat.mod_eq_of_lt]
    exact Nat.mod_lt _ (by decide)

/-- PAUSE is set. -/
def pausing (s : State) : State := schSettle (setPause s)

/-- PAUSE is cleared, which wakes the module. -/
def releasing (s : State) : State := startWake (schSettle (s.setBit Reg.SCH_CTRL 0 false))

/-- A write of SCH_CTRL stores DEPTH, and then PAUSE as R104 and R165 allow. -/
theorem schCtrlWrite_eq (val : Word32) (s : State) : schCtrlWrite val s =
    if faultHeld s then (if val.getLsbD 0 then depthStored val s else startWake (depthStored val s))
    else if val.getLsbD 0 then pausing (depthStored val s)
    else if installBusy s && s.paused then loadDropped (depthStored val s) else releasing (depthStored val s) := by
  have hheld : faultHeld (depthStored val s) = faultHeld s := by
    rw [faultHeld, (depthStored_chg val s).same .sch (by decide), faultHeld]
  have hbusy : installBusy (depthStored val s) = installBusy s := by
    rw [installBusy, (depthStored_chg val s).same .load (by decide), installBusy]
  rw [← hheld, ← hbusy, ← depthStored_paused val s]
  rfl

section
variable (s : State)

theorem pausing_regsBut : RegsBut [Reg.SCH_CTRL, pendReg 0x084] s (pausing s) :=
  regsBut_trans (regsBut_mono (regsBut_setBit s Reg.SCH_CTRL 0 true) (by decide))
    (regsBut_mono (schSettle_regsBut (setPause s)) (by decide))

theorem pausing_chg : Chg 33555602 s (pausing s) := .after (schSettle_chg _) (.after (setPause_chg ..) (.refl _ _))

theorem pausing_ctrl : (pausing s).paused = true ∧ (pausing s).depth = s.depth := by
  obtain ⟨hpaused, hdepth⟩ := ctrl_of_reg (schSettle_regsBut (setPause s) Reg.SCH_CTRL (by decide))
  exact ⟨hpaused.trans (setPause_paused s), hdepth.trans (fld_setBit_other s true (by decide) (by decide))⟩

/-- Between executions the running module enters PAUSED. -/
theorem pausing_pauses (hrun : s.sch.st = .running) (hexec : s.sch.exec = none) (hfrozen : s.sch.applyFrozen = false)
    (hcopy : s.sch.ckptCopy = none) :
    (pausing s).sch.st = .paused ∧ (pausing s).pendBit 0x084 = true ∧ (pausing s).pwr.longHold = true := by
  rw [pausing, schSettle_pauses (s := setPause s) hrun hexec hfrozen hcopy (setPause_paused s)]
  exact ⟨congrArg SchSt.st (pauseNoted_sch _), pauseNoted_pendBit _, pauseNoted_longHold _⟩

/-- Within an execution it goes on running. -/
theorem pausing_goesOn (hrun : s.sch.st = .running) (hexec : s.sch.exec.isSome = true) (hfrozen : s.sch.applyFrozen = false)
    (hcopy : s.sch.ckptCopy = none) : (pausing s).sch.st = .running := by
  have hst : settled (setPause s) = .running := by
    rw [settled_runs (s := setPause s) (by simp [setPause, hrun]) (by simp [setPause, hrun]) (by simp [setPause, hrun])
      hfrozen hcopy, if_neg (by simp [setPause, Option.isSome_iff_ne_none.mp hexec])]
  rw [pausing, schSettle_sch, hst]

theorem releasing_eq : releasing s = startWake (withState (settled (s.setBit Reg.SCH_CTRL 0 false)) (s.setBit Reg.SCH_CTRL 0 false)) := by
  rw [releasing, schSettle_awake (.inl (bit_setBit_same s false (by decide)))]

theorem releasing_regsBut : RegsBut [Reg.SCH_CTRL, Reg.PWR_CTRL] s (releasing s) := by
  rw [releasing_eq]
  exact regsBut_trans (regsBut_mono (regsBut_setBit s Reg.SCH_CTRL 0 false) (by decide))
    (regsBut_mono (startWake_regsBut (withState _ _)) (by decide))

theorem releasing_chg : Chg 33555458 s (releasing s) := by
  rw [releasing_eq]
  exact .after (startWake_chg _) (.after (withState_chg ..) (.after (State_setBit_chg ..) (.refl _ _)))

theorem releasing_ctrl : (releasing s).paused = false ∧ (releasing s).depth = s.depth := by
  rw [releasing_eq]
  obtain ⟨hpaused, hdepth⟩ := ctrl_of_reg (startWake_regsBut
    (withState (settled (s.setBit Reg.SCH_CTRL 0 false)) (s.setBit Reg.SCH_CTRL 0 false)) Reg.SCH_CTRL (by decide))
  exact ⟨hpaused.trans (bit_setBit_same s false (by decide)), hdepth.trans (fld_setBit_other s false (by decide) (by decide))⟩

theorem releasing_trans : (releasing s).pwr.trans = if powTo s = .on then s.pwr.trans else s.pwr.trans ++ [.on] := by
  rw [releasing_eq, startWake_trans]
  rfl

/-- The paused module runs. -/
theorem releasing_runs (hst : s.sch.st = .paused) (hfrozen : s.sch.applyFrozen = false) (hcopy : s.sch.ckptCopy = none) :
    (releasing s).sch.st = .running := by
  have hpaused : (s.setBit Reg.SCH_CTRL 0 false).paused = false := bit_setBit_same s false (by decide)
  rw [releasing_eq, startWake_sch]
  exact (settled_runs (s := s.setBit Reg.SCH_CTRL 0 false) (by simp [hst]) (by simp [hst]) (by simp [hst]) hfrozen hcopy).trans
    (if_neg (by rw [hpaused]; simp))

end

theorem loadDropped_regsBut (s : State) : RegsBut [Reg.SCH_LOAD_STATUS] s (loadDropped s) := regsBut_setBit s _ _ _

theorem loadDropped_bit (s : State) : (loadDropped s).bit Reg.SCH_LOAD_STATUS 19 = true := bit_setBit_same s true (by decide)

/-! ### The commands of run control -/

section
variable {path : Path} {val : Word32} {s : State}

theorem exec_pauseSet (hup : s.up = true) (h : accepts path Reg.SCH_CTRL (withBits (s.reg Reg.SCH_CTRL) 0 1 1) s) :
    exec (.pauseSet path) s = .next (schCtrlWrite (withBits (s.reg Reg.SCH_CTRL) 0 1 1) (markDirty Reg.SCH_CTRL s)) :=
  (run_up _ hup).trans (congrArg _ (regAccess_accepted _ h))

theorem exec_pauseClear (hup : s.up = true) (h : accepts path Reg.SCH_CTRL (withBits (s.reg Reg.SCH_CTRL) 0 1 0) s) :
    exec (.pauseClear path) s = .next (schCtrlWrite (withBits (s.reg Reg.SCH_CTRL) 0 1 0) (markDirty Reg.SCH_CTRL s)) :=
  (run_up _ hup).trans (congrArg _ (regAccess_accepted _ h))

theorem exec_depthSet {depth : BitVec 2} (hup : s.up = true)
    (h : accepts path Reg.SCH_CTRL (withBits (s.reg Reg.SCH_CTRL) 1 2 depth.toNat) s) : exec (.depthSet path depth) s =
      .next (schCtrlWrite (withBits (s.reg Reg.SCH_CTRL) 1 2 depth.toNat) (markDirty Reg.SCH_CTRL s)) :=
  (run_up _ hup).trans (congrArg _ (regAccess_accepted _ h))

theorem exec_runCountWrite (hup : s.up = true) (h : accepts path Reg.SCH_RUN_COUNT val s) :
    exec (.runCountWrite path val) s = .next (storeReg Reg.SCH_RUN_COUNT val (markDirty Reg.SCH_RUN_COUNT s)) :=
  (run_up _ hup).trans (congrArg _ (regAccess_accepted _ h))

theorem exec_holdLong (hup : s.up = true) : exec .holdLong s = .next (holdLong s) := run_up _ hup

end

theorem faultHeld_markDirty (off : Nat) (s : State) : faultHeld (markDirty off s) = faultHeld s := by
  rw [faultHeld, markDirty_same off s .sch, faultHeld]

theorem installBusy_markDirty (off : Nat) (s : State) : installBusy (markDirty off s) = installBusy s := by
  rw [installBusy, markDirty_same off s .load, installBusy]

/-- An accepted write of SCH_CTRL has stored DEPTH. -/
def ctrlTaken (val : Word32) (s : State) : State := depthStored val (markDirty Reg.SCH_CTRL s)

section
variable (val : Word32) (s : State)

theorem ctrlTaken_chg : Chg 130 s (ctrlTaken val s) := .after (depthStored_chg ..) (.after (markDirty_chg ..) (.refl _ _))

theorem ctrlTaken_regsBut : RegsBut [Reg.SCH_CTRL] s (ctrlTaken val s) :=
  regsBut_trans (regsBut_markDirty _ _ s) (depthStored_regsBut val (markDirty Reg.SCH_CTRL s))

theorem ctrlTaken_paused : (ctrlTaken val s).paused = s.paused :=
  (depthStored_paused ..).trans (ctrl_of_reg (markDirty_reg ..)).1

theorem ctrlTaken_depth : (ctrlTaken val s).depth = if bitsOf val 1 2 = 3 then s.depth else bitsOf val 1 2 := by
  rw [ctrlTaken, depthStored_depth, (ctrl_of_reg (markDirty_reg ..)).2]

theorem ctrlTaken_sch : (ctrlTaken val s).sch = s.sch := (ctrlTaken_chg val s).same .sch (by decide)

theorem ctrlTaken_powTo : powTo (ctrlTaken val s) = powTo s := by
  rw [powTo, (ctrlTaken_chg val s).same .pwr (by decide), powTo]

theorem ctrlTaken_trans : (ctrlTaken val s).pwr.trans = s.pwr.trans :=
  congrArg PwrSt.trans ((ctrlTaken_chg val s).same .pwr (by decide))

/-- A write of PAUSE alone stores the DEPTH that is read. -/
theorem ctrlTaken_depth_kept (v : Nat) : (ctrlTaken (withBits (s.reg Reg.SCH_CTRL) 0 1 v) s).depth = s.depth := by
  rw [ctrlTaken_depth, bitsOf_withBits_other _ _ (by decide) (by decide), ← State.fld, ← State.depth, ite_self]

/-- The wake that a write of 0 to PAUSE begins, in FAULT_STOP too. -/
theorem wake_of_ctrl : (startWake (ctrlTaken val s)).paused = s.paused ∧
    (startWake (ctrlTaken val s)).depth = (ctrlTaken val s).depth ∧
    (startWake (ctrlTaken val s)).pwr.trans = (if powTo s = .on then s.pwr.trans else s.pwr.trans ++ [.on]) ∧
    (startWake (ctrlTaken val s)).sch = s.sch := by
  obtain ⟨hpaused, hdepth⟩ := ctrl_of_reg (startWake_regsBut (ctrlTaken val s) Reg.SCH_CTRL (by decide))
  exact ⟨hpaused.trans (ctrlTaken_paused ..), hdepth, by rw [startWake_trans, ctrlTaken_powTo, ctrlTaken_trans],
    (startWake_sch _).trans (ctrlTaken_sch ..)⟩

/-- An accepted write of SCH_CTRL, by what PAUSE may do. -/
theorem schCtrl_accepted : schCtrlWrite val (markDirty Reg.SCH_CTRL s) =
    if faultHeld s then (if val.getLsbD 0 then ctrlTaken val s else startWake (ctrlTaken val s))
    else if val.getLsbD 0 then pausing (ctrlTaken val s)
    else if installBusy s && s.paused then loadDropped (ctrlTaken val s) else releasing (ctrlTaken val s) := by
  rw [schCtrlWrite_eq, faultHeld_markDirty, installBusy_markDirty, (ctrl_of_reg (markDirty_reg Reg.SCH_CTRL s _)).1]
  rfl

end

theorem pauseBit (x : Word32) {v : Nat} (hv : v < 2) : (withBits x 0 1 v).getLsbD 0 = (v == 1) := by
  rw [withBits_getLsbD _ (by decide), if_pos (by decide)]
  interval_cases v <;> rfl

/-- A write of DEPTH alone writes the PAUSE that is read. -/
theorem pauseBit_kept (s : State) (v : Nat) : (withBits (s.reg Reg.SCH_CTRL) 1 2 v).getLsbD 0 = s.paused := by
  rw [withBits_getLsbD _ (by decide), if_neg (by decide), State.paused, bit_eq]

/-- A write of DEPTH does nothing but wake a module that is not paused, and settle STATE. -/
theorem depth_accepted (s : State) (v : Nat) : ∃ t,
    schCtrlWrite (withBits (s.reg Reg.SCH_CTRL) 1 2 v) (markDirty Reg.SCH_CTRL s) = t ∧ t.paused = s.paused ∧
    t.depth = (ctrlTaken (withBits (s.reg Reg.SCH_CTRL) 1 2 v) s).depth ∧
    RegsBut [Reg.SCH_CTRL, pendReg 0x084, Reg.PWR_CTRL] (ctrlTaken (withBits (s.reg Reg.SCH_CTRL) 1 2 v) s) t ∧
    Chg 33555602 (ctrlTaken (withBits (s.reg Reg.SCH_CTRL) 1 2 v) s) t := by
  rw [schCtrl_accepted, pauseBit_kept]
  have hkept := ctrlTaken_paused (withBits (s.reg Reg.SCH_CTRL) 1 2 v) s
  generalize ctrlTaken (withBits (s.reg Reg.SCH_CTRL) 1 2 v) s = u at hkept
  refine ⟨_, rfl, ?_⟩
  by_cases hheld : faultHeld s = true
  · rw [if_pos hheld]
    by_cases hpause : s.paused = true
    · rw [if_pos hpause]
      exact ⟨hkept, rfl, regsBut_refl _ _, .refl _ _⟩
    · rw [if_neg hpause]
      obtain ⟨hpaused, hdepth⟩ := ctrl_of_reg (startWake_regsBut u Reg.SCH_CTRL (by decide))
      exact ⟨hpaused.trans hkept, hdepth, regsBut_mono (startWake_regsBut u) (by decide), .after (startWake_chg u) (.refl _ _)⟩
  · rw [if_neg hheld]
    by_cases hpause : s.paused = true
    · rw [if_pos hpause, hpause]
      exact ⟨(pausing_ctrl u).1, (pausing_ctrl u).2, regsBut_mono (pausing_regsBut u) (by decide), pausing_chg u⟩
    · rw [if_neg hpause, if_neg (by simp [hpause]), Bool.not_eq_true _ |>.mp hpause]
      exact ⟨(releasing_ctrl u).1, (releasing_ctrl u).2, regsBut_mono (releasing_regsBut u) (by decide),
        .after (releasing_chg u) (.refl _ _)⟩

theorem rowAt_runCount : rowAt Reg.SCH_RUN_COUNT =
    some ⟨"SCH_RUN_COUNT", 0x200018, 0x4, 1, BitVec.allOnes 32, 0, 0, 0, 0, 0⟩ := by decide +kernel

theorem storeReg_runCount (val : Word32) (s : State) : (storeReg Reg.SCH_RUN_COUNT val s).reg Reg.SCH_RUN_COUNT = val := by
  rw [storeReg_reg rowAt_runCount]
  simp [-BitVec.reduceAllOnes]

theorem holdLong_quiet {s : State} (h : s.fld Reg.SCH_HOLD_LIMIT 0 16 = 0 ∨ s.sch.holdRun = 0 ∨ s.sch.holdRaised = true) :
    holdLong s = s := if_pos h

/-- The sources of a long hold are captured. -/
def holdCaptured (s : State) : State :=
  { s with sch := { s.sch with holdRaised := true } }.setReg Reg.SCH_HOLD_CAPT ((sourcesNow s).setWidth 32)

theorem holdCaptured_chg (s : State) : Chg 1026 s (holdCaptured s) := .after (State_setReg_chg ..) (.upd (.refl _ _))

theorem holdLong_reports {s : State} (hlim : s.fld Reg.SCH_HOLD_LIMIT 0 16 ≠ 0) (hrun : s.sch.holdRun ≠ 0)
    (hnew : s.sch.holdRaised = false) : holdLong s = raise 0x083 (holdCaptured s) := by
  rw [holdLong, if_neg (by simp [hlim, hrun, hnew])]
  rfl

/-- Settles O30: the writes of SCH_CTRL by what the write may do to PAUSE, and the long hold by its capture. -/
theorem runControl : Obligations.RunControl := by
  unfold Obligations.RunControl
  refine ⟨fun path s hup hacc => ⟨fun hheld => ?set, fun hheld => ?setHeld⟩,
    fun path s hup hacc => ⟨fun hheld hfree => ?clear, fun hheld hbusy => ?clearDropped, fun hheld => ?clearHeld⟩,
    fun path depth s hup hacc => ?depth, fun path val s hup hacc => ?runCount, fun s hup => ⟨fun hlim hrun hnew => ?hold, fun h => ?noHold⟩⟩
  case set =>
    obtain ⟨hpaused, hdepth⟩ := pausing_ctrl (ctrlTaken (withBits (s.reg Reg.SCH_CTRL) 0 1 1) s)
    have hsch := ctrlTaken_sch (withBits (s.reg Reg.SCH_CTRL) 0 1 1) s
    refine ⟨_, by rw [exec_pauseSet hup hacc, schCtrl_accepted, if_neg (by simp [hheld]), pauseBit _ (by decide)]; rfl,
      hpaused, hdepth.trans (ctrlTaken_depth_kept ..), ?_, ?_,
      regsBut_trans (regsBut_mono (ctrlTaken_regsBut _ s) (by decide)) (pausing_regsBut _),
      (Chg.after (m := 33555602) (pausing_chg _) (.after (ctrlTaken_chg ..) (.refl _ _))).changes⟩
    · rw [← hsch]
      exact pausing_pauses _
    · rw [← hsch]
      exact pausing_goesOn _
  case setHeld =>
    exact ⟨_, by rw [exec_pauseSet hup hacc, schCtrl_accepted, if_pos hheld, pauseBit _ (by decide)]; rfl,
      ctrlTaken_paused .., ctrlTaken_depth_kept .., ctrlTaken_regsBut _ s, (ctrlTaken_chg ..).changes⟩
  case clear =>
    obtain ⟨hpaused, hdepth⟩ := releasing_ctrl (ctrlTaken (withBits (s.reg Reg.SCH_CTRL) 0 1 0) s)
    have hsch := ctrlTaken_sch (withBits (s.reg Reg.SCH_CTRL) 0 1 0) s
    refine ⟨releasing (ctrlTaken (withBits (s.reg Reg.SCH_CTRL) 0 1 0) s), ?_, hpaused, hdepth.trans (ctrlTaken_depth_kept ..), ?_, ?_,
      regsBut_trans (regsBut_mono (ctrlTaken_regsBut _ s) (by decide)) (releasing_regsBut _),
      (Chg.after (m := 33555586) (releasing_chg _) (.after (ctrlTaken_chg ..) (.refl _ _))).changes⟩
    · rw [exec_pauseClear hup hacc, schCtrl_accepted, if_neg (by simp [hheld]), pauseBit _ (by decide), if_neg (by decide), hfree]
      rfl
    · rw [← hsch]
      exact releasing_runs _
    · rw [releasing_trans, ctrlTaken_powTo, ctrlTaken_trans]
  case clearDropped =>
    have hctrl := ctrl_of_reg (loadDropped_regsBut (ctrlTaken (withBits (s.reg Reg.SCH_CTRL) 0 1 0) s) Reg.SCH_CTRL (by decide))
    have hpaused : s.paused = true := ((Bool.and_eq_true _ _).mp hbusy).2
    refine ⟨loadDropped (ctrlTaken (withBits (s.reg Reg.SCH_CTRL) 0 1 0) s), ?_,
      hctrl.1.trans ((ctrlTaken_paused ..).trans hpaused), hctrl.2.trans (ctrlTaken_depth_kept ..), loadDropped_bit _,
      regsBut_trans (regsBut_mono (ctrlTaken_regsBut _ s) (by decide)) (regsBut_mono (loadDropped_regsBut _) (by decide)),
      (Chg.after (m := 130) (loadDropped_chg _) (.after (ctrlTaken_chg ..) (.refl _ _))).changes⟩
    rw [exec_pauseClear hup hacc, schCtrl_accepted, if_neg (by simp [hheld]), pauseBit _ (by decide), if_neg (by decide), hbusy]
    rfl
  case clearHeld =>
    obtain ⟨hpaused, hdepth, htrans, hsch⟩ := wake_of_ctrl (withBits (s.reg Reg.SCH_CTRL) 0 1 0) s
    refine ⟨_, by rw [exec_pauseClear hup hacc, schCtrl_accepted, if_pos hheld, pauseBit _ (by decide)]; rfl,
      hpaused, hdepth.trans (ctrlTaken_depth_kept ..), htrans, hsch,
      regsBut_trans (regsBut_mono (ctrlTaken_regsBut _ s) (by decide)) (regsBut_mono (startWake_regsBut _) (by decide)),
      (Chg.after (m := 33554562) (startWake_chg _) (.after (ctrlTaken_chg ..) (.refl _ _))).changes⟩
  case depth =>
    have hval : bitsOf (withBits (s.reg Reg.SCH_CTRL) 1 2 depth.toNat) 1 2 = depth.toNat := by
      rw [bitsOf_withBits_same _ _ (by decide), Nat.mod_eq_of_lt depth.isLt]
    have hthree : depth.toNat = 3 ↔ depth = 3 := ⟨fun h => BitVec.eq_of_toNat_eq h, fun h => by rw [h]; rfl⟩
    obtain ⟨t, ht, hpaused, hdepth, hregs, hchg⟩ := depth_accepted s depth.toNat
    refine ⟨t, by rw [exec_depthSet hup hacc, ht], hpaused, ?_,
      regsBut_trans (regsBut_mono (ctrlTaken_regsBut _ s) (by decide)) hregs,
      (Chg.after (m := 33555602) hchg (.after (ctrlTaken_chg ..) (.refl _ _))).changes⟩
    rw [hdepth, ctrlTaken_depth, hval]
    simp only [hthree]
  case runCount =>
    exact ⟨_, exec_runCountWrite hup hacc, storeReg_runCount ..,
      fun o ho => (storeReg_other (by simpa using ho)).trans (markDirty_reg ..),
      (Chg.after (m := 130) (storeReg_chg ..) (.after (markDirty_chg ..) (.refl _ _))).changes⟩
  case hold =>
    refine ⟨_, by rw [exec_holdLong hup, holdLong_reports hlim hrun hnew], ?_, ?_, raise_pendBit (by simp [eventAbsent]),
      ?_, (Chg.after (m := 1170) (raise_chg ..) (.after (holdCaptured_chg s) (.refl _ _))).changes⟩
    · exact (raise_chg ..).same .sch (by decide)
    · rw [raise_reg _ (by decide)]
      exact reg_setReg_same ..
    · exact regsBut_trans (regsBut_mono (regsBut_setReg { s with sch := { s.sch with holdRaised := true } } _ _) (by decide))
        (regsBut_mono (regsBut_raise 0x083 (holdCaptured s)) (by decide))
  case noHold => rw [exec_holdLong hup, holdLong_quiet h]

end Sys2Proof.Proofs
end

section
/-!
Proofs of the family 03_design_cycle: requests and executions of applies (O31).
-/
namespace Sys2Proof.Proofs
open Sys2Proof.Machine Sys2Proof.Laws

/-! ### The end of an operation: STATUS, DONE and its event -/

/-- Every event below the channels' is one that every grade has. -/
theorem eventAbsent_low {e : Nat} (h : e < 0x180) (s : State) : eventAbsent s e = false := by
  have h1 : ¬ 0x5C0 ≤ e := by omega
  have h2 : ¬ 0x180 ≤ e := by omega
  have h3 : ¬ 0x280 ≤ e := by omega
  simp [eventAbsent, h1, h2, h3]

/-- The register of an operation takes STATUS and DONE, and the operation's event is raised. -/
def opEnded (o e st : Nat) (s : State) : State := raise e ((s.setFld o 8 8 st).setBit o 16 true)

section
variable {o e st : Nat} (s : State)

theorem opEnded_regsBut : RegsBut [o, pendReg e] s (opEnded o e st s) :=
  regsBut_trans (regsBut_mono (regsBut_setFld s o 8 8 st) (by simp))
    (regsBut_trans (regsBut_mono (regsBut_setBit (s.setFld o 8 8 st) o 16 true) (by simp))
      (regsBut_mono (regsBut_raise e _) (by simp)))

theorem opEnded_chg : Chg 146 s (opEnded o e st s) :=
  .after (raise_chg ..) (.after (State_setBit_chg ..) (.after (State_setFld_chg ..) (.refl _ _)))

theorem opEnded_pendBit (he : e < 0x180) : (opEnded o e st s).pendBit e = true := raise_pendBit (eventAbsent_low he _)

theorem opEnded_status (ho : o ≠ pendReg e) (hst : st < 256) : (opEnded o e st s).fld o 8 8 = st := by
  rw [opEnded, fld_of_reg (raise_reg _ ho), fld_setBit_other _ _ (by decide) (by decide), fld_setFld_same _ _ (by decide)]
  exact Nat.mod_eq_of_lt hst

theorem opEnded_done (ho : o ≠ pendReg e) : (opEnded o e st s).bit o 16 = true := by
  rw [opEnded, bit_of_reg (raise_reg _ ho)]
  exact bit_setBit_same _ true (by decide)

end

/-- Settling STATE takes back no event. -/
theorem schSettle_keepsPending {e : Nat} {s : State} (h : s.pendBit e = true) : (schSettle s).pendBit e = true := by
  rw [State.pendBit, bit_eq] at h ⊢
  obtain ⟨hs, _⟩ | ⟨hs, _⟩ := schSettle_cases s
  · rw [hs]
    exact h
  · rw [hs]
    exact raise_keeps (Nat.mod_lt _ (by decide)) h

/-! ### Requests for an apply (R105, R108, R165, R442) -/

theorem applyRefused_eq (st : Nat) (s : State) : applyRefused st s = opEnded Reg.SCH_APPLY 0x085 st s := rfl

/-- The cycle before which a requested apply is to take effect. -/
def applyTarget (s : State) : Word64 :=
  if s.reg64 Reg.SCH_APPLY_CYC = 0 ∨ cycLe (s.reg64 Reg.SCH_APPLY_CYC) s.sch.highest then s.sch.highest + 1
  else s.reg64 Reg.SCH_APPLY_CYC

theorem applyTarget_markDirty (off : Nat) (s : State) : applyTarget (markDirty off s) = applyTarget s := by
  have hcyc : (markDirty off s).reg64 Reg.SCH_APPLY_CYC = s.reg64 Reg.SCH_APPLY_CYC := by
    rw [State.reg64, markDirty_reg, markDirty_reg, State.reg64]
  rw [applyTarget, hcyc, markDirty_same off s .sch, applyTarget]

/-- A request waits for its target cycle. -/
def applyWaiting (s : State) : State :=
  { s with sch := { s.sch with applyT := some (applyTarget s) } }.setBit Reg.SCH_APPLY 16 false

theorem applyWaiting_chg (s : State) : Chg 1026 s (applyWaiting s) := .after (State_setBit_chg ..) (.upd (.refl _ _))

/-- A write of GO, by the first check that ends it. -/
theorem applyGo_eq (owns : Bool) (s : State) : applyGo owns 1 s =
    if installBusy s then loadDropped s else if owns = false then applyRefused 3 s
    else if s.pwr.mode ≠ .on ∨ s.sch.applyT.isSome then applyRefused 9 s else applyWaiting s := by
  rw [applyGo, if_neg (by decide)]
  cases owns <;> rfl

theorem exec_applyGo {path : Path} {owns : Bool} {s : State} (hup : s.up = true) (h : accepts path Reg.SCH_APPLY 1 s) :
    exec (.applyGo ⟨path, owns⟩) s = .next (applyGo owns 1 (markDirty Reg.SCH_APPLY s)) :=
  (run_up _ hup).trans (congrArg _ (regAccess_accepted _ h))

/-! ### The end of an apply -/

/-- No apply stands in STATE or in the queue. -/
def applyGone (s : State) : State := { s with sch := { s.sch with applyT := none, applyFrozen := false } }

theorem applyEnd_eq (st : Nat) (s : State) : applyEnd st s = schSettle (opEnded Reg.SCH_APPLY 0x085 st (applyGone s)) := rfl

section
variable {st : Nat} (s : State)

theorem applyEnd_sch : (applyEnd st s).sch.applyT = none ∧ (applyEnd st s).sch.applyFrozen = false := by
  have hsch : (opEnded Reg.SCH_APPLY 0x085 st (applyGone s)).sch = (applyGone s).sch := (opEnded_chg _).same .sch (by decide)
  rw [applyEnd_eq, schSettle_sch, hsch]
  exact ⟨rfl, rfl⟩

theorem applyEnd_regsBut : RegsBut [Reg.SCH_APPLY, pendReg 0x085, pendReg 0x084] s (applyEnd st s) :=
  regsBut_trans (regsBut_mono (opEnded_regsBut (applyGone s)) (by decide))
    (regsBut_mono (schSettle_regsBut (opEnded Reg.SCH_APPLY 0x085 st (applyGone s))) (by decide))

/-- STATUS, DONE and the event of an apply that has ended. -/
theorem applyEnd_reports (hst : st < 256) : (applyEnd st s).fld Reg.SCH_APPLY 8 8 = st ∧
    (applyEnd st s).bit Reg.SCH_APPLY 16 = true ∧ (applyEnd st s).pendBit 0x085 = true := by
  have hreg := schSettle_regsBut (opEnded Reg.SCH_APPLY 0x085 st (applyGone s)) Reg.SCH_APPLY (by decide)
  rw [applyEnd_eq]
  exact ⟨(fld_of_reg hreg 8 8).trans (opEnded_status _ (by decide) hst), (bit_of_reg hreg 16).trans (opEnded_done _ (by decide)),
    schSettle_keepsPending (opEnded_pendBit _ (by decide))⟩

end

/-! ### What an apply installs (R170, R172, R322) -/

/-- The cycles before the apply have been evaluated, where it changes what they are evaluated with. -/
def astSettled (s : State) : State := if s.ast.staged || s.staged.probe.isSome then astDrain 200 s else s

/-- The image notes the digest from before and the cycle at which it changes. -/
def applyNamed (t : Word64) (s : State) : State :=
  if s.staged.any then { s with img := { s.img with prevDigest := s.img.digest, appliedAt := t } } else s

/-- With a new probe map the activity probes have the values of the committed copy. -/
def probesTaken (mapped : Bool) (s : State) : State :=
  if mapped then { s with ast := { s.ast with prevA := actProbes s s.sch.comCopy } } else s

theorem applyNow_eq (t : Word64) (s : State) : applyNow t s =
    applyEnd 0 (probesTaken s.staged.probe.isSome (astApply t (applyImage (applyNamed t (astSettled s))))) := rfl

theorem astSettled_chg (s : State) : Chg 79724698 s (astSettled s) := .ite (astDrain_chg ..) (.refl _ _)

theorem probesTaken_chg (mapped : Bool) (s : State) : Chg 4194304 s (probesTaken mapped s) := .ite (.upd (.refl _ _)) (.refl _ _)

/-- Staged content replaces what it names. -/
def imagePatched (g : StagedSt) (i : ImageSt) : ImageSt := { i with
  route := g.route.getD i.route, slotHbd := g.slotHbd.getD i.slotHbd, slotLane := g.slotLane.getD i.slotLane
  probe := g.probe.getD i.probe, digest := g.digest.getD i.digest, patched := true }

/-- The image and the tiers take the staged content, which is staged no longer. -/
def contentTaken (s : State) : State :=
  { s with img := imagePatched s.staged s.img, clu := { s.clu with tier := patchTier s.staged.patch s.clu.tier }, staged := {} }

/-- The clusters take a staged configuration. -/
def configTaken (g : StagedSt) (s : State) : State :=
  match g.cfg with
  | some m => forEach (List.range s.clusters) (fun c s => s.setFld (cluReg c 0x20) 0 13 ((mget m 0 c).toNat % 2 ^ 13)) s
  | none => s

theorem configTaken_chg (g : StagedSt) (s : State) : Chg 2 s (configTaken g s) := by
  unfold configTaken
  split
  · exact .each (.refl _ _) fun _ _ => State_setFld_chg ..
  · exact .refl _ _

theorem applyImage_eq {s : State} (h : s.staged.any = true) : applyImage s = configTaken s.staged (contentTaken s) :=
  if_neg (by simp [h])

/-- The staged content is installed, with its digest, the one from before and the cycle. -/
theorem applyNow_installs {t : Word64} {s : State} (h : s.staged.any = true) :
    (applyNow t s).staged = {} ∧
    (applyNow t s).img = imagePatched s.staged { s.img with prevDigest := s.img.digest, appliedAt := t } := by
  have hstaged : (astSettled s).staged = s.staged := (astSettled_chg s).same .staged (by decide)
  have himg : (astSettled s).img = s.img := (astSettled_chg s).same .img (by decide)
  have hnamed : applyNamed t (astSettled s) =
      { astSettled s with img := { (astSettled s).img with prevDigest := (astSettled s).img.digest, appliedAt := t } } :=
    if_pos (by rw [hstaged, h])
  have hany : (applyNamed t (astSettled s)).staged.any = true := by
    rw [hnamed, ← h, ← hstaged]
  have hlast : Chg 46138514 (contentTaken (applyNamed t (astSettled s))) (applyNow t s) := by
    rw [applyNow_eq, applyImage_eq hany]
    exact .after (applyEnd_chg ..) (.after (probesTaken_chg ..) (.after (astApply_chg ..) (.after (configTaken_chg ..) (.refl _ _))))
  refine ⟨hlast.same .staged (by decide), (hlast.same .img (by decide)).trans ?_⟩
  rw [contentTaken, hnamed, ← hstaged, ← himg]

/-! ### The commands of an apply (R105 to R107) -/

theorem exec_applyExecute {intact : Bool} {s : State} (hup : s.up = true) :
    exec (.applyExecute intact) s = .next (applyExecute intact s) := run_up _ hup

/-- The cycle before the target `T` has committed. -/
def applyDue (T : Word64) (s : State) : Bool := cycLe (T - 1) s.sch.committed

/-- An apply may not take effect here: it is frozen already, this is not the start point before its target, or the cycle before its
target has not committed. -/
def applyShut (due : Bool) (s : State) : Bool :=
  s.sch.applyFrozen || s.sch.exec.isSome || s.sch.phase ≠ .start || s.U ≠ 0 || !due ||
    s.sch.ckptCopy.isSome || s.sch.st = .rewind

/-- The frozen apply is being written. -/
def applyFreezes (s : State) : State := { s with sch := { s.sch with applyFrozen := true } }

theorem applyExecute_none {intact : Bool} {s : State} (h : s.sch.applyT = none) : applyExecute intact s = s := by
  rw [applyExecute, h]

theorem applyExecute_some {intact : Bool} {T : Word64} {s : State} (h : s.sch.applyT = some T) : applyExecute intact s =
    if applyShut (applyDue T s) s then s else if intact = false then applyEnd 7 s
    else if applyIsFrozen s then schSettle (applyFreezes s) else applyNow (nextNum s) s := by
  rw [applyExecute, h]
  cases intact <;> rfl

/-- The frozen apply of a module that has an image and no fault stop is the state FROZEN. -/
theorem schSettle_freezes {s : State} (hidle : s.sch.st ≠ .idle) (hstop : s.sch.st ≠ .faultStop) (hrew : s.sch.st ≠ .rewind) :
    schSettle (applyFreezes s) = withState .frozen (applyFreezes s) := by
  have hst : settled (applyFreezes s) = .frozen := (settled_free (s := applyFreezes s) hidle hstop hrew).trans (if_pos rfl)
  obtain ⟨h, _⟩ | ⟨_, h, _⟩ := schSettle_cases (applyFreezes s)
  · rw [h, hst]
  · exact absurd (hst.symm.trans h) (by decide)

/-- The end of a frozen apply. -/
def frozenDone (s : State) : State :=
  match s.sch.applyT with
  | some _ => if s.sch.applyFrozen then applyNow (nextNum s) s else s
  | none => s

theorem exec_frozenApplyDone {s : State} (hup : s.up = true) : exec .frozenApplyDone s = .next (frozenDone s) :=
  run_up frozenDone hup

theorem frozenDone_frozen {T : Word64} {s : State} (hT : s.sch.applyT = some T) (h : s.sch.applyFrozen = true) :
    frozenDone s = applyNow (nextNum s) s := by
  rw [frozenDone, hT]
  exact if_pos h

theorem frozenDone_unfrozen {s : State} (h : s.sch.applyFrozen = false) : frozenDone s = s := by
  rw [frozenDone]
  split
  · exact if_neg (by simp [h])
  · rfl

theorem frozenDone_none {s : State} (h : s.sch.applyT = none) : frozenDone s = s := by
  rw [frozenDone, h]

/-- An apply that takes effect ends with OK. -/
theorem applyNow_ends (t : Word64) (s : State) : (applyNow t s).fld Reg.SCH_APPLY 8 8 = 0 ∧
    (applyNow t s).bit Reg.SCH_APPLY 16 = true ∧ (applyNow t s).pendBit 0x085 = true ∧ (applyNow t s).sch.applyT = none ∧
    (applyNow t s).sch.applyFrozen = false := by
  rw [applyNow_eq]
  obtain ⟨hstatus, hdone, hpend⟩ := applyEnd_reports (st := 0)
    (probesTaken s.staged.probe.isSome (astApply t (applyImage (applyNamed t (astSettled s))))) (by decide)
  exact ⟨hstatus, hdone, hpend, applyEnd_sch _⟩

/-- Settles O31: a request by the first check that ends it, an execution by what is staged. -/
theorem applies : Obligations.Applies := by
  unfold Obligations.Applies
  refine ⟨fun path owns s hup hacc => ⟨fun hbusy howns hmode hT => ?waits, fun st hbusy hst => ?refused, fun hbusy => ?dropped⟩,
    fun T s hup hT hunfrozen hexec hphase hU hcom hcopy hrew => ?executes, fun T s hup hT hfrozen => ?frozenEnds,
    fun intact s hup => ⟨fun hT => ⟨?noneExecute, ?noneDone⟩, fun hshut => ?shut, fun hunfrozen => ?unfrozen⟩⟩
  case waits =>
    have hsch := markDirty_same Reg.SCH_APPLY s .sch
    refine ⟨applyWaiting (markDirty Reg.SCH_APPLY s), ?_, ?_, bit_setBit_same _ false (by decide), ?_,
      (Chg.after (m := 1154) (applyWaiting_chg _) (.after (markDirty_chg ..) (.refl _ _))).changes⟩
    · rw [exec_applyGo hup hacc, applyGo_eq, installBusy_markDirty, if_neg (by simp [hbusy]), if_neg (by simp [howns]),
        markDirty_same _ s .pwr, hsch, if_neg (by simp [hmode, hT])]
    · rw [applyWaiting, applyTarget_markDirty, setBit_sch, hsch, applyTarget]
    · exact regsBut_trans (regsBut_markDirty _ _ s) (regsBut_setBit { markDirty Reg.SCH_APPLY s with sch := _ } _ _ _)
  case refused =>
    have hresult : applyGo owns 1 (markDirty Reg.SCH_APPLY s) = applyRefused st (markDirty Reg.SCH_APPLY s) ∧ st < 256 := by
      rw [applyGo_eq, installBusy_markDirty, if_neg (by simp [hbusy]), markDirty_same _ s .pwr, markDirty_same _ s .sch]
      obtain ⟨rfl, rfl⟩ | ⟨rfl, hwhy, rfl⟩ := hst
      · exact ⟨if_pos rfl, by decide⟩
      · exact ⟨(if_neg (by simp)).trans (if_pos hwhy), by decide⟩
    obtain ⟨hresult, hlt⟩ := hresult
    exact ⟨_, by rw [exec_applyGo hup hacc, hresult, applyRefused_eq], opEnded_status _ (by decide) hlt, opEnded_done _ (by decide),
      opEnded_pendBit _ (by decide), regsBut_trans (regsBut_markDirty _ _ s) (opEnded_regsBut _),
      (Chg.after (m := 146) (opEnded_chg _) (.after (markDirty_chg ..) (.refl _ _))).changes⟩
  case dropped =>
    exact ⟨_, by rw [exec_applyGo hup hacc, applyGo_eq, installBusy_markDirty, if_pos hbusy], loadDropped_bit _,
      regsBut_trans (regsBut_markDirty _ _ s) (loadDropped_regsBut _),
      (Chg.after (m := 130) (loadDropped_chg _) (.after (markDirty_chg ..) (.refl _ _))).changes⟩
  case executes =>
    have hopen : ¬ applyShut (applyDue T s) s = true := by
      rw [applyDue, hcom]
      simp [applyShut, hunfrozen, hexec, hphase, hU, hcopy, hrew]
    refine ⟨?bad, fun hfrozen hidle hstop => ?freezes, fun hfrozen hst => ?still, fun hnow => ?now⟩
    case bad =>
      obtain ⟨hstatus, hdone, hpend⟩ := applyEnd_reports (st := 7) s (by decide)
      exact ⟨_, by rw [exec_applyExecute hup, applyExecute_some hT, if_neg hopen, if_pos rfl], hstatus, hdone, hpend,
        (applyEnd_sch s).1, applyEnd_regsBut s, (applyEnd_chg 7 s).changes⟩
    case freezes =>
      refine ⟨withState .frozen (applyFreezes s), ?_, rfl,
        (Chg.after (m := 1024) (withState_chg _ (applyFreezes s)) (.upd (.refl _ _))).changes⟩
      rw [exec_applyExecute hup, applyExecute_some hT, if_neg hopen, if_neg (by simp), if_pos hfrozen,
        schSettle_freezes hidle hstop hrew]
    case still =>
      rw [exec_applyExecute hup, applyExecute_some hT, if_neg hopen, if_neg (by simp), if_pos hfrozen,
        schSettle_fixed (s := applyFreezes s) (hst.imp_right .inl)]
      rfl
    case now =>
      obtain ⟨hstatus, hdone, hpend, hgone, hfree⟩ := applyNow_ends (nextNum s) s
      refine ⟨_, by rw [exec_applyExecute hup, applyExecute_some hT, if_neg hopen, if_neg (by simp), if_neg (by simp [hnow])],
        hstatus, hdone, hpend, hgone, hfree, fun hany => ?_, (applyNow_chg ..).changes⟩
      obtain ⟨hstaged, himg⟩ := applyNow_installs (t := nextNum s) hany
      rw [himg]
      exact ⟨hstaged, rfl, rfl, rfl, rfl⟩
  case frozenEnds =>
    obtain ⟨hstatus, hdone, hpend, hgone, hfree⟩ := applyNow_ends (nextNum s) s
    refine ⟨_, by rw [exec_frozenApplyDone hup, frozenDone_frozen hT hfrozen], hstatus, hdone, hpend, hgone, hfree,
      fun hany => ?_, (applyNow_chg ..).changes⟩
    obtain ⟨hstaged, himg⟩ := applyNow_installs (t := nextNum s) hany
    rw [himg]
    exact ⟨hstaged, rfl, rfl, rfl, rfl, rfl, rfl⟩
  case noneExecute => rw [exec_applyExecute hup, applyExecute_none hT]
  case noneDone => rw [exec_frozenApplyDone hup, frozenDone_none hT]
  case shut =>
    rw [exec_applyExecute hup]
    cases hT : s.sch.applyT with
    | none => rw [applyExecute_none hT]
    | some T =>
      have hclosed : applyShut (applyDue T s) s = true := by
        rcases hshut with h | h | h | h | h | h | h
        case inr.inr.inr.inr.inr.inr =>
          rw [applyDue, h T hT]
          simp [applyShut]
        all_goals simp [applyShut, h]
      rw [applyExecute_some hT, if_pos hclosed]
  case unfrozen => rw [exec_frozenApplyDone hup, frozenDone_unfrozen hunfrozen]

end Sys2Proof.Proofs
end

section
/-!
Proofs of the family 03_design_cycle: checkpoints and rewinds (O32).
-/
namespace Sys2Proof.Proofs
open Sys2Proof.Machine Sys2Proof.Laws

/-! ### Bits that the errors of the memories set stay set -/

/-- From `s` to `t` no bit of MEM_CAUSE clears, and no event that is pending. -/
structure MemKept (s t : State) : Prop where
  kept : ∀ o, o = Reg.MEM_CAUSE ∨ o < 0x10C0 → ∀ i, i < 32 → (s.reg o).getLsbD i = true → (t.reg o).getLsbD i = true

namespace MemKept

theorem refl (s : State) : MemKept s s := ⟨fun _ _ _ _ h => h⟩

theorem trans {s r t : State} (h : MemKept s r) (k : MemKept r t) : MemKept s t :=
  ⟨fun o ho i hi hs => k.kept o ho i hi (h.kept o ho i hi hs)⟩

theorem of_regsBut {l : List Nat} {s t : State} (h : RegsBut l s t) (hl : ∀ o ∈ l, o ≠ Reg.MEM_CAUSE ∧ 0x10C0 ≤ o) :
    MemKept s t := by
  refine ⟨fun o ho i _ hs => ?_⟩
  have hne : o ∉ l := fun hm => by
    obtain ⟨hcause, hlow⟩ := hl o hm
    rcases ho with ho | ho
    · exact hcause ho
    · omega
  rwa [h o hne]

theorem of_regs {s t : State} (h : t.regs = s.regs) : MemKept s t := .of_regsBut (l := []) (regsBut_of_regs _ h) (by simp)

theorem bit {s t : State} (h : MemKept s t) {i : Nat} (hi : i < 32) (hs : s.bit Reg.MEM_CAUSE i = true) :
    t.bit Reg.MEM_CAUSE i = true := by
  rw [bit_eq] at hs ⊢
  exact h.kept _ (.inl rfl) i hi hs

theorem pendBit {s t : State} (h : MemKept s t) {e : Nat} (he : e < 1536) (hs : s.pendBit e = true) : t.pendBit e = true := by
  rw [State.pendBit, bit_eq] at hs ⊢
  exact h.kept _ (.inr (by rw [pendReg_eq]; omega)) _ (Nat.mod_lt _ (by decide)) hs

end MemKept

theorem raise_memKept (e : Nat) (s : State) : MemKept s (raise e s) := ⟨fun _ _ _ hi hs => raise_keeps hi hs⟩

theorem memCause_memKept (b kind : Nat) (addr : Word64) (c k : Nat) (hbm host : Bool) (s : State) :
    MemKept s (memCause b kind addr c k hbm host s) := by
  refine ⟨?_⟩
  rintro o (rfl | ho) i hi hs
  · exact causeSet_keeps hi (by simp only [List.map_cons, List.map_nil]; decide) hs
  · have hne : o ∉ [Reg.MEM_CAUSE, Reg.MEM_ERR_ADDR, Reg.MEM_ERR_ADDR + 4, Reg.MEM_ERR_INFO] := by
      simp only [List.mem_cons, List.not_mem_nil, or_false, Reg.MEM_CAUSE, Reg.MEM_ERR_ADDR, Reg.MEM_ERR_INFO]
      omega
    rwa [memCause_regsBut _ _ _ _ _ _ _ _ _ hne]

theorem ledAdd_memKept (i n : Nat) (s : State) : MemKept s (ledAdd i n s) := by
  obtain ⟨l, h | h⟩ := ledAdd_cases i n s <;> rw [h]
  · exact .of_regs rfl
  · rw [causeSet_pwr]
    have hset : RegsBut [Reg.PWR_CAUSE] s ({ s with ldg := l }.setBit Reg.PWR_CAUSE 4 true) :=
      regsBut_setBit { s with ldg := l } _ _ _
    exact (MemKept.of_regsBut hset (by decide)).trans (raise_memKept _ _)

theorem countUp_regsBut (o : Nat) (s : State) : RegsBut [o] s (countUp o s) := by
  unfold countUp
  split
  · exact regsBut_refl _ _
  · exact regsBut_setReg s _ _

theorem hbmCorrected_memKept (key : Nat) (s : State) : MemKept s (hbmCorrected key s) := by
  have hcount : MemKept s (countUp (Reg.MEM_HBM_CE + 4 * pcOf key) s) := by
    refine .of_regsBut (countUp_regsBut _ s) fun o ho => ?_
    simp only [List.mem_singleton] at ho
    simp only [ho, Reg.MEM_HBM_CE, Reg.MEM_CAUSE]
    omega
  exact (hcount.trans (ledAdd_memKept _ _ _)).trans (raise_memKept _ _)

theorem hbmUncorrected_memKept (addr : Word64) (c k : Nat) (host : Bool) (s : State) :
    MemKept s (hbmUncorrected addr c k host s) := (memCause_memKept ..).trans (raise_memKept _ _)

/-! ### The reads of a copy (R186, R209) -/

/-- The read of one burst reports the error that it finds. -/
def burstRead (e : Nat × BitVec 2) (s : State) : State :=
  if e.2 = 2 then hbmUncorrected (hbmAddrForm s (4 * e.1)) 0 0 false s
  else if e.2 = 1 then hbmCorrected (4 * e.1) s else s

theorem copyEcc_eq (p : Nat → Bool) (s : State) :
    copyEcc p s = (s.mem.hbmErr.filter (fun e => p (4 * e.1))).foldl (fun s e => burstRead e s) s := rfl

theorem burstRead_memKept (e : Nat × BitVec 2) (s : State) : MemKept s (burstRead e s) := by
  unfold burstRead
  split
  · exact hbmUncorrected_memKept ..
  · split
    · exact hbmCorrected_memKept ..
    · exact .refl s

theorem burstReads_memKept (l : List (Nat × BitVec 2)) (s : State) : MemKept s (l.foldl (fun s e => burstRead e s) s) := by
  induction l generalizing s with
  | nil => exact .refl s
  | cons e l ih => exact (burstRead_memKept e s).trans (ih _)

theorem copyEcc_memKept (p : Nat → Bool) (s : State) : MemKept s (copyEcc p s) := burstReads_memKept _ _

theorem copyEcc_none {p : Nat → Bool} {s : State} (h : s.mem.hbmErr = []) : copyEcc p s = s := by
  rw [copyEcc_eq, h]
  rfl

/-- Between the pending bits and the registers of the memories a read of a burst changes no register. -/
theorem burstRead_reg {o : Nat} (hlo : 0x10C0 ≤ o) (hhi : o < Reg.MEM_CAUSE) (e : Nat × BitVec 2) (s : State) :
    (burstRead e s).reg o = s.reg o := by
  have hmem : o ∉ [Reg.MEM_CAUSE, Reg.MEM_ERR_ADDR, Reg.MEM_ERR_ADDR + 4, Reg.MEM_ERR_INFO] := by
    simp only [List.mem_cons, List.not_mem_nil, or_false, Reg.MEM_CAUSE, Reg.MEM_ERR_ADDR, Reg.MEM_ERR_INFO] at hhi ⊢
    omega
  have hcount : o ∉ [Reg.MEM_HBM_CE + 4 * pcOf (4 * e.1)] := by
    simp only [List.mem_singleton, Reg.MEM_HBM_CE, Reg.MEM_CAUSE] at hhi ⊢
    omega
  have hpwr : o ≠ Reg.PWR_CAUSE := by
    simp only [Reg.PWR_CAUSE, Reg.MEM_CAUSE] at hhi ⊢
    omega
  have hpend (d : Nat) (hd : d < 1536) : o ≠ pendReg d := by
    rw [pendReg_eq]
    omega
  unfold burstRead
  split
  · rw [hbmUncorrected, raise_reg _ (hpend _ (by decide)), memCause_regsBut _ _ _ _ _ _ _ _ _ hmem]
  · split
    · rw [hbmCorrected, raise_reg _ (hpend _ (by decide)), ledAdd_reg _ hpwr (hpend _ (by decide)), countUp_regsBut _ _ _ hcount]
    · rfl

theorem copyEcc_reg {o : Nat} (hlo : 0x10C0 ≤ o) (hhi : o < Reg.MEM_CAUSE) (p : Nat → Bool) (s : State) :
    (copyEcc p s).reg o = s.reg o := by
  rw [copyEcc_eq]
  generalize s.mem.hbmErr.filter (fun e => p (4 * e.1)) = l
  induction l generalizing s with
  | nil => rfl
  | cons e l ih => rw [List.foldl_cons, ih, burstRead_reg hlo hhi]

/-- An uncorrected error among the bursts that are read is reported. -/
theorem burstReads_uncorrected {l : List (Nat × BitVec 2)} {e : Nat × BitVec 2} (s : State) (he : e ∈ l) (h2 : e.2 = 2) :
    (l.foldl (fun s e => burstRead e s) s).bit Reg.MEM_CAUSE 5 = true ∧
      (l.foldl (fun s e => burstRead e s) s).pendBit 0x2E5 = true := by
  induction l generalizing s with
  | nil => exact absurd he (List.not_mem_nil)
  | cons f l ih =>
    rw [List.foldl_cons]
    rcases List.mem_cons.mp he with rfl | hl
    · have hkept := burstReads_memKept l (burstRead e s)
      have hread : burstRead e s = hbmUncorrected (hbmAddrForm s (4 * e.1)) 0 0 false s := if_pos h2
      rw [hread] at hkept ⊢
      exact ⟨hkept.bit (by decide) (hbmUncorrected_bit ..), hkept.pendBit (by decide) (hbmUncorrected_pendBit ..)⟩
    · exact ih _ hl

theorem copyEcc_uncorrected {p : Nat → Bool} {s : State} (h : eccFatal p s = true) :
    (copyEcc p s).bit Reg.MEM_CAUSE 5 = true ∧ (copyEcc p s).pendBit 0x2E5 = true := by
  obtain ⟨e, he, hfatal⟩ := List.any_eq_true.mp h
  simp only [Bool.and_eq_true, beq_iff_eq] at hfatal
  exact burstReads_uncorrected s (List.mem_filter.mpr ⟨he, hfatal.2⟩) hfatal.1

theorem copyParity_none {s : State} (h : s.mem.bankBad = []) : copyParity s = s := by
  rw [copyParity, h]

theorem copyParity_reports {s : State} (h : s.mem.bankBad ≠ []) :
    (copyParity s).bit Reg.MEM_CAUSE 4 = true ∧ (copyParity s).pendBit 0x2E4 = true := by
  obtain ⟨p, l, hl⟩ := List.exists_cons_of_ne_nil h
  rw [copyParity, hl]
  refine ⟨?_, raise_pendBit (by simp [eventAbsent])⟩
  rw [bit_of_reg (raise_reg _ (by decide))]
  exact causeSet_bit _ _ (by decide)

theorem ckptFail_memKept (s : State) : MemKept s (ckptFail s) :=
  (MemKept.of_regsBut (regsBut_setBit s Reg.SCH_CKPT_STATUS 13 true) (by decide)).trans (raise_memKept _ _)

theorem schSettle_memKept (s : State) : MemKept s (schSettle s) := by
  obtain ⟨h, _⟩ | ⟨h, _⟩ := schSettle_cases s
  · rw [h]
    exact .of_regs rfl
  · rw [h]
    have hst : MemKept s { withState .paused s with pwr := { s.pwr with longHold := true } } := .of_regs rfl
    exact hst.trans (raise_memKept _ _)

/-! ### A request for a checkpoint (R109, R442) -/

theorem exec_checkpointNow {path : Path} {s : State} (hup : s.up = true)
    (h : accepts path Reg.SCH_CKPT_CTRL (s.reg Reg.SCH_CKPT_CTRL ||| 0x10000) s) : exec (.checkpointNow path) s =
      .next (ckptCtrlWrite (s.reg Reg.SCH_CKPT_CTRL ||| 0x10000) (markDirty Reg.SCH_CKPT_CTRL s)) :=
  (run_up _ hup).trans (congrArg _ (regAccess_accepted _ h))

theorem nowBit (x : Word32) : (x ||| 0x10000).getLsbD 16 = true := by simp

/-- In HOLD and RUN the request stands. -/
def nowTaken (s : State) : State :=
  { s with sch := { s.sch with ckptNow := s.sch.ckptNow || s.pwr.mode == .on } }

theorem ckptCtrlWrite_now {val : Word32} (hval : val.getLsbD 16 = true) (s : State) : ckptCtrlWrite val s =
    if installBusy s then loadDropped s else nowTaken (storeReg Reg.SCH_CKPT_CTRL val s) := by
  unfold ckptCtrlWrite
  rw [hval]
  simp only [Bool.true_and, Bool.not_true, Bool.false_eq_true, false_or]
  split
  · rfl
  · split
    · next hmode => rw [nowTaken, beq_eq_false_iff_ne.mpr hmode, Bool.or_false]
    · next hmode => rw [nowTaken, not_not.mp hmode, beq_self_eq_true, Bool.or_true]

theorem nowTaken_chg (s : State) : Chg 1024 s (nowTaken s) := .upd (.refl _ _)

/-! ### The end of a copy (R111, R112, R186, R209) -/

theorem exec_checkpointDone {readError : Bool} {s : State} (hup : s.up = true) :
    exec (.checkpointDone readError) s = .next (ckptDone readError s) := run_up _ hup

/-- The copy has ended. -/
def copyEnded (s : State) : State := { s with sch := { s.sch with ckptCopy := none } }

theorem copyEnded_chg (s : State) : Chg 1024 s (copyEnded s) := .upd (.refl _ _)

/-- The errors that the reads of copy `c` have met are reported. -/
def copyReads (c : CkptCopy) (marked : Nat → Bool) (s : State) : State := copyEcc marked (if c.banks then copyParity s else s)

theorem copyReads_chg (c : CkptCopy) (marked : Nat → Bool) (s : State) : Chg 67109010 s (copyReads c marked s) :=
  .after (copyEcc_chg ..) (.ite (.after (copyParity_chg s) (.refl _ _)) (.refl _ _))

/-- A copy that ends well stores its slot, which SCH_CKPT_STATUS names. -/
def copyStored (c : CkptCopy) (s : State) : State := raise 0x086 ((ckptStore c s).setFld Reg.SCH_CKPT_STATUS 7 6 c.slot)

theorem ckptDone_none {readError : Bool} {s : State} (h : s.sch.ckptCopy = none) : ckptDone readError s = s := by
  rw [ckptDone, h]

theorem ckptDone_some {c : CkptCopy} {readError : Bool} {s : State} (h : s.sch.ckptCopy = some c) : ckptDone readError s =
    schSettle (if readError || (c.banks && !s.mem.bankBad.isEmpty) || eccFatal (fun k => c.hbm && ckptMarked s k) s then
        ckptFail (copyReads c (fun k => c.hbm && ckptMarked s k) (copyEnded s))
      else copyStored c (copyReads c (fun k => c.hbm && ckptMarked s k) (copyEnded s))) := by
  rw [ckptDone, h]
  rfl

section
variable (c : CkptCopy) (s : State)

theorem copyStored_chg : Chg 33938 s (copyStored c s) :=
  .after (raise_chg ..) (.after (State_setFld_chg ..) (.after (ckptStore_chg ..) (.refl _ _)))

theorem copyStored_sch : (copyStored c s).sch = (ckptStore c s).sch :=
  (raise_chg ..).same .sch (by decide)

theorem copyStored_hbmErr :
    (copyStored c s).mem.hbmErr = s.mem.hbmErr.filter (fun p => !inSlot s c.base c.size (4 * p.1)) :=
  congrArg MemSt.hbmErr ((raise_chg 0x086 ((ckptStore c s).setFld Reg.SCH_CKPT_STATUS 7 6 c.slot)).same .mem (by decide))

theorem copyStored_pendBit : (copyStored c s).pendBit 0x086 = true := raise_pendBit (eventAbsent_low (by decide) _)

theorem copyStored_slot : (copyStored c s).fld Reg.SCH_CKPT_STATUS 7 6 = c.slot % 64 := by
  rw [copyStored, fld_of_reg (raise_reg _ (by decide))]
  exact fld_setFld_same _ _ (by decide)

theorem copyStored_regsBut : RegsBut [Reg.SCH_CKPT_STATUS, pendReg 0x086] s (copyStored c s) :=
  regsBut_trans (regsBut_of_regs _ rfl) (regsBut_trans (regsBut_mono (regsBut_setFld (ckptStore c s) _ 7 6 c.slot) (by decide))
    (regsBut_mono (regsBut_raise 0x086 _) (by decide)))

theorem ckptStore_slots : mget (ckptStore c s).sch.slots {} c.slot = ckptCapture c s ∧
    ∀ k, k ≠ c.slot → mget (ckptStore c s).sch.slots {} k = mget s.sch.slots {} k := by
  have hslots : (ckptStore c s).sch.slots = mset s.sch.slots {} c.slot (ckptCapture c s) := rfl
  rw [hslots]
  exact ⟨mget_mset_same .., fun _ hk => mget_mset_other _ _ _ _ hk⟩

end

/-- Without a parity failure in what it reads, a copy meets the errors of HBM alone. -/
theorem copyReads_sound {c : CkptCopy} {marked : Nat → Bool} {s : State} (h : c.banks = true → s.mem.bankBad = []) :
    copyReads c marked s = copyEcc marked s := by
  unfold copyReads
  split
  · next hb => rw [copyParity_none (h hb)]
  · rfl

/-- What a failed copy leaves. -/
def copyFailed (c : CkptCopy) (marked : Nat → Bool) (s : State) : State := schSettle (ckptFail (copyReads c marked (copyEnded s)))

section
variable {c : CkptCopy} {marked : Nat → Bool} (s : State)

theorem copyFailed_memKept : MemKept (copyReads c marked (copyEnded s)) (copyFailed c marked s) :=
  (ckptFail_memKept _).trans (schSettle_memKept _)

theorem copyFailed_chg : Chg 100664466 s (copyFailed c marked s) :=
  .after (schSettle_chg _) (.after (ckptFail_chg _) (.after (copyReads_chg ..) (.after (copyEnded_chg s) (.refl _ _))))

theorem copyFailed_sch : (copyFailed c marked s).sch.ckptCopy = none ∧ (copyFailed c marked s).sch.slots = s.sch.slots := by
  have hsch : (ckptFail (copyReads c marked (copyEnded s))).sch = (copyEnded s).sch :=
    (Chg.after (m := 67109010) (ckptFail_chg _) (copyReads_chg c marked (copyEnded s))).same .sch (by decide)
  rw [copyFailed, schSettle_sch, hsch]
  exact ⟨rfl, rfl⟩

theorem copyFailed_reports : (copyFailed c marked s).bit Reg.SCH_CKPT_STATUS 13 = true ∧
    (copyFailed c marked s).pendBit 0x087 = true := by
  refine ⟨?_, schSettle_keepsPending (raise_pendBit (eventAbsent_low (by decide) _))⟩
  rw [copyFailed, bit_of_reg (schSettle_regsBut _ _ (by decide)), ckptFail, bit_of_reg (raise_reg _ (by decide))]
  exact bit_setBit_same _ true (by decide)

theorem copyFailed_parity (hbanks : c.banks = true) (hbad : s.mem.bankBad ≠ []) :
    (copyFailed c marked s).bit Reg.MEM_CAUSE 4 = true ∧ (copyFailed c marked s).pendBit 0x2E4 = true := by
  have hkept := (copyEcc_memKept marked (copyParity (copyEnded s))).trans
    (by simpa [copyReads, hbanks] using copyFailed_memKept (c := c) (marked := marked) s)
  obtain ⟨hbit, hpend⟩ := copyParity_reports (s := copyEnded s) hbad
  exact ⟨hkept.bit (by decide) hbit, hkept.pendBit (by decide) hpend⟩

theorem copyFailed_ecc (h : eccFatal marked s = true) :
    (copyFailed c marked s).bit Reg.MEM_CAUSE 5 = true ∧ (copyFailed c marked s).pendBit 0x2E5 = true := by
  have hread : Chg 1170 s (if c.banks then copyParity (copyEnded s) else copyEnded s) :=
    .ite (.after (copyParity_chg _) (.after (copyEnded_chg s) (.refl _ _))) (.after (copyEnded_chg s) (.refl _ _))
  have hfatal : eccFatal marked (if c.banks then copyParity (copyEnded s) else copyEnded s) = true := by
    rw [eccFatal, hread.same .mem (by decide)]
    exact h
  obtain ⟨hbit, hpend⟩ := copyEcc_uncorrected hfatal
  exact ⟨(copyFailed_memKept s).bit (by decide) hbit, (copyFailed_memKept s).pendBit (by decide) hpend⟩

end

/-! ### Requests for a rewind (R114, R165, R442) -/

theorem exec_rewindGo {path : Path} {owns : Bool} {slot : BitVec 6} {s : State} (hup : s.up = true)
    (h : accepts path Reg.SCH_REWIND (BitVec.ofNat 32 (128 + slot.toNat)) s) : exec (.rewindGo ⟨path, owns⟩ slot) s =
      .next (rewindWrite owns (BitVec.ofNat 32 (128 + slot.toNat)) (markDirty Reg.SCH_REWIND s)) :=
  (run_up _ hup).trans (congrArg _ (regAccess_accepted _ h))

theorem rewindVal_go (slot : BitVec 6) : (BitVec.ofNat 32 (128 + slot.toNat)).getLsbD 7 = true := by
  have h : ∀ k : BitVec 6, (BitVec.ofNat 32 (128 + k.toNat)).getLsbD 7 = true := by decide
  exact h slot

theorem rewindVal_slot (slot : BitVec 6) : bitsOf (BitVec.ofNat 32 (128 + slot.toNat)) 0 6 = slot.toNat := by
  have h : ∀ k : BitVec 6, bitsOf (BitVec.ofNat 32 (128 + k.toNat)) 0 6 = k.toNat := by decide
  exact h slot

/-- A request has been stored, and its DONE cleared. -/
def rewindStored (val : Word32) (s : State) : State := (storeReg Reg.SCH_REWIND val s).setBit Reg.SCH_REWIND 16 false

/-- The rewind to slot `k` checks its slot. -/
def rewindBegun (k : Nat) (s : State) : State :=
  { s with sch := { s.sch with rewindSlot := some k, rewindFrom := s.sch.st, st := .rewind } }

/-- The module may not begin a rewind. -/
def rewindBusy (s : State) : Bool :=
  s.pwr.mode ≠ .on || !(s.sch.st == .paused || s.sch.st == .faultStop) || s.sch.ckptCopy.isSome || s.sch.rewindSlot.isSome

theorem rewindBusy_iff (s : State) : rewindBusy s = true ↔ s.pwr.mode ≠ .on ∨ (s.sch.st ≠ .paused ∧ s.sch.st ≠ .faultStop) ∨
    s.sch.ckptCopy.isSome = true ∨ s.sch.rewindSlot.isSome = true := by
  simp [rewindBusy, or_assoc]

theorem rewindBusy_free {s : State} (hmode : s.pwr.mode = .on) (hst : s.sch.st = .paused ∨ s.sch.st = .faultStop)
    (hcopy : s.sch.ckptCopy = none) (hnone : s.sch.rewindSlot = none) : rewindBusy s = false := by
  rcases hst with hst | hst <;> simp [rewindBusy, hmode, hst, hcopy, hnone]

/-- A request for a rewind to slot `k`, by the first check that ends it. -/
def rewindChecked (owns : Bool) (k : Nat) (s : State) : State :=
  if owns = false then rewindRefused 3 s
  else if rewindBusy s then rewindRefused 9 s
  else if (mget s.sch.slots {} k).valid = false then rewindRefused 12 s
  else rewindBegun k s

theorem rewindWrite_go {owns : Bool} {val : Word32} (hval : val.getLsbD 7 = true) (s : State) : rewindWrite owns val s =
    if installBusy s then loadDropped s else rewindChecked owns (bitsOf val 0 6) (rewindStored val s) := by
  have hbusy (u : State) : (u.pwr.mode ≠ .on ∨ (!(u.sch.st == .paused || u.sch.st == .faultStop)) = true ∨
      u.sch.ckptCopy.isSome = true ∨ u.sch.rewindSlot.isSome = true) ↔ rewindBusy u = true := by simp [rewindBusy, or_assoc]
  rw [rewindWrite, hval, Bool.true_and]
  refine if_congr Iff.rfl rfl ((if_neg (by decide)).trans ?_)
  exact if_congr (by simp) rfl (if_congr (hbusy _) rfl (if_congr (iff_of_eq (Bool.not_eq_true' _)) rfl rfl))

theorem rewindRefused_eq (st : Nat) (s : State) : rewindRefused st s = opEnded Reg.SCH_REWIND 0x088 st s := rfl

theorem rewindEnd_eq (st : Nat) (s : State) :
    rewindEnd st s = opEnded Reg.SCH_REWIND 0x088 st { s with sch := { s.sch with rewindSlot := none } } := rfl

theorem rewindStored_chg (val : Word32) (s : State) : Chg 2 s (rewindStored val s) :=
  .after (State_setBit_chg ..) (storeReg_chg ..)

theorem rewindStored_regsBut (val : Word32) (s : State) : RegsBut [Reg.SCH_REWIND] s (rewindStored val s) :=
  regsBut_trans (fun o ho => storeReg_other (by simpa using ho)) (regsBut_setBit (storeReg Reg.SCH_REWIND val s) _ _ _)

/-- An accepted request has been stored. -/
def rewindTaken (slot : BitVec 6) (s : State) : State :=
  rewindStored (BitVec.ofNat 32 (128 + slot.toNat)) (markDirty Reg.SCH_REWIND s)

theorem rewindTaken_chg (slot : BitVec 6) (s : State) : Chg 130 s (rewindTaken slot s) :=
  .after (rewindStored_chg ..) (.after (markDirty_chg ..) (.refl _ _))

theorem rewindTaken_regsBut (slot : BitVec 6) (s : State) : RegsBut [Reg.SCH_REWIND] s (rewindTaken slot s) :=
  regsBut_trans (regsBut_markDirty _ _ s) (rewindStored_regsBut _ (markDirty Reg.SCH_REWIND s))

theorem rewindTaken_done (slot : BitVec 6) (s : State) : (rewindTaken slot s).bit Reg.SCH_REWIND 16 = false :=
  bit_setBit_same (storeReg Reg.SCH_REWIND _ _) false (by decide)

theorem rewindTaken_busy (slot : BitVec 6) (s : State) : rewindBusy (rewindTaken slot s) = rewindBusy s := by
  have h := rewindTaken_chg slot s
  rw [rewindBusy, h.same .sch (by decide), h.same .pwr (by decide), rewindBusy]

/-- Outside an install the request is checked. -/
theorem exec_rewindGo_checked {path : Path} {owns : Bool} {slot : BitVec 6} {s : State} (hup : s.up = true)
    (hacc : accepts path Reg.SCH_REWIND (BitVec.ofNat 32 (128 + slot.toNat)) s) (hbusy : installBusy s = false) :
    exec (.rewindGo ⟨path, owns⟩ slot) s = .next (rewindChecked owns slot.toNat (rewindTaken slot s)) := by
  rw [exec_rewindGo hup hacc, rewindWrite_go (rewindVal_go slot), installBusy_markDirty, if_neg (by simp [hbusy]), rewindVal_slot]
  rfl

theorem rewindBegun_chg (k : Nat) (s : State) : Chg 1024 s (rewindBegun k s) := .upd (.refl _ _)

/-! ### The end of a rewind (R113, R114, R209) -/

theorem exec_rewindDone {crcOk : Bool} {s : State} (hup : s.up = true) :
    exec (.rewindDone crcOk) s = .next (rewindDone crcOk s) := run_up _ hup

theorem rewindDone_none {crcOk : Bool} {s : State} (h : s.sch.rewindSlot = none) : rewindDone crcOk s = s := by
  rw [rewindDone, h]

theorem rewindDone_some {k : Nat} {c : CkptSlot} {crcOk : Bool} {s : State} (h : s.sch.rewindSlot = some k)
    (hc : c = mget s.sch.slots {} k) : rewindDone crcOk s =
    if !crcOk || slotDamaged c s then
      schSettle (rewindEnd 7 (withState (copyEcc (inSlot s c.base c.size) s).sch.rewindFrom (copyEcc (inSlot s c.base c.size) s)))
    else rewindEnd 0 (throttlePoint (reopen (rewound k c (copyEcc (inSlot s c.base c.size) s)))) := by
  rw [rewindDone, h, hc]
  rfl

/-- The slot's content has been restored, and the wave begins afresh. -/
def slotRestored (c : CkptSlot) (s : State) : State :=
  let old := s.sch.committed
  let s := lksDrain (astDrain 200 s)
  waveFresh c.num (restoreSlot c (dspRewind (fun n => cycLe n old) (discardCycles (fun n => cycLe n old) s)))

/-- The blocks that follow the cycle numbers follow the rewind, and the module is paused. -/
def blocksRewound (k : Nat) (c : CkptSlot) (s : State) : State :=
  let s := bumpEpoch (timeMasterFix (astRewind (diRelease (fun _ => false) s)))
  let s := lksRewind k c.num (trigProbes s 0) s
  setPause { s with pwr := { s.pwr with longHold := true } }

theorem rewound_eq (k : Nat) (c : CkptSlot) (s : State) :
    rewound k c s = wrapCheck (clearWork (blocksRewound k c (slotRestored c s))) := rfl

theorem blocksRewound_chg (k : Nat) (c : CkptSlot) (s : State) : Chg 49807506 s (blocksRewound k c s) :=
  .after (setPause_chg ..) (.upd (.after (lksRewind_chg ..) (.after (bumpEpoch_chg ..) (.after (timeMasterFix_chg ..)
    (.after (astRewind_chg ..) (.after (diRelease_chg ..) (.refl _ _)))))))

section
variable (k : Nat) (c : CkptSlot) (s : State)

/-- The run stands paused at the slot's cycle. -/
theorem rewound_sch : (rewound k c s).sch.committed = c.num ∧ (rewound k c s).sch.highest = c.num ∧
    (rewound k c s).sch.cycles = [] ∧ (rewound k c s).sch.st = .paused ∧ (rewound k c s).sch.opened = none := by
  have hwrap : (rewound k c s).sch = (clearWork (blocksRewound k c (slotRestored c s))).sch := (wrapCheck_chg _).same .sch (by decide)
  have hblocks : (blocksRewound k c (slotRestored c s)).sch = (slotRestored c s).sch := (blocksRewound_chg ..).same .sch (by decide)
  rw [hwrap, clearWork, hblocks]
  exact ⟨rfl, rfl, rfl, rfl, rfl⟩

theorem rewound_wave : (rewound k c s).wave.c = c.num := by
  have hwrap : (rewound k c s).wave = (clearWork (blocksRewound k c (slotRestored c s))).wave :=
    (wrapCheck_chg _).same .wave (by decide)
  have hblocks : (blocksRewound k c (slotRestored c s)).wave = (slotRestored c s).wave :=
    (blocksRewound_chg ..).same .wave (by decide)
  rw [hwrap, clearWork, hblocks]
  rfl

/-- The copies and LAST are the slot's. -/
theorem rewound_clu : (rewound k c s).clu.predLast = c.last ∧ (rewound k c s).clu.copies = c.stateBits := by
  have hwrap : (rewound k c s).clu = (clearWork (blocksRewound k c (slotRestored c s))).clu := (wrapCheck_chg _).same .clu (by decide)
  have hblocks : (blocksRewound k c (slotRestored c s)).clu = (slotRestored c s).clu := (blocksRewound_chg ..).same .clu (by decide)
  rw [hwrap, clearWork, hblocks]
  exact ⟨rfl, rfl⟩

theorem wrapCheck_regsBut (s : State) : RegsBut [Reg.SCH_STATUS, pendReg 0x089] s (wrapCheck s) := by
  unfold wrapCheck
  split
  · exact regsBut_trans (regsBut_mono (regsBut_setBit s _ _ _) (by decide)) (regsBut_mono (regsBut_raise 0x089 _) (by decide))
  · exact regsBut_refl _ _

theorem rewound_paused : (rewound k c s).paused = true := by
  rw [rewound_eq, (ctrl_of_reg (wrapCheck_regsBut _ _ (by decide))).1]
  exact setPause_paused _

end

/-- A rewind has ended, with its status. -/
theorem rewindEnd_reports {st : Nat} (hst : st < 256) (s : State) : (rewindEnd st s).sch.rewindSlot = none ∧
    (rewindEnd st s).fld Reg.SCH_REWIND 8 8 = st ∧ (rewindEnd st s).bit Reg.SCH_REWIND 16 = true ∧
    (rewindEnd st s).pendBit 0x088 = true := by
  rw [rewindEnd_eq]
  refine ⟨?_, opEnded_status _ (by decide) hst, opEnded_done _ (by decide), opEnded_pendBit _ (by decide)⟩
  rw [(opEnded_chg _).same .sch (by decide)]

/-- What a failed rewind leaves. -/
def rewindFailed (s : State) : State := schSettle (rewindEnd 7 (withState s.sch.rewindFrom s))

theorem rewindFailed_sch (s : State) : ∃ x, (rewindFailed s).sch = { s.sch with rewindSlot := none, st := x } ∧
    (s.sch.rewindFrom = .faultStop → x = .faultStop) ∧
    (s.sch.rewindFrom = .paused → s.sch.applyFrozen = false → s.sch.ckptCopy = none → s.sch.exec = none →
      x = if s.paused then .paused else .running) := by
  have hsch : (rewindEnd 7 (withState s.sch.rewindFrom s)).sch = { s.sch with rewindSlot := none, st := s.sch.rewindFrom } :=
    (opEnded_chg _).same .sch (by decide)
  have hpaused : (rewindEnd 7 (withState s.sch.rewindFrom s)).paused = s.paused :=
    (ctrl_of_reg (opEnded_regsBut { withState s.sch.rewindFrom s with sch := _ } _ (by decide))).1
  have hst : (rewindEnd 7 (withState s.sch.rewindFrom s)).sch.st = s.sch.rewindFrom := by rw [hsch]
  refine ⟨settled (rewindEnd 7 (withState s.sch.rewindFrom s)), by rw [rewindFailed, schSettle_sch, hsch], fun hstop => ?_,
    fun hpause hfrozen hcopy hexec => ?_⟩
  · rw [settled_fixed (.inr (.inl (hst.trans hstop))), hst, hstop]
  · have hst := hst.trans hpause
    rw [settled_runs (by simp [hst]) (by simp [hst]) (by simp [hst]) (by rw [hsch]; exact hfrozen) (by rw [hsch]; exact hcopy),
      hpaused, hsch]
    simp [hexec]

theorem rewindFailed_chg (s : State) : Chg 33555602 s (rewindFailed s) :=
  .after (schSettle_chg _) (.after (rewindEnd_chg ..) (.after (withState_chg ..) (.refl _ _)))

theorem rewindFailed_regsBut (s : State) : RegsBut [Reg.SCH_REWIND, pendReg 0x088] s (rewindFailed s) :=
  regsBut_trans (opEnded_regsBut { withState s.sch.rewindFrom s with sch := { s.sch with st := s.sch.rewindFrom, rewindSlot := none } })
    (regsBut_mono (schSettle_regsBut (rewindEnd 7 (withState s.sch.rewindFrom s))) (by decide))

theorem rewindFailed_reports (s : State) : (rewindFailed s).fld Reg.SCH_REWIND 8 8 = 7 ∧
    (rewindFailed s).bit Reg.SCH_REWIND 16 = true ∧ (rewindFailed s).pendBit 0x088 = true := by
  obtain ⟨_, hstatus, hdone, hpend⟩ := rewindEnd_reports (st := 7) (by decide) (withState s.sch.rewindFrom s)
  have hreg := schSettle_regsBut (rewindEnd 7 (withState s.sch.rewindFrom s)) Reg.SCH_REWIND (by decide)
  exact ⟨(fld_of_reg hreg 8 8).trans hstatus, (bit_of_reg hreg 16).trans hdone, schSettle_keepsPending hpend⟩

/-- Settles O32: a copy by whether its reads met an error, a rewind by whether its slot is intact. -/
theorem checkpointsAndRewinds : Obligations.CheckpointsAndRewinds := by
  unfold Obligations.CheckpointsAndRewinds
  refine ⟨fun path s hup hacc => ⟨fun hbusy => ?now, fun hbusy => ?nowDropped⟩,
    fun c readError bad marked s hup hcopy hmarked hbad => ⟨fun hgood => ?stored, fun hfail => ?failed⟩,
    fun readError crcOk s hup => ⟨fun hnone => ?noCopy, fun hnone => ?noRewind⟩,
    fun path slot owns s hup hacc => ⟨fun hbusy => ?goDropped, fun hbusy howns hmode hst hcopy hnone hvalid => ?begins,
      fun st hbusy hst => ?refused⟩,
    fun k c crcOk bad s u hup hslot hc hbad hu => ⟨fun hgood => ?rewound, fun hfail => ?rewindFails⟩⟩
  case now =>
    have hstored : Chg 130 s (storeReg Reg.SCH_CKPT_CTRL (s.reg Reg.SCH_CKPT_CTRL ||| 0x10000) (markDirty Reg.SCH_CKPT_CTRL s)) :=
      .after (storeReg_chg ..) (.after (markDirty_chg ..) (.refl _ _))
    refine ⟨nowTaken (storeReg Reg.SCH_CKPT_CTRL (s.reg Reg.SCH_CKPT_CTRL ||| 0x10000) (markDirty Reg.SCH_CKPT_CTRL s)), ?_, ?_,
      fun o ho => (storeReg_other (by simpa using ho)).trans (markDirty_reg ..),
      (Chg.after (m := 1154) (nowTaken_chg _) (.after hstored (.refl _ _))).changes⟩
    · rw [exec_checkpointNow hup hacc, ckptCtrlWrite_now (nowBit _), installBusy_markDirty, if_neg (by simp [hbusy])]
    · rw [nowTaken, hstored.same .sch (by decide), hstored.same .pwr (by decide)]
  case nowDropped =>
    exact ⟨_, by rw [exec_checkpointNow hup hacc, ckptCtrlWrite_now (nowBit _), installBusy_markDirty, if_pos hbusy],
      loadDropped_bit _, regsBut_trans (regsBut_markDirty _ _ s) (loadDropped_regsBut _),
      (Chg.after (m := 130) (loadDropped_chg _) (.after (markDirty_chg ..) (.refl _ _))).changes⟩
  case stored =>
    have hsound : c.banks = true → s.mem.bankBad = [] := fun hb => by
      rw [hgood] at hbad
      simpa [hb] using (Bool.or_eq_false_iff.mp (Bool.or_eq_false_iff.mp hbad.symm).1).2
    have hreads : copyReads c marked (copyEnded s) = copyEcc marked (copyEnded s) := copyReads_sound hsound
    have hv : Chg 67110034 s (copyEcc marked (copyEnded s)) := .after (copyEcc_chg ..) (.after (copyEnded_chg s) (.refl _ _))
    have hsch : (copyEcc marked (copyEnded s)).sch = (copyEnded s).sch := (copyEcc_chg ..).same .sch (by decide)
    have hslots := ckptStore_slots c (copyEcc marked (copyEnded s))
    generalize hvdef : copyEcc marked (copyEnded s) = v at *
    have ht : ckptDone readError s = schSettle (copyStored c v) := by
      rw [ckptDone_some hcopy, if_neg (by rw [← hmarked, ← hbad, hgood]; decide), ← hmarked, hreads]
    have hregs : RegsBut [Reg.SCH_CKPT_STATUS, pendReg 0x086] (copyEcc marked (copyEnded s)) (schSettle (copyStored c v)) := by
      rw [hvdef]
      exact regsBut_trans (copyStored_regsBut c v) (regsBut_mono (schSettle_regsBut (copyStored c v)) (by decide))
    refine ⟨schSettle (copyStored c v), v, hvdef.symm, by rw [exec_checkpointDone hup, ht], ?_, ?_, ?_, ?_,
      schSettle_keepsPending (copyStored_pendBit c v), ?_, fun hnone => ?_,
      (Chg.after (m := 100697234) (schSettle_chg _) (.after (copyStored_chg c v) (.after hv (.refl _ _)))).changes⟩
    · rw [schSettle_sch, copyStored_sch]
      exact congrArg SchSt.ckptCopy hsch
    · rw [schSettle_sch, copyStored_sch]
      exact hslots.1
    · rw [schSettle_sch, copyStored_sch]
      exact fun k hk => (hslots.2 k hk).trans (by rw [hsch]; rfl)
    · rw [fld_of_reg (schSettle_regsBut _ _ (by decide)), copyStored_slot]
    · rw [(schSettle_chg _).same .mem (by decide), copyStored_hbmErr, hv.same .mem (by decide)]
    · rw [copyEcc_none (s := copyEnded s) hnone] at hregs
      exact regsBut_trans (regsBut_of_regs _ rfl) hregs
  case failed =>
    have ht : ckptDone readError s = copyFailed c marked s := by
      rw [ckptDone_some hcopy, if_pos (by rw [← hmarked, ← hbad, hfail]), ← hmarked]
      rfl
    obtain ⟨hnone, hslots⟩ := copyFailed_sch (c := c) (marked := marked) s
    obtain ⟨hbit, hpend⟩ := copyFailed_reports (c := c) (marked := marked) s
    exact ⟨_, by rw [exec_checkpointDone hup, ht], hnone, hslots, hbit, hpend, copyFailed_parity s, copyFailed_ecc s,
      (copyFailed_chg s).changes⟩
  case noCopy => rw [exec_checkpointDone hup, ckptDone_none hnone]
  case noRewind => rw [exec_rewindDone hup, rewindDone_none hnone]
  case goDropped =>
    exact ⟨_, by rw [exec_rewindGo hup hacc, rewindWrite_go (rewindVal_go slot), installBusy_markDirty, if_pos hbusy],
      loadDropped_bit _, regsBut_trans (regsBut_markDirty _ _ s) (loadDropped_regsBut _),
      (Chg.after (m := 130) (loadDropped_chg _) (.after (markDirty_chg ..) (.refl _ _))).changes⟩
  case begins =>
    have hsch : (rewindTaken slot s).sch = s.sch := (rewindTaken_chg slot s).same .sch (by decide)
    have hfree : rewindBusy s = false := rewindBusy_free hmode hst hcopy hnone
    have hregs : RegsBut [Reg.SCH_REWIND] (rewindTaken slot s) (rewindBegun slot.toNat (rewindTaken slot s)) := regsBut_of_regs _ rfl
    refine ⟨rewindBegun slot.toNat (rewindTaken slot s), ?_, by rw [rewindBegun, hsch],
      (bit_of_reg (reg_of_regs rfl _) 16).trans (rewindTaken_done slot s), regsBut_trans (rewindTaken_regsBut slot s) hregs, (Chg.after (m := 1154) (rewindBegun_chg ..) (.after (rewindTaken_chg slot s) (.refl _ _))).changes⟩
    rw [exec_rewindGo_checked hup hacc hbusy, rewindChecked, if_neg (by simp [howns]), rewindTaken_busy, if_neg (by simp [hfree]),
      hsch, if_neg (by rw [hvalid]; decide)]
  case refused =>
    have hsch : (rewindTaken slot s).sch = s.sch := (rewindTaken_chg slot s).same .sch (by decide)
    have hresult : rewindChecked owns slot.toNat (rewindTaken slot s) = rewindRefused st (rewindTaken slot s) ∧ st < 256 := by
      rw [rewindChecked, rewindTaken_busy, hsch]
      obtain ⟨rfl, rfl⟩ | ⟨rfl, hwhy, rfl⟩ | ⟨rfl, hmode, hst, hcopy, hnone, hinvalid, rfl⟩ := hst
      · exact ⟨if_pos rfl, by decide⟩
      · exact ⟨(if_neg (by decide)).trans (if_pos ((rewindBusy_iff s).mpr hwhy)), by decide⟩
      · have hfree := Bool.eq_false_iff.mp (rewindBusy_free hmode hst hcopy hnone)
        exact ⟨(if_neg (by decide)).trans ((if_neg hfree).trans (if_pos hinvalid)), by decide⟩
    obtain ⟨hresult, hlt⟩ := hresult
    exact ⟨_, by rw [exec_rewindGo_checked hup hacc hbusy, hresult, rewindRefused_eq], opEnded_status _ (by decide) hlt,
      opEnded_done _ (by decide), opEnded_pendBit _ (by decide),
      regsBut_trans (regsBut_mono (rewindTaken_regsBut slot s) (by decide)) (opEnded_regsBut _),
      (Chg.after (m := 146) (opEnded_chg _) (.after (rewindTaken_chg slot s) (.refl _ _))).changes⟩
  case rewound =>
    obtain ⟨hcom, hhigh, hcycles, hst, hopened⟩ := rewound_sch k c u
    obtain ⟨hlast, hcopies⟩ := rewound_clu k c u
    obtain ⟨hnone, hstatus, hdone, hpend⟩ := rewindEnd_reports (st := 0) (by decide) (throttlePoint (reopen (rewound k c u)))
    refine ⟨_, _, rfl, rfl, ?_, hcom, hhigh, hcycles, hst, hopened, rewound_wave k c u, hlast, hcopies, rewound_paused k c u,
      hnone, hstatus, hdone, hpend, ?_⟩
    · rw [exec_rewindDone hup, rewindDone_some hslot hc, if_neg (by rw [← hbad, hgood]; decide), hu]
    · rw [hu]
      exact (Chg.after (m := 117411486) (rewindEnd_chg ..) (.after (throttlePoint_chg ..) (.after (reopen_chg ..)
        (.after (rewound_chg ..) (.after (copyEcc_chg ..) (.refl _ _)))))).changes
  case rewindFails =>
    have hchg : Chg 67109010 s u := by
      rw [hu]
      exact copyEcc_chg ..
    have hsch : u.sch = s.sch := hchg.same .sch (by decide)
    obtain ⟨x, hx, hstop, hpause⟩ := rewindFailed_sch u
    obtain ⟨hstatus, hdone, hpend⟩ := rewindFailed_reports u
    refine ⟨rewindFailed u, ?_, by rw [hx], fun hfrom => ?_, fun hfrom hfrozen hcopy hexec => ?_, hstatus, hdone, hpend, fun hnone => ?_,
      (Chg.after (m := 100664466) (rewindFailed_chg u) (.after hchg (.refl _ _))).changes⟩
    · rw [exec_rewindDone hup, rewindDone_some hslot hc, if_pos (by rw [← hbad, hfail]), ← hu]
      rfl
    · rw [hx, hsch, hstop (by rw [hsch, hfrom])]
    · have hpaused : u.paused = s.paused := by
        rw [hu]
        exact (ctrl_of_reg (copyEcc_reg (by decide) (by decide) ..)).1
      rw [hx, hsch, hpause (by rw [hsch, hfrom]) (by rw [hsch, hfrozen]) (by rw [hsch, hcopy]) (by rw [hsch, hexec]), hpaused]
    · rw [hu, copyEcc_none hnone]
      exact rewindFailed_regsBut s

end Sys2Proof.Proofs
end

section
/-!
Proofs of the family 03_design_cycle: how a load ends, and its phases HEADER and KEY (O35).
-/
namespace Sys2Proof.Proofs
open Sys2Proof.Machine Sys2Proof.Laws

/-! ### The end of a load -/

/-- The registers in which a load reports its end. -/
def loadRegs : List Nat := [Reg.SCH_LOAD_STATUS, Reg.SCH_LOAD_DETAIL, Reg.SCH_LOAD_WHERE, pendReg 0x0A0]

/-- STATUS, DONE, SCH_LOAD_DETAIL and SCH_LOAD_WHERE take what the item says. -/
def loadReported (f : ImgFail) (s : State) : State :=
  (((s.setFld Reg.SCH_LOAD_STATUS 8 8 f.status).setBit Reg.SCH_LOAD_STATUS 1 true).setReg Reg.SCH_LOAD_DETAIL
    (BitVec.ofNat 32 (2 ^ 28 * f.kind + 2 ^ 24 * f.sec))).setReg Reg.SCH_LOAD_WHERE (BitVec.ofNat 32 f.loc)

/-- No load runs. -/
def loadOver (s : State) : State := { s with load := { s.load with busy := false, header := [] } }

/-- An end with OK reports an item of zeros. -/
def noFail : ImgFail := { status := 0, kind := 0, sec := 0, loc := 0, order := 0 }

theorem imgLoadEnd_eq (f : Option ImgFail) (s : State) :
    imgLoadEnd f s = raise 0x0A0 (loadOver (loadReported (f.getD noFail) s)) := rfl

section
variable (f : ImgFail) (s : State)

theorem loadReported_regsBut : RegsBut loadRegs s (loadReported f s) :=
  regsBut_trans (regsBut_mono (regsBut_setFld s _ 8 8 f.status) (by decide))
    (regsBut_trans (regsBut_mono (regsBut_setBit (s.setFld Reg.SCH_LOAD_STATUS 8 8 f.status) _ _ _) (by decide))
      (regsBut_trans (regsBut_mono (regsBut_setReg _ Reg.SCH_LOAD_DETAIL _) (by decide))
        (regsBut_mono (regsBut_setReg _ Reg.SCH_LOAD_WHERE _) (by decide))))

theorem loadReported_status : (loadReported f s).fld Reg.SCH_LOAD_STATUS 8 8 = f.status % 256 := by
  have hreg : (loadReported f s).reg Reg.SCH_LOAD_STATUS =
      ((s.setFld Reg.SCH_LOAD_STATUS 8 8 f.status).setBit Reg.SCH_LOAD_STATUS 1 true).reg Reg.SCH_LOAD_STATUS := by
    rw [loadReported, reg_setReg_other _ _ (by decide), reg_setReg_other _ _ (by decide)]
  rw [fld_of_reg hreg, fld_setBit_other _ _ (by decide) (by decide)]
  exact fld_setFld_same _ _ (by decide)

theorem loadReported_done : (loadReported f s).bit Reg.SCH_LOAD_STATUS 1 = true := by
  have hreg : (loadReported f s).reg Reg.SCH_LOAD_STATUS =
      ((s.setFld Reg.SCH_LOAD_STATUS 8 8 f.status).setBit Reg.SCH_LOAD_STATUS 1 true).reg Reg.SCH_LOAD_STATUS := by
    rw [loadReported, reg_setReg_other _ _ (by decide), reg_setReg_other _ _ (by decide)]
  rw [bit_of_reg hreg]
  exact bit_setBit_same _ true (by decide)

theorem loadReported_detail :
    (loadReported f s).reg Reg.SCH_LOAD_DETAIL = BitVec.ofNat 32 (2 ^ 28 * f.kind + 2 ^ 24 * f.sec) := by
  rw [loadReported, reg_setReg_other _ _ (by decide), reg_setReg_same]

theorem loadReported_where : (loadReported f s).reg Reg.SCH_LOAD_WHERE = BitVec.ofNat 32 f.loc := reg_setReg_same ..

end

/-- From `s` to `t` a load has ended with the item `f`: it says so in its registers, its event is pending, and no load runs. -/
structure LoadEnded (f : ImgFail) (s t : State) : Prop where
  load : t.load = { s.load with busy := false, header := [] }
  status : t.fld Reg.SCH_LOAD_STATUS 8 8 = f.status % 256
  done : t.bit Reg.SCH_LOAD_STATUS 1 = true
  detail : t.reg Reg.SCH_LOAD_DETAIL = BitVec.ofNat 32 (2 ^ 28 * f.kind + 2 ^ 24 * f.sec)
  loc : t.reg Reg.SCH_LOAD_WHERE = BitVec.ofNat 32 f.loc
  event : t.pendBit 0x0A0 = true
  regs : RegsBut loadRegs s t

theorem imgLoadEnd_ends (f : Option ImgFail) (s : State) : LoadEnded (f.getD noFail) s (imgLoadEnd f s) := by
  have hreg {o : Nat} (ho : o ≠ pendReg 0x0A0) : (imgLoadEnd f s).reg o = (loadReported (f.getD noFail) s).reg o := by
    rw [imgLoadEnd_eq, raise_reg _ ho]
    rfl
  rw [imgLoadEnd_eq] at hreg ⊢
  exact {
    load := (raise_chg ..).same .load (by decide)
    status := (fld_of_reg (hreg (by decide)) 8 8).trans (loadReported_status ..)
    done := (bit_of_reg (hreg (by decide)) 1).trans (loadReported_done ..)
    detail := (hreg (by decide)).trans (loadReported_detail ..)
    loc := (hreg (by decide)).trans (loadReported_where ..)
    event := raise_pendBit (eventAbsent_low (by decide) _)
    regs := regsBut_trans (loadReported_regsBut _ s) (regsBut_trans (regsBut_of_regs _ rfl)
      (regsBut_mono (regsBut_raise 0x0A0 (loadOver (loadReported (f.getD noFail) s))) (by decide))) }

/-! ### Phases -/

theorem phaseJudged_fails {fails : List ImgFail} {f : ImgFail} {next : State → State} {s : State} (h : firstFail fails = some f) :
    phaseJudged fails next s = imgLoadEnd (some f) s := by
  rw [phaseJudged, h]

theorem phaseJudged_passes {fails : List ImgFail} {next : State → State} {s : State} (h : firstFail fails = none) :
    phaseJudged fails next s = next s := by
  rw [phaseJudged, h]

/-- A phase that is under way. -/
theorem phaseOpen {s : State} {ph : LoadPhase} (hbusy : s.load.busy = true) (hphase : s.load.phase = ph) :
    ¬ ((!s.load.busy) = true ∨ s.load.phase ≠ ph) := by
  simp [hbusy, hphase]

theorem phaseShut {s : State} {ph : LoadPhase} (h : s.load.busy = false ∨ s.load.phase ≠ ph) :
    (!s.load.busy) = true ∨ s.load.phase ≠ ph := by
  simpa using h

/-! ### HEADER -/

theorem exec_loadHeaderDone {h : List Byte} {o : Option Word32} {internal : Bool} {s : State} (hup : s.up = true) :
    exec (.loadHeaderDone h ⟨o, internal⟩) s = .next (loadHeaderDone h o internal s) := run_up _ hup

/-- The items of an internal failure. -/
def internalItem : ImgFail := { status := 15, kind := 0, sec := 0, loc := 0, order := 0 }

/-- A failed DMA read of the header. -/
def headerUnread (o : Word32) : ImgFail := { status := 15, kind := 0xB, sec := 0, loc := o.toNat, order := 0 }

/-- The header passes to the KEY phase. -/
def headerTaken (h : List Byte) (s : State) : State := { s with load := { s.load with phase := .key, header := h } }

theorem loadHeaderDone_shut {h : List Byte} {o : Option Word32} {internal : Bool} {s : State}
    (hshut : s.load.busy = false ∨ s.load.phase ≠ .header) : loadHeaderDone h o internal s = s := if_pos (phaseShut hshut)

section
variable {h : List Byte} {internal : Bool} {s : State}

theorem loadHeaderDone_unread {o : Word32} (hbusy : s.load.busy = true) (hphase : s.load.phase = .header) :
    loadHeaderDone h (some o) internal s = imgLoadEnd (some (headerUnread o)) s := if_neg (phaseOpen hbusy hphase)

theorem loadHeaderDone_read (hbusy : s.load.busy = true) (hphase : s.load.phase = .header) : loadHeaderDone h none internal s =
    phaseJudged (imgHeaderFails s h (loadLen s) s.load.stage ++ when internal internalItem) (headerTaken h) s :=
  if_neg (phaseOpen hbusy hphase)

end

/-! ### KEY -/

theorem exec_loadKeyDone {x : Bool} {s : State} (hup : s.up = true) :
    exec (.loadKeyDone x) s = .next (bntUnknown 2 (loadKeyDone x s)) :=
  run_up (fun s => bntUnknown 2 (loadKeyDone x s)) hup

/-- EPH_KEY is no point on the curve. -/
def keyOffCurve : ImgFail := { status := 1, kind := 1, sec := 0, loc := 0xB0, order := 0 }

theorem loadKeyDone_shut {x : Bool} {s : State} (hshut : s.load.busy = false ∨ s.load.phase ≠ .key) : loadKeyDone x s = s :=
  if_pos (phaseShut hshut)

theorem loadKeyDone_open {x : Bool} {s : State} (hbusy : s.load.busy = true) (hphase : s.load.phase = .key) : loadKeyDone x s =
    if ephOnCurve s.load.header = false then imgLoadEnd (some keyOffCurve) s
    else if x then imgLoadEnd (some internalItem) s else { s with load := { s.load with phase := .verify } } := by
  rw [loadKeyDone, if_neg (phaseOpen hbusy hphase)]
  cases ephOnCurve s.load.header <;> rfl

/-! ### VERIFY and WRITE -/

theorem exec_loadVerifyDone {body : ImageBody} {p : PassResult} {s : State} (hup : s.up = true) :
    exec (.loadVerifyDone body p) s = .next (loadVerifyDone body p s) := run_up _ hup

theorem exec_loadWriteDone {body : ImageBody} {p : PassResult} {s : State} (hup : s.up = true) :
    exec (.loadWriteDone body p) s = .next (loadWriteDone body p s) := run_up _ hup

section
variable {body : ImageBody} {p : PassResult} {s : State} {ph : LoadPhase}

theorem bodyOpen (hbusy : s.load.busy = true) (hphase : s.load.phase = ph) (hfits : bodyFits s.clusters s.load.header body = true) :
    ¬ ((!s.load.busy) = true ∨ s.load.phase ≠ ph ∨ (!bodyFits s.clusters s.load.header body) = true) := by
  simp [hbusy, hphase, hfits]

theorem bodyShut (h : s.load.busy = false ∨ s.load.phase ≠ ph ∨ bodyFits s.clusters s.load.header body = false) :
    (!s.load.busy) = true ∨ s.load.phase ≠ ph ∨ (!bodyFits s.clusters s.load.header body) = true := by
  simpa using h

theorem loadVerifyDone_shut (h : s.load.busy = false ∨ s.load.phase ≠ .verify ∨ bodyFits s.clusters s.load.header body = false) :
    loadVerifyDone body p s = s := if_pos (bodyShut h)

/-- What follows VERIFY: the WRITE phase, which an install begins with the discard of the old image. -/
def verified (s : State) : State := if s.load.stage then { s with load := { s.load with phase := .write } } else writeBegin s

theorem loadVerifyDone_open (hbusy : s.load.busy = true) (hphase : s.load.phase = .verify)
    (hfits : bodyFits s.clusters s.load.header body = true) : loadVerifyDone body p s =
    phaseJudged (if s.load.stage then stageFails s s.load.header body p else installFails s s.load.header body p) verified s :=
  if_neg (bodyOpen hbusy hphase hfits)

theorem loadWriteDone_shut (h : s.load.busy = false ∨ s.load.phase ≠ .write ∨ bodyFits s.clusters s.load.header body = false) :
    loadWriteDone body p s = s := if_pos (bodyShut h)

/-- The key that the tags of the WRITE phase verify under. -/
def writeKey (s : State) : BitVec 256 := if s.load.stage then (imageKeys s.ident s.load.header).1 else s.bnt.kImg.getD 0

/-- The keys of the image are gone. -/
def keysGone (s : State) : State := { s with bnt := { s.bnt with kImg := none, kAuth := none, kObs := none } }

/-- A WRITE phase that fails. -/
def writeFailed (f : ImgFail) (s : State) : State :=
  if s.load.stage then imgLoadEnd (some f) s else raise 0x0A1 (imgLoadEnd (some f) (keysGone s))

/-- A WRITE phase that passes. -/
def written (body : ImageBody) (s : State) : State :=
  if s.load.stage then imgLoadEnd none { s with staged := mergeStaged s s.load.header body }
  else imgLoadEnd none (installed (writeImage s.load.header body s))

/-- The WRITE phase ends with what its tags say. -/
def writeJudged (body : ImageBody) (fails : List ImgFail) (s : State) : State :=
  match firstFail fails with
  | some f => writeFailed f s
  | none => written body s

theorem writeJudged_fails {fails : List ImgFail} {f : ImgFail} (h : firstFail fails = some f) :
    writeJudged body fails s = writeFailed f s := by
  rw [writeJudged, h]

theorem writeJudged_passes {fails : List ImgFail} (h : firstFail fails = none) : writeJudged body fails s = written body s := by
  rw [writeJudged, h]

theorem loadWriteDone_open (hbusy : s.load.busy = true) (hphase : s.load.phase = .write)
    (hfits : bodyFits s.clusters s.load.header body = true) : loadWriteDone body p s = writeJudged body
      (tagFails (writeKey s) s.clusters s.load.header body p ++ internalFails s.load.header p) s :=
  if_neg (bodyOpen hbusy hphase hfits)

end

end Sys2Proof.Proofs
end

section
/-!
Proofs of the family 03_design_cycle: what an install discards and what it leaves, and the obligation about the phases of a load
(O35).
-/
namespace Sys2Proof.Proofs
open Sys2Proof.Machine Sys2Proof.Laws

/-! ### The discard of the old image (R163, R404, R414) -/

/-- Larkspur and Aster stop, and what the executions and the dispatcher hold is dropped. -/
def runDropped (s : State) : State := clearWork (dspClear (discardCycles (fun _ => false) (astInstall (lksStop s))))

/-- The image is gone from every block. -/
def imageGone (s : State) : State :=
  { s with
    clu := {}
    mem := { s.mem with banks := [], bankBad := [], queue := [], notes := [], overflow := none, allFour := none, bWindows := [] }
    hbd := { s.hbd with flits := [], vcs := [], links := [], mapsValid := false }
    sch := { s.sch with st := .idle, phase := .start, slot := 0, exec := none, fatal := false, cycles := [], commitQ := [],
                        slots := [], parityCnt := [], opened := none, applyT := none, applyFrozen := false, ckptNow := false }
    img := {}
    staged := {}
    pwr := { s.pwr with longHold := true } }

theorem discardImage_eq (s : State) : discardImage s = doNone (timeMasterFix (imageGone (runDropped s))) := rfl

/-- After the discard of an image only time and Glove's lines are settled. -/
theorem discardImage_settles (s : State) : Chg 3145736 (imageGone (runDropped s)) (discardImage s) := by
  rw [discardImage_eq]
  exact .after (doNone_chg _) (.after (timeMasterFix_chg _) (.refl _ _))

theorem discardCycles_hbmKey (keep : Word64 → Bool) (s : State) : (discardCycles keep s).mem.hbmKey = s.mem.hbmKey := by
  have hleft : (dropMem keep (cyclesLeft keep (discardsCounted keep s))).mem.hbmKey = (discardsCounted keep s).mem.hbmKey := rfl
  rw [discardCycles_eq, (dspDiscard_chg ..).same .mem (by decide), hleft, discardsCounted, twoCounts_mem]

theorem runDropped_hbmKey (s : State) : (runDropped s).mem.hbmKey = s.mem.hbmKey := by
  have hclear : (runDropped s).mem.hbmKey =
      (dspClear (discardCycles (fun _ => false) (astInstall (lksStop s)))).mem.hbmKey := rfl
  have hstop : (astInstall (lksStop s)).mem = s.mem :=
    (Chg.after (m := 12583058) (astInstall_chg _) (.after (lksStop_chg _) (.refl _ _))).same .mem (by decide)
  rw [hclear, (dspClear_chg _).same .mem (by decide), discardCycles_hbmKey, hstop]

theorem discardImage_hbmKey (s : State) : (discardImage s).mem.hbmKey = s.mem.hbmKey := by
  rw [(discardImage_settles s).same .mem (by decide), imageGone]
  exact runDropped_hbmKey s

/-- The run, the image and what is staged are gone. -/
theorem discardImage_gone (s : State) : (discardImage s).img = {} ∧ (discardImage s).staged = {} ∧ (discardImage s).sch.st = .idle ∧
    (discardImage s).sch.cycles = [] ∧ (discardImage s).sch.exec = none ∧ (discardImage s).mem.banks = [] ∧
    (discardImage s).dsp.msgs = [] := by
  have h := discardImage_settles s
  rw [h.same .img (by decide), h.same .staged (by decide), h.same .sch (by decide), h.same .mem (by decide),
    h.same .dsp (by decide)]
  exact ⟨rfl, rfl, rfl, rfl, rfl, rfl, rfl⟩

/-- No grant outlives its image. -/
theorem endGrants_grants (s : State) : (endGrants s).bnt.grants = [] := by
  unfold endGrants
  split
  · next h => exact List.isEmpty_iff.mp h
  · exact congrArg BntSt.grants ((raise_chg ..).same .bnt (by decide))

/-- The new image's keys take effect, with a new HBM key. -/
def keysTaken (k : BitVec 256 × BitVec 256 × BitVec 256) (s : State) : State :=
  { s with
    load := { s.load with phase := .write, invalidFlag := true }
    bnt := { s.bnt with kImg := some k.1, kAuth := some k.2.1, kObs := some k.2.2 }
    mem := { s.mem with hbmKey := s.mem.hbmKey + 1, hbm := [] } }

/-- The state in which the WRITE phase of an install begins. -/
def writeReady (k : BitVec 256 × BitVec 256 × BitVec 256) (s : State) : State := endUnlock (keysTaken k s)

theorem writeBegin_eq (s : State) : writeBegin s =
    writeReady (imageKeys s.ident s.load.header) (discardImage (endGrants s)) := rfl

section
variable (k : BitVec 256 × BitVec 256 × BitVec 256) (s : State)

theorem writeReady_load : (writeReady k s).load = { s.load with phase := .write, invalidFlag := true } := rfl

theorem writeReady_bnt : (writeReady k s).bnt.grants = s.bnt.grants ∧ (writeReady k s).bnt.debugUnlock = false ∧
    (writeReady k s).bnt.kImg = some k.1 := ⟨rfl, rfl, rfl⟩

theorem writeReady_mem : (writeReady k s).mem.banks = s.mem.banks ∧ (writeReady k s).mem.hbm = [] ∧
    (writeReady k s).mem.hbmKey = s.mem.hbmKey + 1 := ⟨rfl, rfl, rfl⟩

theorem writeReady_same (p : Part) (hp : p ∉ [Part.host, .load, .mem, .bnt] := by decide) : p.same s (writeReady k s) :=
  Chg.changes (m := 573568) (.after (endUnlock_chg _) (.upd (.refl _ _) (i3 := fun _ => rfl))) (by decide) p hp

end

theorem writeBegin_load (s : State) : (writeBegin s).load = { s.load with phase := .write, invalidFlag := true } := by
  have hload : (discardImage (endGrants s)).load = s.load :=
    (Chg.after (m := 50312858) (discardImage_chg _) (.after (endGrants_chg s) (.refl _ _))).same .load (by decide)
  rw [writeBegin_eq, writeReady_load, hload]

theorem writeBegin_bnt (s : State) : (writeBegin s).bnt.grants = [] ∧ (writeBegin s).bnt.debugUnlock = false ∧
    (writeBegin s).bnt.kImg = some (imageKeys s.ident s.load.header).1 := by
  have hbnt : (discardImage (endGrants s)).bnt = (endGrants s).bnt := (discardImage_chg _).same .bnt (by decide)
  obtain ⟨hgrants, hlocked, hkey⟩ := writeReady_bnt (imageKeys s.ident s.load.header) (discardImage (endGrants s))
  rw [writeBegin_eq]
  exact ⟨by rw [hgrants, hbnt, endGrants_grants], hlocked, hkey⟩

theorem writeBegin_mem (s : State) : (writeBegin s).mem.banks = [] ∧ (writeBegin s).mem.hbm = [] ∧
    (writeBegin s).mem.hbmKey = s.mem.hbmKey + 1 := by
  obtain ⟨_, _, _, _, _, hbanks, _⟩ := discardImage_gone (endGrants s)
  obtain ⟨hkept, hhbm, hkey⟩ := writeReady_mem (imageKeys s.ident s.load.header) (discardImage (endGrants s))
  rw [writeBegin_eq]
  exact ⟨hkept.trans hbanks, hhbm, by rw [hkey, discardImage_hbmKey, (endGrants_chg s).same .mem (by decide)]⟩

theorem writeBegin_gone (s : State) : (writeBegin s).img = {} ∧ (writeBegin s).staged = {} ∧ (writeBegin s).sch.st = .idle ∧
    (writeBegin s).sch.cycles = [] ∧ (writeBegin s).sch.exec = none ∧ (writeBegin s).dsp.msgs = [] := by
  obtain ⟨himg, hstaged, hst, hcycles, hexec, _, hmsgs⟩ := discardImage_gone (endGrants s)
  rw [writeBegin_eq, writeReady_same _ _ .img, writeReady_same _ _ .staged, writeReady_same _ _ .sch, writeReady_same _ _ .dsp]
  exact ⟨himg, hstaged, hst, hcycles, hexec, hmsgs⟩

/-! ### The new image (R158, R159, R163) -/

/-- The sections stand in the module. -/
def sectionsStored (h : List Byte) (body : ImageBody) (s : State) : State :=
  let md := memdeclOf body.memdecl
  let last : SMap Bool := msetAll [] false (body.pred.map (fun p => (p.1, p.2.getLsbD 2)))
  let b := loadBanks body.bankInit s
  { b with
    clu := { b.clu with
      tier := msetAll [] nopWord (body.instr.map (fun p => (tierKey p.1, p.2)))
      copies := msetAll [] false body.stateInit
      predMode := msetAll [] 0 (body.pred.map (fun p => (p.1, p.2.setWidth 2)))
      predLast := last }
    mem := { b.mem with
      bankPwr := b.mem.bankPwr.filter (fun p => !(md.bankUse.getD (p.1 / 8) 0).getLsbD (p.1 % 8)) }
    img := { valid := true, n := hN h, partition := BitVec.ofNat 8 (hPartition h), partitions := BitVec.ofNat 8 (hPartitions h),
             digest := hDigest h, bodyDigest := BitVec.ofNat 384 (beAt h 0x20 48), prevDigest := hDigest h,
             route := body.route, slotHbd := body.slotHbd, slotLane := body.slotLane, memdecl := md, probe := body.probe,
             gloveMap := body.gloveMap, lastInit := last }
    hbd := { b.hbd with mapsValid := true, agedFrom := b.clock } }

/-- The clusters' registers say how many verifies they expect. -/
def expectWritten (body : ImageBody) (s : State) : State :=
  forEach (List.range s.clusters) (fun c s => s.setFld (cluReg c 0x20) 0 13 (expectOf body.cfg c)) s

/-- The fields of the banks that the image uses read On. -/
def banksOn (s : State) : State :=
  forEach (List.range s.bankCount) (fun b s =>
    if s.bankUsed b then s.setFld (Reg.MEM_BANK_PWR + 4 * (b / 16)) (2 * (b % 16)) 2 0 else s) s

/-- A change of a bank's power is under way where a bank is not as its field says. -/
def powerAsked (s : State) : State := { s with mem := { s.mem with pwrPending := bankMoves s } }

theorem writeImage_eq (h : List Byte) (body : ImageBody) (s : State) :
    writeImage h body s = powerAsked (banksOn (expectWritten body (sectionsStored h body s))) := rfl

theorem fieldsWritten_chg (body : ImageBody) (s : State) : Chg 2 s (banksOn (expectWritten body s)) :=
  .each (.each (.refl _ _) fun _ _ => State_setFld_chg ..) fun _ _ => .ite (State_setFld_chg ..) (.refl _ _)

/-- The image, the tiers, the copies and the banks are those of the file. -/
theorem writeImage_installs (h : List Byte) (body : ImageBody) (s : State) :
    (writeImage h body s).img.n = hN h ∧ (writeImage h body s).img.digest = hDigest h ∧ (writeImage h body s).img.valid = true ∧
    (writeImage h body s).mem.banks = msetAll [] 0 body.bankInit ∧
    (writeImage h body s).clu.tier = msetAll [] nopWord (body.instr.map (fun p => (tierKey p.1, p.2))) ∧
    (writeImage h body s).clu.copies = msetAll [] false body.stateInit := by
  have hfields := fieldsWritten_chg body (sectionsStored h body s)
  have himg : (powerAsked (banksOn (expectWritten body (sectionsStored h body s)))).img = (sectionsStored h body s).img :=
    hfields.same .img (by decide)
  have hclu : (powerAsked (banksOn (expectWritten body (sectionsStored h body s)))).clu = (sectionsStored h body s).clu :=
    hfields.same .clu (by decide)
  have hstored : (banksOn (expectWritten body (sectionsStored h body s))).mem.banks = (sectionsStored h body s).mem.banks :=
    congrArg MemSt.banks (hfields.same .mem (by decide))
  have hbanks : (powerAsked (banksOn (expectWritten body (sectionsStored h body s)))).mem.banks =
      (sectionsStored h body s).mem.banks := hstored
  rw [writeImage_eq, himg, hclu, hbanks]
  exact ⟨rfl, rfl, rfl, rfl, rfl, rfl⟩

/-! ### What an install leaves (R82, R83, R102, R122, R164, R414) -/

/-- The run stands paused before cycle 1. -/
def runFresh (s : State) : State :=
  { s with
    load := { s.load with invalidFlag := false }
    sch := { s.sch with st := .paused, committed := 0, commitClk := stepNo s, highest := 0, hiFinished := 0, comCopy := 0,
                        ckptNext := 0 } }

/-- PAUSE is set, and no wrap is noted. -/
def pauseFresh (s : State) : State := (setPause s).setBit Reg.SCH_STATUS 4 false

/-- A debug unlock made with no image ends. -/
def unlockEnded (s : State) : State := if s.bnt.debugNoImage then endUnlock s else s

theorem atInstall_eq (s : State) :
    atInstall s = doInstall 0 (timeMasterFix (unlockEnded (pauseFresh (runFresh (waveFresh 0 s))))) := rfl

theorem unlockEnded_chg (s : State) : Chg 524416 s (unlockEnded s) := .ite (endUnlock_chg s) (.refl _ _)

theorem pauseFresh_chg (s : State) : Chg 2 s (pauseFresh s) := .after (State_setBit_chg ..) (setPause_chg s)

theorem unlockEnded_debugUnlock (s : State) :
    (unlockEnded s).bnt.debugUnlock = if s.bnt.debugNoImage then false else s.bnt.debugUnlock := by
  unfold unlockEnded
  split <;> rfl

section
variable (s : State)

theorem atInstall_bnt : (atInstall s).bnt.debugUnlock = if s.bnt.debugNoImage then false else s.bnt.debugUnlock := by
  have hlate : (atInstall s).bnt = (unlockEnded (pauseFresh (runFresh (waveFresh 0 s)))).bnt :=
    (Chg.after (m := 3145882) (doInstall_chg ..) (.after (timeMasterFix_chg _) (.refl _ _))).same .bnt (by decide)
  have hearly : (pauseFresh (runFresh (waveFresh 0 s))).bnt = s.bnt := (pauseFresh_chg _).same .bnt (by decide)
  rw [hlate, unlockEnded_debugUnlock, hearly]

/-- What follows `runFresh` changes neither the run nor the wave nor the load. -/
theorem atInstall_late : Chg 3670170 (runFresh (waveFresh 0 s)) (atInstall s) :=
  .after (doInstall_chg ..) (.after (timeMasterFix_chg _) (.after (unlockEnded_chg _) (.after (pauseFresh_chg _) (.refl _ _))))

theorem atInstall_run : (atInstall s).sch.st = .paused ∧ (atInstall s).sch.committed = 0 ∧ (atInstall s).sch.highest = 0 ∧
    (atInstall s).wave.gen = 0 ∧ (atInstall s).wave.c = 0 ∧ (atInstall s).load = { s.load with invalidFlag := false } := by
  have h := atInstall_late s
  rw [h.same .sch (by decide), h.same .wave (by decide), h.same .load (by decide)]
  exact ⟨rfl, rfl, rfl, rfl, rfl, rfl⟩

/-- Between the pending bits and Glove's registers the first update of the DO lines changes no register. -/
theorem doInstall_reg {o : Nat} (hlo : 0x10C0 ≤ o) (hhi : o < Reg.GLV_CTRL) (copy : Nat) : (doInstall copy s).reg o = s.reg o := by
  have hne (q : Nat) (hq : Reg.GLV_CTRL ≤ q) : o ≠ q := by omega
  have hpend (e : Nat) (he : e < 1536) : o ≠ pendReg e := by
    rw [pendReg_eq]
    omega
  have htag (u : State) : (tagCheck u).reg o = u.reg o := by
    unfold tagCheck
    split
    · rfl
    · dsimp only
      split
      · rfl
      · rw [raise_reg _ (hpend _ (by decide)), glvCause, causeSet_reg _ (hne _ (by decide)) (by simpa using hne _ (by decide))]
        rfl
  have happly (l : SMap Bool) (u : State) : (doApply l u).reg o = u.reg o := by
    rw [doApply, glvCnt, satAdd_reg _ (hne _ (by decide)) (hne _ (by decide)) (fun e he => by cases he; exact hpend _ (by decide)),
      reg_of_regs ((pulseDo_chg _).same .regs (by decide))]
    rfl
  rw [doInstall, htag, happly, reg_of_regs ((diFresh_chg _).same .regs (by decide))]
  rfl

theorem atInstall_paused : (atInstall s).paused = true := by
  have hlate : (atInstall s).reg Reg.SCH_CTRL = (pauseFresh (runFresh (waveFresh 0 s))).reg Reg.SCH_CTRL := by
    rw [atInstall_eq, doInstall_reg _ (by decide) (by decide), reg_of_regs ((timeMasterFix_chg _).same .regs (by decide)),
      reg_of_regs ((unlockEnded_chg _).same .regs (by decide))]
  rw [(ctrl_of_reg hlate).1, pauseFresh, (ctrl_of_reg (reg_setBit_other _ _ _ (by decide))).1]
  exact setPause_paused _

end

theorem keepRegs_reg_dropped {p : Nat → Bool} {o : Nat} (s : State) (h : p o = false) : (keepRegs p s).reg o = resetVal o :=
  (mget_filter_key s.regs (resetVal o) p o).trans (if_neg (by simp [h]))

/-- A register that is dropped, or whose word stays, still reads its reset value where it did. -/
theorem keepRegs_reg_reset {p : Nat → Bool} {o : Nat} {s : State} (h : s.reg o = resetVal o) :
    (keepRegs p s).reg o = resetVal o :=
  (mget_filter_key s.regs (resetVal o) p o).trans ((ite_congr rfl (fun _ => h) fun _ => rfl).trans (ite_self _))

/-- The counters read their reset values. -/
theorem clearCounters_reg {o : Nat} (s : State) (h : clearedCounter o = true) : (clearCounters s).reg o = resetVal o :=
  keepRegs_reg_reset (keepRegs_reg_dropped s (by simp [h]))

theorem clearedCounter_ne_load {o : Nat} (h : clearedCounter o = true) : o ∉ loadRegs := fun ho => by
  have hnone : ∀ o ∈ loadRegs, clearedCounter o = false := by decide
  exact Bool.false_ne_true ((hnone o ho).symm.trans h)

end Sys2Proof.Proofs
end

section
/-!
Proofs of the family 03_design_cycle: the obligation about the phases of a load (O35).
-/
namespace Sys2Proof.Proofs
open Sys2Proof.Machine Sys2Proof.Laws

/-! ### A phase that fails -/

/-- A load that fails changes only what it reports in. -/
theorem imgLoadEnd_changes (f : Option ImgFail) (s : State) : Changes [.regs, .out, .host, .load] s (imgLoadEnd f s) :=
  (imgLoadEnd_chg f s).changes

section
variable {f : ImgFail} {s t : State}

/-- The report of a load that failed stands beside the event of the image that is lost. -/
theorem LoadEnded.imageLost (h : LoadEnded f s t) : LoadEnded f s (raise 0x0A1 t) := by
  have hreg {o : Nat} (ho : o ≠ pendReg 0x0A1) : (raise 0x0A1 t).reg o = t.reg o := raise_reg _ ho
  exact {
    load := ((raise_chg ..).same .load (by decide)).trans h.load
    status := (fld_of_reg (hreg (by decide)) 8 8).trans h.status
    done := (bit_of_reg (hreg (by decide)) 1).trans h.done
    detail := (hreg (by decide)).trans h.detail
    loc := (hreg (by decide)).trans h.loc
    event := (raise_pendBit_other t (by decide)).trans h.event
    regs := regsBut_trans h.regs (regsBut_mono (regsBut_raise 0x0A1 t) (by decide)) }

theorem writeFailed_stage (f : ImgFail) (hstage : s.load.stage = true) : writeFailed f s = imgLoadEnd (some f) s := if_pos hstage

theorem writeFailed_install (f : ImgFail) (hinstall : s.load.stage = false) :
    writeFailed f s = raise 0x0A1 (imgLoadEnd (some f) (keysGone s)) := if_neg (by simp [hinstall])

theorem writeFailed_ends (f : ImgFail) (s : State) : LoadEnded f s (writeFailed f s) := by
  cases hstage : s.load.stage with
  | true =>
    rw [writeFailed_stage f hstage]
    exact imgLoadEnd_ends (some f) s
  | false =>
    rw [writeFailed_install f hstage]
    exact LoadEnded.imageLost { imgLoadEnd_ends (some f) (keysGone s) with }

theorem keysGone_chg (s : State) : Chg 524288 s (keysGone s) := .upd (.refl _ _)

theorem writeFailed_changes (f : ImgFail) (s : State) : Changes [.regs, .out, .host, .load, .bnt] s (writeFailed f s) :=
  Chg.changes (m := 540818) (.ite (.after (imgLoadEnd_chg ..) (.refl _ _))
    (.after (raise_chg ..) (.after (imgLoadEnd_chg ..) (.after (keysGone_chg s) (.refl _ _)))))

/-- An install that fails in the WRITE phase leaves no key, and the image is lost. -/
theorem writeFailed_lost (f : ImgFail) (hinstall : s.load.stage = false) :
    (writeFailed f s).pendBit 0x0A1 = true ∧ (writeFailed f s).bnt.kImg = none := by
  rw [writeFailed_install f hinstall]
  have hbnt : (raise 0x0A1 (imgLoadEnd (some f) (keysGone s))).bnt = (keysGone s).bnt :=
    (Chg.after (m := 16530) (raise_chg ..) (.after (imgLoadEnd_chg (some f) (keysGone s)) (.refl _ _))).same .bnt (by decide)
  exact ⟨raise_pendBit (eventAbsent_low (by decide) _), by rw [hbnt, keysGone]⟩

/-! ### A WRITE phase that passes -/

/-- The start point of cycle 1, with every counter at 0. -/
def firstPoint (v : State) : State := throttlePoint (clearCounters (reopen v))

/-- The content of a stage load is staged. -/
def stagedMerged (body : ImageBody) (s : State) : State := { s with staged := mergeStaged s s.load.header body }

theorem written_stage (body : ImageBody) (hstage : s.load.stage = true) :
    written body s = imgLoadEnd none (stagedMerged body s) := if_pos hstage

theorem stagedMerged_chg (body : ImageBody) (s : State) : Chg 8192 s (stagedMerged body s) := .upd (.refl _ _)

theorem stageEnd_chg (body : ImageBody) (s : State) : Chg 24722 s (imgLoadEnd none (stagedMerged body s)) :=
  .after (imgLoadEnd_chg ..) (.after (stagedMerged_chg body s) (.refl _ _))

theorem written_install (body : ImageBody) (hinstall : s.load.stage = false) :
    written body s = imgLoadEnd none (firstPoint (atInstall (writeImage s.load.header body s))) := by
  rw [written, if_neg (by simp [hinstall]), installed, firstPoint]

end

theorem firstPoint_chg (v : State) : Chg 116887198 v (firstPoint v) :=
  .after (throttlePoint_chg _) (.after (clearCounters_chg _) (.after (reopen_chg v) (.refl _ _)))

theorem firstPoint_reg {o : Nat} (v : State) (h : clearedCounter o = true) : (firstPoint v).reg o = resetVal o :=
  (reg_of_regs ((throttlePoint_chg _).same .regs (by decide)) o).trans (clearCounters_reg _ h)

/-- The load ends at the start point of cycle 1. -/
theorem installEnd_counters {o : Nat} (v : State) (h : clearedCounter o = true) :
    (imgLoadEnd none (firstPoint v)).reg o = resetVal o :=
  ((imgLoadEnd_ends none (firstPoint v)).regs o (clearedCounter_ne_load h)).trans (firstPoint_reg v h)

section
variable (v : State)

theorem installEnd_chg : Chg 116903582 v (imgLoadEnd none (firstPoint v)) :=
  .after (imgLoadEnd_chg ..) (.after (firstPoint_chg v) (.refl _ _))

theorem installEnd_load : (imgLoadEnd none (firstPoint v)).load = { v.load with busy := false, header := [] } := by
  rw [(imgLoadEnd_ends none (firstPoint v)).load, (firstPoint_chg v).same .load (by decide)]

end

section
variable (body : ImageBody) (s : State)

/-- The start point of cycle 1 finds the image, the banks, the tiers and the copies of the file. -/
theorem install_image (h : List Byte) : (atInstall (writeImage h body s)).img.n = hN h ∧
    (atInstall (writeImage h body s)).img.digest = hDigest h ∧ (atInstall (writeImage h body s)).img.valid = true ∧
    (atInstall (writeImage h body s)).mem.banks = msetAll [] 0 body.bankInit ∧
    (atInstall (writeImage h body s)).clu.tier = msetAll [] nopWord (body.instr.map (fun p => (tierKey p.1, p.2))) ∧
    (atInstall (writeImage h body s)).clu.copies = msetAll [] false body.stateInit := by
  have hkept := atInstall_chg (writeImage h body s)
  rw [hkept.same .img (by decide), hkept.same .mem (by decide), hkept.same .clu (by decide)]
  exact writeImage_installs h body s

/-- Only a debug unlock made with no image ends. -/
theorem installEnd_debugUnlock : (imgLoadEnd none (firstPoint (atInstall (writeImage s.load.header body s)))).bnt.debugUnlock =
    if s.bnt.debugNoImage then false else s.bnt.debugUnlock := by
  rw [(installEnd_chg _).same .bnt (by decide), atInstall_bnt, (writeImage_chg ..).same .bnt (by decide)]

theorem install_changes : Changes [.regs, .clock, .freeCtr, .out, .host, .clu, .sch, .wave, .img, .load, .mem, .hbd, .lnk, .dsp,
    .bnt, .tim, .glv, .ast, .lks, .pwr, .ldg] s (imgLoadEnd none (firstPoint (atInstall (writeImage s.load.header body s)))) :=
  Chg.changes (m := 117431966) (.after (installEnd_chg _) (.after (atInstall_chg _) (.after (writeImage_chg ..) (.refl _ _))))

end

/-- A phase that ends the load reports its item, and changes nothing else. -/
theorem loadFails_reports {f : ImgFail} {status : Nat} {detail loc : Word32} (s : State) (hstatus : f.status % 256 = status)
    (hdetail : BitVec.ofNat 32 (2 ^ 28 * f.kind + 2 ^ 24 * f.sec) = detail) (hloc : BitVec.ofNat 32 f.loc = loc) :
    (imgLoadEnd (some f) s).load = { s.load with busy := false, header := [] } ∧
    (imgLoadEnd (some f) s).fld Reg.SCH_LOAD_STATUS 8 8 = status ∧ (imgLoadEnd (some f) s).bit Reg.SCH_LOAD_STATUS 1 = true ∧
    (imgLoadEnd (some f) s).reg Reg.SCH_LOAD_DETAIL = detail ∧ (imgLoadEnd (some f) s).reg Reg.SCH_LOAD_WHERE = loc ∧
    (imgLoadEnd (some f) s).pendBit 0x0A0 = true ∧ RegsBut loadRegs s (imgLoadEnd (some f) s) ∧
    Changes [.regs, .out, .host, .load] s (imgLoadEnd (some f) s) :=
  have h : LoadEnded f s (imgLoadEnd (some f) s) := imgLoadEnd_ends (some f) s
  ⟨h.load, h.status.trans hstatus, h.done, h.detail.trans hdetail, h.loc.trans hloc, h.event, h.regs,
    imgLoadEnd_changes (some f) s⟩

/-- Settles O35: a phase passes or ends the load with the first of its items; an install begins its WRITE phase with the
discard, and ends it at the start point of cycle 1. -/
theorem loadPhases : Obligations.LoadPhases := by
  unfold Obligations.LoadPhases
  refine ⟨?header, ?key, ?verify, ?write, ?shut⟩
  case header =>
    intro h internal fails s hup hbusy hphase hfails
    refine ⟨fun hpass => ?_, fun f hf => ?_, fun o => ?_⟩
    · rw [exec_loadHeaderDone hup, loadHeaderDone_read hbusy hphase, phaseJudged_passes (hfails ▸ hpass), headerTaken]
    · have hexec : exec (.loadHeaderDone h ⟨none, internal⟩) s = .next (imgLoadEnd (some f) s) := by
        rw [exec_loadHeaderDone hup, loadHeaderDone_read hbusy hphase, phaseJudged_fails (hfails ▸ hf)]
      exact ⟨_, hexec, loadFails_reports s rfl rfl rfl⟩
    · have hexec : exec (.loadHeaderDone h ⟨some o, internal⟩) s = .next (imgLoadEnd (some (headerUnread o)) s) := by
        rw [exec_loadHeaderDone hup, loadHeaderDone_unread hbusy hphase]
      have hloc : BitVec.ofNat 32 (headerUnread o).loc = o := (BitVec.ofNat_toNat 32 o).trans (BitVec.setWidth_eq o)
      exact ⟨_, hexec, loadFails_reports s rfl rfl hloc⟩
  case key =>
    intro s hup hbusy hphase
    refine ⟨fun hcurve => ⟨?_, ?_⟩, fun x hcurve => ?_⟩
    · rw [exec_loadKeyDone hup, loadKeyDone_open hbusy hphase, if_neg (by simp [hcurve]), if_neg (by decide)]
    · have hexec : exec (.loadKeyDone true) s = .next (bntUnknown 2 (imgLoadEnd (some internalItem) s)) := by
        rw [exec_loadKeyDone hup, loadKeyDone_open hbusy hphase, if_neg (by simp [hcurve]), if_pos rfl]
      exact ⟨_, hexec, loadFails_reports s rfl rfl rfl⟩
    · have hexec : exec (.loadKeyDone x) s = .next (bntUnknown 2 (imgLoadEnd (some keyOffCurve) s)) := by
        rw [exec_loadKeyDone hup, loadKeyDone_open hbusy hphase, if_pos hcurve]
      exact ⟨_, hexec, loadFails_reports s rfl rfl rfl⟩
  case verify =>
    intro body pass fails s hup hbusy hphase hfits hfails
    refine ⟨fun hstage hpass => ?_, fun hinstall hpass => ?_, fun f hf => ?_⟩
    · rw [exec_loadVerifyDone hup, loadVerifyDone_open hbusy hphase hfits, phaseJudged_passes (hfails ▸ hpass), verified,
        if_pos hstage]
    · have hexec : exec (.loadVerifyDone body pass) s = .next (writeBegin s) := by
        rw [exec_loadVerifyDone hup, loadVerifyDone_open hbusy hphase hfits, phaseJudged_passes (hfails ▸ hpass), verified,
          if_neg (by simp [hinstall])]
      obtain ⟨himg, hstaged, hst, hcycles, hnoexec, hmsgs⟩ := writeBegin_gone s
      obtain ⟨hgrants, hlocked, hkey⟩ := writeBegin_bnt s
      obtain ⟨hbanks, hhbm, hhbmKey⟩ := writeBegin_mem s
      exact ⟨_, hexec, writeBegin_load s, himg, hstaged, hst, hcycles, hnoexec, hgrants, hlocked, hkey, hbanks, hhbm, hhbmKey,
        hmsgs, (writeBegin_chg s).changes⟩
    · have hexec : exec (.loadVerifyDone body pass) s = .next (imgLoadEnd (some f) s) := by
        rw [exec_loadVerifyDone hup, loadVerifyDone_open hbusy hphase hfits, phaseJudged_fails (hfails ▸ hf)]
      exact ⟨_, hexec, loadFails_reports s rfl rfl rfl⟩
  case write =>
    intro body pass fails s hup hbusy hphase hfits hfails
    refine ⟨fun hpass => ?_, fun f hf => ?_⟩
    · have hexec : exec (.loadWriteDone body pass) s = .next (written body s) := by
        rw [exec_loadWriteDone hup, loadWriteDone_open hbusy hphase hfits, writeJudged_passes (hfails ▸ hpass)]
      refine ⟨fun hstage => ?_, fun hinstall => ?_⟩
      · rw [written_stage body hstage] at hexec
        obtain ⟨hload, hstatus, hdone, -, -, hevent, hregs⟩ := imgLoadEnd_ends none (stagedMerged body s)
        exact ⟨_, hexec, (imgLoadEnd_chg ..).same .staged (by decide), hload, hstatus, hdone, hevent, hregs,
          (stageEnd_chg body s).changes⟩
      · rw [written_install body hinstall] at hexec
        obtain ⟨-, hstatus, hdone, -, -, hevent, -⟩ :=
          imgLoadEnd_ends none (firstPoint (atInstall (writeImage s.load.header body s)))
        obtain ⟨hn, hdigest, hvalid, hbanks, htier, hcopies⟩ := install_image body s s.load.header
        obtain ⟨hst, hcommitted, hhighest, hgen, hc, hload⟩ := atInstall_run (writeImage s.load.header body s)
        have hend := installEnd_load (atInstall (writeImage s.load.header body s))
        have hunlock := installEnd_debugUnlock body s
        refine ⟨imgLoadEnd none (firstPoint (atInstall (writeImage s.load.header body s))),
          atInstall (writeImage s.load.header body s), rfl, by rw [firstPoint], hexec, hn, hdigest, hvalid, (installEnd_chg _).same .img (by decide), hst, atInstall_paused _,
          hcommitted, hhighest, hgen, hc, hbanks, htier, hcopies, by rw [hend], by rw [hend, hload], hstatus, hdone, hevent,
          fun o ho => installEnd_counters _ ho, fun hnoImage => hunlock.trans (if_pos hnoImage),
          fun himage => hunlock.trans (if_neg (by simp [himage])), install_changes body s⟩
    · have hexec : exec (.loadWriteDone body pass) s = .next (writeFailed f s) := by
        rw [exec_loadWriteDone hup, loadWriteDone_open hbusy hphase hfits, writeJudged_fails (hfails ▸ hf)]
      obtain ⟨hload, hstatus, hdone, hdetail, hloc, hevent, hregs⟩ := writeFailed_ends f s
      refine ⟨_, hexec, hload, hstatus, hdone, hdetail, hloc, hevent, fun hinstall => writeFailed_lost f hinstall,
        fun hstage => ?_, hregs, writeFailed_changes f s⟩
      rw [writeFailed_stage f hstage]
      exact (imgLoadEnd_chg ..).same .bnt (by decide)
  case shut =>
    intro h o body pass x s hup
    rw [exec_loadHeaderDone hup, exec_loadKeyDone hup, exec_loadVerifyDone hup, exec_loadWriteDone hup]
    refine ⟨fun hshut => ?_, fun hshut => ?_, fun hshut => ?_, fun hshut => ?_⟩
    · rw [loadHeaderDone_shut hshut]
    · rw [loadKeyDone_shut hshut]
    · rw [loadVerifyDone_shut hshut]
    · rw [loadWriteDone_shut hshut]

end Sys2Proof.Proofs
end

section
/-!
Proofs of the family 04_speculation: how a commit-wave message reaches the module, what the conductor makes of it, and the
conductor's timeout (for O33).
-/
namespace Sys2Proof.Proofs
open Sys2Proof.Machine Sys2Proof.Laws

/-! ### The commands of a message (R128, R131) -/

/-- The commands by which a message may arrive, each with its TYPE. -/
def waveRows (port : WavePort) (m : Word64) : List (Instr × Nat) :=
  [(.readyReceive port m, 1), (.commitReceive port m, 2), (.squashReqReceive port m, 3), (.squashRelayReceive port m, 4)]

theorem exec_waveRow {c : Instr} {ty : Nat} {port : WavePort} {m : Word64} {s : State} (hup : s.up = true)
    (hrow : (c, ty) ∈ waveRows port m) : exec c s = .next (waveReceive ty port m s) := by
  simp only [waveRows, List.mem_cons, List.not_mem_nil, or_false, Prod.mk.injEq] at hrow
  rcases hrow with ⟨rfl, rfl⟩ | ⟨rfl, rfl⟩ | ⟨rfl, rfl⟩ | ⟨rfl, rfl⟩ <;> exact run_up _ hup

section
variable {ty : Nat} {port : WavePort} {p : BitVec 4} {m : Word64} {s : State}

theorem waveReceive_otherType (hne : wmType m ≠ ty) (hlo : 1 ≤ wmType m) (hhi : wmType m ≤ 4) : waveReceive ty port m s = s :=
  if_pos ⟨hne, hlo, hhi⟩

theorem waveReceive_lane (htype : wmType m = ty ∨ wmType m = 0 ∨ 4 < wmType m) :
    waveReceive ty (.lane p) m s = laneGives p.toNat (.wave [m]) (waveOnLane p m) s := if_neg (by omega)

theorem waveReceive_internal (htype : wmType m = ty ∨ wmType m = 0 ∨ 4 < wmType m) :
    waveReceive ty .internal m s = waveInside m s := if_neg (by omega)

theorem laneGives_absent {p : Nat} {x : LanePart} {f : State → State} (h : laneHas s p x = false) : laneGives p x f s = s :=
  if_neg (by simp [h])

theorem laneGives_brought {p : Nat} {x : LanePart} {f : State → State} (h : laneHas s p x = true) :
    laneGives p x f s = f (laneTake p x s) := if_pos h

/-- A message that no accepted group has brought does not arrive, whatever its TYPE. -/
theorem waveReceive_absent (h : laneHas s p.toNat (.wave [m]) = false) : waveReceive ty (.lane p) m s = s := by
  by_cases htype : wmType m = ty ∨ wmType m = 0 ∨ 4 < wmType m
  · rw [waveReceive_lane htype, laneGives_absent h]
  · exact waveReceive_otherType (by omega) (by omega) (by omega)

theorem waveReceive_brought (htype : wmType m = ty ∨ wmType m = 0 ∨ 4 < wmType m) (h : laneHas s p.toNat (.wave [m]) = true) :
    waveReceive ty (.lane p) m s = waveOnLane p m (laneTake p.toNat (.wave [m]) s) := by
  rw [waveReceive_lane htype, laneGives_brought h]

/-- Inside the cycle controller a message that is not there, or is another row's, does not arrive. -/
theorem waveReceive_internal_absent
    (h : (wmType m ≠ ty ∧ 1 ≤ wmType m ∧ wmType m ≤ 4) ∨ s.wave.selfMsgs.any (fun q => q.2 == m) = false) :
    waveReceive ty .internal m s = s := by
  by_cases htype : wmType m = ty ∨ wmType m = 0 ∨ 4 < wmType m
  · have hnone := h.resolve_left (by omega)
    rw [waveReceive_internal htype, waveInside, if_neg (by simp [hnone])]
  · exact waveReceive_otherType (by omega) (by omega) (by omega)

/-- The clocks run until a message inside the cycle controller has arrived (R131). -/
theorem waveInside_arrives {t : State} (hany : s.wave.selfMsgs.any (fun q => q.2 == m) = true)
    (hclocks : clocksUntil 4 (fun u => !u.wave.selfMsgs.any (fun q => q.2 == m)) s = some t) : waveInside m s = t := by
  rw [waveInside, if_pos hany, hclocks, Option.getD_some]

end

/-! ### A message on a lane port (R130, R140, R492) -/

section
variable {p : BitVec 4} {m : Word64} {s : State}

theorem waveOnLane_lost (h : (s.img.valid && carriesDesign s p.toNat) = false) : waveOnLane p m s = s :=
  if_pos (by rw [← Bool.not_and, h]; rfl)

/-- With an image, on a port that carries design traffic, STATE and the check of the message decide. -/
theorem waveOnLane_carried (h : (s.img.valid && carriesDesign s p.toNat) = true) : waveOnLane p m s =
    if s.sch.st = .faultStop then (if wmLegal m && rightPort s p m then forward m s else s)
    else if wmLegal m && rightPort s p m then applyWave m (forward m s) else protocolError s :=
  if_neg (by rw [← Bool.not_and, h]; decide)

theorem waveOnLane_applied (h : (s.img.valid && carriesDesign s p.toNat) = true) (hst : s.sch.st ≠ .faultStop)
    (hlegal : (wmLegal m && rightPort s p m) = true) : waveOnLane p m s = applyWave m (forward m s) := by
  rw [waveOnLane_carried h, if_neg hst, if_pos hlegal]

theorem waveOnLane_forwarded (h : (s.img.valid && carriesDesign s p.toNat) = true) (hst : s.sch.st = .faultStop)
    (hlegal : (wmLegal m && rightPort s p m) = true) : waveOnLane p m s = forward m s := by
  rw [waveOnLane_carried h, if_pos hst, if_pos hlegal]

theorem waveOnLane_dropped (h : (s.img.valid && carriesDesign s p.toNat) = true) (hst : s.sch.st = .faultStop)
    (hlegal : (wmLegal m && rightPort s p m) = false) : waveOnLane p m s = s := by
  rw [waveOnLane_carried h, if_pos hst, if_neg (by simp [hlegal])]

theorem waveOnLane_refused (h : (s.img.valid && carriesDesign s p.toNat) = true) (hst : s.sch.st ≠ .faultStop)
    (hlegal : (wmLegal m && rightPort s p m) = false) : waveOnLane p m s = protocolError s := by
  rw [waveOnLane_carried h, if_neg hst, if_neg (by simp [hlegal])]

/-- The wave ports are the wave's alone. -/
theorem rightPort_of_wave {t : State} (h : t.wave = s.wave) : rightPort t p m = rightPort s p m := by
  rw [rightPort, h, rightPort]

/-- A protocol error stops the module, and both events of it stand (R140). -/
theorem protocolError_reports (h : s.sch.st ≠ .faultStop) : (protocolError s).sch.st = .faultStop ∧
    (protocolError s).pendBit 0x094 = true ∧ (protocolError s).pendBit 0x080 = true := by
  have hst : (raise 0x094 s).sch.st ≠ .faultStop := by rwa [(raise_chg ..).same .sch (by decide)]
  refine ⟨?_, (faultStop_reportKept hst).pending _ (by decide) (raise_pendBit (eventAbsent_low (by decide) _)),
    faultStop_pendBit hst⟩
  rw [protocolError, faultStop_sch hst]
  rfl

end

/-! ### The conductor (R142, R143, R145) -/

section
variable {m : Word64} {s : State}

theorem forward_conductor (hcond : isConductor s = true) (hup : goesUp m = true) : forward m s = s := by
  rw [forward, if_pos hup, if_pos hcond]

theorem applyWave_ready (hcond : isConductor s = true) (htype : wmType m = 1) : applyWave m s = condReady m s := by
  rw [applyWave, if_pos htype, if_pos hcond]

theorem applyWave_squash (hcond : isConductor s = true) (htype : wmType m = 3) : applyWave m s = condSquash m s := by
  rw [applyWave, if_neg (by simp [htype]), if_pos htype, if_pos hcond]

/-- The READY is of the present generation, for one of the three cycles after the conductor's c. -/
def readyInWindow (m : Word64) (s : State) : Prop :=
  wmGen m = s.wave.condGen ∧ 1 ≤ (wmCycle m s.wave.c - s.wave.c).toNat ∧ (wmCycle m s.wave.c - s.wave.c).toNat ≤ 3

theorem condReady_recorded (h : readyInWindow m s) (hnew : s.wave.readys.contains (wmCycle m s.wave.c, wmOrigin m) = false) :
    condReady m s = { s with wave := { s.wave with
      readys := s.wave.readys ++ [(wmCycle m s.wave.c, wmOrigin m)]
      readyNow := (s.clock, if s.wave.readyNow.1 = s.clock then s.wave.readyNow.2 + 1 else 1) } } :=
  (if_pos h).trans (if_neg (ne_true_of_eq_false hnew))

theorem condReady_repeated (h : readyInWindow m s) (hheld : s.wave.readys.contains (wmCycle m s.wave.c, wmOrigin m) = true) :
    condReady m s = s := (if_pos h).trans (if_pos hheld)

theorem condReady_discarded (h : ¬ readyInWindow m s) : condReady m s = spcAdd 14 1 s := if_neg h

/-- READYs accepted in the clock of a squash come behind it: they count as discarded (R145). -/
def readysCounted (s : State) : State := if s.wave.readyNow.1 = s.clock then spcAdd 14 s.wave.readyNow.2 s else s

/-- The relay that answers a SQUASH_REQ (R143). -/
def relayOf (m : Word64) (s : State) : Word64 :=
  waveMsg 4 (wmCause m) (wmOrigin m) (s.wave.condGen + 1)
    (if cycLt s.wave.c (wmCycle m s.wave.c) then wmCycle m s.wave.c else s.wave.c + 1)

/-- The conductor enters a new generation, for which no READY has come. -/
def nextGeneration (s : State) : State :=
  { s with wave := { s.wave with condGen := s.wave.condGen + 1, readys := [], readyNow := (0, 0) } }

theorem nextGeneration_chg (s : State) : Chg 2048 s (nextGeneration s) := .upd (.refl _ _)

theorem condSquash_eq (m : Word64) (s : State) : condSquash m s =
    waveDown (relayOf m (readysCounted s)) (waveSelf (relayOf m (readysCounted s)) (nextGeneration (readysCounted s))) := rfl

theorem readysCounted_chg (s : State) : Chg 146 s (readysCounted s) := .ite (spcAdd_chg ..) (.refl _ _)

theorem waveDown_wave (r : Word64) (s : State) : (waveDown r s).wave = s.wave := (waveDown_chg ..).same .wave (by decide)

theorem condSquash_wave (m : Word64) (s : State) : (condSquash m s).wave = { s.wave with
    condGen := s.wave.condGen + 1, readys := [], readyNow := (0, 0)
    selfMsgs := s.wave.selfMsgs ++ [(s.clock, relayOf m s)] } := by
  have hwave : (readysCounted s).wave = s.wave := (readysCounted_chg s).same .wave (by decide)
  have hclock : (readysCounted s).clock = s.clock := (readysCounted_chg s).same .clock (by decide)
  have hrelay : relayOf m (readysCounted s) = relayOf m s := by rw [relayOf, hwave, relayOf]
  rw [condSquash_eq, waveDown_wave, hrelay, waveSelf, nextGeneration]
  simp only [hwave, hclock]

/-- Beside what it counts a squash changes the wave and what leaves on the lanes. -/
theorem condSquash_frame (m : Word64) (s : State) : Changes [.out, .wave, .lnk] (readysCounted s) (condSquash m s) := by
  have hframe : Chg 133136 (readysCounted s) (condSquash m s) :=
    .after (waveDown_chg ..) (.after (waveSelf_chg ..) (.after (nextGeneration_chg _) (.refl _ _)))
  exact hframe.changes

/-- The COMMIT that the conductor issues next (R142). -/
def commitOf (s : State) : Word64 := waveMsg 2 0 s.wave.module s.wave.condGen (s.wave.c + 1)

/-- The conductor has committed the next cycle, whose READYs are spent. -/
def nextCommitted (s : State) : State :=
  { s with wave := { s.wave with c := s.wave.c + 1, readys := s.wave.readys.filter (fun r => r.1 != s.wave.c + 1) } }

theorem condIssue_issues (h : (s.img.valid && isConductor s && s.sch.st != .faultStop && condComplete s) = true) :
    condIssue s = waveDown (commitOf s) (waveSelf (commitOf s) (nextCommitted s)) := if_pos h

theorem condIssue_waits (h : (s.img.valid && isConductor s && s.sch.st != .faultStop && condComplete s) = false) :
    condIssue s = s := if_neg (by simp [h])

end

/-! ### The conductor's timeout (R144) -/

section
variable {s : State}

theorem condComplete_false_iff (s : State) : condComplete s = false ↔ ∃ j, j < 64 ∧ s.wave.members.getLsbD j = true ∧
    s.wave.readys.contains (s.wave.c + 1, BitVec.ofNat 6 j) = false := by
  simp only [condComplete, List.all_eq_false, List.mem_range, Bool.or_eq_true, Bool.not_eq_true', not_or, Bool.not_eq_false,
    Bool.not_eq_true]

/-- The timeout is noted for the cycle that is awaited. -/
def timeoutNoted (s : State) : State := { s with wave := { s.wave with timedOut := some (s.wave.c + 1) } }

theorem waveTimeout_eq (s : State) : waveTimeout s =
    if s.img.valid && isConductor s && s.fld Reg.SCH_WAVE_TIMEOUT 0 16 != 0 && !condComplete s &&
      s.wave.timedOut != some (s.wave.c + 1) then raise 0x093 (timeoutNoted s) else s := by
  simp only [condComplete, List.not_all_eq_any_not, Bool.not_or, Bool.not_not]
  rfl

theorem exec_waveTimeout (hup : s.up = true) : exec .waveTimeout s = .next (waveTimeout s) := run_up _ hup

theorem waveTimeout_raised (himg : s.img.valid = true) (hcond : isConductor s = true)
    (htime : s.fld Reg.SCH_WAVE_TIMEOUT 0 16 ≠ 0) (hmissing : condComplete s = false)
    (honce : s.wave.timedOut ≠ some (s.wave.c + 1)) : waveTimeout s = raise 0x093 (timeoutNoted s) := by
  rw [waveTimeout_eq, if_pos]
  rw [himg, hcond, hmissing, bne_iff_ne.mpr htime, bne_iff_ne.mpr honce]
  rfl

theorem waveTimeout_quiet (h : s.img.valid = false ∨ isConductor s = false ∨ s.fld Reg.SCH_WAVE_TIMEOUT 0 16 = 0 ∨
    s.wave.timedOut = some (s.wave.c + 1) ∨ condComplete s = true) : waveTimeout s = s := by
  rw [waveTimeout_eq]
  refine if_neg ?_
  rcases h with h | h | h | h | h <;> simp [h]

theorem timeoutNoted_raised : (raise 0x093 (timeoutNoted s)).wave = { s.wave with timedOut := some (s.wave.c + 1) } ∧
    (raise 0x093 (timeoutNoted s)).pendBit 0x093 = true ∧ RegsBut [pendReg 0x093] s (raise 0x093 (timeoutNoted s)) ∧
    Changes [.regs, .out, .host, .wave] s (raise 0x093 (timeoutNoted s)) := by
  have hframe : Chg 2194 s (raise 0x093 (timeoutNoted s)) := .after (raise_chg ..) (.upd (.refl _ _))
  exact ⟨(raise_chg ..).same .wave (by decide), raise_pendBit (eventAbsent_low (by decide) _),
    regsBut_raise 0x093 (timeoutNoted s), hframe.changes⟩

end

end Sys2Proof.Proofs
end

section
/-!
Proofs of the family 04_speculation: COMMIT and SQUASH_RELAY at the module, and the obligation about the messages of the commit
wave (O33).
-/
namespace Sys2Proof.Proofs
open Sys2Proof.Machine Sys2Proof.Laws

/-! ### COMMIT at the module (R139, R140) -/

section
variable {m n : Word64} {s : State}

theorem applyWave_commit (htype : wmType m = 2) : applyWave m s = modCommit m s := by
  rw [applyWave, if_neg (by simp [htype]), if_neg (by simp [htype]), if_pos htype]

theorem modCommit_repeated (hle : cycLe (wmCycle m s.sch.committed) s.sch.committed = true) : modCommit m s = spcAdd 15 1 s :=
  if_pos hle

/-- The cycle whose COMMIT is the next in turn: those that wait, and one held for a late commit, come before it. -/
def commitTurn (s : State) : Word64 := s.sch.committed + BitVec.ofNat 64 (s.sch.commitQ.length + b2n s.wave.lateHeld + 1)

/-- A COMMIT for cycle `n` in its turn is judged by the state of the cycle. -/
def commitJudged (n : Word64) (s : State) : State :=
  match s.sch.cycles.find? (fun c => c.num == n) with
  | some c => if c.st = .ready then applyCommit s else protocolError s
  | none => if cycLt s.sch.hiFinished n then protocolError s else applyCommit s

theorem commitJudged_finished {c : CycRec} (hfind : s.sch.cycles.find? (fun c => c.num == n) = some c) :
    commitJudged n s = if c.st = .ready then applyCommit s else protocolError s := by
  rw [commitJudged, hfind]

theorem commitJudged_unfinished (hfind : s.sch.cycles.find? (fun c => c.num == n) = none) :
    commitJudged n s = if cycLt s.sch.hiFinished n then protocolError s else applyCommit s := by
  rw [commitJudged, hfind]

/-- A COMMIT for a cycle that has not committed is judged by its turn. -/
theorem modCommit_fresh (hle : cycLe (wmCycle m s.sch.committed) s.sch.committed = false) : modCommit m s =
    if cycLt (wmCycle m s.sch.committed) (commitTurn s) then s
    else if wmCycle m s.sch.committed ≠ commitTurn s then protocolError s
    else commitJudged (wmCycle m s.sch.committed) s :=
  (if_neg (by simp [hle])).trans rfl

theorem modCommit_queued (hle : cycLe (wmCycle m s.sch.committed) s.sch.committed = false)
    (hlt : cycLt (wmCycle m s.sch.committed) (commitTurn s) = true) : modCommit m s = s := by
  rw [modCommit_fresh hle, if_pos hlt]

theorem modCommit_outOfTurn (hle : cycLe (wmCycle m s.sch.committed) s.sch.committed = false)
    (hlt : cycLt (wmCycle m s.sch.committed) (commitTurn s) = false) (hne : wmCycle m s.sch.committed ≠ commitTurn s) :
    modCommit m s = protocolError s := by
  rw [modCommit_fresh hle, if_neg (by simp [hlt]), if_pos hne]

theorem modCommit_inTurn (hle : cycLe (wmCycle m s.sch.committed) s.sch.committed = false)
    (hlt : cycLt (wmCycle m s.sch.committed) (commitTurn s) = false) (heq : wmCycle m s.sch.committed = commitTurn s) :
    modCommit m s = commitJudged (wmCycle m s.sch.committed) s := by
  rw [modCommit_fresh hle, if_neg (by simp [hlt]), if_neg (not_not_intro heq)]

end

/-! ### The commit of a cycle (R118, R139) -/

/-- From `s` to `t` the last committed cycle and its copy, the finished cycles and the waiting COMMITs stay. -/
structure CommitKept (s t : State) : Prop where
  committed : t.sch.committed = s.sch.committed
  comCopy : t.sch.comCopy = s.sch.comCopy
  cycles : t.sch.cycles = s.sch.cycles
  commitQ : t.sch.commitQ = s.sch.commitQ

theorem CommitKept.of_sch {s t : State} (h : t.sch = s.sch) : CommitKept s t := by constructor <;> rw [h]

/-- A checkpoint that a commit calls for takes nothing from the commit. -/
theorem ckptStart_commitKept (n : Word64) (s : State) : CommitKept s (ckptStart n s) := by
  unfold ckptStart
  dsimp only
  split
  · exact .of_sch rfl
  · split
    · constructor <;> rw [ckptFail, (raise_chg ..).same .sch (by decide)] <;> rfl
    · constructor <;> rw [schSettle_sch]

section
variable (c : CycRec) (s : State)

/-- The cycle stands as the last committed one; its effects are still to be released. -/
def cycleCommitted : State :=
  { s with
    sch := { s.sch with
      committed := c.num, commitClk := stepNo s, comCopy := c.copy, cycles := s.sch.cycles.filter (fun d => d.num != c.num),
      parityCnt := s.sch.parityCnt.filter (fun p => p.1 != c.num) }
    lnk := { s.lnk with tx := s.lnk.tx.filter (fun t => t.cyc != c.num), recs := s.lnk.recs.filter (fun r => r.cyc != c.num),
                        waiting := s.lnk.waiting.filter (fun w => w.cyc != c.num) } }

/-- The release of a cycle's effects does not touch the cycle controller; only the checkpoint that follows does. -/
theorem commitCycle_released : ∃ u, u.sch = (cycleCommitted c s).sch ∧ commitCycle c s = ckptStart c.num u := by
  refine ⟨_, ?_, rfl⟩
  rw [(spcAdd_chg ..).same .sch (by decide), (spcAdd_chg ..).same .sch (by decide), (spcAdd_chg ..).same .sch (by decide),
    (dspCommit_chg ..).same .sch (by decide), (diRelease_chg ..).same .sch (by decide), (doCommit_chg ..).same .sch (by decide),
    (commitMem_chg ..).same .sch (by decide), (astCommit_chg ..).same .sch (by decide), (lksCommit_chg ..).same .sch (by decide)]
  rfl

theorem commitCycle_commits : CommitKept (cycleCommitted c s) (commitCycle c s) := by
  obtain ⟨u, hu, hcommit⟩ := commitCycle_released c s
  obtain ⟨hcommitted, hcopy, hcycles, hqueue⟩ := ckptStart_commitKept c.num u
  rw [hu] at hcommitted hcopy hcycles hqueue
  rw [hcommit]
  exact ⟨hcommitted, hcopy, hcycles, hqueue⟩

end

/-- The first of the waiting COMMITs has left the queue. -/
def commitDequeued (waiting : List Word64) (s : State) : State := { s with sch := { s.sch with commitQ := waiting } }

/-- The first waiting COMMIT commits the finished cycle in turn. -/
theorem commitQueued_commits {c : CycRec} {rest : List CycRec} {q : Word64} {waiting : List Word64} {s : State} (k : Nat)
    (hcycles : s.sch.cycles = c :: rest) (hnum : c.num = s.sch.committed + 1) (hqueue : s.sch.commitQ = q :: waiting)
    (hlate : s.wave.lateHeld = false) (hfree : commitWaits s = false) :
    commitQueued (k + 1) s = commitQueued k (commitCycle c (commitDequeued waiting s)) := by
  have htake : takeCommit (commitDequeued waiting s) = commitCycle c (commitDequeued waiting s) := by
    rw [takeCommit, show (commitDequeued waiting s).sch.cycles = c :: rest from hcycles]
    exact if_pos hnum
  rw [commitQueued, hqueue]
  simp only [hlate, hfree, Bool.or_self, Bool.false_eq_true, if_false]
  exact congrArg _ htake

/-! ### What a relay leaves as it has set it (R133, R137) -/

/-- From `s` to `t` the module's generation, the relays that it has processed and awaits, and the last committed cycle stay. -/
structure RelayKept (s t : State) : Prop where
  gen : t.wave.gen = s.wave.gen
  relays : t.wave.relays = s.wave.relays
  relaysDue : t.wave.relaysDue = s.wave.relaysDue
  committed : t.sch.committed = s.sch.committed

namespace RelayKept

theorem refl (s : State) : RelayKept s s := ⟨rfl, rfl, rfl, rfl⟩

theorem trans {s r t : State} (h : RelayKept s r) (k : RelayKept r t) : RelayKept s t :=
  ⟨k.gen.trans h.gen, k.relays.trans h.relays, k.relaysDue.trans h.relaysDue, k.committed.trans h.committed⟩

theorem of_wave {s t : State} (hwave : t.wave = s.wave) (hcommitted : t.sch.committed = s.sch.committed) : RelayKept s t :=
  ⟨by rw [hwave], by rw [hwave], by rw [hwave], hcommitted⟩

/-- What changes neither the cycle controller nor the wave keeps them. -/
theorem of_chg {m : Nat} {s t : State} (h : Chg m s t) (hsch : m.testBit 10 = false := by decide)
    (hwave : m.testBit 11 = false := by decide) : RelayKept s t :=
  of_wave (h.same .wave hwave) (by rw [h.same .sch hsch])

theorem withCycles (l : List CycRec) (s : State) : RelayKept s { s with sch := { s.sch with cycles := l } } :=
  ⟨rfl, rfl, rfl, rfl⟩

theorem withLnk (l : LnkSt) (s : State) : RelayKept s { s with lnk := l } := ⟨rfl, rfl, rfl, rfl⟩

theorem each {α : Type} {f : α → State → State} (h : ∀ a t, RelayKept t (f a t)) (l : List α) (s : State) :
    RelayKept s (forEach l f s) := by
  induction l generalizing s with
  | nil => exact refl s
  | cons a l ih => exact (h a s).trans (ih (f a s))

end RelayKept

theorem waveUp_relayKept (m : Word64) (s : State) : RelayKept s (waveUp m s) := by
  unfold waveUp
  split
  · exact ⟨rfl, rfl, rfl, rfl⟩
  · split
    · exact .of_chg (waveOut_chg ..)
    · exact .refl s

theorem readyPending_relayKept (s : State) : RelayKept s (readyPending s) := by
  unfold readyPending
  split
  · exact .refl s
  · refine .each (fun c t => ?_) _ s
    dsimp only
    split
    · exact ((RelayKept.withCycles _ t).trans (waveUp_relayKept ..)).trans (.of_chg (spcAdd_chg ..))
    · exact .refl t

theorem readyAgain_relayKept (s : State) : RelayKept s (readyAgain s) :=
  (RelayKept.withCycles _ s).trans (readyPending_relayKept _)

theorem discardCycles_relayKept (keep : Word64 → Bool) (s : State) : RelayKept s (discardCycles keep s) :=
  .of_wave ((discardCycles_chg ..).same .wave (by decide)) (by rw [discardCycles_sch])

theorem cutExec_relayKept (s : State) : RelayKept s (cutExec s) := by
  refine .of_wave ((cutExec_chg s).same .wave (by decide)) ?_
  unfold cutExec
  split <;> rfl

theorem squash_relayKept (n : Word64) (cause : Nat) (s : State) : RelayKept s (squash n cause s) := by
  have hdrop : RelayKept s (squashDropped n s) := by
    unfold squashDropped
    dsimp only
    split
    · exact (discardCycles_relayKept ..).trans (cutExec_relayKept _)
    · exact discardCycles_relayKept ..
  rw [squash_eq]
  exact hdrop.trans ⟨rfl, rfl, rfl, rfl⟩

theorem reverifyFail_relayKept (n : Word64) (s : State) : RelayKept s (reverifyFail n s) := by
  have hfinished : RelayKept s (if s.sch.cycles.any (fun c => c.num == n) then squash n 1 s else s) := by
    split
    · exact squash_relayKept ..
    · exact .refl s
  unfold reverifyFail
  split
  · split
    · exact ⟨rfl, rfl, rfl, rfl⟩
    · exact hfinished
  · exact hfinished

theorem recordStripe_relayKept (w : WaitStripe) (s : State) : RelayKept s (recordStripe w s) := by
  unfold recordStripe
  have hvalues : ∀ r : State × Bool, Chg 131072 s r.1 →
      RelayKept s (readyPending (if r.2 then reverifyFail w.cyc r.1 else r.1)) := fun r hr => by
    refine .trans ?_ (readyPending_relayKept _)
    split
    · exact (RelayKept.of_chg hr).trans (reverifyFail_relayKept ..)
    · exact .of_chg hr
  exact hvalues _ (.fold1 (.refl _ _) fun _ _ => recordValue_chg ..)

theorem treatStripe_relayKept (w : WaitStripe) (s : State) : RelayKept s (treatStripe w s) := by
  unfold treatStripe
  split
  · exact .of_chg (lnkCnt_chg ..)
  · split
    · exact .withLnk _ s
    · exact recordStripe_relayKept w s

theorem retreat_relayKept (s : State) : RelayKept s (retreat s) :=
  (RelayKept.withLnk _ s).trans (.each treatStripe_relayKept _ _)

/-- The SQUASH_REQs whose relay is still due once the relay `m` has come. -/
def relaysLeft (m : Word64) (s : State) : Nat :=
  if wmOrigin m == s.wave.module then s.wave.relaysDue - 1 else s.wave.relaysDue

/-- The module has taken the relay over; what it means for the values and READYs is still to follow. -/
def relayTaken (m : Word64) (s : State) : State :=
  { s with wave := { s.wave with
    gen := wmGen m, relaysDue := relaysLeft m s, reqFrom := if relaysLeft m s = 0 then none else s.wave.reqFrom
    relays := s.wave.relays ++ [{ cycle := wmCycle m s.sch.committed, origin := wmOrigin m, gen := wmGen m }] } }

theorem modRelay_eq (m : Word64) (s : State) : modRelay m s = readyAgain (retreat
    (markStale (wmOrigin m) (wmCycle m s.sch.committed) (spcAdd 10 1 (relayTaken m s)))) := rfl

theorem modRelay_relayKept (m : Word64) (s : State) : RelayKept (relayTaken m s) (modRelay m s) := by
  have hmarked : RelayKept (relayTaken m s)
      (markStale (wmOrigin m) (wmCycle m s.sch.committed) (spcAdd 10 1 (relayTaken m s))) :=
    (RelayKept.of_chg (spcAdd_chg ..)).trans (.withLnk _ _)
  rw [modRelay_eq]
  exact (hmarked.trans (retreat_relayKept _)).trans (readyAgain_relayKept _)

theorem applyWave_relay {m : Word64} {s : State} (htype : wmType m = 4) : applyWave m s = modRelay m s := by
  rw [applyWave, if_neg (by simp [htype]), if_neg (by simp [htype]), if_neg (by simp [htype])]

/-! ### The messages of the commit wave -/

/-- Settles O33: part by part, each command or message by the lemma about the case that it meets. -/
theorem commitWaveMessages : Obligations.CommitWaveMessages := by
  unfold Obligations.CommitWaveMessages
  refine ⟨?lane, ?inside, ?conductor, fun s => ⟨?issues, condIssue_waits⟩, ?commit, ?queued, ?relay, ?timeout⟩
  case lane =>
    intro c ty p m s u hup hrow hu
    have hexec : exec c s = .next (waveReceive ty (.lane p) m s) := exec_waveRow hup hrow
    have htaken : Chg 131072 s u := hu ▸ laneTake_chg ..
    have himg : u.img = s.img := htaken.same .img (by decide)
    have hsch : u.sch = s.sch := htaken.same .sch (by decide)
    rw [hexec, ← himg, ← hsch, ← rightPort_of_wave (htaken.same .wave (by decide))]
    refine ⟨fun hne hlo hhi => by rw [waveReceive_otherType hne hlo hhi], fun hno => by rw [waveReceive_absent hno],
      fun hhas htype => ?_⟩
    rw [waveReceive_brought htype hhas, ← hu]
    refine ⟨fun hlost => by rw [waveOnLane_lost hlost], fun hcarry hlegal => ⟨fun hst => ?_, fun hst => ?_⟩,
      fun hcarry hlegal => ⟨fun hst => ?_, fun hst => ?_⟩⟩
    · rw [waveOnLane_applied hcarry hst hlegal]
    · rw [waveOnLane_forwarded hcarry hst hlegal]
    · rw [waveOnLane_dropped hcarry hst hlegal]
    · have hframe : Chg 101093010 s (protocolError u) := .after (protocolError_chg ..) (.after htaken (.refl _ _))
      obtain ⟨hstop, herror, hfault⟩ := protocolError_reports hst
      exact ⟨_, by rw [waveOnLane_refused hcarry hst hlegal], hstop, herror, hfault, hframe.changes⟩
  case inside =>
    intro c ty m s hup hrow
    have hexec : exec c s = .next (waveReceive ty .internal m s) := exec_waveRow hup hrow
    rw [hexec]
    exact ⟨fun h => by rw [waveReceive_internal_absent h],
      fun t htype hany hclocks => by rw [waveReceive_internal htype, waveInside_arrives hany hclocks]⟩
  case conductor =>
    intro m s hcond
    refine ⟨forward_conductor hcond, ?_, ?_⟩
    · rintro n rfl htype
      rw [applyWave_ready hcond htype]
      exact ⟨fun hin => ⟨condReady_recorded hin, condReady_repeated hin⟩, condReady_discarded⟩
    · rintro u rfl htype
      have hwave := condSquash_wave m s
      refine ⟨_, rfl, ?_⟩
      rw [applyWave_squash hcond htype]
      exact ⟨by rw [hwave], by rw [hwave], by rw [hwave], by rw [hwave, relayOf], condSquash_frame m s⟩
  case issues =>
    intro h
    have hwave := waveDown_wave (commitOf s) (waveSelf (commitOf s) (nextCommitted s))
    have hframe : Chg 133136 s (waveDown (commitOf s) (waveSelf (commitOf s) (nextCommitted s))) :=
      .after (waveDown_chg ..) (.after (waveSelf_chg ..) (.upd (.refl _ _)))
    refine ⟨_, rfl, ?_⟩
    rw [condIssue_issues h]
    exact ⟨by rw [hwave]; rfl, by rw [hwave]; rfl, by rw [hwave]; rfl, hframe.changes⟩
  case commit =>
    rintro m n next s htype rfl rfl
    rw [applyWave_commit htype]
    refine ⟨modCommit_repeated, modCommit_queued, modCommit_outOfTurn, fun hle hlt heq => ?_⟩
    rw [modCommit_inTurn hle hlt heq]
    refine ⟨fun c hfind => ?_, fun hfind => ?_⟩
    · rw [commitJudged_finished hfind]
      exact ⟨fun hready => if_pos hready, fun hready => if_neg hready⟩
    · rw [commitJudged_unfinished hfind]
      exact ⟨fun hfuture => if_pos hfuture, fun hfuture => if_neg (by simp [hfuture])⟩
  case queued =>
    intro c rest q waiting k s hcycles hnum hqueue hlate hfree
    obtain ⟨hcommitted, hcopy, hleft, hwaiting⟩ := commitCycle_commits c (commitDequeued waiting s)
    have hframe : Chg 48661650 s (commitCycle c (commitDequeued waiting s)) := .after (commitCycle_chg ..) (.upd (.refl _ _))
    exact ⟨_, commitQueued_commits k hcycles hnum hqueue hlate hfree, hcommitted, hcopy, hleft, hwaiting, hframe.changes⟩
  case relay =>
    intro m s htype
    obtain ⟨hgen, hrelays, hdue, hcommitted⟩ := modRelay_relayKept m s
    refine ⟨_, rfl, ?_⟩
    rw [applyWave_relay htype]
    exact ⟨hgen, hrelays, by rw [hdue]; simp [relayTaken, relaysLeft], hcommitted, (modRelay_chg ..).changes⟩
  case timeout =>
    intro s hup
    rw [exec_waveTimeout hup]
    refine ⟨fun himg hcond htime honce hmissing => ?_, fun h => by rw [waveTimeout_quiet h]⟩
    have hraised := waveTimeout_raised himg hcond htime ((condComplete_false_iff s).mpr hmissing) honce
    exact ⟨_, by rw [hraised], timeoutNoted_raised⟩

end Sys2Proof.Proofs
end

section
/-!
Proofs of the family 05_compiler_contract: the REQUEST phase of the loader (O34).
-/
namespace Sys2Proof.Proofs
open Sys2Proof.Machine Sys2Proof.Laws

/-! ### A write of GO that is taken (R161, R165) -/

/-- OP is stored, and the phase REQUEST begins with DONE cleared. -/
def loadOpened (op : Nat) (s : State) : State :=
  { s.setFld Reg.SCH_LOAD_CTRL 1 2 op with load := { s.load with phase := .request } }.setBit Reg.SCH_LOAD_STATUS 1 false

/-- An accepted write of GO with OP `op` has begun a load. -/
def loadTaken (op : Nat) (s : State) : State := loadOpened op (markDirty Reg.SCH_LOAD_CTRL s)

section
variable (op : Nat) (s : State)

theorem loadOpened_regsBut : RegsBut [Reg.SCH_LOAD_CTRL, Reg.SCH_LOAD_STATUS] s (loadOpened op s) :=
  regsBut_trans (regsBut_mono (regsBut_setFld s Reg.SCH_LOAD_CTRL 1 2 op) (by decide))
    (regsBut_mono (regsBut_setBit { s.setFld Reg.SCH_LOAD_CTRL 1 2 op with load := { s.load with phase := .request } } _ _ _)
      (by decide))

theorem loadTaken_regsBut : RegsBut [Reg.SCH_LOAD_CTRL, Reg.SCH_LOAD_STATUS] s (loadTaken op s) :=
  regsBut_trans (regsBut_markDirty _ _ s) (loadOpened_regsBut op (markDirty Reg.SCH_LOAD_CTRL s))

theorem loadTaken_chg : Chg 16514 s (loadTaken op s) :=
  .after (State_setBit_chg ..) (.upd (.after (State_setFld_chg ..) (.after (markDirty_chg ..) (.refl _ _))))

theorem loadTaken_load : (loadTaken op s).load = { s.load with phase := .request } := by
  rw [← markDirty_same Reg.SCH_LOAD_CTRL s .load]
  rfl

theorem loadTaken_done : (loadTaken op s).bit Reg.SCH_LOAD_STATUS 1 = false := bit_setBit_same _ false (by decide)

theorem loadTaken_op : (loadTaken op s).fld Reg.SCH_LOAD_CTRL 1 2 = op % 4 := by
  have hreg : (loadTaken op s).reg Reg.SCH_LOAD_CTRL =
      ((markDirty Reg.SCH_LOAD_CTRL s).setFld Reg.SCH_LOAD_CTRL 1 2 op).reg Reg.SCH_LOAD_CTRL :=
    reg_setBit_other _ _ _ (by decide)
  rw [fld_of_reg hreg]
  exact fld_setFld_same _ _ (by decide)

theorem loadTaken_sch : (loadTaken op s).sch = s.sch := (loadTaken_chg op s).same .sch (by decide)

theorem loadTaken_pwr : (loadTaken op s).pwr = s.pwr := (loadTaken_chg op s).same .pwr (by decide)

end

/-! ### The checks of REQUEST (R161, R168, R171, R431, R442, R458) -/

section
variable {s t : State} (hregs : RegsBut [Reg.SCH_LOAD_CTRL, Reg.SCH_LOAD_STATUS] s t) (hsch : t.sch = s.sch) (hpwr : t.pwr = s.pwr)
include hregs

theorem badFile_of_regs : badFile t = badFile s := by
  have haddr : t.reg64 Reg.SCH_LOAD_ADDR = s.reg64 Reg.SCH_LOAD_ADDR := by
    rw [State.reg64, hregs _ (by decide), hregs _ (by decide), State.reg64]
  have hlen : t.reg64 (Reg.SCH_LOAD_ADDR + 8) = s.reg64 (Reg.SCH_LOAD_ADDR + 8) := by
    rw [State.reg64, hregs _ (by decide), hregs _ (by decide), State.reg64]
  rw [badFile, haddr, loadLen, hlen, badFile, loadLen]

include hsch hpwr

/-- The checks read nothing that taking the write changes. -/
theorem installRequest_of_regs (owns : Bool) : installRequest t owns = installRequest s owns := by
  rw [installRequest, badFile_of_regs hregs, bit_of_reg (hregs Reg.GBL_BOOT (by decide)), hsch, hpwr, installRequest]

theorem stageRequest_of_regs (owns : Bool) : stageRequest t owns = stageRequest s owns := by
  rw [stageRequest, badFile_of_regs hregs, hsch, hpwr, stageRequest]

end

theorem installRequest_lt (s : State) (owns : Bool) : installRequest s owns < 256 := by
  unfold installRequest
  split_ifs <;> decide

theorem stageRequest_lt (s : State) (owns : Bool) : stageRequest s owns < 256 := by
  unfold stageRequest
  split_ifs <;> decide

/-! ### A write of SCH_LOAD_CTRL (R161, R165, R171) -/

/-- A DISCARD leaves nothing staged. -/
def stagedEmptied (s : State) : State := { s with staged := {}, ast := { s.ast with staged := false } }

theorem loadCtrlWrite_running {owns : Bool} {val : Word32} {s : State} (hbusy : s.load.busy = true) (hgo : val.getLsbD 0 = true) :
    loadCtrlWrite owns val s = s := if_pos (by simp [hbusy, hgo])

section
variable {s : State} (hidle : s.load.busy = false) (owns : Bool)
include hidle

theorem loadCtrlWrite_install :
    loadCtrlWrite owns 1 s = requestEnd false (installRequest (loadOpened 0 s) owns) (loadOpened 0 s) := if_neg (by simp [hidle])

theorem loadCtrlWrite_stage :
    loadCtrlWrite owns 3 s = requestEnd true (stageRequest (loadOpened 1 s) owns) (loadOpened 1 s) := if_neg (by simp [hidle])

theorem loadCtrlWrite_discard : loadCtrlWrite owns 5 s =
    if s.pwr.mode ≠ .on ∨ s.sch.applyT.isSome = true then requestFail 9 (loadOpened 2 s)
    else imgLoadEnd none (stagedEmptied (loadOpened 2 s)) := if_neg (by simp [hidle])

end

/-! ### The commands of the loader -/

theorem markDirty_busy (off : Nat) (s : State) : (markDirty off s).load.busy = s.load.busy := by rw [markDirty_same off s .load]

section
variable {path : Path} {s : State} (hup : s.up = true)
include hup

theorem exec_loadInstall {owns : Bool} (h : accepts path Reg.SCH_LOAD_CTRL 1 s) :
    exec (.loadInstall path owns) s = .next (loadCtrlWrite owns 1 (markDirty Reg.SCH_LOAD_CTRL s)) :=
  (run_up _ hup).trans (congrArg _ (regAccess_accepted _ h))

theorem exec_loadStage {owns : Bool} (h : accepts path Reg.SCH_LOAD_CTRL 3 s) :
    exec (.loadStage path owns) s = .next (loadCtrlWrite owns 3 (markDirty Reg.SCH_LOAD_CTRL s)) :=
  (run_up _ hup).trans (congrArg _ (regAccess_accepted _ h))

theorem exec_loadDiscard (h : accepts path Reg.SCH_LOAD_CTRL 5 s) :
    exec (.loadDiscard path) s = .next (loadCtrlWrite true 5 (markDirty Reg.SCH_LOAD_CTRL s)) :=
  (run_up _ hup).trans (congrArg _ (regAccess_accepted _ h))

variable (hidle : s.load.busy = false)
include hidle

theorem exec_loadInstall_judged {owns : Bool} (h : accepts path Reg.SCH_LOAD_CTRL 1 s) :
    exec (.loadInstall path owns) s = .next (requestEnd false (installRequest s owns) (loadTaken 0 s)) := by
  rw [exec_loadInstall hup h, loadCtrlWrite_install ((markDirty_busy ..).trans hidle),
    ← installRequest_of_regs (loadTaken_regsBut 0 s) (loadTaken_sch 0 s) (loadTaken_pwr 0 s), loadTaken]

theorem exec_loadStage_judged {owns : Bool} (h : accepts path Reg.SCH_LOAD_CTRL 3 s) :
    exec (.loadStage path owns) s = .next (requestEnd true (stageRequest s owns) (loadTaken 1 s)) := by
  rw [exec_loadStage hup h, loadCtrlWrite_stage ((markDirty_busy ..).trans hidle),
    ← stageRequest_of_regs (loadTaken_regsBut 1 s) (loadTaken_sch 1 s) (loadTaken_pwr 1 s), loadTaken]

theorem exec_loadDiscard_judged (h : accepts path Reg.SCH_LOAD_CTRL 5 s) : exec (.loadDiscard path) s =
    .next (if s.pwr.mode ≠ .on ∨ s.sch.applyT.isSome = true then requestFail 9 (loadTaken 2 s)
      else imgLoadEnd none (stagedEmptied (loadTaken 2 s))) := by
  rw [exec_loadDiscard hup h, loadCtrlWrite_discard ((markDirty_busy ..).trans hidle), markDirty_same _ s .pwr, markDirty_same _ s .sch,
    loadTaken]

end

/-! ### The end of the phase -/

theorem requestEnd_passes (stage : Bool) (s : State) :
    requestEnd stage 0 s = { s with load := { s.load with busy := true, stage := stage, phase := .header } } := rfl

theorem requestEnd_fails {code : Nat} (h : code ≠ 0) (stage : Bool) (s : State) : requestEnd stage code s = requestFail code s :=
  if_pos h

/-- The registers that a load which ends in REQUEST may change. -/
def requestRegs : List Nat := [Reg.SCH_LOAD_CTRL, Reg.SCH_LOAD_STATUS, Reg.SCH_LOAD_DETAIL, Reg.SCH_LOAD_WHERE, pendReg 0x0A0]

/-- From `s` to `t` a load has ended in REQUEST with the status `code`. -/
structure RequestEnded (code : Nat) (s t : State) : Prop where
  idle : t.load.busy = false
  status : t.fld Reg.SCH_LOAD_STATUS 8 8 = code
  done : t.bit Reg.SCH_LOAD_STATUS 1 = true
  detail : t.reg Reg.SCH_LOAD_DETAIL = 0
  loc : t.reg Reg.SCH_LOAD_WHERE = 0
  event : t.pendBit 0x0A0 = true
  regs : RegsBut requestRegs s t

/-- An end with an item that names no detail and no place, from any state with the registers of a load that was taken. -/
theorem imgLoadEnd_requestEnded {code op : Nat} {f : Option ImgFail} {s u : State} (hcode : code < 256)
    (hf : f.getD noFail = { noFail with status := code }) (hu : u.regs = (loadTaken op s).regs) :
    RequestEnded code s (imgLoadEnd f u) := by
  obtain ⟨hload, hstatus, hdone, hdetail, hloc, hevent, hregs⟩ := imgLoadEnd_ends f u
  rw [hf] at hstatus hdetail hloc
  exact {
    idle := by rw [hload]
    status := hstatus.trans (Nat.mod_eq_of_lt hcode)
    done := hdone
    detail := hdetail
    loc := hloc
    event := hevent
    regs := regsBut_trans (regsBut_mono (loadTaken_regsBut op s) (by decide))
      (regsBut_trans (regsBut_of_regs _ hu) (regsBut_mono hregs (by decide))) }

theorem requestFail_ends {code : Nat} (hcode : code < 256) (op : Nat) (s : State) :
    RequestEnded code s (requestFail code (loadTaken op s)) := imgLoadEnd_requestEnded (op := op) hcode rfl rfl

theorem requestFail_frame (code op : Nat) (s : State) : Chg 16530 s (requestFail code (loadTaken op s)) :=
  .after (requestFail_chg ..) (.after (loadTaken_chg ..) (.refl _ _))

theorem discard_ends (s : State) : RequestEnded 0 s (imgLoadEnd none (stagedEmptied (loadTaken 2 s))) :=
  imgLoadEnd_requestEnded (op := 2) (by decide) rfl rfl

theorem discard_frame (s : State) : Chg 4219026 s (imgLoadEnd none (stagedEmptied (loadTaken 2 s))) :=
  .after (imgLoadEnd_chg ..) (.upd (.after (loadTaken_chg ..) (.refl _ _)))

theorem discard_empties (s : State) : (imgLoadEnd none (stagedEmptied (loadTaken 2 s))).staged = {} ∧
    (imgLoadEnd none (stagedEmptied (loadTaken 2 s))).ast = { s.ast with staged := false } := by
  have hend := imgLoadEnd_chg none (stagedEmptied (loadTaken 2 s))
  have hast : (loadTaken 2 s).ast = s.ast := (loadTaken_chg 2 s).same .ast (by decide)
  rw [hend.same .staged (by decide), hend.same .ast (by decide), ← hast]
  exact ⟨rfl, rfl⟩

/-- Settles O34: an install or a stage load by the status of its checks, a DISCARD by whether it may act, and any GO while a load runs
as a write without effect. -/
theorem loadRequests : Obligations.LoadRequests := by
  unfold Obligations.LoadRequests
  refine ⟨fun c path owns stage val code s hup hidle hrequest hacc => ?request,
    fun path s hup hidle hacc => ⟨fun hon happly => ?discards, fun hwhy => ?refused⟩,
    fun path owns s hup hbusy => ⟨fun hacc => ?install, fun hacc => ?stage, fun hacc => ?discard⟩⟩
  case request =>
    have hjudged : exec c s = .next (requestEnd stage code (loadTaken (b2n stage) s)) ∧ code < 256 := by
      obtain ⟨rfl, rfl, rfl, rfl⟩ | ⟨rfl, rfl, rfl, rfl⟩ := hrequest
      · exact ⟨exec_loadInstall_judged hup hidle hacc, installRequest_lt s owns⟩
      · exact ⟨exec_loadStage_judged hup hidle hacc, stageRequest_lt s owns⟩
    obtain ⟨hexec, hlt⟩ := hjudged
    rw [hexec]
    refine ⟨fun hpass => ?passes, fun hfail => ?fails⟩
    case passes =>
      subst hpass
      have hop : (loadTaken (b2n stage) s).fld Reg.SCH_LOAD_CTRL 1 2 = b2n stage := by
        rw [loadTaken_op]
        cases stage <;> rfl
      rw [requestEnd_passes, loadTaken_load]
      exact ⟨_, rfl, rfl, loadTaken_done (b2n stage) s, hop, loadTaken_regsBut (b2n stage) s,
        (Chg.upd (m := 16514) (loadTaken_chg (b2n stage) s)).changes⟩
    case fails =>
      obtain ⟨hnone, hstatus, hdone, hdetail, hloc, hevent, hregs⟩ := requestFail_ends hlt (b2n stage) s
      rw [requestEnd_fails hfail]
      exact ⟨_, rfl, hnone, hstatus, hdone, hdetail, hloc, hevent, hregs, (requestFail_frame ..).changes⟩
  case discards =>
    obtain ⟨_, hstatus, hdone, _, _, hevent, hregs⟩ := discard_ends s
    obtain ⟨hstaged, hast⟩ := discard_empties s
    rw [exec_loadDiscard_judged hup hidle hacc, if_neg (by simp [hon, happly])]
    exact ⟨_, rfl, hstaged, hast, hstatus, hdone, hevent, hregs, (discard_frame s).changes⟩
  case refused =>
    obtain ⟨_, hstatus, hdone, _, _, hevent, hregs⟩ := requestFail_ends (code := 9) (by decide) 2 s
    rw [exec_loadDiscard_judged hup hidle hacc, if_pos hwhy]
    exact ⟨_, rfl, hstatus, hdone, hevent, hregs, (requestFail_frame ..).changes⟩
  case install => rw [exec_loadInstall hup hacc, loadCtrlWrite_running ((markDirty_busy ..).trans hbusy) (by decide)]
  case stage => rw [exec_loadStage hup hacc, loadCtrlWrite_running ((markDirty_busy ..).trans hbusy) (by decide)]
  case discard => rw [exec_loadDiscard hup hacc, loadCtrlWrite_running ((markDirty_busy ..).trans hbusy) (by decide)]

end Sys2Proof.Proofs
end

section
/-!
Proofs of the family 06_design_memory: reads, writes and atomic operations of the ports (O36).
-/
namespace Sys2Proof.Proofs
open Sys2Proof.Machine Sys2Proof.Laws

/-! ### Queue entries merged into a word (R192) -/

theorem maskWord_getLsbD (w data mask : Word64) (i : Nat) :
    (maskWord w data mask).getLsbD i = if mask.getLsbD i then data.getLsbD i else w.getLsbD i := by
  rw [maskWord, BitVec.getLsbD_or, BitVec.getLsbD_and, BitVec.getLsbD_and, BitVec.getLsbD_not]
  by_cases hi : i < 64
  · cases mask.getLsbD i <;> simp [hi]
  · rw [BitVec.getLsbD_of_ge w i (by omega), BitVec.getLsbD_of_ge data i (by omega)]
    simp

theorem maskWord_allOnes (w data : Word64) : maskWord w data (BitVec.allOnes 64) = data := by
  refine BitVec.eq_of_getLsbD_eq fun i hi => ?_
  rw [maskWord_getLsbD, if_pos (by rw [BitVec.getLsbD_allOnes, decide_eq_true hi])]

/-- A word into which entries are merged, oldest first. -/
def mergeEntries (l : List QEntry) (w : Word64) : Word64 := l.foldl (fun w e => maskWord w e.data e.mask) w

theorem mergeEntries_concat (l : List QEntry) (e : QEntry) (w : Word64) :
    mergeEntries (l ++ [e]) w = maskWord (mergeEntries l w) e.data e.mask := List.foldl_append

/-- The entries for one word. -/
def entriesFor (q key : Nat) (l : List QEntry) : List QEntry := l.filter (fun e => e.q == q && e.key == key)

theorem merged_eq (s : State) (q key : Nat) :
    merged s q key = mergeEntries (entriesFor q key s.mem.queue) (storedWord s q key) := by
  simp only [merged, mergedWith, mergeEntries, entriesFor, Bool.and_true]

/-- An entry after cycle `n` has changed the word: its own uncommitted entries take the new word and the wider mask. -/
def ownChanged (n : Word64) (data mask : Word64) (e : QEntry) : QEntry :=
  if e.cyc == n && !e.committed then { e with data := data, mask := e.mask ||| mask } else e

theorem ownChanged_own {n data mask : Word64} {e : QEntry} (hcyc : e.cyc = n) (hopen : e.committed = false) :
    ownChanged n data mask e = { e with data := data, mask := e.mask ||| mask } := if_pos (by simp [hcyc, hopen])

/-- A bit that the change leaves out and that the new word has from the merge reads as before. -/
theorem mergeEntries_changed_kept {n data mask : Word64} {i : Nat} {l : List QEntry} {w : Word64} (hmask : mask.getLsbD i = false)
    (hdata : data.getLsbD i = (mergeEntries l w).getLsbD i) :
    (mergeEntries (l.map (ownChanged n data mask)) w).getLsbD i = (mergeEntries l w).getLsbD i := by
  induction l using List.reverseRecOn with
  | nil => rfl
  | append_singleton l e ih =>
    rw [mergeEntries_concat, maskWord_getLsbD] at hdata
    rw [List.map_append, List.map_singleton, mergeEntries_concat, mergeEntries_concat, maskWord_getLsbD, maskWord_getLsbD]
    have hkeeps : (ownChanged n data mask e).mask.getLsbD i = e.mask.getLsbD i := by
      unfold ownChanged
      split <;> simp [hmask]
    rw [hkeeps]
    split
    · next he =>
      rw [if_pos he] at hdata
      unfold ownChanged
      split
      · exact hdata
      · rfl
    · next he =>
      rw [if_neg he] at hdata
      exact ih hdata

/-- Where the cycle's own entry is the last of the word, the word reads as the new one. -/
theorem mergeEntries_changed {n data mask : Word64} {l : List QEntry} {w : Word64} {e : QEntry} (hlast : l.getLast? = some e)
    (hcyc : e.cyc = n) (hopen : e.committed = false)
    (hdata : ∀ i, mask.getLsbD i = false → data.getLsbD i = (mergeEntries l w).getLsbD i) :
    mergeEntries (l.map (ownChanged n data mask)) w = data := by
  refine BitVec.eq_of_getLsbD_eq fun i _ => ?_
  cases hm : mask.getLsbD i with
  | false => rw [mergeEntries_changed_kept hm (hdata i hm), hdata i hm]
  | true =>
    obtain ⟨as, rfl⟩ := List.getLast?_eq_some_iff.mp hlast
    rw [List.map_append, List.map_singleton, mergeEntries_concat, maskWord_getLsbD, ownChanged_own hcyc hopen]
    exact if_pos (by simp [hm])

/-! ### The entries of a queue after a change -/

theorem entriesFor_append_same (l : List QEntry) (e : QEntry) :
    entriesFor e.q e.key (l ++ [e]) = entriesFor e.q e.key l ++ [e] := by
  rw [entriesFor, List.filter_append, List.filter_cons_of_pos (by simp)]
  rfl

theorem entriesFor_append_other {q key : Nat} {l : List QEntry} {e : QEntry} (h : (q, key) ≠ (e.q, e.key)) :
    entriesFor q key (l ++ [e]) = entriesFor q key l := by
  have hout : ¬ (e.q == q && e.key == key) = true := fun hp => h (by
    simp only [Bool.and_eq_true, beq_iff_eq] at hp
    rw [hp.1, hp.2])
  have hnone : entriesFor q key [e] = [] := List.filter_cons_of_neg hout
  rw [entriesFor, List.filter_append]
  exact (congrArg _ hnone).trans (List.append_nil _)

/-- What a change of one word does to an entry of the queue. -/
def entryUpdated (n : Word64) (q key : Nat) (data mask : Word64) (e : QEntry) : QEntry :=
  if e.cyc == n && e.q == q && e.key == key && !e.committed then { e with data := data, mask := e.mask ||| mask } else e

theorem updEntry_eq (n : Word64) (q key : Nat) (data mask : Word64) (l : List QEntry) :
    updEntry n q key data mask l = l.map (entryUpdated n q key data mask) := rfl

section
variable {n : Word64} {q key : Nat} {data mask : Word64}

theorem entryUpdated_here {e : QEntry} (hq : e.q = q) (hkey : e.key = key) :
    entryUpdated n q key data mask e = ownChanged n data mask e := by
  rw [entryUpdated, ownChanged, hq, hkey, beq_self_eq_true, beq_self_eq_true, Bool.and_true, Bool.and_true]

theorem entryUpdated_elsewhere {e : QEntry} (h : (e.q, e.key) ≠ (q, key)) : entryUpdated n q key data mask e = e := by
  refine if_neg fun hp => h ?_
  simp only [Bool.and_eq_true, beq_iff_eq] at hp
  rw [hp.1.1.2, hp.1.2]

/-- A change leaves every entry at its word. -/
theorem entriesFor_updEntry (q' key' : Nat) (l : List QEntry) :
    entriesFor q' key' (updEntry n q key data mask l) = (entriesFor q' key' l).map (entryUpdated n q key data mask) := by
  rw [updEntry_eq, entriesFor, List.filter_map]
  refine congrArg (List.map _) (congrArg (List.filter · l) (funext fun e => ?_))
  simp only [Function.comp_apply, entryUpdated]
  split <;> rfl

theorem mem_entriesFor {l : List QEntry} {e : QEntry} (h : e ∈ entriesFor q key l) : e.q = q ∧ e.key = key := by
  have hp := (List.mem_filter.mp h).2
  simpa only [Bool.and_eq_true, beq_iff_eq] using hp

theorem entriesFor_updEntry_same (l : List QEntry) :
    entriesFor q key (updEntry n q key data mask l) = (entriesFor q key l).map (ownChanged n data mask) := by
  rw [entriesFor_updEntry]
  refine List.map_congr_left fun e he => ?_
  obtain ⟨hq, hkey⟩ := mem_entriesFor he
  exact entryUpdated_here hq hkey

theorem entriesFor_updEntry_other {q' key' : Nat} (l : List QEntry) (h : (q', key') ≠ (q, key)) :
    entriesFor q' key' (updEntry n q key data mask l) = entriesFor q' key' l := by
  rw [entriesFor_updEntry]
  refine (List.map_congr_left fun e he => ?_).trans (List.map_id _)
  obtain ⟨hq, hkey⟩ := mem_entriesFor he
  exact entryUpdated_elsewhere (by rwa [hq, hkey])

end

/-! ### What a stored and a merged word depend on -/

theorem storedWord_congr {s t : State} (hsrc : SameHbmSource s t) {q key : Nat}
    (hbank : mget t.mem.banks 0 key = mget s.mem.banks 0 key) (hhbm : mget t.mem.hbm none key = mget s.mem.hbm none key) :
    storedWord t q key = storedWord s q key := by
  by_cases hq : q < 512
  · rw [storedWord_bank hq, storedWord_bank hq, hbank]
  · exact storedWord_hbm_congr hsrc (Nat.not_lt.mp hq) hhbm

/-- The state with another queue. -/
def withQueue (l : List QEntry) (s : State) : State := { s with mem := { s.mem with queue := l } }

theorem withQueue_chg (l : List QEntry) (s : State) : Chg 32768 s (withQueue l s) := .upd (.refl _ _)

theorem merged_withQueue (l : List QEntry) (s : State) (q key : Nat) :
    merged (withQueue l s) q key = mergeEntries (entriesFor q key l) (storedWord s q key) := by
  rw [merged_eq, storedWord_congr (s := s) (t := withQueue l s) ⟨rfl, rfl, rfl, rfl⟩ rfl rfl]
  rfl

theorem merged_addRead (n : Word64) (a : Access) (v : Word64) (k : Option Nat) (s : State) (q key : Nat) :
    merged (addRead n a v k s) q key = merged s q key := by
  rw [merged_eq, merged_eq, storedWord_congr (s := s) (t := addRead n a v k s) ⟨rfl, rfl, rfl, rfl⟩ rfl rfl]
  rfl

/-! ### Placing a change (R192, R194, R196) -/

section
variable {n : Word64} {q key : Nat} {data mask : Word64} {addr : BitVec 40} {cluster ctx : Nat} {s : State}

/-- The cycle holds an uncommitted entry for the word. -/
def holdsEntry (n : Word64) (q key : Nat) (s : State) : Bool :=
  s.mem.queue.any (fun e => e.cyc == n && e.q == q && e.key == key && !e.committed)

/-- The entry that a change of the word makes. -/
def newEntry (n : Word64) (q key : Nat) (data mask : Word64) : QEntry :=
  { cyc := n, q := q, key := key, data := data, mask := mask }

theorem placeEntry_own (h : holdsEntry n q key s = true) : placeEntry n q key data mask addr cluster ctx s =
    (withQueue (updEntry n q key data mask s.mem.queue) s, true) := if_pos h

theorem placeEntry_new (h : holdsEntry n q key s = false) (hroom : queueFull s n q = false) :
    placeEntry n q key data mask addr cluster ctx s =
      (withQueue (s.mem.queue ++ [newEntry n q key data mask]) s, true) :=
  (if_neg (Bool.eq_false_iff.mp h)).trans (if_neg (Bool.eq_false_iff.mp hroom))

theorem placeEntry_full (h : holdsEntry n q key s = false) (hfull : queueFull s n q = true) :
    placeEntry n q key data mask addr cluster ctx s = (queueOverflow n addr cluster ctx (512 ≤ q) s, false) :=
  (if_neg (Bool.eq_false_iff.mp h)).trans (if_pos hfull)

/-- A change that finds room: the word reads as the new one, and every other word as before. -/
theorem placeEntry_placed (hroom : holdsEntry n q key s = false → queueFull s n q = false)
    (hlast : holdsEntry n q key s = true → ∃ e, (entriesFor q key s.mem.queue).getLast? = some e ∧ e.cyc = n ∧
      e.committed = false)
    (hdata : ∀ i, mask.getLsbD i = false → data.getLsbD i = (merged s q key).getLsbD i) :
    ∃ l, placeEntry n q key data mask addr cluster ctx s = (withQueue l s, true) ∧ merged (withQueue l s) q key = data ∧
      ∀ q' k', (q', k') ≠ (q, key) → merged (withQueue l s) q' k' = merged s q' k' := by
  rw [merged_eq] at hdata
  cases h : holdsEntry n q key s with
  | true =>
    obtain ⟨e, hl, hcyc, hopen⟩ := hlast h
    refine ⟨_, placeEntry_own h, ?_, fun q' k' hne => ?_⟩
    · rw [merged_withQueue, entriesFor_updEntry_same, mergeEntries_changed hl hcyc hopen hdata]
    · rw [merged_withQueue, entriesFor_updEntry_other _ hne, merged_eq]
  | false =>
    refine ⟨_, placeEntry_new h (hroom h), ?_, fun q' k' hne => ?_⟩
    · have hnew : entriesFor q key (s.mem.queue ++ [newEntry n q key data mask]) =
          entriesFor q key s.mem.queue ++ [newEntry n q key data mask] :=
        entriesFor_append_same _ (newEntry n q key data mask)
      rw [merged_withQueue, hnew, mergeEntries_concat]
      refine BitVec.eq_of_getLsbD_eq fun i _ => ?_
      rw [maskWord_getLsbD]
      split
      · rfl
      · next hm => exact (hdata i (Bool.eq_false_iff.mpr hm)).symm
    · rw [merged_withQueue, entriesFor_append_other hne, merged_eq]

end

/-! ### Overflows (R196) -/

section
variable {n : Word64} {addr : BitVec 40} {cluster ctx : Nat} {hbm : Bool} {s : State}

theorem queueOverflow_fault (h : s.mem.allFour = some n) : queueOverflow n addr cluster ctx hbm s =
    markFatal (raise 0x2E1 (memCause 1 2 (addr.setWidth 64) cluster ctx hbm false s)) := if_pos h

/-- What an overflow reports. -/
def overflowNoted (addr : BitVec 40) (cluster ctx : Nat) (hbm : Bool) (s : State) : State :=
  memCnt 2 1 (raise 0x2E0 (memCause 0 1 (addr.setWidth 64) cluster ctx hbm false s))

theorem overflowNoted_chg : Chg 146 s (overflowNoted addr cluster ctx hbm s) :=
  .after (memCnt_chg ..) (.after (raise_chg ..) (.after (memCause_chg ..) (.refl _ _)))

/-- The cycle has overflowed a queue. -/
def overflowed (n : Word64) (s : State) : State := { s with mem := { s.mem with overflow := some n } }

theorem queueOverflow_first (h : s.mem.allFour ≠ some n) : queueOverflow n addr cluster ctx hbm s =
    markMismatch (overflowed n (overflowNoted addr cluster ctx hbm s)) := if_neg h

/-- An execution that finds no room leaves the queue as it was. -/
theorem queueOverflow_queue : (queueOverflow n addr cluster ctx hbm s).mem.queue = s.mem.queue := by
  by_cases h : s.mem.allFour = some n
  · rw [queueOverflow_fault h, (markFatal_chg ..).same .mem (by decide), (raise_chg ..).same .mem (by decide),
      (memCause_chg ..).same .mem (by decide)]
  · rw [queueOverflow_first h, (markMismatch_chg ..).same .mem (by decide), overflowed,
      overflowNoted_chg.same .mem (by decide)]

theorem markMismatch_marks (s : State) :
    (markMismatch s).sch.exec.map (fun e => e.mismatch) = s.sch.exec.map (fun _ => true) := by
  unfold markMismatch
  cases h : s.sch.exec with
  | none => rw [h]; rfl
  | some e => rfl

theorem satAdd_memKept {o so b k : Nat} {ev : Option Nat} (s : State) (ho : o ≠ Reg.MEM_CAUSE ∧ 0x10C0 ≤ o)
    (hso : so ≠ Reg.MEM_CAUSE ∧ 0x10C0 ≤ so) : MemKept s (satAdd o so b ev k s) := by
  have hset (v : Word32) : MemKept s (s.setReg o v) := .of_regsBut (regsBut_setReg s o v) (by simpa using ho)
  have hsat : MemKept s ((s.setReg o 0xFFFFFFFF).setBit so b true) :=
    (hset _).trans (.of_regsBut (regsBut_setBit _ so b true) (by simpa using hso))
  unfold satAdd
  dsimp only
  split
  · exact .refl s
  · split
    · exact hset _
    · split
      · exact hsat.trans (raise_memKept _ _)
      · exact hsat

theorem memCnt_memKept {k : Nat} (m : Nat) (s : State) : MemKept s (memCnt k m s) := by
  refine satAdd_memKept s ?_ ?_ <;> simp only [Reg.MEM_CNT, Reg.MEM_CNT_SAT, Reg.MEM_CAUSE, ne_eq] <;> omega

theorem overflowNoted_reports : (overflowNoted addr cluster ctx hbm s).bit Reg.MEM_CAUSE 0 = true ∧
    (overflowNoted addr cluster ctx hbm s).pendBit 0x2E0 = true := by
  have hkept := memCnt_memKept (k := 2) 1 (raise 0x2E0 (memCause 0 1 (addr.setWidth 64) cluster ctx hbm false s))
  exact ⟨hkept.bit (by decide) ((raise_memKept _ _).bit (by decide) (causeSet_bit _ _ (by decide))),
    hkept.pendBit (by decide) (raise_pendBit (by simp [eventAbsent]))⟩

end

/-! ### The three operations (R181, R192, R194) -/

section
variable {n : Word64} {a : Access} {q key : Nat} {s : State}

theorem memRead_inRange (h : memPlace s a.addr = some (q, key)) : memRead n a s = addRead n a (merged s q key) (some key) s := by
  rw [memRead, h]

theorem memRead_outOfRange (h : memPlace s a.addr = none) : memRead n a s = addNote n false a (addRead n a 0 none s) := by
  rw [memRead, h]

theorem memWrite_inRange (h : memPlace s a.addr = some (q, key)) : memWrite n a s = if a.wen = 0 then s else
    (placeEntry n q key (maskWord (merged s q key) a.wdata a.wen) a.wen a.addr a.cluster a.ctx s).1 := by
  rw [memWrite, h]

theorem memWrite_outOfRange (h : memPlace s a.addr = none) : memWrite n a s = addNote n false a s := by
  rw [memWrite, h]

/-- The word that an atomic operation leaves, of the word from before. -/
def atomicWord (a : Access) (p : Word64) : Word64 := if a.op = 2 then p + a.wdata else a.wdata

theorem memAtomic_placed {t : State} (h : memPlace s a.addr = some (q, key))
    (hplace : placeEntry n q key (atomicWord a (merged s q key)) (BitVec.allOnes 64) a.addr a.cluster a.ctx s = (t, true)) :
    memAtomic n a s = addRead n a (merged s q key) (some key) t := by
  rw [atomicWord] at hplace
  rw [memAtomic, h]
  dsimp only
  rw [hplace]
  rfl

theorem memAtomic_outOfRange (h : memPlace s a.addr = none) :
    memAtomic n a s = addNote n false a (addRead n a 0 none s) := by
  rw [memAtomic, h]

/-- The word that the newest outstanding read returns. -/
def lastRead (s : State) : Option Word64 := s.mem.reads.getLast?.map (fun r => r.value)

theorem addRead_lastRead (n : Word64) (a : Access) (v : Word64) (k : Option Nat) (s : State) :
    lastRead (addRead n a v k s) = some v := by
  exact congrArg (Option.map _) List.getLast?_concat

end

/-- Settles O36: reads return the merged word; the changes by what placing an entry leaves of every word, or by the overflow's
report; out of range by the note. -/
theorem portMemoryOperations : Obligations.PortMemoryOperations := by
  refine ⟨fun n a q key s hplace => ?read, fun n a q key own s hplace hown hroom hlast => ?change,
    fun n a q key s hplace hwen hown hfull => ?overflow, fun n a s hplace => ?outOfRange⟩
  case read =>
    rw [memRead_inRange hplace]
    exact ⟨_, rfl, addRead_lastRead .., List.length_append, rfl, (addRead_chg ..).changes⟩
  case change =>
    subst hown
    refine ⟨fun hwen => ?write, fun hwen => ?idle, fun _ => ?atomic⟩
    case write =>
      obtain ⟨l, hput, hword, hother⟩ := placeEntry_placed (data := maskWord (merged s q key) a.wdata a.wen) (mask := a.wen)
        (addr := a.addr) (cluster := a.cluster) (ctx := a.ctx) hroom hlast fun i hi => by rw [maskWord_getLsbD, hi]; rfl
      rw [memWrite_inRange hplace, if_neg hwen, hput]
      exact ⟨_, rfl, hword, hother, rfl, (withQueue_chg l s).changes⟩
    case idle => rw [memWrite_inRange hplace, if_pos hwen]
    case atomic =>
      obtain ⟨l, hput, hword, hother⟩ := placeEntry_placed (data := atomicWord a (merged s q key)) (mask := BitVec.allOnes 64)
        (addr := a.addr) (cluster := a.cluster) (ctx := a.ctx) hroom hlast fun i hi => by
          rw [BitVec.getLsbD_allOnes, decide_eq_false_iff_not] at hi
          rw [BitVec.getLsbD_of_ge _ i (by omega), BitVec.getLsbD_of_ge _ i (by omega)]
      rw [memAtomic_placed hplace hput]
      refine ⟨_, rfl, ?_, fun q' k' hne => ?_, addRead_lastRead ..,
        (Chg.after (m := 32768) (addRead_chg ..) (withQueue_chg l s)).changes⟩
      · rw [merged_addRead, hword]
        rfl
      · rw [merged_addRead, hother q' k' hne]
  case overflow =>
    rw [memWrite_inRange hplace, if_neg hwen, placeEntry_full hown hfull]
    refine ⟨_, rfl, queueOverflow_queue, fun hfirst => ?first, fun hfault => ?fault, (queueOverflow_chg ..).changes⟩
    case first =>
      rw [queueOverflow_first hfirst]
      obtain ⟨hcause, hpend⟩ := overflowNoted_reports (addr := a.addr) (cluster := a.cluster) (ctx := a.ctx) (hbm := 512 ≤ q)
        (s := s)
      have hregs := (markMismatch_chg (overflowed n (overflowNoted a.addr a.cluster a.ctx (512 ≤ q) s))).same .regs (by decide)
      refine ⟨?_, (bit_of_reg (reg_of_regs hregs _) 0).trans hcause, (bit_of_reg (reg_of_regs hregs _) _).trans hpend, ?_⟩
      · rw [(markMismatch_chg ..).same .mem (by decide)]
        rfl
      · rw [markMismatch_marks, overflowed, overflowNoted_chg.same .sch (by decide)]
    case fault =>
      rw [queueOverflow_fault hfault]
      exact ⟨rfl, (raise_memKept 0x2E1 _).bit (by decide) (causeSet_bit _ _ (by decide)),
        raise_pendBit (by simp [eventAbsent])⟩
  case outOfRange =>
    rw [memWrite_outOfRange hplace, memRead_outOfRange hplace, memAtomic_outOfRange hplace]
    exact ⟨_, rfl, rfl, rfl, rfl, addRead_lastRead .., rfl, rfl, addRead_lastRead ..⟩

end Sys2Proof.Proofs
end

section
/-!
Proofs of the family 06_design_memory: requests for a march, and the ends of its copies (O41).
-/
namespace Sys2Proof.Proofs
open Sys2Proof.Machine Sys2Proof.Laws

/-! ### The bank and the mode that a request names -/

/-- The word that starts a march of the bank: GO, MODE and BANK. -/
def marchWord (destr : Bool) (bank : BitVec 9) : Word32 := BitVec.ofNat 32 (1024 + (512 * b2n destr + bank.toNat))

/-- MEM_MARCH_CTRL names the bank and the mode. -/
def marchNamed (destr : Bool) (bank : BitVec 9) (s : State) : State :=
  s.setFld Reg.MEM_MARCH_CTRL 0 10 (512 * b2n destr + bank.toNat)

section
variable (destr : Bool) (bank : BitVec 9) (s : State)

theorem marchField_lt : 512 * b2n destr + bank.toNat < 1024 := by
  have hbank : bank.toNat < 512 := bank.isLt
  have hmode : b2n destr ≤ 1 := by cases destr <;> decide
  omega

theorem marchWord_fields : bitsOf (marchWord destr bank) 0 10 = 512 * b2n destr + bank.toNat := by
  have hlt := marchField_lt destr bank
  simp only [bitsOf, marchWord, BitVec.toNat_ofNat, Nat.shiftRight_zero]
  omega

theorem marchWord_go : (marchWord destr bank).getLsbD 10 = true := by
  have hlt := marchField_lt destr bank
  have hbit : (1024 + (512 * b2n destr + bank.toNat)).testBit 10 = true := by
    rw [Nat.testBit_eq_decide_div_mod_eq]
    exact decide_eq_true (by omega)
  rw [marchWord, BitVec.getLsbD_ofNat, hbit]
  rfl

theorem marchNamed_bank : (marchNamed destr bank s).fld Reg.MEM_MARCH_CTRL 0 9 = bank.toNat := by
  have hbank : bank.toNat < 512 := bank.isLt
  have hlow : bitsOf (withBits (s.reg Reg.MEM_MARCH_CTRL) 0 10 (512 * b2n destr + bank.toNat)) 0 9 =
      bitsOf (withBits (s.reg Reg.MEM_MARCH_CTRL) 0 10 (512 * b2n destr + bank.toNat)) 0 10 % 512 := by
    simp only [bitsOf]
    omega
  rw [State.fld, marchNamed, reg_setFld, hlow, bitsOf_withBits_same _ _ (by decide)]
  omega

theorem marchNamed_mode : (marchNamed destr bank s).bit Reg.MEM_MARCH_CTRL 9 = destr := by
  have hbank : bank.toNat < 512 := bank.isLt
  rw [bit_eq, marchNamed, reg_setFld, withBits_getLsbD _ (by decide), if_pos (by decide), Nat.testBit_eq_decide_div_mod_eq]
  cases destr <;> simp [b2n] <;> omega

theorem marchNamed_regsBut : RegsBut [Reg.MEM_MARCH_CTRL] s (marchNamed destr bank s) := regsBut_setFld s _ _ _ _

theorem marchNamed_chg : Chg 2 s (marchNamed destr bank s) := State_setFld_chg ..

end

/-! ### What a request ends with (R214) -/

/-- The status of a request for a march of the bank. -/
def marchVerdict (s : State) (owns destr : Bool) (bank : Nat) : Nat :=
  if !owns then 3
  else if destr && s.img.valid && s.bankUsed bank then 4
  else if marching s || s.pwr.mode ≠ .on || bankPower s bank ≠ 0 || (!destr && (freeSpare s bank).isNone) then 9
  else if s.bankCount ≤ bank then 12
  else 0

theorem marchStatus_named (owns destr : Bool) (bank : BitVec 9) (s : State) :
    marchStatus (marchNamed destr bank s) owns = marchVerdict s owns destr bank.toNat := by
  rw [marchStatus, marchNamed_bank, marchNamed_mode]
  rfl

/-- The march that a request starts. -/
def marchBegun (destr : Bool) (bank : Nat) (s : State) : State :=
  { s with mem := { s.mem with
      marchPhase := if destr then .march else .copy, marchBank := bank, marchSpare := (freeSpare s bank).getD 0,
      marchDestr := destr, marchSecond := false, marchSelfTest := false } }

theorem marchBegun_mem {destr : Bool} {bank : Nat} {s u : State} (h : u.mem = s.mem) : (marchBegun destr bank u).mem =
    { s.mem with
      marchPhase := if destr then .march else .copy, marchBank := bank, marchSpare := (freeSpare s bank).getD 0,
      marchDestr := destr, marchSecond := false, marchSelfTest := false } := by
  rw [marchBegun, freeSpare, h, freeSpare]

theorem marchBegun_reg (destr : Bool) (bank : Nat) (s : State) (o : Nat) : (marchBegun destr bank s).reg o = s.reg o := rfl

/-- MEM_MARCH_STATUS holds the status alone. -/
def marchJudged (destr : Bool) (bank : BitVec 9) (st : Nat) (s : State) : State :=
  (marchNamed destr bank s).setReg Reg.MEM_MARCH_STATUS (BitVec.ofNat 32 (256 * st))

section
variable {destr : Bool} {bank : BitVec 9} {st : Nat} {s : State}

theorem marchJudged_ctrl :
    (marchJudged destr bank st s).reg Reg.MEM_MARCH_CTRL = (marchNamed destr bank s).reg Reg.MEM_MARCH_CTRL :=
  reg_setReg_other _ _ (by decide)

theorem marchJudged_bank : (marchJudged destr bank st s).fld Reg.MEM_MARCH_CTRL 0 9 = bank.toNat :=
  (fld_of_reg marchJudged_ctrl 0 9).trans (marchNamed_bank ..)

theorem marchJudged_mode : (marchJudged destr bank st s).bit Reg.MEM_MARCH_CTRL 9 = destr :=
  (bit_of_reg marchJudged_ctrl 9).trans (marchNamed_mode ..)

theorem marchJudged_status : (marchJudged destr bank st s).reg Reg.MEM_MARCH_STATUS = BitVec.ofNat 32 (256 * st) :=
  reg_setReg_same ..

theorem marchJudged_regsBut : RegsBut [Reg.MEM_MARCH_CTRL, Reg.MEM_MARCH_STATUS] s (marchJudged destr bank st s) :=
  regsBut_trans (regsBut_mono (marchNamed_regsBut destr bank s) (by simp)) (regsBut_mono (regsBut_setReg _ _ _) (by simp))

theorem marchJudged_chg : Chg 2 s (marchJudged destr bank st s) := .after (State_setReg_chg ..) (marchNamed_chg ..)

theorem marchCtrlWrite_eq (owns : Bool) : marchCtrlWrite owns (marchWord destr bank) s =
    if marching s then (marchNamed destr bank s).setFld Reg.MEM_MARCH_STATUS 8 8 (marchVerdict s owns destr bank.toNat)
    else if marchVerdict s owns destr bank.toNat ≠ 0 then
      marchDone (marchJudged destr bank (marchVerdict s owns destr bank.toNat) s)
    else marchBegun destr bank.toNat (marchJudged destr bank (marchVerdict s owns destr bank.toNat) s) := by
  unfold marchCtrlWrite
  rw [marchWord_fields, marchWord_go, Bool.not_true, if_neg (by decide)]
  dsimp only
  rw [show s.setFld Reg.MEM_MARCH_CTRL 0 10 (512 * b2n destr + bank.toNat) = marchNamed destr bank s from rfl, marchStatus_named,
    show ∀ st, (marchNamed destr bank s).setReg Reg.MEM_MARCH_STATUS (BitVec.ofNat 32 (256 * st)) = marchJudged destr bank st s
      from fun _ => rfl, marchJudged_bank, marchJudged_mode]
  rfl

end

/-! ### The end of a march -/

section
variable (s : State)

theorem marchDone_mem : (marchDone s).mem = { s.mem with marchPhase := .idle, marchSecond := false, marchSelfTest := false } :=
  (raise_chg ..).same .mem (by decide)

theorem marchDone_regsBut : RegsBut [Reg.MEM_MARCH_STATUS, pendReg 0x2E8] s (marchDone s) :=
  regsBut_trans (fun o ho => reg_setBit_other _ _ _ fun he => ho (by simp [he])) (regsBut_mono (regsBut_raise 0x2E8 _) (by simp))

theorem marchDone_done : (marchDone s).bit Reg.MEM_MARCH_STATUS 1 = true :=
  (bit_of_reg (raise_reg _ (by decide)) 1).trans (bit_setBit_same _ true (by decide))

theorem marchDone_pendBit : (marchDone s).pendBit 0x2E8 = true := raise_pendBit (by simp [eventAbsent])

theorem marchDone_status : (marchDone s).fld Reg.MEM_MARCH_STATUS 8 8 = s.fld Reg.MEM_MARCH_STATUS 8 8 :=
  (fld_of_reg (raise_reg _ (by decide)) 8 8).trans (fld_setBit_other _ _ (by decide) (by decide))

end

/-! ### The commands of the march engine -/

/-- Either request is a write of the word that names its mode and its bank. -/
theorem exec_marchRequest {c : Instr} {path : Path} {bank : BitVec 9} {destr owns : Bool} {val : Word32} {s : State}
    (hup : s.up = true)
    (hc : (c = .marchPreserving path bank owns ∧ destr = false ∧ val = BitVec.ofNat 32 (1024 + bank.toNat)) ∨
      (c = .marchDestructive path bank owns ∧ destr = true ∧ val = BitVec.ofNat 32 (1536 + bank.toNat)))
    (h : accepts path Reg.MEM_MARCH_CTRL val s) :
    exec c s = .next (marchCtrlWrite owns (marchWord destr bank) (markDirty Reg.MEM_MARCH_CTRL s)) := by
  obtain ⟨rfl, rfl, rfl⟩ | ⟨rfl, rfl, rfl⟩ := hc
  · have hword : marchWord false bank = BitVec.ofNat 32 (1024 + bank.toNat) := by simp [marchWord, b2n]
    rw [hword]
    exact (run_up _ hup).trans (congrArg _ (regAccess_accepted _ h))
  · have hword : marchWord true bank = BitVec.ofNat 32 (1536 + bank.toNat) := by
      rw [marchWord, show b2n true = 1 from rfl, ← Nat.add_assoc]
    rw [hword]
    exact (run_up _ hup).trans (congrArg _ (regAccess_accepted _ h))

section
variable {destr owns : Bool} {bank : BitVec 9} {s : State}

/-- A march that starts. -/
theorem marchCtrlWrite_begins (hidle : marching s = false) (h : marchVerdict s owns destr bank.toNat = 0) :
    marchCtrlWrite owns (marchWord destr bank) s = marchBegun destr bank.toNat (marchJudged destr bank 0 s) := by
  rw [marchCtrlWrite_eq, if_neg (by simp [hidle]), h, if_neg (by decide)]

/-- A request that is refused while no march runs ends like a march. -/
theorem marchCtrlWrite_refused (hidle : marching s = false) (h : marchVerdict s owns destr bank.toNat ≠ 0) :
    marchCtrlWrite owns (marchWord destr bank) s = marchDone (marchJudged destr bank (marchVerdict s owns destr bank.toNat) s) := by
  rw [marchCtrlWrite_eq, if_neg (by simp [hidle]), if_pos h]

/-- A request during a march changes its status alone. -/
theorem marchCtrlWrite_running (hrun : marching s = true) : marchCtrlWrite owns (marchWord destr bank) s =
    (marchNamed destr bank s).setFld Reg.MEM_MARCH_STATUS 8 8 (marchVerdict s owns destr bank.toNat) := by
  rw [marchCtrlWrite_eq, if_pos hrun]

end

/-! ### The order of the checks (R212, R214, R375) -/

/-- A destructive march of a bank that the image uses. -/
def marchUsed (s : State) (destr : Bool) (bank : Nat) : Bool := destr && s.img.valid && s.bankUsed bank

/-- Beside a running march, what makes a request end with BUSY. -/
def marchWaits (s : State) (destr : Bool) (bank : Nat) : Bool :=
  s.pwr.mode ≠ .on || bankPower s bank ≠ 0 || (!destr && (freeSpare s bank).isNone)

section
variable {s : State} {owns destr : Bool} {bank : Nat}

theorem marchVerdict_eq : marchVerdict s owns destr bank = if owns = false then 3 else if marchUsed s destr bank = true then 4
    else if marching s = true ∨ marchWaits s destr bank = true then 9 else if s.bankCount ≤ bank then 12 else 0 := by
  have hwait : (marching s || s.pwr.mode ≠ .on || bankPower s bank ≠ 0 || (!destr && (freeSpare s bank).isNone)) = true ↔
      marching s = true ∨ marchWaits s destr bank = true := by
    rw [marchWaits, Bool.or_assoc, Bool.or_assoc, Bool.or_assoc, Bool.or_eq_true]
  exact if_congr (Iff.of_eq (Bool.not_eq_true' owns)) rfl (if_congr Iff.rfl rfl (if_congr hwait rfl rfl))

theorem marchVerdict_idle (hidle : marching s = false) : marchVerdict s owns destr bank =
    if owns = false then 3 else if marchUsed s destr bank = true then 4
    else if marchWaits s destr bank = true then 9 else if s.bankCount ≤ bank then 12 else 0 := by
  simp only [marchVerdict_eq, hidle, Bool.false_eq_true, false_or]

theorem marchVerdict_ok (hidle : marching s = false) (hown : owns = true) (hused : marchUsed s destr bank = false)
    (hwait : marchWaits s destr bank = false) (hbank : bank < s.bankCount) : marchVerdict s owns destr bank = 0 := by
  rw [marchVerdict_idle hidle, if_neg (by simp [hown]), if_neg (by simp [hused]), if_neg (by simp [hwait]),
    if_neg (Nat.not_le.mpr hbank)]

theorem marchVerdict_refused {st : Nat} (hidle : marching s = false)
    (h : (owns = false ∧ st = 3) ∨ (owns = true ∧ marchUsed s destr bank = true ∧ st = 4) ∨
      (owns = true ∧ marchUsed s destr bank = false ∧ marchWaits s destr bank = true ∧ st = 9) ∨
      (owns = true ∧ marchUsed s destr bank = false ∧ marchWaits s destr bank = false ∧ s.bankCount ≤ bank ∧ st = 12)) :
    marchVerdict s owns destr bank = st := by
  rw [marchVerdict_idle hidle]
  obtain ⟨hown, rfl⟩ | ⟨hown, hused, rfl⟩ | ⟨hown, hused, hwait, rfl⟩ | ⟨hown, hused, hwait, hbank, rfl⟩ := h
  · exact if_pos hown
  · rw [if_neg (by simp [hown]), if_pos hused]
  · rw [if_neg (by simp [hown]), if_neg (by simp [hused]), if_pos hwait]
  · rw [if_neg (by simp [hown]), if_neg (by simp [hused]), if_neg (by simp [hwait]), if_pos hbank]

theorem marchVerdict_running (hrun : marching s = true) : marchVerdict s owns destr bank =
    if owns = false then 3 else if marchUsed s destr bank = true then 4 else 9 := by
  simp only [marchVerdict_eq, hrun, true_or, if_true]

/-- The checks read nothing that the mark of the sweep changes. -/
theorem marchVerdict_markDirty (off : Nat) :
    marchVerdict (markDirty off s) owns destr bank = marchVerdict s owns destr bank := by
  unfold markDirty
  split <;> rfl

theorem marching_markDirty (off : Nat) : marching (markDirty off s) = marching s := by
  rw [marching, markDirty_same off s .mem, marching]

theorem marchVerdict_lt : marchVerdict s owns destr bank < 256 := by
  rw [marchVerdict_eq]
  split_ifs <;> decide

end

/-! ### The requests, from the state before the write -/

section
variable {c : Instr} {path : Path} {bank : BitVec 9} {destr owns : Bool} {val : Word32} {s : State} (hup : s.up = true)
  (hc : (c = .marchPreserving path bank owns ∧ destr = false ∧ val = BitVec.ofNat 32 (1024 + bank.toNat)) ∨
    (c = .marchDestructive path bank owns ∧ destr = true ∧ val = BitVec.ofNat 32 (1536 + bank.toNat)))
  (hacc : accepts path Reg.MEM_MARCH_CTRL val s)
include hup hc hacc

/-- A request that passes every check starts its march, with the lowest free spare. -/
theorem marchRequest_begins (hidle : marching s = false) (hok : marchVerdict s owns destr bank.toNat = 0) :
    ∃ t, exec c s = .next t ∧ t.mem = { s.mem with
        marchPhase := if destr then .march else .copy
        marchBank := bank.toNat
        marchSpare := (freeSpare s bank.toNat).getD 0
        marchDestr := destr
        marchSecond := false
        marchSelfTest := false } ∧ t.reg Reg.MEM_MARCH_STATUS = 0 ∧ t.fld Reg.MEM_MARCH_CTRL 0 9 = bank.toNat ∧
      t.bit Reg.MEM_MARCH_CTRL 9 = destr ∧ RegsBut [Reg.MEM_MARCH_CTRL, Reg.MEM_MARCH_STATUS] s t ∧
      Changes [.regs, .host, .mem] s t := by
  have hregs := regsBut_markDirty [Reg.MEM_MARCH_CTRL, Reg.MEM_MARCH_STATUS] Reg.MEM_MARCH_CTRL s
  have hchg := markDirty_chg Reg.MEM_MARCH_CTRL s
  rw [← marching_markDirty Reg.MEM_MARCH_CTRL] at hidle
  rw [← marchVerdict_markDirty Reg.MEM_MARCH_CTRL] at hok
  rw [exec_marchRequest hup hc hacc, marchCtrlWrite_begins hidle hok]
  generalize markDirty Reg.MEM_MARCH_CTRL s = m at hregs hchg
  have hkeeps := marchBegun_reg destr bank.toNat (marchJudged destr bank 0 m)
  exact ⟨_, rfl, marchBegun_mem (hchg.same .mem (by decide)), (hkeeps _).trans marchJudged_status,
    (fld_of_reg (hkeeps _) 0 9).trans marchJudged_bank, (bit_of_reg (hkeeps _) 9).trans marchJudged_mode,
    regsBut_trans (regsBut_trans hregs marchJudged_regsBut) (fun o _ => hkeeps o),
    (Chg.upd (m := 32898) (.after marchJudged_chg (.after hchg (.refl _ _)))).changes⟩

theorem marchRequest_refused (hidle : marching s = false) (hst : marchVerdict s owns destr bank.toNat ≠ 0) :
    ∃ t, exec c s = .next t ∧ t.fld Reg.MEM_MARCH_STATUS 8 8 = marchVerdict s owns destr bank.toNat ∧
      t.bit Reg.MEM_MARCH_STATUS 1 = true ∧ t.pendBit 0x2E8 = true ∧ t.mem.banks = s.mem.banks ∧ t.mem.marchPhase = .idle ∧
      RegsBut [Reg.MEM_MARCH_CTRL, Reg.MEM_MARCH_STATUS, pendReg 0x2E8] s t ∧ Changes [.regs, .out, .host, .mem] s t := by
  have hregs := regsBut_markDirty [Reg.MEM_MARCH_CTRL, Reg.MEM_MARCH_STATUS, pendReg 0x2E8] Reg.MEM_MARCH_CTRL s
  have hchg := markDirty_chg Reg.MEM_MARCH_CTRL s
  rw [← marching_markDirty Reg.MEM_MARCH_CTRL] at hidle
  rw [← marchVerdict_markDirty Reg.MEM_MARCH_CTRL] at hst ⊢
  rw [exec_marchRequest hup hc hacc, marchCtrlWrite_refused hidle hst]
  have hlt : marchVerdict (markDirty Reg.MEM_MARCH_CTRL s) owns destr bank.toNat < 256 := marchVerdict_lt
  generalize markDirty Reg.MEM_MARCH_CTRL s = m at hregs hchg hlt
  generalize marchVerdict m owns destr bank.toNat = st at hlt
  refine ⟨_, rfl, ?_, marchDone_done _, marchDone_pendBit _, ?_, ?_, ?_,
    (Chg.after (m := 32914) (marchDone_chg _) (.after marchJudged_chg (.after hchg (.refl _ _)))).changes⟩
  · rw [marchDone_status, State.fld, marchJudged_status]
    simp only [bitsOf, BitVec.toNat_ofNat, Nat.shiftRight_eq_div_pow]
    omega
  · rw [marchDone_mem]
    have hmem : (marchJudged destr bank st m).mem = s.mem := hchg.same .mem (by decide)
    exact (congrArg (·.banks) hmem :)
  · rw [marchDone_mem]
  · exact regsBut_trans hregs (regsBut_trans (regsBut_mono marchJudged_regsBut (by simp))
      (regsBut_mono (marchDone_regsBut _) (by simp)))

theorem marchRequest_running (hrun : marching s = true) : ∃ t, exec c s = .next t ∧
    t.fld Reg.MEM_MARCH_STATUS 8 8 = marchVerdict s owns destr bank.toNat ∧ t.fld Reg.MEM_MARCH_CTRL 0 9 = bank.toNat ∧
    t.bit Reg.MEM_MARCH_CTRL 9 = destr ∧ RegsBut [Reg.MEM_MARCH_CTRL, Reg.MEM_MARCH_STATUS] s t ∧
    Changes [.regs, .host] s t := by
  have hregs := regsBut_markDirty [Reg.MEM_MARCH_CTRL, Reg.MEM_MARCH_STATUS] Reg.MEM_MARCH_CTRL s
  have hchg := markDirty_chg Reg.MEM_MARCH_CTRL s
  rw [← marching_markDirty Reg.MEM_MARCH_CTRL] at hrun
  rw [← marchVerdict_markDirty Reg.MEM_MARCH_CTRL, exec_marchRequest hup hc hacc, marchCtrlWrite_running hrun]
  generalize markDirty Reg.MEM_MARCH_CTRL s = m at hregs hchg
  have hctrl := reg_setFld_other (marchNamed destr bank m) (o := Reg.MEM_MARCH_STATUS) 8 8
    (marchVerdict m owns destr bank.toNat) (show Reg.MEM_MARCH_CTRL ≠ Reg.MEM_MARCH_STATUS by decide)
  have hnamed := marchNamed_regsBut destr bank m
  have hstatus := regsBut_setFld (marchNamed destr bank m) Reg.MEM_MARCH_STATUS 8 8 (marchVerdict m owns destr bank.toNat)
  refine ⟨_, rfl, ?_, (fld_of_reg hctrl 0 9).trans (marchNamed_bank ..), (bit_of_reg hctrl 9).trans (marchNamed_mode ..), ?_,
    (Chg.after (m := 130) (State_setFld_chg ..) (.after (marchNamed_chg ..) (.after hchg (.refl _ _)))).changes⟩
  · exact (fld_setFld_same _ _ (by decide)).trans (Nat.mod_eq_of_lt marchVerdict_lt)
  · exact regsBut_trans hregs (regsBut_trans (regsBut_mono hnamed (by simp)) (regsBut_mono hstatus (by simp)))

end

/-! ### The ends of the copies (R185, R213) -/

theorem exec_marchCopyDone {s : State} (hup : s.up = true) : exec .marchCopyDone s = .next (marchCopyDone s) := run_up _ hup

theorem exec_marchRestoreDone {s : State} (hup : s.up = true) : exec .marchRestoreDone s = .next (marchRestoreDone s) :=
  run_up _ hup

/-- The parity errors of the march's bank are gone where it has been repaired. -/
def marchMended (s : State) : State :=
  if s.pwr.repaired.contains s.mem.marchBank && !s.pwr.failed.contains s.mem.marchBank then bankMended s.mem.marchBank s else s

theorem marchMended_chg (s : State) : Chg 32768 s (marchMended s) := .ite (.after (bankMended_chg ..) (.refl _ _)) (.refl _ _)

/-- The spare of the march serves the bank no more. -/
def spareFreed (bank : Nat) (s : State) : State :=
  { s with mem := { s.mem with spares := s.mem.spares.erase (s.mem.marchSpare, bank) } }

theorem spareFreed_chg (bank : Nat) (s : State) : Chg 32768 s (spareFreed bank s) := .upd (.refl _ _)

/-- What the end of the restore leaves of the spares and the parity errors. -/
def marchRestored (s : State) : State := spareFreed s.mem.marchBank (marchMended s)

theorem marchRestored_chg (s : State) : Chg 32768 s (marchRestored s) := .after (spareFreed_chg ..) (marchMended_chg s)

theorem marchRestoreDone_restores {s : State} (hphase : s.mem.marchPhase = .restore) (hself : s.mem.marchSelfTest = false) :
    marchRestoreDone s = marchDone (marchRestored s) := if_pos ⟨hphase, by rw [hself]; rfl⟩

theorem marchRestoreDone_other {s : State} (h : s.mem.marchPhase ≠ .restore ∨ s.mem.marchSelfTest = true) :
    marchRestoreDone s = s := by
  refine if_neg ?_
  rintro ⟨hphase, hself⟩
  rcases h with h | h
  · exact h hphase
  · rw [h] at hself
    cases hself

theorem marchMended_mem (s : State) : (marchMended s).mem = { s.mem with
    bankBad := if s.pwr.repaired.contains s.mem.marchBank && !s.pwr.failed.contains s.mem.marchBank
      then s.mem.bankBad.filter (fun p => p.1 / 16384 ≠ s.mem.marchBank) else s.mem.bankBad } := by
  unfold marchMended
  split <;> rfl

/-- Settles O41: a request by the first check that ends it; the copies by what their ends leave. -/
theorem marchRequests : Obligations.MarchRequests := by
  refine ⟨fun path bank s hup hidle hmode hbank hon => ⟨fun k hspare hacc => ?preserving, fun hfree hacc => ?destructive⟩,
    fun c path bank destr val owns s hup hc hacc => ⟨?idle, fun hrun => ?running⟩,
    fun s hup => ⟨fun hcopy => ?copied, fun hcopy => ?noCopy, fun hrestore hself => ?restored, fun h => ?noRestore⟩⟩
  case preserving =>
    have hwait : marchWaits s false bank.toNat = false := by simp [marchWaits, hmode, hon, hspare]
    obtain ⟨t, ht, hmem, -⟩ := marchRequest_begins hup (.inl ⟨rfl, rfl, rfl⟩) hacc hidle
      (marchVerdict_ok hidle rfl rfl hwait hbank)
    rw [hspare] at hmem
    exact ⟨t, ht, hmem⟩
  case destructive =>
    have hwait : marchWaits s true bank.toNat = false := by simp [marchWaits, hmode, hon]
    obtain ⟨t, ht, hmem, -⟩ := marchRequest_begins hup (.inr ⟨rfl, rfl, rfl⟩) hacc hidle
      (marchVerdict_ok hidle rfl (by rw [marchUsed, Bool.true_and, hfree]) hwait hbank)
    exact ⟨t, ht, hmem⟩
  case idle =>
    rintro used wait rfl rfl
    refine ⟨fun hidle hown hused hwait hbank => ?_, fun st hidle hst => ?_⟩
    · exact marchRequest_begins hup hc hacc hidle (marchVerdict_ok hidle hown hused hwait hbank)
    · have hout := marchVerdict_refused hidle hst
      have hne : st ≠ 0 := by omega
      rw [← hout] at hne ⊢
      exact marchRequest_refused hup hc hacc hidle hne
  case running =>
    obtain ⟨t, ht, hstatus, hrest⟩ := marchRequest_running hup hc hacc hrun
    exact ⟨t, ht, hstatus.trans (marchVerdict_running hrun), hrest⟩
  case copied => rw [exec_marchCopyDone hup, marchCopyDone, if_pos hcopy]
  case noCopy => rw [exec_marchCopyDone hup, marchCopyDone, if_neg hcopy]
  case noRestore => rw [exec_marchRestoreDone hup, marchRestoreDone_other h]
  case restored =>
    rw [exec_marchRestoreDone hup, marchRestoreDone_restores hrestore hself]
    refine ⟨_, rfl, ?_, marchDone_done _, marchDone_pendBit _, ?_,
      (Chg.after (m := 32914) (marchDone_chg _) (.after (marchRestored_chg s) (.refl _ _))).changes⟩
    · rw [marchDone_mem, marchRestored, spareFreed, marchMended_mem]
    · exact regsBut_trans (regsBut_of_regs _ ((marchRestored_chg s).same .regs (by decide))) (marchDone_regsBut _)

end Sys2Proof.Proofs
end

section
/-!
Proofs of the family 06_design_memory: the power states of the banks (O40).
-/
namespace Sys2Proof.Proofs
open Sys2Proof.Machine Sys2Proof.Laws

/-! ### The state asked for -/

theorem bankAsked_of_reg {s t : State} {b : Nat}
    (h : t.reg (Reg.MEM_BANK_PWR + 4 * (b / 16)) = s.reg (Reg.MEM_BANK_PWR + 4 * (b / 16))) : bankAsked t b = bankAsked s b := by
  rw [bankAsked, fld_of_reg h, bankAsked]

/-- The field of a bank takes what it is asked for. -/
def askBank (b v : Nat) (s : State) : State := s.setFld (Reg.MEM_BANK_PWR + 4 * (b / 16)) (2 * (b % 16)) 2 v

theorem bankAsked_askBank_same {b v : Nat} (s : State) (hv : v < 4) : bankAsked (askBank b v s) b = BitVec.ofNat 2 v := by
  rw [bankAsked, askBank, fld_setFld_same _ _ (by omega), Nat.mod_eq_of_lt (by omega)]

theorem bankAsked_askBank_other {b c : Nat} (v : Nat) (s : State) (h : c ≠ b) : bankAsked (askBank b v s) c = bankAsked s c := by
  by_cases hreg : c / 16 = b / 16
  · rw [bankAsked, askBank, hreg, fld_setFld_other _ _ (by omega) (by omega), bankAsked, hreg]
  · exact bankAsked_of_reg (reg_setReg_other s _ (by omega))

/-! ### One field of a write (R203, R204) -/

/-- A write may not take the bank out of On: the image uses it (R204). -/
def bankHeld (b v : Nat) (s : State) : Bool := s.img.valid && s.bankUsed b && v ≠ 0 && bankAsked s b = 0

section
variable {b v : Nat} {s : State}

theorem bankField_reserved : bankField b 3 s = s := if_pos rfl

theorem bankField_held (h3 : v ≠ 3) (h : bankHeld b v s = true) : bankField b v s = s.setBit Reg.MEM_PWR_STATUS 1 true :=
  (if_neg h3).trans (if_pos h)

theorem bankField_taken (h3 : v ≠ 3) (h : ¬ bankHeld b v s = true) : bankField b v s = askBank b v s :=
  (if_neg h3).trans (if_neg h)

/-- The state that a write asks for after it: the reserved code and a refusal leave what was. -/
def askedAfter (b v : Nat) (s : State) : BitVec 2 := 
  if v = 3 ∨ bankHeld b v s = true then bankAsked s b else BitVec.ofNat 2 v

theorem bankField_asked (hv : v < 4) (hb : b < 512) : bankAsked (bankField b v s) b = askedAfter b v s := by
  unfold askedAfter
  by_cases h3 : v = 3
  · rw [h3, bankField_reserved, if_pos (.inl rfl)]
  · by_cases h : bankHeld b v s = true
    · rw [bankField_held h3 h, if_pos (.inr h)]
      exact bankAsked_of_reg (reg_setBit_other _ _ _ (by simp only [Reg.MEM_BANK_PWR, Reg.MEM_PWR_STATUS]; omega))
    · rw [bankField_taken h3 h, if_neg (by tauto), bankAsked_askBank_same s hv]

theorem bankField_other {c : Nat} (hc : c < 512) (hne : c ≠ b) : bankAsked (bankField b v s) c = bankAsked s c := by
  by_cases h3 : v = 3
  · rw [h3, bankField_reserved]
  · by_cases h : bankHeld b v s = true
    · rw [bankField_held h3 h]
      exact bankAsked_of_reg (reg_setBit_other _ _ _ (by simp only [Reg.MEM_BANK_PWR, Reg.MEM_PWR_STATUS]; omega))
    · rw [bankField_taken h3 h, bankAsked_askBank_other v s hne]

/-- REFUSED is set where it was, and by a refusal. -/
theorem bankField_refused (hb : b < 512) : (bankField b v s).bit Reg.MEM_PWR_STATUS 1 = true ↔
    s.bit Reg.MEM_PWR_STATUS 1 = true ∨ (v ≠ 3 ∧ bankHeld b v s = true) := by
  by_cases h3 : v = 3
  · rw [h3, bankField_reserved]
    simp
  · by_cases h : bankHeld b v s = true
    · rw [bankField_held h3 h, bit_setBit_same _ _ (by decide)]
      simp [h3, h]
    · have hreg : (askBank b v s).reg Reg.MEM_PWR_STATUS = s.reg Reg.MEM_PWR_STATUS :=
        reg_setReg_other s _ (by simp only [Reg.MEM_BANK_PWR, Reg.MEM_PWR_STATUS]; omega)
      rw [bankField_taken h3 h, bit_of_reg hreg]
      simp [h]

theorem bankField_regsBut : RegsBut [Reg.MEM_BANK_PWR + 4 * (b / 16), Reg.MEM_PWR_STATUS] s (bankField b v s) := by
  by_cases h3 : v = 3
  · rw [h3, bankField_reserved]
    exact regsBut_refl _ _
  · by_cases h : bankHeld b v s = true
    · rw [bankField_held h3 h]
      exact regsBut_mono (regsBut_setBit _ _ _ _) (by simp)
    · rw [bankField_taken h3 h]
      exact regsBut_mono (regsBut_setFld _ _ _ _ _) (by simp)

end

/-! ### A write of MEM_BANK_PWR_k -/

/-- The fields of the listed banks of the register take what the write holds for them. -/
def bankFields (k : Nat) (val : Word32) (l : List Nat) (s : State) : State :=
  forEach l (fun j s => bankField (16 * k + j) (bitsOf val (2 * j) 2) s) s

/-- MEM_PWR_STATUS.PENDING follows the transitions that are outstanding (R205). -/
def pendingSettled (s : State) : State := { s with mem := { s.mem with pwrPending := bankMoves s } }

theorem pendingSettled_mem {s u : State} (h : u.mem = s.mem) :
    (pendingSettled u).mem = { s.mem with pwrPending := bankMoves (pendingSettled u) } := by
  rw [← h]
  rfl

theorem bankPwrWrite_eq (k : Nat) (val : Word32) (s : State) :
    bankPwrWrite k val s = pendingSettled (bankFields k val (List.range 16) s) := rfl

theorem exec_bankPowerWrite {path : Path} {k : BitVec 5} {val : Word32} {s : State} (hup : s.up = true)
    (h : accepts path (Reg.MEM_BANK_PWR + 4 * k.toNat) val s) : exec (.bankPowerWrite path k val) s =
      .next (bankPwrWrite k.toNat val (markDirty (Reg.MEM_BANK_PWR + 4 * k.toNat) s)) :=
  (run_up _ hup).trans (congrArg _ (regAccess_accepted _ h))

theorem bitsOf_two_lt (x : Word32) (lo : Nat) : bitsOf x lo 2 < 4 := Nat.mod_lt _ (by decide)

section
variable {k : Nat} {val : Word32} {l : List Nat}

theorem bankFields_cons (j : Nat) (s : State) :
    bankFields k val (j :: l) s = bankFields k val l (bankField (16 * k + j) (bitsOf val (2 * j) 2) s) := rfl

theorem bankFields_chg (s : State) : Chg 2 s (bankFields k val l s) := .each (.refl _ _) fun _ _ => bankField_chg ..

/-- A field of another bank changes neither whether a bank is held nor what is asked of it. -/
theorem bankHeld_congr {b v : Nat} {s t : State} (himg : t.img = s.img) (hasked : bankAsked t b = bankAsked s b) :
    bankHeld b v t = bankHeld b v s := by
  rw [bankHeld, himg, State.bankUsed, himg, hasked, bankHeld, State.bankUsed]

theorem askedAfter_congr {b v : Nat} {s t : State} (himg : t.img = s.img) (hasked : bankAsked t b = bankAsked s b) :
    askedAfter b v t = askedAfter b v s := by
  rw [askedAfter, bankHeld_congr himg hasked, hasked, askedAfter]

variable (hk : k < 32)
include hk

theorem bankFields_asked {j : Nat} (hj : j < 16) (s : State) (hl : ∀ i ∈ l, i < 16) (hnodup : l.Nodup) :
    bankAsked (bankFields k val l s) (16 * k + j) =
      if j ∈ l then askedAfter (16 * k + j) (bitsOf val (2 * j) 2) s else bankAsked s (16 * k + j) := by
  induction l generalizing s with
  | nil => rfl
  | cons i l ih =>
    obtain ⟨hi, hrest⟩ := List.forall_mem_cons.mp hl
    obtain ⟨hnot, hnodup⟩ := List.nodup_cons.mp hnodup
    rw [bankFields_cons, ih _ hrest hnodup]
    by_cases hij : j = i
    · subst hij
      rw [if_neg hnot, if_pos List.mem_cons_self, bankField_asked (bitsOf_two_lt _ _) (by omega)]
    · have hsame := bankField_other (v := bitsOf val (2 * i) 2) (s := s) (b := 16 * k + i) (c := 16 * k + j) (by omega) (by omega)
      have himg := (bankField_chg (16 * k + i) (bitsOf val (2 * i) 2) s).same .img (by decide)
      rw [askedAfter_congr himg hsame, hsame]
      simp only [List.mem_cons, hij, false_or]

theorem bankFields_refused (s : State) (hl : ∀ i ∈ l, i < 16) (hnodup : l.Nodup)
    (h : s.bit Reg.MEM_PWR_STATUS 1 = true ∨
      ∃ j ∈ l, bitsOf val (2 * j) 2 ≠ 3 ∧ bankHeld (16 * k + j) (bitsOf val (2 * j) 2) s = true) :
    (bankFields k val l s).bit Reg.MEM_PWR_STATUS 1 = true := by
  induction l generalizing s with
  | nil => exact h.resolve_right (by simp)
  | cons i l ih =>
    obtain ⟨hi, hrest⟩ := List.forall_mem_cons.mp hl
    obtain ⟨hnot, hnodup⟩ := List.nodup_cons.mp hnodup
    rw [bankFields_cons]
    refine ih _ hrest hnodup ?_
    rw [bankField_refused (by omega)]
    obtain hset | ⟨j, hj, h3, hheld⟩ := h
    · exact .inl (.inl hset)
    · obtain rfl | hj := List.mem_cons.mp hj
      · exact .inl (.inr ⟨h3, hheld⟩)
      · have hne : j ≠ i := fun e => hnot (e ▸ hj)
        have hasked := bankField_other (v := bitsOf val (2 * i) 2) (s := s) (b := 16 * k + i) (c := 16 * k + j)
          (by have := hrest j hj; omega) (by omega)
        refine .inr ⟨j, hj, h3, ?_⟩
        rwa [bankHeld_congr ((bankField_chg ..).same .img (by decide)) hasked]

omit hk in
theorem bankFields_regsBut (s : State) (hl : ∀ i ∈ l, i < 16) :
    RegsBut [Reg.MEM_BANK_PWR + 4 * k, Reg.MEM_PWR_STATUS] s (bankFields k val l s) := by
  induction l generalizing s with
  | nil => exact regsBut_refl _ _
  | cons i l ih =>
    obtain ⟨hi, hrest⟩ := List.forall_mem_cons.mp hl
    have hfield := bankField_regsBut (b := 16 * k + i) (v := bitsOf val (2 * i) 2) (s := s)
    rw [show (16 * k + i) / 16 = k by omega] at hfield
    exact regsBut_trans hfield (ih _ hrest)

end

/-! ### Transitions that complete (R203, R205) -/

/-- The banks with an outstanding transition. -/
def movingBanks (s : State) : List Nat := (List.range s.bankCount).filter (fun k => bankAsked s k != mget s.mem.bankPwr 0 k)

theorem mem_movingBanks {s : State} {k : Nat} :
    k ∈ movingBanks s ↔ k < s.bankCount ∧ bankAsked s k ≠ mget s.mem.bankPwr 0 k := by
  simp [movingBanks]

theorem movingBanks_nodup (s : State) : (movingBanks s).Nodup := List.nodup_range.filter _

theorem bankMoves_eq (s : State) : bankMoves s = !(movingBanks s).isEmpty := by
  rw [bankMoves, movingBanks, Bool.eq_iff_iff]
  simp [List.filter_eq_nil_iff]

/-- A bank that is to leave On is not quiet. -/
def moveBlocked (s : State) : Bool := (movingBanks s).any (fun k => mget s.mem.bankPwr 0 k == 0 && !bankQuiet s k)

theorem moveBlocked_iff {s : State} : moveBlocked s = true ↔
    ∃ k, k < s.bankCount ∧ bankAsked s k ≠ mget s.mem.bankPwr 0 k ∧ mget s.mem.bankPwr 0 k = 0 ∧ bankQuiet s k = false := by
  simp [moveBlocked, mem_movingBanks, and_assoc]

/-- Every outstanding transition has completed. -/
def banksMoved (l : List Nat) (s : State) : State := forEach l bankReach s

/-- No transition is pending. -/
def powerSettled (s : State) : State := { s with mem := { s.mem with pwrPending := false } }

theorem bankPowerDone_stays {s : State} (h : bankMoves s = false ∨ s.pwr.mode ≠ .on ∨ moveBlocked s = true) :
    bankPowerDone s = s := by
  refine if_pos ?_
  rw [bankMoves_eq, Bool.not_eq_false'] at h
  rw [Bool.or_eq_true, Bool.or_eq_true, decide_eq_true_eq, or_assoc]
  exact h

theorem bankPowerDone_moves {s : State} (hmoves : bankMoves s = true) (hmode : s.pwr.mode = .on)
    (hquiet : moveBlocked s = false) : bankPowerDone s = raise 0x2EA (powerSettled (banksMoved (movingBanks s) s)) := by
  refine if_neg ?_
  rw [bankMoves_eq, Bool.not_eq_true'] at hmoves
  simp only [Bool.or_eq_true, decide_eq_true_eq, not_or]
  exact ⟨⟨Bool.eq_false_iff.mp hmoves, by simp [hmode]⟩, Bool.eq_false_iff.mp hquiet⟩

section
variable {j : Nat} {s : State}

/-- A transition from or to Off loses the bank's words. -/
def passesOff (s : State) (k : Nat) : Bool := decide (mget s.mem.bankPwr 0 k = 2 ∨ bankAsked s k = 2)

theorem bankReach_asked (k : Nat) : bankAsked (bankReach j s) k = bankAsked s k :=
  bankAsked_of_reg (reg_of_regs ((bankReach_chg j s).same .regs (by decide)) _)

theorem bankReach_pwr (k : Nat) :
    mget (bankReach j s).mem.bankPwr 0 k = if k = j then bankAsked s j else mget s.mem.bankPwr 0 k := by
  have hclear : ∀ t : State, t = (if mget s.mem.bankPwr 0 j = 2 ∨ bankAsked s j = 2 then clearBank j s else s) →
      t.mem.bankPwr = s.mem.bankPwr := by
    rintro t rfl
    split <;> rfl
  have hset : (bankReach j s).mem.bankPwr = mset s.mem.bankPwr 0 j (bankAsked s j) := by
    rw [← hclear _ rfl]
    rfl
  rw [hset]
  split
  · next h => rw [h, mget_mset_same]
  · next h => exact mget_mset_other _ _ _ _ h

theorem bankReach_banks (key : Nat) :
    mget (bankReach j s).mem.banks 0 key = if key / 8192 = j ∧ passesOff s j = true then 0 else mget s.mem.banks 0 key := by
  simp only [passesOff, decide_eq_true_eq]
  by_cases h : mget s.mem.bankPwr 0 j = 2 ∨ bankAsked s j = 2
  · have hclear : (bankReach j s).mem.banks = s.mem.banks.filter (fun p => decide (p.1 / 8192 ≠ j)) := by
      rw [bankReach, if_pos h]
      rfl
    rw [hclear, mget_filter_key s.mem.banks 0 (fun k => decide (k / 8192 ≠ j))]
    simp only [h, and_true, ne_eq, decide_not, Bool.not_eq_true', decide_eq_false_iff_not, ite_not]
  · have hsame : (bankReach j s).mem.banks = s.mem.banks := by
      rw [bankReach, if_neg h]
    rw [hsame, if_neg (by tauto)]

end

theorem banksMoved_cons (j : Nat) (l : List Nat) (s : State) : banksMoved (j :: l) s = banksMoved l (bankReach j s) := rfl

theorem banksMoved_pwr (l : List Nat) (s : State) (k : Nat) :
    mget (banksMoved l s).mem.bankPwr 0 k = if k ∈ l then bankAsked s k else mget s.mem.bankPwr 0 k := by
  induction l generalizing s with
  | nil => rfl
  | cons j l ih =>
    rw [banksMoved_cons, ih, bankReach_asked, bankReach_pwr]
    by_cases hkj : k = j
    · subst hkj
      simp
    · simp only [List.mem_cons, hkj, false_or, if_false]

theorem banksMoved_banks {l : List Nat} (s : State) (hnodup : l.Nodup) (key : Nat) : mget (banksMoved l s).mem.banks 0 key =
    if key / 8192 ∈ l ∧ passesOff s (key / 8192) = true then 0 else mget s.mem.banks 0 key := by
  induction l generalizing s with
  | nil => simp [banksMoved, forEach]
  | cons j l ih =>
    obtain ⟨hnot, hnodup⟩ := List.nodup_cons.mp hnodup
    rw [banksMoved_cons, ih _ hnodup, bankReach_banks]
    by_cases hj : key / 8192 = j
    · simp only [hj, hnot, false_and, if_false, true_and, List.mem_cons, true_or]
    · have hsame : passesOff (bankReach j s) (key / 8192) = passesOff s (key / 8192) := by
        rw [passesOff, bankReach_asked, bankReach_pwr, if_neg hj, passesOff]
      simp only [hsame, List.mem_cons, hj, false_or, false_and, if_false]

theorem banksMoved_chg (l : List Nat) (s : State) : Chg 32768 s (banksMoved l s) := .each (.refl _ _) fun _ _ => bankReach_chg ..

theorem exec_bankPowerDone {s : State} (hup : s.up = true) : exec .bankPowerDone s = .next (bankPowerDone s) := run_up _ hup

/-- Settles O40: a write field by field, a completion bank by bank. -/
theorem bankPower : Obligations.BankPower := by
  refine ⟨fun path k val s hup hacc => ?write, fun s hup hmoves hmode hquiet => ?done, fun s hup hstays => ?stays⟩
  case write =>
    have hk : k.toNat < 32 := k.isLt
    have hmark := markDirty_chg (Reg.MEM_BANK_PWR + 4 * k.toNat) s
    have hregs := regsBut_markDirty [] (Reg.MEM_BANK_PWR + 4 * k.toNat) s
    rw [exec_bankPowerWrite hup hacc, bankPwrWrite_eq]
    generalize markDirty (Reg.MEM_BANK_PWR + 4 * k.toNat) s = m at hmark hregs ⊢
    have himg : m.img = s.img := hmark.same .img (by decide)
    have hsame (b : Nat) : bankAsked m b = bankAsked s b := bankAsked_of_reg (hregs _ (by simp))
    have hfields : ∀ i ∈ List.range 16, i < 16 := fun i => List.mem_range.mp
    have hchg := bankFields_chg (k := k.toNat) (val := val) (l := List.range 16) m
    refine ⟨_, rfl, fun j hj => ?_, fun j hj h3 hvalid hused hv hon => ?_, ?_, ?_,
      (Chg.upd (m := 32898) (.after hchg (.after hmark (.refl _ _)))).changes⟩
    · have hasked := bankFields_asked (val := val) hk hj m hfields List.nodup_range
      rw [if_pos (List.mem_range.mpr hj), askedAfter_congr himg (hsame _)] at hasked
      refine hasked.trans (if_congr ?_ rfl rfl)
      simp only [bankHeld, Bool.and_eq_true, decide_eq_true_eq, and_assoc]
    · refine bankFields_refused hk m hfields List.nodup_range (.inr ⟨j, List.mem_range.mpr hj, h3, ?_⟩)
      rw [bankHeld_congr himg (hsame _)]
      simp [bankHeld, hvalid, hused, hv, hon]
    · exact pendingSettled_mem ((hchg.same .mem (by decide)).trans (hmark.same .mem (by decide)))
    · exact regsBut_trans (regsBut_mono hregs (by simp)) (bankFields_regsBut m hfields)
  case stays =>
    rw [exec_bankPowerDone hup, bankPowerDone_stays (hstays.imp_right (Or.imp_right moveBlocked_iff.mpr))]
  case done =>
    have hblocked : moveBlocked s = false := by
      rw [← Bool.not_eq_true, moveBlocked_iff]
      rintro ⟨k, hk, hask, hon, hbusy⟩
      rw [hquiet k hk hask hon] at hbusy
      cases hbusy
    rw [exec_bankPowerDone hup, bankPowerDone_moves hmoves hmode hblocked]
    have hmem := (raise_chg 0x2EA (powerSettled (banksMoved (movingBanks s) s))).same .mem (by decide)
    have hword := banksMoved_banks s (movingBanks_nodup s)
    have hkey (k w : Nat) (hw : w < 8192) : (8192 * k + w) / 8192 = k := by omega
    refine ⟨_, rfl, fun k hk => ?_, fun k w hk hw hask hoff => ?_, fun k w hw hkept => ?_, ?_,
      raise_pendBit (by simp [eventAbsent]), ?_, ?_⟩
    · rw [hmem]
      refine (banksMoved_pwr _ s k).trans ?_
      split
      · rfl
      · next h => exact (not_not.mp fun hne => h (mem_movingBanks.mpr ⟨hk, hne⟩)).symm
    · rw [hmem]
      refine (hword _).trans (if_pos ?_)
      rw [hkey k w hw]
      exact ⟨mem_movingBanks.mpr ⟨hk, hask⟩, decide_eq_true hoff⟩
    · rw [hmem]
      refine (hword _).trans (if_neg ?_)
      rw [hkey k w hw, mem_movingBanks, passesOff, decide_eq_true_eq]
      tauto
    · rw [hmem]
      rfl
    · have hregs : RegsBut [pendReg 0x2EA] s (powerSettled (banksMoved (movingBanks s) s)) :=
        regsBut_of_regs _ ((banksMoved_chg (movingBanks s) s).same .regs (by decide))
      exact regsBut_trans hregs (regsBut_raise _ _)
    · exact (Chg.after (m := 32914) (raise_chg ..) (.upd (.after (banksMoved_chg ..) (.refl _ _)))).changes

end Sys2Proof.Proofs
end

section
/-!
Proofs of the family 06_design_memory: what accesses of BAR2 report, and its reads (O39).
-/
namespace Sys2Proof.Proofs
open Sys2Proof.Machine Sys2Proof.Laws

/-! ### Accesses without a grant and at unmapped offsets (R199, R201) -/

/-- What an access reports: that no grant covers it, and that its offset is unmapped. -/
def bar2Reported (g : Option Grant) (p : Option (Nat × Nat)) (s : State) : State :=
  let s := if g.isNone then bar2Denied s else s
  if p.isNone then bar2Flag 1 s else s

section
variable {g : Option Grant} {p : Option (Nat × Nat)} {s : State}

theorem bar2Flag_regsBut (b : Nat) (s : State) : RegsBut [Reg.MEM_BAR2_STATUS] s (bar2Flag b s) := regsBut_setBit s _ _ _

theorem bar2Denied_regsBut (s : State) : RegsBut [Reg.MEM_BAR2_STATUS, pendReg 0x2E9] s (bar2Denied s) :=
  regsBut_trans (regsBut_mono (bar2Flag_regsBut 0 s) (by simp)) (regsBut_mono (regsBut_raise 0x2E9 _) (by simp))

theorem bar2Denied_bit (s : State) : (bar2Denied s).bit Reg.MEM_BAR2_STATUS 0 = true :=
  (bit_of_reg (raise_reg _ (by decide)) 0).trans (bit_setBit_same s true (by decide))

theorem bar2Denied_pendBit (s : State) : (bar2Denied s).pendBit 0x2E9 = true := raise_pendBit (by simp [eventAbsent])

/-- A flag of MEM_BAR2_STATUS takes back no event. -/
theorem bar2Flag_pendBit {e : Nat} (he : e < 1536) (b : Nat) (s : State) : (bar2Flag b s).pendBit e = s.pendBit e := by
  refine bit_of_reg (reg_setBit_other s _ _ ?_) _
  rw [pendReg_eq, Reg.MEM_BAR2_STATUS]
  omega

theorem bar2Reported_regsBut : RegsBut [Reg.MEM_BAR2_STATUS, pendReg 0x2E9] s (bar2Reported g p s) := by
  have hdenied : RegsBut [Reg.MEM_BAR2_STATUS, pendReg 0x2E9] s (if g.isNone then bar2Denied s else s) := by
    split
    · exact bar2Denied_regsBut s
    · exact regsBut_refl _ _
  unfold bar2Reported
  dsimp only
  split
  · exact regsBut_trans hdenied (regsBut_mono (bar2Flag_regsBut 1 _) (by simp))
  · exact hdenied

theorem bar2Reported_chg : Chg 146 s (bar2Reported g p s) := by
  have hdenied : Chg 146 s (if g.isNone then bar2Denied s else s) := .ite (bar2Denied_chg s) (.refl _ _)
  exact .ite (.after (bar2Flag_chg ..) hdenied) hdenied

theorem bar2Reported_denied (h : g = none) : (bar2Reported g p s).bit Reg.MEM_BAR2_STATUS 0 = true ∧
    (bar2Reported g p s).pendBit 0x2E9 = true := by
  have hno : bar2Reported g p s = if p.isNone then bar2Flag 1 (bar2Denied s) else bar2Denied s := by rw [h]; rfl
  rw [hno]
  split
  · rw [bar2Flag_pendBit (by decide)]
    exact ⟨(bit_setBit_other _ _ (by decide)).trans (bar2Denied_bit s), bar2Denied_pendBit s⟩
  · exact ⟨bar2Denied_bit s, bar2Denied_pendBit s⟩

theorem bar2Reported_unmapped (h : p = none) : (bar2Reported g p s).bit Reg.MEM_BAR2_STATUS 1 = true := by
  subst h
  exact bit_setBit_same _ true (by decide)

end

/-! ### A read is asked for -/

section
variable {fn : PcieFn} {off : BitVec 36} {wide : Bool} {s : State}

theorem exec_bar2Read (hup : s.up = true) : exec (.bar2Read fn off wide) s = .next (bar2Read fn off wide s) := run_up _ hup

theorem bar2Read_waits {g : Grant} {p : Nat × Nat} (hg : bar2Grant s fn (bar2Off off wide) false = some g)
    (hp : bar2Place s (bar2Off off wide) = some p) : bar2Read fn off wide s =
      { s with mem := { s.mem with bar2 := s.mem.bar2 ++ [{ fn := fn, off := off, wide := wide }] } } := by
  simp only [bar2Read, hg, hp]

theorem bar2Read_refused (h : bar2Grant s fn (bar2Off off wide) false = none ∨ bar2Place s (bar2Off off wide) = none) :
    bar2Read fn off wide s = (bar2Reported (bar2Grant s fn (bar2Off off wide) false) (bar2Place s (bar2Off off wide)) s).emit
      (.bar2Data fn 0 false) := by
  unfold bar2Read
  dsimp only
  split
  · next hg hp => simp [hg, hp] at h
  · rfl

end

/-! ### Port A comes to a read (R187, R189, R190) -/

section
variable {n key : Nat} {s : State}

/-- The bank performs the read in the present clock. -/
def portAReads (key : Nat) (s : State) : State := { s with mem := { s.mem with aReads := s.mem.aReads ++ [(key, s.clock)] } }

theorem bar2Present_stalls (h : portATaken s (key / 8192) = true ∨ s.mem.bWindows.contains (key, s.clock) = true) :
    bar2Present (n + 1) key s = bar2Present n key (clockTick s) := if_pos ((Bool.or_eq_true ..).mpr h)

theorem bar2Present_free (hport : portATaken s (key / 8192) = false) (hwrite : s.mem.bWindows.contains (key, s.clock) = false) :
    bar2Present (n + 1) key s = if inBWindow s key s.clock then bar2Present n key (clockTick (memCnt 1 1 s))
      else some (portAReads key s) := if_neg (by rw [hport, hwrite]; decide)

theorem bar2Present_busy (hport : portATaken s (key / 8192) = false) (hwrite : s.mem.bWindows.contains (key, s.clock) = false)
    (hbusy : inBWindow s key s.clock = true) : bar2Present (n + 1) key s = bar2Present n key (clockTick (memCnt 1 1 s)) :=
  (bar2Present_free hport hwrite).trans (if_pos hbusy)

theorem bar2Present_performs (hport : portATaken s (key / 8192) = false)
    (hwrite : s.mem.bWindows.contains (key, s.clock) = false) (hbusy : inBWindow s key s.clock = false) :
    bar2Present (n + 1) key s = some (portAReads key s) :=
  (bar2Present_free hport hwrite).trans (if_neg (by simp [hbusy]))

theorem bar2Fetch_bank {q : Nat} (hq : q < 512) : bar2Fetch q key s = bar2Present 4096 key s := if_pos hq

theorem bar2Fetch_hbm {q : Nat} (hq : 512 ≤ q) : bar2Fetch q key s = some (askBurst 6 key s) := if_neg (Nat.not_lt.mpr hq)

end

/-! ### Errors of the word that is read (R186, R202, R209) -/

/-- The read completes poisoned. -/
def bar2Bad (s : State) (q key : Nat) : Bool := if q < 512 then bankParityBad s key else decide (eccOf s key = 2)

section
variable {q key off : Nat} {s : State}

theorem bar2Error_bad : (bar2Error q key off s).2 = bar2Bad s q key := by
  unfold bar2Error bar2Bad
  by_cases hq : q < 512
  · rw [if_pos hq, if_pos hq]
    cases hbad : bankParityBad s key <;> rfl
  · rw [if_neg hq, if_neg hq]
    by_cases h2 : eccOf s key = 2
    · rw [if_pos h2, decide_eq_true h2]
    · rw [if_neg h2, decide_eq_false h2]
      split <;> rfl

theorem bar2Error_reports (h : bar2Bad s q key = true) :
    (bar2Error q key off s).1.pendBit (if q < 512 then 0x2E4 else 0x2E5) = true := by
  unfold bar2Bad at h
  unfold bar2Error
  by_cases hq : q < 512
  · rw [if_pos hq] at h
    rw [if_pos hq, if_pos hq, if_pos h]
    exact raise_pendBit (by simp [eventAbsent])
  · rw [if_neg hq, decide_eq_true_eq] at h
    rw [if_neg hq, if_neg hq, if_pos h]
    exact hbmUncorrected_pendBit ..

theorem bar2Error_corrected (hq : 512 ≤ q) (h : eccOf s key = 1) : bar2Error q key off s = (hbmCorrected key s, false) := by
  rw [bar2Error, if_neg (Nat.not_lt.mpr hq), if_neg (by rw [h]; decide), if_pos h]

theorem bar2Error_none (hbad : bar2Bad s q key = false) (h : q < 512 ∨ eccOf s key ≠ 1) :
    bar2Error q key off s = (s, false) := by
  unfold bar2Bad at hbad
  unfold bar2Error
  by_cases hq : q < 512
  · rw [if_pos hq] at hbad
    rw [if_pos hq, if_neg (Bool.eq_false_iff.mp hbad)]
  · rw [if_neg hq, decide_eq_false_iff_not] at hbad
    rw [if_neg hq, if_neg hbad, if_neg (h.resolve_left hq)]

end

/-! ### A read completes -/

theorem bar2Mask_congr {s t : State} (hbnt : t.bnt = s.bnt) (hsch : t.sch = s.sch) (g : Grant) (o n x : Nat) :
    bar2Mask t g o n x = bar2Mask s g o n x := by
  rw [bar2Mask, grantKey, hbnt, hsch, bar2Mask, grantKey]

/-- The errors of the word have been reported. -/
def bar2Checked (q key off : Nat) (s : State) : State :=
  if bar2Bad s q key then bar2Flag 3 (bar2Error q key off s).1 else (bar2Error q key off s).1

/-- What a read returns of its word. -/
def bar2Part (off : BitVec 36) (wide : Bool) (w : Nat) : Nat :=
  if wide then w else w / 2 ^ (32 * (bar2Off off wide / 4 % 2)) % 2 ^ 32

section
variable {q key off : Nat} {s : State}

theorem bar2Checked_chg : Chg 67109010 s (bar2Checked q key off s) :=
  .ite (.after (bar2Flag_chg ..) (bar2Error_chg ..)) (bar2Error_chg ..)

theorem bar2Checked_bad (h : bar2Bad s q key = true) : (bar2Checked q key off s).bit Reg.MEM_BAR2_STATUS 3 = true ∧
    (bar2Checked q key off s).pendBit (if q < 512 then 0x2E4 else 0x2E5) = true := by
  have hevent : (if q < 512 then 0x2E4 else 0x2E5) < 1536 := by split <;> decide
  rw [bar2Checked, if_pos h, bar2Flag_pendBit hevent]
  exact ⟨bit_setBit_same _ true (by decide), bar2Error_reports h⟩

theorem bar2Checked_corrected (hq : 512 ≤ q) (h : eccOf s key = 1) : bar2Checked q key off s = hbmCorrected key s := by
  have hgood : bar2Bad s q key = false := by
    rw [bar2Bad, if_neg (Nat.not_lt.mpr hq), h]
    rfl
  rw [bar2Checked, hgood, bar2Error_corrected hq h]
  rfl

theorem bar2Checked_none (hbad : bar2Bad s q key = false) (h : q < 512 ∨ eccOf s key ≠ 1) : bar2Checked q key off s = s := by
  rw [bar2Checked, hbad, bar2Error_none hbad h]
  rfl

theorem bar2Answer_eq (r : Bar2Out) (g : Grant) (u : State) : bar2Answer r g q key u =
    (bar2Checked q key (bar2Off r.off r.wide) u).emit (.bar2Data r.fn (BitVec.ofNat 64 (bar2Mask u g (bar2Off r.off r.wide)
      (bar2Width r.wide) (bar2Part r.off r.wide (committedWord u q key).toNat))) (bar2Bad u q key)) := by
  have hchg := bar2Checked_chg (q := q) (key := key) (off := bar2Off r.off r.wide) (s := u)
  rw [← bar2Mask_congr (hchg.same .bnt (by decide)) (hchg.same .sch (by decide)), bar2Checked, ← bar2Error_bad]
  rfl

end

/-- The read is taken from those that wait. -/
def bar2Taken (rest : List Bar2Out) (s : State) : State := { s with mem := { s.mem with bar2 := rest } }

theorem bar2Taken_chg (rest : List Bar2Out) (s : State) : Chg 32768 s (bar2Taken rest s) := .upd (.refl _ _)

theorem exec_bar2ReadComplete {s : State} (hup : s.up = true) : exec .bar2ReadComplete s = .next (bar2Complete s) := run_up _ hup

theorem bar2Complete_idle {s : State} (h : s.mem.bar2 = []) : bar2Complete s = s := by
  simp only [bar2Complete, h]

section
variable {r : Bar2Out} {rest : List Bar2Out} {s : State} (h : s.mem.bar2 = r :: rest)
include h

theorem bar2Complete_fetches {g : Grant} {q key : Nat} (hg : bar2Grant s r.fn (bar2Off r.off r.wide) false = some g)
    (hp : bar2Place s (bar2Off r.off r.wide) = some (q, key)) : bar2Complete s =
      match bar2Fetch q key (bar2Taken rest s) with
      | some u => bar2Answer r g q key u
      | none => s := by
  have hg' : bar2Grant (bar2Taken rest s) r.fn (bar2Off r.off r.wide) false = some g := hg
  have hp' : bar2Place (bar2Taken rest s) (bar2Off r.off r.wide) = some (q, key) := hp
  rw [bar2Taken] at hg' hp'
  simp only [bar2Complete, h, hg', hp']
  rfl

/-- A read whose grant or whose place has gone returns 0, with the report of the one or of the other. -/
theorem bar2Complete_refused (hno : bar2Grant s r.fn (bar2Off r.off r.wide) false = none ∨
    bar2Place s (bar2Off r.off r.wide) = none) : ∃ f : State → State, (f = bar2Denied ∨ f = bar2Flag 1) ∧
      bar2Complete s = (f (bar2Taken rest s)).emit (.bar2Data r.fn 0 false) := by
  cases hg : bar2Grant s r.fn (bar2Off r.off r.wide) false with
  | none =>
    have hg' : bar2Grant (bar2Taken rest s) r.fn (bar2Off r.off r.wide) false = none := hg
    refine ⟨_, .inl rfl, ?_⟩
    rw [bar2Taken] at hg' ⊢
    simp only [bar2Complete, h, hg']
  | some g =>
    have hg' : bar2Grant (bar2Taken rest s) r.fn (bar2Off r.off r.wide) false = some g := hg
    have hp' : bar2Place (bar2Taken rest s) (bar2Off r.off r.wide) = none := hno.resolve_left (by simp [hg])
    refine ⟨_, .inr rfl, ?_⟩
    rw [bar2Taken] at hg' hp' ⊢
    simp only [bar2Complete, h, hg', hp']

end

end Sys2Proof.Proofs
end

section
/-!
Proofs of the family 06_design_memory: the stores before and of a write of BAR2 (O39).
-/
namespace Sys2Proof.Proofs
open Sys2Proof.Machine Sys2Proof.Laws

/-! ### A word is written into its store -/

/-- A store writes the banks with their parity, or HBM, and nothing else. -/
theorem writeStored_eq (q key : Nat) (data mask : Word64) (s : State) : ∃ b x h, writeStored q key data mask s =
    { s with mem := { s.mem with banks := b, bankBad := x, hbm := h } } := by
  by_cases hq : q < 512
  · obtain ⟨bad, hw⟩ := writeStored_bank (key := key) (data := data) (mask := mask) hq s
    exact ⟨_, _, _, hw⟩
  · exact ⟨_, _, _, writeStored_hbm (Nat.not_lt.mp hq) s⟩

theorem writeStored_word (q key : Nat) (data mask : Word64) (s : State) :
    storedWord (writeStored q key data mask s) q key = maskWord (storedWord s q key) data mask := by
  by_cases hq : q < 512
  · obtain ⟨bad, hw⟩ := writeStored_bank (key := key) (data := data) (mask := mask) hq s
    rw [hw, storedWord_bank hq, storedWord_bank hq]
    exact mget_mset_same ..
  · have hq := Nat.not_lt.mp hq
    have hnew := mget_mset_same s.mem.hbm none key (some (maskWord (storedWord s q key) data mask))
    rw [writeStored_hbm hq]
    exact storedWord_written hq hnew

theorem writeStored_other {q key k : Nat} (data mask : Word64) (s : State) (hk : k ≠ key) :
    storedWord (writeStored q key data mask s) q k = storedWord s q k := by
  by_cases hq : q < 512
  · obtain ⟨bad, hw⟩ := writeStored_bank (key := key) (data := data) (mask := mask) hq s
    rw [hw, storedWord_bank hq, storedWord_bank hq]
    exact mget_mset_other _ _ _ _ hk
  · have hq := Nat.not_lt.mp hq
    have hold := mget_mset_other s.mem.hbm none none (some (maskWord (storedWord s q key) data mask)) hk
    rw [writeStored_hbm hq]
    exact storedWord_hbm_congr (s := s) (t := setHbm key _ s) ⟨rfl, rfl, rfl, rfl⟩ hq hold

/-! ### Ports and errors that a store leaves alone -/

/-- From `s` to `t` the clock, the B windows, the bursts asked for and the errors of HBM stay. -/
structure PortsKept (s t : State) : Prop where
  clock : t.clock = s.clock
  windows : t.mem.bWindows = s.mem.bWindows
  bursts : t.mem.pcReqs = s.mem.pcReqs
  errors : t.mem.hbmErr = s.mem.hbmErr

theorem PortsKept.refl (s : State) : PortsKept s s := ⟨rfl, rfl, rfl, rfl⟩

theorem PortsKept.trans {s r t : State} (h : PortsKept s r) (k : PortsKept r t) : PortsKept s t :=
  ⟨k.clock.trans h.clock, k.windows.trans h.windows, k.bursts.trans h.bursts, k.errors.trans h.errors⟩

theorem PortsKept.due {s t : State} (h : PortsKept s t) : entryDue t = entryDue s := by
  funext e
  rw [entryDue, h.clock, entryDue]

theorem PortsKept.ecc {s t : State} (h : PortsKept s t) (key : Nat) : eccOf t key = eccOf s key := by
  rw [eccOf, h.errors, eccOf]

theorem writeStored_portsKept (q key : Nat) (data mask : Word64) (s : State) :
    PortsKept s (writeStored q key data mask s) := by
  obtain ⟨b, x, h, hw⟩ := writeStored_eq q key data mask s
  rw [hw]
  exact ⟨rfl, rfl, rfl, rfl⟩

theorem dropEntry_words (e : QEntry) (s : State) (q k : Nat) : storedWord (dropEntry e s) q k = storedWord s q k := by
  obtain ⟨a, hd⟩ := dropEntry_eq e s
  rw [hd]
  exact storedWord_congr (s := s) (t := { s with mem := { s.mem with queue := s.mem.queue.erase e, allFour := a } })
    ⟨rfl, rfl, rfl, rfl⟩ rfl rfl

theorem dropEntry_portsKept (e : QEntry) (s : State) : PortsKept s (dropEntry e s) := by
  obtain ⟨a, hd⟩ := dropEntry_eq e s
  rw [hd]
  exact ⟨rfl, rfl, rfl, rfl⟩

/-! ### One entry is applied -/

/-- The read of an entry's burst reports a corrected error (R209). -/
def entryRead (e : QEntry) (s : State) : State := if 512 ≤ e.q ∧ eccOf s e.key = 1 then hbmCorrected e.key s else s

theorem entryRead_chg (e : QEntry) (s : State) : Chg 67109010 s (entryRead e s) := .ite (hbmCorrected_chg ..) (.refl _ _)

theorem entryRead_bank {e : QEntry} (hq : e.q < 512) (s : State) : entryRead e s = s := if_neg fun h => by omega

/-- A transformer outside the memories and what they are read with leaves every stored word. -/
theorem storedWord_of_chg {m : Nat} {s t : State} (h : Chg m s t) (q key : Nat)
    (hm : m ||| 67633298 = 67633298 := by decide) : storedWord t q key = storedWord s q key := by
  have hall : Chg 67633298 s t := .after h (.refl _ _) hm
  have hmem : t.mem = s.mem := hall.same .mem (by decide)
  refine storedWord_congr ⟨hall.same .ident (by decide), hall.same .img (by decide), hall.same .sch (by decide), ?_⟩ ?_ ?_ <;>
    rw [hmem]

theorem portsKept_of_chg {m : Nat} {s t : State} (h : Chg m s t) (hm : m ||| 67633298 = 67633298 := by decide) :
    PortsKept s t := by
  have hall : Chg 67633298 s t := .after h (.refl _ _) hm
  have hmem : t.mem = s.mem := hall.same .mem (by decide)
  refine ⟨hall.same .clock (by decide), ?_, ?_, ?_⟩ <;> rw [hmem]

section
variable {e : QEntry} {s : State} (h : e.q < 512 ∨ eccOf s e.key ≠ 2)
include h

theorem applyStored_stores : applyStored e s = dropEntry e (writeStored e.q e.key e.data e.mask (entryRead e s)) := by
  refine if_neg ?_
  rintro ⟨hq, h2⟩
  rcases h with h | h
  · omega
  · exact h h2

theorem applyStored_portsKept : PortsKept s (applyStored e s) := by
  rw [applyStored_stores h]
  exact ((portsKept_of_chg (entryRead_chg e s)).trans (writeStored_portsKept ..)).trans (dropEntry_portsKept ..)

theorem applyStored_stored_chg : Chg 67141778 s (applyStored e s) := by
  rw [applyStored_stores h]
  exact .after (dropEntry_chg ..) (.after (writeStored_chg ..) (.after (entryRead_chg e s) (.refl _ _)))

theorem applyStored_queue : (applyStored e s).mem.queue = s.mem.queue.erase e := by
  have hread : (entryRead e s).mem = s.mem := (entryRead_chg e s).same .mem (by decide)
  obtain ⟨b, x, m, hw⟩ := writeStored_eq e.q e.key e.data e.mask (entryRead e s)
  rw [applyStored_stores h, hw]
  obtain ⟨a, hd⟩ := dropEntry_eq e { entryRead e s with mem := { (entryRead e s).mem with banks := b, bankBad := x, hbm := m } }
  rw [hd]
  exact (congrArg (·.queue.erase e) hread :)

theorem applyStored_words (q k : Nat) : storedWord (applyStored e s) q k =
    storedWord (writeStored e.q e.key e.data e.mask (entryRead e s)) q k := by
  rw [applyStored_stores h, dropEntry_words]

/-- The oldest committed entry of a queue is applied: no committed word of the queue reads otherwise. -/
theorem applyStored_committed {q : Nat} (hold : oldestEntry s q = some e) (k : Nat) :
    committedWord (applyStored e s) q k = committedWord s q k := by
  obtain ⟨rfl, -⟩ := oldestEntry_split hold
  have hread (j : Nat) : storedWord (entryRead e s) e.q j = storedWord s e.q j := storedWord_of_chg (entryRead_chg e s) ..
  refine committedWord_stored hold (applyStored_queue h) (applyStored_portsKept h).clock ?_ (fun j hj => ?_) k
  · rw [applyStored_words h, writeStored_word, hread]
  · rw [applyStored_words h, writeStored_other _ _ _ hj, hread]

end

/-! ### Every committed entry of a queue is applied (R200) -/

/-- The committed entries of a queue, oldest first. -/
def dueEntries (q : Nat) (s : State) : List QEntry := s.mem.queue.filter (fun e => entryDue s e && e.q == q)

theorem mem_dueEntries {q : Nat} {s : State} {e : QEntry} :
    e ∈ dueEntries q s ↔ e ∈ s.mem.queue ∧ entryDue s e = true ∧ e.q = q := by
  rw [dueEntries, List.mem_filter, Bool.and_eq_true, beq_iff_eq]

theorem drainQueue_eq (q : Nat) (s : State) : drainQueue q s = forEach (dueEntries q s) applyStored s := rfl

/-- The oldest committed entry of a queue has left it. -/
theorem dueEntries_erase {q : Nat} {s t : State} {e : QEntry} {l : List QEntry} (h : dueEntries q s = e :: l)
    (hqueue : t.mem.queue = s.mem.queue.erase e) (hdue : entryDue t = entryDue s) :
    oldestEntry s q = some e ∧ dueEntries q t = l := by
  have hold : oldestEntry s q = some e := by
    rw [oldestEntry, ← List.head?_filter]
    exact congrArg List.head? h
  obtain ⟨-, he, as, bs, hl, herase, has⟩ := oldestEntry_split hold
  refine ⟨hold, ?_⟩
  have hfront : as.filter (fun a => entryDue s a && a.q == q) = [] := List.filter_eq_nil_iff.mpr fun a ha hp => by
    rw [Bool.and_eq_true, beq_iff_eq] at hp
    exact has a ha hp.1 hp.2
  obtain ⟨hq, -⟩ := oldestEntry_split hold
  rw [dueEntries, hl, List.filter_append, hfront, List.nil_append, List.filter_cons_of_pos (by simp [he, hq])] at h
  rw [dueEntries, hdue, hqueue, herase, List.filter_append, hfront, List.nil_append]
  exact (List.cons.inj h).2

/-- Queue `q` holds no committed entry any more, and its committed words read as before. -/
structure Drained (q : Nat) (s t : State) : Prop where
  words : ∀ k, committedWord t q k = committedWord s q k
  empty : dueEntries q t = []
  ports : PortsKept s t
  chg : Chg 67141778 s t
  bank : q < 512 → Chg 32768 s t

theorem applyStored_bank_chg {e : QEntry} (hq : e.q < 512) (s : State) : Chg 32768 s (applyStored e s) := by
  rw [applyStored_stores (.inl hq), entryRead_bank hq]
  exact .after (dropEntry_chg ..) (writeStored_chg ..)

theorem drained_forEach {q : Nat} {l : List QEntry} {s : State} (hl : dueEntries q s = l)
    (hclean : ∀ e ∈ l, q < 512 ∨ eccOf s e.key ≠ 2) : Drained q s (forEach l applyStored s) := by
  induction l generalizing s with
  | nil => exact ⟨fun _ => rfl, hl, .refl s, .refl _ _, fun _ => .refl _ _⟩
  | cons e l ih =>
    have heq : e.q = q := (mem_dueEntries.mp (hl ▸ List.mem_cons_self)).2.2
    have hgood : e.q < 512 ∨ eccOf s e.key ≠ 2 := heq ▸ hclean e List.mem_cons_self
    have hports := applyStored_portsKept hgood
    obtain ⟨hold, hrest⟩ := dueEntries_erase hl (applyStored_queue hgood) hports.due
    obtain ⟨words, empty, ports, chg, bank⟩ := ih hrest fun a ha =>
      (hclean a (List.mem_cons_of_mem _ ha)).imp_right fun h => by rwa [hports.ecc]
    exact ⟨fun k => (words k).trans (applyStored_committed hgood hold k), empty, hports.trans ports,
      .after chg (applyStored_stored_chg hgood), fun hq => .after (bank hq) (applyStored_bank_chg (heq ▸ hq) s)⟩

theorem drainQueue_drained {q : Nat} {s : State} (hclean : ∀ e ∈ dueEntries q s, q < 512 ∨ eccOf s e.key ≠ 2) :
    Drained q s (drainQueue q s) := drained_forEach rfl hclean

theorem drainQueue_empty {q : Nat} {s : State} (h : dueEntries q s = []) : drainQueue q s = s := by
  rw [drainQueue_eq, h]
  rfl

/-- Without committed entries a committed word is the stored one. -/
theorem committedWord_drained {q : Nat} {s : State} (h : dueEntries q s = []) (k : Nat) :
    committedWord s q k = storedWord s q k := by
  have hnone : s.mem.queue.filter (fun e => e.q == q && e.key == k && entryDue s e) = [] :=
    List.filter_eq_nil_iff.mpr fun e he hp => by
      simp only [Bool.and_eq_true, beq_iff_eq] at hp
      exact List.not_mem_nil (h ▸ mem_dueEntries.mpr ⟨he, hp.2, hp.1.1⟩)
  rw [committedWord, mergedWith, hnone]
  rfl

/-! ### Port B comes to a write (R187, R189) -/

section
variable {n key : Nat} {s : State}

theorem bar2Begin_taken (h : portBTaken s (key / 8192) = true) : bar2Begin (n + 1) key s = bar2Begin n key (clockTick s) :=
  if_pos h

theorem bar2Begin_read (hport : portBTaken s (key / 8192) = false) (hread : readNow s key = true) :
    bar2Begin (n + 1) key s = bar2Begin n key (clockTick (memCnt 1 1 s)) :=
  (if_neg (Bool.eq_false_iff.mp hport)).trans (if_pos hread)

theorem bar2Begin_free (hport : portBTaken s (key / 8192) = false) (hread : readNow s key = false) :
    bar2Begin (n + 1) key s = s :=
  (if_neg (Bool.eq_false_iff.mp hport)).trans (if_neg (Bool.eq_false_iff.mp hread))

end

/-! ### The epoch of a masked write (R412) -/

/-- A write under a masked grant begins an epoch. -/
def epochCounted (g : Grant) (s : State) : State := if g.masked then bumpEpoch s else s

theorem bumpEpoch_regsBut (s : State) : RegsBut [pendReg 0x043] s (bumpEpoch s) := by
  unfold bumpEpoch
  dsimp only
  split
  · exact regsBut_of_regs _ rfl
  · split
    · exact regsBut_refl _ _
    · have hgrants : Chg 524288 s (forEach ((grantsOf s 0).filter (fun g => g.2.masked)) (fun g s => setGrant g.1 none s) s) :=
        .each (.refl _ _) fun _ _ => setGrant_chg ..
      exact regsBut_trans (regsBut_of_regs _ (hgrants.same .regs (by decide))) (regsBut_raise 0x043 _)

theorem epochCounted_regsBut (g : Grant) (s : State) : RegsBut [pendReg 0x043] s (epochCounted g s) := by
  unfold epochCounted
  split
  · exact bumpEpoch_regsBut s
  · exact regsBut_refl _ _

theorem epochCounted_chg (g : Grant) (s : State) : Chg 524434 s (epochCounted g s) := .ite (bumpEpoch_chg s) (.refl _ _)

theorem epochCounted_clear {g : Grant} (h : g.masked = false) (s : State) : epochCounted g s = s := if_neg (by simp [h])

end Sys2Proof.Proofs
end

section
/-!
Proofs of the family 06_design_memory: reads and writes of BAR2 (O39).
-/
namespace Sys2Proof.Proofs
open Sys2Proof.Machine Sys2Proof.Laws

/-! ### What a write stores (R198, R200, R206) -/

/-- The lowest bit of the word that a write reaches. -/
def bar2Shift (o : Nat) (wide : Bool) : Nat := if wide then 0 else 32 * (o / 4 % 2)

/-- The bits of the word that a write replaces. -/
def bar2Enable (o : Nat) (wide : Bool) : Word64 :=
  BitVec.ofNat 64 (if wide then 2 ^ 64 - 1 else (2 ^ 32 - 1) * 2 ^ bar2Shift o wide)

/-- The data of a write under its grant. -/
def bar2Clear (g : Grant) (o : Nat) (wide : Bool) (data : Word64) (u : State) : Nat :=
  bar2Mask u g o (bar2Width wide) (data.toNat % 2 ^ (8 * bar2Width wide))

theorem bar2Clear_unmasked {g : Grant} (h : g.masked = false) (o : Nat) (data : Word64) (u : State) :
    BitVec.ofNat 64 (bar2Clear g o true data u) = data := by
  have hdata : bar2Clear g o true data u = data.toNat % 2 ^ 64 := if_neg (by simp [h])
  rw [hdata, Nat.mod_eq_of_lt data.isLt, BitVec.ofNat_toNat, BitVec.setWidth_eq]

theorem maskWord_wide (w : Word64) (o x : Nat) :
    maskWord w (BitVec.ofNat 64 (x * 2 ^ bar2Shift o true)) (bar2Enable o true) = BitVec.ofNat 64 x := by
  have hall : bar2Enable o true = BitVec.allOnes 64 := rfl
  rw [hall, maskWord_allOnes, bar2Shift, if_pos rfl, Nat.pow_zero, Nat.mul_one]

theorem maskWord_half (w : Word64) (o x : Nat) {i : Nat} (hi : i < 64) :
    (maskWord w (BitVec.ofNat 64 (x * 2 ^ bar2Shift o false)) (bar2Enable o false)).getLsbD i =
      if i / 32 = o / 4 % 2 then (BitVec.ofNat 64 x).getLsbD (i % 32) else w.getLsbD i := by
  have hshift : bar2Shift o false = 32 * (o / 4 % 2) := rfl
  have hhalf : o / 4 % 2 < 2 := Nat.mod_lt _ (by decide)
  have hmask : (bar2Enable o false).getLsbD i = true ↔ i / 32 = o / 4 % 2 := by
    rw [bar2Enable, if_neg (by decide), BitVec.getLsbD_ofNat, Nat.testBit_mul_two_pow, Nat.testBit_two_pow_sub_one, hshift]
    simp only [hi, decide_true, Bool.true_and, Bool.and_eq_true, decide_eq_true_eq]
    omega
  rw [maskWord_getLsbD]
  by_cases h : i / 32 = o / 4 % 2
  · have hreach : 32 * (o / 4 % 2) ≤ i := by omega
    have hlow : i % 32 < 64 := by omega
    rw [if_pos (hmask.mpr h), if_pos h, BitVec.getLsbD_ofNat, BitVec.getLsbD_ofNat, Nat.testBit_mul_two_pow, hshift,
      show i - 32 * (o / 4 % 2) = i % 32 by omega]
    simp [hi, hreach, hlow]
  · rw [if_neg (fun hm => h (hmask.mp hm)), if_neg h]

/-! ### A write is stored -/

/-- The read of a write's burst reports a corrected error (R209). -/
def burstMended (key : Nat) (s : State) : State := if eccOf s key = 1 then hbmCorrected key s else s

theorem burstMended_chg (key : Nat) (s : State) : Chg 67109010 s (burstMended key s) := .ite (hbmCorrected_chg ..) (.refl _ _)

/-- Port B of the bank has begun the write, or the pseudo-channel has been asked for its burst. -/
def bar2Opened (q key : Nat) (u : State) : State := if q < 512 then openB key u else burstMended key (askBurst 6 key u)

/-- The write has been stored. -/
def bar2Written (g : Grant) (q key o : Nat) (wide : Bool) (data : Word64) (u w : State) : State :=
  epochCounted g (writeStored q key (BitVec.ofNat 64 (bar2Clear g o wide data u * 2 ^ bar2Shift o wide)) (bar2Enable o wide) w)

section
variable {g : Grant} {q key o : Nat} {wide : Bool} {data : Word64} {s u v w : State}

theorem bar2Opened_bank (hq : q < 512) : bar2Opened q key u = openB key u := if_pos hq

theorem bar2Opened_hbm (hq : 512 ≤ q) : bar2Opened q key u = burstMended key (askBurst 6 key u) := if_neg (Nat.not_lt.mpr hq)

theorem bar2Store_stores (hv : v = if q < 512 then bar2Begin 4 key s else s) (hu : u = drainQueue q v)
    (hclean : q < 512 ∨ eccOf u key ≠ 2) :
    bar2Store g q key o wide data s = bar2Written g q key o wide data u (bar2Opened q key u) := by
  unfold bar2Store
  rw [← hv, ← hu]
  dsimp only
  by_cases hq : q < 512
  · rw [if_pos hq, bar2Opened_bank hq]
    rfl
  · rw [if_neg hq, bar2Opened_hbm (Nat.not_lt.mp hq), if_neg (show ¬ eccOf (askBurst 6 key u) key = 2 from hclean.resolve_left hq)]
    rfl

theorem bar2Store_uncorrected (hq : 512 ≤ q) (hempty : dueEntries q s = []) (h : eccOf s key = 2) :
    bar2Store g q key o wide data s =
      epochCounted g (bar2Flag 2 (hbmUncorrected (BitVec.ofNat 64 o) 0 0 true (askBurst 6 key s))) := by
  unfold bar2Store
  rw [if_neg (Nat.not_lt.mpr hq), drainQueue_empty hempty]
  dsimp only
  rw [if_neg (Nat.not_lt.mpr hq), if_pos (show eccOf (askBurst 6 key s) key = 2 from h)]
  rfl

theorem bar2Opened_queue : (bar2Opened q key u).mem.queue = u.mem.queue := by
  unfold bar2Opened
  split
  · rfl
  · rw [(burstMended_chg ..).same .mem (by decide)]
    rfl

theorem bar2Opened_clock : (bar2Opened q key u).clock = u.clock := by
  unfold bar2Opened
  split
  · rfl
  · exact (burstMended_chg ..).same .clock (by decide)

theorem bar2Opened_words (k : Nat) : storedWord (bar2Opened q key u) q k = storedWord u q k := by
  by_cases hq : q < 512
  · rw [bar2Opened_bank hq, storedWord_bank hq, storedWord_bank hq]
    rfl
  · rw [bar2Opened_hbm (Nat.not_lt.mp hq), storedWord_of_chg (burstMended_chg ..)]
    exact storedWord_hbm_congr (s := u) (t := askBurst 6 key u) ⟨rfl, rfl, rfl, rfl⟩ (Nat.not_lt.mp hq) rfl

theorem bar2Opened_chg : Chg 67141778 u (bar2Opened q key u) :=
  .ite (.after (openB_chg ..) (.refl _ _)) (.after (burstMended_chg ..) (.after (askBurst_chg ..) (.refl _ _)))

theorem bar2Written_chg : Chg 67666066 w (bar2Written g q key o wide data u w) :=
  .after (epochCounted_chg ..) (.after (writeStored_chg ..) (.refl _ _))

theorem bar2Written_clear_chg (h : g.masked = false) : Chg 32768 w (bar2Written g q key o wide data u w) := by
  rw [bar2Written, epochCounted_clear h]
  exact writeStored_chg ..

theorem bar2Written_portsKept : PortsKept w (bar2Written g q key o wide data u w) :=
  (writeStored_portsKept ..).trans (portsKept_of_chg (epochCounted_chg ..))

theorem bar2Written_queue : (bar2Written g q key o wide data u w).mem.queue = w.mem.queue := by
  obtain ⟨b, x, h, hw⟩ := writeStored_eq q key (BitVec.ofNat 64 (bar2Clear g o wide data u * 2 ^ bar2Shift o wide))
    (bar2Enable o wide) w
  rw [bar2Written, (epochCounted_chg ..).same .mem (by decide), hw]

theorem dueEntries_congr {t : State} (hqueue : t.mem.queue = s.mem.queue) (hclock : t.clock = s.clock) :
    dueEntries q t = dueEntries q s := by
  rw [dueEntries, hqueue, dueEntries]
  exact congrArg (List.filter · s.mem.queue) (funext fun e => by rw [entryDue, hclock, entryDue])

/-- The committed words of the queue after the write: the one written, over what it read as, and the others as before. -/
theorem bar2Written_words (hd : Drained q v u) {t : State} (ht : t = bar2Written g q key o wide data u (bar2Opened q key u)) :
    committedWord t q key = maskWord (committedWord v q key)
        (BitVec.ofNat 64 (bar2Clear g o wide data u * 2 ^ bar2Shift o wide)) (bar2Enable o wide) ∧
      (∀ k, k ≠ key → committedWord t q k = committedWord v q k) ∧ dueEntries q t = [] := by
  subst ht
  have hclock := (bar2Written_portsKept (g := g) (q := q) (key := key) (o := o) (wide := wide) (data := data) (u := u)
    (w := bar2Opened q key u)).clock
  have hempty : dueEntries q (bar2Written g q key o wide data u (bar2Opened q key u)) = [] :=
    (dueEntries_congr (bar2Written_queue.trans bar2Opened_queue) (hclock.trans bar2Opened_clock)).trans hd.empty
  have hold (k : Nat) : storedWord (bar2Opened q key u) q k = committedWord v q k := by
    rw [bar2Opened_words, ← committedWord_drained hd.empty, hd.words]
  refine ⟨?_, fun k hk => ?_, hempty⟩
  · rw [committedWord_drained hempty, bar2Written, storedWord_of_chg (epochCounted_chg ..), writeStored_word, hold]
  · rw [committedWord_drained hempty, bar2Written, storedWord_of_chg (epochCounted_chg ..), writeStored_other _ _ _ hk, hold]

end

/-! ### A write is asked for -/

section
variable {fn : PcieFn} {off : BitVec 36} {wide : Bool} {data : Word64} {s : State}

theorem exec_bar2Write (hup : s.up = true) : exec (.bar2Write fn off wide data) s = .next (bar2Write fn off wide data s) :=
  run_up _ hup

theorem bar2Write_covered {g : Grant} {q key : Nat} (hg : bar2Grant s fn (bar2Off off wide) true = some g)
    (hp : bar2Place s (bar2Off off wide) = some (q, key)) : bar2Write fn off wide data s =
      if bar2WriteOk s fn then bar2Store g q key (bar2Off off wide) wide data s else bar2Flag 2 s := by
  simp only [bar2Write, hg, hp]

theorem bar2Write_refused (h : bar2Grant s fn (bar2Off off wide) true = none ∨ bar2Place s (bar2Off off wide) = none) :
    bar2Write fn off wide data s =
      bar2Reported (bar2Grant s fn (bar2Off off wide) true) (bar2Place s (bar2Off off wide)) s := by
  unfold bar2Write
  dsimp only
  split
  · next hg hp => simp [hg, hp] at h
  · rfl

end

/-- Settles O39: reads by what port A or the burst fetches and by the errors of the word; writes by the queue that is drained
before them and the half or the whole word that they replace; refusals by their report. -/
theorem bar2Accesses : Obligations.Bar2Accesses := by
  refine ⟨fun fn off wide g q key s hup hg hp => ⟨?waits, ?completes⟩, fun s hup hnone => ?idle,
    fun fn off wide s hup hno => ⟨?refusedRead, fun rest hfirst => ?refusedCompletion⟩,
    fun fn off wide data g q key s hup hg hp => ⟨fun hdrop => ?dropped, fun x v u hok hclean hv hu hx => ?stored,
      fun hok hq h2 hempty => ?uncorrected⟩,
    fun n key s => ⟨bar2Begin_taken, bar2Begin_read⟩, fun fn off wide data s hup hno => ?refusedWrite⟩
  case waits => rw [exec_bar2Read hup, bar2Read_waits hg hp]
  case completes =>
    rintro rest s' hfirst rfl
    refine ⟨fun hq hport hwrite => ⟨fun hfree => ?_, fun hbusy => ?_⟩, fun hq htaken => ?_, fun hq => bar2Fetch_hbm hq,
      fun hnever => ?_, fun u hu => ?_⟩
    · rw [bar2Fetch_bank hq, bar2Present_performs (n := 4095) hport hwrite hfree]
      rfl
    · rw [bar2Fetch_bank hq, bar2Present_busy (n := 4095) hport hwrite hbusy]
    · rw [bar2Fetch_bank hq, bar2Present_stalls (n := 4095) htaken]
    · rw [exec_bar2ReadComplete hup, bar2Complete_fetches hfirst hg hp, bar2Taken, hnever]
    · have hchg := bar2Checked_chg (q := q) (key := key) (off := bar2Off off wide) (s := u)
      rw [exec_bar2ReadComplete hup, bar2Complete_fetches hfirst hg hp, bar2Taken, hu]
      dsimp only
      rw [bar2Answer_eq]
      refine ⟨_, _, _, rfl, rfl, rfl, rfl, hchg.same .mem (by decide), bar2Checked_bad, fun hq h1 => ?_, fun hgood hclean => ?_,
        (Chg.after (m := 67109010) (State_emit_chg ..) hchg).changes⟩
      · rw [bar2Checked_corrected hq h1]
        exact hbmCorrected_pendBit key u
      · rw [bar2Checked_none hgood hclean]
        exact (State_emit_chg ..).changes
  case idle => rw [exec_bar2ReadComplete hup, bar2Complete_idle hnone]
  case refusedRead =>
    rw [exec_bar2Read hup, bar2Read_refused hno]
    exact ⟨_, rfl, bar2Reported_denied, bar2Reported_unmapped, rfl, bar2Reported_regsBut,
      (Chg.after (m := 146) (State_emit_chg ..) bar2Reported_chg).changes⟩
  case refusedCompletion =>
    obtain ⟨f, hf, hcomplete⟩ := bar2Complete_refused hfirst hno
    have hregs (t : State) : RegsBut [Reg.MEM_BAR2_STATUS, pendReg 0x2E9] t (f t) := by
      rcases hf with rfl | rfl
      · exact bar2Denied_regsBut t
      · exact regsBut_mono (bar2Flag_regsBut 1 t) (by simp)
    have hchg (t : State) : Chg 146 t (f t) := by
      rcases hf with rfl | rfl
      · exact bar2Denied_chg t
      · exact .after (bar2Flag_chg 1 t) (.refl _ _)
    rw [exec_bar2ReadComplete hup, hcomplete]
    exact ⟨_, rfl, (hchg (bar2Taken rest s)).same .mem (by decide), rfl, hregs (bar2Taken rest s),
      (Chg.after (m := 32914) (State_emit_chg ..) (.after (hchg _) (.after (bar2Taken_chg rest s) (.refl _ _)))).changes⟩
  case dropped => rw [exec_bar2Write hup, bar2Write_covered hg hp, if_neg (Bool.eq_false_iff.mp hdrop), bar2Flag]
  case stored =>
    have hs (hq : 512 ≤ q) : v = s := hv.trans (if_neg (Nat.not_lt.mpr hq))
    have hdrained : Drained q v u := hu ▸ drainQueue_drained fun e he => by
      obtain ⟨hmem, hdue, heq⟩ := mem_dueEntries.mp he
      refine (Nat.lt_or_ge q 512).imp_right fun hq => ?_
      rw [hs hq] at hmem hdue ⊢
      exact (hclean.resolve_left (Nat.not_lt.mpr hq)).2 e hmem hdue heq
    have hecc : q < 512 ∨ eccOf u key ≠ 2 := (Nat.lt_or_ge q 512).imp_right fun hq => by
      rw [hdrained.ports.ecc, hs hq]
      exact (hclean.resolve_left (Nat.not_lt.mpr hq)).1
    obtain ⟨hword, hothers, hempty⟩ := bar2Written_words (g := g) (key := key) (o := bar2Off off wide) (wide := wide) (data := data)
      hdrained rfl
    have hports := bar2Written_portsKept (g := g) (q := q) (key := key) (o := bar2Off off wide) (wide := wide) (data := data)
      (u := u) (w := bar2Opened q key u)
    rw [exec_bar2Write hup, bar2Write_covered hg hp, if_pos hok, bar2Store_stores hv hu hecc]
    refine ⟨_, rfl, fun hport hread => ?free, fun hw => ?wide, fun hw i hi => ?half, fun hclear hw => ?clear, hothers,
      fun e he hdue => ?_, fun hq => ?window, fun hq => ?burst, fun hq hclear => ?bank, ?parts⟩
    case free =>
      rw [hv, bar2Begin_free hport hread]
      exact ite_self s
    case wide =>
      subst hw
      rw [hword, maskWord_wide, hx]
      rfl
    case half =>
      subst hw
      rw [hword, maskWord_half _ _ _ hi, hx]
      rfl
    case clear =>
      subst hw
      exact hx.trans (bar2Clear_unmasked hclear _ data u)
    case window =>
      rw [hports.windows, bar2Opened_bank hq, ← hdrained.ports.windows, ← hdrained.ports.clock]
      rfl
    case burst =>
      rw [hports.bursts, bar2Opened_hbm hq, (portsKept_of_chg (burstMended_chg ..)).bursts, ← hs hq, ← hdrained.ports.bursts]
      rfl
    case bank =>
      exact (Chg.after (m := 32768) (bar2Written_clear_chg hclear) (by
        rw [bar2Opened_bank hq]
        exact .after (openB_chg ..) (hdrained.bank hq))).changes
    case parts => exact (Chg.after (m := 67666066) bar2Written_chg (.after bar2Opened_chg (.after hdrained.chg (.refl _ _)))).changes
    · exact List.not_mem_nil (hempty ▸ mem_dueEntries.mpr ⟨he, hdue⟩)
  case uncorrected =>
    have hnone : dueEntries q s = [] := List.filter_eq_nil_iff.mpr fun e he => by
      have := List.any_eq_false.mp hempty e he
      simpa using this
    have hregs := epochCounted_regsBut g (bar2Flag 2 (hbmUncorrected (BitVec.ofNat 64 (bar2Off off wide)) 0 0 true
      (askBurst 6 key s)))
    have hmem : (bar2Flag 2 (hbmUncorrected (BitVec.ofNat 64 (bar2Off off wide)) 0 0 true (askBurst 6 key s))).mem =
        (askBurst 6 key s).mem :=
      (Chg.after (m := 146) (bar2Flag_chg ..) (hbmUncorrected_chg ..)).same .mem (by decide)
    rw [exec_bar2Write hup, bar2Write_covered hg hp, if_pos hok, bar2Store_uncorrected hq hnone h2]
    refine ⟨_, rfl, ?_, ?_, ?_, ?_, (Chg.after (m := 557202) (epochCounted_chg ..) (.after (bar2Flag_chg ..)
      (.after (hbmUncorrected_chg ..) (.after (askBurst_chg ..) (.refl _ _))))).changes⟩
    · exact (bit_of_reg (hregs _ (by decide)) 2).trans (bit_setBit_same _ true (by decide))
    · refine (bit_of_reg (hregs _ (by decide)) _).trans ((bar2Flag_pendBit (by decide) 2 _).trans (hbmUncorrected_pendBit ..))
    · rw [(epochCounted_chg ..).same .mem (by decide), hmem]
      rfl
    · rw [(epochCounted_chg ..).same .mem (by decide), hmem]
      rfl
  case refusedWrite =>
    rw [exec_bar2Write hup, bar2Write_refused hno]
    exact ⟨_, rfl, bar2Reported_denied, bar2Reported_unmapped, bar2Reported_regsBut, bar2Reported_chg.changes⟩

end Sys2Proof.Proofs
end

section
/-!
Proofs of the family 08_lanes_multimodule: what the steps of a lane port leave of the lane ports and of their registers.
-/
namespace Sys2Proof.Proofs
open Sys2Proof.Machine Sys2Proof.Laws

/-! ### What a step leaves of the lane ports -/

/-- From `s` to `t` the lane ports keep their states and LNK_CTRL, and no bit of a LNK_CAUSE clears. -/
structure LaneKept (s t : State) : Prop where
  ports : t.lnk.ports = s.lnk.ports
  ctrl : ∀ p, p < 16 → t.reg (lnkReg p 0) = s.reg (lnkReg p 0)
  cause : ∀ p, p < 16 → ∀ b, b < 32 → s.bit (lnkReg p 8) b = true → t.bit (lnkReg p 8) b = true

theorem lane_of_ports {s t : State} (h : t.lnk.ports = s.lnk.ports) (p : Nat) : t.lane p = s.lane p := by
  rw [State.lane, h, State.lane]

/-- The offset lies outside the windows of the lane ports. -/
def offLanes (o : Nat) : Bool := o < 0x900000 || 0x904000 ≤ o

theorem offLanes_iff {o : Nat} : offLanes o = true ↔ o < 0x900000 ∨ 0x904000 ≤ o := by simp [offLanes]

theorem ne_of_offLanes {o p k : Nat} (ho : offLanes o = true) (hp : p < 16) (hk : k < 0x400) : lnkReg p k ≠ o := by
  rw [offLanes_iff] at ho
  simp only [lnkReg]
  omega

theorem pendReg_offLanes {e : Nat} (he : e < 1536) : offLanes (pendReg e) = true := by
  rw [offLanes_iff, pendReg_eq]
  omega

namespace LaneKept

theorem refl (s : State) : LaneKept s s := ⟨rfl, fun _ _ => rfl, fun _ _ _ _ h => h⟩

theorem trans {s r t : State} (h : LaneKept s r) (k : LaneKept r t) : LaneKept s t :=
  ⟨k.ports.trans h.ports, fun p hp => (k.ctrl p hp).trans (h.ctrl p hp),
    fun p hp b hb hs => k.cause p hp b hb (h.cause p hp b hb hs)⟩

theorem lane {s t : State} (h : LaneKept s t) (p : Nat) : t.lane p = s.lane p := lane_of_ports h.ports p

theorem of_reg {s t : State} (hports : t.lnk.ports = s.lnk.ports)
    (h : ∀ p, p < 16 → ∀ k, k < 0x400 → t.reg (lnkReg p k) = s.reg (lnkReg p k)) : LaneKept s t :=
  ⟨hports, fun p hp => h p hp 0 (by decide), fun p hp b _ hs => by rwa [bit_eq, h p hp 8 (by decide), ← bit_eq]⟩

theorem of_regs {s t : State} (hports : t.lnk.ports = s.lnk.ports) (h : t.regs = s.regs) : LaneKept s t :=
  of_reg hports fun _ _ _ _ => reg_of_regs h _

/-- What changes neither the lanes nor the registers. -/
theorem of_chg {m : Nat} {s t : State} (h : Chg m s t) (hlnk : m.testBit 17 = false := by decide)
    (hregs : m.testBit 1 = false := by decide) : LaneKept s t := of_regs (by rw [h.same .lnk hlnk]) (h.same .regs hregs)

/-- What changes only registers outside the windows of the lane ports. -/
theorem of_regsBut {l : List Nat} {s t : State} (hports : t.lnk.ports = s.lnk.ports) (h : RegsBut l s t)
    (hl : l.all offLanes = true) : LaneKept s t :=
  of_reg hports fun _ hp _ hk => h _ fun hm => ne_of_offLanes (List.all_eq_true.mp hl _ hm) hp hk rfl

theorem setReg (s : State) {o : Nat} (v : Word32) (ho : offLanes o = true) : LaneKept s (s.setReg o v) :=
  of_regsBut rfl (regsBut_setReg s o v) (by simp [ho])

theorem setBit (s : State) {o : Nat} (i : Nat) (b : Bool) (ho : offLanes o = true) : LaneKept s (s.setBit o i b) :=
  of_regsBut rfl (regsBut_setBit s o i b) (by simp [ho])

theorem emit (s : State) (o : Output) : LaneKept s (s.emit o) := of_regs rfl rfl

theorem withLks (l : LksSt) (s : State) : LaneKept s { s with lks := l } := of_regs rfl rfl

theorem raise {e : Nat} (s : State) (he : e < 1536) : LaneKept s (raise e s) :=
  of_regsBut (by rw [(raise_chg ..).same .lnk (by decide)]) (regsBut_raise e s) (by simp [pendReg_offLanes he])

theorem each {α : Type} {f : α → State → State} (h : ∀ a t, LaneKept t (f a t)) (l : List α) (s : State) :
    LaneKept s (forEach l f s) := by
  induction l generalizing s with
  | nil => exact refl s
  | cons a l ih => exact (h a s).trans (ih (f a s))

theorem times {f : Nat → State → State} (h : ∀ k t, LaneKept t (f k t)) (n : Nat) (s : State) : LaneKept s (forN n f s) := by
  induction n with
  | zero => exact refl s
  | succ n ih => exact ih.trans (h n _)

end LaneKept

/-! ### Counters and causes -/

theorem satAdd_laneKept {o so b : Nat} {ev : Option Nat} (n : Nat) (s : State) (ho : offLanes o = true)
    (hso : offLanes so = true) (hev : ∀ e, ev = some e → e < 1536) : LaneKept s (satAdd o so b ev n s) :=
  .of_reg (by rw [(satAdd_chg ..).same .lnk (by decide)]) fun _ hp _ hk => satAdd_reg s (ne_of_offLanes ho hp hk)
    (ne_of_offLanes hso hp hk) fun e he => ne_of_offLanes (pendReg_offLanes (hev e he)) hp hk

/-- A count of a lane port stands beside LNK_CTRL and LNK_CAUSE. -/
theorem lnkCnt_reg {p q k j : Nat} (n : Nat) (s : State) (hk : k < 8) (hj : j < 0x40) :
    (lnkCnt p k n s).reg (lnkReg q j) = s.reg (lnkReg q j) := by
  refine satAdd_reg s ?_ ?_ (by simp) <;> (simp only [lnkReg]; omega)

theorem lnkCnt_laneKept {p k : Nat} (n : Nat) (s : State) (hk : k < 8) : LaneKept s (lnkCnt p k n s) := by
  refine ⟨by rw [(lnkCnt_chg ..).same .lnk (by decide)], fun q _ => lnkCnt_reg n s hk (by decide), fun q _ b _ hs => ?_⟩
  rwa [bit_eq, lnkCnt_reg n s hk (by decide), ← bit_eq]

/-- The cause register and the capture register of a cause, before its event. -/
def lnkCaught (p b lane : Nat) (s : State) : State :=
  causeSet (lnkReg p 8) b [(lnkReg p 0xC, BitVec.ofNat 32 (2 ^ 28 * (b + 1) + 2 ^ 26 * lane))] s

theorem lnkCause_eq (p b lane : Nat) (s : State) : lnkCause p b lane s =
    if s.bit (lnkReg p 8) b then lnkCaught p b lane s else raise (0x240 + 8 * p + b) (lnkCaught p b lane s) := rfl

theorem lnkCaught_bit {p b : Nat} (lane : Nat) (s : State) (hb : b < 32) : (lnkCaught p b lane s).bit (lnkReg p 8) b = true :=
  causeSet_bit _ s hb

theorem lnkCaught_laneKept {p : Nat} (b lane : Nat) (s : State) (hp : p < 16) : LaneKept s (lnkCaught p b lane s) := by
  refine ⟨by rw [lnkCaught, (causeSet_chg ..).same .lnk (by decide)], fun q hq => ?_, fun q hq i hi hs => ?_⟩
  · refine causeSet_reg s ?_ ?_ <;> (simp [lnkReg]; omega)
  · rw [bit_eq] at hs ⊢
    by_cases hqp : q = p
    · subst hqp
      exact causeSet_keeps hi (by simp [lnkReg]) hs
    · rwa [lnkCaught, causeSet_reg s (by simp [lnkReg]; omega) (by simp [lnkReg]; omega)]

theorem lnkCause_laneKept {p b : Nat} (lane : Nat) (s : State) (hp : p < 16) (hb : b < 8) : LaneKept s (lnkCause p b lane s) := by
  have hcaught := lnkCaught_laneKept b lane s hp
  rw [lnkCause_eq]
  split
  · exact hcaught
  · exact hcaught.trans (.raise _ (by omega))

/-- The cause is set (R77). -/
theorem lnkCause_bit {p b : Nat} (lane : Nat) (s : State) (hb : b < 32) : (lnkCause p b lane s).bit (lnkReg p 8) b = true := by
  have hcaught := lnkCaught_bit (p := p) lane s hb
  rw [lnkCause_eq]
  split
  · exact hcaught
  · rw [bit_eq] at hcaught ⊢
    exact raise_keeps hb hcaught

/-! ### Time, ledger and trace sink at a port that leaves ACTIVE -/

theorem clearMpd_laneKept {p : Nat} (s : State) : LaneKept s (clearMpd p s) := by
  have hmpd : offLanes (Reg.TIM_MPD + 16 * p) = true := by
    rw [offLanes_iff, Reg.TIM_MPD]
    omega
  exact (LaneKept.of_chg (m := 1048576) (s := s) (.upd (.refl _ _))).trans (.setReg _ _ hmpd)

theorem upstreamLost_laneKept (p : Nat) (s : State) : LaneKept s (upstreamLost p s) := by
  unfold upstreamLost timeHoldover
  split
  · split
    · exact (LaneKept.of_chg (m := 1048576) (s := s) (.upd (.refl _ _))).trans (.raise _ (by decide))
    · exact .refl s
  · exact .refl s

theorem ledAdd_laneKept (i n : Nat) (s : State) : LaneKept s (ledAdd i n s) :=
  .of_reg (by rw [(ledAdd_chg ..).same .lnk (by decide)]) fun _ hp _ hk => ledAdd_reg s (ne_of_offLanes (by decide) hp hk)
    (ne_of_offLanes (by decide) hp hk)

theorem lanesLedger_laneKept (p : Nat) (s : State) : LaneKept s (lanesLedger p s) := .times (fun _ _ => ledAdd_laneKept ..) 4 s

theorem lksCnt_laneKept {k : Nat} (n : Nat) (s : State) : LaneKept s (lksCnt k n s) := by
  refine satAdd_laneKept n s ?_ (by decide) (by rintro e ⟨⟩; decide)
  rw [offLanes_iff, Reg.LKS_CNT]
  omega

theorem lksCause_laneKept {ev : Nat} (b : Nat) (s : State) (hev : ev < 1536) : LaneKept s (lksCause b ev s) := by
  refine .trans (.of_regsBut (l := [Reg.LKS_CAUSE]) ?_ (fun o ho => ?_) (by decide)) (.raise _ hev)
  · rw [(causeSet_chg ..).same .lnk (by decide)]
  · exact causeSet_reg s (by simpa using ho) (by simp)

theorem losePacket_laneKept (s : State) : LaneKept s (losePacket s) := by
  have hcnt := (LaneKept.withLks { s.lks with losing := true, lost := s.lks.lost + 1 } s).trans (lksCnt_laneKept (k := 2) 1 _)
  unfold losePacket
  dsimp only
  split
  · exact hcnt
  · exact hcnt.trans (lksCause_laneKept 0 _ (by decide))

theorem enterPacket_laneKept (bs : List Byte) (s : State) : LaneKept s (enterPacket bs s) := by
  unfold enterPacket
  split
  · exact losePacket_laneKept s
  · exact ((LaneKept.withLks _ s).trans (lksCnt_laneKept 1 _)).trans (.of_chg (streamBytes_chg ..))

theorem putPacket_laneKept (bs : List Byte) (s : State) : LaneKept s (putPacket bs s) := by
  refine .trans ?_ (enterPacket_laneKept ..)
  unfold putWrap
  dsimp only
  split
  · exact .refl s
  · exact (LaneKept.withLks _ s).trans (enterPacket_laneKept ..)

theorem putAnchor_laneKept (s : State) : LaneKept s (putAnchor s) := by
  have hput := (LaneKept.withLks { s.lks with anchorDue := false, sinceAnchor := 0 } s).trans
    (putPacket_laneKept (anchorBytes { s with lks := { s.lks with anchorDue := false, sinceAnchor := 0 } }) _)
  unfold putAnchor
  dsimp only
  split
  · exact hput
  · exact hput.trans ((LaneKept.withLks _ _).trans (lksCnt_laneKept 1 _))

theorem putIdle_laneKept (s : State) : LaneKept s (putIdle s) := by
  unfold putIdle
  dsimp only
  split
  · exact .refl s
  · exact (LaneKept.withLks _ s).trans (putPacket_laneKept ..)

theorem lksRecover_laneKept (s : State) : LaneKept s (lksRecover s) := by
  unfold lksRecover
  dsimp only
  split
  · exact .refl s
  · refine (putIdle_laneKept s).trans ?_
    split
    · exact ((LaneKept.withLks _ _).trans (putPacket_laneKept ..)).trans (putAnchor_laneKept _)
    · exact .refl _

theorem lksDisarm_laneKept (s : State) : LaneKept s (lksDisarm s) := by
  unfold lksDisarm
  split
  · have hflush : LaneKept s (lksFlush s) := (putIdle_laneKept s).trans (.of_chg (endBlock_chg _))
    exact ((hflush.trans (.withLks _ _)).trans (.setBit _ 0 false (by decide))).trans (.of_chg (lksPressure_chg _))
  · exact .setBit s 0 false (by decide)

theorem sinkLost_laneKept (s : State) : LaneKept s (sinkLost s) := by
  have hpressed : ∀ u : State, LaneKept u (lksPressure u) := fun u => .of_chg (lksPressure_chg u)
  have hlost : ∀ (n : Nat) (l : LksSt) (u : State), LaneKept u (lksCause 1 0x421 (lksCnt 2 n { u with lks := l })) :=
    fun n l u => ((LaneKept.withLks l u).trans (lksCnt_laneKept n _)).trans (lksCause_laneKept 1 _ (by decide))
  unfold sinkLost
  split
  · exact .refl s
  · dsimp only
    split
    · exact ((hlost ..).trans ((LaneKept.withLks _ _).trans (lksCnt_laneKept 1 _))).trans
        ((lksRecover_laneKept _).trans (hpressed _))
    · exact ((lksDisarm_laneKept s).trans (hlost ..)).trans (hpressed _)

theorem traceLeft_laneKept (s : State) : LaneKept s (traceLeft s) := by
  unfold traceLeft loseSink
  split
  · split
    · exact sinkLost_laneKept s
    · exact .refl s
  · exact .refl s

/-! ### Discards and the fault stop -/

theorem cyclesLeft_ports (keep : Word64 → Bool) (s : State) : (cyclesLeft keep s).lnk.ports = s.lnk.ports := rfl

theorem twoCounts_lnk (m n : Nat) (s : State) : (spcAdd 5 n (spcAdd 4 m s)).lnk = s.lnk := by
  rw [(spcAdd_chg ..).same .lnk (by decide), (spcAdd_chg ..).same .lnk (by decide)]

theorem discardCycles_ports (keep : Word64 → Bool) (s : State) : (discardCycles keep s).lnk.ports = s.lnk.ports := by
  rw [discardCycles_eq, (dspDiscard_chg ..).same .lnk (by decide), (dropMem_chg ..).same .lnk (by decide), cyclesLeft_ports,
    discardsCounted, twoCounts_lnk]

theorem endDiscarded_ports (e : Exec) (clks : Nat) (s : State) : (endDiscarded e clks s).lnk.ports = s.lnk.ports := by
  unfold endDiscarded
  dsimp only
  rw [discardCycles_ports, twoCounts_lnk]

theorem execEnded_ports (s : State) : (execEnded s).lnk.ports = s.lnk.ports := by
  unfold execEnded
  split
  · exact endDiscarded_ports ..
  · rfl

/-- What a fault stop does before its events leaves the lanes what the discard of the cycles left. -/
theorem stopped_ports (s : State) : (setPause (inFaultStop (uncommittedDropped s))).lnk.ports =
    (discardCycles (fun c => cycLe c (execEnded s).sch.committed) (execEnded s)).lnk.ports := rfl

theorem faultStop_ports (s : State) : (faultStop s).lnk.ports = s.lnk.ports := by
  by_cases h : s.sch.st = .faultStop
  · rw [faultStop_again h]
  · rw [faultStop_eq h, (ledAdd_chg ..).same .lnk (by decide), (raise_chg ..).same .lnk (by decide), stopped_ports,
      discardCycles_ports, execEnded_ports]

theorem faultStop_laneKept (s : State) : LaneKept s (faultStop s) :=
  .of_regsBut (faultStop_ports s) (faultStop_regsBut s) (by decide)

theorem cutExec_laneKept (s : State) : LaneKept s (cutExec s) := by
  refine .of_regs ?_ (cutExec_regs s)
  unfold cutExec
  split <;> rfl

/-! ### Steps of one lane port -/

/-- From `s` to `t` lane port `p` comes to stand as `l`; the other ports and every LNK_CTRL stay, and no bit of a LNK_CAUSE
clears. -/
structure PortStep (p : Nat) (l : LanePort) (s t : State) : Prop where
  lane : t.lane p = l
  others : ∀ q, q ≠ p → t.lane q = s.lane q
  ctrl : ∀ q, q < 16 → t.reg (lnkReg q 0) = s.reg (lnkReg q 0)
  cause : ∀ q, q < 16 → ∀ b, b < 32 → s.bit (lnkReg q 8) b = true → t.bit (lnkReg q 8) b = true

namespace PortStep

theorem setLane (p : Nat) (l : LanePort) (s : State) : PortStep p l s (s.setLane p l) :=
  ⟨lane_setLane_same s p l, fun _ hq => lane_setLane_other s l hq, fun _ _ => rfl, fun _ _ _ _ h => h⟩

theorem kept {s t : State} (p : Nat) (h : LaneKept s t) : PortStep p (s.lane p) s t :=
  ⟨h.lane p, fun q _ => h.lane q, h.ctrl, h.cause⟩

theorem trans {p : Nat} {l m : LanePort} {s r t : State} (h : PortStep p l s r) (k : PortStep p m r t) : PortStep p m s t :=
  ⟨k.lane, fun q hq => (k.others q hq).trans (h.others q hq), fun q hq => (k.ctrl q hq).trans (h.ctrl q hq),
    fun q hq b hb hs => k.cause q hq b hb (h.cause q hq b hb hs)⟩

/-- A step of the port, and then one that keeps the ports. -/
theorem andKept {p : Nat} {l : LanePort} {s r t : State} (h : PortStep p l s r) (k : LaneKept r t) : PortStep p l s t :=
  h.trans (h.lane ▸ kept p k)

theorem afterKept {p : Nat} {l : LanePort} {s r t : State} (h : LaneKept s r) (k : PortStep p l r t) : PortStep p l s t :=
  (kept p h).trans k

theorem ctrlRole {p : Nat} {l : LanePort} {s t : State} (h : PortStep p l s t) {q : Nat} (hq : q < 16) :
    ctrlRole t q = ctrlRole s q := by
  rw [Machine.ctrlRole, State.fld, h.ctrl q hq, Machine.ctrlRole, State.fld]

end PortStep

theorem LaneKept.ctrlRole {s t : State} (h : LaneKept s t) {p : Nat} (hp : p < 16) : ctrlRole t p = ctrlRole s p :=
  (PortStep.kept p h).ctrlRole hp

end Sys2Proof.Proofs
end

section
/-!
Proofs of the family 08_lanes_multimodule: how each step of a lane port leaves the port.
-/
namespace Sys2Proof.Proofs
open Sys2Proof.Machine Sys2Proof.Laws

/-! ### Commands of a lane port -/

section
variable {p : BitVec 4} {f : Nat → State → State} {s : State}

theorem run_onPort (hup : s.up = true) (hp : p.toNat < s.lanePorts) : run (onPort p f) s = .next (f p.toNat s) := by
  rw [run_up _ hup, onPort, if_pos hp]

theorem run_onPort_absent (hup : s.up = true) (hp : s.lanePorts ≤ p.toNat) : run (onPort p f) s = .next s := by
  rw [run_up _ hup, onPort, if_neg (Nat.not_lt.mpr hp)]

/-- A step that would leave the state as it is does so on a port that the grade lacks, too. -/
theorem run_onPort_idle (hup : s.up = true) (h : f p.toNat s = s) : run (onPort p f) s = .next s := by
  rw [run_up _ hup, onPort]
  split
  · rw [h]
  · rfl

end

/-! ### What leaves on the lanes -/

theorem forN_emit (n : Nat) (o : Output) (s : State) :
    forN n (fun _ s => s.emit o) s = { s with out := List.replicate n o ++ s.out } := by
  induction n with
  | zero => rfl
  | succ n ih =>
    rw [forN, ih]
    rfl

theorem forEach_emit {α : Type} (f : α → Output) (l : List α) (s : State) :
    forEach l (fun a s => s.emit (f a)) s = { s with out := (l.map f).reverse ++ s.out } := by
  induction l generalizing s with
  | nil => rfl
  | cons a l ih =>
    refine (ih (s.emit (f a))).trans ?_
    simp [State.emit]

theorem withOut_laneKept (l : List Output) (s : State) : LaneKept s { s with out := l } := .of_regs rfl rfl

/-! ### Training traffic (R256) -/

theorem sendTrain_eq (p : Nat) (s : State) : sendTrain p s =
    { s.setLane p { s.lane p with bcnt := (s.lane p).bcnt + 16 } with
      out := List.replicate 15 (.laneBlock p (dataStripe 0 0)) ++ .laneBlock p (trainStripe (s.lane p).bcnt) :: s.out } :=
  forN_emit ..

theorem sendTrain_step (p : Nat) (s : State) :
    PortStep p { s.lane p with bcnt := (s.lane p).bcnt + 16 } s (sendTrain p s) := by
  rw [sendTrain_eq]
  exact (PortStep.setLane p _ s).andKept (withOut_laneKept _ _)

/-- The training state that a port stands in, within RECOVERY too. -/
def LanePort.train (l : LanePort) : LaneState := if l.st = .recovery then l.sub else l.st

theorem trainState_eq (s : State) (p : Nat) : trainState s p = LanePort.train (s.lane p) := rfl

/-- The port with its training state replaced. -/
def LanePort.withTrain (l : LanePort) (st : LaneState) : LanePort :=
  if l.st = .recovery then { l with sub := st } else { l with st := st }

theorem train_withTrain (l : LanePort) {st : LaneState} (h : st ≠ .recovery) :
    LanePort.train (LanePort.withTrain l st) = st := by
  by_cases hr : l.st = .recovery
  · rw [LanePort.withTrain, if_pos hr, LanePort.train]
    exact if_pos hr
  · rw [LanePort.withTrain, if_neg hr, LanePort.train]
    exact if_neg h

theorem withTrain_recovery {l : LanePort} (st : LaneState) (h : l.st = .recovery) : (LanePort.withTrain l st).st = .recovery := by
  rw [LanePort.withTrain, if_pos h]
  exact h

theorem trainTo_eq (p : Nat) (st : LaneState) (s : State) : trainTo p st s =
    if st = .exchange then s.setLane p (LanePort.withTrain (s.lane p) st)
    else sendTrain p (s.setLane p (LanePort.withTrain (s.lane p) st)) := rfl

/-- A lane port of the grade in training: TRAIN blocks leave, and BCNT counts them. -/
theorem trainTo_step (p : Nat) {st : LaneState} (s : State) (h : st ≠ .exchange) :
    PortStep p { LanePort.withTrain (s.lane p) st with bcnt := (LanePort.withTrain (s.lane p) st).bcnt + 16 } s
      (trainTo p st s) := by
  have hset := PortStep.setLane p (LanePort.withTrain (s.lane p) st) s
  have hsend := hset.trans (sendTrain_step p _)
  rw [trainTo_eq, if_neg h]
  rwa [hset.lane] at hsend

theorem sendCaps_eq (n : Nat) (seen : Bool) (p : Nat) (s : State) : sendCaps n seen p s =
    { s.setLane p { s.lane p with pedTx := pedigreeWord s p } with
      out := List.replicate n (.laneBlock p (capsBlock s p seen)) ++ s.out } := forN_emit ..

theorem sendCaps_step (n : Nat) (seen : Bool) (p : Nat) (s : State) :
    PortStep p { s.lane p with pedTx := pedigreeWord s p } s (sendCaps n seen p s) := by
  rw [sendCaps_eq]
  exact (PortStep.setLane p _ s).andKept (withOut_laneKept _ _)

/-! ### A port that comes to stand in DETECT, DISABLED or HALT (R255, R260) -/

/-- DETECT, or DISABLED where the role, a park or a test of the TAP says so. -/
def fallState (s : State) (p : Nat) : LaneState :=
  if ctrlRole s p = 2 ∨ (s.lane p).parked = true ∨ disruptive s.host.jtag = true then .disabled else .detect

/-- The port in such a state, with nothing left of what it held for its peer. -/
def portEntered (st : LaneState) (s : State) (p : Nat) : LanePort :=
  { s.lane p with
    st := st, sub := .pattern, role := ctrlRole s p, locked := 0,
    txSeq := 0, rxSeq := 0, nakDue := false, nakSend := false, nakRx := none, outstanding := [], inbox := [], ctrlCount := 0 }

/-- The state that `portTo` gives a port. -/
def fallFrom (st : LaneState) (s : State) (p : Nat) : LaneState :=
  if st = .detect ∧ (ctrlRole s p = 2 ∨ (s.lane p).parked = true ∨ disruptive s.host.jtag = true) then .disabled else st

theorem fallFrom_detect (s : State) (p : Nat) : fallFrom .detect s p = fallState s p := by simp [fallFrom, fallState]

theorem fallFrom_halt (s : State) (p : Nat) : fallFrom .halt s p = .halt := rfl

/-- The port stands in `st`; in DETECT its measurements have ended. -/
def portPlaced (p : Nat) (st : LaneState) (s : State) : State :=
  if st = .detect then clearMpd p (s.setLane p (portEntered st s p)) else s.setLane p (portEntered st s p)

/-- A link that was up is noted as down: time, cause, ledger and trace sink. -/
def linkDownNoted (p : Nat) (was : LaneState) (s : State) : State :=
  traceLeft (lanesLedger p (lnkCause p 0 0 (if was = .active then upstreamLost p s else s)))

/-- The link is down; a port that the design or the wave uses stops the module (R22). -/
def linkDown (p : Nat) (was : LaneState) (s : State) : State :=
  if dropFatal (linkDownNoted p was s) p then faultStop (linkDownNoted p was s) else linkDownNoted p was s

theorem portTo_eq (p : Nat) (st : LaneState) (s : State) : portTo p st s =
    if !((s.lane p).st == .active || (s.lane p).st == .recovery) then portPlaced p (fallFrom st s p) s
    else linkDown p (s.lane p).st (portPlaced p (fallFrom st s p) s) := rfl

section
variable {p : Nat}

theorem portPlaced_step (st : LaneState) (s : State) : PortStep p (portEntered st s p) s (portPlaced p st s) := by
  have hset := PortStep.setLane p (portEntered st s p) s
  unfold portPlaced
  split
  · exact hset.andKept (clearMpd_laneKept _)
  · exact hset

theorem portPlaced_chg (st : LaneState) (s : State) : Chg 1179650 s (portPlaced p st s) :=
  .ite (.after (clearMpd_chg ..) (.after (State_setLane_chg ..) (.refl _ _))) (.after (State_setLane_chg ..) (.refl _ _))

theorem linkDownNoted_laneKept (was : LaneState) (s : State) (hp : p < 16) : LaneKept s (linkDownNoted p was s) := by
  have htime : LaneKept s (if was = .active then upstreamLost p s else s) := by
    split
    · exact upstreamLost_laneKept p s
    · exact .refl s
  exact ((htime.trans (lnkCause_laneKept 0 _ hp (by decide))).trans (lanesLedger_laneKept ..)).trans (traceLeft_laneKept _)

theorem linkDownNoted_bit (was : LaneState) (s : State) (hp : p < 16) :
    (linkDownNoted p was s).bit (lnkReg p 8) 0 = true :=
  ((lanesLedger_laneKept ..).trans (traceLeft_laneKept _)).cause p hp 0 (by decide) (lnkCause_bit 0 _ (by decide))

theorem linkDown_laneKept (was : LaneState) (s : State) (hp : p < 16) : LaneKept s (linkDown p was s) := by
  have hnoted := linkDownNoted_laneKept was s hp
  unfold linkDown
  split
  · exact hnoted.trans (faultStop_laneKept _)
  · exact hnoted

theorem linkDown_bit (was : LaneState) (s : State) (hp : p < 16) : (linkDown p was s).bit (lnkReg p 8) 0 = true := by
  have hnoted := linkDownNoted_bit was s hp
  unfold linkDown
  split
  · exact (faultStop_laneKept _).cause p hp 0 (by decide) hnoted
  · exact hnoted

theorem portTo_step (st : LaneState) (s : State) (hp : p < 16) :
    PortStep p (portEntered (fallFrom st s p) s p) s (portTo p st s) := by
  have hplaced := portPlaced_step (p := p) (fallFrom st s p) s
  rw [portTo_eq]
  split
  · exact hplaced
  · exact hplaced.andKept (linkDown_laneKept _ _ hp)

/-- From ACTIVE and from RECOVERY the link goes down. -/
theorem portTo_linkDown (st : LaneState) {s : State} (hp : p < 16)
    (h : (s.lane p).st = .active ∨ (s.lane p).st = .recovery) : (portTo p st s).bit (lnkReg p 8) 0 = true := by
  rw [portTo_eq, if_neg (by rcases h with h | h <;> simp [h])]
  exact linkDown_bit _ _ hp

/-- A port whose link is not up takes nothing with it. -/
theorem portTo_quiet_chg (st : LaneState) {s : State} (hactive : (s.lane p).st ≠ .active)
    (hrec : (s.lane p).st ≠ .recovery) : Chg 1179650 s (portTo p st s) := by
  rw [portTo_eq, if_pos (by simp [hactive, hrec])]
  exact portPlaced_chg ..

end

/-! ### A cause that a port falls by -/

theorem msixSend_jtag (fn : PcieFn) (v : Nat) (s : State) : (msixSend fn v s).host.jtag = s.host.jtag := by
  unfold msixSend
  dsimp only
  split
  · rfl
  · cases fn <;> rfl

theorem deliver_jtag (e : Nat) (s : State) : (deliver e s).host.jtag = s.host.jtag := by
  unfold deliver
  dsimp only
  split
  · rw [msixSend_jtag, msixSend_jtag]
  · rw [msixSend_jtag]

/-- No event changes the instruction of the TAP. -/
theorem raise_jtag (e : Nat) (s : State) : (raise e s).host.jtag = s.host.jtag := by
  unfold raise
  split
  · rfl
  · dsimp only
    split
    · split
      · rfl
      · exact deliver_jtag ..
    · split
      · rfl
      · exact deliver_jtag ..

theorem lnkCause_jtag (p b lane : Nat) (s : State) : (lnkCause p b lane s).host.jtag = s.host.jtag := by
  have hcaught : (lnkCaught p b lane s).host = s.host := (causeSet_chg ..).same .host (by decide)
  rw [lnkCause_eq]
  split
  · rw [hcaught]
  · rw [raise_jtag, hcaught]

section
variable {p b : Nat} (lane : Nat) (s : State)

theorem fallState_lnkCause (hp : p < 16) (hb : b < 8) : fallState (lnkCause p b lane s) p = fallState s p := by
  have hkept := lnkCause_laneKept lane s hp hb
  rw [fallState, hkept.ctrlRole hp, hkept.lane, lnkCause_jtag, fallState]

theorem portEntered_lnkCause (st : LaneState) (hp : p < 16) (hb : b < 8) :
    portEntered st (lnkCause p b lane s) p = portEntered st s p := by
  have hkept := lnkCause_laneKept lane s hp hb
  rw [portEntered, hkept.ctrlRole hp, hkept.lane, portEntered]

/-- A cause, and the port falls. -/
theorem portFalls_step (hp : p < 16) (hb : b < 8) :
    PortStep p (portEntered (fallState s p) s p) s (portTo p .detect (lnkCause p b lane s)) := by
  have hfall := portTo_step .detect (lnkCause p b lane s) hp
  rw [fallFrom_detect, fallState_lnkCause lane s hp hb, portEntered_lnkCause lane s _ hp hb] at hfall
  exact .afterKept (lnkCause_laneKept lane s hp hb) hfall

theorem portHalts_step (hp : p < 16) (hb : b < 8) :
    PortStep p (portEntered .halt s p) s (portTo p .halt (lnkCause p b lane s)) := by
  have hfall := portTo_step .halt (lnkCause p b lane s) hp
  rw [fallFrom_halt, portEntered_lnkCause lane s _ hp hb] at hfall
  exact .afterKept (lnkCause_laneKept lane s hp hb) hfall

/-- The cause stands after the port has fallen. -/
theorem portTo_lnkCause_bit (st : LaneState) (hp : p < 16) (hb : b < 8) :
    (portTo p st (lnkCause p b lane s)).bit (lnkReg p 8) b = true :=
  (portTo_step st _ hp).cause p hp b (by omega) (lnkCause_bit lane s (by omega))

theorem portTo_lnkCause_linkDown (st : LaneState) {s : State} (hp : p < 16) (hb : b < 8)
    (h : (s.lane p).st = .active ∨ (s.lane p).st = .recovery) :
    (portTo p st (lnkCause p b lane s)).bit (lnkReg p 8) 0 = true :=
  portTo_linkDown st hp (by rwa [(lnkCause_laneKept lane s hp hb).lane])

theorem portTo_lnkCause_quiet_chg (st : LaneState) {s : State} (hp : p < 16) (hb : b < 8)
    (hactive : (s.lane p).st ≠ .active) (hrec : (s.lane p).st ≠ .recovery) :
    Chg 1179794 s (portTo p st (lnkCause p b lane s)) := by
  have hlane := (lnkCause_laneKept lane s hp hb).lane p
  exact .after (portTo_quiet_chg st (by rwa [hlane]) (by rwa [hlane])) (.after (lnkCause_chg ..) (.refl _ _))

end

/-! ### RECOVERY (R254, R260) -/

/-- The port as it enters RECOVERY, with its TRAIN block sent. -/
def recovering (l : LanePort) : LanePort := { l with st := .recovery, sub := .pattern, bcnt := l.bcnt + 16 }

section
variable {p : Nat} (lane : Nat) (s : State)

/-- The port trains again; its link is still to be noted. -/
def retraining (p : Nat) (s : State) : State :=
  sendTrain p (clearMpd p (s.setLane p { s.lane p with st := .recovery, sub := .pattern }))

theorem enterRecovery_eq : enterRecovery p lane s = traceLeft (lanesLedger p (lnkCnt p 3 1 (lnkCause p 1 lane
    (upstreamLost p (retraining p s))))) := rfl

theorem retraining_step : PortStep p (recovering (s.lane p)) s (retraining p s) := by
  have hset := (PortStep.setLane p { s.lane p with st := .recovery, sub := .pattern } s).andKept (clearMpd_laneKept (p := p) _)
  have hsend := hset.trans (sendTrain_step p _)
  rw [hset.lane] at hsend
  exact hsend

theorem enterRecovery_step (hp : p < 16) : PortStep p (recovering (s.lane p)) s (enterRecovery p lane s) := by
  rw [enterRecovery_eq]
  exact (((((retraining_step s).andKept (upstreamLost_laneKept ..)).andKept (lnkCause_laneKept lane _ hp (by decide))).andKept
    (lnkCnt_laneKept 1 _ (by decide))).andKept (lanesLedger_laneKept ..)).andKept (traceLeft_laneKept _)

theorem enterRecovery_bit (hp : p < 16) : (enterRecovery p lane s).bit (lnkReg p 8) 1 = true := by
  rw [enterRecovery_eq]
  exact (((lnkCnt_laneKept 1 _ (by decide)).trans (lanesLedger_laneKept ..)).trans (traceLeft_laneKept _)).cause p hp 1 (by decide)
    (lnkCause_bit lane _ (by decide))

end

/-! ### Acknowledged groups and groups sent again (R253, R274) -/

/-- The port with the groups that an ACK covers gone from its replay buffer. -/
def LanePort.acked (l : LanePort) (ack : BitVec 8) : LanePort :=
  if l.outstanding.any (fun g => g.gseq == ack) then
    { l with outstanding := (l.outstanding.dropWhile (fun g => g.gseq != ack)).drop 1 }
  else l

theorem acked_eq (l : LanePort) (ack : BitVec 8) :
    LanePort.acked l ack = { l with outstanding := (LanePort.acked l ack).outstanding } := by
  unfold LanePort.acked
  split <;> rfl

theorem takeAck_step (ack : BitVec 8) (p : Nat) (s : State) :
    PortStep p (LanePort.acked (s.lane p) ack) s (takeAck ack p s) := by
  unfold LanePort.acked takeAck
  dsimp only
  split
  · exact .setLane p _ s
  · exact .kept p (.refl s)

/-- The state in which a port's groups are sent again. -/
def resent (p : Nat) (s : State) : State :=
  timeDropped p ((s.lane p).outstanding.flatMap (fun g => g.parts)) (lnkCnt p 2 ((s.lane p).outstanding.map againGroup).length
    (s.setLane p { s.lane p with outstanding := (s.lane p).outstanding.map againGroup }))

/-- A group of the replay buffer as it leaves again. -/
def groupOut (p : Nat) (l : LanePort) (g : OutGroup) : Output :=
  .laneGroup p (groupStripes g.gseq (l.rxSeq - 1) false g.parts)

theorem resendAll_eq (p : Nat) (s : State) : resendAll p s =
    { resent p s with
      out := (((s.lane p).outstanding.map againGroup).map (groupOut p (s.lane p))).reverse ++ (resent p s).out } :=
  forEach_emit (groupOut p (s.lane p)) _ _

theorem resent_step (p : Nat) (s : State) :
    PortStep p { s.lane p with outstanding := (s.lane p).outstanding.map againGroup } s (resent p s) :=
  ((PortStep.setLane p _ s).andKept (lnkCnt_laneKept _ _ (by decide))).andKept (.of_chg (timeDropped_chg ..))

theorem resendAll_step (p : Nat) (s : State) :
    PortStep p { s.lane p with outstanding := (s.lane p).outstanding.map againGroup } s (resendAll p s) := by
  rw [resendAll_eq]
  exact (resent_step p s).andKept (withOut_laneKept _ _)

/-! ### What a port sends (R245, R253) -/

/-- From `l` to `m` only what sending changes differs. -/
def SentOnly (l m : LanePort) : Prop :=
  m = { l with txSeq := m.txSeq, nakSend := m.nakSend, waveQ := m.waveQ, outstanding := m.outstanding
               ctrlCount := m.ctrlCount, pedTx := m.pedTx }

namespace SentOnly
variable {l m : LanePort}

theorem refl (l : LanePort) : SentOnly l l := rfl

theorem st (h : SentOnly l m) : m.st = l.st := by
  unfold SentOnly at h
  rw [h]

theorem desync (h : SentOnly l m) : m.desync = l.desync := by
  unfold SentOnly at h
  rw [h]

theorem pedRx (h : SentOnly l m) : m.pedRx = l.pedRx := by
  unfold SentOnly at h
  rw [h]

theorem pedSeen (h : SentOnly l m) : m.pedSeen = l.pedSeen := by
  unfold SentOnly at h
  rw [h]

theorem pedBlocks (h : SentOnly l m) : m.pedBlocks = l.pedBlocks := by
  unfold SentOnly at h
  rw [h]

end SentOnly

/-- The pedigree word tells of the port DESYNC alone (R262). -/
theorem pedigreeWord_of_lane {p : Nat} {s t : State} (hchg : Chg 131088 s t)
    (hdesync : (t.lane p).desync = (s.lane p).desync) : pedigreeWord t p = pedigreeWord s p := by
  unfold pedigreeWord runDigest runBit platTag
  rw [hdesync, hchg.same .img (by decide), hchg.same .plat (by decide), hchg.same .sch (by decide),
    hchg.same .staged (by decide), hchg.same .tim (by decide)]

/-- The port after a control block that no group holds. -/
def LanePort.blockSent (l : LanePort) (ped : BitVec 128) : LanePort :=
  { l with ctrlCount := l.ctrlCount + 1, nakSend := false, pedTx := if l.ctrlCount % 256 == 0 then ped else l.pedTx }

/-- The port after a group. -/
def LanePort.groupSent (l : LanePort) (d : GroupDraft) (carries : Bool) (ped : BitVec 128) : LanePort :=
  { l with
    outstanding := l.outstanding ++ [{ gseq := l.txSeq, sent := 1, parts := d.parts }]
    txSeq := l.txSeq + 1, ctrlCount := d.count, nakSend := false
    waveQ := if carries then d.waves else l.waveQ
    pedTx := if pedigreeDue l.ctrlCount d.count then ped else l.pedTx }

theorem blockSent_sentOnly (l : LanePort) (ped : BitVec 128) : SentOnly l (LanePort.blockSent l ped) := rfl

theorem groupSent_sentOnly (l : LanePort) (d : GroupDraft) (carries : Bool) (ped : BitVec 128) :
    SentOnly l (LanePort.groupSent l d carries ped) := rfl

section
variable {p : Nat} {s : State} (items : List LanePart)

theorem sendGroup_silent (h : (s.lane p).st ≠ .active) : sendGroup p items s = s := if_pos h

theorem sendBlock_eq (x : LanePart) : sendBlock p x s =
    (s.setLane p (LanePort.blockSent (s.lane p) (pedigreeWord s p))).emit (.laneBlock p (ctrlStripe (s.lane p).txSeq
      ((s.lane p).rxSeq - 1) (s.lane p).nakSend (if (s.lane p).ctrlCount % 256 == 0 then .pedigree (pedigreeWord s p) else x))) :=
  rfl

theorem sendGroup_full (hst : (s.lane p).st = .active) (hroom : laneRoom s p = false) :
    sendGroup p items s = sendBlock p .idle s := (if_neg (by simp [hst])).trans (if_pos (by simp [hroom]))

theorem sendGroup_room (hst : (s.lane p).st = .active) (hroom : laneRoom s p = true) : sendGroup p items s =
    (s.setLane p (LanePort.groupSent (s.lane p) (draftGroup s p items) (carriesDesign s p) (pedigreeWord s p))).emit
      (.laneGroup p (groupStripes (s.lane p).txSeq ((s.lane p).rxSeq - 1) (s.lane p).nakSend (draftGroup s p items).parts)) :=
  (if_neg (by simp [hst])).trans (if_neg (by simp [hroom]))

theorem sendBlock_step (x : LanePart) :
    PortStep p (LanePort.blockSent (s.lane p) (pedigreeWord s p)) s (sendBlock p x s) := by
  rw [sendBlock_eq]
  exact (PortStep.setLane p _ s).andKept (.emit _ _)

theorem sendGroup_room_step (hst : (s.lane p).st = .active) (hroom : laneRoom s p = true) :
    PortStep p (LanePort.groupSent (s.lane p) (draftGroup s p items) (carriesDesign s p) (pedigreeWord s p)) s
      (sendGroup p items s) := by
  rw [sendGroup_room items hst hroom]
  exact (PortStep.setLane p _ s).andKept (.emit _ _)

/-- Sending changes nothing of the port but what it has sent. -/
theorem sendGroup_step : ∃ l, SentOnly (s.lane p) l ∧ PortStep p l s (sendGroup p items s) := by
  by_cases hst : (s.lane p).st = .active
  · cases hroom : laneRoom s p with
    | false =>
      rw [sendGroup_full items hst hroom]
      exact ⟨_, blockSent_sentOnly .., sendBlock_step _⟩
    | true => exact ⟨_, groupSent_sentOnly .., sendGroup_room_step items hst hroom⟩
  · rw [sendGroup_silent items hst]
    exact ⟨_, .refl _, .kept p (.refl s)⟩

theorem flushWaves_step : ∃ l, SentOnly (s.lane p) l ∧ PortStep p l s (flushWaves p s) := by
  unfold flushWaves
  split
  · exact sendGroup_step []
  · exact ⟨_, .refl _, .kept p (.refl s)⟩

/-- Without a WAVE message that waits, and on a port that is not ACTIVE, nothing is flushed. -/
theorem flushWaves_idle (h : (s.lane p).waveQ = [] ∨ (s.lane p).st ≠ .active) : flushWaves p s = s := by
  refine if_neg ?_
  rcases h with h | h <;> simp [h, carriesDesign, activeDesign]

end

/-! ### A pedigree word (R263 to R266) -/

/-- A row of R264 marked "None" applies to the word. -/
def pedBlocked (s : State) (p : Nat) (w : BitVec 128) : Bool :=
  !(pedImg w) || !s.img.valid || pedImage w != digestFor s w || pedPlatform w != platTag s || wrongPeer s p

/-- The rows of R264 for the image, the platform and the peer. -/
def rowsNoted (p : Nat) (w : BitVec 128) (s : State) : State :=
  let dig := pedImg w && s.img.valid && pedImage w != digestFor s w
  let s0 := s.setLane p { s.lane p with pedBlocks := pedBlocked s p w }
  let s1 := if dig || pedPlatform w != platTag s then lnkCause p 3 0 s0 else s0
  if wrongPeer s p then lnkCause p 5 0 s1 else s1

/-- R265: a sender whose cycle is too far from the module's. -/
def cycleJudged (p : Nat) (w : BitVec 128) (s : State) : State :=
  if pedRun w && runBit s && 4 ≤ pedAhead s w && pedAhead s w ≤ 2 ^ 24 - 4 then enterDesync p s else s

/-- R281: a sender that has no time. -/
def timeJudged (p : Nat) (w : BitVec 128) (s : State) : State := if pedTsync w = 0 then upstreamLost p s else s

/-- What the word says, before the TIME row and what leaves then. -/
def pedigreeJudged (p : Nat) (w : BitVec 128) (s : State) : State := timeJudged p w (cycleJudged p w (rowsNoted p w s))

theorem pedigreeRows_eq (p : Nat) (w : BitVec 128) (s : State) :
    pedigreeRows p w s = flushWaves p (timeCompare p (pedigreeJudged p w s)) := by
  have hblocks : (!(pedImg w) || !s.img.valid || (!(!(pedImg w) || !s.img.valid) && pedImage w != digestFor s w) ||
      pedPlatform w != platTag s || wrongPeer s p) = pedBlocked s p w := by
    unfold pedBlocked
    cases pedImg w <;> cases s.img.valid <;> simp
  have hdig : (!(!(pedImg w) || !s.img.valid) && pedImage w != digestFor s w) =
      (pedImg w && s.img.valid && pedImage w != digestFor s w) := by simp
  unfold pedigreeRows
  dsimp only
  rw [hblocks, hdig]
  rfl

theorem timeCompare_laneKept {p : Nat} (s : State) (hp : p < 16) : LaneKept s (timeCompare p s) := by
  have hcause := lnkCause_laneKept (b := 7) 0 s hp (by decide)
  unfold timeCompare
  dsimp only
  split
  · exact hcause
  · split
    · exact hcause.trans (.raise _ (by decide))
    · exact .refl s

theorem enterDesync_step {p : Nat} (s : State) (hp : p < 16) :
    PortStep p { s.lane p with desync := true } s (enterDesync p s) := by
  have hnoted := (PortStep.setLane p { s.lane p with desync := true } s).andKept (lnkCause_laneKept (b := 6) 0 _ hp (by decide))
  have hcut := hnoted.andKept (cutExec_laneKept _)
  unfold enterDesync
  dsimp only
  split
  · exact hnoted
  · split
    · exact hcut.andKept (.of_regs rfl rfl)
    · exact hcut

theorem rowsNoted_step {p : Nat} (w : BitVec 128) (s : State) (hp : p < 16) :
    PortStep p { s.lane p with pedBlocks := pedBlocked s p w } s (rowsNoted p w s) := by
  have hset := PortStep.setLane p { s.lane p with pedBlocks := pedBlocked s p w } s
  have hcause : ∀ (c : Bool) (b : Nat) (u : State), b < 8 → LaneKept u (if c then lnkCause p b 0 u else u) := fun c b u hb => by
    split
    · exact lnkCause_laneKept 0 u hp hb
    · exact .refl u
  exact (hset.andKept (hcause _ 3 _ (by decide))).andKept (hcause _ 5 _ (by decide))

theorem cycleJudged_step {p : Nat} (w : BitVec 128) (s : State) (hp : p < 16) :
    ∃ d, PortStep p { s.lane p with desync := d } s (cycleJudged p w s) := by
  unfold cycleJudged
  split
  · exact ⟨true, enterDesync_step s hp⟩
  · exact ⟨(s.lane p).desync, .kept p (.refl s)⟩

theorem timeJudged_laneKept (p : Nat) (w : BitVec 128) (s : State) : LaneKept s (timeJudged p w s) := by
  unfold timeJudged
  split
  · exact upstreamLost_laneKept p s
  · exact .refl s

theorem pedigreeJudged_step {p : Nat} (w : BitVec 128) (s : State) (hp : p < 16) :
    ∃ d, PortStep p { s.lane p with pedBlocks := pedBlocked s p w, desync := d } s (pedigreeJudged p w s) := by
  have hnoted := rowsNoted_step w s hp
  obtain ⟨d, hcycle⟩ := cycleJudged_step w (rowsNoted p w s) hp
  rw [hnoted.lane] at hcycle
  exact ⟨d, (hnoted.trans hcycle).andKept (timeJudged_laneKept ..)⟩

/-- On a port that is not ACTIVE nothing leaves at the end of the rows. -/
theorem pedigreeRows_step {p : Nat} (w : BitVec 128) (s : State) (hp : p < 16) : ∃ d l,
    SentOnly { s.lane p with pedBlocks := pedBlocked s p w, desync := d } l ∧
      ((s.lane p).st ≠ .active → l = { s.lane p with pedBlocks := pedBlocked s p w, desync := d }) ∧
      PortStep p l s (pedigreeRows p w s) := by
  obtain ⟨d, hjudged⟩ := pedigreeJudged_step w s hp
  have hcompared := hjudged.andKept (timeCompare_laneKept _ hp)
  rw [pedigreeRows_eq]
  by_cases hst : (s.lane p).st = .active
  · obtain ⟨l, hl, hsent⟩ := flushWaves_step (p := p) (s := timeCompare p (pedigreeJudged p w s))
    rw [hcompared.lane] at hl
    exact ⟨d, l, hl, fun h => absurd hst h, hcompared.trans hsent⟩
  · rw [flushWaves_idle (.inr (by rwa [hcompared.lane]))]
    exact ⟨d, _, .refl _, fun _ => rfl, hcompared⟩

/-- The word is stored as the last one received, and counted. -/
def pedigreeStored (p : Nat) (w : BitVec 128) (s : State) : State :=
  lnkCnt p 6 1 (s.setLane p { s.lane p with pedRx := w, pedSeen := true })

theorem pedigreeStored_step (p : Nat) (w : BitVec 128) (s : State) :
    PortStep p { s.lane p with pedRx := w, pedSeen := true } s (pedigreeStored p w s) :=
  (PortStep.setLane p _ s).andKept (lnkCnt_laneKept 1 _ (by decide))

theorem pedigreeStored_chg (p : Nat) (w : BitVec 128) (s : State) : Chg 131218 s (pedigreeStored p w s) :=
  .after (lnkCnt_chg ..) (.after (State_setLane_chg ..) (.refl _ _))

section
variable {p : Nat} {w : BitVec 128} {s : State}

theorem pedigreeIn_otherClass (h : pedClass w ≠ s.plat.fwClass.toNat) :
    pedigreeIn p w s = portTo p .halt (lnkCause p 4 0 (pedigreeStored p w s)) :=
  if_pos (by rwa [← (pedigreeStored_chg p w s).same .plat (by decide)] at h)

theorem pedigreeIn_sameClass (h : pedClass w = s.plat.fwClass.toNat) : pedigreeIn p w s =
    if (s.lane p).role = 0 then pedigreeRows p w (pedigreeStored p w s) else pedigreeStored p w s := by
  have hrole : ((pedigreeStored p w s).lane p).role = (s.lane p).role := by rw [(pedigreeStored_step p w s).lane]
  rw [← (pedigreeStored_chg p w s).same .plat (by decide)] at h
  rw [← hrole]
  exact if_neg (not_not_intro h)

theorem digestFor_of_same {t : State} (himg : t.img = s.img) (hsch : t.sch = s.sch) (hstaged : t.staged = s.staged) :
    digestFor t w = digestFor s w := by
  unfold digestFor pedAhead
  rw [himg, hsch, hstaged]

theorem wrongPeer_of_same {t : State} (hplat : t.plat = s.plat) (hmodule : (t.lane p).peerModule = (s.lane p).peerModule)
    (hport : (t.lane p).peerPort = (s.lane p).peerPort) : wrongPeer t p = wrongPeer s p := by
  unfold wrongPeer
  rw [hplat, hmodule, hport]

/-- What the rows judge is the word, the image, the platform and the peer's identity. -/
theorem pedBlocked_of_same {m : Nat} {t : State} (h : Chg m s t) (hmodule : (t.lane p).peerModule = (s.lane p).peerModule)
    (hport : (t.lane p).peerPort = (s.lane p).peerPort) (hm : m ||| 131218 = 131218 := by decide) :
    pedBlocked t p w = pedBlocked s p w := by
  have hchg : Chg 131218 s t := .after h (.refl _ _) hm
  have himg : t.img = s.img := hchg.same .img (by decide)
  have hplat : t.plat = s.plat := hchg.same .plat (by decide)
  unfold pedBlocked platTag
  rw [himg, hplat, digestFor_of_same himg (hchg.same .sch (by decide)) (hchg.same .staged (by decide)),
    wrongPeer_of_same hplat hmodule hport]

theorem pedBlocked_stored : pedBlocked (pedigreeStored p w s) p w = pedBlocked s p w := by
  have hlane := (pedigreeStored_step p w s).lane
  exact pedBlocked_of_same (pedigreeStored_chg p w s) (by rw [hlane]) (by rw [hlane])

/-- A word of the same class leaves the port in its state; one of ROLE design is judged by the rows of R264. -/
theorem pedigreeIn_step (hp : p < 16) (h : pedClass w = s.plat.fwClass.toNat) : ∃ b d l,
    SentOnly { s.lane p with pedRx := w, pedSeen := true, pedBlocks := b, desync := d } l ∧
      ((s.lane p).role = 0 → b = pedBlocked s p w) ∧
      ((s.lane p).st ≠ .active → l = { s.lane p with pedRx := w, pedSeen := true, pedBlocks := b, desync := d }) ∧
      PortStep p l s (pedigreeIn p w s) := by
  have hstored := pedigreeStored_step p w s
  rw [pedigreeIn_sameClass h]
  split
  · obtain ⟨d, l, hsent, hquiet, hrows⟩ := pedigreeRows_step w (pedigreeStored p w s) hp
    rw [hstored.lane, pedBlocked_stored] at hsent hquiet
    exact ⟨_, d, l, hsent, fun _ => rfl, hquiet, hstored.trans hrows⟩
  · next hrole => exact ⟨_, _, _, .refl _, fun h => absurd h hrole, fun _ => rfl, hstored⟩

theorem pedigreeIn_sameClass_chg (h : pedClass w = s.plat.fwClass.toNat) : Chg 1180818 s (pedigreeIn p w s) := by
  rw [pedigreeIn_sameClass h]
  exact .ite (.after (pedigreeRows_chg ..) (.after (pedigreeStored_chg ..) (.refl _ _))) (.after (pedigreeStored_chg ..) (.refl _ _))

/-- A word of another class halts the port (R264). -/
theorem pedigreeIn_halts (hp : p < 16) (h : pedClass w ≠ s.plat.fwClass.toNat) :
    PortStep p { portEntered .halt s p with pedRx := w, pedSeen := true } s (pedigreeIn p w s) := by
  have hstored := pedigreeStored_step p w s
  have hhalted := hstored.trans (portHalts_step (b := 4) 0 _ hp (by decide))
  rw [portEntered, hstored.lane, hstored.ctrlRole hp] at hhalted
  rw [pedigreeIn_otherClass h]
  exact hhalted

end

end Sys2Proof.Proofs
end

section
/-!
Proofs of the family 08_lanes_multimodule: the training of a lane port (O43).
-/
namespace Sys2Proof.Proofs
open Sys2Proof.Machine Sys2Proof.Laws

/-! ### RESTART (R255) -/

/-- LOOP as a write of LNK_CTRL leaves it. -/
def loopTaken (p : Nat) (val : Word32) (s : State) : State :=
  if nearTest s p then s else s.setFld (lnkReg p 0) 1 1 (bitsOf val 1 1)

/-- The ports that may be trace sinks. -/
def sinkPorts (s : State) : List Nat := if s.ident.half then [6, 7] else [14, 15]

/-- LOOP and ROLE as a write of LNK_CTRL leaves them. -/
def ctrlStored (p : Nat) (val : Word32) (s : State) : State :=
  if bitsOf val 2 2 = 3 ∨ (bitsOf val 2 2 = 1 ∧ !(sinkPorts (loopTaken p val s)).contains p) then loopTaken p val s
  else (loopTaken p val s).setFld (lnkReg p 0) 2 2 (bitsOf val 2 2)

theorem lnkCtrlWrite_restart {p : Nat} {val : Word32} {s : State} (h : val.getLsbD 4 = true) : lnkCtrlWrite p val s =
    if ((ctrlStored p val s).lane p).st == .disabled && ctrlRole (ctrlStored p val s) p == 2 then ctrlStored p val s
    else portTo p .detect (ctrlStored p val s) := if_pos (by rw [h, Bool.or_true])

section
variable {p : Nat} {val : Word32} {s : State}

theorem loopTaken_chg : Chg 2 s (loopTaken p val s) := .ite (.refl _ _) (State_setFld_chg ..)

theorem ctrlStored_chg : Chg 2 s (ctrlStored p val s) :=
  .ite (.after loopTaken_chg (.refl _ _)) (.after (State_setFld_chg ..) (.after loopTaken_chg (.refl _ _)))

theorem ctrlStored_lane (q : Nat) : (ctrlStored p val s).lane q = s.lane q :=
  lane_of_ports (by rw [ctrlStored_chg.same .lnk (by decide)]) q

theorem loopTaken_ctrlRole : ctrlRole (loopTaken p val s) p = ctrlRole s p := by
  unfold loopTaken
  split
  · rfl
  · rw [ctrlRole, fld_setFld_other _ _ (by decide) (by decide), ctrlRole]

/-- ROLE takes the value written, but a reserved one, and that of the trace sink where the port may be none (R255). -/
theorem ctrlStored_ctrlRole : ctrlRole (ctrlStored p val s) p =
    if bitsOf val 2 2 = 3 ∨ (bitsOf val 2 2 = 1 ∧ p ∉ sinkPorts s) then ctrlRole s p else BitVec.ofNat 2 (bitsOf val 2 2) := by
  have hsinks : sinkPorts (loopTaken p val s) = sinkPorts s := by
    rw [sinkPorts, loopTaken_chg.same .ident (by decide), sinkPorts]
  have hno : (!(sinkPorts s).contains p) = true ↔ p ∉ sinkPorts s := by simp
  unfold ctrlStored
  simp only [hsinks, hno]
  split
  · exact loopTaken_ctrlRole
  · have hlt : bitsOf val 2 2 < 2 ^ 2 := Nat.mod_lt _ (by decide)
    rw [ctrlRole, fld_setFld_same _ _ (by decide), Nat.mod_eq_of_lt hlt]

end

theorem exec_laneRestart_eq (path : Path) (p : BitVec 4) (val : Word32) (s : State) : exec (.laneRestart path p val) s =
    run (fun s => if val.getLsbD 4 then regAccess path (lnkReg p.toNat 0) val (lnkCtrlWrite p.toNat) s else s) s := rfl

theorem exec_laneRestart {path : Path} {p : BitVec 4} {val : Word32} {s : State} (hup : s.up = true)
    (h : val.getLsbD 4 = true) (hacc : accepts path (lnkReg p.toNat 0) val s) :
    exec (.laneRestart path p val) s = .next (lnkCtrlWrite p.toNat val (markDirty (lnkReg p.toNat 0) s)) := by
  rw [exec_laneRestart_eq, run_up _ hup, if_pos h, regAccess_accepted _ hacc]

theorem exec_laneRestart_none {path : Path} {p : BitVec 4} {val : Word32} {s : State} (hup : s.up = true)
    (h : val.getLsbD 4 = false) : exec (.laneRestart path p val) s = .next s := by
  rw [exec_laneRestart_eq, run_up _ hup, if_neg (by rw [h]; exact Bool.false_ne_true)]

/-- What an accepted write of LNK_CTRL finds stored, the mark of the sweep included. -/
theorem markDirty_restart (off : Nat) (s : State) : (∀ q, (markDirty off s).lane q = s.lane q) ∧
    (∀ q, ctrlRole (markDirty off s) q = ctrlRole s q) ∧ sinkPorts (markDirty off s) = sinkPorts s ∧
    (markDirty off s).host.jtag = s.host.jtag := by
  unfold markDirty
  split
  · exact ⟨fun _ => rfl, fun _ => rfl, rfl, rfl⟩
  · exact ⟨fun _ => rfl, fun _ => rfl, rfl, rfl⟩

/-! ### The states up to DESKEW (R255 to R258) -/

section
variable {p : BitVec 4} {s : State}

theorem train_cases {l : LanePort} {st : LaneState} (h : LanePort.train l = st) : l.st = .recovery ∨ l.st = st := by
  by_cases hr : l.st = .recovery
  · exact .inl hr
  · rw [LanePort.train, if_neg hr] at h
    exact .inr h

theorem exec_detectDone (hup : s.up = true) (hp : p.toNat < s.lanePorts) : exec (.laneDetectDone p) s =
    .next (if (s.lane p.toNat).st = .detect then trainTo p.toNat .pattern s else s) := run_onPort hup hp

theorem exec_patternLocked (hup : s.up = true) (hp : p.toNat < s.lanePorts) : exec (.lanePatternLocked p) s =
    .next (if trainState s p.toNat = .pattern then trainTo p.toNat .align s else s) := run_onPort hup hp

theorem trainTo_direct {p : Nat} {st : LaneState} {s : State} (hst : (s.lane p).st ≠ .recovery) (h : st ≠ .exchange) :
    trainTo p st s = sendTrain p (s.setLane p { s.lane p with st := st }) := by
  rw [trainTo_eq, if_neg h, LanePort.withTrain, if_neg hst]

theorem trainTo_recovering {p : Nat} {st : LaneState} {s : State} (hst : (s.lane p).st = .recovery) (h : st ≠ .exchange) :
    trainTo p st s = sendTrain p (s.setLane p { s.lane p with sub := st }) := by
  rw [trainTo_eq, if_neg h, LanePort.withTrain, if_pos hst]

end

/-- The word of a TRAIN block on lane `k` (R256). -/
def trainWord (b : BitVec 16) (k : Nat) : Word64 := BitVec.ofNat 64 (5 * 2 ^ 56 + 2 ^ 54 * k + 2 ^ 32 * b.toNat + 0x5A5A5A5A)

theorem trainWord_toNat (b : BitVec 16) {k : Nat} (hk : k < 4) :
    (trainWord b k).toNat = 5 * 2 ^ 56 + 2 ^ 54 * k + 2 ^ 32 * b.toNat + 0x5A5A5A5A := by
  have hb := b.isLt
  rw [trainWord, BitVec.toNat_ofNat, Nat.mod_eq_of_lt (by omega)]

/-- What the port sends is a TRAIN block, with the lane's number and BCNT. -/
theorem trainWord_trains (b : BitVec 16) {k : Nat} (hk : k < 4) :
    trainBlock { head := 2, payload := trainWord b k } = true ∧ trainLane { head := 2, payload := trainWord b k } = k ∧
      (trainWord b k).toNat / 2 ^ 32 % 2 ^ 16 = b.toNat := by
  have hb := b.isLt
  have hupright : alignInverted { head := 2, payload := trainWord b k } = false := rfl
  have hpayload : alignPayload { head := 2, payload := trainWord b k } = trainWord b k := by
    rw [alignPayload, hupright]
    rfl
  unfold trainBlock trainLane
  rw [hupright, hpayload, trainWord_toNat b hk]
  simp only [Bool.false_or, Bool.and_eq_true, beq_iff_eq]
  refine ⟨⟨⟨⟨trivial, ?_⟩, ?_⟩, ?_⟩, ?_, ?_⟩ <;> omega

/-! ### ALIGN (R257) -/

/-- The polarity of the lanes as their TRAIN blocks show it. -/
def alignPol (ls : List AlignLane) : BitVec 4 :=
  BitVec.ofNat 4 ((List.range 4).foldl (fun a k => a + 2 ^ k * b2n ((ls.map alignInverted).getD k false)) 0)

/-- The lanes stand in order, or in reverse order. -/
abbrev lanesOrdered (ls : List AlignLane) : Prop := ls.map trainLane = [0, 1, 2, 3] ∨ ls.map trainLane = [3, 2, 1, 0]

/-- The port with its lanes found. -/
def LanePort.aligned (l : LanePort) (ls : List AlignLane) : LanePort :=
  { l with locked := 0xF, pol := alignPol ls, reversed := ls.map trainLane = [3, 2, 1, 0] }

theorem alignPol_getLsbD (l0 l1 l2 l3 : AlignLane) :
    (alignPol [l0, l1, l2, l3]).getLsbD 0 = alignInverted l0 ∧ (alignPol [l0, l1, l2, l3]).getLsbD 1 = alignInverted l1 ∧
      (alignPol [l0, l1, l2, l3]).getLsbD 2 = alignInverted l2 ∧ (alignPol [l0, l1, l2, l3]).getLsbD 3 = alignInverted l3 := by
  unfold alignPol
  simp only [List.map_cons, List.map_nil]
  generalize alignInverted l0 = a
  generalize alignInverted l1 = b
  generalize alignInverted l2 = c
  generalize alignInverted l3 = d
  revert a b c d
  decide

theorem reversed_iff {l0 l1 l2 l3 : AlignLane} (h : lanesOrdered [l0, l1, l2, l3]) :
    [l0, l1, l2, l3].map trainLane = [3, 2, 1, 0] ↔ trainLane l0 = 3 := by
  simp only [lanesOrdered, List.map_cons, List.map_nil, List.cons.injEq, and_true] at h ⊢
  omega

section
variable {p : Nat} {ls : List AlignLane} {s : State}

theorem alignDone_idle (h : trainState s p ≠ .align ∨ ls.all trainBlock = false) : alignDone ls p s = s :=
  if_pos (h.imp_right fun h => by rw [h]; rfl)

theorem alignDone_trains (hst : trainState s p = .align) (hall : ls.all trainBlock = true) : alignDone ls p s =
    if lanesOrdered ls then trainTo p .deskew (s.setLane p (LanePort.aligned (s.lane p) ls))
    else trainFail p (wrongLane (ls.map trainLane)) (lnkCause p 5 (wrongLane (ls.map trainLane)) s) :=
  if_neg (by simp [hst, hall])

end

theorem lanesLocked_step (p : Nat) (s : State) : PortStep p { s.lane p with locked := 0xF } s (lanesLocked p s) := .setLane p _ s

/-! ### DESKEW (R258) -/

/-- The port with its skew found, as it sends CAPS. -/
def deskewed (p : Nat) (s : State) : State :=
  (lanesLocked p s).setLane p (LanePort.withTrain ((lanesLocked p s).lane p) .exchange)

section
variable {p skew : Nat} {s : State}

theorem deskewDone_idle (h : trainState s p ≠ .deskew) : deskewDone skew p s = s := if_pos h

theorem deskewDone_fits (hst : trainState s p = .deskew) (h : skew ≤ 4) :
    deskewDone skew p s = sendCaps 1 false p (deskewed p s) := (if_neg (not_not_intro hst)).trans (if_pos h)

theorem deskewDone_fails (hst : trainState s p = .deskew) (h : 4 < skew) : deskewDone skew p s = trainFail p 0 s :=
  (if_neg (not_not_intro hst)).trans (if_neg (Nat.not_le.mpr h))

theorem deskewed_step :
    PortStep p (LanePort.withTrain { s.lane p with locked := 0xF } .exchange) s (deskewed p s) := by
  have hlocked := lanesLocked_step p s
  rw [deskewed, hlocked.lane]
  exact hlocked.trans (.setLane p _ _)

theorem withTrain_locked (l : LanePort) (st : LaneState) :
    (LanePort.withTrain { l with locked := 0xF } st).locked = 0xF := by
  unfold LanePort.withTrain
  split <;> rfl

/-- CAPS tells nothing of the training state (R259). -/
theorem capsBlock_of_lane {t : State} (hchg : Chg 131088 s t) (hrole : (t.lane p).role = (s.lane p).role)
    (htx : (t.lane p).txSeq = (s.lane p).txSeq) (hrx : (t.lane p).rxSeq = (s.lane p).rxSeq)
    (hdesync : (t.lane p).desync = (s.lane p).desync) (seen : Bool) : capsBlock t p seen = capsBlock s p seen := by
  have hpart : t.part = s.part := by rw [State.part, hchg.same .ident (by decide), State.part]
  unfold capsBlock
  dsimp only
  rw [pedigreeWord_of_lane hchg hdesync, hchg.same .plat (by decide), hpart, hrole, htx, hrx]

end

/-! ### EXCHANGE (R259, R260) -/

/-- The port as EXCHANGE finds it; within RECOVERY the peer's ACK has been taken. -/
def LanePort.capsAcked (l : LanePort) (ack : BitVec 8) : LanePort := if l.st = .recovery then LanePort.acked l ack else l

/-- The port with every lane locked, and the peer that CAPS names. -/
def LanePort.capsTaken (l : LanePort) (c : Caps) (ped : BitVec 128) : LanePort :=
  { l with
    locked := 0xF, pedTx := ped
    peerModule := BitVec.ofNat 6 (c.word.toNat / 2 ^ 58), peerPort := BitVec.ofNat 4 (c.word.toNat / 2 ^ 54),
    peerGrade := BitVec.ofNat 16 (c.word.toNat / 2 ^ 38), peerRole := BitVec.ofNat 2 (c.word.toNat / 2 ^ 36) }

/-- The port enters ACTIVE; after RECOVERY its groups are sent again. -/
def LanePort.activated (l : LanePort) (again : Bool) : LanePort :=
  { l with
    st := .active, sub := .pattern, ctrlCount := 0
    outstanding := if again then l.outstanding.map againGroup else l.outstanding }

/-- The port comes from RECOVERY. -/
def fromRecovery (s : State) (p : Nat) : Bool := (s.lane p).st == .recovery

/-- Every lane is locked, and within RECOVERY the peer's ACK has been taken. -/
def capsReady (c : Caps) (p : Nat) (s : State) : State :=
  lanesLocked p (if fromRecovery s p then takeAck c.ack p s else s)

/-- CAPS has been taken and answered; the pedigree word of it is still to be judged. -/
def capsExchanged (c : Caps) (p : Nat) (s : State) : State := takeCaps p c (sendCaps 8 true p (capsReady c p s))

/-- The conductor claims where the peer is its module (R393). -/
def peerClaims (c : Caps) (p : Nat) (s : State) : State :=
  if pedPlatform c.pedigree == platTag s && (s.lane p).peerModule.toNat == condModule s then claim .conductor 0 true s else s

/-- The port enters ACTIVE, and sends what waits. -/
def laneLinkUp (again : Bool) (c : Caps) (p : Nat) (s : State) : State :=
  let u := s.setLane p { s.lane p with st := .active, sub := .pattern, ctrlCount := 0 }
  peerClaims c p (flushWaves p (if again then resendAll p u else u))

/-- The pedigree word is judged, and the link comes up but in HALT. -/
def exchangeJudged (again : Bool) (c : Caps) (p : Nat) (s : State) : State :=
  if ((pedigreeIn p c.pedigree s).lane p).st = .halt then pedigreeIn p c.pedigree s
  else laneLinkUp again c p (pedigreeIn p c.pedigree s)

section
variable {p : Nat} {c : Caps} {s : State}

theorem exchangeDone_idle (h : trainState s p ≠ .exchange ∨ c.word.getLsbD 35 = false) : exchangeDone c p s = s :=
  if_pos (h.imp_right fun h => by rw [h]; rfl)

theorem exchangeDone_eq (hst : trainState s p = .exchange) (hseen : c.word.getLsbD 35 = true) : exchangeDone c p s =
    if fromRecovery s p && !samePeer s p c then portTo p .detect (lnkCause p 5 0 s)
    else exchangeJudged (fromRecovery s p) c p (capsExchanged c p s) := if_neg (by rw [hseen]; simp [hst])

theorem capsAcked_step : PortStep p (LanePort.capsAcked (s.lane p) c.ack) s (if fromRecovery s p then takeAck c.ack p s else s) := by
  unfold LanePort.capsAcked fromRecovery
  by_cases h : (s.lane p).st = .recovery
  · rw [if_pos h, if_pos (by simp [h])]
    exact takeAck_step ..
  · rw [if_neg h, if_neg (by simp [h])]
    exact .kept p (.refl s)

theorem capsReady_step :
    PortStep p { LanePort.capsAcked (s.lane p) c.ack with locked := 0xF } s (capsReady c p s) := by
  have hacked := capsAcked_step (p := p) (c := c) (s := s)
  have hlocked := hacked.trans (lanesLocked_step p _)
  rw [hacked.lane] at hlocked
  exact hlocked

theorem capsExchanged_step :
    ∃ ped, PortStep p (LanePort.capsTaken (LanePort.capsAcked (s.lane p) c.ack) c ped) s (capsExchanged c p s) := by
  have hready := capsReady_step (p := p) (c := c) (s := s)
  have hsent := hready.trans (sendCaps_step 8 true p _)
  rw [hready.lane] at hsent
  refine ⟨pedigreeWord (capsReady c p s) p, ?_⟩
  rw [capsExchanged, takeCaps, hsent.lane]
  exact hsent.trans (.setLane p _ _)

theorem capsExchanged_chg : Chg 131088 s (capsExchanged c p s) :=
  .after (takeCaps_chg ..) (.after (sendCaps_chg ..) (.after (lanesLocked_chg ..) (.ite (.after (takeAck_chg ..) (.refl _ _))
    (.refl _ _))))

/-- CAPS leaves the port's state, and what it sends and waits to send. -/
theorem capsTaken_keeps (l : LanePort) (ack : BitVec 8) (ped : BitVec 128) :
    (LanePort.capsTaken (LanePort.capsAcked l ack) c ped).st = l.st ∧
      (LanePort.capsTaken (LanePort.capsAcked l ack) c ped).waveQ = l.waveQ := by
  unfold LanePort.capsTaken LanePort.capsAcked
  split
  · rw [acked_eq]
    exact ⟨rfl, rfl⟩
  · exact ⟨rfl, rfl⟩

theorem claim_laneKept (m : Master) (pathCode : Nat) (lanes : Bool) (s : State) : LaneKept s (claim m pathCode lanes s) := by
  have hclaim : ∀ u : State, LaneKept u (setClaim m u) := fun u => .of_chg (setClaim_chg ..)
  have hrefused : LaneKept s (claimRefused pathCode lanes s) := .of_regsBut
    (by rw [(claimRefused_chg ..).same .lnk (by decide)]) (gblErr_regsBut 5 0x009 Reg.GBL_OWN_CLAIM pathCode lanes s) (by decide)
  unfold claim
  dsimp only
  split
  · split
    · exact hclaim s
    · exact hrefused
  · split
    · exact .refl s
    · exact hrefused
  · split
    · exact ((LaneKept.of_chg (openWindow_chg s)).trans (.of_chg (clearClaims_chg _))).trans (hclaim _)
    · exact hrefused

theorem peerClaims_laneKept : LaneKept s (peerClaims c p s) := by
  unfold peerClaims
  split
  · exact claim_laneKept ..
  · exact .refl s

/-- Without a WAVE message that waits, the port stands as it entered ACTIVE. -/
theorem laneLinkUp_step (again : Bool) : ∃ l, SentOnly (LanePort.activated (s.lane p) again) l ∧
    ((s.lane p).waveQ = [] → l = LanePort.activated (s.lane p) again) ∧ PortStep p l s (laneLinkUp again c p s) := by
  have hset := PortStep.setLane p { s.lane p with st := .active, sub := .pattern, ctrlCount := 0 } s
  have hagain : ∀ u, u = s.setLane p { s.lane p with st := .active, sub := .pattern, ctrlCount := 0 } →
      PortStep p (LanePort.activated (s.lane p) again) s (if again then resendAll p u else u) := by
    rintro u rfl
    cases again with
    | false => exact hset
    | true =>
      have hresent := hset.trans (resendAll_step p _)
      rw [hset.lane] at hresent
      exact hresent
  have hup := hagain _ rfl
  obtain ⟨l, hsent, hflushed⟩ := flushWaves_step (p := p) (s := if again then
    resendAll p (s.setLane p { s.lane p with st := .active, sub := .pattern, ctrlCount := 0 })
    else s.setLane p { s.lane p with st := .active, sub := .pattern, ctrlCount := 0 })
  rw [hup.lane] at hsent
  refine ⟨l, hsent, fun hwaves => ?_, (hup.trans hflushed).andKept peerClaims_laneKept⟩
  rw [flushWaves_idle (.inl (by rw [hup.lane]; exact hwaves))] at hflushed
  rw [← hflushed.lane, hup.lane]

theorem laneLinkUp_chg (again : Bool) : Chg 1180050 s (laneLinkUp again c p s) := by
  have hset : Chg 1180050 s (s.setLane p { s.lane p with st := .active, sub := .pattern, ctrlCount := 0 }) :=
    .after (State_setLane_chg ..) (.refl _ _)
  have hflushed : Chg 1180050 s (flushWaves p (if again then
      resendAll p (s.setLane p { s.lane p with st := .active, sub := .pattern, ctrlCount := 0 })
      else s.setLane p { s.lane p with st := .active, sub := .pattern, ctrlCount := 0 })) :=
    .after (flushWaves_chg ..) (.ite (.after (resendAll_chg ..) hset) hset)
  exact .ite (.after (claim_chg ..) hflushed) hflushed

/-- A peer of the same class: the port is ACTIVE with what CAPS names. -/
theorem exchangeJudged_up {ped : BitVec 128} {l : LanePort} (again : Bool) (hp : p < 16) (hst : l.st ≠ .active) (hhalt : l.st ≠ .halt)
    (hlane : s.lane p = LanePort.capsTaken l c ped) (hclass : pedClass c.pedigree = s.plat.fwClass.toNat) :
    ∃ b d m, SentOnly (LanePort.activated
        { LanePort.capsTaken l c ped with pedRx := c.pedigree, pedSeen := true, pedBlocks := b, desync := d } again) m ∧
      (l.waveQ = [] → m = LanePort.activated
        { LanePort.capsTaken l c ped with pedRx := c.pedigree, pedSeen := true, pedBlocks := b, desync := d } again) ∧
      PortStep p m s (exchangeJudged again c p s) ∧ Chg 1181074 s (exchangeJudged again c p s) := by
  obtain ⟨b, d, k, -, -, hquiet, hin⟩ := pedigreeIn_step (w := c.pedigree) hp hclass
  have hk := hquiet (by rw [hlane]; exact hst)
  subst hk
  rw [hlane] at hin
  obtain ⟨m, hsent, hidle, hup⟩ := laneLinkUp_step (p := p) (c := c) (s := pedigreeIn p c.pedigree s) again
  rw [hin.lane] at hsent hidle
  refine ⟨b, d, m, hsent, hidle, ?_⟩
  rw [exchangeJudged, if_neg (by rw [hin.lane]; exact hhalt)]
  exact ⟨hin.trans hup, .after (laneLinkUp_chg again) (.after (pedigreeIn_sameClass_chg hclass) (.refl _ _))⟩

/-- A peer of another class halts the port. -/
theorem exchangeJudged_halts (again : Bool) (hp : p < 16) (hclass : pedClass c.pedigree ≠ s.plat.fwClass.toNat) :
    exchangeJudged again c p s = pedigreeIn p c.pedigree s :=
  if_pos (by rw [(pedigreeIn_halts hp hclass).lane]; rfl)

end

/-! ### A port that falls (R255, R260, R261) -/

/-- From `s` to `t` port `p` falls to DETECT or DISABLED with LINK_DOWN, its replay buffer empty. -/
structure Fallen (p : Nat) (s t : State) : Prop where
  st : (t.lane p).st = fallState s p
  outstanding : (t.lane p).outstanding = []
  linkDown : t.bit (lnkReg p 8) 0 = true
  others : ∀ q, q ≠ p → t.lane q = s.lane q
  quiet : (s.lane p).st ≠ .active → (s.lane p).st ≠ .recovery → Chg 1179794 s t
  chg : Chg 110530194 s t

section
variable {p : Nat} {s t : State}

theorem portTo_fallen (hp : p < 16) (h : (s.lane p).st = .active ∨ (s.lane p).st = .recovery) :
    Fallen p s (portTo p .detect s) := by
  have hstep := portTo_step .detect s hp
  rw [fallFrom_detect] at hstep
  exact ⟨by rw [hstep.lane]; rfl, by rw [hstep.lane]; rfl, portTo_linkDown .detect hp h, hstep.others,
    fun hactive hrec => (h.elim hactive hrec).elim, portTo_chg ..⟩

/-- Where a training fails the port falls (R255). -/
theorem trainFail_fallen (lane : Nat) (s : State) (hp : p < 16) : Fallen p s (trainFail p lane s) := by
  have hstep : PortStep p (portEntered (fallState s p) s p) s (trainFail p lane s) :=
    portFalls_step (b := 0) lane s hp (by decide)
  exact ⟨by rw [hstep.lane]; rfl, by rw [hstep.lane]; rfl, portTo_lnkCause_bit (b := 0) lane s .detect hp (by decide),
    hstep.others, portTo_lnkCause_quiet_chg (b := 0) lane .detect hp (by decide), trainFail_chg ..⟩

/-- A cause before the fall takes no part in it. -/
theorem Fallen.afterCause {b lane : Nat} (hp : p < 16) (hb : b < 8) (h : Fallen p (lnkCause p b lane s) t) :
    Fallen p s t := by
  have hkept := lnkCause_laneKept lane s hp hb
  obtain ⟨hst, hout, hdown, hothers, hquiet, hchg⟩ := h
  rw [fallState_lnkCause lane s hp hb] at hst
  rw [hkept.lane] at hquiet
  exact ⟨hst, hout, hdown, fun q hq => (hothers q hq).trans (hkept.lane q),
    fun hactive hrec => .after (hquiet hactive hrec) (.after (lnkCause_chg ..) (.refl _ _)),
    .after hchg (.after (lnkCause_chg ..) (.refl _ _))⟩

/-- A port that trains is not ACTIVE, and in HALT it does not train. -/
theorem train_ne {l : LanePort} {st : LaneState} (h : LanePort.train l = st) (hactive : st ≠ .active) (hhalt : st ≠ .halt) :
    l.st ≠ .active ∧ l.st ≠ .halt := by
  rcases train_cases h with hst | hst <;> rw [hst]
  · exact ⟨by decide, by decide⟩
  · exact ⟨hactive, hhalt⟩

end

/-! ### How ALIGN, DESKEW and EXCHANGE end -/

section
variable {p : Nat} {s : State}

/-- Ordered lanes lead to DESKEW (R257). -/
theorem aligned_step (ls : List AlignLane) (s : State) : ∃ l, PortStep p l s
      (trainTo p .deskew (s.setLane p (LanePort.aligned (s.lane p) ls))) ∧ LanePort.train l = .deskew ∧
    ((s.lane p).st = .recovery → l.st = .recovery) ∧ l.locked = 0xF ∧ l.pol = alignPol ls ∧
    l.reversed = decide (ls.map trainLane = [3, 2, 1, 0]) := by
  have hset := PortStep.setLane p (LanePort.aligned (s.lane p) ls) s
  have hstep := hset.trans (trainTo_step p _ (by decide : LaneState.deskew ≠ .exchange))
  rw [hset.lane] at hstep
  refine ⟨_, hstep, train_withTrain _ (by decide), withTrain_recovery (l := LanePort.aligned (s.lane p) ls) _, ?_⟩
  unfold LanePort.withTrain
  split <;> exact ⟨rfl, rfl, rfl⟩

theorem aligned_chg (ls : List AlignLane) (s : State) :
    Chg 131088 s (trainTo p .deskew (s.setLane p (LanePort.aligned (s.lane p) ls))) :=
  .after (trainTo_chg ..) (.after (State_setLane_chg ..) (.refl _ _))

theorem deskewed_chg : Chg 131088 s (deskewed p s) := .after (State_setLane_chg ..) (.after (lanesLocked_chg ..) (.refl _ _))

theorem deskewed_caps : capsBlock (deskewed p s) p false = capsBlock s p false := by
  refine capsBlock_of_lane deskewed_chg ?_ ?_ ?_ ?_ false <;>
    (rw [deskewed_step.lane, LanePort.withTrain]; split <;> rfl)

/-- CAPS leaves when DESKEW ends (R258, R259). -/
theorem deskewed_sends : (sendCaps 1 false p (deskewed p s)).out = .laneBlock p (capsBlock s p false) :: s.out := by
  rw [sendCaps_eq, deskewed_caps]
  rfl

theorem deskewed_sends_step : ∃ l, PortStep p l s (sendCaps 1 false p (deskewed p s)) ∧ LanePort.train l = .exchange ∧
    l.locked = 0xF := by
  have hdeskewed := deskewed_step (p := p) (s := s)
  have hstep := hdeskewed.trans (sendCaps_step 1 false p _)
  rw [hdeskewed.lane] at hstep
  exact ⟨_, hstep, train_withTrain _ (by decide), withTrain_locked ..⟩

/-- The port as it enters ACTIVE from EXCHANGE, with what is known of its peer (R259, R260). -/
structure Connected (p : Nat) (c : Caps) (s : State) (l : LanePort) : Prop where
  st : l.st = .active
  pedRx : l.pedRx = c.pedigree
  peerModule : l.peerModule = BitVec.ofNat 6 (c.word.toNat / 2 ^ 58)
  peerPort : l.peerPort = BitVec.ofNat 4 (c.word.toNat / 2 ^ 54)
  peerGrade : l.peerGrade = BitVec.ofNat 16 (c.word.toNat / 2 ^ 38)
  peerRole : l.peerRole = BitVec.ofNat 2 (c.word.toNat / 2 ^ 36)
  ctrlCount : (s.lane p).waveQ = [] → l.ctrlCount = 0
  locked : l.locked = 0xF
  outstanding : (s.lane p).st = .recovery → (s.lane p).waveQ = [] →
    l.outstanding = (LanePort.acked (s.lane p) c.ack).outstanding.map againGroup

section
variable {c : Caps} (hp : p < 16) (hst : trainState s p = .exchange)
include hp hst

theorem exchange_connects (hclass : pedClass c.pedigree = s.plat.fwClass.toNat) :
    ∃ l, Connected p c s l ∧ PortStep p l s (exchangeJudged (fromRecovery s p) c p (capsExchanged c p s)) ∧
      Chg 1181074 s (exchangeJudged (fromRecovery s p) c p (capsExchanged c p s)) := by
  obtain ⟨hactive, hhalt⟩ := train_ne hst (by decide) (by decide)
  obtain ⟨ped, hcaps⟩ := capsExchanged_step (p := p) (c := c) (s := s)
  obtain ⟨hsame, hwaves⟩ := capsTaken_keeps (c := c) (s.lane p) c.ack ped
  have hplat : (capsExchanged c p s).plat = s.plat := capsExchanged_chg.same .plat (by decide)
  obtain ⟨b, d, m, hm, hidle, hstep, hchg⟩ := exchangeJudged_up (fromRecovery s p) hp (hsame ▸ hactive) (hsame ▸ hhalt)
    hcaps.lane (by rwa [hplat])
  have hquiet : (s.lane p).waveQ = [] → _ := fun h => hidle (hwaves.trans h)
  refine ⟨m, ?_, hcaps.trans hstep, .after hchg (.after capsExchanged_chg (.refl _ _))⟩
  constructor
  case st => exact congrArg LanePort.st hm
  case pedRx => exact congrArg LanePort.pedRx hm
  case peerModule => exact congrArg LanePort.peerModule hm
  case peerPort => exact congrArg LanePort.peerPort hm
  case peerGrade => exact congrArg LanePort.peerGrade hm
  case peerRole => exact congrArg LanePort.peerRole hm
  case locked => exact congrArg LanePort.locked hm
  case ctrlCount => exact fun h => congrArg LanePort.ctrlCount (hquiet h)
  case outstanding =>
    intro hrec h
    have hagain : fromRecovery s p = true := by rw [fromRecovery, hrec]; rfl
    have hacked : LanePort.capsAcked (s.lane p) c.ack = LanePort.acked (s.lane p) c.ack := if_pos hrec
    refine (congrArg LanePort.outstanding (hquiet h)).trans ?_
    rw [hagain, hacked]
    rfl

/-- A peer of another class halts the port (R264). -/
theorem exchange_halts (hclass : pedClass c.pedigree ≠ s.plat.fwClass.toNat) :
    ∃ l, l.st = .halt ∧ l.pedRx = c.pedigree ∧ PortStep p l s (exchangeJudged (fromRecovery s p) c p (capsExchanged c p s)) ∧
      (exchangeJudged (fromRecovery s p) c p (capsExchanged c p s)).bit (lnkReg p 8) 4 = true ∧
      ((s.lane p).st ≠ .recovery → Chg 1179794 s (exchangeJudged (fromRecovery s p) c p (capsExchanged c p s))) ∧
      Chg 110530194 s (exchangeJudged (fromRecovery s p) c p (capsExchanged c p s)) := by
  obtain ⟨ped, hcaps⟩ := capsExchanged_step (p := p) (c := c) (s := s)
  have hplat : (capsExchanged c p s).plat = s.plat := capsExchanged_chg.same .plat (by decide)
  have hother : pedClass c.pedigree ≠ (capsExchanged c p s).plat.fwClass.toNat := by rwa [hplat]
  have hlane : ((pedigreeStored p c.pedigree (capsExchanged c p s)).lane p).st = (s.lane p).st := by
    rw [(pedigreeStored_step ..).lane, hcaps.lane]
    exact (capsTaken_keeps (c := c) (s.lane p) c.ack ped).1
  have hstored : Chg 131218 s (pedigreeStored p c.pedigree (capsExchanged c p s)) :=
    .after (pedigreeStored_chg ..) (.after capsExchanged_chg (.refl _ _))
  rw [exchangeJudged_halts _ hp hother]
  refine ⟨_, rfl, rfl, hcaps.trans (pedigreeIn_halts hp hother), ?_, fun hrec => ?_,
    .after (pedigreeIn_chg ..) (.after capsExchanged_chg (.refl _ _))⟩
  · rw [pedigreeIn_otherClass hother]
    exact portTo_lnkCause_bit 0 _ .halt hp (by decide)
  · rw [pedigreeIn_otherClass hother]
    exact .after (portTo_lnkCause_quiet_chg 0 .halt hp (by decide) (hlane ▸ (train_ne hst (by decide) (by decide)).1)
      (hlane ▸ hrec)) (.after hstored (.refl _ _))

end

end

/-! ### The training of a lane port -/

section
variable {p : BitVec 4} {s : State}

theorem exec_alignDone (l0 l1 l2 l3 : AlignLane) (hup : s.up = true) (hp : p.toNat < s.lanePorts) :
    exec (.laneAlignDone p l0 l1 l2 l3) s = .next (alignDone [l0, l1, l2, l3] p.toNat s) := run_onPort hup hp

theorem exec_deskewDone (skew : Nat) (hup : s.up = true) (hp : p.toNat < s.lanePorts) :
    exec (.laneDeskewDone p skew) s = .next (deskewDone skew p.toNat s) := run_onPort hup hp

theorem exec_exchangeDone (c : Caps) (hup : s.up = true) (hp : p.toNat < s.lanePorts) :
    exec (.laneExchangeDone p c) s = .next (exchangeDone c p.toNat s) := run_onPort hup hp

theorem exec_trainingTimeout (hup : s.up = true) (hp : p.toNat < s.lanePorts)
    (h : [LaneState.pattern, .align, .deskew, .exchange].contains (s.lane p.toNat).st = true) :
    exec (.laneTrainingTimeout p) s = .next (trainFail p.toNat 0 s) :=
  (run_onPort hup hp).trans (congrArg Host.Outcome.next (if_pos h))

theorem exec_recoveryTimeout (hup : s.up = true) (hp : p.toNat < s.lanePorts) (h : (s.lane p.toNat).st = .recovery) :
    exec (.laneRecoveryTimeout p) s = .next (portTo p.toNat .detect s) :=
  (run_onPort hup hp).trans (congrArg Host.Outcome.next (if_pos h))

end

/-- Settles O43: each command by the lemma about the port's state that it meets. A failed training, a timeout and another peer
are all the fall of a port. -/
theorem laneTraining : Obligations.LaneTraining := by
  refine ⟨?restart, ?early, ?traffic, ?blocks, ?align, ?deskew, ?exchange, ?timeouts, ?otherState, ?absent⟩
  case restart =>
    intro path p val role s hup hrole
    refine ⟨exec_laneRestart_none hup, fun h hacc => ?_⟩
    obtain ⟨hlane, hctrl, hsinks, hjtag⟩ := markDirty_restart (lnkReg p.toNat 0) s
    have hp := p.isLt
    generalize hm : markDirty (lnkReg p.toNat 0) s = m at hlane hctrl hsinks hjtag
    generalize hu : ctrlStored p.toNat val m = u
    have hulane : ∀ q, u.lane q = s.lane q := fun q => by rw [← hu, ctrlStored_lane, hlane]
    have hurole : ctrlRole u p.toNat = role := by
      rw [← hu, ctrlStored_ctrlRole, hctrl, hsinks, hrole]
      rfl
    have hujtag : u.host.jtag = s.host.jtag := by rw [← hu, ctrlStored_chg.same .host (by decide), hjtag]
    have hexec := exec_laneRestart hup h hacc
    rw [hm, lnkCtrlWrite_restart h, hu, hulane, hurole] at hexec
    refine ⟨_, hexec, ?_⟩
    have hframe := ((execLaneRestart_chg path p val s).get hexec).changes
      (l := [.regs, .out, .host, .clu, .sch, .wave, .mem, .lnk, .dsp, .tim, .lks, .pwr, .ldg])
    by_cases hdis : (s.lane p.toNat).st = .disabled ∧ role = 2
    · rw [if_pos (by simp [hdis])] at hframe ⊢
      refine ⟨hurole, ?_, fun hno => absurd hdis hno, fun q _ => hulane q, fun hlive => ?_, hframe⟩
      · rw [hulane, if_pos (.inl hdis.2), hdis.1]
      · rw [hdis.1] at hlive
        exact absurd hlive (by decide)
    · have hstep := portTo_step .detect u hp
      rw [if_neg (by simpa using hdis)] at hframe ⊢
      rw [fallFrom_detect] at hstep
      refine ⟨(hstep.ctrlRole hp).trans hurole, ?_, fun _ => ?_, fun q hq => (hstep.others q hq).trans (hulane q),
        fun hlive => portTo_linkDown .detect hp (by rwa [hulane]), hframe⟩
      · rw [hstep.lane, ← hurole, ← hulane, ← hujtag]
        rfl
      · rw [hstep.lane]
        exact ⟨hurole, rfl, rfl, rfl⟩
  case early =>
    intro p s hup hport
    rw [exec_detectDone hup hport, exec_patternLocked hup hport]
    refine ⟨fun hst => ?_, fun hst => by rw [if_neg hst], fun hst => ?_, fun hst hsub => ?_, fun hst => by rw [if_neg hst]⟩
    · rw [if_pos hst, trainTo_direct (by rw [hst]; decide) (by decide)]
    · have htrain : trainState s p.toNat = .pattern := by rw [trainState_eq, LanePort.train, hst]; rfl
      rw [if_pos htrain, trainTo_direct (by rw [hst]; decide) (by decide)]
    · have htrain : trainState s p.toNat = .pattern := by rw [trainState_eq, LanePort.train, if_pos hst, hsub]
      rw [if_pos htrain, trainTo_recovering hst (by decide)]
  case traffic =>
    intro p s
    have hstep := sendTrain_step p s
    exact ⟨_, rfl, by rw [sendTrain_eq], hstep.lane, hstep.others, (sendTrain_chg ..).changes⟩
  case blocks =>
    intro b k x hx
    simp only [List.mem_cons, List.not_mem_nil, or_false, Prod.mk.injEq] at hx
    rcases hx with ⟨rfl, rfl⟩ | ⟨rfl, rfl⟩ | ⟨rfl, rfl⟩ | ⟨rfl, rfl⟩ <;> exact trainWord_trains b (by decide)
  case align =>
    intro p l0 l1 l2 l3 down s hup hport hst hall hdown
    have hp := p.isLt
    rw [exec_alignDone l0 l1 l2 l3 hup hport, alignDone_trains hst hall]
    refine ⟨fun h => ?_, fun h => ?_⟩
    · obtain ⟨l, hstep, htrain, hrec, hlocked, hpol, hrev⟩ := aligned_step (p := p.toNat) [l0, l1, l2, l3] s
      obtain ⟨hpol0, hpol1, hpol2, hpol3⟩ := alignPol_getLsbD l0 l1 l2 l3
      rw [if_pos h]
      refine ⟨_, rfl, ?_⟩
      rw [trainState_eq, hstep.lane, hpol]
      exact ⟨htrain, hrec, hlocked, hrev.trans (decide_eq_decide.mpr (reversed_iff h)), hpol0, hpol1, hpol2, hpol3, hstep.others,
        (aligned_chg ..).changes⟩
    · have hfallen := (trainFail_fallen (wrongLane ([l0, l1, l2, l3].map trainLane))
        (lnkCause p.toNat 5 (wrongLane ([l0, l1, l2, l3].map trainLane)) s) hp).afterCause hp (by decide)
      have hcause : (trainFail p.toNat (wrongLane ([l0, l1, l2, l3].map trainLane))
          (lnkCause p.toNat 5 (wrongLane ([l0, l1, l2, l3].map trainLane)) s)).bit (lnkReg p.toNat 8) 5 = true :=
        (portFalls_step (b := 0) _ _ hp (by decide)).cause _ hp 5 (by decide) (lnkCause_bit _ s (by decide))
      rw [if_neg h]
      exact ⟨_, rfl, hfallen.st.trans hdown.symm, hfallen.linkDown, hcause, hfallen.others,
        fun hrec => (hfallen.quiet (train_ne hst (by decide) (by decide)).1 hrec).changes, hfallen.chg.changes⟩
  case deskew =>
    intro p skew down s hup hport hst hdown
    rw [exec_deskewDone skew hup hport]
    refine ⟨fun h => ?_, fun h => ?_⟩
    · obtain ⟨l, hstep, htrain, hlocked⟩ := deskewed_sends_step (p := p.toNat) (s := s)
      rw [deskewDone_fits hst h]
      refine ⟨_, rfl, ?_⟩
      rw [trainState_eq, hstep.lane]
      exact ⟨htrain, hlocked, deskewed_sends, hstep.others,
        (Chg.after (m := 131088) (sendCaps_chg ..) (.after deskewed_chg (.refl _ _))).changes⟩
    · have hfallen := trainFail_fallen 0 s p.isLt
      rw [deskewDone_fails hst h]
      exact ⟨_, rfl, hfallen.st.trans hdown.symm, hfallen.linkDown, hfallen.others,
        fun hrec => (hfallen.quiet (train_ne hst (by decide) (by decide)).1 hrec).changes, hfallen.chg.changes⟩
  case exchange =>
    intro p c down s hup hport hst hdown
    have hp := p.isLt
    rw [exec_exchangeDone c hup hport]
    refine ⟨fun h => by rw [exchangeDone_idle (.inr h)], fun h hsame => ?_, fun h hrec hpeer => ?_⟩ <;>
      rw [exchangeDone_eq hst h]
    · have hstays : ¬ (fromRecovery s p.toNat && !samePeer s p.toNat c) = true := by
        simp only [fromRecovery, Bool.and_eq_true, beq_iff_eq, Bool.not_eq_true', not_and, Bool.not_eq_false]
        exact hsame
      rw [if_neg hstays]
      refine ⟨fun hclass => ?_, fun hclass => ?_⟩
      · obtain ⟨l, hl, hstep, hchg⟩ := exchange_connects hp hst hclass
        refine ⟨_, rfl, ?_⟩
        rw [hstep.lane, (takeAck_step ..).lane]
        exact ⟨hl.st, hl.pedRx, hl.peerModule, hl.peerPort, hl.peerGrade, hl.peerRole, hl.ctrlCount, hl.locked, hl.outstanding,
          hstep.others, hchg.changes⟩
      · obtain ⟨l, hhalt, hped, hstep, hcause, hquiet, hchg⟩ := exchange_halts hp hst hclass
        refine ⟨_, rfl, ?_⟩
        rw [hstep.lane]
        exact ⟨hhalt, hcause, hped, hstep.others, fun hrec => (hquiet hrec).changes, hchg.changes⟩
    · have hlive : ((lnkCause p.toNat 5 0 s).lane p.toNat).st = .recovery := by
        rwa [(lnkCause_laneKept 0 s hp (by decide)).lane]
      have hfallen := (portTo_fallen hp (.inr hlive)).afterCause hp (by decide)
      rw [if_pos (by simp [fromRecovery, hrec, hpeer])]
      exact ⟨_, rfl, hfallen.st.trans hdown.symm, portTo_lnkCause_bit 0 s .detect hp (by decide), hfallen.linkDown, hfallen.others,
        hfallen.chg.changes⟩
  case timeouts =>
    intro c p s hup hport h
    have hfallen : ∃ t, exec c s = .next t ∧ Fallen p.toNat s t := by
      rcases h with ⟨rfl, hst⟩ | ⟨rfl, hst⟩
      · exact ⟨_, exec_trainingTimeout hup hport hst, trainFail_fallen 0 s p.isLt⟩
      · exact ⟨_, exec_recoveryTimeout hup hport hst, portTo_fallen p.isLt (.inr hst)⟩
    obtain ⟨t, hexec, hfallen⟩ := hfallen
    exact ⟨t, hexec, hfallen.st, hfallen.outstanding, hfallen.linkDown, hfallen.others, hfallen.chg.changes⟩
  case otherState =>
    intro p l0 l1 l2 l3 skew caps s hup
    exact ⟨fun h => run_onPort_idle hup (alignDone_idle h), fun h => run_onPort_idle hup (deskewDone_idle h),
      fun h => run_onPort_idle hup (exchangeDone_idle (.inl h)), fun h => run_onPort_idle hup (if_neg (by rw [h]; decide)),
      fun h => run_onPort_idle hup (if_neg h)⟩
  case absent =>
    intro c p l0 l1 l2 l3 skew caps s hup hport hc
    simp only [List.mem_cons, List.not_mem_nil, or_false] at hc
    rcases hc with rfl | rfl | rfl | rfl | rfl | rfl | rfl <;> exact run_onPort_absent hup hport

end Sys2Proof.Proofs
end

section
/-!
Proofs of the family 08_lanes_multimodule: groups, value stripes and pedigree words on a lane port (O44).
-/
namespace Sys2Proof.Proofs
open Sys2Proof.Machine Sys2Proof.Laws

/-! ### The stripes of a group (R245) -/

section
variable {ped : BitVec 128} {d : GroupDraft} {k : Nat}

theorem draftStripe_data {x : LanePart} {rest : List LanePart} (hdata : d.data = x :: rest) (hk : k < 7) (hwaves : d.waves = []) :
    draftStripe ped d k = { d with parts := d.parts ++ [x], data := rest } := by
  rw [draftStripe, hdata]
  exact if_pos ⟨hk, hwaves⟩

theorem draftStripe_ctrl (h : d.data = [] ∨ 7 ≤ k ∨ d.waves ≠ []) : draftStripe ped d k = draftStripe.ctrl ped d := by
  unfold draftStripe
  split
  · next hdata =>
    refine if_neg fun hfits => ?_
    rcases h with h | h | h
    · rw [h] at hdata
      cases hdata
    · omega
    · exact h hfits.2
  · rfl

theorem draftCtrl_pedigree (h : d.count % 256 = 0) :
    draftStripe.ctrl ped d = { d with count := d.count + 1, parts := d.parts ++ [.pedigree ped] } := if_pos h

/-- A control block that is no PEDIGREE takes the WAVE messages that wait first. -/
theorem draftCtrl_other (h : d.count % 256 ≠ 0) : ∃ x time, draftStripe.ctrl ped d =
    { parts := d.parts ++ [x], count := d.count + 1, waves := d.waves.drop 3, data := d.data, time := time } := by
  unfold draftStripe.ctrl
  rw [if_neg h]
  split
  · exact ⟨_, _, rfl⟩
  · next hwaves =>
    have hnone : d.waves = [] := not_not.mp hwaves
    split
    · exact ⟨_, _, by rw [hnone]; rfl⟩
    · exact ⟨_, _, by rw [hnone]; rfl⟩

theorem draftCtrl_count : (draftStripe.ctrl ped d).count = d.count + 1 ∧ (draftStripe.ctrl ped d).data = d.data ∧
    ∃ x, (draftStripe.ctrl ped d).parts = d.parts ++ [x] := by
  by_cases h : d.count % 256 = 0
  · rw [draftCtrl_pedigree h]
    exact ⟨rfl, rfl, _, rfl⟩
  · obtain ⟨x, time, hctrl⟩ := draftCtrl_other (ped := ped) h
    rw [hctrl]
    exact ⟨rfl, rfl, x, rfl⟩

/-- A stripe of the group is a data stripe or a control block. -/
theorem draftStripe_cases (ped : BitVec 128) (d : GroupDraft) (k : Nat) :
    (∃ x rest, d.data = x :: rest ∧ draftStripe ped d k = { d with parts := d.parts ++ [x], data := rest }) ∨
      draftStripe ped d k = draftStripe.ctrl ped d := by
  by_cases h : d.data = [] ∨ 7 ≤ k ∨ d.waves ≠ []
  · exact .inr (draftStripe_ctrl h)
  · simp only [not_or, Nat.not_le, not_not] at h
    obtain ⟨hdata, hk, hwaves⟩ := h
    obtain ⟨x, rest, hx⟩ := List.exists_cons_of_ne_nil hdata
    exact .inl ⟨x, rest, hx, draftStripe_data hx hk hwaves⟩

theorem draftStripe_appends : ∃ x, (draftStripe ped d k).parts = d.parts ++ [x] := by
  rcases draftStripe_cases ped d k with ⟨x, rest, _, h⟩ | h <;> rw [h]
  · exact ⟨x, rfl⟩
  · exact draftCtrl_count.2.2

end

/-- The group in the making after `k` stripes. -/
def draftAfter (ped : BitVec 128) (d : GroupDraft) (k : Nat) : GroupDraft := (List.range k).foldl (draftStripe ped) d

/-- The group before its first stripe. -/
def draftStart (s : State) (p : Nat) (items : List LanePart) : GroupDraft :=
  { count := (s.lane p).ctrlCount, waves := if carriesDesign s p then (s.lane p).waveQ else []
    data := items.filter LanePart.isData, time := items.filter (fun x => !x.isData) }

theorem draftGroup_eq (s : State) (p : Nat) (items : List LanePart) :
    draftGroup s p items = draftAfter (pedigreeWord s p) (draftStart s p items) 8 := rfl

section
variable {ped : BitVec 128} {d : GroupDraft}

theorem draftAfter_succ (k : Nat) : draftAfter ped d (k + 1) = draftStripe ped (draftAfter ped d k) k := by
  rw [draftAfter, List.range_succ, List.foldl_append]
  rfl

theorem draftAfter_length (hparts : d.parts = []) (k : Nat) : (draftAfter ped d k).parts.length = k := by
  induction k with
  | zero => rw [draftAfter, List.range_zero, List.foldl_nil, hparts, List.length_nil]
  | succ k ih =>
    obtain ⟨x, hx⟩ := draftStripe_appends (ped := ped) (d := draftAfter ped d k) (k := k)
    rw [draftAfter_succ, hx, List.length_append, ih, List.length_singleton]

/-- A stripe that stands stays. -/
theorem draftAfter_mem {x : LanePart} {j k : Nat} (hjk : j ≤ k) (h : x ∈ (draftAfter ped d j).parts) :
    x ∈ (draftAfter ped d k).parts := by
  induction k, hjk using Nat.le_induction with
  | base => exact h
  | succ k _ ih =>
    obtain ⟨y, hy⟩ := draftStripe_appends (ped := ped) (d := draftAfter ped d k) (k := k)
    rw [draftAfter_succ, hy]
    exact List.mem_append_left _ ih

/-- With no WAVE message that waits the first data stripe leads the group. -/
theorem draftAfter_head {x : LanePart} {rest : List LanePart} (hparts : d.parts = []) (hdata : d.data = x :: rest)
    (hwaves : d.waves = []) (k : Nat) : (draftAfter ped d (k + 1)).parts.head? = some x := by
  induction k with
  | zero =>
    have hfirst : draftAfter ped d 1 = { d with parts := d.parts ++ [x], data := rest } :=
      draftStripe_data hdata (by decide) hwaves
    rw [hfirst, hparts]
    rfl
  | succ k ih =>
    obtain ⟨y, hy⟩ := draftStripe_appends (ped := ped) (d := draftAfter ped d (k + 1)) (k := k + 1)
    rw [draftAfter_succ, hy, List.head?_append, ih]
    rfl

/-- Where the count passes a multiple of 256 a PEDIGREE stands (R245). -/
theorem draftAfter_pedigree (k : Nat) : d.count ≤ (draftAfter ped d k).count ∧
    (pedigreeDue d.count (draftAfter ped d k).count = true → .pedigree ped ∈ (draftAfter ped d k).parts) := by
  induction k with
  | zero =>
    refine ⟨Nat.le_refl _, fun hdue => absurd (of_decide_eq_true hdue) ?_⟩
    show ¬ (d.count + 255) / 256 * 256 < d.count
    omega
  | succ k ih =>
    obtain ⟨hle, hmem⟩ := ih
    rw [draftAfter_succ]
    rcases draftStripe_cases ped (draftAfter ped d k) k with ⟨x, rest, -, h⟩ | h <;> rw [h]
    · exact ⟨hle, fun hdue => List.mem_append_left _ (hmem hdue)⟩
    · obtain ⟨hcount, -, x, hparts⟩ := draftCtrl_count (ped := ped) (d := draftAfter ped d k)
      rw [hcount]
      refine ⟨by omega, fun hdue => ?_⟩
      by_cases hturn : (draftAfter ped d k).count % 256 = 0
      · rw [draftCtrl_pedigree hturn]
        simp
      · have hdue : (d.count + 255) / 256 * 256 < (draftAfter ped d k).count + 1 := of_decide_eq_true hdue
        rw [hparts]
        exact List.mem_append_left _ (hmem (decide_eq_true (by omega)))

/-- With nothing but control blocks to send each stripe counts. -/
theorem draftAfter_count (hdata : d.data = []) (k : Nat) :
    (draftAfter ped d k).count = d.count + k ∧ (draftAfter ped d k).data = [] := by
  induction k with
  | zero => exact ⟨rfl, hdata⟩
  | succ k ih =>
    obtain ⟨hcount, hnone⟩ := ih
    rw [draftAfter_succ, draftStripe_ctrl (.inl hnone), draftCtrl_count.1, draftCtrl_count.2.1, hcount, hnone]
    exact ⟨rfl, rfl⟩

/-- While a data stripe waits, each control block has taken three of the WAVE messages ahead of it, but one that was a
PEDIGREE. -/
theorem draftAfter_waits {x : LanePart} (hdata : d.data = [x]) (hwaves : d.waves.length ≤ 15) {k : Nat} (hk : k ≤ 7) :
    x ∈ (draftAfter ped d k).parts ∨
      ((draftAfter ped d k).data = [x] ∧ (draftAfter ped d k).count = d.count + k ∧
        (draftAfter ped d k).waves.length + 3 * k + 3 * ((d.count + 255) / 256) ≤ 15 + 3 * ((d.count + k + 255) / 256)) := by
  induction k with
  | zero => exact .inr ⟨hdata, rfl, by simpa [draftAfter] using hwaves⟩
  | succ k ih =>
    rcases ih (by omega) with hplaced | ⟨hwaiting, hcount, hlen⟩
    · exact .inl (draftAfter_mem (Nat.le_succ k) hplaced)
    · rw [draftAfter_succ]
      by_cases hnone : (draftAfter ped d k).waves = []
      · rw [draftStripe_data hwaiting (by omega) hnone]
        exact .inl (by simp)
      · rw [draftStripe_ctrl (.inr (.inr hnone))]
        have hpos := List.length_pos_of_ne_nil hnone
        refine .inr ⟨draftCtrl_count.2.1.trans hwaiting, by rw [draftCtrl_count.1, hcount]; rfl, ?_⟩
        by_cases hturn : (draftAfter ped d k).count % 256 = 0
        · rw [draftCtrl_pedigree hturn]
          dsimp only
          omega
        · obtain ⟨y, time, hctrl⟩ := draftCtrl_other (ped := ped) hturn
          rw [hctrl]
          simp only [List.length_drop]
          omega

/-- Up to 15 WAVE messages leave room for a data stripe (R245). -/
theorem draftAfter_places {x : LanePart} (hdata : d.data = [x]) (hwaves : d.waves.length ≤ 15) :
    x ∈ (draftAfter ped d 8).parts := by
  refine draftAfter_mem (by decide : 7 ≤ 8) ((draftAfter_waits hdata hwaves (Nat.le_refl 7)).resolve_right ?_)
  rintro ⟨-, -, hlen⟩
  omega

end

section
variable {p : Nat} {s : State} {items : List LanePart}

theorem draftGroup_length : (draftGroup s p items).parts.length = 8 := by
  rw [draftGroup_eq]
  exact draftAfter_length rfl 8

theorem draftGroup_pedigree (h : pedigreeDue (s.lane p).ctrlCount (draftGroup s p items).count = true) :
    .pedigree (pedigreeWord s p) ∈ (draftGroup s p items).parts := by
  rw [draftGroup_eq] at h ⊢
  exact (draftAfter_pedigree 8).2 h

theorem draftGroup_count : (draftGroup s p []).count = (s.lane p).ctrlCount + 8 := by
  rw [draftGroup_eq]
  exact (draftAfter_count rfl 8).1

theorem draftGroup_value (h : Word64) (v : BitVec 192) (hwaves : (s.lane p).waveQ.length ≤ 15) :
    .value h v ∈ (draftGroup s p [.value h v]).parts := by
  rw [draftGroup_eq]
  refine draftAfter_places rfl ?_
  show (if carriesDesign s p then (s.lane p).waveQ else []).length ≤ 15
  split
  · exact hwaves
  · exact Nat.zero_le _

theorem draftGroup_head {h : Word64} {v : BitVec 192} (hwaves : (s.lane p).waveQ = []) :
    (draftGroup s p [.value h v]).parts.head? = some (.value h v) := by
  rw [draftGroup_eq]
  refine draftAfter_head rfl rfl ?_ 7
  show (if carriesDesign s p then (s.lane p).waveQ else []) = []
  rw [hwaves, ite_self]

end

/-! ### Groups received (R252, R253) -/

/-- A stripe of an accepted group that brings something on a port of the role. -/
def stripeBrings (role : BitVec 2) (x : LaneStripe) : Bool := if isCtrl x then decide (cbType x < 6) else role == 0

/-- From `l` to `m` an accepted group has brought `parts`, with ACK and NAK. -/
def Brought (parts : List LanePart) (l m : LanePort) : Prop :=
  m = { l with outstanding := m.outstanding, nakRx := m.nakRx, inbox := l.inbox ++ parts }

namespace Brought
variable {a b : List LanePart} {l m n : LanePort}

theorem refl (l : LanePort) : Brought [] l l := by simp [Brought]

theorem trans (h : Brought a l m) (k : Brought b m n) : Brought (a ++ b) l n := by
  unfold Brought at h k ⊢
  rw [k, h]
  simp

theorem role (h : Brought a l m) : m.role = l.role := by
  unfold Brought at h
  rw [h]

theorem st (h : Brought a l m) : m.st = l.st := by
  unfold Brought at h
  rw [h]

theorem rxSeq (h : Brought a l m) : m.rxSeq = l.rxSeq := by
  unfold Brought at h
  rw [h]

theorem nakDue (h : Brought a l m) : m.nakDue = l.nakDue := by
  unfold Brought at h
  rw [h]

theorem inbox (h : Brought a l m) : m.inbox = l.inbox ++ a := by
  unfold Brought at h
  rw [h]

/-- Parts come to stand at the end of the inbox. -/
theorem part (a : List LanePart) (l : LanePort) : Brought a l { l with inbox := l.inbox ++ a } := rfl

theorem nak (l : LanePort) (x : Option (BitVec 8)) : Brought [] l { l with nakRx := x } := by simp [Brought]

theorem ack (l : LanePort) (x : BitVec 8) : Brought [] l (LanePort.acked l x) := by
  rw [acked_eq]
  simp [Brought]

end Brought

section
variable {p : Nat} {s : State}

/-- ACK of a control block covers groups. -/
def ackTaken (p : Nat) (x : LaneStripe) (s : State) : State := if isCtrl x then takeAck (cbAck x) p s else s

/-- NAK of a control block waits to be answered. -/
def nakTaken (p : Nat) (x : LaneStripe) (s : State) : State :=
  if isCtrl x && cbNak x then s.setLane p { s.lane p with nakRx := some (cbAck x) } else s

theorem ackTaken_step (x : LaneStripe) (s : State) : ∃ m, Brought [] (s.lane p) m ∧ PortStep p m s (ackTaken p x s) := by
  unfold ackTaken
  split
  · exact ⟨_, .ack .., takeAck_step ..⟩
  · exact ⟨_, .refl _, .kept p (.refl s)⟩

theorem nakTaken_step (x : LaneStripe) (s : State) : ∃ m, Brought [] (s.lane p) m ∧ PortStep p m s (nakTaken p x s) := by
  unfold nakTaken
  split
  · exact ⟨_, .nak .., .setLane p _ s⟩
  · exact ⟨_, .refl _, .kept p (.refl s)⟩

theorem stripeAccept_reserved {x : LaneStripe} (h : (isCtrl x && decide (6 ≤ cbType x)) = true) :
    stripeAccept p x s = lnkCnt p 7 1 s := if_pos h

theorem stripeAccept_taken {x : LaneStripe} (h : (isCtrl x && decide (6 ≤ cbType x)) = false) : stripeAccept p x s =
    if isCtrl x || ((nakTaken p x (ackTaken p x s)).lane p).role == 0 then
      (nakTaken p x (ackTaken p x s)).setLane p { (nakTaken p x (ackTaken p x s)).lane p with
        inbox := ((nakTaken p x (ackTaken p x s)).lane p).inbox ++ stripeParts x }
    else nakTaken p x (ackTaken p x s) := if_neg (by simp [h])

theorem stripeAccept_step (x : LaneStripe) (s : State) : ∃ m,
    Brought (if stripeBrings (s.lane p).role x then stripeParts x else []) (s.lane p) m ∧
      PortStep p m s (stripeAccept p x s) := by
  cases hres : (isCtrl x && decide (6 ≤ cbType x)) with
  | true =>
    have hnone : stripeBrings (s.lane p).role x = false := by
      simp only [Bool.and_eq_true, decide_eq_true_eq] at hres
      rw [stripeBrings, if_pos hres.1]
      exact decide_eq_false (by omega)
    rw [stripeAccept_reserved hres, hnone]
    exact ⟨_, .refl _, .kept p (lnkCnt_laneKept 1 s (by decide))⟩
  | false =>
    obtain ⟨a, ha, hack⟩ := ackTaken_step (p := p) x s
    obtain ⟨n, hn, hnak⟩ := nakTaken_step (p := p) x (ackTaken p x s)
    rw [hack.lane] at hn
    have hstep := hack.trans hnak
    have hboth : Brought [] (s.lane p) n := ha.trans hn
    have hrole : n.role = (s.lane p).role := hboth.role
    have hbrings : (isCtrl x || n.role == 0) = stripeBrings (s.lane p).role x := by
      rw [hrole, stripeBrings]
      cases hctrl : isCtrl x with
      | true =>
        rw [hctrl, Bool.true_and, decide_eq_false_iff_not] at hres
        simpa using hres
      | false => simp
    rw [stripeAccept_taken hres, hstep.lane, hbrings]
    split
    · exact ⟨_, hboth.trans (.part (stripeParts x) n), hstep.trans (.setLane p _ _)⟩
    · exact ⟨n, hboth, hstep⟩

/-- What a group brings: the parts of its stripes, in order. -/
theorem stripesAccept_step (l : List LaneStripe) (s : State) : ∃ m,
    Brought ((l.filter (stripeBrings (s.lane p).role)).flatMap stripeParts) (s.lane p) m ∧
      PortStep p m s (forEach l (stripeAccept p) s) := by
  induction l generalizing s with
  | nil => exact ⟨_, .refl _, .kept p (.refl s)⟩
  | cons x l ih =>
    obtain ⟨a, ha, hfirst⟩ := stripeAccept_step (p := p) x s
    obtain ⟨m, hm, hrest⟩ := ih (stripeAccept p x s)
    have hrole : a.role = (s.lane p).role := ha.role
    rw [hfirst.lane, hrole] at hm
    refine ⟨m, ?_, hfirst.trans hrest⟩
    have hall := ha.trans hm
    rw [List.filter_cons]
    cases hbrings : stripeBrings (s.lane p).role x <;> simpa [hbrings] using hall

end

end Sys2Proof.Proofs
end

section
/-!
Proofs of the family 08_lanes_multimodule: what a lane port does with groups, value stripes and pedigree words (O44).
-/
namespace Sys2Proof.Proofs
open Sys2Proof.Machine Sys2Proof.Laws

/-! ### Groups received (R252) -/

section
variable {p : Nat} {l : List LaneStripe} {s : State}

theorem groupIn_active (hst : (s.lane p).st = .active) : groupIn l p s = sendGroup p []
    (if groupSound s p l then forEach l (stripeAccept p) (s.setLane p { s.lane p with rxSeq := (s.lane p).rxSeq + 1, nakDue := false })
     else groupBad (!groupOk l || !(s.lane p).nakDue) p s) := if_neg (not_not_intro hst)

theorem groupIn_idle (hst : (s.lane p).st ≠ .active) :
    groupIn l p s = if reflects s p then s.emit (.laneGroup p l) else s := if_pos hst

/-- A corrupted group is reported and counted. -/
def groupReported (p : Nat) (s : State) : State := lnkCnt p 0 1 (lnkCause p 2 0 s)

theorem groupReported_laneKept (s : State) (hp : p < 16) : LaneKept s (groupReported p s) :=
  (lnkCause_laneKept 0 s hp (by decide)).trans (lnkCnt_laneKept 1 _ (by decide))

theorem groupReported_bit (s : State) (hp : p < 16) : (groupReported p s).bit (lnkReg p 8) 2 = true :=
  (lnkCnt_laneKept 1 _ (by decide)).cause p hp 2 (by decide) (lnkCause_bit 0 s (by decide))

theorem groupBad_eq (nak : Bool) (p : Nat) (s : State) : groupBad nak p s =
    if nak then lnkCnt p 1 1 ((groupReported p s).setLane p { (groupReported p s).lane p with nakDue := true, nakSend := true })
    else groupReported p s := rfl

theorem groupBad_fromReported (nak : Bool) (s : State) (hp : p < 16) : PortStep p
    { s.lane p with nakDue := (s.lane p).nakDue || nak, nakSend := (s.lane p).nakSend || nak } (groupReported p s)
      (groupBad nak p s) := by
  have hkept := groupReported_laneKept s hp
  rw [groupBad_eq, ← hkept.lane]
  cases nak with
  | false =>
    simp only [Bool.or_false, Bool.false_eq_true, if_false]
    exact .kept p (.refl _)
  | true =>
    simp only [Bool.or_true, if_true]
    exact (PortStep.setLane p _ _).andKept (lnkCnt_laneKept 1 _ (by decide))

end

/-! ### Groups sent again (R253, R254, R274) -/

section
variable {p : Nat} {s : State}

theorem resent_chg (p : Nat) (s : State) : Chg 1179650 s (resent p s) :=
  .after (timeDropped_chg ..) (.after (satAdd_silent_chg ..) (.after (State_setLane_chg ..) (.refl _ _)))

theorem resendAll_out (p : Nat) (s : State) : (resendAll p s).out =
    ((s.lane p).outstanding.map (fun g => groupOut p (s.lane p) (againGroup g))).reverse ++ s.out := by
  have hout : (resent p s).out = s.out := (resent_chg p s).same .out (by decide)
  rw [resendAll_eq, hout, List.map_map]
  rfl

/-- A measurement that one of the TIME blocks began is abandoned. -/
theorem timeDropped_pdelay {l : List LanePart} {d : PendPdelay} {b : TimeBlock} (h : (s.timPort p).pdelay = some d)
    (hb : .time b ∈ l) (htype : tbType b = 2) (hseq : tbSeq b = d.seq) : ((timeDropped p l s).timPort p).pdelay = none := by
  unfold timeDropped
  rw [h]
  dsimp only
  rw [if_pos (List.any_eq_true.mpr ⟨_, hb, by simp [htype, hseq]⟩), timPort_setTimPort_same]

theorem resendAll_pdelay {d : PendPdelay} {b : TimeBlock} (h : (s.timPort p).pdelay = some d)
    (hb : .time b ∈ (s.lane p).outstanding.flatMap (fun g => g.parts)) (htype : tbType b = 2) (hseq : tbSeq b = d.seq) :
    ((resendAll p s).timPort p).pdelay = none := by
  have htim : ∀ n, (lnkCnt p 2 n (s.setLane p { s.lane p with outstanding := (s.lane p).outstanding.map againGroup })).tim = s.tim :=
    fun n => (satAdd_silent_chg ..).same .tim (by decide)
  rw [resendAll_eq]
  refine timeDropped_pdelay (d := d) ?_ hb htype hseq
  rw [State.timPort, htim]
  exact h

theorem resend_again (h : (s.lane p).outstanding.any (fun g => 5 ≤ g.sent) = false) : resend p s = resendAll p s :=
  if_neg (by simp [h])

theorem resend_recovers (h : (s.lane p).outstanding.any (fun g => 5 ≤ g.sent) = true) : resend p s = enterRecovery p 0 s :=
  if_pos h

end

/-! ### Loss of a lane's lock (R256, R260) -/

section
variable {p : Nat} {s : State}

/-- The port with a lane unlocked. -/
def LanePort.unlocked (l : LanePort) (lane : Nat) : LanePort :=
  { l with locked := l.locked &&& ~~~(BitVec.ofNat 4 (2 ^ lane)) }

theorem lockLoss_active (lane : Nat) (hst : (s.lane p).st = .active) :
    lockLoss lane p s = enterRecovery p lane (s.setLane p (LanePort.unlocked (s.lane p) lane)) := if_pos hst

theorem lockLoss_idle (lane : Nat) (hst : (s.lane p).st ≠ .active) :
    lockLoss lane p s = s.setLane p (LanePort.unlocked (s.lane p) lane) := if_neg hst

theorem phaseLoss_active (lane : Nat) (hst : (s.lane p).st = .active) : phaseLoss lane p s = lockLoss lane p s := if_pos hst

theorem phaseLoss_idle (lane : Nat) (hst : (s.lane p).st ≠ .active) : phaseLoss lane p s = s := if_neg hst

theorem lockLoss_step (lane : Nat) (hp : p < 16) (hst : (s.lane p).st = .active) :
    PortStep p (recovering (LanePort.unlocked (s.lane p) lane)) s (lockLoss lane p s) := by
  have hset := PortStep.setLane p (LanePort.unlocked (s.lane p) lane) s
  have hstep := enterRecovery_step lane (s.setLane p (LanePort.unlocked (s.lane p) lane)) hp
  rw [hset.lane] at hstep
  rw [lockLoss_active lane hst]
  exact hset.trans hstep

theorem lockLoss_bit (lane : Nat) (hp : p < 16) (hst : (s.lane p).st = .active) :
    (lockLoss lane p s).bit (lnkReg p 8) 1 = true := by
  rw [lockLoss_active lane hst]
  exact enterRecovery_bit lane _ hp

end

section
variable {p : BitVec 4} {s : State}

theorem exec_groupReceive (l : List LaneStripe) (hup : s.up = true) (hport : p.toNat < s.lanePorts) :
    exec (.laneGroupReceive p l) s = .next (groupIn l p.toNat s) := run_onPort hup hport

theorem exec_nakReceive {ack : BitVec 8} (hup : s.up = true) (hport : p.toNat < s.lanePorts)
    (hst : (s.lane p.toNat).st = .active) (hnak : (s.lane p.toNat).nakRx = some ack) : exec (.laneNakReceive p ack) s =
      .next (resend p.toNat (takeAck ack p.toNat (s.setLane p.toNat { s.lane p.toNat with nakRx := none }))) := by
  have hexec : exec (.laneNakReceive p ack) s = .next (nakIn ack p.toNat s) := run_onPort hup hport
  rw [hexec, nakIn, if_pos ⟨hst, hnak⟩]

theorem exec_resendTimeout (hup : s.up = true) (hport : p.toNat < s.lanePorts) (hst : (s.lane p.toNat).st = .active) :
    exec (.laneResendTimeout p) s = .next (resend p.toNat s) := by
  have hexec : exec (.laneResendTimeout p) s = .next (if (s.lane p.toNat).st = .active then resend p.toNat s else s) :=
    run_onPort hup hport
  rw [hexec, if_pos hst]

theorem exec_blockLockLoss {heads : BitVec 128} (lane : BitVec 2) (hup : s.up = true) (hport : p.toNat < s.lanePorts)
    (h : 16 ≤ invalidHeads heads) :
    exec (.laneBlockLockLoss p ⟨lane, heads⟩) s = .next (lockLoss lane.toNat p.toNat s) := by
  have hexec : exec (.laneBlockLockLoss p ⟨lane, heads⟩) s =
      .next (if 16 ≤ invalidHeads heads then lockLoss lane.toNat p.toNat s else s) := run_onPort hup hport
  rw [hexec, if_pos h]

theorem exec_phaseLoss (lane : BitVec 2) (hup : s.up = true) (hport : p.toNat < s.lanePorts) :
    exec (.phaseLoopLockLoss p lane) s = .next (phaseLoss lane.toNat p.toNat s) := run_onPort hup hport

end

end Sys2Proof.Proofs
end

section
/-!
Proofs of the family 08_lanes_multimodule: value stripes and pedigree words that leave and arrive (O44).
-/
namespace Sys2Proof.Proofs
open Sys2Proof.Machine Sys2Proof.Laws

/-! ### Value stripes sent (R250) -/

section
variable {p txpos : Nat} {cyc : BitVec 8} {v : TxVal} {e : SlotLane} {vs : List Bool} {s : State}

/-- The first held value of a position for the cycles of a low byte. -/
def heldFirst (s : State) (p txpos : Nat) (cyc : BitVec 8) : Option TxVal :=
  s.lnk.tx.find? (fun t => t.port == p && t.pos == txpos && t.cyc.toNat % 256 == cyc.toNat)

theorem stripeOut_held (hv : heldFirst s p txpos cyc = some v) (he : txEntry s p txpos = some e)
    (hvs : heldValues s e v.cyc = some vs) : stripeOut cyc txpos p s =
      if carriesDesign s p && mayTransmit s v.cyc && !earlierWaits s p v.cyc txpos && itemRoom s p
      then sendStripe e v.cyc vs s else s := by
  unfold heldFirst at hv
  unfold stripeOut
  rw [hv, he]
  dsimp only
  rw [hvs]

/-- Without a held value, without an entry, and with a value of the entry missing nothing leaves. -/
theorem stripeOut_nothing (h : heldFirst s p txpos cyc = none ∨ txEntry s p txpos = none ∨
    ∃ v e, heldFirst s p txpos cyc = some v ∧ txEntry s p txpos = some e ∧ heldValues s e v.cyc = none) :
    stripeOut cyc txpos p s = s := by
  unfold heldFirst at h
  unfold stripeOut
  rcases h with hv | he | ⟨v, e, hv, he, hvs⟩
  · rw [hv]
  · rw [he]
    split
    · next heq => cases heq
    · rfl
  · rw [hv, he]
    dsimp only
    rw [hvs]

theorem txEntry_port (he : txEntry s p txpos = some e) : e.port = p := by
  have hfound := List.find?_some he
  simp only [Bool.and_eq_true, beq_iff_eq] at hfound
  exact hfound.1.2

/-- The values of the stripe are no longer held. -/
def stripeTaken (e : SlotLane) (cyc : Word64) (s : State) : State :=
  { s with lnk := { s.lnk with
    tx := s.lnk.tx.filter (fun t => !(t.port == e.port && t.pos == e.txpos && t.cyc == cyc &&
      e.slot ≤ t.slot && t.slot ≤ e.slot + e.lenM1)) } }

theorem sendStripe_eq (cyc : Word64) : sendStripe e cyc vs s =
    sendGroup e.port [.value (stripeHeader cyc s.wave.gen e) (packWide vs)] (stripeTaken e cyc s) := rfl

theorem active_of_carriesDesign (h : carriesDesign s p = true) : (s.lane p).st = .active := by
  simp only [carriesDesign, activeDesign, Bool.and_eq_true, beq_iff_eq] at h
  exact h.1.1

/-- A port that carries design traffic and has room for the stripe sends it with its next group. -/
theorem sendStripe_room (cyc : Word64) (hport : e.port = p) (hcarries : carriesDesign s p = true) (hroom : itemRoom s p = true) :
    ∃ parts, parts.length = 8 ∧ .value (stripeHeader cyc s.wave.gen e) (packWide vs) ∈ parts ∧
      sendStripe e cyc vs s = ((stripeTaken e cyc s).setLane p
        ((sendStripe e cyc vs s).lane p)).emit (.laneGroup p (groupStripes (s.lane p).txSeq ((s.lane p).rxSeq - 1)
          (s.lane p).nakSend parts)) ∧
      ((sendStripe e cyc vs s).lane p).txSeq = (s.lane p).txSeq + 1 := by
  subst hport
  have hst : ((stripeTaken e cyc s).lane e.port).st = .active := active_of_carriesDesign hcarries
  simp only [itemRoom, hcarries, Bool.not_true, Bool.false_or, Bool.and_eq_true, decide_eq_true_eq] at hroom
  obtain ⟨hfree, hwaves⟩ := hroom
  rw [sendStripe_eq, (sendGroup_room_step _ hst hfree).lane, sendGroup_room _ hst hfree]
  exact ⟨_, draftGroup_length, draftGroup_value _ _ hwaves, rfl, rfl⟩

end

/-! ### Value stripes received (R251) -/

section
variable {p : Nat} {h : Word64} {values : BitVec 192} {s : State}

/-- The port takes value stripes. -/
def takesStripes (s : State) (p : Nat) : Bool := carriesDesign s p && s.img.valid && s.sch.st != .faultStop

/-- How far the stripe's cycle stands beyond the one after COMMITTED. -/
def stripeAhead (h : Word64) (s : State) : Nat := (ebits h 56 8 + 512 - (s.sch.committed.toNat + 1) % 256) % 256

/-- A stripe as the hub reads it. -/
def stripeRead (h : Word64) (values : BitVec 192) (p : Nat) (s : State) : WaitStripe :=
  { port := p, cyc := s.sch.committed + BitVec.ofNat 64 (stripeAhead h s + 1), gen := BitVec.ofNat 16 (ebits h 40 16)
    txpos := ebits h 28 12, slot := ebits h 16 12, countM1 := ebits h 8 8, values := values }

/-- Every value of the stripe is declared. -/
def stripeDeclared (s : State) (p : Nat) (h : Word64) : Bool := rxMatched s p (ebits h 28 12) (ebits h 16 12) (ebits h 8 8)

theorem running_of_takesStripes (ht : takesStripes s p = true) : s.sch.st ≠ .faultStop := by
  simp only [takesStripes, Bool.and_eq_true, bne_iff_ne] at ht
  exact ht.2

theorem stripeIn_dropped (ht : takesStripes s p = false) : stripeIn h values p s = s := by
  refine if_pos ?_
  simp only [takesStripes, Bool.and_eq_false_iff, bne_eq_false_iff_eq] at ht
  rcases ht with (ht | ht) | ht <;> simp [ht]

theorem stripeIn_taken (ht : takesStripes s p = true) : stripeIn h values p s =
    if !stripeDeclared s p h then lnkCause p 5 0 (lnkCnt p 5 1 s)
    else if 4 ≤ stripeAhead h s then protocolError s
    else treatStripe (stripeRead h values p s) s := by
  refine if_neg ?_
  simp only [takesStripes, Bool.and_eq_true, bne_iff_ne] at ht
  obtain ⟨⟨hcarries, himg⟩, hst⟩ := ht
  simp [hcarries, himg, hst]

theorem stripeIn_undeclared (ht : takesStripes s p = true) (hd : stripeDeclared s p h = false) :
    stripeIn h values p s = lnkCause p 5 0 (lnkCnt p 5 1 s) := by rw [stripeIn_taken ht, if_pos (by simp [hd])]

theorem stripeIn_far (ht : takesStripes s p = true) (hd : stripeDeclared s p h = true) (hfar : 4 ≤ stripeAhead h s) :
    stripeIn h values p s = protocolError s := by rw [stripeIn_taken ht, if_neg (by simp [hd]), if_pos hfar]

theorem stripeIn_near (ht : takesStripes s p = true) (hd : stripeDeclared s p h = true) (hnear : stripeAhead h s < 4) :
    stripeIn h values p s = treatStripe (stripeRead h values p s) s := by
  rw [stripeIn_taken ht, if_neg (by simp [hd]), if_neg (Nat.not_le.mpr hnear)]

end

section
variable {w : WaitStripe} {s : State}

theorem treatStripe_stale (h : staleValue s w.port w.cyc w.gen = true) :
    treatStripe w s = lnkCnt w.port 4 (w.countM1 + 1) s := if_pos h

theorem treatStripe_waits (h : staleValue s w.port w.cyc w.gen = false) (hnew : newer w.gen s.wave.gen = true) :
    treatStripe w s = { s with lnk := { s.lnk with waiting := s.lnk.waiting ++ [w] } } :=
  (if_neg (by simp [h])).trans (if_pos hnew)

theorem treatStripe_records (h : staleValue s w.port w.cyc w.gen = false) (hnow : newer w.gen s.wave.gen = false) :
    treatStripe w s = recordStripe w s := (if_neg (by simp [h])).trans (if_neg (by simp [hnow]))

/-- A value that has no record is recorded. -/
theorem recordValue_new {j : Nat} (h : findRec s.lnk.recs w.port w.cyc w.txpos (w.slot + j) = none) :
    recordValue w j s = ({ s with lnk := { s.lnk with recs := s.lnk.recs ++
      [{ port := w.port, cyc := w.cyc, txpos := w.txpos, slot := w.slot + j, val := w.values.getLsbD j, gen := w.gen }] } },
      false) := by
  unfold recordValue
  rw [h]

/-- A record that has been delivered is compared and taken over. -/
theorem recordValue_delivered {j : Nat} {r : HubRec} (h : findRec s.lnk.recs w.port w.cyc w.txpos (w.slot + j) = some r)
    (hd : r.delivered = true) : recordValue w j s = ({ s with lnk := { s.lnk with recs := s.lnk.recs.map (fun x =>
      if x = r then { r with val := w.values.getLsbD j, gen := w.gen, stale := false } else x) } },
      r.val != w.values.getLsbD j) := by
  unfold recordValue
  rw [h]
  dsimp only
  rw [if_pos hd, hd, Bool.true_and]

end

/-! ### A pedigree word that leaves (R245, R262) -/

/-- A group or a control block with the pedigree word has left. -/
def PedigreeLeft (p : Nat) (w : BitVec 128) (s : State) : Prop :=
  (∃ g a n parts, Output.laneGroup p (groupStripes g a n parts) ∈ s.out ∧ .pedigree w ∈ parts) ∨
    ∃ g a n, Output.laneBlock p (ctrlStripe g a n (.pedigree w)) ∈ s.out

section
variable {a b c : Nat}

theorem pedigreeDue_iff : pedigreeDue a b = true ↔ (a + 255) / 256 * 256 < b := decide_eq_true_iff

theorem pedigreeDue_within256 (a : Nat) : pedigreeDue a (a + 256) = true := by
  rw [pedigreeDue_iff]
  omega

/-- Blocks that hold no PEDIGREE leave the next one where it was. -/
theorem pedigreeDue_notYet (hab : a < b) (h : ¬ pedigreeDue a b = true) (c : Nat) : pedigreeDue b c = pedigreeDue a c := by
  rw [pedigreeDue_iff] at h
  rw [Bool.eq_iff_iff, pedigreeDue_iff, pedigreeDue_iff]
  omega

/-- Each group or block leaves fewer to send. -/
theorem pedigreeDue_nearer {n : Nat} (hab : a < b) (h : ¬ pedigreeDue a b = true)
    (hn : pedigreeDue a (a + (n + 1)) = true) : pedigreeDue b (b + n) = true := by
  rw [pedigreeDue_notYet hab h, pedigreeDue_iff]
  rw [pedigreeDue_iff] at hn
  omega

end

section
variable {p : Nat} {s : State}

/-- Where a group or a block passes a multiple of 256, it holds the pedigree word. -/
theorem sendGroup_pedigree (hst : (s.lane p).st = .active) :
    (s.lane p).ctrlCount < ((sendGroup p [] s).lane p).ctrlCount ∧
      (pedigreeDue (s.lane p).ctrlCount ((sendGroup p [] s).lane p).ctrlCount = true →
        ((sendGroup p [] s).lane p).pedTx = pedigreeWord s p ∧ PedigreeLeft p (pedigreeWord s p) (sendGroup p [] s)) := by
  cases hroom : laneRoom s p with
  | false =>
    rw [sendGroup_full [] hst hroom, (sendBlock_step _).lane]
    refine ⟨Nat.lt_succ_self _, fun hdue => ?_⟩
    have hdue : ((s.lane p).ctrlCount + 255) / 256 * 256 < (s.lane p).ctrlCount + 1 := pedigreeDue_iff.mp hdue
    have hturn : (s.lane p).ctrlCount % 256 == 0 := beq_iff_eq.mpr (by omega)
    refine ⟨if_pos hturn, .inr ⟨(s.lane p).txSeq, (s.lane p).rxSeq - 1, (s.lane p).nakSend, ?_⟩⟩
    rw [sendBlock_eq, if_pos hturn]
    exact List.mem_cons_self
  | true =>
    have hcount : (draftGroup s p []).count = (s.lane p).ctrlCount + 8 := draftGroup_count
    rw [(sendGroup_room_step [] hst hroom).lane]
    refine ⟨?_, fun hdue => ⟨if_pos hdue, .inl ⟨(s.lane p).txSeq, (s.lane p).rxSeq - 1, (s.lane p).nakSend, _, ?_,
      draftGroup_pedigree hdue⟩⟩⟩
    · show _ < (draftGroup s p []).count
      omega
    · rw [sendGroup_room [] hst hroom]
      exact List.mem_cons_self

theorem sendToPedigree_sends {n : Nat} (hst : (s.lane p).st = .active)
    (hn : pedigreeDue (s.lane p).ctrlCount ((s.lane p).ctrlCount + n) = true) :
    ((sendToPedigree n p s).lane p).pedTx = pedigreeWord s p ∧
      pedigreeDue (s.lane p).ctrlCount ((sendToPedigree n p s).lane p).ctrlCount = true ∧
      PedigreeLeft p (pedigreeWord s p) (sendToPedigree n p s) ∧ ∀ q, q ≠ p → (sendToPedigree n p s).lane q = s.lane q := by
  induction n generalizing s with
  | zero => exact absurd (pedigreeDue_iff.mp hn) (by omega)
  | succ n ih =>
    obtain ⟨l, hl, hstep⟩ := sendGroup_step (p := p) (s := s) []
    obtain ⟨hless, hsent⟩ := sendGroup_pedigree hst
    rw [sendToPedigree]
    split
    · next hdue => exact ⟨(hsent hdue).1, hdue, (hsent hdue).2, hstep.others⟩
    · next hnot =>
      have hdesync : ((sendGroup p [] s).lane p).desync = (s.lane p).desync := by rw [hstep.lane, hl.desync]
      have hword := pedigreeWord_of_lane (sendGroup_chg p [] s) hdesync
      obtain ⟨hped, hend, hleft, hothers⟩ := ih (by rw [hstep.lane, hl.st, hst]) (pedigreeDue_nearer hless hnot hn)
      rw [hword] at hped hleft
      rw [pedigreeDue_notYet hless hnot] at hend
      exact ⟨hped, hend, hleft, fun q hq => (hothers q hq).trans (hstep.others q hq)⟩

theorem pedigreeSend_active (hst : (s.lane p).st = .active) : pedigreeSend p s = sendToPedigree 256 p s := if_pos hst

theorem pedigreeSend_idle (hst : (s.lane p).st ≠ .active) : pedigreeSend p s = s := if_neg hst

end

/-! ### What an accepted group brought, handed on -/

theorem laneTake_step (p : Nat) (x : LanePart) (s : State) :
    PortStep p { s.lane p with inbox := (s.lane p).inbox.erase x } s (laneTake p x s) := .setLane p _ s

section
variable {p : BitVec 4} {s : State}

theorem exec_stripeSend (cyc : BitVec 8) (txpos : BitVec 12) (hup : s.up = true) (hport : p.toNat < s.lanePorts) :
    exec (.valueStripeSend p cyc txpos) s = .next (stripeOut cyc txpos.toNat p.toNat s) := run_onPort hup hport

theorem exec_stripeReceive {h : Word64} {values : BitVec 192} (hup : s.up = true) (hport : p.toNat < s.lanePorts)
    (hhas : laneHas s p.toNat (.value h values) = true) : exec (.valueStripeReceive p h values) s =
      .next (stripeIn h values p.toNat (laneTake p.toNat (.value h values) s)) := by
  have hexec : exec (.valueStripeReceive p h values) s =
      .next (laneGives p.toNat (.value h values) (stripeIn h values p.toNat) s) := run_onPort hup hport
  rw [hexec, laneGives_brought hhas]

theorem exec_pedigreeSend (hup : s.up = true) (hport : p.toNat < s.lanePorts) :
    exec (.pedigreeSend p) s = .next (pedigreeSend p.toNat s) := run_onPort hup hport

/-- A pedigree word that is handed on counts on an ACTIVE port alone. -/
def pedigreeTaken (p : Nat) (word : BitVec 128) (s : State) : State :=
  if (s.lane p).st = .active then pedigreeIn p word s else s

theorem exec_pedigreeReceive {word : BitVec 128} (hup : s.up = true) (hport : p.toNat < s.lanePorts)
    (hhas : laneHas s p.toNat (.pedigree word) = true) : exec (.pedigreeReceive p word) s =
      .next (pedigreeTaken p.toNat word (laneTake p.toNat (.pedigree word) s)) := by
  have hexec : exec (.pedigreeReceive p word) s =
      .next (laneGives p.toNat (.pedigree word) (pedigreeTaken p.toNat word) s) := run_onPort hup hport
  rw [hexec, laneGives_brought hhas]

end

end Sys2Proof.Proofs
end

section
/-!
Proofs of the family 08_lanes_multimodule: O44, clause by clause.
-/
namespace Sys2Proof.Proofs
open Sys2Proof.Machine Sys2Proof.Laws

/-- Settles O44: clause by clause, from what each step leaves of its port. -/
theorem laneGroupsAndStripes : Obligations.LaneGroupsAndStripes := by
  unfold Obligations.LaneGroupsAndStripes
  refine ⟨?group, ?received, ?again, ?notAgain, ?lockLoss, ?noLoss, ?stripe, ?noStripe, ?stripeIn,
    fun w j s => ⟨recordValue_new, fun r => recordValue_delivered⟩, ?notBrought, ?pedigree, ?pedigreeIn⟩
  case group =>
    intro p items s hst hroom
    have hstep := sendGroup_room_step items hst hroom
    refine ⟨_, (draftGroup s p items).parts, rfl, draftGroup_length, ?_⟩
    rw [hstep.lane]
    refine ⟨by rw [sendGroup_room items hst hroom]; rfl, rfl, rfl, rfl, ?_, hstep.others, (sendGroup_chg ..).changes⟩
    rintro h v rfl hwaves
    exact draftGroup_head hwaves
  case received =>
    intro p l s u hup hport
    have hp := p.isLt
    rw [exec_groupReceive l hup hport]
    refine ⟨fun hst => by rw [groupIn_idle hst], fun hst hsound hu => ?_, fun hst hsound => ?_⟩
    · obtain ⟨m, hm, haccept⟩ := stripesAccept_step (p := p.toNat) l
        (s.setLane p.toNat { s.lane p.toNat with rxSeq := (s.lane p.toNat).rxSeq + 1, nakDue := false })
      rw [lane_setLane_same] at hm
      rw [groupIn_active hst, if_pos hsound, ← hu]
      rw [← hu] at haccept
      rw [haccept.lane]
      refine ⟨rfl, hm.rxSeq, hm.nakDue, hm.st.trans hst, hm.inbox, ?_⟩
      rw [hu]
      exact (Chg.each (m := 131218) (.after (State_setLane_chg ..) (.refl _ _))
        (fun _ _ => .after (stripeAccept_chg ..) (.refl _ _))).changes
    · have hbad := groupBad_fromReported (!groupOk l || !(s.lane p.toNat).nakDue) s hp
      rw [groupIn_active hst, if_neg (by simp [hsound])]
      refine ⟨_, rfl, hbad.cause _ hp 2 (by decide) (groupReported_bit s hp), ?_⟩
      rw [hbad.lane]
      refine ⟨?_, rfl, rfl, by simp [Bool.or_assoc], (groupBad_chg ..).changes⟩
      cases (s.lane p.toNat).nakDue <;> simp
  case again =>
    intro c p ack s u hup hport hst hcu
    have hp := p.isLt
    have hfrom : exec c s = .next (resend p.toNat u) ∧ (∀ q, q ≠ p.toNat → u.lane q = s.lane q) ∧ Chg 131072 s u := by
      rcases hcu with ⟨rfl, hnak, rfl⟩ | ⟨rfl, rfl⟩
      · exact ⟨exec_nakReceive hup hport hst hnak, ((PortStep.setLane ..).trans (takeAck_step ..)).others,
          .after (takeAck_chg ..) (.after (State_setLane_chg ..) (.refl _ _))⟩
      · exact ⟨exec_resendTimeout hup hport hst, fun _ _ => rfl, .refl _ _⟩
    obtain ⟨hexec, hothers, hchg⟩ := hfrom
    rw [hexec]
    refine ⟨fun hfew => ?_, fun hmany => ?_⟩
    · have hstep := resendAll_step p.toNat u
      rw [resend_again hfew]
      exact ⟨_, rfl, hstep.lane, resendAll_out .., fun d hd b hb => resendAll_pdelay hd hb,
        fun q hq => (hstep.others q hq).trans (hothers q hq),
        (Chg.after (m := 1179794) (resendAll_chg ..) (.after hchg (.refl _ _))).changes⟩
    · have hstep := enterRecovery_step 0 u hp
      rw [resend_recovers hmany]
      exact ⟨_, rfl, hstep.lane, enterRecovery_bit 0 u hp, fun q hq => (hstep.others q hq).trans (hothers q hq),
        (Chg.after (m := 76677266) (enterRecovery_chg ..) (.after hchg (.refl _ _))).changes⟩
  case notAgain =>
    intro p ack s hup
    refine ⟨fun h => ?_, fun h => ?_⟩
    · rcases h with h | h | h
      · exact run_onPort_idle hup (if_neg fun hwas => h hwas.1)
      · exact run_onPort_idle hup (if_neg fun hwas => h hwas.2)
      · exact run_onPort_absent hup h
    · rcases h with h | h
      · exact run_onPort_idle hup (if_neg h)
      · exact run_onPort_absent hup h
  case lockLoss =>
    intro c p lane heads s hup hport hc
    have hp := p.isLt
    refine ⟨fun hst => ?_, fun hst hloss => ?_, fun hst hloop => ?_⟩
    · have hexec : exec c s = .next (lockLoss lane.toNat p.toNat s) := by
        rcases hc with ⟨rfl, hheads⟩ | rfl
        · exact exec_blockLockLoss lane hup hport hheads
        · rw [exec_phaseLoss lane hup hport, phaseLoss_active _ hst]
      have hstep := lockLoss_step lane.toNat hp hst
      rw [hexec]
      refine ⟨_, rfl, ?_⟩
      rw [hstep.lane]
      exact ⟨rfl, rfl, lockLoss_bit _ hp hst, hstep.others, (lockLoss_chg ..).changes⟩
    · subst hloss
      have hheads : 16 ≤ invalidHeads heads := by simpa using hc
      rw [exec_blockLockLoss lane hup hport hheads, lockLoss_idle _ hst]
      rfl
    · subst hloop
      rw [exec_phaseLoss lane hup hport, phaseLoss_idle _ hst]
  case noLoss =>
    intro p lane heads s hup
    refine ⟨fun h => ?_, fun h => run_onPort_absent hup h⟩
    rcases h with h | h
    · exact run_onPort_idle hup (if_neg (Nat.not_le.mpr h))
    · exact run_onPort_absent hup h
  case stripe =>
    intro p cyc txpos v e vs may s hup hport hv he hvs hmay
    rw [exec_stripeSend cyc txpos hup hport, stripeOut_held hv he hvs, ← hmay]
    refine ⟨fun h => ?_, fun h => by rw [h]; rfl⟩
    rw [if_pos h]
    rw [h] at hmay
    simp only [Bool.true_eq, Bool.and_eq_true] at hmay
    obtain ⟨⟨⟨hcarries, -⟩, -⟩, hroom⟩ := hmay
    obtain ⟨parts, hlen, hmem, heq, hseq⟩ := sendStripe_room (vs := vs) v.cyc (txEntry_port he) hcarries hroom
    exact ⟨_, parts, rfl, hlen, by rw [heq]; rfl, hmem, by rw [heq]; rfl, hseq, (sendStripe_chg ..).changes⟩
  case noStripe =>
    intro p cyc txpos s hup h
    rcases h with h | h | h | h
    · exact run_onPort_idle hup (stripeOut_nothing (.inl h))
    · exact run_onPort_idle hup (stripeOut_nothing (.inr (.inl h)))
    · exact run_onPort_absent hup h
    · exact run_onPort_idle hup (stripeOut_nothing (.inr (.inr h)))
  case stripeIn =>
    intro p h values d w takes s u hup hport hhas hu htakes hd hw
    have htaken : Chg 131072 s u := hu ▸ laneTake_chg ..
    have hsch : u.sch = s.sch := htaken.same .sch (by decide)
    have himg : u.img = s.img := htaken.same .img (by decide)
    have hwave : u.wave = s.wave := htaken.same .wave (by decide)
    have hread : w = stripeRead h values p.toNat u := by
      rw [hw, hd, ← hsch]
      rfl
    have hlane : w.port = p.toNat := congrArg WaitStripe.port hread
    have hahead : d = stripeAhead h u := by
      rw [hd, ← hsch]
      rfl
    have htakes : takes = takesStripes u p.toNat := by
      rw [htakes, ← himg, ← hsch]
      rfl
    subst htakes hahead
    rw [exec_stripeReceive hup hport hhas, ← hu, ← hwave]
    refine ⟨fun ht => ?_, fun ht hd => ?_, fun ht hd => ⟨fun hfar => ?_, fun hnear hstale => ?_, fun hnear hfresh hnew => ?_,
      fun hnear hfresh hnow => ?_⟩⟩
    · rw [stripeIn_dropped ht]
    · rw [stripeIn_undeclared ht hd]
      exact ⟨_, rfl, lnkCause_bit 0 _ (by decide),
        (Chg.after (m := 146) (lnkCause_chg ..) (.after (lnkCnt_chg ..) (.refl _ _))).changes⟩
    · obtain ⟨hstop, herror, -⟩ := protocolError_reports (running_of_takesStripes ht)
      rw [stripeIn_far ht hd hfar]
      exact ⟨_, rfl, hstop, herror, (Chg.after (m := 101093010) (protocolError_chg ..) (.after htaken (.refl _ _))).changes⟩
    · rw [stripeIn_near ht hd hnear, ← hread, ← hlane]
      rw [← hlane] at hstale
      rw [treatStripe_stale hstale]
    · rw [← hlane] at hfresh
      rw [stripeIn_near ht hd hnear, ← hread, treatStripe_waits hfresh hnew]
    · rw [← hlane] at hfresh
      rw [stripeIn_near ht hd hnear, ← hread, treatStripe_records hfresh hnow]
  case notBrought =>
    intro p h values word s hup
    refine ⟨fun hno => ?_, fun hno => ?_⟩ <;> rcases hno with hno | hno
    · exact run_onPort_idle hup (laneGives_absent hno)
    · exact run_onPort_absent hup hno
    · exact run_onPort_idle hup (laneGives_absent hno)
    · exact run_onPort_absent hup hno
  case pedigree =>
    intro p s hup
    refine ⟨fun hport hst => ?_, fun h => ?_⟩
    · obtain ⟨hped, hdue, hleft, hothers⟩ := sendToPedigree_sends hst (pedigreeDue_within256 _)
      rw [exec_pedigreeSend hup hport, pedigreeSend_active hst]
      exact ⟨_, rfl, hped, hdue, hleft, hothers, (sendToPedigree_chg ..).changes⟩
    · rcases h with h | h
      · exact run_onPort_idle hup (pedigreeSend_idle h)
      · exact run_onPort_absent hup h
  case pedigreeIn =>
    intro p word s u hup hport hhas hu
    have hp := p.isLt
    have htake : PortStep p.toNat { s.lane p.toNat with inbox := (s.lane p.toNat).inbox.erase (.pedigree word) } s u :=
      hu ▸ laneTake_step ..
    have hchg : Chg 131072 s u := hu ▸ laneTake_chg ..
    have hplat : u.plat = s.plat := hchg.same .plat (by decide)
    have hlive : (u.lane p.toNat).st = (s.lane p.toNat).st := by rw [htake.lane]
    rw [exec_pedigreeReceive hup hport hhas, pedigreeTaken, ← hu, ← hlive, ← hplat]
    refine ⟨fun hst => by rw [if_neg hst], fun hst hclass => ?_, fun hst hclass => ?_⟩ <;> rw [if_pos hst]
    · obtain ⟨b, d, l, hl, hrows, -, hstep⟩ := pedigreeIn_step hp hclass
      have hblocked : pedBlocked u p.toNat word = pedBlocked s p.toNat word :=
        pedBlocked_of_same hchg (by rw [htake.lane]) (by rw [htake.lane])
      have hrole : (u.lane p.toNat).role = (s.lane p.toNat).role := by rw [htake.lane]
      rw [hrole, hblocked] at hrows
      refine ⟨_, rfl, ?_⟩
      rw [hstep.lane]
      exact ⟨hl.pedRx, hl.pedSeen, hl.st.trans hst, fun hdesign => hl.pedBlocks.trans (hrows hdesign), (htake.trans hstep).others,
        (Chg.after (m := 1180818) (pedigreeIn_sameClass_chg hclass) (.after hchg (.refl _ _))).changes⟩
    · have hhalt := pedigreeIn_halts hp hclass
      have hactive : ((pedigreeStored p.toNat word u).lane p.toNat).st = .active := by
        rw [(pedigreeStored_step ..).lane]
        exact hst
      refine ⟨_, rfl, by rw [hhalt.lane]; rfl, ?_, ?_,
        (Chg.after (m := 110530194) (pedigreeIn_chg ..) (.after hchg (.refl _ _))).changes⟩ <;>
        rw [pedigreeIn_otherClass hclass]
      · exact portTo_lnkCause_bit 0 _ .halt hp (by decide)
      · exact portTo_lnkCause_linkDown 0 .halt hp (by decide) (.inl hactive)

end Sys2Proof.Proofs
end

section
/-!
Proofs of the family 09_shared_time: the servo, the time set by software, and the capture (O46).
-/
namespace Sys2Proof.Proofs
open Sys2Proof.Machine Sys2Proof.Laws

/-! ### The servo (R280) -/

/-- An event of the time block is pending once it is raised. -/
theorem raise_timPend {e : Nat} (hlo : 0x2C0 ≤ e) (hhi : e < 0x5C0) (s : State) : (raise e s).pendBit e = true := by
  refine raise_pendBit ?_
  simp only [eventAbsent, Bool.or_eq_false_iff, Bool.and_eq_false_iff, decide_eq_false_iff_not]
  omega

theorem raise_tim (e : Nat) (s : State) : (raise e s).tim = s.tim := (raise_chg e s).same .tim (by decide)

/-- TIM_OFFSET shows the offset of a complete Sync. -/
def offsetShown (o : Rat) (s : State) : State := s.setReg Reg.TIM_OFFSET (sat32 (o * 2 ^ 8).floor)

/-- A (GM, EPOCH) other than the one recorded ends what has been done for it (R280, step 3). -/
def masterJudged (gm : BitVec 6) (epoch : BitVec 8) (s : State) : State :=
  if s.tim.stepped ∧ (gm ≠ s.tim.gm ∨ epoch ≠ s.tim.epoch)
  then { s with tim := { s.tim with st := .unsynced, stepped := false } } else s

/-- The counter takes the offset away, before the event of R280's step 1. -/
def counterStepped (gm : BitVec 6) (epoch : BitVec 8) (o : Rat) (s : State) : State :=
  { s with tim := { s.tim with
    count := (((s.tim.count : Int) - (o * nsUnits).floor) % timeMod).toNat
    rate := 0, stepped := true, gm := gm, epoch := epoch, lockRun := 0 } }

/-- The run of Syncs near enough to lock, with this one. -/
def nearRun (o : Rat) (s : State) : Nat :=
  if decide (|o| ≤ ((s.fld Reg.TIM_THRESH 0 16 : Nat) : Rat)) then s.tim.lockRun + 1 else 0

/-- The rate is corrected and the run counted. -/
def rateCorrected (o : Rat) (s : State) : State :=
  { servoRate s o with tim := { (servoRate s o).tim with lockRun := nearRun o s } }

/-- LOCKED is entered, before its event. -/
def lockedOn (s : State) : State := { s with tim := { s.tim with st := .locked } }

/-- Step 2 of R280. -/
def rateStep (o : Rat) (s : State) : State :=
  if 16 ≤ nearRun o s ∧ s.tim.st ≠ .locked then raise 0x2C1 (lockedOn (rateCorrected o s)) else rateCorrected o s

/-- The limit of the rate correction, as the rate is kept. -/
def rateLimit (s : State) : Rat := (s.fld Reg.TIM_CFG 24 8 : Rat) / 10 ^ 6 * 2 ^ 40

theorem clamp_bounds {l : Rat} (hl : 0 ≤ l) (x : Rat) : -l ≤ max (-l) (min l x) ∧ max (-l) (min l x) ≤ l :=
  ⟨le_max_left .., max_le (by linarith) (min_le_left ..)⟩

section
variable {gm : BitVec 6} {epoch : BitVec 8} {o : Rat} {s : State}

theorem servo_eq (gm : BitVec 6) (epoch : BitVec 8) (o : Rat) (s : State) : servo gm epoch o s =
    if (masterJudged gm epoch (offsetShown o s)).tim.st = .unsynced ∧ !(masterJudged gm epoch (offsetShown o s)).tim.stepped
    then timeStepped (raise 0x2C0 (counterStepped gm epoch o (masterJudged gm epoch (offsetShown o s))))
    else rateStep o (masterJudged gm epoch (offsetShown o s)) := rfl

theorem masterJudged_same (h : s.tim.stepped = false ∨ (gm = s.tim.gm ∧ epoch = s.tim.epoch)) :
    masterJudged gm epoch s = s := by
  refine if_neg ?_
  rintro ⟨hdone, hother⟩
  rcases h with h | ⟨hgm, hepoch⟩
  · exact Bool.false_ne_true (h.symm.trans hdone)
  · exact hother.elim (· hgm) (· hepoch)

theorem servo_unstepped (hst : s.tim.st = .unsynced) (hnew : s.tim.stepped = false) :
    servo gm epoch o s = timeStepped (raise 0x2C0 (counterStepped gm epoch o (offsetShown o s))) := by
  have hjudged : masterJudged gm epoch (offsetShown o s) = offsetShown o s := masterJudged_same (.inl hnew)
  rw [servo_eq, hjudged]
  exact if_pos ⟨hst, by rw [Bool.not_eq_true']; exact hnew⟩

theorem servo_stepped (hdone : s.tim.stepped = true) (hgm : gm = s.tim.gm) (hepoch : epoch = s.tim.epoch) :
    servo gm epoch o s = rateStep o (offsetShown o s) := by
  have hjudged : masterJudged gm epoch (offsetShown o s) = offsetShown o s := masterJudged_same (.inr ⟨hgm, hepoch⟩)
  have hkept : (offsetShown o s).tim.stepped = true := hdone
  rw [servo_eq, hjudged, hkept]
  exact if_neg fun h => Bool.false_ne_true h.2

theorem nearRun_near (h : |o| ≤ ((s.fld Reg.TIM_THRESH 0 16 : Nat) : Rat)) : nearRun o s = s.tim.lockRun + 1 :=
  if_pos (decide_eq_true h)

theorem nearRun_far (h : ((s.fld Reg.TIM_THRESH 0 16 : Nat) : Rat) < |o|) : nearRun o s = 0 :=
  if_neg (by simpa using h)

theorem rateCorrected_chg : Chg 1048576 s (rateCorrected o s) :=
  .upd (r := servoRate s o) (.after (servoRate_chg ..) (.refl _ _))

/-- The kept rate is one of a correction within the limit, rounded down (R280; log 13). -/
theorem rateCorrected_limits :
    ((rateCorrected o s).tim.rate : Rat) ≤ rateLimit s ∧ -rateLimit s - 1 < ((rateCorrected o s).tim.rate : Rat) := by
  have hlim : (0 : Rat) ≤ (s.fld Reg.TIM_CFG 24 8 : Rat) / 10 ^ 6 := by positivity
  obtain ⟨hlo, hhi⟩ := clamp_bounds hlim (-(o / (4 * (syncNs s : Rat)) + (s.tim.integ + o / (64 * (syncNs s : Rat)))))
  have hunit : (0 : Rat) ≤ 2 ^ 40 := by positivity
  refine ⟨(Rat.floor_le _).trans (mul_le_mul_of_nonneg_right hhi hunit), lt_of_le_of_lt ?_ Rat.lt_floor⟩
  have hscaled := mul_le_mul_of_nonneg_right hlo hunit
  rw [rateLimit]
  linarith

/-- Step 2 leaves the counter and the rate as the correction has set them; the sixteenth near Sync in a row locks. -/
theorem rateStep_spec : (rateStep o s).tim.rate = (rateCorrected o s).tim.rate ∧ (rateStep o s).tim.count = s.tim.count ∧
    (rateStep o s).tim.lockRun = nearRun o s ∧
    (16 ≤ nearRun o s → (rateStep o s).tim.st = .locked ∧ (s.tim.st ≠ .locked → (rateStep o s).pendBit 0x2C1 = true)) ∧
    (nearRun o s < 16 → (rateStep o s).tim.st = s.tim.st) ∧ RegsBut [pendReg 0x2C1] s (rateStep o s) ∧
    Chg 1048722 s (rateStep o s) := by
  have hcorrected : Chg 1048722 s (rateCorrected o s) := .after rateCorrected_chg (.refl _ _)
  unfold rateStep
  split
  · next hlock =>
    have htim : (raise 0x2C1 (lockedOn (rateCorrected o s))).tim = (lockedOn (rateCorrected o s)).tim := raise_tim ..
    rw [htim]
    exact ⟨rfl, rfl, rfl, fun _ => ⟨rfl, fun _ => raise_timPend (by decide) (by decide) _⟩, fun hfew => absurd hlock.1 (by omega),
      regsBut_raise 0x2C1 (lockedOn (rateCorrected o s)), .after (raise_chg ..) (.upd hcorrected)⟩
  · next hlock =>
    refine ⟨rfl, rfl, rfl, fun hrun => ?_, fun _ => rfl, regsBut_refl _ s, hcorrected⟩
    have hlocked : s.tim.st = .locked := by
      by_contra hne
      exact hlock ⟨hrun, hne⟩
    exact ⟨hlocked, fun hne => absurd hlocked hne⟩

end

/-! ### Loss of Sync (R281) -/

/-- HOLDOVER is entered. -/
def heldOver (s : State) : State := { s with tim := { s.tim with st := .holdover, lockRun := 0 } }

section
variable {s : State}

theorem exec_syncLoss (hup : s.up = true) : exec .syncLossTimeout s = .next (timeHoldover s) := run_up _ hup

theorem timeHoldover_loses (h : s.tim.st = .locked ∨ (s.tim.st = .unsynced ∧ s.tim.stepped = true)) :
    timeHoldover s = raise 0x2C2 (heldOver s) := if_pos h

theorem timeHoldover_stays (hlocked : s.tim.st ≠ .locked) (hstep : ¬ (s.tim.st = .unsynced ∧ s.tim.stepped = true)) :
    timeHoldover s = s := if_neg (not_or.mpr ⟨hlocked, hstep⟩)

end

/-! ### The time set by software (R277) -/

/-- The time that TIM_SET names. -/
def timeNamed (s : State) : Nat :=
  ((s.reg Reg.TIM_SET).toNat % 2 ^ 16 * 2 ^ 32 + (s.reg (Reg.TIM_SET + 4)).toNat) * secUnits +
    (s.reg (Reg.TIM_SET + 8)).toNat * nsUnits

/-- The master's counter takes a value, and its EPOCH the next one. -/
def masterStepped (c : Nat) (s : State) : State :=
  timeStepped { s with tim := { s.tim with count := c, epoch := s.tim.epoch + 1 } }

section
variable {path : Path} {val : Word32} {s : State}

theorem exec_timSet (hup : s.up = true) (h : accepts path Reg.TIM_SET_GO val s) :
    exec (.timSet path val) s = .next (timSetWrite val (markDirty Reg.TIM_SET_GO s)) :=
  (run_up _ hup).trans (congrArg _ (regAccess_accepted _ h))

theorem timSetWrite_drops (h : val.getLsbD 0 = false ∨ s.tim.st ≠ .master) : timSetWrite val s = s := by
  refine if_neg ?_
  rintro ⟨hgo, hmaster⟩
  rcases h with h | h
  · exact Bool.false_ne_true (h.symm.trans hgo)
  · exact h hmaster

theorem timSetWrite_named (hgo : val.getLsbD 0 = true) (hst : s.tim.st = .master)
    (hns : (s.reg (Reg.TIM_SET + 8)).toNat < 10 ^ 9) : timSetWrite val s = masterStepped (timeNamed s) s := by
  unfold timSetWrite
  rw [if_pos ⟨hgo, hst⟩]
  dsimp only
  rw [if_pos hns, if_pos hns]
  rfl

/-- Nanoseconds that name no time leave the counter a free value (log 16). -/
theorem timSetWrite_free (hgo : val.getLsbD 0 = true) (hst : s.tim.st = .master)
    (hns : 10 ^ 9 ≤ (s.reg (Reg.TIM_SET + 8)).toNat) : ∃ c, timSetWrite val s = masterStepped c s.tick1 := by
  unfold timSetWrite
  rw [if_pos ⟨hgo, hst⟩]
  dsimp only
  rw [if_neg (Nat.not_lt.mpr hns), if_neg (Nat.not_lt.mpr hns)]
  exact ⟨_, rfl⟩

theorem masterStepped_chg (c : Nat) (s : State) : Chg 9437184 s (masterStepped c s) :=
  .after (timeStepped_chg ..) (.upd (.refl _ _))

theorem timeNamed_markDirty (off : Nat) (s : State) : timeNamed (markDirty off s) = timeNamed s := by
  simp only [timeNamed, markDirty_reg]

end

/-! ### Bits stored by an accepted write -/

section
variable {path : Path} {off i : Nat} {val : Word32} {s : State} {r : RegRow}

/-- An RW bit takes what is written. -/
theorem storeReg_bit (hr : rowAt off = some r) (hrw : r.rw.getLsbD i = true) (hset : r.w1s.getLsbD i = false) :
    (storeReg off val s).bit off i = val.getLsbD i := by
  rw [bit_eq, storeReg_reg hr]
  simp [hrw, hset]

/-- A field of RW bits takes what is written. -/
theorem storeReg_fld {lo w : Nat} (hr : rowAt off = some r) (h : ∀ i, i < w → r.rw.getLsbD (lo + i) = true)
    (hset : r.w1s = 0) : (storeReg off val s).fld off lo w = bitsOf val lo w := by
  refine Nat.eq_of_testBit_eq fun i => ?_
  rw [State.fld, bitsOf_testBit, bitsOf_testBit]
  by_cases hi : i < w
  · rw [← bit_eq, storeReg_bit hr (h i hi) (by simp [hset])]
  · simp [hi]

theorem storeReg_regsBut (off : Nat) (val : Word32) (s : State) : RegsBut [off] s (storeReg off val s) :=
  fun _ hq => storeReg_other (by simpa using hq)

theorem rowAt_timCtrl : rowAt Reg.TIM_CTRL = some ⟨"TIM_CTRL", 0xA00000, 0x4, 1, 1, 0, 0, 0, 2, 0⟩ := by decide +kernel

theorem rowAt_timCaptCtrl : rowAt Reg.TIM_CAPT_CTRL = some ⟨"TIM_CAPT_CTRL", 0xA00040, 0x4, 1, 0x7F, 0, 0, 0, 0, 0⟩ := by
  decide +kernel

/-! ### RESTART and the arming of the capture (R280, R283) -/

/-- An accepted write of a plain register has been stored. -/
def wordTaken (off : Nat) (val : Word32) (s : State) : State := storeReg off val (markDirty off s)

theorem wordTaken_chg (off : Nat) (val : Word32) (s : State) : Chg 130 s (wordTaken off val s) :=
  .after (storeReg_chg ..) (.after (markDirty_chg ..) (.refl _ _))

theorem wordTaken_regsBut (off : Nat) (val : Word32) (s : State) : RegsBut [off] s (wordTaken off val s) :=
  regsBut_trans (regsBut_markDirty _ _ s) (storeReg_regsBut off val (markDirty off s))

theorem wordTaken_tim (off : Nat) (val : Word32) (s : State) : (wordTaken off val s).tim = s.tim :=
  (wordTaken_chg off val s).same .tim (by decide)

theorem exec_timRestart_eq (hup : s.up = true) : exec (.timRestart path val) s =
    .next (if val.getLsbD 1 then regAccess path Reg.TIM_CTRL val timCtrlWrite s else s) := by
  have hexec : exec (.timRestart path val) s = execTimRestart path val s := rfl
  rw [hexec, execTimRestart, run_up _ hup]

theorem exec_timRestart (hup : s.up = true) (hre : val.getLsbD 1 = true) (h : accepts path Reg.TIM_CTRL val s) :
    exec (.timRestart path val) s = .next (timeRestart (wordTaken Reg.TIM_CTRL val s)) := by
  rw [exec_timRestart_eq hup, if_pos hre, regAccess_accepted _ h, timCtrlWrite, if_pos hre]
  rfl

theorem exec_timRestart_none (hup : s.up = true) (hre : val.getLsbD 1 = false) : exec (.timRestart path val) s = .next s := by
  rw [exec_timRestart_eq hup, hre, if_neg Bool.false_ne_true]

theorem exec_timCaptureArm_eq (hup : s.up = true) : exec (.timCaptureArm path val) s =
    .next (if val.getLsbD 6 then regAccess path Reg.TIM_CAPT_CTRL val (storeReg Reg.TIM_CAPT_CTRL) s else s) := by
  have hexec : exec (.timCaptureArm path val) s = execTimCaptureArm path val s := rfl
  rw [hexec, execTimCaptureArm, run_up _ hup]

theorem exec_timCaptureArm (hup : s.up = true) (hen : val.getLsbD 6 = true) (h : accepts path Reg.TIM_CAPT_CTRL val s) :
    exec (.timCaptureArm path val) s = .next (wordTaken Reg.TIM_CAPT_CTRL val s) := by
  rw [exec_timCaptureArm_eq hup, if_pos hen, regAccess_accepted _ h]
  rfl

theorem exec_timCaptureArm_none (hup : s.up = true) (hen : val.getLsbD 6 = false) :
    exec (.timCaptureArm path val) s = .next s := by
  rw [exec_timCaptureArm_eq hup, hen, if_neg Bool.false_ne_true]

theorem timeRestart_master (h : s.tim.st = .master) : timeRestart s = s := if_pos h

theorem timeRestart_other (h : s.tim.st ≠ .master) : timeRestart s = { s with tim := { s.tim with
    st := .unsynced, stepped := false, gm := 0, epoch := 0, rate := 0, lockRun := 0 } } := if_neg h

end

/-- Settles O46: a Sync by the step of R280 that it meets, a write by what it stores and by whether the module is master. -/
theorem sharedTimeServo : Obligations.SharedTimeServo := by
  unfold Obligations.SharedTimeServo
  refine ⟨?first, ?later, ?loss, ?set, ?unset, ?control⟩
  case first =>
    intro gm epoch o s hst hnew
    have hregs : RegsBut [pendReg 0x2C0] (offsetShown o s) (servo gm epoch o s) := by
      rw [servo_unstepped hst hnew]
      exact regsBut_raise 0x2C0 (counterStepped gm epoch o (offsetShown o s))
    have htim : (servo gm epoch o s).tim = (counterStepped gm epoch o (offsetShown o s)).tim := by
      rw [servo_unstepped hst hnew]
      exact raise_tim ..
    refine ⟨_, rfl, by rw [htim]; rfl, by rw [htim]; rfl, by rw [htim]; rfl, by rw [htim]; rfl, by rw [htim]; rfl, ?_, ?_,
      (hregs _ (by decide)).trans (reg_setReg_same ..),
      regsBut_trans (regsBut_mono (regsBut_setReg s _ _) (by simp)) (regsBut_mono hregs (by simp)), (servo_chg ..).changes⟩ <;>
      rw [servo_unstepped hst hnew]
    · exact raise_timPend (by decide) (by decide) _
    · rfl
  case later =>
    intro gm epoch o s hdone hgm hepoch
    obtain ⟨hrate, hcount, hrun, hlocks, hstays, hregs, hchg⟩ := rateStep_spec (o := o) (s := offsetShown o s)
    obtain ⟨hhi, hlo⟩ := rateCorrected_limits (o := o) (s := offsetShown o s)
    have hthresh : (offsetShown o s).fld Reg.TIM_THRESH 0 16 = s.fld Reg.TIM_THRESH 0 16 :=
      fld_of_reg (reg_setReg_other s _ (by decide)) _ _
    have hlim : rateLimit (offsetShown o s) = rateLimit s :=
      congrArg (fun n : Nat => (n : Rat) / 10 ^ 6 * 2 ^ 40) (fld_of_reg (reg_setReg_other s _ (by decide)) _ _)
    rw [hlim] at hhi hlo
    rw [servo_stepped hdone hgm hepoch, ← hthresh]
    refine ⟨_, _, rfl, rfl, by rw [hrate]; exact hhi, by rw [hrate]; exact hlo, hcount, fun hnear => ?_, fun hfar => ?_,
      regsBut_trans (regsBut_mono (regsBut_setReg s _ _) (by simp)) (regsBut_mono hregs (by simp)),
      (Chg.after (m := 1048722) hchg (.after (State_setReg_chg ..) (.refl _ _))).changes⟩
    · rw [nearRun_near hnear] at hrun hlocks
      exact ⟨hrun, fun hmany => hlocks (Nat.succ_le_succ hmany)⟩
    · rw [nearRun_far hfar] at hrun hstays
      exact ⟨hrun, hstays (by decide)⟩
  case loss =>
    intro s hup
    rw [exec_syncLoss hup]
    refine ⟨fun h => ?_, fun hlocked hstep => by rw [timeHoldover_stays hlocked hstep]⟩
    rw [timeHoldover_loses h]
    exact ⟨_, rfl, raise_tim .., raise_timPend (by decide) (by decide) _, regsBut_raise 0x2C2 (heldOver s),
      (Chg.after (m := 1048722) (raise_chg ..) (.upd (.refl _ _))).changes⟩
  case set =>
    intro path val s hup hacc hgo
    have hdirty := markDirty_chg Reg.TIM_SET_GO s
    have htim : (markDirty Reg.TIM_SET_GO s).tim = s.tim := hdirty.same .tim (by decide)
    have hlks : (markDirty Reg.TIM_SET_GO s).lks = s.lks := hdirty.same .lks (by decide)
    have hfree : (markDirty Reg.TIM_SET_GO s).freeCtr = s.freeCtr := hdirty.same .freeCtr (by decide)
    rw [exec_timSet hup hacc]
    refine ⟨fun hst hns => ?_, fun hst hns => ?_, fun hst => ?_⟩
    · rw [timSetWrite_named hgo (by rw [htim, hst]) (by rwa [markDirty_reg]), timeNamed_markDirty]
      refine ⟨_, rfl, ?_, ?_, (Chg.after (m := 9437312) (masterStepped_chg ..) (.after hdirty (.refl _ _))).changes⟩
      · rw [← htim]
        rfl
      · rw [← hlks]
        rfl
    · obtain ⟨c, hc⟩ := timSetWrite_free (s := markDirty Reg.TIM_SET_GO s) hgo (by rw [htim, hst]) (by rwa [markDirty_reg])
      rw [hc]
      refine ⟨_, rfl, ?_, ?_, (Chg.after (m := 9437320) (masterStepped_chg ..) (.after (State_tick1_chg ..)
        (.after hdirty (.refl _ _)))).changes⟩
      · rw [← htim]
        rfl
      · rw [← hfree]
        rfl
    · rw [timSetWrite_drops (.inr (by rwa [htim]))]
      exact ⟨_, rfl, hdirty.changes⟩
  case unset =>
    intro path val s hup hacc hgo
    rw [exec_timSet hup hacc, timSetWrite_drops (.inl hgo)]
    exact ⟨_, rfl, (markDirty_chg ..).changes⟩
  case control =>
    intro path val s hup
    have htim := wordTaken_tim Reg.TIM_CTRL val s
    refine ⟨fun hre hacc hst => ?_, fun hre hacc hst => ?_, exec_timRestart_none hup, fun hen hacc => ?_,
      exec_timCaptureArm_none hup⟩
    · have hother := timeRestart_other (s := wordTaken Reg.TIM_CTRL val s) (by rwa [htim])
      rw [exec_timRestart hup hre hacc]
      refine ⟨_, rfl, by rw [hother, htim], ?_, ?_, (Chg.after (m := 1048706) (timeRestart_chg ..)
        (.after (wordTaken_chg ..) (.refl _ _))).changes⟩ <;> rw [hother]
      · exact storeReg_bit rowAt_timCtrl (by decide) (by decide)
      · exact wordTaken_regsBut Reg.TIM_CTRL val s
    · rw [exec_timRestart hup hre hacc, timeRestart_master (by rwa [htim])]
      exact ⟨_, rfl, wordTaken_regsBut Reg.TIM_CTRL val s, (wordTaken_chg ..).changes⟩
    · rw [exec_timCaptureArm hup hen hacc]
      exact ⟨_, rfl, (storeReg_bit rowAt_timCaptCtrl (by decide) (by decide)).trans hen,
        storeReg_fld rowAt_timCaptCtrl (by decide) rfl, wordTaken_regsBut Reg.TIM_CAPT_CTRL val s, (wordTaken_chg ..).changes⟩

end Sys2Proof.Proofs
end

section
/-!
Proofs of the family 09_shared_time: how TIME messages leave a port (O45).
-/
namespace Sys2Proof.Proofs
open Sys2Proof.Machine Sys2Proof.Laws

/-! ### TIME messages in a group (R245) -/

section
variable {ped : BitVec 128} {d : GroupDraft}

theorem draftCtrl_waves (hturn : d.count % 256 ≠ 0) (hwaves : d.waves ≠ []) : draftStripe.ctrl ped d =
    { d with count := d.count + 1, parts := d.parts ++ [.wave (d.waves.take 3)], waves := d.waves.drop 3 } :=
  (if_neg hturn).trans (if_pos hwaves)

theorem draftCtrl_time {x : LanePart} {rest : List LanePart} (hturn : d.count % 256 ≠ 0) (hwaves : d.waves = [])
    (htime : d.time = x :: rest) : draftStripe.ctrl ped d =
      { d with count := d.count + 1, parts := d.parts ++ [x], time := rest } := by
  unfold draftStripe.ctrl
  rw [if_neg hturn, if_neg (not_not.mpr hwaves), htime]

theorem draftCtrl_idle (hturn : d.count % 256 ≠ 0) (hwaves : d.waves = []) (htime : d.time = []) : draftStripe.ctrl ped d =
    { d with count := d.count + 1, parts := d.parts ++ [.idle] } := by
  unfold draftStripe.ctrl
  rw [if_neg hturn, if_neg (not_not.mpr hwaves), htime]

/-- The control blocks that the waiting WAVE and TIME messages take. -/
def blocksWaiting (d : GroupDraft) : Nat := (d.waves.length + 2) / 3 + d.time.length

/-- A control block takes one of them off, but a PEDIGREE, and no TIME message is lost. -/
theorem draftCtrl_takes (ped : BitVec 128) (d : GroupDraft) :
    blocksWaiting (draftStripe.ctrl ped d) = (if d.count % 256 = 0 then blocksWaiting d else blocksWaiting d - 1) ∧
      ∀ x ∈ d.time, x ∈ (draftStripe.ctrl ped d).parts ∨ x ∈ (draftStripe.ctrl ped d).time := by
  by_cases hturn : d.count % 256 = 0
  · rw [draftCtrl_pedigree hturn, if_pos hturn]
    exact ⟨rfl, fun x hx => .inr hx⟩
  · rw [if_neg hturn]
    by_cases hwaves : d.waves = []
    · rcases htime : d.time with _ | ⟨x, rest⟩
      · rw [draftCtrl_idle hturn hwaves htime]
        exact ⟨by simp [blocksWaiting, hwaves, htime], nofun⟩
      · rw [draftCtrl_time hturn hwaves htime]
        refine ⟨by simp [blocksWaiting, hwaves, htime], fun y hy => ?_⟩
        rcases List.mem_cons.mp hy with rfl | hy
        · exact .inl (by simp)
        · exact .inr hy
    · have hpos := List.length_pos_of_ne_nil hwaves
      rw [draftCtrl_waves hturn hwaves]
      refine ⟨?_, fun x hx => .inr hx⟩
      simp only [blocksWaiting, List.length_drop]
      omega

/-- After `k` stripes without data at most one of them was a PEDIGREE for each multiple of 256 passed. -/
theorem draftAfter_blocksWaiting (hdata : d.data = []) (k : Nat) :
    blocksWaiting (draftAfter ped d k) ≤ blocksWaiting d + ((d.count + k + 255) / 256 - (d.count + 255) / 256) - k ∧
      ∀ x ∈ d.time, x ∈ (draftAfter ped d k).parts ∨ x ∈ (draftAfter ped d k).time := by
  induction k with
  | zero => exact ⟨Nat.le_add_right .., fun x hx => .inr hx⟩
  | succ k ih =>
    obtain ⟨hless, hkept⟩ := ih
    obtain ⟨hcount, hnone⟩ := draftAfter_count (ped := ped) hdata k
    obtain ⟨htaken, hstill⟩ := draftCtrl_takes ped (draftAfter ped d k)
    have hstripe : draftAfter ped d (k + 1) = draftStripe.ctrl ped (draftAfter ped d k) := by
      rw [draftAfter_succ, draftStripe_ctrl (.inl hnone)]
    refine ⟨?_, fun x hx => ?_⟩
    · rw [hstripe, htaken, hcount]
      split <;> omega
    · rcases hkept x hx with hplaced | hwaits
      · exact .inl (draftAfter_mem (Nat.le_succ k) hplaced)
      · rw [hstripe]
        exact hstill x hwaits

end

section
variable {p : Nat} {s : State} {bs : List TimeBlock}

/-- Where the next group has room, two TIME messages stand in it. -/
theorem draftGroup_time (hroom : itemRoom s p = true) (hbs : bs.length ≤ 2) {b : TimeBlock} (hb : b ∈ bs) :
    .time b ∈ (draftGroup s p (bs.map .time)).parts := by
  have hfit : (draftStart s p (bs.map .time)).waves.length ≤ 15 := by
    simp only [itemRoom, Bool.and_eq_true, Bool.or_eq_true, Bool.not_eq_true', decide_eq_true_eq] at hroom
    show (if carriesDesign s p then (s.lane p).waveQ else []).length ≤ 15
    split
    · next hcarries => exact hroom.2.resolve_left (by simp [hcarries])
    · exact Nat.zero_le _
  have hdata : (draftStart s p (bs.map .time)).data = [] := by simp [draftStart, LanePart.isData]
  have htime : (draftStart s p (bs.map .time)).time = bs.map .time := by simp [draftStart, LanePart.isData]
  obtain ⟨hwaiting, hkept⟩ := draftAfter_blocksWaiting (ped := pedigreeWord s p) hdata 8
  have hall : blocksWaiting (draftStart s p (bs.map .time)) ≤ 7 := by
    rw [blocksWaiting, htime, List.length_map]
    omega
  have hnone : (draftAfter (pedigreeWord s p) (draftStart s p (bs.map .time)) 8).time = [] := by
    refine List.eq_nil_of_length_eq_zero ?_
    rw [blocksWaiting] at hwaiting
    omega
  rw [draftGroup_eq]
  refine (hkept (.time b) (by rw [htime]; exact List.mem_map_of_mem hb)).resolve_right ?_
  rw [hnone]
  exact List.not_mem_nil

/-! ### What a port has sent -/

theorem SentOnly.trans {l m n : LanePort} (h : SentOnly l m) (k : SentOnly m n) : SentOnly l n := by
  unfold SentOnly at h k ⊢
  rw [k, h]

theorem SentOnly.rxSeq {l m : LanePort} (h : SentOnly l m) : m.rxSeq = l.rxSeq := by
  unfold SentOnly at h
  rw [h]

/-- From `s` to `t` port `p` has sent, and nothing else has happened to the lanes. -/
structure PortSent (p : Nat) (s t : State) : Prop where
  own : SentOnly (s.lane p) (t.lane p)
  others : ∀ q, q ≠ p → t.lane q = s.lane q
  out : s.out <:+ t.out

theorem PortSent.refl (p : Nat) (s : State) : PortSent p s s := ⟨.refl _, fun _ _ => rfl, List.suffix_refl _⟩

theorem PortSent.trans {r t : State} (h : PortSent p s r) (k : PortSent p r t) : PortSent p s t :=
  ⟨h.own.trans k.own, fun q hq => (k.others q hq).trans (h.others q hq), h.out.trans k.out⟩

theorem PortSent.times {f : Nat → State → State} (h : ∀ k t, PortSent p t (f k t)) (n : Nat) (s : State) :
    PortSent p s (forN n f s) := by
  induction n with
  | zero => exact .refl p s
  | succ n ih => exact ih.trans (h n _)

theorem PortSent.each {α : Type} {f : α → State → State} (h : ∀ a t, PortSent p t (f a t)) (l : List α) (s : State) :
    PortSent p s (forEach l f s) := by
  induction l generalizing s with
  | nil => exact .refl p s
  | cons a l ih => exact (h a s).trans (ih (f a s))

theorem sendBlock_sent (x : LanePart) (s : State) : PortSent p s (sendBlock p x s) := by
  have hstep := sendBlock_step (p := p) (s := s) x
  exact ⟨hstep.lane ▸ blockSent_sentOnly .., hstep.others, List.suffix_cons ..⟩

theorem sendGroup_sent (items : List LanePart) (s : State) : PortSent p s (sendGroup p items s) := by
  obtain ⟨l, hl, hstep⟩ := sendGroup_step (p := p) (s := s) items
  refine ⟨hstep.lane ▸ hl, hstep.others, ?_⟩
  by_cases hst : (s.lane p).st = .active
  · cases hroom : laneRoom s p with
    | false =>
      rw [sendGroup_full items hst hroom]
      exact (sendBlock_sent ..).out
    | true =>
      rw [sendGroup_room items hst hroom]
      exact List.suffix_cons ..
  · rw [sendGroup_silent items hst]

theorem flushWaves_sent (s : State) : PortSent p s (flushWaves p s) := by
  unfold flushWaves
  split
  · exact sendGroup_sent [] s
  · exact .refl p s

/-- The WAVE messages that wait on the port have left as far as they may. -/
def wavesFlushed (p : Nat) (s : State) : State := forN (s.lane p).waveQ.length (fun _ => flushWaves p) s

theorem wavesFlushed_sent (p : Nat) (s : State) : PortSent p s (wavesFlushed p s) := .times (fun _ => flushWaves_sent) _ s

/-! ### TIME messages as control blocks of their own (R253) -/

/-- The group that leaves a lane port. -/
def groupOf (p : Nat) (l : LanePort) (parts : List LanePart) : Output :=
  .laneGroup p (groupStripes l.txSeq (l.rxSeq - 1) l.nakSend parts)

/-- The control block that leaves a lane port outside every group. -/
def blockOf (p : Nat) (l : LanePort) (nak : Bool) (b : TimeBlock) : Output :=
  .laneBlock p (ctrlStripe l.txSeq (l.rxSeq - 1) nak (.time b))

theorem sendTimeBlock_sent (b : TimeBlock) (s : State) : PortSent p s (sendTimeBlock p b s) := by
  refine .trans ?_ (sendBlock_sent ..)
  split
  · exact sendBlock_sent ..
  · exact .refl p s

theorem sendBlock_seqs (x : LanePart) (s : State) :
    ((sendBlock p x s).lane p).txSeq = (s.lane p).txSeq ∧ ((sendBlock p x s).lane p).rxSeq = (s.lane p).rxSeq := by
  rw [(sendBlock_step x).lane]
  exact ⟨rfl, rfl⟩

theorem sendBlock_plain {s : State} (b : TimeBlock) (h : blockIsPedigree s p = false) :
    (sendBlock p (.time b) s).out = blockOf p (s.lane p) (s.lane p).nakSend b :: s.out := by
  have hturn : ((s.lane p).ctrlCount % 256 == 0) = false := h
  rw [sendBlock_eq, hturn]
  rfl

/-- A TIME message leaves, after the PEDIGREE that is due. -/
theorem sendTimeBlock_head (b : TimeBlock) (s : State) :
    ((sendTimeBlock p b s).lane p).txSeq = (s.lane p).txSeq ∧ ((sendTimeBlock p b s).lane p).rxSeq = (s.lane p).rxSeq ∧
      ∃ nak, (sendTimeBlock p b s).out.head? = some (blockOf p (s.lane p) nak b) := by
  unfold sendTimeBlock
  split
  · next hdue =>
    have hturn : (s.lane p).ctrlCount % 256 = 0 := beq_iff_eq.mp hdue
    obtain ⟨htx, hrx⟩ := sendBlock_seqs (p := p) .idle s
    have hplain : blockIsPedigree (sendBlock p .idle s) p = false := by
      rw [blockIsPedigree, (sendBlock_step .idle).lane]
      show (((s.lane p).ctrlCount + 1) % 256 == 0) = false
      simp only [beq_eq_false_iff_ne]
      omega
    rw [sendBlock_plain b hplain, (sendBlock_seqs ..).1, (sendBlock_seqs ..).2, htx, hrx]
    refine ⟨rfl, rfl, ((sendBlock p .idle s).lane p).nakSend, ?_⟩
    rw [List.head?_cons, blockOf, htx, hrx, blockOf]
  · next hdue =>
    rw [sendBlock_plain b (Bool.not_eq_true _ |>.mp hdue), (sendBlock_seqs ..).1, (sendBlock_seqs ..).2]
    exact ⟨rfl, rfl, _, rfl⟩

theorem timeBlocks_leave (s : State) : ∀ b ∈ bs, ∃ nak, blockOf p (s.lane p) nak b ∈ (forEach bs (sendTimeBlock p) s).out := by
  induction bs generalizing s with
  | nil => exact nofun
  | cons a bs ih =>
    obtain ⟨htx, hrx, nak, hhead⟩ := sendTimeBlock_head (p := p) a s
    intro b hb
    rcases List.mem_cons.mp hb with rfl | hb
    · exact ⟨nak, (PortSent.each (fun _ => sendTimeBlock_sent _) bs (sendTimeBlock p b s)).out.subset (List.mem_of_head? hhead)⟩
    · obtain ⟨nak, hleft⟩ := ih (sendTimeBlock p a s) b hb
      rw [blockOf, htx, hrx] at hleft
      exact ⟨nak, hleft⟩

theorem timeBlocks_seqs (s : State) : ((forEach bs (sendTimeBlock p) s).lane p).txSeq = (s.lane p).txSeq ∧
    ((forEach bs (sendTimeBlock p) s).lane p).rxSeq = (s.lane p).rxSeq := by
  induction bs generalizing s with
  | nil => exact ⟨rfl, rfl⟩
  | cons a bs ih =>
    obtain ⟨htx, hrx, -⟩ := sendTimeBlock_head (p := p) a s
    exact ⟨(ih _).1.trans htx, (ih _).2.trans hrx⟩

theorem timeBlocks_last (b : TimeBlock) (s : State) :
    ∃ nak, (forEach (bs ++ [b]) (sendTimeBlock p) s).out.head? = some (blockOf p (s.lane p) nak b) := by
  obtain ⟨htx, hrx⟩ := timeBlocks_seqs (p := p) (bs := bs) s
  obtain ⟨-, -, nak, hhead⟩ := sendTimeBlock_head (p := p) b (forEach bs (sendTimeBlock p) s)
  rw [forEach, List.foldl_append]
  rw [blockOf, htx, hrx] at hhead
  exact ⟨nak, hhead⟩

/-! ### TIME messages that leave a port (R245, R253) -/

theorem sendTime_eq (p : Nat) (bs : List TimeBlock) (s : State) : sendTime p bs s =
    if itemRoom (wavesFlushed p s) p then sendGroup p (bs.map .time) (wavesFlushed p s)
    else forEach bs (sendTimeBlock p) (wavesFlushed p s) := rfl

theorem sendTime_sent (p : Nat) (bs : List TimeBlock) (s : State) : PortSent p s (sendTime p bs s) := by
  refine (wavesFlushed_sent p s).trans ?_
  rw [sendTime_eq]
  split
  · exact sendGroup_sent ..
  · exact .each (fun _ => sendTimeBlock_sent _) bs _

/-- With room in the replay buffer the messages stand in the next group after the WAVE messages that wait. -/
theorem sendTime_group (hst : (s.lane p).st = .active) (hroom : itemRoom (wavesFlushed p s) p = true) (hbs : bs.length ≤ 2) :
    ∃ parts, (sendTime p bs s).out = groupOf p ((wavesFlushed p s).lane p) parts :: (wavesFlushed p s).out ∧
      ∀ b ∈ bs, .time b ∈ parts := by
  have hlive : ((wavesFlushed p s).lane p).st = .active := (wavesFlushed_sent p s).own.st.trans hst
  have hfree : laneRoom (wavesFlushed p s) p = true := (Bool.and_eq_true _ _ ▸ hroom).1
  rw [sendTime_eq, if_pos hroom, sendGroup_room _ hlive hfree]
  exact ⟨_, rfl, fun b hb => draftGroup_time hroom hbs hb⟩

theorem sendTime_blocks (hroom : itemRoom (wavesFlushed p s) p = false) :
    ∀ b ∈ bs, ∃ nak, blockOf p ((wavesFlushed p s).lane p) nak b ∈ (sendTime p bs s).out := by
  rw [sendTime_eq, if_neg (by simp [hroom])]
  exact timeBlocks_leave _

theorem sendTime_lastBlock (hroom : itemRoom (wavesFlushed p s) p = false) (b : TimeBlock) :
    ∃ nak, (sendTime p (bs ++ [b]) s).out.head? = some (blockOf p ((wavesFlushed p s).lane p) nak b) := by
  rw [sendTime_eq, if_neg (by simp [hroom])]
  exact timeBlocks_last b _

theorem sendTime_tim (p : Nat) (bs : List TimeBlock) (s : State) : (sendTime p bs s).tim = s.tim :=
  (sendTime_chg p bs s).same .tim (by decide)

end

end Sys2Proof.Proofs
end

section
/-!
Proofs of the family 09_shared_time: the intervals and the messages that arrive (O45).
-/
namespace Sys2Proof.Proofs
open Sys2Proof.Machine Sys2Proof.Laws

/-! ### What the messages of a port depend on -/

theorem timeBlock_of_plat {s t : State} (h : t.plat = s.plat) : timeBlock t = timeBlock s := by
  funext type p gm epoch seq x
  unfold timeBlock
  rw [h]

theorem itemRoom_of_lane {p : Nat} {s t : State} (h : t.lane p = s.lane p) : itemRoom t p = itemRoom s p := by
  unfold itemRoom laneRoom carriesDesign activeDesign
  rw [h]

/-- What the WAVE messages of a port do to it depends on the port and its pedigree word alone. -/
theorem flushWaves_alike {p : Nat} {s t : State} (hlane : t.lane p = s.lane p) (hword : pedigreeWord t p = pedigreeWord s p) :
    (flushWaves p t).lane p = (flushWaves p s).lane p ∧ pedigreeWord (flushWaves p t) p = pedigreeWord (flushWaves p s) p := by
  have hkept : ∀ u : State, pedigreeWord (flushWaves p u) p = pedigreeWord u p := fun u =>
    pedigreeWord_of_lane (flushWaves_chg p u) (flushWaves_sent u).own.desync
  refine ⟨?_, by rw [hkept, hkept, hword]⟩
  have hcarries : carriesDesign t p = carriesDesign s p := by rw [carriesDesign, activeDesign, hlane, carriesDesign, activeDesign]
  have hfree : laneRoom t p = laneRoom s p := by rw [laneRoom, hlane, laneRoom]
  unfold flushWaves
  rw [hcarries, hfree, hlane]
  split
  · next h =>
    simp only [Bool.and_eq_true] at h
    obtain ⟨⟨hdesign, hroom⟩, -⟩ := h
    have hst : (s.lane p).st = .active := active_of_carriesDesign hdesign
    rw [(sendGroup_room_step [] (hlane ▸ hst) (hfree.trans hroom)).lane, (sendGroup_room_step [] hst hroom).lane]
    unfold draftGroup
    rw [hlane, hcarries, hword]
  · exact hlane

theorem wavesFlushed_alike {p : Nat} {s t : State} (hlane : t.lane p = s.lane p) (hword : pedigreeWord t p = pedigreeWord s p) :
    (wavesFlushed p t).lane p = (wavesFlushed p s).lane p := by
  have h : ∀ n, (forN n (fun _ => flushWaves p) t).lane p = (forN n (fun _ => flushWaves p) s).lane p ∧
      pedigreeWord (forN n (fun _ => flushWaves p) t) p = pedigreeWord (forN n (fun _ => flushWaves p) s) p := by
    intro n
    induction n with
    | zero => exact ⟨hlane, hword⟩
    | succ n ih => exact flushWaves_alike ih.1 ih.2
  rw [wavesFlushed, wavesFlushed, hlane]
  exact (h _).1

/-! ### Sync on every port (R278) -/

/-- From `s` to `t` other ports than `p` have sent Sync. -/
structure SyncElsewhere (p : Nat) (s t : State) : Prop where
  chg : Chg 1179664 s t
  tim : t.tim = { s.tim with ports := t.tim.ports }
  port : t.timPort p = s.timPort p
  lane : t.lane p = s.lane p
  out : s.out <:+ t.out

namespace SyncElsewhere
variable {p : Nat} {s r t : State}

theorem refl (p : Nat) (s : State) : SyncElsewhere p s s := ⟨.refl _ _, rfl, rfl, rfl, List.suffix_refl _⟩

theorem trans (h : SyncElsewhere p s r) (k : SyncElsewhere p r t) : SyncElsewhere p s t :=
  ⟨.after k.chg h.chg, by rw [k.tim, h.tim], k.port.trans h.port, k.lane.trans h.lane, h.out.trans k.out⟩

theorem each {α : Type} {f : α → State → State} {l : List α} (h : ∀ a ∈ l, ∀ t, SyncElsewhere p t (f a t)) (s : State) :
    SyncElsewhere p s (forEach l f s) := by
  induction l generalizing s with
  | nil => exact refl p s
  | cons a l ih => exact (h a List.mem_cons_self s).trans (ih (fun b hb => h b (List.mem_cons_of_mem _ hb)) (f a s))

theorem maySend (h : SyncElsewhere p s t) : timeMaySend t p = timeMaySend s p := by
  rw [timeMaySend, bit_of_reg (reg_of_regs (h.chg.same .regs (by decide)) _), activeDesign, h.lane, timeMaySend, activeDesign]

theorem word (h : SyncElsewhere p s t) : pedigreeWord t p = pedigreeWord s p := by
  have htim : t.tim.st = s.tim.st := by rw [h.tim]
  unfold pedigreeWord runDigest runBit platTag
  rw [h.lane, htim, h.chg.same .img (by decide), h.chg.same .plat (by decide), h.chg.same .sch (by decide),
    h.chg.same .staged (by decide)]

end SyncElsewhere

/-- The GM and the EPOCH that a Sync carries (R278). -/
def syncGm (s : State) : BitVec 6 := if s.tim.st = .master then s.plat.module else s.tim.rxGm
def syncEpoch (s : State) : BitVec 8 := if s.tim.st = .master then s.tim.epoch else s.tim.rxEpoch

/-- The Sync of a port and its Follow_Up. -/
def syncBlocks (devs : List Int) (p : Nat) (s : State) : List TimeBlock :=
  [timeBlock s 0 p (syncGm s) (syncEpoch s) (s.timPort p).syncSeq 0,
   timeBlock s 8 p (syncGm s) (syncEpoch s) (s.timPort p).syncSeq (stampAt s (devs.getD p 0))]

section
variable {devs : List Int} {p q : Nat} {s t : State}

theorem active_of_maySend (h : timeMaySend s p = true) : (s.lane p).st = .active := by
  simp only [timeMaySend, activeDesign, Bool.and_eq_true, beq_iff_eq] at h
  exact h.2.1

theorem setTimPort_lane (x : TimPort) : (s.setTimPort q x).lane p = s.lane p := rfl

theorem syncOut_sends (h : timeMaySend s p = true) : syncOut devs p s =
    (sendTime p (syncBlocks devs p s) s).setTimPort p { s.timPort p with syncSeq := (s.timPort p).syncSeq + 1 } := if_pos h

theorem syncOut_silent (h : timeMaySend s p = false) : syncOut devs p s = s := if_neg (by simp [h])

theorem syncOut_elsewhere (h : p ≠ q) : SyncElsewhere p s (syncOut devs q s) := by
  cases hmay : timeMaySend s q with
  | false =>
    rw [syncOut_silent hmay]
    exact .refl p s
  | true =>
    have hsent := sendTime_sent q (syncBlocks devs q s) s
    have htim := sendTime_tim q (syncBlocks devs q s) s
    refine ⟨syncOut_chg .., ?_, ?_, ?_, ?_⟩ <;> rw [syncOut_sends hmay]
    · rw [setTimPort_tim, htim]
    · rw [timPort_setTimPort_other _ _ h, State.timPort, htim, State.timPort]
    · rw [setTimPort_lane, hsent.others p h]
    · rw [setTimPort_out]
      exact hsent.out

theorem SyncElsewhere.blocks (h : SyncElsewhere p s t) : syncBlocks devs p t = syncBlocks devs p s := by
  have hplat : t.plat = s.plat := h.chg.same .plat (by decide)
  have hgm : syncGm t = syncGm s := by rw [syncGm, h.tim, hplat, syncGm]
  have hepoch : syncEpoch t = syncEpoch s := by rw [syncEpoch, h.tim, syncEpoch]
  have hstamp : stampAt t = stampAt s := by
    funext dev
    rw [stampAt, h.tim, stampAt]
  rw [syncBlocks, timeBlock_of_plat hplat, hgm, hepoch, hstamp, h.port, syncBlocks]

/-- Where the messages of a Sync have left. -/
def SyncLeft (devs : List Int) (p : Nat) (s t : State) : Prop :=
  (itemRoom (wavesFlushed p s) p = true → ∃ parts, groupOf p ((wavesFlushed p s).lane p) parts ∈ t.out ∧
    ∀ b ∈ syncBlocks devs p s, .time b ∈ parts) ∧
  (itemRoom (wavesFlushed p s) p = false →
    ∀ b ∈ syncBlocks devs p s, ∃ nak, blockOf p ((wavesFlushed p s).lane p) nak b ∈ t.out)

theorem syncOut_left (h : timeMaySend s p = true) : SyncLeft devs p s (syncOut devs p s) := by
  rw [syncOut_sends h, SyncLeft, setTimPort_out]
  refine ⟨fun hroom => ?_, fun hroom => sendTime_blocks hroom⟩
  obtain ⟨parts, hout, hmem⟩ := sendTime_group (bs := syncBlocks devs p s) (active_of_maySend h) hroom (Nat.le_refl 2)
  exact ⟨parts, by rw [hout]; exact List.mem_cons_self, hmem⟩

/-- Every port sends its own messages, whatever the others have sent before and send after it. -/
theorem syncInterval_left (hp : p < 16) (h : timeMaySend s p = true) :
    SyncLeft devs p s (forEach (List.range 16) (syncOut devs) s) ∧
      (forEach (List.range 16) (syncOut devs) s).timPort p = { s.timPort p with syncSeq := (s.timPort p).syncSeq + 1 } := by
  obtain ⟨before, after, hsplit⟩ := List.append_of_mem (List.mem_range.mpr hp)
  have hnodup := hsplit ▸ List.nodup_range (n := 16)
  obtain ⟨-, hrest, hapart⟩ := List.nodup_append.mp hnodup
  have hafter : ∀ q ∈ after, p ≠ q := fun q hq he => (List.nodup_cons.mp hrest).1 (he ▸ hq)
  have hbefore : ∀ q ∈ before, p ≠ q := fun q hq => (hapart q hq p List.mem_cons_self).symm
  have hfirst : SyncElsewhere p s (forEach before (syncOut devs) s) := .each (fun q hq _ => syncOut_elsewhere (hbefore q hq)) s
  have hlast := SyncElsewhere.each (fun q hq t => syncOut_elsewhere (devs := devs) (s := t) (hafter q hq))
    (syncOut devs p (forEach before (syncOut devs) s))
  have hmay := hfirst.maySend.trans h
  have hflushed := wavesFlushed_alike hfirst.lane hfirst.word
  have hleft := syncOut_left (devs := devs) hmay
  have hjoin : forEach (List.range 16) (syncOut devs) s =
      forEach after (syncOut devs) (syncOut devs p (forEach before (syncOut devs) s)) := by
    rw [hsplit, forEach, List.foldl_append]
    rfl
  rw [SyncLeft, itemRoom_of_lane hflushed, hflushed, hfirst.blocks] at hleft
  rw [hjoin]
  refine ⟨⟨fun hroom => ?_, fun hroom b hb => ?_⟩, ?_⟩
  · obtain ⟨parts, hout, hmem⟩ := hleft.1 hroom
    exact ⟨parts, hlast.out.subset hout, hmem⟩
  · obtain ⟨nak, hout⟩ := hleft.2 hroom b hb
    exact ⟨nak, hlast.out.subset hout⟩
  · rw [hlast.port, syncOut_sends hmay, timPort_setTimPort_same, hfirst.port]

/-- A port that may not send stays so while the others send. -/
theorem syncOut_each_silent (h : timeMaySend s p = false) (l : List Nat) : SyncElsewhere p s (forEach l (syncOut devs) s) := by
  induction l generalizing s with
  | nil => exact .refl p s
  | cons q l ih =>
    have hstep : SyncElsewhere p s (syncOut devs q s) := by
      by_cases hq : p = q
      · rw [← hq, syncOut_silent h]
        exact .refl p s
      · exact syncOut_elsewhere hq
    exact hstep.trans (ih (hstep.maySend.trans h))

theorem exec_syncInterval (hup : s.up = true) :
    exec (.syncInterval devs) s = .next (forEach (List.range 16) (syncOut devs) s) := run_up _ hup

theorem syncInterval_chg (devs : List Int) (s : State) : Chg 1179664 s (forEach (List.range 16) (syncOut devs) s) :=
  .each (.refl _ _) fun _ _ => syncOut_chg ..

end

/-! ### Requests for a peer delay (R276) -/

section
variable {dev : Int} {p : BitVec 4} {s : State}

theorem exec_pdelayInterval (hup : s.up = true) : exec (.pdelayInterval p dev) s = .next (pdelayOut dev p.toNat s) := run_up _ hup

theorem pdelayOut_silent {p : Nat} (h : timeMaySend s p = false) : pdelayOut dev p s = s := if_neg (by simp [h])

theorem pdelayOut_sends {p : Nat} (h : timeMaySend s p = true) : pdelayOut dev p s =
    (sendTime p [timeBlock s 2 p s.plat.module 0 (s.timPort p).pdelaySeq 0] s).setTimPort p { s.timPort p with
      pdelay := some { seq := (s.timPort p).pdelaySeq, t1 := stampAt s dev }
      pdelaySeq := (s.timPort p).pdelaySeq + 1 } := if_pos h

end

/-! ### A message that arrives (R273) -/

section
variable {p ty : Nat} {b : TimeBlock} {f : State → State} {s : State}

theorem timeBlockOk_laneTake (p : Nat) (x : LanePart) (b : TimeBlock) (s : State) :
    timeBlockOk (laneTake p x s) p b = timeBlockOk s p b := by
  rw [timeBlockOk, (laneTake_step p x s).lane, timeBlockOk]

theorem onTimeBlock_absent (h : laneHas s p (.time b) = false ∨ (timeBlockOk s p b = true ∧ tbType b ≠ ty)) :
    onTimeBlock p b ty f s = s := by
  unfold onTimeBlock
  split
  · rfl
  · next hno => exact laneGives_absent (h.resolve_right fun hother => hno (by simp [hother.1, hother.2]))

theorem onTimeBlock_brought (hhas : laneHas s p (.time b) = true) (h : timeBlockOk s p b = true → tbType b = ty) :
    onTimeBlock p b ty f s = if !timeBlockOk s p b then countBad (laneTake p (.time b) s)
      else if s.bit Reg.TIM_CTRL 0 && activeDesign (laneTake p (.time b) s) p then f (laneTake p (.time b) s)
      else laneTake p (.time b) s := by
  unfold onTimeBlock
  rw [if_neg (by simpa using h), laneGives_brought hhas, timeBlockOk_laneTake]
  rfl

theorem onTimeBlock_bad (hhas : laneHas s p (.time b) = true) (hbad : timeBlockOk s p b = false) :
    onTimeBlock p b ty f s = countBad (laneTake p (.time b) s) := by
  rw [onTimeBlock_brought hhas fun hok => absurd (hbad.symm.trans hok) Bool.false_ne_true, hbad]
  rfl

theorem onTimeBlock_unused (hhas : laneHas s p (.time b) = true) (hok : timeBlockOk s p b = true) (htype : tbType b = ty)
    (hoff : (s.bit Reg.TIM_CTRL 0 && activeDesign (laneTake p (.time b) s) p) = false) :
    onTimeBlock p b ty f s = laneTake p (.time b) s := by
  rw [onTimeBlock_brought hhas fun _ => htype, hok, hoff]
  rfl

theorem onTimeBlock_used (hhas : laneHas s p (.time b) = true) (hok : timeBlockOk s p b = true) (htype : tbType b = ty)
    (hon : (s.bit Reg.TIM_CTRL 0 && activeDesign (laneTake p (.time b) s) p) = true) :
    onTimeBlock p b ty f s = f (laneTake p (.time b) s) := by
  rw [onTimeBlock_brought hhas fun _ => htype, hok, hon]
  rfl

theorem countBad_regsBut (s : State) : RegsBut [Reg.TIM_CNT_BAD] s (countBad s) := by
  unfold countBad
  dsimp only
  split
  · exact regsBut_setReg s _ _
  · exact regsBut_refl _ s

/-- TIM_CNT_BAD counts one, up to its maximum. -/
theorem countBad_reg (s : State) : (countBad s).reg Reg.TIM_CNT_BAD =
    if s.reg Reg.TIM_CNT_BAD = 0xFFFFFFFF then 0xFFFFFFFF else s.reg Reg.TIM_CNT_BAD + 1 := by
  unfold countBad
  dsimp only
  split
  · next hless =>
    rw [reg_setReg_same, if_neg fun hmax => by rw [hmax] at hless; exact absurd hless (by decide)]
    exact BitVec.eq_of_toNat_eq (by simp)
  · next hmax =>
    have hfull : s.reg Reg.TIM_CNT_BAD = 0xFFFFFFFF := by bv_omega
    rw [if_pos hfull, hfull]

theorem countBad_timPort (q : Nat) (s : State) : (countBad s).timPort q = s.timPort q := by
  rw [State.timPort, (countBad_chg s).same .tim (by decide), State.timPort]

theorem exec_timeMessage {c : Instr} {p : BitVec 4} {dev txDev : Int} (hup : s.up = true)
    (hc : (c, ty) ∈ [(Instr.syncReceive p b dev, 0), (.followUpReceive p b, 8), (.pdelayReqReceive p b dev txDev, 2),
      (.pdelayRespReceive p b dev, 3), (.pdelayRespFollowUpReceive p b, 10)]) :
    ∃ f, exec c s = .next (onTimeBlock p.toNat b ty f s) := by
  simp only [List.mem_cons, List.not_mem_nil, or_false, Prod.mk.injEq] at hc
  rcases hc with ⟨rfl, rfl⟩ | ⟨rfl, rfl⟩ | ⟨rfl, rfl⟩ | ⟨rfl, rfl⟩ | ⟨rfl, rfl⟩ <;> exact ⟨_, run_up _ hup⟩

end

/-! ### The messages that are used -/

section
variable {p : BitVec 4} {b : TimeBlock} {dev txDev : Int} {s : State}

/-- An accepted group has brought the message, and it is usable. -/
structure TimeUsed (p : Nat) (b : TimeBlock) (s : State) : Prop where
  has : laneHas s p (.time b) = true
  ok : timeBlockOk s p b = true
  on : (s.bit Reg.TIM_CTRL 0 && activeDesign (laneTake p (.time b) s) p) = true

theorem TimeUsed.runs {p ty : Nat} {f : State → State} (h : TimeUsed p b s) (hup : s.up = true) (htype : tbType b = ty) :
    run (onTimeBlock p b ty f) s = .next (f (laneTake p (.time b) s)) :=
  (run_up _ hup).trans (congrArg _ (onTimeBlock_used h.has h.ok htype h.on))

theorem exec_syncReceive (h : TimeUsed p.toNat b s) (hup : s.up = true) (htype : tbType b = 0) :
    exec (.syncReceive p b dev) s = .next (noteMaster p.toNat b ((laneTake p.toNat (.time b) s).setTimPort p.toNat
      { s.timPort p.toNat with sync := some { seq := tbSeq b, rx := stampAt s dev, at' := s.clock } })) := h.runs hup htype

theorem exec_pdelayReqReceive (h : TimeUsed p.toNat b s) (hup : s.up = true) (htype : tbType b = 2) :
    exec (.pdelayReqReceive p b dev txDev) s = .next (sendTime p.toNat
      [timeBlock s 3 p.toNat s.plat.module 0 (tbSeq b) (stampAt s dev), timeBlock s 10 p.toNat s.plat.module 0 (tbSeq b) (stampAt s txDev)]
      (laneTake p.toNat (.time b) s)) := (h.runs hup htype).trans (congrArg _ (if_pos h.on))

theorem exec_pdelayResp_opened (h : TimeUsed p.toNat b s) (hup : s.up = true) (htype : tbType b = 3) {d : PendPdelay}
    (hd : (s.timPort p.toNat).pdelay = some d) (hseq : d.seq = tbSeq b) : exec (.pdelayRespReceive p b dev) s =
      .next ((laneTake p.toNat (.time b) s).setTimPort p.toNat { s.timPort p.toNat with
        pdelay := some { d with t2 := some (tbStamp b), t4 := some (stampAt s dev) } }) := by
  have hu : ((laneTake p.toNat (.time b) s).timPort p.toNat).pdelay = some d := hd
  refine (h.runs hup htype).trans (congrArg _ ?_)
  dsimp only
  rw [hu]
  exact if_pos hseq

theorem exec_pdelayResp_strange (h : TimeUsed p.toNat b s) (hup : s.up = true) (htype : tbType b = 3)
    (hno : ∀ d, (s.timPort p.toNat).pdelay = some d → d.seq ≠ tbSeq b) :
    exec (.pdelayRespReceive p b dev) s = .next (laneTake p.toNat (.time b) s) := by
  refine (h.runs hup htype).trans (congrArg _ ?_)
  dsimp only
  split
  · next d hd => exact if_neg (hno d hd)
  · rfl

end

/-! ### The end of a measurement (R276) -/

section
variable {p : Nat} {b : TimeBlock} {s : State}

theorem respFollowUp_strange (hno : ∀ d, (s.timPort p).pdelay = some d → d.seq ≠ tbSeq b) : respFollowUp p b s = s := by
  unfold respFollowUp
  dsimp only
  split
  · next d hd => exact if_neg (hno d hd)
  · rfl

theorem respFollowUp_early {d : PendPdelay} (hd : (s.timPort p).pdelay = some d) (h : d.t2 = none ∨ d.t4 = none) :
    respFollowUp p b s = s := by
  unfold respFollowUp
  dsimp only
  rw [hd]
  dsimp only
  split
  · split
    · next h2 h4 => simp [h2, h4] at h
    · rfl
  · rfl

theorem respFollowUp_completes {d : PendPdelay} {t2 t4 : Int} (hd : (s.timPort p).pdelay = some d) (hseq : d.seq = tbSeq b)
    (h2 : d.t2 = some t2) (h4 : d.t4 = some t4) : respFollowUp p b s =
      addMeasurement p ((t4 - d.t1) - (tbStamp b - t2)) (s.setTimPort p { s.timPort p with pdelay := none }) := by
  unfold respFollowUp
  dsimp only
  rw [hd]
  dsimp only
  rw [if_pos hseq, h2, h4]

/-- A measurement in range is kept, and TIM_MPD_p shows the new mean. -/
theorem addMeasurement_kept {m : Int} (h : 0 ≤ m ∧ m ≤ 10000 * 2 ^ 17) :
    (addMeasurement p m s).timPort p = { s.timPort p with meas := (m :: (s.timPort p).meas).take 8 } ∧
      RegsBut [Reg.TIM_MPD + 16 * p] s (addMeasurement p m s) := by
  have hkept : addMeasurement p m s =
      showMpd p (s.setTimPort p { s.timPort p with meas := (m :: (s.timPort p).meas).take 8 }) := if_pos h
  rw [hkept]
  exact ⟨timPort_setTimPort_same .., regsBut_setReg (s.setTimPort p _) _ _⟩

theorem addMeasurement_discarded {m : Int} (h : m < 0 ∨ 10000 * 2 ^ 17 < m) : addMeasurement p m s = countBad s :=
  if_neg (by omega)

end

/-! ### The offset of a complete Sync (R279, R282) -/

section
variable {p : Nat} {b : TimeBlock} {s : State}

theorem noteMaster_upstream {p : Nat} (h : s.plat.upstream = some (BitVec.ofNat 4 p)) (b : TimeBlock) :
    (noteMaster p b s).tim.rxGm = tbGm b ∧ (noteMaster p b s).tim.rxEpoch = tbEpoch b := by
  rw [noteMaster, if_pos h]
  exact ⟨rfl, rfl⟩

theorem noteMaster_aside {p : Nat} (h : s.plat.upstream ≠ some (BitVec.ofNat 4 p)) : noteMaster p b s = s := if_neg h

theorem noteMaster_ports (p : Nat) (b : TimeBlock) (s : State) : (noteMaster p b s).tim.ports = s.tim.ports := by
  unfold noteMaster
  split <;> rfl

theorem noteMaster_timPort (p q : Nat) (b : TimeBlock) (s : State) : (noteMaster p b s).timPort q = s.timPort q := by
  rw [State.timPort, noteMaster_ports, State.timPort]

theorem noteMaster_counter (p : Nat) (b : TimeBlock) (s : State) :
    (noteMaster p b s).tim.count = s.tim.count ∧ (noteMaster p b s).tim.rate = s.tim.rate := by
  unfold noteMaster
  split <;> exact ⟨rfl, rfl⟩

theorem noteMaster_reg (p : Nat) (b : TimeBlock) (s : State) (o : Nat) : (noteMaster p b s).reg o = s.reg o :=
  reg_of_regs ((noteMaster_chg p b s).same .regs (by decide)) o

theorem noteMaster_clock (p : Nat) (b : TimeBlock) (s : State) : (noteMaster p b s).clock = s.clock :=
  (noteMaster_chg p b s).same .clock (by decide)

theorem noteMaster_syncClks (p : Nat) (b : TimeBlock) (s : State) : syncClks (noteMaster p b s) = syncClks s := by
  rw [syncClks, fld_of_reg (noteMaster_reg ..), syncClks]

theorem followUp_alone (h : ∀ y, (s.timPort p).sync = some y → y.seq ≠ tbSeq b ∨ y.at' + syncClks s < s.clock) :
    followUp p b s = noteMaster p b s := by
  unfold followUp
  dsimp only
  rw [noteMaster_timPort, noteMaster_clock, noteMaster_syncClks]
  split
  · rfl
  · next y hy =>
    refine if_neg fun hboth => ?_
    rcases h y hy with hseq | hlate
    · exact hseq hboth.1
    · omega

/-- A Follow_Up completes its Sync; the offset is taken once the mean path delay is valid. -/
theorem followUp_completes {y : PendSync} (hy : (s.timPort p).sync = some y) (hseq : y.seq = tbSeq b)
    (hin : s.clock ≤ y.at' + syncClks s) : followUp p b s =
      if 4 ≤ (s.timPort p).meas.length then
        syncComplete p b (((y.rx - tbStamp b : Int) : Rat) / 2 ^ 16 -
            (mpdOf (s.timPort p) + ((s.reg (Reg.TIM_ASYM + 16 * p)).toInt : Rat) / 2 ^ 16))
          ((noteMaster p b s).setTimPort p { s.timPort p with sync := none })
      else (noteMaster p b s).setTimPort p { s.timPort p with sync := none } := by
  unfold followUp
  dsimp only
  rw [noteMaster_timPort, noteMaster_clock, noteMaster_syncClks, hy]
  dsimp only
  rw [if_pos ⟨hseq, hin⟩, setTimPort_reg, noteMaster_reg]

theorem lnkCause_reg {p b o : Nat} (lane : Nat) (s : State) (hcause : o ≠ lnkReg p 8) (hcapt : o ≠ lnkReg p 0xC)
    (hpend : o ≠ pendReg (0x240 + 8 * p + b)) : (lnkCause p b lane s).reg o = s.reg o := by
  have hcaught : (lnkCaught p b lane s).reg o = s.reg o := causeSet_reg s hcause (by simpa using hcapt)
  rw [lnkCause_eq]
  split
  · exact hcaught
  · rw [raise_reg _ hpend, hcaught]

theorem timeCompare_reg {p o : Nat} (s : State) (hp : p < 16) (ho : 0xA00000 ≤ o) : (timeCompare p s).reg o = s.reg o := by
  have hlnk : (lnkCause p 7 0 s).reg o = s.reg o := by
    refine lnkCause_reg 0 s ?_ ?_ ?_ <;> simp only [lnkReg, pendReg_eq] <;> omega
  unfold timeCompare
  dsimp only
  split
  · exact hlnk
  · split
    · rw [raise_reg _ (by rw [pendReg_eq]; omega), hlnk]
    · rfl

theorem timeCompare_tim (p : Nat) (s : State) : (timeCompare p s).tim = s.tim := (timeCompare_chg p s).same .tim (by decide)

/-- The offset is shown and compared. -/
def offsetCompared (p : Nat) (o : Rat) (s : State) : State :=
  timeCompare p (s.setReg (Reg.TIM_PORT_OFS + 16 * p) (sat32 (o * 2 ^ 8).floor))

theorem offsetCompared_chg (p : Nat) (o : Rat) (s : State) : Chg 146 s (offsetCompared p o s) :=
  .after (timeCompare_chg ..) (.after (State_setReg_chg ..) (.refl _ _))

theorem offsetCompared_tim (p : Nat) (o : Rat) (s : State) : (offsetCompared p o s).tim = s.tim := timeCompare_tim ..

theorem offsetCompared_reg {p : Nat} (o : Rat) (s : State) (hp : p < 16) :
    (offsetCompared p o s).reg (Reg.TIM_PORT_OFS + 16 * p) = sat32 (o * 2 ^ 8).floor := by
  rw [offsetCompared, timeCompare_reg _ hp (by simp only [Reg.TIM_PORT_OFS]; omega), reg_setReg_same]

/-- On a port that is not upstream the offset is for comparison alone. -/
theorem syncComplete_aside {p : Nat} {b : TimeBlock} {o : Rat} {s : State} (h : s.plat.upstream ≠ some (BitVec.ofNat 4 p)) :
    syncComplete p b o s = offsetCompared p o s := by
  have hplat : (offsetCompared p o s).plat = s.plat := (offsetCompared_chg p o s).same .plat (by decide)
  exact if_neg fun hup => h (hplat ▸ hup.1)

end

/-! ### The commands that end an exchange -/

/-- The Sync waits no longer. -/
def syncTaken (p : Nat) (b : TimeBlock) (s : State) : State :=
  (noteMaster p b (laneTake p (.time b) s)).setTimPort p { s.timPort p with sync := none }

/-- The offset of a Sync received at `y.rx` (R279). -/
def offsetOf (p : Nat) (b : TimeBlock) (y : PendSync) (s : State) : Rat :=
  ((y.rx - tbStamp b : Int) : Rat) / 2 ^ 16 - (mpdOf (s.timPort p) + ((s.reg (Reg.TIM_ASYM + 16 * p)).toInt : Rat) / 2 ^ 16)

section
variable {p : BitVec 4} {b : TimeBlock} {s : State} (h : TimeUsed p.toNat b s) (hup : s.up = true)
include h hup

theorem exec_respFollowUp_idle (htype : tbType b = 10) (hidle : (∀ d, (s.timPort p.toNat).pdelay = some d → d.seq ≠ tbSeq b) ∨
    ∃ d, (s.timPort p.toNat).pdelay = some d ∧ (d.t2 = none ∨ d.t4 = none)) :
    exec (.pdelayRespFollowUpReceive p b) s = .next (laneTake p.toNat (.time b) s) := by
  refine (h.runs hup htype).trans (congrArg _ ?_)
  rcases hidle with hno | ⟨d, hd, hearly⟩
  · exact respFollowUp_strange (s := laneTake p.toNat (.time b) s) hno
  · exact respFollowUp_early (s := laneTake p.toNat (.time b) s) hd hearly

theorem exec_respFollowUp_completes (htype : tbType b = 10) {d : PendPdelay} {t2 t4 : Int}
    (hd : (s.timPort p.toNat).pdelay = some d) (hseq : d.seq = tbSeq b) (h2 : d.t2 = some t2) (h4 : d.t4 = some t4) :
    exec (.pdelayRespFollowUpReceive p b) s = .next (addMeasurement p.toNat ((t4 - d.t1) - (tbStamp b - t2))
      ((laneTake p.toNat (.time b) s).setTimPort p.toNat { s.timPort p.toNat with pdelay := none })) :=
  (h.runs hup htype).trans (congrArg _ (respFollowUp_completes (s := laneTake p.toNat (.time b) s) hd hseq h2 h4))

theorem exec_followUp_alone (htype : tbType b = 8)
    (halone : ∀ y, (s.timPort p.toNat).sync = some y → y.seq ≠ tbSeq b ∨ y.at' + syncClks s < s.clock) :
    exec (.followUpReceive p b) s = .next (noteMaster p.toNat b (laneTake p.toNat (.time b) s)) :=
  (h.runs hup htype).trans (congrArg _ (followUp_alone (s := laneTake p.toNat (.time b) s) halone))

theorem exec_followUp_completes (htype : tbType b = 8) {y : PendSync} (hy : (s.timPort p.toNat).sync = some y)
    (hseq : y.seq = tbSeq b) (hin : s.clock ≤ y.at' + syncClks s) : exec (.followUpReceive p b) s =
      .next (if 4 ≤ (s.timPort p.toNat).meas.length
        then syncComplete p.toNat b (offsetOf p.toNat b y s) (syncTaken p.toNat b s) else syncTaken p.toNat b s) :=
  (h.runs hup htype).trans (congrArg _ (followUp_completes (s := laneTake p.toNat (.time b) s) hy hseq hin))

end

section
variable {p : Nat} {b : TimeBlock} {s : State}

theorem syncTaken_chg : Chg 1179648 s (syncTaken p b s) :=
  .after (State_setTimPort_chg ..) (.after (noteMaster_chg ..) (.after (laneTake_chg ..) (.refl _ _)))

theorem syncTaken_handedOn_chg : Chg 1048576 (laneTake p (.time b) s) (syncTaken p b s) :=
  .after (State_setTimPort_chg ..) (noteMaster_chg ..)

/-- A complete Sync of another port than the upstream one leaves its offset in TIM_PORT_OFS and the counter alone. -/
theorem syncComplete_elsewhere (o : Rat) (hp : p < 16) (h : s.plat.upstream ≠ some (BitVec.ofNat 4 p)) :
    (syncComplete p b o (syncTaken p b s)).reg (Reg.TIM_PORT_OFS + 16 * p) = sat32 (o * 2 ^ 8).floor ∧
      ((syncComplete p b o (syncTaken p b s)).timPort p).sync = none ∧
      (syncComplete p b o (syncTaken p b s)).tim.count = s.tim.count ∧
      (syncComplete p b o (syncTaken p b s)).tim.rate = s.tim.rate ∧
      Chg 1048722 (laneTake p (.time b) s) (syncComplete p b o (syncTaken p b s)) := by
  have hplat : (syncTaken p b s).plat = s.plat := syncTaken_chg.same .plat (by decide)
  obtain ⟨hcount, hrate⟩ := noteMaster_counter p b (laneTake p (.time b) s)
  rw [syncComplete_aside (by rwa [hplat]), State.timPort, offsetCompared_tim]
  exact ⟨offsetCompared_reg _ _ hp, congrArg TimPort.sync (timPort_setTimPort_same ..), hcount, hrate,
    .after (offsetCompared_chg ..) (.after syncTaken_handedOn_chg (.refl _ _))⟩

end

end Sys2Proof.Proofs
end

section
/-!
Proofs of the family 09_shared_time: O45, clause by clause.
-/
namespace Sys2Proof.Proofs
open Sys2Proof.Machine Sys2Proof.Laws

/-- Settles O45: what is sent by where the messages of a port leave, what arrives by whether it is brought, usable and expected. -/
theorem sharedTimeMessages : Obligations.SharedTimeMessages := by
  unfold Obligations.SharedTimeMessages
  refine ⟨?sync, ?request, ?unused, ?used⟩
  case sync =>
    intro devs s hup
    rw [exec_syncInterval hup]
    refine ⟨_, _, _, rfl, rfl, rfl, fun p u a b hp hmay hu ha hb => ?_, fun p hmay => ?_, (syncInterval_chg devs s).changes⟩
    · subst hu ha hb
      obtain ⟨⟨hgroup, hblocks⟩, hport⟩ := syncInterval_left (devs := devs) hp hmay
      refine ⟨fun hroom => ?_, fun hroom => ⟨hblocks hroom _ (by simp [syncBlocks, syncGm, syncEpoch]),
        hblocks hroom _ (by simp [syncBlocks, syncGm, syncEpoch])⟩, hport⟩
      obtain ⟨parts, hout, hmem⟩ := hgroup hroom
      exact ⟨parts, hout, hmem _ List.mem_cons_self, hmem _ (List.mem_cons_of_mem _ List.mem_cons_self)⟩
    · have hkept := syncOut_each_silent (devs := devs) hmay (List.range 16)
      exact ⟨hkept.port, hkept.lane⟩
  case request =>
    intro p dev a s u hup hu ha
    subst hu ha
    rw [exec_pdelayInterval hup]
    refine ⟨fun hmay => ?_, fun hmay => by rw [pdelayOut_silent hmay]⟩
    refine ⟨_, rfl, fun hroom => ?_, fun hroom => ?_, ?_, (pdelayOut_chg ..).changes⟩ <;> rw [pdelayOut_sends hmay]
    · obtain ⟨parts, hout, hmem⟩ := sendTime_group
        (bs := [timeBlock s 2 p.toNat s.plat.module 0 (s.timPort p.toNat).pdelaySeq 0]) (active_of_maySend hmay) hroom (Nat.le_succ 1)
      rw [setTimPort_out]
      exact ⟨parts, hout, hmem _ List.mem_cons_self⟩
    · rw [setTimPort_out]
      exact sendTime_lastBlock (bs := []) hroom _
    · exact timPort_setTimPort_same ..
  case unused =>
    intro c ty p b dev txDev s u hup hc hu
    subst hu
    obtain ⟨f, hexec⟩ := exec_timeMessage hup hc
    rw [hexec]
    refine ⟨fun h => by rw [onTimeBlock_absent h], fun hhas hbad => ?_, fun hhas hok htype hoff => ?_⟩
    · rw [onTimeBlock_bad hhas hbad]
      exact ⟨_, rfl, countBad_reg _, countBad_regsBut _, (countBad_chg _).changes⟩
    · rw [onTimeBlock_unused hhas hok htype hoff]
  case used =>
    intro p b dev txDev s u hup hhas hu hon hok
    subst hu
    have hused : TimeUsed p.toNat b s := ⟨hhas, hok, hon⟩
    have htake : Chg 131072 s (laneTake p.toNat (.time b) s) := laneTake_chg ..
    have hname : BitVec.ofNat 4 p.toNat = p := BitVec.ofNat_toNat ..
    refine ⟨fun htype => ?sync, fun v a c htype hv ha hc => ?asked, fun d hd hseq => ⟨fun htype => ?answered,
      fun htype hearly => ?early, fun t2 t4 m htype h2 h4 hm => ?measured⟩, fun hno => ⟨fun htype => ?_, fun htype => ?_⟩,
      fun htype halone => ?alone, fun y t0 v htype ht0 hy hseq hin hv => ?complete⟩
    case sync =>
      rw [exec_syncReceive hused hup htype]
      refine ⟨_, rfl, by rw [noteMaster_timPort, timPort_setTimPort_same], fun hup => noteMaster_upstream (by rw [hname]; exact hup) _,
        fun hno => ?_, (noteMaster_counter ..).1, (Chg.after (m := 1048576) (noteMaster_chg ..) (State_setTimPort_chg ..)).changes⟩
      rw [noteMaster_aside (by rw [hname]; exact hno)]
      exact ⟨rfl, rfl⟩
    case asked =>
      subst hv ha hc
      have hlive := active_of_maySend (s := laneTake p.toNat (.time b) s) hon
      rw [exec_pdelayReqReceive hused hup htype]
      refine ⟨_, rfl, fun hroom => ?_, fun hroom =>
        ⟨sendTime_blocks hroom _ List.mem_cons_self, sendTime_lastBlock (bs := [_]) hroom _⟩,
        (Chg.after (m := 131088) (sendTime_chg ..) (.after htake (.refl _ _))).changes⟩
      obtain ⟨parts, hout, hmem⟩ := sendTime_group (bs := [timeBlock s 3 p.toNat s.plat.module 0 (tbSeq b) (stampAt s dev),
        timeBlock s 10 p.toNat s.plat.module 0 (tbSeq b) (stampAt s txDev)]) hlive hroom (Nat.le_refl 2)
      exact ⟨parts, hout, hmem _ List.mem_cons_self, hmem _ (List.mem_cons_of_mem _ List.mem_cons_self)⟩
    case answered => rw [exec_pdelayResp_opened hused hup htype hd hseq]
    case early => rw [exec_respFollowUp_idle hused hup htype (.inr ⟨d, hd, hearly⟩)]
    case measured =>
      rw [exec_respFollowUp_completes hused hup htype hd hseq h2 h4, ← hm]
      refine ⟨fun hrange => ?_, fun hrange => ?_⟩
      · obtain ⟨hport, hregs⟩ := addMeasurement_kept (p := p.toNat) (s := (laneTake p.toNat (.time b) s).setTimPort p.toNat
          { s.timPort p.toNat with pdelay := none }) hrange
        rw [timPort_setTimPort_same] at hport
        exact ⟨_, rfl, hport, hregs,
          (Chg.after (m := 1048578) (addMeasurement_chg ..) (.after (State_setTimPort_chg ..) (.refl _ _))).changes⟩
      · rw [addMeasurement_discarded hrange]
        exact ⟨_, rfl, by rw [countBad_timPort, timPort_setTimPort_same], countBad_regsBut _,
          (Chg.after (m := 1048578) (countBad_chg _) (.after (State_setTimPort_chg ..) (.refl _ _))).changes⟩
    case alone => rw [exec_followUp_alone hused hup htype halone]
    case complete =>
      subst ht0 hv
      rw [exec_followUp_completes hused hup htype hy hseq hin]
      refine ⟨fun hfew => by rw [if_neg (Nat.not_le.mpr hfew), syncTaken], fun o hmany ho => ?_⟩
      subst ho
      rw [if_pos hmany]
      refine ⟨rfl, fun hno => ⟨_, rfl, ?_⟩⟩
      obtain ⟨hshown, hsync, hcount, hrate, hchg⟩ := syncComplete_elsewhere (b := b) (offsetOf p.toNat b y s) p.isLt
        (by rw [hname]; exact hno)
      exact ⟨hshown, hsync, hcount, hrate, hchg.changes⟩
    · rw [exec_pdelayResp_strange hused hup htype hno]
    · rw [exec_respFollowUp_idle hused hup htype (.inl hno)]

end Sys2Proof.Proofs
end

section
/-!
Proofs of the family 10_glove: what Glove's response to a change leaves of its regions, and regions that change their state (O47,
O48, O53).
-/
namespace Sys2Proof.Proofs
set_option Elab.async false
open Sys2Proof.Machine Sys2Proof.Laws

/-! ### Glove's response (R292) -/

theorem region_setRegion_other (s : State) {r q : Nat} (g : GlvRegion) (h : q ≠ r) : (s.setRegion r g).region q = s.region q :=
  mget_mset_other _ _ _ g h

theorem region_setRegion (s : State) (r q : Nat) (g : GlvRegion) :
    (s.setRegion r g).region q = if q = r then g else s.region q := by
  split
  · next h => rw [h, region_setRegion_same]
  · next h => exact region_setRegion_other s g h

/-- From `s` to `t` Glove has responded: of its regions only the outputs of macrocells and the clock levels they saw have changed,
and beside them only the levels that keepers hold and what is noted of the DI lines. -/
structure Responds (s t : State) : Prop where
  glv : t.glv = { s.glv with regions := t.glv.regions, pinLast := t.glv.pinLast, diSeen := t.glv.diSeen, diChanged := t.glv.diChanged }
  region : ∀ r, ∃ q clk, t.region r = { s.region r with q := q, clk := clk }

namespace Responds

theorem refl (s : State) : Responds s s := ⟨rfl, fun _ => ⟨_, _, rfl⟩⟩

theorem trans {s r t : State} (h : Responds s r) (k : Responds r t) : Responds s t := by
  refine ⟨by rw [k.glv, h.glv], fun i => ?_⟩
  obtain ⟨q, clk, hi⟩ := h.region i
  obtain ⟨q', clk', ki⟩ := k.region i
  exact ⟨q', clk', by rw [ki, hi]⟩

theorem of_glv {s t : State} (h : t.glv = s.glv) : Responds s t :=
  ⟨by rw [h], fun _ => ⟨_, _, by rw [State.region, h, ← State.region]⟩⟩

/-- A region takes new outputs and clock levels. -/
theorem setRegion {s t : State} (h : Responds s t) {r : Nat} {g : GlvRegion}
    (hg : ∃ q clk, g = { s.region r with q := q, clk := clk }) : Responds s (t.setRegion r g) := by
  refine ⟨by rw [State.setRegion, h.glv], fun i => ?_⟩
  rw [region_setRegion]
  split
  · next hi => rwa [hi]
  · exact h.region i

theorem each {α : Type} {f : α → State → State} (h : ∀ a t, Responds t (f a t)) (l : List α) (s : State) :
    Responds s (forEach l f s) := by
  induction l generalizing s with
  | nil => exact refl s
  | cons a l ih => exact (h a s).trans (ih _)

theorem st {s t : State} (h : Responds s t) (r : Nat) : (t.region r).st = (s.region r).st := by
  obtain ⟨q, clk, hr⟩ := h.region r
  rw [hr]

theorem frames {s t : State} (h : Responds s t) (r : Nat) : (t.region r).frames = (s.region r).frames := by
  obtain ⟨q, clk, hr⟩ := h.region r
  rw [hr]

end Responds

theorem regionRound_outputs (s : State) (r : Nat) : ∃ q clk, regionRound s r = { s.region r with q := q, clk := clk } := by
  unfold regionRound
  dsimp only
  split
  · exact ⟨_, _, rfl⟩
  · exact ⟨_, _, rfl⟩

theorem glvRound_responds (s : State) : Responds s (glvRound s) :=
  ((((Responds.refl s).setRegion (regionRound_outputs s 0)).setRegion (regionRound_outputs s 1)).setRegion
    (regionRound_outputs s 2)).setRegion (regionRound_outputs s 3)

theorem freeOutputs_responds (t s : State) : Responds s (freeOutputs t s) := by
  refine Responds.each (fun i u => ?_) _ s
  dsimp only
  split
  · exact .refl u
  · exact ((Responds.refl u).setRegion ⟨_, _, rfl⟩).trans (.of_glv rfl)

theorem settleFor_responds (fuel : Nat) (s : State) : Responds s (settleFor fuel s) := by
  induction fuel generalizing s with
  | zero =>
    unfold settleFor
    dsimp only
    split
    · exact .refl s
    · exact freeOutputs_responds _ s
  | succ n ih =>
    unfold settleFor
    dsimp only
    split
    · exact .refl s
    · exact (glvRound_responds s).trans (ih _)

theorem keepPins_responds (s : State) : Responds s (keepPins s) := by
  refine Responds.each (fun r t => Responds.each (fun k u => ?_) _ t) _ s
  exact ⟨rfl, fun _ => ⟨_, _, rfl⟩⟩

theorem diTrack_responds (s : State) : Responds s (diTrack s) := by
  refine Responds.each (fun e t => ?_) _ s
  dsimp only
  split
  · exact .refl t
  · exact ⟨rfl, fun _ => ⟨_, _, rfl⟩⟩

theorem settle_responds (s : State) : Responds s (settle s) :=
  ((settleFor_responds 1024 s).trans (keepPins_responds _)).trans (diTrack_responds _)

/-! ### Regions that change together (R300, R304, R305) -/

/-- The regions of a list take what `f` makes of the state; Glove has not responded yet. -/
def placed (rs : List Nat) (f : State → Nat → GlvRegion) (s : State) : State := forEach rs (fun r t => t.setRegion r (f s r)) s

section
variable (rs : List Nat) (f : State → Nat → GlvRegion) (s : State)

theorem forEach_setRegion (g : Nat → GlvRegion) (t : State) :
    (forEach rs (fun r t => t.setRegion r (g r)) t).glv =
        { t.glv with regions := (forEach rs (fun r t => t.setRegion r (g r)) t).glv.regions } ∧
      ∀ r, (forEach rs (fun r t => t.setRegion r (g r)) t).region r = if r ∈ rs then g r else t.region r := by
  induction rs generalizing t with
  | nil => exact ⟨rfl, fun r => rfl⟩
  | cons a rs ih =>
    obtain ⟨hglv, hregion⟩ := ih (t.setRegion a (g a))
    refine ⟨hglv, fun r => (hregion r).trans ?_⟩
    rw [region_setRegion]
    by_cases hr : r ∈ rs
    · rw [if_pos hr, if_pos (List.mem_cons_of_mem a hr)]
    · rw [if_neg hr]
      by_cases ha : r = a
      · rw [if_pos ha, if_pos (by rw [ha]; exact List.mem_cons_self), ha]
      · rw [if_neg ha, if_neg (by simp [ha, hr])]

theorem placed_glv : (placed rs f s).glv = { s.glv with regions := (placed rs f s).glv.regions } :=
  (forEach_setRegion rs (f s) s).1

theorem placed_region (r : Nat) : (placed rs f s).region r = if r ∈ rs then f s r else s.region r :=
  (forEach_setRegion rs (f s) s).2 r

theorem changeRegions_responds : Responds (placed rs f s) (changeRegions rs f s) := settle_responds _

theorem changeRegions_in {r : Nat} (h : r ∈ rs) :
    ∃ q clk, (changeRegions rs f s).region r = { f s r with q := q, clk := clk } := by
  obtain ⟨q, clk, hr⟩ := (changeRegions_responds rs f s).region r
  exact ⟨q, clk, by rw [hr, placed_region, if_pos h]⟩

theorem changeRegions_out {r : Nat} (h : r ∉ rs) :
    ∃ q clk, (changeRegions rs f s).region r = { s.region r with q := q, clk := clk } := by
  obtain ⟨q, clk, hr⟩ := (changeRegions_responds rs f s).region r
  exact ⟨q, clk, by rw [hr, placed_region, if_neg h]⟩

theorem changeRegions_glv : (changeRegions rs f s).glv = { s.glv with
    regions := (changeRegions rs f s).glv.regions
    pinLast := (changeRegions rs f s).glv.pinLast
    diSeen := (changeRegions rs f s).glv.diSeen
    diChanged := (changeRegions rs f s).glv.diChanged } := by
  rw [(changeRegions_responds rs f s).glv, placed_glv]

end

/-- From `s` to `t` the regions of a list have come to stand in the state `st` with their frames as they were, and every other
region with its state and its frames. Beside the regions only Glove's levels have changed. -/
structure Entered (rs : List Nat) (st : RegionState) (s t : State) : Prop where
  inside : ∀ r, r ∈ rs → (t.region r).st = st
  outside : ∀ r, r ∉ rs → (t.region r).st = (s.region r).st
  frames : ∀ r, (t.region r).frames = (s.region r).frames
  mismatch : t.glv.mapMismatch = s.glv.mapMismatch

/-- Regions that are changed so that they keep their frames and enter a state. -/
theorem changeRegions_entered {rs : List Nat} {st : RegionState} {f : State → Nat → GlvRegion} {s : State}
    (hst : ∀ r, (f s r).st = st) (hframes : ∀ r, (f s r).frames = (s.region r).frames) : Entered rs st s (changeRegions rs f s) := by
  refine ⟨fun r h => ?_, fun r h => ?_, fun r => ?_, by rw [changeRegions_glv]⟩
  · rw [(changeRegions_responds rs f s).st, placed_region, if_pos h, hst]
  · rw [(changeRegions_responds rs f s).st, placed_region, if_neg h]
  · rw [(changeRegions_responds rs f s).frames, placed_region]
    split
    · exact hframes r
    · rfl

theorem holdRegions_entered (rs : List Nat) (st : RegionState) (s : State) : Entered rs st s (holdRegions rs st s) :=
  changeRegions_entered (fun _ => rfl) fun _ => rfl

theorem holdRegion_entered (r : Nat) (st : RegionState) (s : State) : Entered [r] st s (holdRegion r st s) :=
  holdRegions_entered [r] st s

theorem emptyRegions_entered (rs : List Nat) (st : RegionState) (s : State) : Entered rs st s (emptyRegions rs st s) :=
  changeRegions_entered (fun _ => rfl) fun _ => rfl

/-- From `s` to `t` every region keeps its state and its frames. -/
def RegionsStand (s t : State) : Prop :=
  t.glv.mapMismatch = s.glv.mapMismatch ∧ ∀ r, (t.region r).st = (s.region r).st ∧ (t.region r).frames = (s.region r).frames

theorem RegionsStand.trans {s r t : State} (h : RegionsStand s r) (k : RegionsStand r t) : RegionsStand s t :=
  ⟨k.1.trans h.1, fun i => ⟨(k.2 i).1.trans (h.2 i).1, (k.2 i).2.trans (h.2 i).2⟩⟩

theorem Responds.stand {s t : State} (h : Responds s t) : RegionsStand s t :=
  ⟨by rw [h.glv], fun r => ⟨h.st r, h.frames r⟩⟩

theorem changeRegions_stand {rs : List Nat} {f : State → Nat → GlvRegion} {s : State}
    (h : ∀ r, (f s r).st = (s.region r).st ∧ (f s r).frames = (s.region r).frames) : RegionsStand s (changeRegions rs f s) := by
  refine ⟨by rw [changeRegions_glv], fun r => ?_⟩
  rw [(changeRegions_responds rs f s).st, (changeRegions_responds rs f s).frames, placed_region]
  split
  · exact h r
  · exact ⟨rfl, rfl⟩

theorem glvEdges_stand (n : Nat) (s : State) : RegionsStand s (glvEdges n s) := by
  unfold glvEdges
  induction n with
  | zero => exact ⟨rfl, fun _ => ⟨rfl, rfl⟩⟩
  | succ n ih =>
    have hlevel (u : State) (b : Bool) : RegionsStand u { u with glv := { u.glv with cfgClk := b } } :=
      ⟨rfl, fun _ => ⟨rfl, rfl⟩⟩
    exact (ih.trans (hlevel _ _)).trans (settle_responds _).stand

theorem Entered.after {rs : List Nat} {st : RegionState} {s r t : State} (h : Entered rs st r t) (k : RegionsStand s r) :
    Entered rs st s t :=
  ⟨h.inside, fun i hi => (h.outside i hi).trans (k.2 i).1, fun i => (h.frames i).trans (k.2 i).2, h.mismatch.trans k.1⟩

/-- The regions that start run, and start with the frames that they hold (R300). -/
theorem startRegions_entered (rs : List Nat) (s : State) : Entered rs .running s (startRegions rs s) := by
  have hinit (u : State) : RegionsStand u
      (changeRegions rs (fun s r => { s.region r with stage := .init, q := initQ (s.region r), clk := [] }) u) :=
    changeRegions_stand fun _ => ⟨rfl, rfl⟩
  have hreleased (u : State) : RegionsStand u (changeRegions rs (fun s r => { s.region r with stage := .released }) u) :=
    changeRegions_stand fun _ => ⟨rfl, rfl⟩
  have hkeepers (m : SMap Bool) : RegionsStand s { s with glv := { s.glv with pinLast := m } } := ⟨rfl, fun _ => ⟨rfl, rfl⟩⟩
  have hruns (u : State) : Entered rs .running u (changeRegions rs (fun s r => { s.region r with st := .running, stage := .steady }) u) :=
    changeRegions_entered (fun _ => rfl) fun _ => rfl
  exact (hruns _).after ((((hkeepers _).trans (hinit _)).trans (hreleased _)).trans (glvEdges_stand 8 _))

end Sys2Proof.Proofs
end

section
/-!
Proofs of the family 10_glove: how a Glove load ends, and the phases of a load (O47).
-/
namespace Sys2Proof.Proofs
set_option Elab.async false
open Sys2Proof.Machine Sys2Proof.Laws

/-! ### Causes and counters of Glove (R311) -/

theorem glvCause_regsBut (b region seg : Nat) (s : State) :
    RegsBut [Reg.GLV_CAUSE, Reg.GLV_ERR_LOC] s (glvCause b region seg s) :=
  fun _ ho => causeSet_reg s (fun h => ho (by simp [h])) fun h => ho (List.mem_cons_of_mem _ h)

theorem glvCause_bit {b : Nat} (region seg : Nat) (s : State) (hb : b < 32) :
    (glvCause b region seg s).bit Reg.GLV_CAUSE b = true := causeSet_bit _ s hb

/-- A cause that comes while no other stands is captured. -/
theorem glvCause_captures (b region seg : Nat) {s : State} (h : s.reg Reg.GLV_CAUSE = 0) :
    (glvCause b region seg s).reg Reg.GLV_ERR_LOC = BitVec.ofNat 32 (2 ^ 28 * (b + 1) + 2 ^ 26 * region + 2 ^ 13 * seg) := by
  unfold glvCause causeSet
  dsimp only
  rw [reg_setBit_other _ _ _ (by decide), if_pos h]
  exact reg_setReg_same ..

theorem glvCnt_regsBut (k n : Nat) (s : State) :
    RegsBut [Reg.GLV_CNT + 4 * k, Reg.GLV_CNT_SAT, pendReg 0x366] s (glvCnt k n s) := by
  intro o ho
  simp only [List.mem_cons, List.not_mem_nil, or_false, not_or] at ho
  obtain ⟨hcnt, hsat, hpend⟩ := ho
  exact satAdd_reg s hcnt hsat fun e he => Option.some.inj he ▸ hpend

/-! ### The comparison of the tags (R289) -/

/-- The RUNNING regions whose tag differs from that of the installed map. -/
def tagsBad (s : State) : List Nat :=
  (List.range 4).filter (fun r => (s.region r).st == .running && (s.region r).mapTag ≠ s.mapTag r)

theorem mem_tagsBad {s : State} {r : Nat} :
    r ∈ tagsBad s ↔ r < 4 ∧ (s.region r).st = .running ∧ (s.region r).mapTag ≠ s.mapTag r := by
  rw [tagsBad, List.mem_filter, List.mem_range, Bool.and_eq_true, beq_iff_eq, decide_eq_true_iff]

/-- MAP_MISMATCH takes a value. -/
def mismatchNoted (b : Bool) (s : State) : State := { s with glv := { s.glv with mapMismatch := b } }

theorem tagCheck_noMap {s : State} (h : s.img.valid = false ∨ s.img.gloveMap.length < 2) : tagCheck s = s :=
  if_pos (by simpa using h)

theorem tagCheck_map {s : State} (hvalid : s.img.valid = true) (hmap : 2 ≤ s.img.gloveMap.length) :
    tagCheck s = match tagsBad s with
      | [] => mismatchNoted false s
      | r :: _ => raise 0x363 (glvCause 3 r 0 (mismatchNoted true s)) :=
  (if_neg (by simp [hvalid]; omega)).trans rfl

/-- What the comparison of the tags comes to. -/
theorem tagCheck_cases (s : State) : tagCheck s = s ∨ tagCheck s = mismatchNoted false s ∨
    ∃ r, tagCheck s = raise 0x363 (glvCause 3 r 0 (mismatchNoted true s)) := by
  by_cases h : s.img.valid = false ∨ s.img.gloveMap.length < 2
  · exact .inl (tagCheck_noMap h)
  · simp only [not_or, Bool.not_eq_false, Nat.not_lt] at h
    rw [tagCheck_map h.1 h.2]
    split
    · exact .inr (.inl rfl)
    · exact .inr (.inr ⟨_, rfl⟩)

theorem mismatchReported_glv (r : Nat) (b : Bool) (s : State) :
    (raise 0x363 (glvCause 3 r 0 (mismatchNoted b s))).glv = { s.glv with mapMismatch := b } :=
  ((raise_chg ..).same .glv (by decide)).trans ((glvCause_chg 3 r 0 (mismatchNoted b s)).same .glv (by decide))

theorem tagCheck_glv (s : State) : (tagCheck s).glv = { s.glv with mapMismatch := (tagCheck s).glv.mapMismatch } := by
  obtain h | h | ⟨r, h⟩ := tagCheck_cases s
  · rw [h]
  · rw [h]; rfl
  · rw [h, mismatchReported_glv]

theorem tagCheck_regsBut (s : State) : RegsBut [Reg.GLV_CAUSE, Reg.GLV_ERR_LOC, pendReg 0x363] s (tagCheck s) := by
  obtain h | h | ⟨r, h⟩ := tagCheck_cases s
  · rw [h]; exact regsBut_refl _ _
  · rw [h]; exact regsBut_of_regs _ rfl
  · rw [h]
    exact regsBut_trans (r := mismatchNoted true s) (regsBut_of_regs _ rfl) (regsBut_trans
      (regsBut_mono (glvCause_regsBut 3 r 0 _) (by simp)) (regsBut_mono (regsBut_raise 0x363 _) (by simp)))

/-- The comparison clears no bit but those of the capture. -/
theorem tagCheck_keeps {s : State} {o i : Nat} (ho : o ≠ Reg.GLV_ERR_LOC) (hi : i < 32) (h : s.bit o i = true) :
    (tagCheck s).bit o i = true := by
  rw [bit_eq] at h ⊢
  obtain hc | hc | ⟨r, hc⟩ := tagCheck_cases s
  · rwa [hc]
  · rw [hc]; exact h
  · rw [hc]
    refine raise_keeps hi ?_
    by_cases hcause : o = Reg.GLV_CAUSE
    · subst hcause
      exact causeSet_keeps hi (show Reg.GLV_CAUSE ∉ [Reg.GLV_ERR_LOC] by decide) h
    · rw [glvCause_regsBut 3 r 0 _ o (by simp [hcause, ho])]
      exact h

theorem tagCheck_compares (s : State) : TagsCompared s (tagCheck s) := by
  have himg : (tagCheck s).img = s.img := (tagCheck_chg s).same .img (by decide)
  have hregion (r : Nat) : (tagCheck s).region r = s.region r := by rw [State.region, tagCheck_glv, State.region]
  have htag (r : Nat) : (tagCheck s).mapTag r = s.mapTag r := by rw [State.mapTag, himg, State.mapTag]
  refine ⟨fun h => ?_, fun hvalid hmap => ?_⟩
  · rw [himg] at h
    rw [tagCheck_noMap h]
  · rw [himg] at hvalid hmap
    simp only [hregion, htag]
    rw [tagCheck_map hvalid hmap]
    split
    · next hbad =>
      refine ⟨⟨nofun, fun ⟨r, hr⟩ => ?_⟩, nofun⟩
      have hmem := mem_tagsBad.mpr hr
      rw [hbad] at hmem
      exact absurd hmem List.not_mem_nil
    · next r l hbad =>
      have hmem : r ∈ tagsBad s := by rw [hbad]; exact List.mem_cons_self
      refine ⟨⟨fun _ => ⟨r, mem_tagsBad.mp hmem⟩, fun _ => by rw [mismatchReported_glv]⟩, fun _ => ⟨?_, ?_⟩⟩
      · rw [bit_eq]
        refine raise_keeps (by decide) ?_
        rw [← bit_eq]
        exact glvCause_bit r 0 _ (by decide)
      · exact raise_pendBit (by simp [eventAbsent])

/-! ### The end of a load (R289, R299) -/

/-- The registers in which the end of a Glove load, and the comparison of the tags with it, are reported. -/
def glvEndRegs : List Nat := [Reg.GLV_LOAD_STATUS, Reg.GLV_LOAD_DETAIL, Reg.GLV_CAUSE, Reg.GLV_ERR_LOC, Reg.GLV_CNT + 20,
  Reg.GLV_CNT_SAT, pendReg 0x360]

/-- DONE, STATUS and GLV_LOAD_DETAIL take what the load ends with. -/
def glvEndWords (status kind index : Nat) (s : State) : State :=
  ((s.setFld Reg.GLV_LOAD_STATUS 0 2 2).setFld Reg.GLV_LOAD_STATUS 8 8 status).setReg Reg.GLV_LOAD_DETAIL
    (BitVec.ofNat 32 (2 ^ 28 * kind + index % 2 ^ 14))

/-- No load runs. -/
def glvIdle (s : State) : State := { s with glv := { s.glv with load := none } }

/-- A load that has failed is a cause, and counts. -/
def glvFailNoted (status region : Nat) (s : State) : State := if status = 0 then s else glvCnt 5 1 (glvCause 0 region 0 s)

theorem loadEnd_eq (status kind index : Nat) (s : State) : ∃ region, loadEnd status kind index s =
    tagCheck (raise 0x360 (glvFailNoted status region (glvIdle (glvEndWords status kind index s)))) := ⟨_, rfl⟩

section
variable (status kind index region : Nat) (s : State)

theorem glvEndWords_regsBut : RegsBut [Reg.GLV_LOAD_STATUS, Reg.GLV_LOAD_DETAIL] s (glvEndWords status kind index s) :=
  regsBut_trans (regsBut_mono (regsBut_setFld s Reg.GLV_LOAD_STATUS 0 2 2) (by simp)) (regsBut_trans
    (regsBut_mono (regsBut_setFld _ Reg.GLV_LOAD_STATUS 8 8 status) (by simp))
    (regsBut_mono (regsBut_setReg _ Reg.GLV_LOAD_DETAIL _) (by simp)))

theorem glvEndWords_status : (glvEndWords status kind index s).fld Reg.GLV_LOAD_STATUS 0 2 = 2 ∧
    (glvEndWords status kind index s).fld Reg.GLV_LOAD_STATUS 8 8 = status % 256 := by
  have hreg : (glvEndWords status kind index s).reg Reg.GLV_LOAD_STATUS =
      ((s.setFld Reg.GLV_LOAD_STATUS 0 2 2).setFld Reg.GLV_LOAD_STATUS 8 8 status).reg Reg.GLV_LOAD_STATUS :=
    reg_setReg_other _ _ (by decide)
  rw [fld_of_reg hreg, fld_of_reg hreg, fld_setFld_other _ _ (by decide) (by decide), fld_setFld_same _ _ (by decide),
    fld_setFld_same _ _ (by decide)]
  exact ⟨rfl, rfl⟩

theorem glvEndWords_detail (hkind : kind < 16) : (glvEndWords status kind index s).fld Reg.GLV_LOAD_DETAIL 28 4 = kind ∧
    (glvEndWords status kind index s).fld Reg.GLV_LOAD_DETAIL 0 14 = index % 2 ^ 14 := by
  have hreg : (glvEndWords status kind index s).reg Reg.GLV_LOAD_DETAIL =
      BitVec.ofNat 32 (2 ^ 28 * kind + index % 2 ^ 14) := reg_setReg_same ..
  rw [State.fld, State.fld, hreg]
  simp only [bitsOf, BitVec.toNat_ofNat, Nat.shiftRight_eq_div_pow]
  omega

theorem glvFailNoted_regsBut : RegsBut [Reg.GLV_CAUSE, Reg.GLV_ERR_LOC, Reg.GLV_CNT + 20, Reg.GLV_CNT_SAT, pendReg 0x366] s
    (glvFailNoted status region s) := by
  unfold glvFailNoted
  split
  · exact regsBut_refl _ _
  · exact regsBut_trans (regsBut_mono (glvCause_regsBut 0 region 0 s) (by simp)) (regsBut_mono (glvCnt_regsBut 5 1 _) (by simp))

theorem glvFailNoted_cause (h : status ≠ 0) : (glvFailNoted status region s).bit Reg.GLV_CAUSE 0 = true := by
  rw [glvFailNoted, if_neg h, bit_of_reg (glvCnt_regsBut 5 1 _ _ (by decide))]
  exact glvCause_bit region 0 s (by decide)

theorem glvFailNoted_chg : Chg 146 s (glvFailNoted status region s) :=
  .ite (.refl _ _) (.after (glvCnt_chg ..) (.after (glvCause_chg ..) (.refl _ _)))

end

/-- From `s` to `t` a Glove load has ended: it says so in its registers, its event is pending, a failure is a cause, the tags have
been compared, and no load runs. -/
structure GlvEnded (status kind index : Nat) (s t : State) : Prop where
  glv : t.glv = { s.glv with load := none, mapMismatch := t.glv.mapMismatch }
  tags : TagsCompared s t
  done : t.fld Reg.GLV_LOAD_STATUS 0 2 = 2
  code : t.fld Reg.GLV_LOAD_STATUS 8 8 = status % 256
  detail : kind < 16 → t.fld Reg.GLV_LOAD_DETAIL 28 4 = kind ∧ t.fld Reg.GLV_LOAD_DETAIL 0 14 = index % 2 ^ 14
  cause : status ≠ 0 → t.bit Reg.GLV_CAUSE 0 = true
  event : t.pendBit 0x360 = true
  regs : RegsBut glvEndRegs s t

theorem loadEnd_ends (status kind index : Nat) (s : State) : GlvEnded status kind index s (loadEnd status kind index s) := by
  obtain ⟨region, heq⟩ := loadEnd_eq status kind index s
  rw [heq]
  let v := glvFailNoted status region (glvIdle (glvEndWords status kind index s))
  have hglv : v.glv = { s.glv with load := none } := (glvFailNoted_chg ..).same .glv (by decide)
  have hraised : (raise 0x360 v).glv = { s.glv with load := none } := ((raise_chg ..).same .glv (by decide)).trans hglv
  have hregs : RegsBut [Reg.GLV_CAUSE, Reg.GLV_ERR_LOC, Reg.GLV_CNT + 20, Reg.GLV_CNT_SAT, pendReg 0x360]
      (glvEndWords status kind index s) (tagCheck (raise 0x360 v)) :=
    regsBut_trans (r := glvIdle (glvEndWords status kind index s)) (regsBut_of_regs _ rfl)
      (regsBut_trans (regsBut_mono (glvFailNoted_regsBut status region _) (by decide))
        (regsBut_trans (regsBut_mono (regsBut_raise 0x360 v) (by decide)) (regsBut_mono (tagCheck_regsBut _) (by decide))))
  obtain ⟨hdone, hstatus⟩ := glvEndWords_status status kind index s
  obtain ⟨hnoMap, hmap⟩ := tagCheck_compares (raise 0x360 v)
  exact {
    glv := by rw [tagCheck_glv, hraised]
    tags := ⟨fun h => by rw [hnoMap h, hraised], hmap⟩
    done := (fld_of_reg (hregs _ (by decide)) 0 2).trans hdone
    code := (fld_of_reg (hregs _ (by decide)) 8 8).trans hstatus
    detail := fun hkind => by
      rw [fld_of_reg (hregs Reg.GLV_LOAD_DETAIL (by decide)), fld_of_reg (hregs Reg.GLV_LOAD_DETAIL (by decide))]
      exact glvEndWords_detail status kind index s hkind
    cause := fun h => tagCheck_keeps (by decide) (by decide) (by
      rw [bit_of_reg (regsBut_raise 0x360 v _ (by decide))]
      exact glvFailNoted_cause status region _ h)
    event := tagCheck_keeps (by decide) (Nat.mod_lt _ (by decide)) (raise_pendBit (by simp [eventAbsent]))
    regs := regsBut_trans (regsBut_mono (glvEndWords_regsBut status kind index s) (by decide)) (regsBut_mono hregs (by decide)) }

/-- What the state before the end of a load owes to the state in which the phase began. -/
theorem GlvEnded.tagsFrom {status kind index : Nat} {s u t : State} (h : GlvEnded status kind index u t)
    (hmis : u.glv.mapMismatch = s.glv.mapMismatch) : TagsCompared s t :=
  ⟨fun hno => (h.tags.1 hno).trans hmis, h.tags.2⟩

theorem GlvEnded.region {status kind index : Nat} {s t : State} (h : GlvEnded status kind index s t) (r : Nat) :
    t.region r = s.region r := by
  rw [State.region, h.glv, State.region]

/-! ### Failures of a phase (R16, R299) -/

theorem lowestFail_mem {l : List GlvFail} {f : GlvFail} (h : lowestFail l = some f) : f ∈ l :=
  mem_sortBy.mp (List.mem_of_head? h)

/-- Every failure of a list has a status that is not OK, and fits the fields STATUS and KIND. -/
def FailsFit (l : List GlvFail) : Prop := ∀ f, f ∈ l → f.status ≠ 0 ∧ f.status < 256 ∧ f.kind < 16

theorem failsFit_append {l m : List GlvFail} : FailsFit (l ++ m) ↔ FailsFit l ∧ FailsFit m := List.forall_mem_append

theorem failsFit_flatMap {α : Type} {l : List α} {g : α → List GlvFail} (h : ∀ a, FailsFit (g a)) : FailsFit (l.flatMap g) :=
  fun f hf => (List.mem_flatMap.mp hf).elim fun a ha => h a f ha.2

theorem failsFit_failIf {c : Bool} {status kind index : Nat} (h : status ≠ 0 ∧ status < 256 ∧ kind < 16) :
    FailsFit (failIf c status kind index) := by
  intro f hf
  unfold failIf at hf
  split at hf
  · rw [List.mem_singleton.mp hf]
    exact h
  · exact absurd hf List.not_mem_nil

theorem headerFails_fit (s : State) (h : List Byte) (n : Nat) : FailsFit (headerFails s h n) := by
  have hpark (r : Nat) : FailsFit (failIf (2 ≤ leAt h (0x40 + 80 * r) 1) 12 1 (0x40 + 80 * r) ++
      failIf (!zeroBytes h (0x40 + 80 * r + 1) 7) 12 1 (0x40 + 80 * r + 1) ++
      failIf (!zeroBytes h (0x40 + 80 * r + 72) 8) 12 1 (0x40 + 80 * r + 72)) := by
    simp (disch := decide) only [failsFit_append, failsFit_failIf, and_self]
  simp (disch := decide) only [headerFails, failsFit_append, failsFit_failIf, failsFit_flatMap hpark, and_self]

theorem listFails_fit (regions : BitVec 4) (ws : List Word32) : FailsFit (listFails regions ws) :=
  failsFit_flatMap fun _ => by simp [failsFit_append, failsFit_failIf]

theorem dataFails_fit (s : State) (l : GlvLoad) (fs : List (BitVec 1024)) (crc : Word32) : FailsFit (dataFails s l fs crc) := by
  refine failsFit_append.mpr ⟨failsFit_append.mpr ⟨failsFit_failIf (by decide), failsFit_flatMap fun _ => ?_⟩,
    failsFit_flatMap fun _ => failsFit_append.mpr ⟨failsFit_failIf (by decide), failsFit_failIf (by decide)⟩⟩
  exact failsFit_failIf (by decide)

end Sys2Proof.Proofs
end

section
/-!
Proofs of the family 10_glove: the phases of a load (O47).
-/
namespace Sys2Proof.Proofs
set_option Elab.async false
open Sys2Proof.Machine Sys2Proof.Laws

/-! ### What the levels of pins and lines follow (R295, R304, R305) -/

/-- Two states agree in all that the levels of pins and lines follow. -/
structure SamePins (s t : State) : Prop where
  region : ∀ r, t.region r = s.region r
  outside : t.glv.pinIn = s.glv.pinIn
  keepers : t.glv.pinLast = s.glv.pinLast
  doLine : t.glv.doLine = s.glv.doLine
  pulls : t.glv.pulls = s.glv.pulls
  supply : t.reg Reg.PWR_VCCIO = s.reg Reg.PWR_VCCIO
  stage : t.boot.stage = s.boot.stage
  host : t.host = s.host
  clock : t.clock = s.clock

namespace SamePins
variable {s t : State} (h : SamePins s t)
include h

theorem bankPresent (b : Nat) : bankPresent t b = bankPresent s b := bit_of_reg h.supply b

theorem pullsOff : pullsOff t = pullsOff s := by rw [Machine.pullsOff, h.stage, Machine.pullsOff]

theorem regionDrive (r k : Nat) : regionDrive t r k = regionDrive s r k := by
  rw [Machine.regionDrive, h.region, h.doLine, Machine.regionDrive]

theorem pinDrive (p : Nat) : pinDrive t p = pinDrive s p := by
  rw [Machine.pinDrive, h.bankPresent, h.pullsOff, h.host, h.regionDrive, Machine.pinDrive]

theorem pinPull (p : Nat) : pinPull t p = pinPull s p := by
  rw [Machine.pinPull, h.region, h.bankPresent, h.pullsOff, h.pulls, Machine.pinPull]

theorem pinLevel (p : Nat) : pinLevel t p = pinLevel s p := by
  rw [Machine.pinLevel, h.pinDrive, h.outside, h.pinPull, h.keepers, h.clock, Machine.pinLevel]

theorem pinInput (p : Nat) : pinInput t p = pinInput s p := by
  rw [Machine.pinInput, h.bankPresent, h.region, h.pinLevel, Machine.pinInput]

theorem wireVal (fuel r w : Nat) : wireVal fuel t r w = wireVal fuel s r w := by
  induction fuel generalizing r w with
  | zero => rw [Machine.wireVal, h.clock, Machine.wireVal]
  | succ n ih =>
    unfold Machine.wireVal
    simp only [h.region, h.pinInput, h.doLine, ih]

theorem lineOut (r k : Nat) : lineOut t r k = lineOut s r k := by
  unfold Machine.lineOut
  simp only [h.region, h.pinInput, h.wireVal]

theorem captureHeld (r : Nat) : captureHeld t r = captureHeld s r := by
  unfold Machine.captureHeld
  simp only [h.region, h.lineOut, h.regionDrive]

end SamePins

/-! ### Phases -/

theorem mem_maskRegions {m : BitVec 4} {r : Nat} : r ∈ maskRegions m ↔ r < 4 ∧ m.getLsbD r = true := by
  rw [maskRegions, List.mem_filter, List.mem_range]

theorem loadPhase_regsBut (p : Nat) (s : State) : RegsBut [Reg.GLV_LOAD_STATUS] s (loadPhase p s) :=
  regsBut_setFld s Reg.GLV_LOAD_STATUS 16 3 p

theorem loadPhase_fld {p : Nat} (hp : p < 8) (s : State) : (loadPhase p s).fld Reg.GLV_LOAD_STATUS 16 3 = p :=
  (fld_setFld_same _ _ (by decide)).trans (Nat.mod_eq_of_lt hp)

/-! ### HEADER -/

/-- GLV_LOAD_STATUS takes the regions that the header names. -/
def regionsNamed (regs : BitVec 4) (s : State) : State := s.setFld Reg.GLV_LOAD_STATUS 4 4 regs.toNat

/-- The checks of the HEADER phase. -/
def headerChecks (s : State) (h : List Byte) (l : GlvLoad) (regs : BitVec 4) : List GlvFail :=
  headerFails s h l.length ++ failIf (l.source == .host && l.regions ≠ regs) 12 1 10

section
variable {s : State} {l : GlvLoad} {h : List Byte} {regs : BitVec 4} (failAt : Nat)

theorem loadHeader_other {readFail : Bool} (hno : ∀ l, s.glv.load = some l → l.phase ≠ .header) : loadHeader h failAt readFail s = s := by
  unfold loadHeader
  split
  · rfl
  · next l hl => exact if_pos (hno l hl)

theorem loadHeader_open {readFail : Bool} (hload : s.glv.load = some l) (hphase : l.phase = .header)
    (hregs : regs = BitVec.ofNat 4 (leAt h 10 1)) : loadHeader h failAt readFail s = headerWith l regs h failAt readFail s := by
  rw [loadHeader, hload, hregs]
  exact if_neg (not_not_intro hphase)

theorem headerWith_unread : headerWith l regs h failAt true s = loadEnd 15 7 failAt (loadPhase 1 (regionsNamed l.regions s)) :=
  rfl

/-- The checks of the header depend on the identity of the device alone. -/
theorem headerFails_congr {s t : State} (h : List Byte) (n : Nat) (hident : t.ident = s.ident) :
    headerFails t h n = headerFails s h n := by
  unfold headerFails State.part
  rw [hident]

/-- A header that has been read is judged, unless the state of the run forbids a full load. -/
theorem headerWith_whole : headerWith l regs h failAt false s = if fullBusy s l.source h = true
    then loadEnd 9 1 6 (regionsNamed regs s)
    else headerJudged (headerChecks s h l regs) l regs h (loadPhase 1 (regionsNamed regs s)) := by
  have hfails : headerFails (loadPhase 1 (regionsNamed regs s)) h l.length = headerFails s h l.length := headerFails_congr h l.length rfl
  rw [headerChecks, ← hfails, headerWith]
  simp only [Bool.false_eq_true, if_false]
  rfl

theorem headerWith_busy (hbusy : fullBusy s l.source h = true) :
    headerWith l regs h failAt false s = loadEnd 9 1 6 (regionsNamed regs s) :=
  (headerWith_whole failAt).trans (if_pos hbusy)

theorem headerWith_judged (hbusy : fullBusy s l.source h = false) :
    headerWith l regs h failAt false s = headerJudged (headerChecks s h l regs) l regs h (loadPhase 1 (regionsNamed regs s)) :=
  (headerWith_whole failAt).trans (if_neg (by rw [hbusy]; exact Bool.false_ne_true))

/-- The header passes: LIST begins. -/
def listBegun (l : GlvLoad) (regs : BitVec 4) (h : List Byte) (s : State) : State :=
  loadPhase 2 { loadPhase 1 (regionsNamed regs s) with glv := { s.glv with
    load := some { l with phase := .list, header := h, regions := regs } } }

theorem headerWith_passes (hbusy : fullBusy s l.source h = false) (hpass : lowestFail (headerChecks s h l regs) = none) :
    headerWith l regs h failAt false s = listBegun l regs h s := by
  rw [headerWith_judged failAt hbusy, headerJudged, hpass]
  rfl

theorem listBegun_regsBut : RegsBut [Reg.GLV_LOAD_STATUS] s (listBegun l regs h s) :=
  regsBut_trans (regsBut_setFld s _ 4 4 regs.toNat) (regsBut_trans (loadPhase_regsBut 1 _)
    (regsBut_trans (regsBut_of_regs (t := { loadPhase 1 (regionsNamed regs s) with glv := { s.glv with
      load := some { l with phase := .list, header := h, regions := regs } } }) _ rfl) (loadPhase_regsBut 2 _)))

theorem listBegun_regions : (listBegun l regs h s).fld Reg.GLV_LOAD_STATUS 4 4 = regs.toNat := by
  rw [listBegun, loadPhase, fld_setFld_other _ _ (by decide) (by decide)]
  refine (fld_setFld_other (regionsNamed regs s) 1 (by decide) (by decide)).trans ?_
  rw [regionsNamed, fld_setFld_same _ _ (by decide), Nat.mod_eq_of_lt regs.isLt]

theorem listBegun_chg : Chg 2097154 s (listBegun l regs h s) := by
  have hjudged : Chg 2097154 s (loadPhase 1 (regionsNamed regs s)) := .after (loadPhase_chg ..) (.after (State_setFld_chg ..) (.refl _ _))
  have hlist (u : State) : Chg 2097154 u { u with glv := { s.glv with
      load := some { l with phase := .list, header := h, regions := regs } } } := .upd (.refl _ _)
  exact .after (loadPhase_chg ..) (.after (hlist _) hjudged)

/-- The ways in which the HEADER phase fails: the source cannot be read, the state of the run forbids a full load, or a check. -/
def HeaderFailure (s : State) (l : GlvLoad) (regs : BitVec 4) (h : List Byte) (failAt : Nat) (readFail : Bool) (f : GlvFail) : Prop :=
  (readFail = true ∧ f.status = 15 ∧ f.kind = 7 ∧ f.index = failAt) ∨
  (readFail = false ∧ fullBusy s l.source h = true ∧ f.status = 9 ∧ f.kind = 1 ∧ f.index = 6) ∨
  (readFail = false ∧ fullBusy s l.source h = false ∧ lowestFail (headerChecks s h l regs) = some f)

theorem headerChecks_fit : FailsFit (headerChecks s h l regs) :=
  failsFit_append.mpr ⟨headerFails_fit s h l.length, failsFit_failIf (by decide)⟩

/-- A header phase that fails ends the load; before its end only GLV_LOAD_STATUS has changed. -/
theorem headerWith_fails {readFail : Bool} {f : GlvFail} (hf : HeaderFailure s l regs h failAt readFail f) :
    f.status ≠ 0 ∧ f.status < 256 ∧ f.kind < 16 ∧ ∃ u, headerWith l regs h failAt readFail s = loadEnd f.status f.kind f.index u ∧
      RegsBut [Reg.GLV_LOAD_STATUS] s u ∧ Chg 2 s u := by
  have hnamed (m : BitVec 4) : RegsBut [Reg.GLV_LOAD_STATUS] s (regionsNamed m s) ∧ Chg 2 s (regionsNamed m s) :=
    ⟨regsBut_setFld s Reg.GLV_LOAD_STATUS 4 4 m.toNat, State_setFld_chg ..⟩
  have hphase (m : BitVec 4) : RegsBut [Reg.GLV_LOAD_STATUS] s (loadPhase 1 (regionsNamed m s)) ∧
      Chg 2 s (loadPhase 1 (regionsNamed m s)) :=
    ⟨regsBut_trans (hnamed m).1 (loadPhase_regsBut 1 _), .after (loadPhase_chg ..) (hnamed m).2⟩
  obtain ⟨rfl, hstatus, hkind, hindex⟩ | ⟨rfl, hbusy, hstatus, hkind, hindex⟩ | ⟨rfl, hfree, hlow⟩ := hf
  · rw [hstatus, hkind, hindex]
    exact ⟨by decide, by decide, by decide, _, headerWith_unread failAt, hphase l.regions⟩
  · rw [hstatus, hkind, hindex]
    exact ⟨by decide, by decide, by decide, _, headerWith_busy failAt hbusy, hnamed regs⟩
  · obtain ⟨h0, h256, h16⟩ := headerChecks_fit f (lowestFail_mem hlow)
    refine ⟨h0, h256, h16, _, ?_, hphase regs⟩
    rw [headerWith_judged failAt hfree, headerJudged, hlow]

end

/-! ### LIST -/

/-- The checks of the LIST phase. -/
def listChecks (l : GlvLoad) (ws : List Word32) : List GlvFail :=
  listFails l.regions ws ++ failIf (ws.length ≠ leAt l.header 12 4) 12 2 ws.length

/-- The load goes on to DATA, and the sweep of its regions starts afresh. -/
def dataBegun (l : GlvLoad) (ws : List Word32) (s : State) : State :=
  loadPhase 3 { s with glv := { s.glv with
    load := some { l with phase := .data, list := ws }
    swept := s.glv.swept.filter (fun r => !(maskRegions l.regions).contains r) } }

/-- A region of a load in DATA: isolated with its lines and pins held, or LOADING; it has the park record of the bitstream. -/
def awaiting (l : GlvLoad) (s : State) (r : Nat) : GlvRegion :=
  { (if leAt l.header 6 2 % 2 == 1 then captureHeld s r else s.region r) with
    st := if leAt l.header 6 2 % 2 == 1 then .isolated else .loading, stage := .steady, q := [], clk := []
    park := (l.header.drop (0x40 + 80 * r)).take 80 }

section
variable {s : State} {l : GlvLoad} {ws : List Word32}

theorem loadList_other {readFail : Bool} (hno : ∀ l, s.glv.load = some l → l.phase ≠ .list) : loadList ws readFail s = s := by
  unfold loadList
  split
  · rfl
  · next l hl => exact if_pos (hno l hl)

theorem loadList_unread (hload : s.glv.load = some l) (hphase : l.phase = .list) :
    loadList ws true s = loadEnd 15 7 ws.length s := by
  rw [loadList, hload]
  exact (if_neg (not_not_intro hphase)).trans (if_pos rfl)

theorem loadList_read (hload : s.glv.load = some l) (hphase : l.phase = .list) : loadList ws false s =
    match lowestFail (listChecks l ws) with
    | some f => loadEnd f.status f.kind f.index s
    | none => changeRegions (maskRegions l.regions) (awaiting l) (dataBegun l ws s) := by
  rw [loadList, hload]
  exact (if_neg (not_not_intro hphase)).trans (if_neg Bool.false_ne_true)

theorem loadList_passes (hload : s.glv.load = some l) (hphase : l.phase = .list) (hpass : lowestFail (listChecks l ws) = none) :
    loadList ws false s = changeRegions (maskRegions l.regions) (awaiting l) (dataBegun l ws s) := by
  rw [loadList_read hload hphase, hpass]

theorem listChecks_fit : FailsFit (listChecks l ws) :=
  failsFit_append.mpr ⟨listFails_fit l.regions ws, failsFit_failIf (by decide)⟩

/-- A list phase that fails ends the load. -/
theorem loadList_fails (hload : s.glv.load = some l) (hphase : l.phase = .list) {readFail : Bool} {f : GlvFail}
    (hf : (readFail = true ∧ f.status = 15 ∧ f.kind = 7) ∨ (readFail = false ∧ lowestFail (listChecks l ws) = some f)) :
    f.status < 256 ∧ f.kind < 16 ∧ ∃ index, loadList ws readFail s = loadEnd f.status f.kind index s := by
  obtain ⟨rfl, hstatus, hkind⟩ | ⟨rfl, hlow⟩ := hf
  · rw [hstatus, hkind, loadList_unread hload hphase]
    exact ⟨by decide, by decide, _, rfl⟩
  · obtain ⟨-, h256, h16⟩ := listChecks_fit f (lowestFail_mem hlow)
    rw [loadList_read hload hphase, hlow]
    exact ⟨h256, h16, _, rfl⟩

theorem dataBegun_regsBut : RegsBut [Reg.GLV_LOAD_STATUS] s (dataBegun l ws s) :=
  regsBut_trans (regsBut_of_regs (t := { s with glv := { s.glv with
    load := some { l with phase := .data, list := ws }
    swept := s.glv.swept.filter (fun r => !(maskRegions l.regions).contains r) } }) _ rfl) (loadPhase_regsBut 3 _)

theorem dataBegun_samePins : SamePins s (dataBegun l ws s) :=
  ⟨fun _ => rfl, rfl, rfl, rfl, rfl, dataBegun_regsBut _ (by decide), rfl, rfl, rfl⟩

theorem awaiting_partial (h : leAt l.header 6 2 % 2 = 1) (r : Nat) : awaiting l (dataBegun l ws s) r =
    { captureHeld s r with st := .isolated, stage := .steady, q := [], clk := [], park := (l.header.drop (0x40 + 80 * r)).take 80 } := by
  rw [awaiting, if_pos (by simp [h]), if_pos (by simp [h]), dataBegun_samePins.captureHeld]

theorem awaiting_full (h : leAt l.header 6 2 % 2 ≠ 1) (r : Nat) : awaiting l (dataBegun l ws s) r =
    { s.region r with st := .loading, stage := .steady, q := [], clk := [], park := (l.header.drop (0x40 + 80 * r)).take 80 } := by
  rw [awaiting, if_neg (by simpa using h), if_neg (by simpa using h), dataBegun_samePins.region]

/-- What the regions of a load are once its list has passed. -/
theorem awaiting_region (r : Nat) :
    (awaiting l (dataBegun l ws s) r).st = (if leAt l.header 6 2 % 2 = 1 then .isolated else .loading) ∧
    (awaiting l (dataBegun l ws s) r).park = (l.header.drop (0x40 + 80 * r)).take 80 ∧
    (awaiting l (dataBegun l ws s) r).frames = (s.region r).frames ∧
    (leAt l.header 6 2 % 2 = 1 → (awaiting l (dataBegun l ws s) r).heldLines = (captureHeld s r).heldLines ∧
      (awaiting l (dataBegun l ws s) r).heldPins = (captureHeld s r).heldPins) := by
  by_cases h : leAt l.header 6 2 % 2 = 1
  · rw [awaiting_partial h, if_pos h]
    refine ⟨rfl, rfl, rfl, fun _ => ?_⟩
    generalize captureHeld s r = g
    exact ⟨rfl, rfl⟩
  · rw [awaiting_full h, if_neg h]
    exact ⟨rfl, rfl, rfl, fun hp => absurd hp h⟩

/-- A list that passes: its regions wait for their frames, and every other one stays as it was. -/
theorem listPassed : (changeRegions (maskRegions l.regions) (awaiting l) (dataBegun l ws s)).glv.load =
      some { l with phase := .data, list := ws } ∧
    (changeRegions (maskRegions l.regions) (awaiting l) (dataBegun l ws s)).glv.swept =
      s.glv.swept.filter (fun r => !(maskRegions l.regions).contains r) ∧
    RegsBut [Reg.GLV_LOAD_STATUS] s (changeRegions (maskRegions l.regions) (awaiting l) (dataBegun l ws s)) ∧
    (changeRegions (maskRegions l.regions) (awaiting l) (dataBegun l ws s)).fld Reg.GLV_LOAD_STATUS 16 3 = 3 := by
  have hregs : (changeRegions (maskRegions l.regions) (awaiting l) (dataBegun l ws s)).regs = (dataBegun l ws s).regs :=
    (changeRegions_chg ..).same .regs (by decide)
  refine ⟨by rw [changeRegions_glv]; rfl, by rw [changeRegions_glv]; rfl,
    regsBut_trans dataBegun_regsBut (regsBut_of_regs _ hregs), ?_⟩
  rw [fld_of_reg (reg_of_regs hregs _)]
  exact loadPhase_fld (by decide) _

theorem listPassed_chg : Chg 2097162 s (changeRegions (maskRegions l.regions) (awaiting l) (dataBegun l ws s)) := by
  have hlist : Chg 2097162 s { s with glv := { s.glv with
      load := some { l with phase := .data, list := ws }
      swept := s.glv.swept.filter (fun r => !(maskRegions l.regions).contains r) } } := .upd (.refl _ _)
  exact .after (changeRegions_chg ..) (.after (loadPhase_chg ..) hlist)

end

/-! ### DATA -/

theorem writeFrames_stand (l : GlvLoad) (fs : List (BitVec 1024)) (s : State) :
    (writeFrames l fs s).glv.mapMismatch = s.glv.mapMismatch ∧ ∀ r, ((writeFrames l fs s).region r).st = (s.region r).st := by
  have hframes (m : SMap (BitVec 1024)) (i : Nat) (u : State) (r : Nat) :
      ((u.setRegion i { u.region i with frames := m }).region r).st = (u.region r).st := by
    rw [region_setRegion]
    split
    · next h => rw [h]
    · rfl
  have hfold {α : Type} (f : State → α → Nat × SMap (BitVec 1024)) (as : List α) (u : State) :
      let t := forEach as (fun a u => u.setRegion (f u a).1 { u.region (f u a).1 with frames := (f u a).2 }) u
      t.glv.mapMismatch = u.glv.mapMismatch ∧ ∀ r, (t.region r).st = (u.region r).st := by
    induction as generalizing u with
    | nil => exact ⟨rfl, fun _ => rfl⟩
    | cons a as ih =>
      obtain ⟨hmis, hst⟩ := ih (u.setRegion (f u a).1 { u.region (f u a).1 with frames := (f u a).2 })
      exact ⟨hmis, fun r => (hst r).trans (hframes _ _ u r)⟩
  obtain ⟨hmis, hst⟩ := hfold (fun _ r => (r, [])) (maskRegions l.regions) s
  obtain ⟨hmis', hst'⟩ := hfold (fun u (p : Word32 × BitVec 1024) => (p.1.toNat / 2 ^ 30,
    mset (u.region (p.1.toNat / 2 ^ 30)).frames 0 (p.1.toNat % 2048) p.2)) (l.list.zip fs)
    (forEach (maskRegions l.regions) (fun r s => s.setRegion r { s.region r with frames := [] }) s)
  exact ⟨hmis'.trans hmis, fun r => (hst' r).trans (hst r)⟩

end Sys2Proof.Proofs
end

section
/-!
Proofs of the family 10_glove: the data of a load, and the phases of a load (O47).
-/
namespace Sys2Proof.Proofs
set_option Elab.async false
open Sys2Proof.Machine Sys2Proof.Laws

/-! ### DATA (R300, R301) -/

/-- The failures that the DATA phase judges: a source that cannot be read, or its checks. -/
def dataJudged (l : GlvLoad) (fs : List (BitVec 1024)) (crc : Word32) (readFail : Bool) (s : State) : List GlvFail :=
  if readFail ∨ fs.length ≠ l.list.length then [{ status := 15, kind := 7, index := fs.length }] else dataFails s l fs crc

/-- The regions of a load whose data fails: FAULT for a partial load that was not resident, EMPTY otherwise. -/
def dataUndone (l : GlvLoad) (s : State) : State :=
  if leAt l.header 6 2 % 2 = 1 ∧ l.source ≠ .resident then holdRegions (maskRegions l.regions) .fault s
  else emptyRegions (maskRegions l.regions) .empty s

/-- The state in which the region `r` takes its reference and its tag from the header. -/
def goldTaken (l : GlvLoad) (r : Nat) (s : State) : State :=
  (s.setReg (Reg.GLV_GOLD + 4 * r) (BitVec.ofNat 32 (leAt l.header (0x18 + 4 * r) 4))).setRegion r
    { s.region r with mapTag := BitVec.ofNat 32 (leAt l.header (0x28 + 4 * r) 4) }

/-- The references and tags of all regions of a load are taken. -/
def goldsTaken (l : GlvLoad) (s : State) : State := forEach (maskRegions l.regions) (goldTaken l) s

section
variable {s : State} {l : GlvLoad} {fs : List (BitVec 1024)} {crc : Word32} {readFail : Bool}

theorem loadData_other (hno : ∀ l, s.glv.load = some l → l.phase ≠ .data) : loadData fs crc readFail s = s := by
  unfold loadData
  split
  · rfl
  · next l hl => exact if_pos (hno l hl)

theorem loadData_judged (hload : s.glv.load = some l) (hphase : l.phase = .data) : loadData fs crc readFail s =
    match lowestFail (dataJudged l fs crc readFail (writeFrames l fs s)) with
    | some f => loadEnd f.status f.kind f.index (dataUndone l (writeFrames l fs s))
    | none => loadEnd 0 0 0 (startRegions (maskRegions l.regions) (goldsTaken l (loadPhase 4 (writeFrames l fs s)))) := by
  rw [loadData, hload]
  exact if_neg (not_not_intro hphase)

theorem loadData_fails (hload : s.glv.load = some l) (hphase : l.phase = .data) {f : GlvFail}
    (hf : (f.status = 15 ∧ (readFail = true ∨ fs.length ≠ l.list.length)) ∨
      (readFail = false ∧ fs.length = l.list.length ∧ lowestFail (dataFails (writeFrames l fs s) l fs crc) = some f)) :
    f.status < 256 ∧ ∃ kind index, loadData fs crc readFail s = loadEnd f.status kind index (dataUndone l (writeFrames l fs s)) := by
  rw [loadData_judged hload hphase, dataJudged]
  obtain ⟨hstatus, hread⟩ | ⟨hread, hlength, hlow⟩ := hf
  · rw [if_pos hread, hstatus]
    exact ⟨by decide, _, _, rfl⟩
  · rw [if_neg (by simp [hread, hlength]), hlow]
    exact ⟨(dataFails_fit _ l fs crc f (lowestFail_mem hlow)).2.1, _, _, rfl⟩

theorem loadData_passes (hload : s.glv.load = some l) (hphase : l.phase = .data)
    (hpass : lowestFail (dataFails (writeFrames l fs s) l fs crc) = none) (hlength : fs.length = l.list.length) :
    loadData fs crc false s =
      loadEnd 0 0 0 (startRegions (maskRegions l.regions) (goldsTaken l (loadPhase 4 (writeFrames l fs s)))) := by
  rw [loadData_judged hload hphase, dataJudged, if_neg (by simp [hlength]), hpass]

end

theorem dataUndone_entered (l : GlvLoad) (s : State) : Entered (maskRegions l.regions)
    (if leAt l.header 6 2 % 2 = 1 ∧ l.source ≠ .resident then .fault else .empty) s (dataUndone l s) := by
  unfold dataUndone
  split
  · exact holdRegions_entered _ _ s
  · exact emptyRegions_entered _ _ s

theorem setReg_stand (s : State) (o : Nat) (v : Word32) : RegionsStand s (s.setReg o v) := ⟨rfl, fun _ => ⟨rfl, rfl⟩⟩

theorem setRegion_stand {s : State} {r : Nat} {g : GlvRegion} (hst : g.st = (s.region r).st) (hframes : g.frames = (s.region r).frames) :
    RegionsStand s (s.setRegion r g) := by
  refine ⟨rfl, fun i => ?_⟩
  rw [region_setRegion]
  split
  · next h => rw [h]; exact ⟨hst, hframes⟩
  · exact ⟨rfl, rfl⟩

theorem forEach_cons {α σ : Type} (a : α) (l : List α) (f : α → σ → σ) (s : σ) : forEach (a :: l) f s = forEach l f (f a s) := rfl

theorem goldTaken_stand (l : GlvLoad) (r : Nat) (s : State) : RegionsStand s (goldTaken l r s) := by
  have htag (o : Nat) (v tag : Word32) :
      RegionsStand (s.setReg o v) ((s.setReg o v).setRegion r { s.region r with mapTag := tag }) := setRegion_stand rfl rfl
  rw [goldTaken]
  exact (setReg_stand s _ _).trans (htag _ _ _)

theorem goldTaken_reg (l : GlvLoad) (r : Nat) (s : State) (o : Nat) : (goldTaken l r s).reg o =
    if o = Reg.GLV_GOLD + 4 * r then BitVec.ofNat 32 (leAt l.header (0x18 + 4 * r) 4) else s.reg o := by
  rw [goldTaken, setRegion_reg, reg_setReg]

theorem goldsTaken_stand (l : GlvLoad) (s : State) : RegionsStand s (goldsTaken l s) := by
  unfold goldsTaken
  generalize maskRegions l.regions = rs
  induction rs generalizing s with
  | nil => exact ⟨rfl, fun _ => ⟨rfl, rfl⟩⟩
  | cons r rs ih =>
    rw [forEach_cons]
    exact (goldTaken_stand l r s).trans (ih _)

/-- The reference of a region is that of the header once the region has been visited, and stays when a further one is. -/
theorem goldsTaken_reg_of (l : GlvLoad) (rs : List Nat) {r : Nat} {s : State}
    (h : r ∈ rs ∨ s.reg (Reg.GLV_GOLD + 4 * r) = BitVec.ofNat 32 (leAt l.header (0x18 + 4 * r) 4)) :
    (forEach rs (goldTaken l) s).reg (Reg.GLV_GOLD + 4 * r) = BitVec.ofNat 32 (leAt l.header (0x18 + 4 * r) 4) := by
  induction rs generalizing s with
  | nil => exact h.resolve_left List.not_mem_nil
  | cons a rs ih =>
    rw [forEach_cons]
    refine ih ?_
    rw [goldTaken_reg]
    by_cases ha : r = a
    · exact .inr (by rw [ha, if_pos rfl])
    · rw [if_neg (by omega)]
      exact h.imp_left fun hr => (List.mem_cons.mp hr).resolve_left ha

theorem goldsTaken_reg (l : GlvLoad) (s : State) {r : Nat} (h : r ∈ maskRegions l.regions) :
    (goldsTaken l s).reg (Reg.GLV_GOLD + 4 * r) = BitVec.ofNat 32 (leAt l.header (0x18 + 4 * r) 4) :=
  goldsTaken_reg_of l _ (.inl h)

/-- The regions of a load that passes start, with the frames that it has written. -/
theorem dataStarts_entered (l : GlvLoad) (s : State) :
    Entered (maskRegions l.regions) .running s (startRegions (maskRegions l.regions) (goldsTaken l (loadPhase 4 s))) :=
  (startRegions_entered _ _).after (RegionsStand.trans (r := loadPhase 4 s) ⟨rfl, fun _ => ⟨rfl, rfl⟩⟩ (goldsTaken_stand l _))

/-- What a load leaves of the regions when it ends in the DATA phase: those of the load stand in `st` with the frames that have been
written, every other one in the state it had. -/
theorem dataEnd_regions {l : GlvLoad} {fs : List (BitVec 1024)} {st : RegionState} {status kind index : Nat} {s u : State}
    (h : Entered (maskRegions l.regions) st (writeFrames l fs s) u) :
    (∀ r, r ∈ maskRegions l.regions → ((loadEnd status kind index u).region r).st = st ∧
      ((loadEnd status kind index u).region r).frames = ((writeFrames l fs s).region r).frames) ∧
    (∀ r, r ∉ maskRegions l.regions → ((loadEnd status kind index u).region r).st = (s.region r).st) ∧
    TagsCompared s (loadEnd status kind index u) := by
  have hend := loadEnd_ends status kind index u
  obtain ⟨hmis, hst⟩ := writeFrames_stand l fs s
  simp only [hend.region]
  exact ⟨fun r hr => ⟨h.inside r hr, h.frames r⟩, fun r hr => (h.outside r hr).trans (hst r), hend.tagsFrom (h.mismatch.trans hmis)⟩

theorem gold_notMem {r : Nat} (h : r < 4) : Reg.GLV_GOLD + 4 * r ∉ glvEndRegs := by
  have hall : ∀ q < 4, Reg.GLV_GOLD + 4 * q ∉ glvEndRegs := by decide
  exact hall r h

/-! ### The phases (O47) -/

/-- A load in the phase HEADER. -/
theorem gloveLoads_header (h : List Byte) (failAt : BitVec 14) (l : GlvLoad) (regs : BitVec 4) (s : State) (hup : s.up = true)
    (hload : s.glv.load = some l) (hphase : l.phase = .header) (hregs : regs = BitVec.ofNat 4 (leAt h 10 1)) :
    (fullBusy s l.source h = false → lowestFail (headerChecks s h l regs) = none →
      ∃ t, exec (.gloveLoadHeaderDone h failAt false) s = .next t ∧
        t.glv = { s.glv with load := some { l with phase := .list, header := h, regions := regs } } ∧
        t.fld Reg.GLV_LOAD_STATUS 4 4 = regs.toNat ∧ t.fld Reg.GLV_LOAD_STATUS 16 3 = 2 ∧
        RegsBut [Reg.GLV_LOAD_STATUS] s t ∧ Changes [.regs, .glv] s t) ∧
    (∀ (readFail : Bool) (f : GlvFail), HeaderFailure s l regs h failAt.toNat readFail f →
      ∃ t, exec (.gloveLoadHeaderDone h failAt readFail) s = .next t ∧
        t.glv = { s.glv with load := none, mapMismatch := t.glv.mapMismatch } ∧ TagsCompared s t ∧
        t.fld Reg.GLV_LOAD_STATUS 0 2 = 2 ∧ t.fld Reg.GLV_LOAD_STATUS 8 8 = f.status ∧
        t.fld Reg.GLV_LOAD_DETAIL 28 4 = f.kind ∧ t.fld Reg.GLV_LOAD_DETAIL 0 14 = f.index % 2 ^ 14 ∧
        t.bit Reg.GLV_CAUSE 0 = true ∧ t.pendBit 0x360 = true ∧ RegsBut glvEndRegs s t ∧
        Changes [.regs, .out, .host, .glv] s t) := by
  have hexec (readFail : Bool) : exec (.gloveLoadHeaderDone h failAt readFail) s =
      .next (headerWith l regs h failAt.toNat readFail s) := by
    rw [← loadHeader_open failAt.toNat hload hphase hregs]
    exact run_up (f := loadHeader h failAt.toNat readFail) hup
  refine ⟨fun hbusy hpass => ⟨_, hexec false, ?_⟩, fun readFail f hf => ⟨_, hexec readFail, ?_⟩⟩
  · rw [headerWith_passes failAt.toNat hbusy hpass]
    exact ⟨rfl, listBegun_regions, loadPhase_fld (by decide) _, listBegun_regsBut, listBegun_chg.changes (by decide)⟩
  · have hchg := (headerWith_chg l regs h failAt.toNat readFail s).changes (l := [.regs, .out, .host, .glv]) (by decide)
    obtain ⟨hstatus, hbyte, hkind, u, heq, hregsu, hchgu⟩ := headerWith_fails failAt.toNat hf
    have hend := loadEnd_ends f.status f.kind f.index u
    have hglv : u.glv = s.glv := hchgu.same .glv (by decide)
    rw [heq] at hchg ⊢
    obtain ⟨hdetail, hindex⟩ := hend.detail hkind
    exact ⟨by rw [hend.glv, hglv], hend.tagsFrom (by rw [hglv]), hend.done, hend.code.trans (Nat.mod_eq_of_lt hbyte), hdetail,
      hindex, hend.cause hstatus, hend.event, regsBut_trans (regsBut_mono hregsu (by decide)) hend.regs, hchg⟩

/-- A load in the phase LIST. -/
theorem gloveLoads_list (ws : List Word32) (l : GlvLoad) (s : State) (hup : s.up = true) (hload : s.glv.load = some l)
    (hphase : l.phase = .list) :
    (lowestFail (listChecks l ws) = none →
      ∃ t, exec (.gloveLoadListDone ws false) s = .next t ∧ t.glv.load = some { l with phase := .data, list := ws } ∧
        (∀ r, r ∈ maskRegions l.regions →
          (t.region r).st = (if leAt l.header 6 2 % 2 = 1 then .isolated else .loading) ∧
          (t.region r).park = (l.header.drop (0x40 + 80 * r)).take 80 ∧ (t.region r).frames = (s.region r).frames ∧
          (leAt l.header 6 2 % 2 = 1 → (t.region r).heldLines = (captureHeld s r).heldLines ∧
            (t.region r).heldPins = (captureHeld s r).heldPins)) ∧
        (∀ r, r ∉ maskRegions l.regions → (t.region r).st = (s.region r).st ∧
          (t.region r).frames = (s.region r).frames) ∧ t.fld Reg.GLV_LOAD_STATUS 16 3 = 3 ∧
        t.glv.swept = s.glv.swept.filter (fun r => !(maskRegions l.regions).contains r) ∧
        RegsBut [Reg.GLV_LOAD_STATUS] s t ∧ Changes [.regs, .freeCtr, .glv] s t) ∧
    (∀ (readFail : Bool) (f : GlvFail), (readFail = true ∧ f.status = 15 ∧ f.kind = 7) ∨
      (readFail = false ∧ lowestFail (listChecks l ws) = some f) →
      ∃ t, exec (.gloveLoadListDone ws readFail) s = .next t ∧
        t.glv = { s.glv with load := none, mapMismatch := t.glv.mapMismatch } ∧ TagsCompared s t ∧
        t.fld Reg.GLV_LOAD_STATUS 8 8 = f.status ∧ t.fld Reg.GLV_LOAD_DETAIL 28 4 = f.kind ∧ t.pendBit 0x360 = true ∧
        Changes [.regs, .out, .host, .glv] s t) := by
  have hexec (readFail : Bool) : exec (.gloveLoadListDone ws readFail) s = .next (loadList ws readFail s) :=
    run_up (f := loadList ws readFail) hup
  refine ⟨fun hpass => ⟨_, hexec false, ?_⟩, fun readFail f hf => ⟨_, hexec readFail, ?_⟩⟩
  · rw [loadList_passes hload hphase hpass]
    obtain ⟨hnext, hswept, hregs, hphased⟩ := listPassed (s := s) (l := l) (ws := ws)
    refine ⟨hnext, fun r hr => ?_, fun r hr => ?_, hphased, hswept, hregs, listPassed_chg.changes (by decide)⟩
    · obtain ⟨q, clk, hregion⟩ := changeRegions_in _ (awaiting l) (dataBegun l ws s) hr
      obtain ⟨hst, hpark, hframes, hheld⟩ := awaiting_region (s := s) (l := l) (ws := ws) r
      rw [hregion]
      exact ⟨hst, hpark, hframes, hheld⟩
    · obtain ⟨q, clk, hregion⟩ := changeRegions_out _ (awaiting l) (dataBegun l ws s) hr
      rw [hregion, dataBegun_samePins.region]
      exact ⟨rfl, rfl⟩
  · obtain ⟨hbyte, hkind, index, heq⟩ := loadList_fails hload hphase hf
    have hend := loadEnd_ends f.status f.kind index s
    rw [heq]
    exact ⟨hend.glv, hend.tags, hend.code.trans (Nat.mod_eq_of_lt hbyte), (hend.detail hkind).1, hend.event,
      (loadEnd_chg f.status f.kind index s).changes (by decide)⟩

/-- A load in the phase DATA. -/
theorem gloveLoads_data (fs : List (BitVec 1024)) (crc : Word32) (l : GlvLoad) (s : State) (hup : s.up = true)
    (hload : s.glv.load = some l) (hphase : l.phase = .data) :
    (lowestFail (dataFails (writeFrames l fs s) l fs crc) = none → fs.length = l.list.length →
      ∃ t, exec (.gloveLoadDataDone fs crc false) s = .next t ∧ t.glv.load = none ∧
        (∀ r, r ∈ maskRegions l.regions → (t.region r).st = .running ∧
          (t.region r).frames = ((writeFrames l fs s).region r).frames ∧
          t.reg (Reg.GLV_GOLD + 4 * r) = BitVec.ofNat 32 (leAt l.header (0x18 + 4 * r) 4)) ∧
        (∀ r, r < 4 → r ∉ maskRegions l.regions → (t.region r).st = (s.region r).st) ∧ TagsCompared s t ∧
        t.fld Reg.GLV_LOAD_STATUS 8 8 = 0 ∧ t.pendBit 0x360 = true ∧ Changes [.regs, .freeCtr, .out, .host, .glv] s t) ∧
    (∀ (readFail : Bool) (f : GlvFail), (f.status = 15 ∧ (readFail = true ∨ fs.length ≠ l.list.length)) ∨
      (readFail = false ∧ fs.length = l.list.length ∧ lowestFail (dataFails (writeFrames l fs s) l fs crc) = some f) →
      ∃ t, exec (.gloveLoadDataDone fs crc readFail) s = .next t ∧ t.glv.load = none ∧
        (∀ r, r ∈ maskRegions l.regions →
          (t.region r).st = (if leAt l.header 6 2 % 2 = 1 ∧ l.source ≠ .resident then .fault else .empty) ∧
          (t.region r).frames = ((writeFrames l fs s).region r).frames) ∧
        (∀ r, r < 4 → r ∉ maskRegions l.regions → (t.region r).st = (s.region r).st) ∧ TagsCompared s t ∧
        t.fld Reg.GLV_LOAD_STATUS 8 8 = f.status ∧ t.pendBit 0x360 = true ∧ Changes [.regs, .freeCtr, .out, .host, .glv] s t) := by
  have hexec (readFail : Bool) : exec (.gloveLoadDataDone fs crc readFail) s = .next (loadData fs crc readFail s) :=
    run_up (f := loadData fs crc readFail) hup
  have hchg (readFail : Bool) : Changes [.regs, .freeCtr, .out, .host, .glv] s (loadData fs crc readFail s) :=
    (loadData_chg fs crc readFail s).changes (by decide)
  refine ⟨fun hpass hlength => ⟨_, hexec false, ?_⟩, fun readFail f hf => ⟨_, hexec readFail, ?_⟩⟩
  · have hframe := hchg false
    rw [loadData_passes hload hphase hpass hlength] at hframe ⊢
    let v := goldsTaken l (loadPhase 4 (writeFrames l fs s))
    have hend := loadEnd_ends 0 0 0 (startRegions (maskRegions l.regions) v)
    have hstart : (startRegions (maskRegions l.regions) v).regs = v.regs := (startRegions_chg ..).same .regs (by decide)
    obtain ⟨hin, hout, htags⟩ := dataEnd_regions (status := 0) (kind := 0) (index := 0) (dataStarts_entered l (writeFrames l fs s))
    refine ⟨by rw [hend.glv], fun r hr => ⟨(hin r hr).1, (hin r hr).2, ?_⟩, fun r _ => hout r, htags, hend.code, hend.event, hframe⟩
    have hr4 := (mem_maskRegions.mp hr).1
    rw [hend.regs _ (gold_notMem hr4), reg_of_regs hstart]
    exact goldsTaken_reg l _ hr
  · have hframe := hchg readFail
    obtain ⟨hbyte, kind, index, heq⟩ := loadData_fails hload hphase hf
    rw [heq] at hframe ⊢
    have hend := loadEnd_ends f.status kind index (dataUndone l (writeFrames l fs s))
    obtain ⟨hin, hout, htags⟩ := dataEnd_regions (status := f.status) (kind := kind) (index := index)
      (dataUndone_entered l (writeFrames l fs s))
    exact ⟨by rw [hend.glv], hin, fun r _ => hout r, htags, hend.code.trans (Nat.mod_eq_of_lt hbyte), hend.event, hframe⟩

/-- Settles O47: every phase judges its checks, and every failure ends in the same way (`GlvEnded`), so that a phase differs in the
regions and registers that it leaves. INDEX of a header that cannot be read is the reading of log 144. -/
theorem gloveLoads : Obligations.GloveLoads := by
  unfold Obligations.GloveLoads
  refine ⟨gloveLoads_header, gloveLoads_list, gloveLoads_data, fun h failAt ws fs crc x s hup => ⟨fun hno => ?_, fun hno => ?_, fun hno => ?_⟩⟩
  · exact (run_up (f := loadHeader h failAt.toNat x) hup).trans (congrArg _ (loadHeader_other failAt.toNat hno))
  · exact (run_up (f := loadList ws x) hup).trans (congrArg _ (loadList_other hno))
  · exact (run_up (f := loadData fs crc x) hup).trans (congrArg _ (loadData_other hno))

end Sys2Proof.Proofs
end

section
/-!
Proofs of the family 10_glove: DO updates, trips, signatures, edges and pins (O48).
-/
namespace Sys2Proof.Proofs
set_option Elab.async false
open Sys2Proof.Machine Sys2Proof.Laws

/-! ### A cause that is counted and reported (R311) -/

/-- A cause of Glove is set, counted and reported. -/
def glvReported (b region seg k event : Nat) (s : State) : State := raise event (glvCnt k 1 (glvCause b region seg s))

section
variable {b k event : Nat} (region seg : Nat) {s : State}

theorem glvReported_chg : Chg 146 s (glvReported b region seg k event s) :=
  .after (raise_chg ..) (.after (glvCnt_chg ..) (.after (glvCause_chg ..) (.refl _ _)))

theorem glvReported_regsBut : RegsBut [Reg.GLV_CAUSE, Reg.GLV_ERR_LOC, Reg.GLV_CNT + 4 * k, Reg.GLV_CNT_SAT, pendReg event,
    pendReg 0x366] s (glvReported b region seg k event s) :=
  regsBut_trans (regsBut_mono (glvCause_regsBut b region seg s) (by simp))
    (regsBut_trans (regsBut_mono (glvCnt_regsBut k 1 _) (by simp)) (regsBut_mono (regsBut_raise event _) (by simp)))

/-- The registers of the cause itself are not those of its count and its event. -/
theorem glvReported_reg {o : Nat} (ho : o ∉ [Reg.GLV_CNT + 4 * k, Reg.GLV_CNT_SAT, pendReg event, pendReg 0x366]) :
    (glvReported b region seg k event s).reg o = (glvCause b region seg s).reg o :=
  regsBut_trans (regsBut_mono (glvCnt_regsBut k 1 _) (by simp)) (regsBut_mono (regsBut_raise event _) (by simp)) o ho

theorem glvReported_cause (hb : b < 32) (ho : Reg.GLV_CAUSE ∉ [Reg.GLV_CNT + 4 * k, Reg.GLV_CNT_SAT, pendReg event, pendReg 0x366]) :
    (glvReported b region seg k event s).bit Reg.GLV_CAUSE b = true := by
  rw [bit_of_reg (glvReported_reg region seg ho)]
  exact glvCause_bit region seg s hb

theorem glvReported_captures (h : s.reg Reg.GLV_CAUSE = 0)
    (ho : Reg.GLV_ERR_LOC ∉ [Reg.GLV_CNT + 4 * k, Reg.GLV_CNT_SAT, pendReg event, pendReg 0x366]) :
    (glvReported b region seg k event s).reg Reg.GLV_ERR_LOC =
      BitVec.ofNat 32 (2 ^ 28 * (b + 1) + 2 ^ 26 * region + 2 ^ 13 * seg) :=
  (glvReported_reg region seg ho).trans (glvCause_captures b region seg h)

theorem glvReported_event (h : ∀ u : State, eventAbsent u event = false) :
    (glvReported b region seg k event s).pendBit event = true := raise_pendBit (h _)

theorem glvReported_region (r : Nat) : (glvReported b region seg k event s).region r = s.region r := by
  rw [State.region, (glvReported_chg (s := s) region seg).same .glv (by decide), State.region]

end

/-! ### DO updates (R286, R287) -/

section
variable {e : DoEntry} {l : List DoEntry} {s : State} (hqueue : s.glv.doQueue = e :: l)
include hqueue

theorem doUpdate_clocks : doUpdate s =
    (clocksUntil (e.due - s.clock + 2) (fun t => t.glv.doQueue.head? ≠ some e) s).getD s := by
  rw [doUpdate, hqueue]

/-- DO_UPDATE ends in the first clock in which the oldest update no longer waits. -/
theorem doUpdate_iterate {n : Nat} (hn : n ≤ e.due - s.clock + 2)
    (hwaits : ∀ i, i < n → (clockTick^[i] s).glv.doQueue.head? = some e)
    (hdone : (clockTick^[n] s).glv.doQueue.head? ≠ some e) : doUpdate s = clockTick^[n] s := by
  rw [doUpdate_clocks hqueue, clocksUntil_iterate hn (fun i hi => by simp [hwaits i hi]) (by simp [hdone]), Option.getD_some]

theorem doUpdate_never (hwaits : ∀ i, i ≤ e.due - s.clock + 2 → (clockTick^[i] s).glv.doQueue.head? = some e) : doUpdate s = s := by
  rw [doUpdate_clocks hqueue, clocksUntil_never (fun i hi => by simp [hwaits i hi]), Option.getD_none]

theorem doDue_now (hdue : e.due ≤ s.clock) : doDue s = doApply e.lines { s with glv := { s.glv with doQueue := l } } := by
  rw [doDue, hqueue]
  exact if_pos hdue

theorem doDue_later (hdue : s.clock < e.due) : doDue s = s := by
  rw [doDue, hqueue]
  exact if_neg (by omega)

end

theorem doUpdate_idle {s : State} (h : s.glv.doQueue = []) : doUpdate s = s := by
  rw [doUpdate, h]

/-! ### Trips (R306) -/

/-- The bits of a frame that hold the taps of a segment. -/
def segTaps (seg : Nat) : BitVec 1024 := BitVec.ofNat 1024 ((2 ^ 128 - 1) * 2 ^ (128 * (seg % 8)))

theorem segTaps_bit (seg : Nat) {b : Nat} (h : b < 128) : (segTaps seg).getLsbD (128 * (seg % 8) + b) = true := by
  rw [segTaps, BitVec.getLsbD_ofNat, Nat.testBit_mul_two_pow, Nat.testBit_two_pow_sub_one]
  simp only [Bool.and_eq_true, decide_eq_true_eq]
  omega

/-- The taps of a segment of a region are disabled. -/
def tapsOff (r seg : Nat) (s : State) : State :=
  s.setRegion r { s.region r with
    frames := mset (s.region r).frames 0 (1152 + seg / 8) (frameAt (s.region r) (1152 + seg / 8) &&& ~~~ segTaps seg) }

theorem tapsOff_frame (r seg : Nat) (s : State) {b : Nat} (h : b < 128) :
    (frameAt ((tapsOff r seg s).region r) (1152 + seg / 8)).getLsbD (128 * (seg % 8) + b) = false := by
  rw [tapsOff, region_setRegion_same, frameAt, mget_mset_same, BitVec.getLsbD_and, BitVec.getLsbD_not, segTaps_bit seg h]
  simp

theorem tapsOff_st (r seg : Nat) (s : State) : ((tapsOff r seg s).region r).st = (s.region r).st := by
  rw [tapsOff, region_setRegion_same]

section
variable {r seg : Nat} {s : State}

theorem contentionTrip_trips (hst : (s.region r).st = .running) (hseg : Config.segmented (s.region r).frames = true)
    (hlt : seg < 6144) : contentionTrip r seg s = glvReported 1 r seg 3 0x361 (tapsOff r seg (holdRegion r .fault s)) :=
  if_pos ⟨hst, hseg, hlt⟩

theorem contentionTrip_none (h : (s.region r).st ≠ .running ∨ Config.segmented (s.region r).frames = false ∨ 6144 ≤ seg) :
    contentionTrip r seg s = s := by
  refine if_neg fun ⟨hst, hseg, hlt⟩ => ?_
  obtain h | h | h := h
  · exact h hst
  · rw [hseg] at h
    exact Bool.noConfusion h
  · omega

theorem tripped_regs : (tapsOff r seg (holdRegion r .fault s)).regs = s.regs := by
  rw [tapsOff, setRegion_regs]
  exact (holdRegion_chg r .fault s).same .regs (by decide)

end

/-- A trip (O48): what the region, the cause and the taps are after it. -/
theorem contentionTrip_effect (r : BitVec 2) (seg : BitVec 13) (s : State) (hup : s.up = true) :
    ((s.region r.toNat).st = .running → Config.segmented (s.region r.toNat).frames = true → seg.toNat < 6144 →
      ∃ t, exec (.contentionTrip r seg) s = .next t ∧ (t.region r.toNat).st = .fault ∧ t.bit Reg.GLV_CAUSE 1 = true ∧
        t.pendBit 0x361 = true ∧
        (s.reg Reg.GLV_CAUSE = 0 →
          t.reg Reg.GLV_ERR_LOC = BitVec.ofNat 32 (2 ^ 29 + 2 ^ 26 * r.toNat + 2 ^ 13 * seg.toNat)) ∧
        (∀ b, b < 128 → (frameAt (t.region r.toNat) (1152 + seg.toNat / 8)).getLsbD (128 * (seg.toNat % 8) + b) = false) ∧
        Changes [.regs, .freeCtr, .out, .host, .glv] s t) ∧
    ((s.region r.toNat).st ≠ .running ∨ Config.segmented (s.region r.toNat).frames = false ∨ 6144 ≤ seg.toNat →
      exec (.contentionTrip r seg) s = .next s) := by
  have hexec : exec (.contentionTrip r seg) s = .next (contentionTrip r.toNat seg.toNat s) :=
    run_up (f := contentionTrip r.toNat seg.toNat) hup
  refine ⟨fun hst hseg hlt => ⟨_, hexec, ?_⟩, fun hno => hexec.trans (congrArg _ (contentionTrip_none hno))⟩
  have hchg := (contentionTrip_chg r.toNat seg.toNat s).changes (l := [.regs, .freeCtr, .out, .host, .glv]) (by decide)
  rw [contentionTrip_trips hst hseg hlt] at hchg ⊢
  refine ⟨?_, glvReported_cause _ _ (by decide) (by decide), glvReported_event _ _ fun _ => by simp [eventAbsent], fun hcause => ?_,
    fun b hb => ?_, hchg⟩
  · rw [glvReported_region, tapsOff_st]
    exact (holdRegion_entered _ _ s).inside _ List.mem_cons_self
  · exact glvReported_captures _ _ ((reg_of_regs tripped_regs _).trans hcause) (by decide)
  · rw [glvReported_region]
    exact tapsOff_frame _ _ _ hb

/-! ### Signatures (R307, R308) -/

/-- A bit of a frame of region `r` is upset. -/
def upsetOne (r : Nat) (u : BitVec 11 × BitVec 10) (s : State) : State :=
  s.setRegion r { s.region r with
    frames := mset (s.region r).frames 0 u.1.toNat (frameAt (s.region r) u.1.toNat ^^^ BitVec.ofNat 1024 (2 ^ u.2.toNat)) }

theorem upsets_keep (r : Nat) (ups : List (BitVec 11 × BitVec 10)) (s : State) :
    ((forEach ups (upsetOne r) s).region r).st = (s.region r).st ∧ (forEach ups (upsetOne r) s).regs = s.regs := by
  induction ups generalizing s with
  | nil => exact ⟨rfl, rfl⟩
  | cons u ups ih =>
    rw [forEach_cons, (ih _).1, (ih _).2, upsetOne, region_setRegion_same]
    exact ⟨rfl, rfl⟩

theorem signatureOf_congr {g h : GlvRegion} (hframes : h.frames = g.frames) : signatureOf h = signatureOf g := by
  simp only [signatureOf, frameAt, hframes]

/-- The regions that the present sweep has been through are noted. -/
def sweptNoted (rs : List Nat) (s : State) : State := { s with glv := { s.glv with swept := rs } }

theorem sweepRegion_eq (r : Nat) (s : State) :
    ∃ (rs : List Nat) (all : Bool), sweepRegion r s = if all then glvCnt 6 1 (sweptNoted rs s) else sweptNoted rs s :=
  ⟨_, _, rfl⟩

theorem sweepRegion_regsBut (r : Nat) (s : State) :
    RegsBut [Reg.GLV_CNT + 24, Reg.GLV_CNT_SAT, pendReg 0x366] s (sweepRegion r s) := by
  obtain ⟨rs, all, h⟩ := sweepRegion_eq r s
  have hnoted : RegsBut [Reg.GLV_CNT + 24, Reg.GLV_CNT_SAT, pendReg 0x366] s (sweptNoted rs s) := regsBut_of_regs _ rfl
  rw [h]
  split
  · exact regsBut_trans hnoted (glvCnt_regsBut 6 1 _)
  · exact hnoted

theorem sweepRegion_region (r q : Nat) (s : State) : (sweepRegion r s).region q = s.region q := by
  obtain ⟨rs, all, h⟩ := sweepRegion_eq r s
  rw [h]
  split
  · rw [State.region, (glvCnt_chg ..).same .glv (by decide)]
    rfl
  · rfl

/-- Region `r` has been swept with the upsets of its frames, and its signature stands in GLV_SIG. -/
def signed (r : Nat) (ups : List (BitVec 11 × BitVec 10)) (sig : BitVec 32) (s : State) : State :=
  sweepRegion r ((settle (forEach ups (upsetOne r) s)).setReg (Reg.GLV_SIG + 4 * r) sig)

/-- What follows the signature of a region: nothing when it is the reference, else a report, and FAULT where GLV_CTRL says so. -/
def signatureJudged (r : Nat) (sig : BitVec 32) (s : State) : State :=
  if sig = s.reg (Reg.GLV_GOLD + 4 * r) then s
  else if (glvReported 2 r 0 2 0x362 s).bit Reg.GLV_CTRL (4 + r) then holdRegion r .fault (glvReported 2 r 0 2 0x362 s)
  else glvReported 2 r 0 2 0x362 s

section
variable {r : Nat} {ups : List (BitVec 11 × BitVec 10)} {sig : BitVec 32} {s : State}

theorem signatureDone_none (h : (s.region r).st ≠ .running ∨ s.bit Reg.GLV_CTRL 8 = false ∨ s.glv.load.isSome = true) :
    signatureDone r ups s = s := by
  refine if_neg fun ⟨hst, hsweep, hload⟩ => ?_
  obtain h | h | h := h
  · exact h hst
  · rw [hsweep] at h
    exact Bool.noConfusion h
  · rw [Option.isNone_iff_eq_none.mp hload] at h
    exact Bool.noConfusion h

theorem signatureDone_judged (hsig : sig = signatureOf ((forEach ups (upsetOne r) s).region r)) (hst : (s.region r).st = .running)
    (hsweep : s.bit Reg.GLV_CTRL 8 = true) (hload : s.glv.load = none) :
    signatureDone r ups s = signatureJudged r sig (signed r ups sig s) := by
  have hsettled : signatureOf ((settle (forEach ups (upsetOne r) s)).region r) = sig :=
    (signatureOf_congr ((settle_responds _).frames r)).trans hsig.symm
  rw [← hsettled]
  exact if_pos ⟨hst, hsweep, by rw [hload]; rfl⟩

theorem signed_regsBut : RegsBut [Reg.GLV_SIG + 4 * r, Reg.GLV_CNT + 24, Reg.GLV_CNT_SAT, pendReg 0x366] s (signed r ups sig s) :=
  regsBut_trans (regsBut_of_regs _ (((settle_chg _).same .regs (by decide)).trans (upsets_keep r ups s).2))
    (regsBut_trans (regsBut_mono (regsBut_setReg _ (Reg.GLV_SIG + 4 * r) sig) (by simp))
      (regsBut_mono (sweepRegion_regsBut r _) (by simp)))

theorem signed_gold (hr : r < 4) : (signed r ups sig s).reg (Reg.GLV_GOLD + 4 * r) = s.reg (Reg.GLV_GOLD + 4 * r) := by
  have hall : ∀ q < 4, Reg.GLV_GOLD + 4 * q ∉ [Reg.GLV_SIG + 4 * q, Reg.GLV_CNT + 24, Reg.GLV_CNT_SAT, pendReg 0x366] := by decide
  exact signed_regsBut _ (hall r hr)

theorem signed_ctrl (hr : r < 4) : (signed r ups sig s).reg Reg.GLV_CTRL = s.reg Reg.GLV_CTRL := by
  have hall : ∀ q < 4, Reg.GLV_CTRL ∉ [Reg.GLV_SIG + 4 * q, Reg.GLV_CNT + 24, Reg.GLV_CNT_SAT, pendReg 0x366] := by decide
  exact signed_regsBut _ (hall r hr)

theorem signed_sig (hr : r < 4) : (signed r ups sig s).reg (Reg.GLV_SIG + 4 * r) = sig := by
  have hother : Reg.GLV_SIG + 4 * r ∉ [Reg.GLV_CNT + 24, Reg.GLV_CNT_SAT, pendReg 0x366] := by
    have hall : ∀ q < 4, Reg.GLV_SIG + 4 * q ∉ [Reg.GLV_CNT + 24, Reg.GLV_CNT_SAT, pendReg 0x366] := by decide
    exact hall r hr
  rw [signed, sweepRegion_regsBut _ _ _ hother, reg_setReg, if_pos rfl]

theorem signed_st : ((signed r ups sig s).region r).st = (s.region r).st := by
  rw [signed, sweepRegion_region, ((setReg_stand _ _ _).2 r).1, (settle_responds _).st, (upsets_keep r ups s).1]

theorem signatureJudged_same (h : sig = s.reg (Reg.GLV_GOLD + 4 * r)) : signatureJudged r sig s = s := if_pos h

/-- A signature that is not the reference: the report, and the state of the region. -/
theorem signatureJudged_differs (h : sig ≠ s.reg (Reg.GLV_GOLD + 4 * r)) :
    (signatureJudged r sig s).regs = (glvReported 2 r 0 2 0x362 s).regs ∧
    ((signatureJudged r sig s).region r).st = if s.bit Reg.GLV_CTRL (4 + r) then .fault else (s.region r).st := by
  rw [signatureJudged, if_neg h, bit_of_reg (glvReported_regsBut r 0 _ (by decide))]
  split
  · exact ⟨(holdRegion_chg ..).same .regs (by decide), (holdRegion_entered r .fault _).inside r List.mem_cons_self⟩
  · exact ⟨rfl, by rw [glvReported_region]⟩

/-- What the registers show once the signature of a region has been reported. -/
theorem reported_regs {t : State} (hr : r < 4) (h : t.regs = (glvReported 2 r 0 2 0x362 s).regs) :
    t.reg (Reg.GLV_SIG + 4 * r) = s.reg (Reg.GLV_SIG + 4 * r) ∧ t.bit Reg.GLV_CAUSE 2 = true ∧ t.pendBit 0x362 = true := by
  have hall : ∀ q < 4, Reg.GLV_SIG + 4 * q ∉ [Reg.GLV_CAUSE, Reg.GLV_ERR_LOC, Reg.GLV_CNT + 4 * 2, Reg.GLV_CNT_SAT,
    pendReg 0x362, pendReg 0x366] := by decide
  refine ⟨(reg_of_regs h _).trans (glvReported_regsBut r 0 _ (hall r hr)), ?_, ?_⟩
  · rw [bit_of_reg (reg_of_regs h _)]
    exact glvReported_cause _ _ (by decide) (by decide)
  · rw [State.pendBit, bit_of_reg (reg_of_regs h _), ← State.pendBit]
    exact glvReported_event _ _ fun _ => by simp [eventAbsent]

end

/-- A signature (O48). -/
theorem signatureRegionDone_effect (r : BitVec 2) (ups : List (BitVec 11 × BitVec 10)) (sig : BitVec 32) (s : State)
    (hup : s.up = true) (hsig : sig = signatureOf ((forEach ups (upsetOne r.toNat) s).region r.toNat)) :
    ((s.region r.toNat).st = .running → s.bit Reg.GLV_CTRL 8 = true → s.glv.load = none →
      (sig = s.reg (Reg.GLV_GOLD + 4 * r.toNat) → ∃ t, exec (.signatureRegionDone r ups) s = .next t ∧
        t.reg (Reg.GLV_SIG + 4 * r.toNat) = sig ∧ (t.region r.toNat).st = .running ∧
        Changes [.regs, .freeCtr, .out, .host, .glv] s t) ∧
      (sig ≠ s.reg (Reg.GLV_GOLD + 4 * r.toNat) → ∃ t, exec (.signatureRegionDone r ups) s = .next t ∧
        t.reg (Reg.GLV_SIG + 4 * r.toNat) = sig ∧ t.bit Reg.GLV_CAUSE 2 = true ∧ t.pendBit 0x362 = true ∧
        (t.region r.toNat).st = (if s.bit Reg.GLV_CTRL (4 + r.toNat) then .fault else .running) ∧
        Changes [.regs, .freeCtr, .out, .host, .glv] s t)) ∧
    ((s.region r.toNat).st ≠ .running ∨ s.bit Reg.GLV_CTRL 8 = false ∨ s.glv.load.isSome = true →
      exec (.signatureRegionDone r ups) s = .next s) := by
  have hexec : exec (.signatureRegionDone r ups) s = .next (signatureDone r.toNat ups s) :=
    run_up (f := signatureDone r.toNat ups) hup
  have hchg := (signatureDone_chg r.toNat ups s).changes (l := [.regs, .freeCtr, .out, .host, .glv]) (by decide)
  refine ⟨fun hst hsweep hload => ?_, fun hno => hexec.trans (congrArg _ (signatureDone_none hno))⟩
  rw [signatureDone_judged hsig hst hsweep hload] at hexec hchg
  refine ⟨fun heq => ⟨_, hexec, ?_⟩, fun hne => ⟨_, hexec, ?_⟩⟩
  · rw [signatureJudged_same ((signed_gold r.isLt).symm ▸ heq)] at hchg ⊢
    exact ⟨signed_sig r.isLt, signed_st.trans hst, hchg⟩
  · have hne' : sig ≠ (signed r.toNat ups sig s).reg (Reg.GLV_GOLD + 4 * r.toNat) := by rwa [signed_gold r.isLt]
    obtain ⟨hregs, hstate⟩ := signatureJudged_differs hne'
    obtain ⟨hword, hcause, hevent⟩ := reported_regs (s := signed r.toNat ups sig s) r.isLt hregs
    refine ⟨hword.trans (signed_sig r.isLt), hcause, hevent, ?_, hchg⟩
    rw [hstate, signed_st, hst, bit_of_reg (signed_ctrl r.isLt)]

end Sys2Proof.Proofs
end

section
/-!
Proofs of the family 10_glove: the edges that the TDCs see, the pins, and the events of Glove (O48).
-/
namespace Sys2Proof.Proofs
set_option Elab.async false
open Sys2Proof.Machine Sys2Proof.Laws

/-! ### Edges (R309, R324, R283) -/

/-- The TDC is enabled for the edge, and its code is one that it can give. -/
def tdcSees (s : State) (x c : Nat) (falling : Bool) : Bool :=
  s.glv.residentDone && pairBit s Reg.GLV_TDC_EN x && (pairBit s (Reg.GLV_TDC_EN + 8) x == falling) && c < 50

/-- The clock of the input's last edge is noted. -/
def tdcNoted (x : Nat) (s : State) : State :=
  { s with glv := { s.glv with tdcLast := mset s.glv.tdcLast 0 x (s.clock + 1) } }

/-- An edge that is taken: it counts, and goes to Aster. -/
def tdcTaken (x c : Nat) (s : State) : State := tdcToAster x c (glvCnt 7 1 (tdcNoted x s))

section
variable {x c : Nat} {falling : Bool} {s : State}

theorem tdcEdge_unseen (h : tdcSees s x c falling = false) : tdcEdge x c falling s = s :=
  if_neg (Bool.not_eq_true _ ▸ h)

theorem tdcEdge_lost (h : tdcSees s x c falling = true) (hearly : mget s.glv.tdcLast 0 x = s.clock + 1 ∨ s.clock < mget s.pwr.tdcOut 0 x) :
    tdcEdge x c falling s = glvReported 5 (x / 16) x 4 0x365 s :=
  (if_pos h).trans (if_pos hearly)

theorem tdcEdge_taken (h : tdcSees s x c falling = true) (hlast : mget s.glv.tdcLast 0 x ≠ s.clock + 1)
    (hin : mget s.pwr.tdcOut 0 x ≤ s.clock) :
    tdcEdge x c falling s = if falling then tdcTaken x c s else timeCapture x c (tdcTaken x c s) :=
  (if_pos h).trans (if_neg (not_or.mpr ⟨hlast, Nat.not_lt.mpr hin⟩))

theorem tdcTaken_glv : (tdcTaken x c s).glv = { s.glv with tdcLast := mset s.glv.tdcLast 0 x (s.clock + 1) } :=
  ((tdcToAster_chg ..).same .glv (by decide)).trans ((glvCnt_chg ..).same .glv (by decide))

theorem tdcToAster_room (h : s.ast.tdc.length < 256) : tdcToAster x c s =
    { s with ast := { s.ast with tdc := s.ast.tdc ++ [{ input := x, clk := s.clock, code := c, time := s.tim.count }] } } :=
  if_neg (Nat.not_le.mpr h)

theorem tdcToAster_full (h : 256 ≤ s.ast.tdc.length) :
    tdcToAster x c s = raise 0x3E6 (astStat 5 1 (causeSet Reg.AST_CAUSE 0 [] s)) := if_pos h

theorem tdcToAster_ast : (tdcToAster x c s).ast = { s.ast with tdc := if s.ast.tdc.length < 256 then
    s.ast.tdc ++ [{ input := x, clk := s.clock, code := c, time := s.tim.count }] else s.ast.tdc } := by
  by_cases h : s.ast.tdc.length < 256
  · rw [tdcToAster_room h, if_pos h]
  · rw [tdcToAster_full (Nat.not_lt.mp h), if_neg h]
    exact ((raise_chg ..).same .ast (by decide)).trans (((astStat_chg ..).same .ast (by decide)).trans
      ((causeSet_chg ..).same .ast (by decide)))

theorem astStat_regsBut (k n : Nat) (s : State) :
    RegsBut [Reg.AST_STAT + 4 * k, Reg.AST_STAT_SAT, pendReg 0x3E8] s (astStat k n s) := by
  intro o ho
  simp only [List.mem_cons, List.not_mem_nil, or_false, not_or] at ho
  obtain ⟨hcnt, hsat, hpend⟩ := ho
  exact satAdd_reg s hcnt hsat fun e he => Option.some.inj he ▸ hpend

theorem tdcToAster_regsBut : RegsBut [Reg.AST_CAUSE, Reg.AST_STAT + 20, Reg.AST_STAT_SAT, pendReg 0x3E6] s (tdcToAster x c s) := by
  by_cases h : s.ast.tdc.length < 256
  · rw [tdcToAster_room h]
    exact regsBut_of_regs _ rfl
  · rw [tdcToAster_full (Nat.not_lt.mp h)]
    have hcause : RegsBut [Reg.AST_CAUSE] s (causeSet Reg.AST_CAUSE 0 [] s) := fun _ ho =>
      causeSet_reg s (fun he => ho (by simp [he])) List.not_mem_nil
    exact regsBut_trans (regsBut_mono hcause (by decide)) (regsBut_trans (regsBut_mono (astStat_regsBut 5 1 _) (by decide))
      (regsBut_mono (regsBut_raise 0x3E6 _) (by decide)))

/-- An edge for which Aster has no room is a cause of Aster and its event. -/
theorem tdcToAster_overflow (h : 256 ≤ s.ast.tdc.length) :
    (tdcToAster x c s).bit Reg.AST_CAUSE 0 = true ∧ (tdcToAster x c s).pendBit 0x3E6 = true := by
  rw [tdcToAster_full h]
  refine ⟨?_, raise_pendBit (by simp [eventAbsent])⟩
  rw [bit_of_reg (regsBut_raise 0x3E6 _ _ (by decide)), bit_of_reg (astStat_regsBut 5 1 _ _ (by decide))]
  exact causeSet_bit _ s (by decide)

theorem tdcTaken_ast : (tdcTaken x c s).ast = { s.ast with tdc := if s.ast.tdc.length < 256 then
    s.ast.tdc ++ [{ input := x, clk := s.clock, code := c, time := s.tim.count }] else s.ast.tdc } := by
  have hcnt := glvCnt_chg 7 1 (tdcNoted x s)
  rw [tdcTaken, tdcToAster_ast, hcnt.same .ast (by decide), hcnt.same .clock (by decide), hcnt.same .tim (by decide)]
  rfl

theorem tdcTaken_overflow (h : 256 ≤ s.ast.tdc.length) :
    (tdcTaken x c s).bit Reg.AST_CAUSE 0 = true ∧ (tdcTaken x c s).pendBit 0x3E6 = true := by
  refine tdcToAster_overflow ?_
  rw [(glvCnt_chg 7 1 (tdcNoted x s)).same .ast (by decide)]
  exact h

theorem tdcTaken_captCtrl : (tdcTaken x c s).reg Reg.TIM_CAPT_CTRL = s.reg Reg.TIM_CAPT_CTRL :=
  (tdcToAster_regsBut _ (by decide)).trans (glvCnt_regsBut 7 1 (tdcNoted x s) _ (by decide))

/-! ### The capture of Time (R283) -/

/-- The registers that take a captured time. -/
def captRegs : List Nat := [Reg.TIM_CAPT, Reg.TIM_CAPT + 4, Reg.TIM_CAPT + 8, Reg.TIM_CAPT + 12, Reg.TIM_CAPT_CTRL]

/-- The capture, when it is armed for the input, writes its registers and raises its event. -/
theorem timeCapture_cases (x c : Nat) (s : State) :
    (¬ (s.bit Reg.TIM_CAPT_CTRL 6 = true ∧ s.fld Reg.TIM_CAPT_CTRL 0 6 = x) ∧ timeCapture x c s = s) ∨
    ∃ u, timeCapture x c s = raise 0x2C4 (u.setBit Reg.TIM_CAPT_CTRL 6 false) ∧ RegsBut captRegs s u := by
  by_cases h : s.bit Reg.TIM_CAPT_CTRL 6 = true ∧ s.fld Reg.TIM_CAPT_CTRL 0 6 = x
  · refine .inr ⟨_, if_pos h, ?_⟩
    exact regsBut_trans (regsBut_mono (regsBut_setReg s Reg.TIM_CAPT _) (by decide))
      (regsBut_trans (regsBut_mono (regsBut_setReg _ (Reg.TIM_CAPT + 4) _) (by decide))
        (regsBut_trans (regsBut_mono (regsBut_setReg _ (Reg.TIM_CAPT + 8) _) (by decide))
          (regsBut_mono (regsBut_setReg _ (Reg.TIM_CAPT + 12) _) (by decide))))
  · exact .inl ⟨h, if_neg h⟩

theorem timeCapture_keeps {o i : Nat} (ho : o ∉ captRegs) (hi : i < 32) (h : s.bit o i = true) :
    (timeCapture x c s).bit o i = true := by
  obtain ⟨-, heq⟩ | ⟨u, heq, hregs⟩ := timeCapture_cases x c s
  · rwa [heq]
  · rw [heq, bit_eq]
    refine raise_keeps hi ?_
    rw [← bit_eq, bit_setBit_other _ _ (.inl fun he => ho (by rw [he]; decide)), bit_of_reg (hregs o ho)]
    exact h

theorem timeCapture_captures (harmed : s.bit Reg.TIM_CAPT_CTRL 6 = true) (hinput : s.fld Reg.TIM_CAPT_CTRL 0 6 = x) :
    (timeCapture x c s).bit Reg.TIM_CAPT_CTRL 6 = false ∧ (timeCapture x c s).pendBit 0x2C4 = true := by
  obtain ⟨hno, -⟩ | ⟨u, heq, -⟩ := timeCapture_cases x c s
  · exact absurd ⟨harmed, hinput⟩ hno
  · rw [heq]
    refine ⟨?_, raise_pendBit (by simp [eventAbsent])⟩
    rw [bit_of_reg (regsBut_raise 0x2C4 _ _ (by decide))]
    exact bit_setBit_same u false (by decide)

/-- An edge that is taken (O48). -/
theorem tdcEdge_records (h : tdcSees s x c falling = true) (hlast : mget s.glv.tdcLast 0 x ≠ s.clock + 1)
    (hin : mget s.pwr.tdcOut 0 x ≤ s.clock) :
    (tdcEdge x c falling s).glv = { s.glv with tdcLast := mset s.glv.tdcLast 0 x (s.clock + 1) } ∧
    (tdcEdge x c falling s).ast = { s.ast with tdc := if s.ast.tdc.length < 256 then
      s.ast.tdc ++ [{ input := x, clk := s.clock, code := c, time := s.tim.count }] else s.ast.tdc } ∧
    (256 ≤ s.ast.tdc.length → (tdcEdge x c falling s).bit Reg.AST_CAUSE 0 = true ∧ (tdcEdge x c falling s).pendBit 0x3E6 = true) ∧
    (falling = false → s.bit Reg.TIM_CAPT_CTRL 6 = true → s.fld Reg.TIM_CAPT_CTRL 0 6 = x →
      (tdcEdge x c falling s).bit Reg.TIM_CAPT_CTRL 6 = false ∧ (tdcEdge x c falling s).pendBit 0x2C4 = true) := by
  rw [tdcEdge_taken h hlast hin]
  cases falling with
  | true => exact ⟨tdcTaken_glv, tdcTaken_ast, tdcTaken_overflow, nofun⟩
  | false =>
    refine ⟨((timeCapture_chg ..).same .glv (by decide)).trans tdcTaken_glv, ((timeCapture_chg ..).same .ast (by decide)).trans tdcTaken_ast,
      fun hfull => ?_, fun _ harmed hinput => timeCapture_captures ?_ ?_⟩
    · obtain ⟨hcause, hevent⟩ := tdcTaken_overflow (x := x) (c := c) hfull
      exact ⟨timeCapture_keeps (by decide) (by decide) hcause, timeCapture_keeps (by decide) (by decide) hevent⟩
    · rwa [bit_of_reg tdcTaken_captCtrl]
    · rwa [fld_of_reg tdcTaken_captCtrl]

end

/-- The edges of an input (O48). -/
theorem tdcEdge_effect (x c : BitVec 6) (falling : Bool) (s : State) (hup : s.up = true) :
    (tdcSees s x.toNat c.toNat falling = true →
      (mget s.glv.tdcLast 0 x.toNat ≠ s.clock + 1 → mget s.pwr.tdcOut 0 x.toNat ≤ s.clock →
        ∃ t, exec (.tdcEdge x falling c) s = .next t ∧
          t.glv = { s.glv with tdcLast := mset s.glv.tdcLast 0 x.toNat (s.clock + 1) } ∧
          t.ast = { s.ast with tdc := if s.ast.tdc.length < 256 then
            s.ast.tdc ++ [{ input := x.toNat, clk := s.clock, code := c.toNat, time := s.tim.count }] else s.ast.tdc } ∧
          (256 ≤ s.ast.tdc.length → t.bit Reg.AST_CAUSE 0 = true ∧ t.pendBit 0x3E6 = true) ∧
          (falling = false → s.bit Reg.TIM_CAPT_CTRL 6 = true → s.fld Reg.TIM_CAPT_CTRL 0 6 = x.toNat →
            t.bit Reg.TIM_CAPT_CTRL 6 = false ∧ t.pendBit 0x2C4 = true) ∧ Changes [.regs, .out, .host, .glv, .ast] s t) ∧
      (mget s.glv.tdcLast 0 x.toNat = s.clock + 1 ∨ s.clock < mget s.pwr.tdcOut 0 x.toNat →
        ∃ t, exec (.tdcEdge x falling c) s = .next t ∧ t.bit Reg.GLV_CAUSE 5 = true ∧ t.pendBit 0x365 = true ∧
          (s.reg Reg.GLV_CAUSE = 0 → t.reg Reg.GLV_ERR_LOC =
            BitVec.ofNat 32 (6 * 2 ^ 28 + 2 ^ 26 * (x.toNat / 16) + 2 ^ 13 * x.toNat)) ∧
          RegsBut [Reg.GLV_CAUSE, Reg.GLV_ERR_LOC, Reg.GLV_CNT + 16, Reg.GLV_CNT_SAT, pendReg 0x365, pendReg 0x366] s t ∧
          Changes [.regs, .out, .host] s t)) ∧
    (tdcSees s x.toNat c.toNat falling = false → exec (.tdcEdge x falling c) s = .next s) := by
  have hexec : exec (.tdcEdge x falling c) s = .next (tdcEdge x.toNat c.toNat falling s) :=
    run_up (f := tdcEdge x.toNat c.toNat falling) hup
  refine ⟨fun hsees => ⟨fun hlast hin => ⟨_, hexec, ?_⟩, fun hearly => ⟨_, hexec, ?_⟩⟩,
    fun hunseen => hexec.trans (congrArg _ (tdcEdge_unseen hunseen))⟩
  · obtain ⟨hglv, hast, hfull, hcapture⟩ := tdcEdge_records hsees hlast hin
    exact ⟨hglv, hast, hfull, hcapture, (tdcEdge_chg ..).changes (by decide)⟩
  · rw [tdcEdge_lost hsees hearly]
    exact ⟨glvReported_cause _ _ (by decide) (by decide), glvReported_event _ _ fun _ => by simp [eventAbsent],
      fun hcause => glvReported_captures _ _ hcause (by decide), glvReported_regsBut (k := 4) _ _, (glvReported_chg _ _).changes (by decide)⟩

/-! ### Pins (R292, R310) -/

/-- The outside drives a pin to a level, or not at all. -/
def pinDriven (pin : Nat) (level : Option Bool) (s : State) : State :=
  { s with glv := { s.glv with pinIn := mset s.glv.pinIn none pin level } }

section
variable {pin : Nat} {level : Option Bool} {s : State}

theorem pinChange_none (h : 384 ≤ pin) : pinChange pin level s = s := if_neg (Nat.not_lt.mpr h)

theorem pinChange_in (h : pin < 384) : pinChange pin level s =
    if s.up = true then settle (pinDriven pin level s) else pinDriven pin level s := if_pos h

theorem pinChange_up (h : pin < 384) (hup : s.up = true) : pinChange pin level s = settle (pinDriven pin level s) :=
  (pinChange_in h).trans (if_pos hup)

theorem pinChange_down (h : pin < 384) (hdown : s.up = false) : pinChange pin level s = pinDriven pin level s :=
  (pinChange_in h).trans (if_neg (by rw [hdown]; exact Bool.false_ne_true))

end

/-- A change at a pin (O48). -/
theorem pinInputChange_effect (pin : BitVec 9) (level : Option Bool) (s : State) :
    (pin.toNat < 384 → s.up = true → ∃ t, exec (.pinInputChange pin level) s = .next t ∧
      t.glv.pinIn = mset s.glv.pinIn none pin.toNat level ∧ t.glv.doLine = s.glv.doLine ∧
      (∀ r, (t.region r).st = (s.region r).st ∧ (t.region r).frames = (s.region r).frames) ∧ Changes [.freeCtr, .glv] s t) ∧
    (pin.toNat < 384 → s.up = false → exec (.pinInputChange pin level) s =
      .next { s with glv := { s.glv with pinIn := mset s.glv.pinIn none pin.toNat level } }) ∧
    (384 ≤ pin.toNat → exec (.pinInputChange pin level) s = .next s) := by
  have hexec : exec (.pinInputChange pin level) s = .next (pinChange pin.toNat level s) := rfl
  refine ⟨fun hpin hup => ⟨_, hexec, ?_⟩, fun hpin hdown => hexec.trans (congrArg _ (pinChange_down hpin hdown)),
    fun hpin => hexec.trans (congrArg _ (pinChange_none hpin))⟩
  have hchg := (pinChange_chg pin.toNat level s).changes (l := [.freeCtr, .glv]) (by decide)
  rw [pinChange_up hpin hup] at hchg ⊢
  have hresponds := settle_responds (pinDriven pin.toNat level s)
  exact ⟨by rw [hresponds.glv]; rfl, by rw [hresponds.glv]; rfl, fun r => ⟨hresponds.st r, hresponds.frames r⟩, hchg⟩

/-- Settles O48: a cause of Glove is counted and reported in one way (`glvReported`), and a response to it keeps the states and the
frames of the regions (`Responds`). The edges that Aster and Time record are those of R324 and R283, whether Aster is armed or not
(log 179). -/
theorem gloveEvents : Obligations.GloveEvents := by
  unfold Obligations.GloveEvents
  refine ⟨fun e l s hup hqueue => ⟨fun n hn hwaits hdone => ?_, fun hwaits => ?_⟩, fun s hup hqueue => ?_,
    fun e l s hqueue => ⟨doDue_now hqueue, doDue_later hqueue⟩, contentionTrip_effect, signatureRegionDone_effect, tdcEdge_effect,
    pinInputChange_effect⟩
  · exact (run_up (f := doUpdate) hup).trans (congrArg _ (doUpdate_iterate hqueue hn hwaits hdone))
  · exact (run_up (f := doUpdate) hup).trans (congrArg _ (doUpdate_never hqueue hwaits))
  · exact (run_up (f := doUpdate) hup).trans (congrArg _ (doUpdate_idle hqueue))

end Sys2Proof.Proofs
end

section
/-!
Proofs of the family 10_glove: a request of the Bonnet mailbox that passes its checks, and the counter that it writes first (O53).
-/
namespace Sys2Proof.Proofs
set_option Elab.async false
open Sys2Proof.Machine Sys2Proof.Laws

/-! ### The counter of a request (R408) -/

theorem slotCtr_setCtr (k : Nat) {v : Nat} (s : State) (hv : v < 2 ^ 64) : slotCtr (setCtr k v s) k = v := by
  rw [slotCtr, setCtr, reg_setReg_same, reg_setReg_other _ _ (by omega), reg_setReg_same, BitVec.toNat_ofNat, BitVec.toNat_ofNat]
  omega

theorem setCtr_regsBut (k v : Nat) (s : State) : RegsBut [Reg.BNT_CTR + 8 * k, Reg.BNT_CTR + 8 * k + 4] s (setCtr k v s) :=
  regsBut_trans (regsBut_mono (regsBut_setReg s (Reg.BNT_CTR + 8 * k) _) (by simp))
    (regsBut_mono (regsBut_setReg _ (Reg.BNT_CTR + 8 * k + 4) _) (by simp))

theorem setCtr_changes (k v : Nat) (s : State) : Changes [.regs] s (setCtr k v s) := (setCtr_chg k v s).changes (by decide)

section
variable (k n : Nat) (s : State)

theorem setCtr_bnt : (setCtr k n s).bnt = s.bnt := rfl
theorem setCtr_ident : (setCtr k n s).ident = s.ident := rfl
theorem setCtr_plat : (setCtr k n s).plat = s.plat := rfl
theorem setCtr_own : (setCtr k n s).own = s.own := rfl
theorem setCtr_img : (setCtr k n s).img = s.img := rfl
theorem setCtr_glv : (setCtr k n s).glv = s.glv := rfl
theorem setCtr_lks : (setCtr k n s).lks = s.lks := rfl

end

section
variable {k n : Nat} (hk : k ≤ 3) (s : State)
include hk

theorem ranking_setCtr : ranking (setCtr k n s) = ranking s := by
  simp only [ranking, fld_of_reg (setCtr_reg (v := n) (s := s) hk (show Reg.GBL_OWN_POLICY ∉ ctrRegs by decide))]

theorem pathPresent_setCtr (m : Master) : pathPresent (setCtr k n s) m = pathPresent s m := by
  have hcond : condModule (setCtr k n s) = condModule s :=
    fld_of_reg (setCtr_reg (v := n) (s := s) hk (show Reg.GBL_OWN_POLICY ∉ ctrRegs by decide)) 6 6
  cases m with
  | conductor => rw [pathPresent, pathPresent, hcond]; rfl
  | none => rfl
  | host => rfl
  | bmc => rfl

theorem fuse_setCtr : fuseFw (setCtr k n s) = fuseFw s ∧ fusePkg (setCtr k n s) = fusePkg s := by
  have hreg := setCtr_reg (v := n) (s := s) hk (show Reg.BNT_FUSE_SV ∉ ctrRegs by decide)
  exact ⟨fld_of_reg hreg 0 8, fld_of_reg hreg 8 8⟩

theorem lockedRegions_setCtr (m : BitVec 4) : lockedRegions (setCtr k n s) m = lockedRegions s m := by
  simp only [lockedRegions, bit_of_reg (setCtr_reg (v := n) (s := s) hk (show Reg.GLV_CTRL ∉ ctrRegs by decide))]

end

/-! ### Packages (R427, R428) -/

/-- Two states agree in what the checks of a package look at. -/
structure SamePackages (s t : State) : Prop where
  flash : t.boot.flash = s.boot.flash
  staging : t.boot.mram.staging = s.boot.mram.staging
  ident : t.ident = s.ident
  fuses : fuseFw t = fuseFw s ∧ fusePkg t = fusePkg s

namespace SamePackages
variable {s t : State} (h : SamePackages s t)
include h

theorem pkgBytes (src : Option FlashSlot) (off n : Nat) : pkgBytes t src off n = pkgBytes s src off n := by
  simp only [Machine.pkgBytes, pkgByte, h.flash, h.staging]

theorem headerStatus (b : List Byte) : headerStatus t b = headerStatus s b := by
  rw [Machine.headerStatus, h.ident, h.fuses.1, h.fuses.2, Machine.headerStatus]

theorem itemBytes (src : Option FlashSlot) : itemBytes t src = itemBytes s src := by
  funext e
  rw [Machine.itemBytes, h.pkgBytes, Machine.itemBytes]

theorem platformOk (b : List Byte) : platformOk t b = platformOk s b := by
  have hsink (p : Nat) : sinkPort t p = sinkPort s p := by rw [sinkPort, h.ident, sinkPort]
  simp only [Machine.platformOk, h.ident, hsink]

theorem itemsStatus (src : Option FlashSlot) (b : List Byte) : itemsStatus t src b = itemsStatus s src b := by
  unfold Machine.itemsStatus
  simp only [h.itemBytes, h.ident, h.platformOk]

theorem packageStatus (src : Option FlashSlot) : packageStatus t src = packageStatus s src := by
  simp only [Machine.packageStatus, h.pkgBytes, h.headerStatus, h.itemsStatus]

end SamePackages

theorem samePackages_setCtr {k n : Nat} (hk : k ≤ 3) (s : State) : SamePackages s (setCtr k n s) :=
  ⟨rfl, rfl, rfl, fuse_setCtr hk s⟩

theorem fwChecks_setCtr {k n : Nat} (hk : k ≤ 3) (p : List Byte) (more : List (Bool × Nat)) (s : State) :
    fwChecks p more (setCtr k n s) = fwChecks p more s := by
  have hsrc : fwSource (setCtr k n s) (leAt p 1 1) = fwSource s (leAt p 1 1) := rfl
  have hruns : trialRuns (setCtr k n s) = trialRuns s := rfl
  have hpending : trialPending (setCtr k n s) = trialPending s := rfl
  rw [fwChecks, hsrc, hruns, hpending, (samePackages_setCtr hk s).packageStatus, (samePackages_setCtr hk s).pkgBytes, fwChecks]

theorem inactiveHeader_setCtr (k n : Nat) (s : State) : inactiveHeader (setCtr k n s) = inactiveHeader s := rfl

/-! ### A request that passes its checks (R407) -/

/-- How a request ends once it has been executed: with its response and its effect, or with a status alone. -/
def bntEnded (e : Nat × List Byte × State) (s : State) : State := if e.1 = 0 then bntEnd 0 e.2.1 e.2.2 else bntEnd e.1 [] s

theorem bntEnded_ok (resp : List Byte) (t s : State) : bntEnded (0, resp, t) s = bntEnd 0 resp t := if_pos rfl

theorem answer_ok (resp : List Byte) (t s : State) : answer 0 resp t s = (0, resp, t) := if_neg (not_not_intro rfl)

theorem answer_failed {st : Nat} (h : st ≠ 0) (resp : List Byte) (t s : State) : answer st resp t s = (st, [], s) := if_pos h

section
variable {c : Instr} {op : Nat} {mode : Option Nat} {r : Request} {rest : List Request} {s : State}
  (exe : List Byte → State → Nat × List Byte × State) (hcmd : bntCmd c = some ⟨op, mode, opForm op, opAuthority op⟩)
  (hexec : exec c s = run (bntOp op mode exe) s) (hup : s.up = true) (hreqs : s.bnt.reqs = r :: rest) (hready : bntReady c r s)
include hcmd hready

theorem bntReady_open : keyPhase s = false ∧ (reqOp r = op ∧ (mode = none ∨ mode = some (reqMode r))) ∧
    judge (opForm op) (opAuthority op r s) r s = 0 := by
  obtain ⟨hkey, b, hb, hnames, hjudge⟩ := hready
  rw [hcmd] at hb
  cases hb
  exact ⟨hkey, hnames, hjudge⟩

theorem bntReady_slot (hauthed : (opForm op).authed = true) : reqSlot r ≤ 3 :=
  judge_slot hauthed (bntReady_open hcmd hready).2.2

/-- A request that passes its checks has one of the lengths of its operation. -/
theorem bntReady_length : (opForm op).lens.contains (reqLen r) = true := by
  obtain ⟨-, -, hjudge⟩ := bntReady_open hcmd hready
  have hform : formatOk (opForm op) r = true := by
    by_contra hno
    rw [judge, if_pos (by simpa using hno)] at hjudge
    cases hjudge
  simp only [formatOk, Bool.and_eq_true] at hform
  exact hform.1.1.2

include hexec hup hreqs

theorem exec_bntReady : exec c s = .next (bntUnknown 2 (bntRun (opForm op) (opAuthority op) exe r s)) := by
  obtain ⟨hkey, hop, -⟩ := bntReady_open hcmd hready
  rw [hexec, run_up _ hup, bntOp, hreqs]
  exact congrArg _ (if_pos ⟨by simp [hkey], hop⟩)

/-- An authenticated request writes its counter, and then has its effect. -/
theorem exec_authed (hauthed : (opForm op).authed = true) {v : State} (hv : v = setCtr (reqSlot r) (reqCounter r) s) :
    exec c s = .next (bntUnknown 2 (bntEnded (exe (payload r) v) v)) := by
  obtain ⟨-, -, hjudge⟩ := bntReady_open hcmd hready
  rw [exec_bntReady exe hcmd hexec hup hreqs hready, bntRun, if_neg (not_not_intro hjudge), if_pos hauthed, hv]
  rfl

/-- A request without authentication has its effect. -/
theorem exec_open (hauthed : (opForm op).authed = false) :
    exec c s = .next (bntUnknown 2 (bntEnded (exe (payload r) s) s)) := by
  obtain ⟨-, -, hjudge⟩ := bntReady_open hcmd hready
  rw [exec_bntReady exe hcmd hexec hup hreqs hready, bntRun, if_neg (not_not_intro hjudge)]
  simp only [hauthed, Bool.false_eq_true, if_false]
  rfl

end

end Sys2Proof.Proofs
end

section
/-!
Proofs of the family 10_glove: what HANDOVER, KEY_LOAD and FW_ACTIVATE do (O53).
-/
namespace Sys2Proof.Proofs
set_option Elab.async false
open Sys2Proof.Machine Sys2Proof.Laws

/-! ### HANDOVER (R398) -/

theorem own_other {m : Master} {s : State} (h : m ≠ s.own.owner) : own m s = raise 0x006 (setOwner m s) := if_neg h

theorem own_same {m : Master} {s : State} (h : m = s.own.owner) : own m s = setOwner m s := if_pos h

theorem own_own (m : Master) (s : State) : (own m s).own = (setOwner m s).own := by
  by_cases h : m = s.own.owner
  · rw [own_same h]
  · rw [own_other h]
    exact (raise_chg ..).same .own (by decide)

theorem own_regsBut (m : Master) (s : State) : RegsBut [pendReg 0x006] s (own m s) := by
  by_cases h : m = s.own.owner
  · rw [own_same h]
    exact regsBut_of_regs _ rfl
  · rw [own_other h]
    exact regsBut_trans (r := setOwner m s) (regsBut_of_regs _ rfl) (regsBut_raise 0x006 _)

theorem pathPresent_none (s : State) : pathPresent s .none = false := rfl

/-- The claims that a handover ends; the first window is closed. -/
def claimsEnded (s : State) : State :=
  clearClaims { s with own := { s.own with firstClosed := s.own.firstClosed || s.own.st == .claim } }

section
variable {p : List Byte} {s : State} {m : Master} (hm : m = masterOf (leAt p 0 1))
include hm

theorem handover_to (hranked : m ∈ ranking s) (hpath : pathPresent s m = true) : handover p s = (0, [], own m (claimsEnded s)) := by
  subst hm
  exact if_neg (by simp [hranked, hpath])

theorem handover_none (h : m ∉ ranking s ∨ pathPresent s m = false) : handover p s = (12, [], s) := by
  subst hm
  exact if_pos (by simpa using h)

end

/-- What a handover does. -/
theorem handedOver (m : Master) (s : State) (hm : m ≠ .none) :
    (own m (claimsEnded s)).own.owner = m ∧ (own m (claimsEnded s)).own.st = .owned ∧
    (own m (claimsEnded s)).own.gen = (if m = s.own.owner then s.own.gen else s.own.gen + 1) ∧
    (own m (claimsEnded s)).own.claimHost = false ∧ (own m (claimsEnded s)).own.claimBmc = false ∧
    (own m (claimsEnded s)).own.claimCond = false ∧ (m ≠ s.own.owner → (own m (claimsEnded s)).pendBit 0x006 = true) ∧
    RegsBut [pendReg 0x006] s (own m (claimsEnded s)) ∧ Changes [.regs, .out, .host, .own] s (own m (claimsEnded s)) := by
  rw [own_own]
  refine ⟨rfl, if_neg hm, rfl, rfl, rfl, rfl, fun hother => ?_,
    regsBut_trans (r := claimsEnded s) (regsBut_of_regs _ rfl) (own_regsBut m _), ?_⟩
  · rw [own_other (s := claimsEnded s) hother]
    exact raise_pendBit (by simp [eventAbsent])
  · have hclaims : Chg 256 s (claimsEnded s) := .upd (.refl _ _)
    have hchg : Chg 402 s (own m (claimsEnded s)) := .after (own_chg ..) (.after hclaims (.refl _ _))
    exact hchg.changes (by decide)

/-! ### KEY_LOAD (R410) -/

theorem lowestStatus_two {a b : Bool} {c d : Nat} (h0 : c ≠ 0) (hlt : c < d) :
    lowestStatus [(a, c), (b, d)] = if a then c else if b then d else 0 := by
  cases a <;> cases b <;> simp [lowestStatus, h0, Nat.not_lt.mpr hlt.le]

/-- A key slot takes a key. -/
def keySet (k : Nat) (key : BitVec 256) (s : State) : State :=
  { s with bnt := { s.bnt with keys := mset s.bnt.keys none k (some key) } }

theorem keySet_keys (k : Nat) (s : State) (key : BitVec 256) : mget (keySet k key s).bnt.keys none k = some key ∧
    ∀ j, j ≠ k → mget (keySet k key s).bnt.keys none j = mget s.bnt.keys none j := by
  have hkeys : (keySet k key s).bnt.keys = mset s.bnt.keys none k (some key) := rfl
  rw [hkeys]
  exact ⟨mget_mset_same .., fun _ hj => mget_mset_other _ _ _ _ hj⟩

theorem keySet_changes (k : Nat) (s : State) (key : BitVec 256) : Changes [.bnt] s (keySet k key s) :=
  (Chg.upd (m := 524288) (.refl _ _)).changes

section
variable {p : List Byte} {s : State} {k : Nat} (hk : k = leAt p 0 1)
include hk

theorem keyLoad_loads {key : BitVec 256} (hlt : k < 3) (hkey : unwrapKey s.ident k p = some key) :
    keyLoad p s = (0, [], keySet k key s) := by
  subst hk
  rw [keyLoad, hkey, lowestStatus_two (by decide) (by decide), Option.isNone_some, if_neg Bool.false_ne_true,
    if_neg (by simpa using Nat.lt_succ_iff.mp hlt), answer_ok, keySet]

theorem keyLoad_untagged (hkey : unwrapKey s.ident k p = none) : keyLoad p s = (1, [], s) := by
  subst hk
  rw [keyLoad, hkey, lowestStatus_two (by decide) (by decide), Option.isNone_none, if_pos rfl, answer_failed (by decide)]

theorem keyLoad_noSlot (hlt : 3 ≤ k) (hkey : unwrapKey s.ident k p ≠ none) : keyLoad p s = (12, [], s) := by
  subst hk
  have hsome : (unwrapKey s.ident (leAt p 0 1) p).isNone = false := by
    rw [Option.isNone_eq_false_iff]
    exact Option.isSome_iff_ne_none.mpr hkey
  rw [keyLoad, hsome, lowestStatus_two (by decide) (by decide), if_neg Bool.false_ne_true, if_pos (decide_eq_true (Nat.lt_of_succ_le hlt)),
    answer_failed (by decide)]

end

/-! ### FW_ACTIVATE (R433 to R435) -/

theorem setTrial_trial (x : Trial) (s : State) : (setTrial x s).boot.mram.trial = x := rfl

theorem setTrial_changes (x : Trial) (s : State) : Changes [.boot] s (setTrial x s) := (setTrial_chg x s).changes (by decide)

theorem fwCancel_cancels {s : State} (htrial : s.boot.mram.trial ≠ .none) (hfw : s.boot.fwTrial = false)
    (hhand : s.boot.handover = false) (p : List Byte) : fwCancel p s = (0, [], setTrial .none s) :=
  if_pos (by simp [trialPending, trialRuns, htrial, hfw, hhand])

theorem fwCancel_none {s : State} (h : s.boot.mram.trial = .none ∨ s.boot.fwTrial = true ∨ s.boot.handover = true) (p : List Byte) :
    fwCancel p s = (9, [], s) := by
  refine if_neg ?_
  obtain h | h | h := h <;> simp [trialPending, trialRuns, h]

/-- The state in which the record of a confirmed trial has been written. -/
def recordConfirmed (s : State) : State :=
  { s with boot := { s.boot with mram := { s.boot.mram with active := some (inactiveSlot s), fusePending := true } } }

/-- The write of the record is over. -/
def fusesDone (s : State) : State := { s with boot := { s.boot with mram := { s.boot.mram with fusePending := false } } }

/-- No firmware is on trial. -/
def trialOver (s : State) : State := { s with boot := { s.boot with fwTrial := false } }

theorem recordConfirmed_pkgBytes (s : State) (src : Option FlashSlot) (off n : Nat) :
    pkgBytes (recordConfirmed s) src off n = pkgBytes s src off n := rfl

theorem finishConfirm_recorded (s : State) : finishConfirm (recordConfirmed s) =
    fusesDone (keepResident (some (inactiveSlot s)) (inactiveHeader s) (blowFuses (inactiveHeader s) (recordConfirmed s))) := by
  have hactive : (recordConfirmed s).boot.mram.active = some (inactiveSlot s) := rfl
  rw [finishConfirm, hactive, inactiveHeader, ← recordConfirmed_pkgBytes]
  rfl

/-- What CONFIRM ends with: the settings are those of the running format, no firmware is on trial, and the event is raised. -/
def confirmEnd (s : State) : State := raise 0x00D (trialOver (settingsConfirm (fusesDone s)))

theorem trialConfirmed_eq {s : State} (h : s.boot.fwTrial = true) : trialConfirmed s =
    confirmEnd (keepResident (some (inactiveSlot s)) (inactiveHeader s) (blowFuses (inactiveHeader s) (recordConfirmed s))) := by
  have hrecord : confirmRecord s = recordConfirmed s := if_pos h
  rw [trialConfirmed, hrecord, finishConfirm_recorded]
  rfl

theorem confirmEnd_boot (s : State) : (confirmEnd s).boot = (trialOver (settingsConfirm (fusesDone s))).boot :=
  (raise_chg ..).same .boot (by decide)

theorem confirmEnd_settings {s : State} {c : Settings} (hc : c ∈ (confirmEnd s).boot.mram.settings) :
    c.fmt = s.plat.settingsFmt ∧ c.confirmed = true := by
  rw [confirmEnd_boot] at hc
  obtain ⟨d, hd, rfl⟩ := List.mem_map.mp hc
  have hfmt := (List.mem_filter.mp hd).2
  rw [beq_iff_eq] at hfmt
  exact ⟨hfmt, rfl⟩

theorem confirmEnd_keeps (s : State) : (confirmEnd s).boot.mram.active = s.boot.mram.active ∧ (confirmEnd s).boot.fwTrial = false ∧
    (confirmEnd s).boot.mram.fusePending = false := by
  rw [confirmEnd_boot]
  exact ⟨rfl, rfl, rfl⟩

theorem confirmEnd_regsBut (s : State) : RegsBut [pendReg 0x00D] s (confirmEnd s) :=
  regsBut_trans (r := trialOver (settingsConfirm (fusesDone s))) (regsBut_of_regs _ rfl) (regsBut_raise 0x00D _)

theorem confirmEnd_event (s : State) : (confirmEnd s).pendBit 0x00D = true := raise_pendBit (by simp [eventAbsent])

/-- The resident write changes one of the two resident copies alone. -/
theorem keepResident_keeps (src : Option FlashSlot) (h : List Byte) (s : State) :
    (keepResident src h s).boot.mram.active = s.boot.mram.active ∧ (keepResident src h s).regs = s.regs ∧
    (keepResident src h s).plat = s.plat := by
  unfold keepResident
  split
  · next e =>
    refine ⟨?_, rfl, rfl⟩
    show (MramSt.setResident _ _).active = _
    unfold MramSt.setResident
    split <;> rfl
  · exact ⟨rfl, rfl, rfl⟩

theorem fld_le_byte (s : State) (o lo : Nat) : s.fld o lo 8 < 256 := Nat.mod_lt _ (by decide)

theorem blowFuses_regsBut (h : List Byte) (s : State) : RegsBut [Reg.BNT_FUSE_SV] s (blowFuses h s) :=
  regsBut_trans (regsBut_setFld s Reg.BNT_FUSE_SV 0 8 _) (regsBut_setFld _ Reg.BNT_FUSE_SV 8 8 _)

theorem leAt_byte (h : List Byte) (o : Nat) : leAt h o 1 < 256 := by
  have := (h.getD o 0).isLt
  simp only [leAt, List.range_one, List.foldl_cons, List.foldl_nil]
  simpa using this

theorem blowFuses_fuses (h : List Byte) (s : State) : fuseFw (blowFuses h s) = max (fuseFw s) (hdrFwSv h) ∧
    fusePkg (blowFuses h s) = max (fusePkg s) (hdrPkgSv h) := by
  have hfw : max (fuseFw s) (hdrFwSv h) < 256 := Nat.max_lt.mpr ⟨fld_le_byte .., leAt_byte ..⟩
  have hpkg : max (fusePkg s) (hdrPkgSv h) < 256 := Nat.max_lt.mpr ⟨fld_le_byte .., leAt_byte ..⟩
  constructor
  · rw [fuseFw, blowFuses, fld_setFld_other _ _ (by decide) (by decide), fld_setFld_same _ _ (by decide)]
    exact Nat.mod_eq_of_lt hfw
  · have hkeep : fusePkg (s.setFld Reg.BNT_FUSE_SV 0 8 (max (fuseFw s) (hdrFwSv h))) = fusePkg s :=
      fld_setFld_other _ _ (by decide) (by decide)
    rw [fusePkg, blowFuses, fld_setFld_same _ _ (by decide)]
    exact Nat.mod_eq_of_lt hpkg

/-- What the confirmation of a trial leaves. -/
theorem trialConfirmed_effect {s : State} (h : s.boot.fwTrial = true) :
    (trialConfirmed s).boot.mram.active = some (inactiveSlot s) ∧ (trialConfirmed s).boot.fwTrial = false ∧
    (trialConfirmed s).boot.mram.fusePending = false ∧ fuseFw (trialConfirmed s) = max (fuseFw s) (hdrFwSv (inactiveHeader s)) ∧
    fusePkg (trialConfirmed s) = max (fusePkg s) (hdrPkgSv (inactiveHeader s)) ∧
    (∀ c, c ∈ (trialConfirmed s).boot.mram.settings → c.fmt = s.plat.settingsFmt ∧ c.confirmed = true) ∧
    (trialConfirmed s).pendBit 0x00D = true ∧ RegsBut [Reg.BNT_FUSE_SV, pendReg 0x00D] s (trialConfirmed s) ∧
    Changes [.regs, .out, .host, .boot] s (trialConfirmed s) := by
  have hchg : Changes [.regs, .out, .host, .boot] s (trialConfirmed s) := (trialConfirmed_chg s).changes (by decide)
  obtain ⟨hfw, hpkg⟩ := blowFuses_fuses (inactiveHeader s) (recordConfirmed s)
  have hblown : RegsBut [Reg.BNT_FUSE_SV] s (blowFuses (inactiveHeader s) (recordConfirmed s)) :=
    regsBut_trans (r := recordConfirmed s) (regsBut_of_regs _ rfl) (blowFuses_regsBut _ _)
  rw [trialConfirmed_eq h] at hchg ⊢
  obtain ⟨hactive, hregs, hplat⟩ :=
    keepResident_keeps (some (inactiveSlot s)) (inactiveHeader s) (blowFuses (inactiveHeader s) (recordConfirmed s))
  obtain ⟨hkept, htrial, hpending⟩ := confirmEnd_keeps
    (keepResident (some (inactiveSlot s)) (inactiveHeader s) (blowFuses (inactiveHeader s) (recordConfirmed s)))
  have hend := regsBut_trans (regsBut_of_regs [pendReg 0x00D] hregs) (confirmEnd_regsBut _)
  have hfuse := hend Reg.BNT_FUSE_SV (by decide)
  refine ⟨hkept.trans (hactive.trans rfl), htrial, hpending, (fld_of_reg hfuse 0 8).trans hfw, (fld_of_reg hfuse 8 8).trans hpkg,
    fun c hc => ?_, confirmEnd_event _, regsBut_trans (regsBut_mono hblown (by decide)) (regsBut_mono hend (by decide)), hchg⟩
  obtain ⟨hfmt, hconfirmed⟩ := confirmEnd_settings hc
  rw [hplat] at hfmt
  exact ⟨hfmt, hconfirmed⟩

end Sys2Proof.Proofs
end

section
/-!
Proofs of the family 10_glove: what the other operations of the Bonnet mailbox do (O53).
-/
namespace Sys2Proof.Proofs
set_option Elab.async false
open Sys2Proof.Machine Sys2Proof.Laws

/-! ### Grants (R411, R339) -/

theorem grantChanged_event (s : State) : (grantChanged s).pendBit 0x043 = true := raise_pendBit (by simp [eventAbsent])

theorem setGrant_grants (g : Nat) (x : Option Grant) (s : State) : mget (setGrant g x s).bnt.grants none g = x ∧
    ∀ j, j ≠ g → mget (setGrant g x s).bnt.grants none j = mget s.bnt.grants none j :=
  ⟨mget_mset_same .., fun _ hj => mget_mset_other _ _ _ _ hj⟩

/-- The table of grants once a grant has been set and reported. -/
theorem grantSet_grants (g : Nat) (x : Option Grant) (s : State) :
    mget (grantChanged (setGrant g x s)).bnt.grants none g = x ∧
    ∀ j, j ≠ g → mget (grantChanged (setGrant g x s)).bnt.grants none j = mget s.bnt.grants none j := by
  rw [(grantChanged_chg _).same .bnt (by decide)]
  exact setGrant_grants g x s

theorem grantSet_regsBut (g : Nat) (x : Option Grant) (s : State) : RegsBut [pendReg 0x043] s (grantChanged (setGrant g x s)) :=
  regsBut_trans (r := setGrant g x s) (regsBut_of_regs _ rfl) (regsBut_raise 0x043 _)

theorem grantSet_changes (g : Nat) (x : Option Grant) (s : State) :
    Changes [.regs, .out, .host, .bnt] s (grantChanged (setGrant g x s)) := by
  have hchg : Chg 524434 s (grantChanged (setGrant g x s)) := .after (grantChanged_chg ..) (.after (setGrant_chg ..) (.refl _ _))
  exact hchg.changes (by decide)

theorem obsGrant_grants {p : List Byte} {s : State} {g : Nat} (hfree : freeGrant s = some g) (hgood : grantBad p = false)
    (hnew : nonceUsed s (grantOf p).nonce = false) :
    obsGrant p s = (0, [], grantChanged (setGrant g (some (grantOf p)) s)) := by
  rw [obsGrant, hfree]
  exact if_neg (by simp [hgood, hnew])

theorem obsGrant_none {p : List Byte} {s : State}
    (h : freeGrant s = none ∨ grantBad p = true ∨ nonceUsed s (grantOf p).nonce = true) : obsGrant p s = (12, [], s) := by
  unfold obsGrant
  split
  · rfl
  · next g hfree =>
    rw [hfree] at h
    exact if_pos (by simpa using h)

/-- The end of a TRACE grant disarms Larkspur; another grant's leaves it as it is. -/
def revokeStops (x : Grant) (s : State) : State := if x.kind = 2 then lksStop s else s

theorem obsRevoke_revokes {p : List Byte} {s : State} {x : Grant} (h : mget s.bnt.grants none (leAt p 0 1) = some x) :
    obsRevoke p s = (0, [], grantChanged (setGrant (leAt p 0 1) none (revokeStops x s))) := by
  rw [obsRevoke, h]
  rfl

theorem obsRevoke_none {p : List Byte} {s : State} (h : mget s.bnt.grants none (leAt p 0 1) = none) :
    obsRevoke p s = (12, [], s) := by
  rw [obsRevoke, h]

theorem lksDisarm_disarms (s : State) : (lksDisarm s).lks.armed = false := by
  unfold lksDisarm
  split
  · rfl
  · next h => exact Bool.eq_false_iff.mpr h

theorem lksStop_disarms (s : State) : (lksStop s).lks.armed = false := by
  unfold lksStop
  split
  · exact lksDisarm_disarms s
  · next h => exact Bool.eq_false_iff.mpr h

theorem revokeStops_chg (x : Grant) (s : State) : Chg 8388754 s (revokeStops x s) :=
  .ite (.after (lksStop_chg ..) (.refl _ _)) (.refl _ _)

theorem revokeStops_lks (x : Grant) (s : State) : (x.kind = 2 → (revokeStops x s).lks.armed = false) ∧
    (x.kind ≠ 2 → (revokeStops x s).lks = s.lks) := by
  refine ⟨fun h => ?_, fun h => ?_⟩
  · rw [revokeStops, if_pos h]
    exact lksStop_disarms s
  · rw [revokeStops, if_neg h]

/-- What the end of a grant leaves. -/
theorem revoked_effect (g : Nat) (x : Grant) (s : State) :
    mget (grantChanged (setGrant g none (revokeStops x s))).bnt.grants none g = none ∧
    (∀ j, j ≠ g → mget (grantChanged (setGrant g none (revokeStops x s))).bnt.grants none j = mget s.bnt.grants none j) ∧
    (x.kind = 2 → (grantChanged (setGrant g none (revokeStops x s))).lks.armed = false) ∧
    (x.kind ≠ 2 → (grantChanged (setGrant g none (revokeStops x s))).lks = s.lks) ∧
    (grantChanged (setGrant g none (revokeStops x s))).pendBit 0x043 = true ∧
    Changes [.regs, .out, .host, .bnt, .lks] s (grantChanged (setGrant g none (revokeStops x s))) := by
  have hchg : Chg 8913042 s (grantChanged (setGrant g none (revokeStops x s))) :=
    .after (grantChanged_chg ..) (.after (setGrant_chg ..) (.after (revokeStops_chg x s) (.refl _ _)))
  obtain ⟨hgone, hothers⟩ := grantSet_grants g none (revokeStops x s)
  rw [(revokeStops_chg x s).same .bnt (by decide)] at hothers
  refine ⟨hgone, hothers, ?_, ?_, grantChanged_event _, hchg.changes (by decide)⟩ <;>
    rw [(grantChanged_chg _).same .lks (by decide)]
  · exact (revokeStops_lks x s).1
  · exact (revokeStops_lks x s).2

/-! ### Debug unlock (R414) -/

/-- An unlock is noted, with whether an image is installed. -/
def unlockNoted (s : State) : State := { s with bnt := { s.bnt with debugUnlock := true, debugNoImage := !s.img.valid } }

theorem debugUnlock_eq (p : List Byte) (s : State) : debugUnlock p s = (0, [], raise 0x044 (unlockNoted s)) := rfl

/-- What an unlock leaves. -/
theorem debugUnlock_effect (s : State) : (raise 0x044 (unlockNoted s)).bnt.debugUnlock = true ∧
    (raise 0x044 (unlockNoted s)).bnt.debugNoImage = (!s.img.valid) ∧ (raise 0x044 (unlockNoted s)).pendBit 0x044 = true ∧
    RegsBut [pendReg 0x044] s (raise 0x044 (unlockNoted s)) ∧ Changes [.regs, .out, .host, .bnt] s (raise 0x044 (unlockNoted s)) := by
  have hbnt : (raise 0x044 (unlockNoted s)).bnt = (unlockNoted s).bnt := (raise_chg ..).same .bnt (by decide)
  rw [hbnt]
  exact ⟨rfl, rfl, raise_pendBit (by simp [eventAbsent]),
    regsBut_trans (r := unlockNoted s) (regsBut_of_regs _ rfl) (regsBut_raise 0x044 _), (debugUnlock_chg [] s).changes (by decide)⟩

/-- What the end of an unlock leaves. -/
theorem endUnlock_effect (s : State) : (endUnlock s).bnt.debugUnlock = false ∧ (endUnlock s).host.jtag ≠ .dbgGate ∧
    (s.host.jtag ≠ .dbgGate → (endUnlock s).host = s.host) ∧ Changes [.host, .bnt] s (endUnlock s) := by
  refine ⟨rfl, ?_, fun h => ?_, (endUnlock_chg s).changes (by decide)⟩
  · show (if s.host.jtag = .dbgGate then _ else s.host.jtag) ≠ _
    split
    · exact nofun
    · next h => exact h
  · rw [endUnlock, if_neg h]

/-! ### REGION_RECONFIG (R298) -/

section
variable {p : List Byte} {s : State}

theorem regionReconfig_begins (hidle : s.glv.load = none) (hmask : leAt p 12 1 < 16) : regionReconfig p s =
    (0, [], loadBegin .host (BitVec.ofNat 4 (leAt p 12 1)) (leAt p 8 4) s) := by
  rw [regionReconfig, lowestStatus_two (by decide) (by decide), hidle, Option.isSome_none, if_neg Bool.false_ne_true,
    if_neg (by simpa using hmask), answer_ok]

theorem regionReconfig_busy (h : s.glv.load ≠ none) : regionReconfig p s = (9, [], s) := by
  rw [regionReconfig, lowestStatus_two (by decide) (by decide), if_pos (Option.isSome_iff_ne_none.mpr h), answer_failed (by decide)]

theorem regionReconfig_range (hidle : s.glv.load = none) (hmask : 16 ≤ leAt p 12 1) : regionReconfig p s = (12, [], s) := by
  rw [regionReconfig, lowestStatus_two (by decide) (by decide), hidle, Option.isSome_none, if_neg Bool.false_ne_true,
    if_pos (decide_eq_true hmask), answer_failed (by decide)]

end

/-! ### REG_WRITE (R409, R391) -/

theorem regEntry_down {p : List Byte} {acc : List Byte × State} (i : Nat) (h : acc.2.up = false) : regEntry p acc i = acc :=
  if_pos (by simp [h])

theorem regEntry_up {p : List Byte} {acc : List Byte × State} (i : Nat) (h : acc.2.up = true) : regEntry p acc i =
    (acc.1 ++ [if entryLocked acc.2 (leAt p (12 * i) 4) (entryValue acc.2 (leAt p (12 * i) 4)
        (w32 (leAt p (12 * i + 4) 4)) (w32 (leAt p (12 * i + 8) 4))) then 4 else 0],
      barWrite .bonnet (leAt p (12 * i) 4) (entryValue acc.2 (leAt p (12 * i) 4)
        (w32 (leAt p (12 * i + 4) 4)) (w32 (leAt p (12 * i + 8) 4))) acc.2) :=
  if_neg (by simp [h])

theorem regEntries_down {p : List Byte} {acc : List Byte × State} (l : List Nat) (h : acc.2.up = false) :
    l.foldl (regEntry p) acc = acc := by
  induction l with
  | nil => rfl
  | cons i l ih => rw [List.foldl_cons, regEntry_down i h, ih]

/-- While the module is in service every entry gives its code. -/
theorem regEntries_length {p : List Byte} {acc : List Byte × State} (l : List Nat) (h : (l.foldl (regEntry p) acc).2.up = true) :
    (l.foldl (regEntry p) acc).1.length = acc.1.length + l.length := by
  induction l generalizing acc with
  | nil => rfl
  | cons i l ih =>
    cases hup : acc.2.up with
    | false =>
      rw [regEntries_down _ hup, hup] at h
      cases h
    | true =>
      rw [List.foldl_cons] at h ⊢
      rw [ih h, regEntry_up i hup, List.length_append, List.length_singleton, List.length_cons]
      omega

/-! ### ATTEST, GET_CERT and READBACK (R401, R413, R416) -/

theorem length_leBytes (n x : Nat) : (leBytes n x).length = n := by simp [leBytes]

theorem length_beBytes (n x : Nat) : (beBytes n x).length = n := by rw [beBytes, List.length_reverse, length_leBytes]

theorem length_sha384Bytes (msg : List Byte) : (sha384Bytes msg).length = 48 := by
  unfold sha384Bytes
  dsimp only
  generalize shaBlocks shaA64 (msg.length + 1) sha384Init (msg ++ shaPad 64 msg.length) = r
  simp [length_beBytes]

theorem length_ecdsaSign (d : BitVec 384) (k : Nat) (msg : List Byte) : (ecdsaSign d k msg).length = 96 := by
  unfold ecdsaSign
  dsimp only
  rw [List.length_append, length_beBytes, length_beBytes]

theorem length_payload (r : Request) : (payload r).length = min 1760 (reqLen r) := by simp [payload, reqBytes]

/-- The bytes of a report before its challenge: the magic, the part, and the fused versions. -/
def reportHead (s : State) : List Byte :=
  [0x41, 0x54, 0x53, 0x54, 1, 0] ++ leBytes 2 s.part ++ leBytes 1 s.ident.stepping.toNat ++ [s.ident.vendorRev] ++
    leBytes 1 (fuseFw s) ++ leBytes 1 (fusePkg s) ++ leBytes 4 0

/-- A digest of the image, or zeros without one. -/
def imageDigest (s : State) (d : BitVec 384) : List Byte := if s.img.valid then beBytes 48 d.toNat else beBytes 48 0

/-- The bytes of a report after its challenge. -/
def reportTail (s : State) : List Byte :=
  sha384Bytes (identityKey s.ident) ++ beBytes 48 s.plat.fwDigest.toNat ++ beBytes 48 s.plat.digest.toNat ++
    imageDigest s s.img.digest ++ imageDigest s s.img.bodyDigest ++
    leBytes 8 s.sch.committed.toNat ++ leBytes 1 (ownWord s % 16) ++ leBytes 1 s.own.gen.toNat ++
    leBytes 1 (b2n s.bnt.debugUnlock) ++ leBytes 1 (grantCount s) ++ leBytes 4 0 ++
    (List.range 4).flatMap (fun k => leBytes 8 (slotCtr s k))

theorem reportBody_eq (p : List Byte) (s : State) : reportBody p s = reportHead s ++ (p ++ reportTail s) := by
  unfold reportBody reportHead reportTail imageDigest
  simp only [List.append_assoc]

theorem length_reportHead (s : State) : (reportHead s).length = 16 := by simp [reportHead, length_leBytes]

theorem length_reportTail (s : State) : (reportTail s).length = 288 := by
  have hdigest (d : BitVec 384) : (imageDigest s d).length = 48 := by
    unfold imageDigest
    split <;> exact length_beBytes ..
  simp [reportTail, length_leBytes, length_beBytes, length_sha384Bytes, hdigest]

theorem reportBody_layout {p : List Byte} (s : State) (h : p.length = 32) :
    (reportBody p s).length = 0x150 ∧ ((reportBody p s).drop 16).take 32 = p := by
  rw [reportBody_eq]
  refine ⟨by rw [List.length_append, List.length_append, length_reportHead, length_reportTail, h], ?_⟩
  rw [List.drop_left' (length_reportHead s), List.take_left' h]

/-- The secret number of a signature is one that the scheme allows. -/
theorem signSecret_range (x : Nat) : 0 < x % (n384 - 1) + 1 ∧ x % (n384 - 1) + 1 < n384 := by
  have hlt : x % (n384 - 1) < n384 - 1 := Nat.mod_lt _ (by decide)
  omega

theorem getCert_gives {p : List Byte} (s : State) (h : leAt p 0 1 ≤ 2) :
    getCert p s = (0, (Config.certificate (leAt p 0 1)).take 2048, s) := if_neg (Nat.not_lt.mpr h)

theorem getCert_none {p : List Byte} (s : State) (h : 2 < leAt p 0 1) : getCert p s = (12, [], s) := if_pos h

/-- The data of a READBACK. -/
def readbackData (p : List Byte) (s : State) : List Byte :=
  (List.range (leAt p 6 2)).flatMap (fun i => readbackUnit s (leAt p 1 1) (leAt p 4 2 + i))

/-- The words of a READBACK's header. -/
def readbackWords (p : List Byte) (x : Grant) (s : State) : List Byte :=
  leBytes 8 s.sch.committed.toNat ++ (beBytes 48 s.img.digest.toNat).take 8 ++
    leBytes 4 (Config.readbackFields (leAt p 1 1) (leAt p 4 2) (leAt p 6 2)).toNat ++
    leBytes 4 (readbackData p s).length ++ leBytes 8 x.s

/-- The header of a READBACK: its words, filled up with zeros. -/
def readbackHdr (p : List Byte) (x : Grant) (s : State) : List Byte :=
  readbackWords p x s ++ leBytes (64 - (readbackWords p x s).length) 0

/-- A READBACK counts its grant's sequence number, and its data leaves. -/
def readbackSent (p : List Byte) (x : Grant) (s : State) : State :=
  (setGrant (leAt p 0 1) (some { x with s := x.s + 1 }) s).emit (.hostWrite (leAt p 12 8) (readbackHdr p x s ++
    gcmSeal (grantKey s labelRead x) (leBytes 4 0 ++ beBytes 8 x.s) (readbackHdr p x s) (readbackData p s)))

section
variable {p : List Byte} {s : State}

theorem readback_sends {x : Grant} (hgrant : readGrant s (leAt p 0 1) = some x) (hok : readbackStatus p s = 0) :
    readback p s = (0, [], readbackSent p x s) := by
  rw [readback, hgrant]
  exact if_neg (not_not_intro hok)

theorem readback_failed (hst : readbackStatus p s ≠ 0) : (readback p s).1 = readbackStatus p s := by
  unfold readback
  split
  · exact congrArg Prod.fst (if_pos hst)
  · rfl

theorem lowestStatus_failed (a b : Bool) : lowestStatus [(a, 9), (true, 4), (b, 12)] ≠ 0 := by
  cases a <;> cases b <;> decide

/-- A READBACK that passes its checks names a grant. -/
theorem readbackStatus_grant (h : readbackStatus p s = 0) : ∃ x, readGrant s (leAt p 0 1) = some x := by
  cases hgrant : readGrant s (leAt p 0 1) with
  | some x => exact ⟨x, rfl⟩
  | none =>
    rw [readbackStatus, hgrant] at h
    exact absurd h (lowestStatus_failed _ _)

theorem length_readbackWords (x : Grant) : (readbackWords p x s).length = 32 := by
  simp [readbackWords, length_leBytes, length_beBytes]

theorem readbackHdr_layout (x : Grant) : (readbackHdr p x s).length = 64 ∧
    (readbackHdr p x s).take 8 = leBytes 8 s.sch.committed.toNat ∧ ((readbackHdr p x s).drop 24).take 8 = leBytes 8 x.s := by
  refine ⟨by rw [readbackHdr, List.length_append, length_leBytes, length_readbackWords], ?_, ?_⟩
  · simp only [readbackHdr, readbackWords, List.append_assoc]
    exact List.take_left' (length_leBytes ..)
  · rw [readbackHdr, readbackWords, List.append_assoc, List.drop_left' (by simp [length_leBytes, length_beBytes])]
    exact List.take_left' (length_leBytes ..)

theorem readbackSent_effect (x : Grant) : mget (readbackSent p x s).bnt.grants none (leAt p 0 1) = some { x with s := x.s + 1 } ∧
    (∀ j, j ≠ leAt p 0 1 → mget (readbackSent p x s).bnt.grants none j = mget s.bnt.grants none j) ∧
    Changes [.out, .bnt] s (readbackSent p x s) := by
  have hchg : Chg 524304 s (readbackSent p x s) := .after (State_emit_chg ..) (.after (setGrant_chg ..) (.refl _ _))
  have hbnt : (readbackSent p x s).bnt = (setGrant (leAt p 0 1) (some { x with s := x.s + 1 }) s).bnt := rfl
  obtain ⟨hthis, hothers⟩ := setGrant_grants (leAt p 0 1) (some { x with s := x.s + 1 }) s
  rw [hbnt]
  exact ⟨hthis, hothers, hchg.changes (by decide)⟩

end

end Sys2Proof.Proofs
end

section
/-!
Proofs of the family 10_glove: what the operations of the Bonnet mailbox do (O53).
-/
namespace Sys2Proof.Proofs
set_option Elab.async false
open Sys2Proof.Machine Sys2Proof.Laws

section
variable {c : Instr} {e : Nat × List Byte × State} {s u v : State}
  (hrun : exec c s = .next (bntUnknown 2 (bntEnded e v)))
include hrun

/-- A request that succeeds ends with its response and its effect. -/
theorem request_ok {resp : List Byte} (he : e = (0, resp, u)) : exec c s = .next (bntUnknown 2 (bntEnd 0 resp u)) := by
  rw [hrun, he, bntEnded_ok]

/-- A request of which a condition of EXECUTE fails ends with its status. -/
theorem request_failed {st : Nat} (he : e.1 = st) (hst : st ≠ 0) : exec c s = .next (bntUnknown 2 (bntEnd st [] v)) := by
  rw [hrun, bntEnded, he, if_neg hst]

end

section
variable {r : Request} {rest : List Request} {p : List Byte} {s v : State} (hup : s.up = true) (hreqs : s.bnt.reqs = r :: rest)
  (hp : p = payload r) (hv : v = setCtr (reqSlot r) (reqCounter r) s)
include hup hreqs hp hv

/-! ### The operations that a slot authenticates -/

theorem handover_answers {m : Master} (hready : bntReady .handover r s) (hm : m = masterOf (leAt p 0 1)) :
    (m ∈ ranking s → pathPresent s m = true →
      exec .handover s = .next (bntUnknown 2 (bntEnd 0 [] (own m (claimsEnded v))))) ∧
    (m ∉ ranking s ∨ pathPresent s m = false → exec .handover s = .next (bntUnknown 2 (bntEnd 12 [] v))) := by
  have hslot := bntReady_slot (op := 1) rfl hready rfl
  have hrun := exec_authed (op := 1) handover rfl rfl hup hreqs hready rfl hv
  subst hp
  rw [← ranking_setCtr (n := reqCounter r) hslot s, ← pathPresent_setCtr (n := reqCounter r) hslot s m, ← hv]
  exact ⟨fun hranked hpath => request_ok hrun (handover_to hm hranked hpath),
    fun h => request_failed hrun (congrArg Prod.fst (handover_none hm h)) (by decide)⟩

theorem keyLoad_answers {k : Nat} (hready : bntReady .keyLoad r s) (hk : k = leAt p 0 1) :
    (∀ key, k < 3 → unwrapKey s.ident k p = some key → exec .keyLoad s =
      .next (bntUnknown 2 (bntEnd 0 [] (keySet k key v)))) ∧
    (unwrapKey s.ident k p = none → exec .keyLoad s = .next (bntUnknown 2 (bntEnd 1 [] v))) ∧
    (3 ≤ k → unwrapKey s.ident k p ≠ none → exec .keyLoad s = .next (bntUnknown 2 (bntEnd 12 [] v))) := by
  have hrun := exec_authed (op := 2) keyLoad rfl rfl hup hreqs hready rfl hv
  have hident : s.ident = v.ident := by rw [hv, setCtr_ident]
  subst hp
  rw [hident]
  exact ⟨fun key hlt hkey => request_ok hrun (keyLoad_loads hk hlt hkey),
    fun hkey => request_failed hrun (congrArg Prod.fst (keyLoad_untagged hk hkey)) (by decide),
    fun hlt hkey => request_failed hrun (congrArg Prod.fst (keyLoad_noSlot hk hlt hkey)) (by decide)⟩

theorem fwNextStart_answers {st : Nat} (hready : bntReady .fwActivateNextStart r s) (hst : st = fwChecks p [(1 < leAt p 1 1, 12)] s) :
    (st = 0 → exec .fwActivateNextStart s = .next (bntUnknown 2 (bntEnd 0 []
      (setTrial (if leAt p 1 1 = 0 then .slot (inactiveSlot s) else .staging) v)))) ∧
    (st ≠ 0 → exec .fwActivateNextStart s = .next (bntUnknown 2 (bntEnd st [] v))) := by
  have hslot := bntReady_slot (op := 3) rfl hready rfl
  have hrun := exec_authed (op := 3) fwNextStart rfl rfl hup hreqs hready rfl hv
  have hinactive : inactiveSlot s = inactiveSlot v := by rw [hv, inactiveSlot, inactiveSlot, setCtr_boot]
  rw [← fwChecks_setCtr (n := reqCounter r) hslot, ← hv, hp] at hst
  rw [hinactive, hp]
  refine ⟨fun h => request_ok hrun ?_, fun h => request_failed hrun ?_ h⟩
  · rw [fwNextStart, ← hst, h, answer_ok]
  · rw [fwNextStart, ← hst, answer_failed h]

theorem fwLive_answers {st : Nat} (hready : bntReady .fwActivateLive r s)
    (hst : st = fwChecks p [(leAt p 1 1 != 0, 9), (hdrFwClass (inactiveHeader s) != s.plat.fwClass, 12)] s) :
    (st = 0 → exec .fwActivateLive s = .next (bntUnknown 2 (bntEnd 0 []
      { v with boot := { v.boot with handover := true, liveHeader := inactiveHeader s } }))) ∧
    (st ≠ 0 → exec .fwActivateLive s = .next (bntUnknown 2 (bntEnd st [] v))) := by
  have hslot := bntReady_slot (op := 3) rfl hready rfl
  have hrun := exec_authed (op := 3) fwLive rfl rfl hup hreqs hready rfl hv
  have hheader : inactiveHeader s = inactiveHeader v := by rw [hv, inactiveHeader_setCtr]
  have hplat : s.plat = v.plat := by rw [hv, setCtr_plat]
  rw [← fwChecks_setCtr (n := reqCounter r) hslot, ← hv, hheader, hplat, hp] at hst
  rw [hheader]
  refine ⟨fun h => request_ok hrun ?_, fun h => request_failed hrun ?_ h⟩
  · rw [fwLive, ← hst, h, answer_ok]
  · rw [fwLive, ← hst, answer_failed h]

omit hp in
theorem fwConfirm_answers (hready : bntReady .fwActivateConfirm r s) :
    (s.boot.fwTrial = true → exec .fwActivateConfirm s = .next (bntUnknown 2 (bntEnd 0 [] (trialConfirmed v)))) ∧
    (s.boot.fwTrial = false → exec .fwActivateConfirm s = .next (bntUnknown 2 (bntEnd 9 [] v))) := by
  have hrun := exec_authed (op := 3) fwConfirm rfl rfl hup hreqs hready rfl hv
  have htrial : s.boot.fwTrial = v.boot.fwTrial := by rw [hv, setCtr_boot]
  rw [htrial]
  refine ⟨fun h => request_ok hrun ?_, fun h => request_failed hrun ?_ (by decide)⟩
  · rw [fwConfirm, h, if_pos rfl, answer_ok]
  · rw [fwConfirm, h, if_neg Bool.false_ne_true, answer_failed (by decide)]

omit hp in
theorem fwCancel_answers (hready : bntReady .fwActivateCancel r s) :
    (s.boot.mram.trial ≠ .none → s.boot.fwTrial = false → s.boot.handover = false →
      exec .fwActivateCancel s = .next (bntUnknown 2 (bntEnd 0 [] (setTrial .none v)))) ∧
    (s.boot.mram.trial = .none ∨ s.boot.fwTrial = true ∨ s.boot.handover = true →
      exec .fwActivateCancel s = .next (bntUnknown 2 (bntEnd 9 [] v))) := by
  have hrun := exec_authed (op := 3) fwCancel rfl rfl hup hreqs hready rfl hv
  have hboot : s.boot = v.boot := by rw [hv, setCtr_boot]
  rw [hboot]
  exact ⟨fun htrial hfw hhand => request_ok hrun (fwCancel_cancels htrial hfw hhand _),
    fun h => request_failed hrun (congrArg Prod.fst (fwCancel_none h _)) (by decide)⟩

theorem obsGrant_answers (hready : bntReady .obsGrant r s) :
    (∀ g, freeGrant s = some g → grantBad p = false → nonceUsed s (grantOf p).nonce = false →
      exec .obsGrant s = .next (bntUnknown 2 (bntEnd 0 [] (grantChanged (setGrant g (some (grantOf p)) v))))) ∧
    (freeGrant s = none ∨ grantBad p = true ∨ nonceUsed s (grantOf p).nonce = true →
      exec .obsGrant s = .next (bntUnknown 2 (bntEnd 12 [] v))) := by
  have hrun := exec_authed (op := 4) obsGrant rfl rfl hup hreqs hready rfl hv
  have hfree : freeGrant s = freeGrant v := by rw [hv, freeGrant, freeGrant, setCtr_bnt]
  have hused (n : BitVec 128) : nonceUsed s n = nonceUsed v n := by rw [hv, nonceUsed, nonceUsed, setCtr_bnt]
  subst hp
  rw [hfree, hused]
  exact ⟨fun g hg hgood hnew => request_ok hrun (obsGrant_grants hg hgood hnew),
    fun h => request_failed hrun (congrArg Prod.fst (obsGrant_none h)) (by decide)⟩

theorem obsRevoke_answers (hready : bntReady .obsRevoke r s) :
    (∀ x, mget s.bnt.grants none (leAt p 0 1) = some x → exec .obsRevoke s =
      .next (bntUnknown 2 (bntEnd 0 [] (grantChanged (setGrant (leAt p 0 1) none (revokeStops x v)))))) ∧
    (mget s.bnt.grants none (leAt p 0 1) = none → exec .obsRevoke s = .next (bntUnknown 2 (bntEnd 12 [] v))) := by
  have hrun := exec_authed (op := 5) obsRevoke rfl rfl hup hreqs hready rfl hv
  have hbnt : s.bnt = v.bnt := by rw [hv, setCtr_bnt]
  subst hp
  rw [hbnt]
  exact ⟨fun x hx => request_ok hrun (obsRevoke_revokes hx),
    fun h => request_failed hrun (congrArg Prod.fst (obsRevoke_none h)) (by decide)⟩

omit hp in
theorem debugUnlock_answers (hready : bntReady .debugUnlock r s) :
    exec .debugUnlock s = .next (bntUnknown 2 (bntEnd 0 [] (raise 0x044 (unlockNoted v)))) :=
  request_ok (exec_authed (op := 6) debugUnlock rfl rfl hup hreqs hready rfl hv) (debugUnlock_eq _ v)

theorem regionReconfig_answers (hready : bntReady .regionReconfig r s) :
    (s.glv.load = none → leAt p 12 1 < 16 → exec .regionReconfig s = .next (bntUnknown 2 (bntEnd 0 []
      (loadBegin .host (BitVec.ofNat 4 (leAt p 12 1)) (leAt p 8 4) v)))) ∧
    (s.glv.load ≠ none → exec .regionReconfig s = .next (bntUnknown 2 (bntEnd 9 [] v))) ∧
    (s.glv.load = none → 16 ≤ leAt p 12 1 → exec .regionReconfig s = .next (bntUnknown 2 (bntEnd 12 [] v))) := by
  have hrun := exec_authed (op := 7) regionReconfig rfl rfl hup hreqs hready rfl hv
  have hglv : s.glv = v.glv := by rw [hv, setCtr_glv]
  subst hp
  rw [hglv]
  exact ⟨fun hidle hmask => request_ok hrun (regionReconfig_begins hidle hmask),
    fun h => request_failed hrun (congrArg Prod.fst (regionReconfig_busy h)) (by decide),
    fun hidle hmask => request_failed hrun (congrArg Prod.fst (regionReconfig_range hidle hmask)) (by decide)⟩

omit hup hreqs hp in
/-- A load begins, or ends LOCKED where a region of its mask is locked. -/
theorem loadBegin_host (hready : bntReady .regionReconfig r s) (m : BitVec 4) (n : Nat) : loadBegin .host m n v =
    if lockedRegions s m then loadEnd 4 0 0 (loadAccepted .host m n v) else loadAccepted .host m n v := by
  have hlocked : lockedRegions v m = lockedRegions s m := by
    rw [hv]
    exact lockedRegions_setCtr (bntReady_slot (op := 7) rfl hready rfl) s m
  rw [← hlocked]
  rfl

theorem regWrite_answers (hready : bntReady .regWrite r s) : ∃ codes u,
    (codes, u) = (List.range (p.length / 12)).foldl (regEntry p) ([], v) ∧
    exec .regWrite s = .next (bntUnknown 2 (bntEnd 0 codes u)) ∧ (u.up = true → codes.length = p.length / 12) := by
  have hrun := exec_authed (op := 8) regWrite rfl rfl hup hreqs hready rfl hv
  subst hp
  refine ⟨_, _, Prod.mk.eta, request_ok hrun rfl, fun h => ?_⟩
  rw [regEntries_length _ h, List.length_range]
  exact Nat.zero_add _

/-! ### The operations of any path -/

omit hp hv in
theorem debugLock_answers (hready : bntReady .debugLock r s) :
    exec .debugLock s = .next (bntUnknown 2 (bntEnd 0 [] (endUnlock s))) :=
  request_ok (exec_open (op := 0x13) (fun _ s => (0, [], endUnlock s)) rfl rfl hup hreqs hready rfl) rfl

omit hv in
theorem attest_answers (hready : bntReady .attest r s) : ∃ k sig, 0 < k ∧ k < n384 ∧
    sig = ecdsaSign s.ident.identKey k (reportBody p s) ∧
    exec .attest s = .next (bntUnknown 2 (bntEnd 0 (reportBody p s ++ sig) s.tick1)) ∧
    (reportBody p s).length = 0x150 ∧ sig.length = 96 ∧ ((reportBody p s).drop 16).take 32 = p := by
  have hrun := exec_open (op := 0x10) attest rfl rfl hup hreqs hready rfl
  have hlength : reqLen r = 32 := by simpa [opForm] using bntReady_length (op := 0x10) rfl hready
  have hchallenge : p.length = 32 := by rw [hp, length_payload, hlength]; rfl
  obtain ⟨hpos, hlt⟩ := signSecret_range (Config.signNonce s.freeCtr)
  obtain ⟨hbody, hecho⟩ := reportBody_layout s hchallenge
  rw [← hp] at hrun
  exact ⟨_, _, hpos, hlt, rfl, request_ok hrun rfl, hbody, length_ecdsaSign .., hecho⟩

omit hv in
theorem getCert_answers (hready : bntReady .getCert r s) :
    (leAt p 0 1 ≤ 2 → exec .getCert s =
      .next (bntUnknown 2 (bntEnd 0 ((Config.certificate (leAt p 0 1)).take 2048) s))) ∧
    (2 < leAt p 0 1 → exec .getCert s = .next (bntUnknown 2 (bntEnd 12 [] s))) := by
  have hrun := exec_open (op := 0x11) getCert rfl rfl hup hreqs hready rfl
  subst hp
  exact ⟨fun h => request_ok hrun (getCert_gives s h),
    fun h => request_failed hrun (congrArg Prod.fst (getCert_none s h)) (by decide)⟩

omit hv in
theorem readback_answers (hready : bntReady .readback r s) :
    (readbackStatus p s = 0 → ∃ x, readGrant s (leAt p 0 1) = some x ∧
      exec .readback s = .next (bntUnknown 2 (bntEnd 0 [] (readbackSent p x s)))) ∧
    (readbackStatus p s ≠ 0 → exec .readback s = .next (bntUnknown 2 (bntEnd (readbackStatus p s) [] s))) := by
  have hrun := exec_open (op := 0x12) readback rfl rfl hup hreqs hready rfl
  subst hp
  refine ⟨fun h => ?_, fun h => request_failed hrun (readback_failed h) h⟩
  obtain ⟨x, hx⟩ := readbackStatus_grant h
  exact ⟨x, hx, request_ok hrun (readback_sends hx h)⟩

end

/-- Settles O53: a request that passes its checks is executed in the state in which its counter has been written (`exec_authed`), and
the conditions of EXECUTE do not look at the counters. RESOURCE for a SOURCE above 1 is log 159; BUSY for LIVE from the staging area,
the fields of a grant, the header of a READBACK and the cut of a certificate are logs 66, 67, 70 and 71. -/
theorem bonnetCommandsAct : Obligations.BonnetCommandsAct := by
  unfold Obligations.BonnetCommandsAct
  refine ⟨fun k v s _ hv => ⟨slotCtr_setCtr k s hv, setCtr_regsBut k v s, setCtr_changes k v s⟩,
    fun r rest p s v hup hreqs hp hv => ⟨fun hready m hm => ?handover, fun hready k hk => ?key, fun hready st hst => ?next,
      fun hready st hst => fwLive_answers hup hreqs hp hv hready hst, fun hready => ?confirm, fun hready => ?cancel⟩,
    fun r rest p s v hup hreqs hp hv => ⟨fun hready => ?grant, fun hready => ?revoke, fun hready => ?unlock, fun hready => ?lock,
      fun hready => ?reconfig, regWrite_answers hup hreqs hp hv, attest_answers hup hreqs hp, getCert_answers hup hreqs hp,
      fun hready => ?readback⟩,
    fun p codes i off val s hup hoff hval => ?entry⟩
  case handover =>
    obtain ⟨hto, hnone⟩ := handover_answers hup hreqs hp hv hready hm
    refine ⟨fun hranked hpath => ⟨_, hto hranked hpath, ?_⟩, hnone⟩
    have hsome : m ≠ .none := fun h => by rw [h, pathPresent_none] at hpath; cases hpath
    have hown : s.own = v.own := by rw [hv, setCtr_own]
    rw [hown]
    exact handedOver m v hsome
  case key =>
    obtain ⟨hloads, huntagged, hnoSlot⟩ := keyLoad_answers hup hreqs hp hv hready hk
    have hbnt : s.bnt = v.bnt := by rw [hv, setCtr_bnt]
    refine ⟨fun key hlt hkey => ⟨_, hloads key hlt hkey, ?_⟩, huntagged, hnoSlot⟩
    obtain ⟨hthis, hothers⟩ := keySet_keys k v key
    rw [hbnt]
    exact ⟨hthis, hothers, keySet_changes k v key⟩
  case next =>
    obtain ⟨hok, hfailed⟩ := fwNextStart_answers hup hreqs hp hv hready hst
    exact ⟨fun h => ⟨_, hok h, setTrial_trial .., setTrial_changes _ _⟩, hfailed⟩
  case confirm =>
    obtain ⟨hok, hfailed⟩ := fwConfirm_answers hup hreqs hv hready
    refine ⟨fun h => ⟨_, hok h, ?_⟩, hfailed⟩
    obtain ⟨hfw, hpkg⟩ := fuse_setCtr (n := reqCounter r) (bntReady_slot (op := 3) rfl hready rfl) s
    have heffect := trialConfirmed_effect (s := v) (by rw [hv, setCtr_boot]; exact h)
    rw [← hfw, ← hpkg, ← inactiveHeader_setCtr (reqSlot r) (reqCounter r) s, ← hv]
    have hinactive : inactiveSlot s = inactiveSlot v := by rw [hv, inactiveSlot, inactiveSlot, setCtr_boot]
    have hplat : s.plat = v.plat := by rw [hv, setCtr_plat]
    rw [hinactive, hplat]
    exact heffect
  case cancel =>
    obtain ⟨hok, hfailed⟩ := fwCancel_answers hup hreqs hv hready
    exact ⟨fun htrial hfw hhand => ⟨_, hok htrial hfw hhand, setTrial_trial .., setTrial_changes _ _⟩, hfailed⟩
  case grant =>
    obtain ⟨hok, hfailed⟩ := obsGrant_answers hup hreqs hp hv hready
    refine ⟨fun g hfree hgood hnew => ⟨_, hok g hfree hgood hnew, ?_⟩, hfailed⟩
    obtain ⟨hthis, hothers⟩ := grantSet_grants g (some (grantOf p)) v
    have hbnt : v.bnt = s.bnt := by rw [hv, setCtr_bnt]
    rw [hbnt] at hothers
    exact ⟨hthis, hothers, grantChanged_event _, grantSet_regsBut _ _ _, grantSet_changes _ _ _⟩
  case revoke =>
    obtain ⟨hok, hfailed⟩ := obsRevoke_answers hup hreqs hp hv hready
    refine ⟨fun x hx => ⟨_, hok x hx, ?_⟩, hfailed⟩
    have hbnt : s.bnt = v.bnt := by rw [hv, setCtr_bnt]
    have hlks : s.lks = v.lks := by rw [hv, setCtr_lks]
    rw [hbnt, hlks]
    exact revoked_effect _ x v
  case unlock =>
    have himg : s.img = v.img := by rw [hv, setCtr_img]
    rw [himg]
    exact ⟨_, debugUnlock_answers hup hreqs hv hready, debugUnlock_effect v⟩
  case lock => exact ⟨_, debugLock_answers hup hreqs hready, endUnlock_effect s⟩
  case reconfig =>
    obtain ⟨hok, hbusy, hrange⟩ := regionReconfig_answers hup hreqs hp hv hready
    refine ⟨fun m l hm hl hidle hmask => ?_, hbusy, hrange⟩
    rw [hok hidle hmask, loadBegin_host hv hready, ← hm, ← hl]
  case readback =>
    obtain ⟨hok, hfailed⟩ := readback_answers hup hreqs hp hready
    refine ⟨fun h => ?_, hfailed⟩
    obtain ⟨x, hx, hexec⟩ := hok h
    obtain ⟨hlength, hcycle, hseq⟩ := readbackHdr_layout (p := p) (s := s) x
    exact ⟨x, _, _, hx, hexec, rfl, hlength, hcycle, hseq, readbackSent_effect x⟩
  case entry =>
    subst hoff hval
    exact regEntry_up i hup

end Sys2Proof.Proofs
end
